-- ==== Sys2Proof/Word.lean ====
section
/-! DEFINITION. Word.lean: the register word and the byte (R13, R14), and nothing else. -/

namespace Sys2Proof

/-- A register of the control space is 32 bits wide (R14, 00_scope.md). -/
abbrev Word := BitVec 32

/-- The byte of the memories and of the wire formats (R13, 00_scope.md). -/
abbrev Byte := BitVec 8

end Sys2Proof
end

