-- ==== Sys2Proof/Syntax.lean ====
section
/-! DEFINITION. Syntax.lean: the payloads commands carry and the commands themselves, one constructor a row of the table
of operations and events. -/

namespace Sys2Proof

/-- The two command paths of the control protocol (R339, 13_control_protocol.md). -/
inductive Path where
  | ul | spi
  deriving DecidableEq, Repr

/-- Who makes a register access: an SCP command over a path with its source, a DMA channel, or the boot sequence (R28,
R351, R417). -/
inductive Src where
  | scp (p : Path) (key : List Byte)
  | dma (ch : Nat)
  | boot
  deriving DecidableEq, Repr

/-- The receive equalizer set of a lane, as the register images of LN_RXEQ, LN_FFE0-2 and LN_DFE (R55, R58). -/
structure LaneSet where
  rxeq : Word
  ffe0 : Word
  ffe1 : Word
  ffe2 : Word
  dfe  : Word
  deriving DecidableEq, Repr

/-- What a physical lane of a block receives: its number and the level indices, in order (R45, R64). -/
structure LaneLevels where
  lane   : Nat
  levels : List Nat
  deriving DecidableEq, Repr

/-- A unit by its number, with the memory words or table entries it may meet that have come to hold an error by then (true for
two bits) (R131, R446, R470). -/
structure UnitFlips where
  unit  : Nat
  flips : List (Nat × Bool)
  deriving DecidableEq, Repr

/-- A received DrauxLink packet: its bytes from TYPE to CRC, whether any of its blocks was errored and whether its
framing held (R83, R84, R87). -/
structure RxPkt where
  bytes   : List Byte
  errored : Bool
  framed  : Bool
  deriving DecidableEq, Repr

/-- A frame received on the uplink, from its destination address up to but not with its FCS, and whether the FCS was
valid (R299). -/
structure UlFrame where
  bytes : List Byte
  fcsOk : Bool
  deriving DecidableEq, Repr

/-- How a frame reached the uplink (R298, R299): its MAC addresses, its VLAN tags as TPID and tag control, outermost first, the
EtherType behind them, the IP addresses as bytes (none without IP) and UDP ports, whether it carries UDP, its length with its
FCS, and whether the FCS was valid. -/
structure NetHead where
  dst   : Nat
  src   : Nat
  tags  : List (Nat × Nat)
  etype : Nat
  dip   : List Byte
  sip   : List Byte
  udp   : Bool
  dport : Nat
  sport : Nat
  len   : Nat
  fcsOk : Bool
  deriving DecidableEq, Repr

/-- A received PTP message (R301): its frame, domain, source port identity, sequence number, two-step flag, correctionField
in units of 2^-16 ns, its time stamp in ns, the requesting port identity of an answer, the logarithm of the message interval it
announces, and the attributes of an Announce in the order in which the best time transmitter is selected. -/
structure PtpMsg where
  net     : NetHead
  domain  : Nat
  source  : Nat
  seq     : Nat
  twoStep : Bool
  corr    : Int
  ts      : Nat
  request : Nat
  log     : Int
  rank    : List Nat
  deriving DecidableEq, Repr

/-- An SCP command as it arrives (R339 to R341): its path, on the uplink the frame it came in, and its bytes. -/
structure ScpCmd where
  path  : Path
  net   : NetHead
  bytes : List Byte
  deriving DecidableEq, Repr

/-- The commands: one constructor a row of the table of operations and events, each under its rule. Where a
command is a register write with a row of its own, `src` is who writes and `v` the word written. -/
inductive Instr where
  /-- R16: A write to a register that has no row of its own, with range, state and bank checks. -/
  | registerWrite (src : Src) (a : Nat) (v : Word)
  /-- R16: A read of an RC field returns the value and then clears the field. -/
  | rcRegisterRead (src : Src) (a : Nat)
  /-- R340: An SCP command with a bad CRC, LEN or VER arrives and is discarded without a response. -/
  | scpBadCommand (m : ScpCmd)
  /-- R342: An SCP command with an unknown OP is rejected with status 0x01. -/
  | scpUnknownOpcode (m : ScpCmd)
  /-- R342: An SCP READ of a register, SRAM or DDR5 returns COUNT bytes. -/
  | scpRead (m : ScpCmd) (flips : List (Nat × Bool))
  /-- R344: An SCP WRITE of a register, SRAM or DDR5 is checked whole and performed. -/
  | scpWrite (m : ScpCmd) (flips : List (Nat × Bool))
  /-- R343: An SCP WRITE_MASK performs one atomic masked register write. -/
  | scpWriteMask (m : ScpCmd)
  /-- R342: An SCP PING returns a response carrying the current EPOCH. -/
  | scpPing (m : ScpCmd)
  /-- R353: An SCP SUBSCRIBE makes the command's source the event subscriber. -/
  | scpSubscribe (m : ScpCmd)
  /-- R350: An SCP AUTH verifies a signed token and opens or replaces a session on its path. -/
  | scpAuth (m : ScpCmd)
  /-- R351: An SCP DEAUTH ends the session on its path. -/
  | scpDeauth (m : ScpCmd)
  /-- R345: An SCP RESET requests the reset named by its domain code and sends its response first. -/
  | scpReset (m : ScpCmd)
  /-- R345: 10 µs after the RESET response leaves, the requested reset begins. -/
  | scpResetDelayExpiry (p : Path)
  /-- R351: An authorized session ends LIFE_MS after it opened. -/
  | sessionLifeExpiry (p : Path)
  /-- R349: A kept response for replay expires after 1 s. -/
  | scpReplayEntryExpiry (p : Path) (tag : Nat)
  /-- R353: An event packet with SUM and EVSEQ is formed and sent to the subscriber after a summary rise, respecting
  HOLDOFF_US. -/
  | eventPacketSend
  /-- R353: Every REPEAT_MS while the enabled summary stays non-zero an event packet is sent. -/
  | eventRepeatTimer
  /-- R48: A power-up request takes a head or pair lane from OFF to IDLE_DEEP. -/
  | lanePowerUp (n : Nat) (m : Nat)
  /-- R48: A training request takes an uplink lane from OFF to TRAIN. -/
  | laneTrainRequestUl (m : Nat)
  /-- R48: A wake request for training takes a lane from IDLE_DEEP to TRAIN. -/
  | laneWakeForTraining (n : Nat) (m : Nat)
  /-- R48: A wake request for data takes a lane from IDLE_DEEP to ACTIVE with re-equalization. -/
  | laneWakeForData (n : Nat) (m : Nat)
  /-- R48: A power-down request takes a lane to OFF. -/
  | lanePowerDown (n : Nat) (m : Nat)
  /-- R49: An exit request takes a lane from IDLE_FAST to ACTIVE through burst and alignment. -/
  | laneIdleFastExit (n : Nat) (m : Nat)
  /-- R48: An Idle-Deep request takes a lane from IDLE_FAST or ACTIVE to IDLE_DEEP. -/
  | laneIdleDeepRequest (n : Nat) (m : Nat)
  /-- R48: An Idle-Fast request takes a lane from ACTIVE to IDLE_FAST, holding coefficients. -/
  | laneIdleFastRequest (n : Nat) (m : Nat)
  /-- R48: Training completes and the lane enters ACTIVE with its set stored as last good. -/
  | laneTrainingComplete (n : Nat) (m : Nat) (x : LaneSet)
  /-- R48: Training is abandoned; a head lane goes to IDLE_DEEP and an uplink lane to OFF. -/
  | laneTrainingAbandoned (n : Nat) (m : Nat) (x : LaneSet)
  /-- R48: A retrain request takes a lane from ACTIVE to TRAIN. -/
  | laneRetrainRequest (n : Nat) (m : Nat)
  /-- R48: A write of LN_CTRL.TEST_EN = 1 takes a lane from OFF to TEST. -/
  | lnTestEnSet (src : Src) (n : Nat) (m : Nat) (v : Word)
  /-- R48: A write of LN_CTRL.TEST_EN = 0 takes a lane from TEST to OFF. -/
  | lnTestEnClear (src : Src) (n : Nat) (m : Nat) (v : Word)
  /-- R50: Signal detect crosses its presence or absence threshold. -/
  | laneSignalDetectChange (n : Nat) (m : Nat) (mv : Nat)
  /-- R51: Signal absent for more than 1 µs in ACTIVE sets LN_EVT.LOS and informs the link layer. -/
  | laneLos (n : Nat) (m : Nat)
  /-- R51: The CDR loses lock in ACTIVE and the lane reports it to the link layer. -/
  | laneCdrLol (n : Nat) (m : Nat)
  /-- R56: A 1,024-UI window ends and is judged busy or not. -/
  | adaptWindowEnd (n : Nat) (m : Nat) (edges : Nat) (x : LaneSet)
  /-- R58: A 1,024-window guard interval ends and is skipped or evaluated. -/
  | guardIntervalEnd (n : Nat) (m : Nat) (eye : Nat)
  /-- R60: Writing ADAPT_EN = 1 restarts adaptation and stores the current values as last good. -/
  | lnAdaptEnWrite (src : Src) (n : Nat) (m : Nat) (v : Word)
  /-- R67: A host write of LANE_MAP remaps logical to physical lanes while lanes are OFF or TEST. -/
  | laneMapWrite (src : Src) (n : Nat) (v : Word)
  /-- R43: A write of HPn LANE_RATE changes the port rate while every lane is OFF. -/
  | laneRateWrite (src : Src) (n : Nat) (v : Word)
  /-- R64: After 64 error-free bits the checker declares lock; `rx` is what a lane of the block received. -/
  | prbsCheckerLock (n : Nat) (rx : LaneLevels)
  /-- R64: 16 errors in 64 bits drop checker lock, set PRBS_LOL and reseed; the lane received the levels `before` up to there and `after` it. -/
  | prbsCheckerLoss (n : Nat) (m : Nat) (before : List Nat) (after : List Nat)
  /-- R64: A write of LN_PRBS_CTRL.CLR = 1 clears the compared and error counts. -/
  | prbsCountClear (src : Src) (n : Nat) (m : Nat) (v : Word)
  /-- R64: A read of an _LO count register latches the upper 16 bits into _HI; the lane received the levels `before` the read and
  `after` it. -/
  | prbsCountLoRead (src : Src) (n : Nat) (m : Nat) (bitsCount : Bool) (before : List Nat) (after : List Nat)
  /-- R65: LN_INJ MODE single inverts the next transmitted bit. -/
  | lnInjSingle (src : Src) (n : Nat) (m : Nat) (v : Word)
  /-- R65: LN_INJ MODE periodic starts injecting one error every (PERIOD+1)×256 bits. -/
  | lnInjPeriodic (src : Src) (n : Nat) (m : Nat) (v : Word)
  /-- R65: The periodic injection count expires and one bit is inverted. -/
  | lnInjPeriodicError (n : Nat) (m : Nat)
  /-- R65: LN_INJ MODE burst inverts BURST_LEN+1 consecutive bits. -/
  | lnInjBurst (src : Src) (n : Nat) (m : Nat) (v : Word)
  /-- R65: LN_INJ MODE written 00 stops periodic injection. -/
  | lnInjOff (src : Src) (n : Nat) (m : Nat) (v : Word)
  /-- R69: Spare conditioning falls due and runs on the unmapped lane as Fold 3 work. -/
  | spareCondDue (n : Nat)
  /-- R69: A conditioning run that does not lock within 1 ms fails. -/
  | spareCondLockTimeout (n : Nat)
  /-- R69: A conditioning run ends, records pass or fail and returns the lane to OFF. -/
  | spareCondRunComplete (n : Nat) (errs : Nat)
  /-- R69: 1 s after a failed run the run is repeated; a second failure sets UNUSABLE. -/
  | spareCondRetry (n : Nat)
  /-- R98: A training frame arrives and its control word is taken into frame lock and equalization. -/
  | trainingFrameRx (n : Nat) (m : Nat) (w : Word) (crc : Word)
  /-- R102: A write of HPn_LINK_CTRL.EN = 1 starts DETECT. -/
  | linkEnSet (src : Src) (n : Nat) (v : Word)
  /-- R102: A write of EN = 0 disables the link, draining from ACTIVE first. -/
  | linkEnClear (src : Src) (n : Nat) (v : Word)
  /-- R102: The drain ends on LAST or after 100 µs; ID_ENTER is sent and lanes go OFF. -/
  | linkDrainEnd (n : Nat)
  /-- R102: A write of RETRY_NOW = 1 ends the backoff in SEEKING at once. -/
  | linkRetryNow (src : Src) (n : Nat) (v : Word)
  /-- R106: IDLE_REQ = 0b01 takes an ACTIVE link into Idle-Fast. -/
  | linkIdleReqFast (src : Src) (n : Nat) (v : Word)
  /-- R106: IDLE_REQ = 0b10 takes an ACTIVE link into Idle-Deep. -/
  | linkIdleReqDeep (src : Src) (n : Nat) (v : Word)
  /-- R107: IDLE_REQ = 0b00 takes an idle link back to ACTIVE. -/
  | linkIdleReqActive (src : Src) (n : Nat) (v : Word)
  /-- R107: The head does not exit idle within its bound and the link goes to SEEKING. -/
  | linkIdleExitTimeout (n : Nat)
  /-- R102: Signal on all mapped lanes for 10 µs moves DETECT to WAKE. -/
  | linkDetectSignal (n : Nat)
  /-- R102: 10 ms in DETECT moves the link to SEEKING. -/
  | linkDetectTimeout (n : Nat)
  /-- R102: 2 ms in WAKE moves the link to SEEKING. -/
  | linkWakeTimeout (n : Nat)
  /-- R102: 50 ms in EQUALIZE moves the link to SEEKING. -/
  | linkEqualizeTimeout (n : Nat)
  /-- R102: 10 ms in ALIGN moves the link to SEEKING. -/
  | linkAlignTimeout (n : Nat)
  /-- R102: 20 ms in CONFIGURE moves the link to SEEKING. -/
  | linkConfigureTimeout (n : Nat)
  /-- R95: No valid HB for 350 µs takes the link out of ACTIVE to SEEKING. -/
  | linkHbTimeout (n : Nat)
  /-- R102: Signal absent on all mapped lanes for over 1 µs moves the link to SEEKING. -/
  | linkUnplug (n : Nat)
  /-- R103: The SEEKING backoff expires and a new DETECT attempt starts. -/
  | linkBackoffExpiry (n : Nat)
  /-- R79: An RS(544,514) codeword, the level indices of its 2,720 symbols, is decoded, corrected or marked errored. -/
  | codewordRx (n : Nat) (k : Nat) (onNew : Bool) (sym : List Nat)
  /-- R79: An AM position is reached on a lane: lock, skew and loss are judged. -/
  | amPosition (n : Nat) (k : Nat) (onNew : Bool) (block : List Byte) (late : Nat)
  /-- R87: A LINE packet is checked in order and accepted to the front end or discarded. -/
  | linePacketRx (n : Nat) (pk : RxPkt)
  /-- R95: A valid HB packet from the partner arrives. -/
  | hbRx (n : Nat) (pk : RxPkt)
  /-- R95: Every 100 µs in CONFIGURE or ACTIVE the device sends an HB. -/
  | hbSendTimer (n : Nat)
  /-- R97: Every TIME_PER ms in ACTIVE the device sends a TIME packet. -/
  | timeSendTimer (n : Nat)
  /-- R101: The head's CAP arrives and is checked for LINK and RATES. -/
  | capRx (n : Nat) (pk : RxPkt)
  /-- R101: The device resends its CAP every 100 µs until the head's CAP arrives. -/
  | capResendTimer (n : Nat)
  /-- R109: The device sends a PROBE for latency measurement. -/
  | probeSend (n : Nat)
  /-- R109: An ECHO arrives and a latency sample is computed. -/
  | echoRx (n : Nat) (block : List Byte) (rtt : Nat)
  /-- R109: Every PROBE_PER ms in ACTIVE a new measurement set starts. -/
  | latencyProbePeriod (n : Nat)
  /-- R96: A CTRL response with the outstanding TAG arrives from the head. -/
  | ctrlResponseRx (n : Nat) (pk : RxPkt)
  /-- R96: No CTRL response in 100 µs resends the request, ending with 0x05 after three resends. -/
  | ctrlRequestTimeout (n : Nat)
  /-- R117: HREG_CMD OP = 0b01 starts a head register read through CTRL. -/
  | hregRead (src : Src) (n : Nat) (v : Word)
  /-- R117: HREG_CMD OP = 0b10 starts a head register write through CTRL. -/
  | hregWrite (src : Src) (n : Nat) (v : Word)
  /-- R110: The round carrying a TRIG leaves the balls and the SENT bit is set. -/
  | trigRoundDeparture (n : Nat)
  /-- R114: A write of HPn_SWAP_CMD.GO starts a SWAP by sending PREPARE. -/
  | swapGo (src : Src) (n : Nat) (v : Word)
  /-- R115: PREPARE_ACK arrives and Spare training on NEW starts. -/
  | swapPrepareAckRx (n : Nat) (pk : RxPkt)
  /-- R115: The head's READY arrives and the device sends COMMIT. -/
  | swapReadyRx (n : Nat) (pk : RxPkt)
  /-- R115: COMMIT_ACK with the head's switch point arrives. -/
  | swapCommitAckRx (n : Nat) (pk : RxPkt)
  /-- R115: DONE from the head rewrites LANE_MAP, takes OLD to OFF and ends the SWAP. -/
  | swapDoneRx (n : Nat) (pk : RxPkt)
  /-- R116: A SWAP step exceeds its bound and the SWAP aborts with REASON 6. -/
  | swapStepTimeout (n : Nat)
  /-- R116: An ABORT from the partner ends the SWAP and keeps the old map. -/
  | swapAbortRx (n : Nat) (pk : RxPkt)
  /-- R114: A SWAP REQUEST from the head sets SWAP_REQ and reports to the FC. -/
  | swapRequestRx (n : Nat) (pk : RxPkt)
  /-- R97: A SWAP message awaiting an answer is resent every 100 µs. -/
  | swapResendTimer (n : Nat)
  /-- R123: The front end takes an accepted LINE segment and stores or discards it by coverage. -/
  | feSegmentRx (n : Nat)
  /-- R124: Orbit reaches t_x + LINE_TMO and an open line closes. -/
  | feLineDeadline (n : Nat)
  /-- R124: A line whose TRIG was not sent closes once it is the oldest expected line. -/
  | feLineCloseNotSent (n : Nat)
  /-- R137: A closed line is corrected, filled and handed to the stitcher with its descriptor; `u` names the front end and
  table entries with errors. -/
  | feLineHandover (u : UnitFlips)
  /-- R130: The 300 µs correction table initialization after reset ends. -/
  | feTableInitDone (n : Nat)
  /-- R140: A write of FEn_TBL_DATA writes the entry at INDEX and advances INDEX. -/
  | feTblDataWrite (src : Src) (n : Nat) (v : Word)
  /-- R140: A read of FEn_TBL_DATA returns the entry at INDEX and advances INDEX; `u` as for a hand-over. -/
  | feTblDataRead (src : Src) (u : UnitFlips)
  /-- R141: A write of FEn_TBL_CHK.GO = 1 starts the CRC of a table bank. -/
  | feTblChkGo (src : Src) (n : Nat) (v : Word)
  /-- R141: The table CRC completes, sets DONE and writes FEn_TBL_CRC. -/
  | feTblChkDone (n : Nat)
  /-- R147: A web line becomes complete and is stitched, blended and emitted. -/
  | stcWebLineComplete
  /-- R171: The ring loader finishes loading a band's reference lines. -/
  | ringBandLoaded (flips : List (Nat × Bool))
  /-- R162: An engine finishes a band slice, delivering fragments, tile results, sums and field entries. -/
  | bandSliceComplete (e : Nat) (flips : List (Nat × Bool))
  /-- R187: The merger joins a band's fragments, closes blobs and emits defect records. -/
  | blobMergerBand
  /-- R200: A colour piece completes and the band's tile records are emitted when all pieces are done. -/
  | colourPieceComplete (e : Nat)
  /-- R226: JOB_CMD LOAD writes a profile into the staged bank. -/
  | jobLoad (src : Src) (v : Word)
  /-- R226: Profile loading ends, SST returns to OPEN and LOADED is set. -/
  | jobLoadComplete (data : List (Nat × List Byte))
  /-- R227: JOB_CMD VERIFY_REF starts a CRC check of the staged reference. -/
  | jobVerifyRef (src : Src) (v : Word)
  /-- R227: JOB_CMD VERIFY_RULE starts a CRC check of the staged tile rule table. -/
  | jobVerifyRule (src : Src) (v : Word)
  /-- R227: A verify ends and sets OK or FAIL and VERIFY_DONE. -/
  | jobVerifyComplete
  /-- R229: JOB_CMD ARM runs the arming checks and enters ARMED or PAIRING. -/
  | jobArm (src : Src) (v : Word)
  /-- R225: JOB_CMD DISARM unlocks the staged bank back to OPEN. -/
  | jobDisarm (src : Src) (v : Word)
  /-- R228: An accepted write into a staged region lands in DDR5 and JOB_WR_PEND falls. -/
  | jobWriteLanded
  /-- R230: The mate's arming digest arrives and is compared. -/
  | pairDigestRx (pk : RxPkt)
  /-- R454: DIGEST or JOIN is resent every 100 µs until answered. -/
  | pairDigestResend
  /-- R225: No matching digest within JOB_PAIR_CFG.TMO returns the bank to OPEN with ARM_FAIL. -/
  | jobPairTimeout
  /-- R233: Mate 0 receives mate 1's verdict and sends DECIDE. -/
  | pairVerdictRx (pk : RxPkt)
  /-- R232: No verdict from mate 1 within 100 µs gives HOLD with MATE_SILENT. -/
  | pairVerdictTimeout
  /-- R233: Mate 1 receives DECIDE and enters DECIDED on COMMIT. -/
  | pairDecideRx (pk : RxPkt)
  /-- R234: The stopped job's last band is merged and its output done; STOPPED is set. -/
  | jobStopComplete
  /-- R237: A JOB_PORT_OFF bit write starts an in-flight port disable with T_off. -/
  | jobPortOffWrite (src : Src) (v : Word)
  /-- R237: An OFF(n, T') message arrives and both mates take the larger T_off. -/
  | pairPortoffRx (pk : RxPkt)
  /-- R238: A JOB_PROD_OFF write turns products off or on from a future band. -/
  | jobProdOffWrite (src : Src) (v : Word)
  /-- R238: A PRODOFF message arrives and both mates use the larger band bound. -/
  | pairProdoffRx (pk : RxPkt)
  /-- R254: Every 100 µs the Shepherd runs an epoch of thermal, power and capacity rules. -/
  | shpEpoch
  /-- R242: A cluster clock step change completes through the glitch-free selector. -/
  | clusterStepComplete (k : Nat)
  /-- R247: Every 10 µs the cluster temperature sensors give readings, valid or invalid. -/
  | shpSensorReading (k : Nat) (j : Nat) (r : Option Int)
  /-- R248: Every 10 µs the rail current monitors give cluster power. -/
  | shpPowerReading (k : Nat) (mw : Int)
  /-- R251: On an engine freeing or an item becoming eligible the Shepherd starts items by fold. -/
  | shpDispatch
  /-- R252: A Fold 1 or 2 piece not started by its deadline is dropped. -/
  | shpItemDeadlineDrop (f : Nat)
  /-- R257: A write of SHP_Ck_LIMIT is checked against NEED and sets the fastest step. -/
  | shpLimitWrite (src : Src) (k : Nat) (v : Word)
  /-- R259: The spare's known-answer test ends and it becomes ACTIVE or RETIRED. -/
  | spareTestComplete (e : Nat) (pass : Bool)
  /-- R270: A Fold 2 product piece completes its P0 reduction or P1 capture; `u` names the engine and words with errors. -/
  | productPieceComplete (u : UnitFlips)
  /-- R244: A Fold 3 background piece such as self-test completes. -/
  | backgroundPieceComplete (e : Nat) (ok : Bool)
  /-- R261: A unit of a stream is formed into packets with PSEQ, or dropped. -/
  | sspUnitForm (k : Nat)
  /-- R284: The packetizer sends the next ready packet of the highest-priority stream. -/
  | sspFrameSend
  /-- R278: Mate 1 receives mate 0's PSEQ values and resyncs if they differ. -/
  | sspPseqRx (pk : RxPkt)
  /-- R278: No PSEQ message within 1 ms of a stream's first unit of the new bank; mate 1 uses its own value for the oldest that waits. -/
  | sspPseqWaitTimeout
  /-- R279: The mate's colour status for a band arrives and held units are withheld or sent. -/
  | pairCstatRx (pk : RxPkt)
  /-- R279: No colour status within 1 ms sends held units with CSTAT DROPPED. -/
  | cstatWaitTimeout
  /-- R293: UL_CTRL.EN = 1 starts the uplink into AN or ALIGN. -/
  | ulEnSet (src : Src) (v : Word)
  /-- R293: UL_CTRL.EN = 0 finishes the frame and takes the uplink to DISABLED. -/
  | ulEnClear (src : Src) (v : Word)
  /-- R293: The partner advertises the same technology and the uplink trains. -/
  | ulAnAgree
  /-- R293: 500 ms in AN without agreement takes the uplink DOWN. -/
  | ulAnTimeout
  /-- R293: Training completes on all mapped lanes and the uplink aligns. -/
  | ulTrainComplete
  /-- R293: 500 ms in TRAIN takes the uplink DOWN. -/
  | ulTrainTimeout
  /-- R293: PCS alignment locks and the uplink goes UP. -/
  | ulAlignLock
  /-- R293: 100 ms in ALIGN takes the uplink DOWN. -/
  | ulAlignTimeout
  /-- R293: PCS alignment lost or an unsparable lane fault takes the uplink DOWN. -/
  | ulAlignLost
  /-- R293: LOS or CDR_LOL on one mapped lane starts a spare retrain. -/
  | ulLaneFailSpare (m : Nat) (cdr : Bool)
  /-- R297: UL_CTRL.RETRAIN or a Repair order starts a spare retrain of a logical lane. -/
  | ulRetrain (src : Src) (v : Word)
  /-- R297: Lane 8 locks after the far end remaps and alignment runs on the new map. -/
  | ulSpareLaneLock
  /-- R297: Alignment locks on the new map; LANE_MAP is rewritten and the uplink is UP. -/
  | ulSpareRetrainComplete
  /-- R293: A spare retrain exceeds its bound and the uplink goes DOWN. -/
  | ulSpareRetrainTimeout
  /-- R293: After 10 ms in DOWN the uplink restarts in AN or ALIGN. -/
  | ulDownRetry
  /-- R294: Corrected symbols of a lane over 2^24 codewords exceed SYM_THR; `errs` are the corrected symbols and
  the uncorrectable codewords. -/
  | ulLaneDegrade (m : Nat) (errs : Nat × Nat)
  /-- R299: A received frame that fits no class, or a PAUSE frame, is dropped and counted. -/
  | ulFrameDrop (fr : UlFrame)
  /-- R299: An ARP request for UL_IP4 is answered. -/
  | arpRequestRx (fr : UlFrame)
  /-- R299: An IPv6 Neighbor Solicitation for UL_IP6 is answered. -/
  | ndSolicitationRx (fr : UlFrame)
  /-- R301: A PTP Sync message arrives and is timestamped. -/
  | ptpSyncRx (m : PtpMsg)
  /-- R301: A Follow_Up completes a two-step Sync. -/
  | ptpFollowUpRx (m : PtpMsg)
  /-- R301: An Announce message feeds the best time-transmitter selection. -/
  | ptpAnnounceRx (m : PtpMsg)
  /-- R301: A one-step Delay_Req is sent at the announced interval. -/
  | ptpDelayReqSend
  /-- R312: A Delay_Resp gives a path-delay sample. -/
  | ptpDelayRespRx (m : PtpMsg)
  /-- R302: A Pdelay_Req is sent in P2P operation. -/
  | ptpPdelayReqSend
  /-- R312: A Pdelay_Resp gives a peer path-delay sample. -/
  | ptpPdelayRespRx (m : PtpMsg)
  /-- R301: A neighbour's Pdelay_Req is answered with a one-step Pdelay_Resp. -/
  | ptpPdelayReqRx (m : PtpMsg)
  /-- R304: In test mode a received Delay_Req is answered. -/
  | ptpDelayReqRx (m : PtpMsg)
  /-- R302: No Announce within announceReceiptTimeout; no time transmitter is selected. -/
  | ptpAnnounceTimeout
  /-- R314: No Sync within the receipt timeout puts Orbit in holdover. -/
  | ptpSyncTimeout
  /-- R304: In test mode a one-step Sync and Announce are sent every second. -/
  | testTtSyncSend
  /-- R307: The remaining slew reaches 0 and SLEWING clears. -/
  | orbSlewDone
  /-- R315: Orbit crosses a second and PPS_OUT rises. -/
  | orbSecondBoundary
  /-- R315: WIDTH_MS after the second PPS_OUT falls. -/
  | ppsOutPulseEnd
  /-- R316: A PPS_IN rising edge is captured and, with SRC = PPS, gives an offset sample. -/
  | ppsInEdge
  /-- R314: No PPS_IN edge in 1.5 s puts Orbit in holdover. -/
  | ppsHoldoverTimeout
  /-- R308: ORB_CMD.SET = 1 loads Orbit from ORB_SET registers while RUN = 0. -/
  | orbSet (src : Src) (v : Word)
  /-- R306: A write of ORB_NOM_NS applies it with the held fraction after a range check. -/
  | orbNomNsWrite (src : Src) (v : Word)
  /-- R306: A write of ORB_NOM_FRAC is held until the next ORB_NOM_NS write. -/
  | orbNomFracWrite (src : Src) (v : Word)
  /-- R310: A read of ORB_NOW_NS latches S and F into the other ORB_NOW registers. -/
  | orbNowNsRead (src : Src)
  /-- R320: An accepted quadrature change counts the encoder position by one. -/
  | encoderCount (e : Nat) (a : Bool) (b : Bool)
  /-- R320: A simultaneous A and B change is counted as an illegal transition. -/
  | encoderIllegal (e : Nat)
  /-- R321: A read of CMT_ENCe_LO latches the upper position bits. -/
  | encPositionRead (src : Src) (e : Nat)
  /-- R322: With SRC = TIMER a trigger falls due every PERIOD ns. -/
  | triggerDueTimer
  /-- R322: CMT_HOST OP = 0b01 makes a host trigger due. -/
  | cmtHostTrigger (src : Src) (v : Word)
  /-- R336: CMT_HOST OP = 0b10 places a host pulse window on an output. -/
  | cmtHostPulse (src : Src) (v : Word)
  /-- R327: An edge of the selected polarity on SHEETs latches the position. -/
  | sheetEdgeCandidate (j : Nat) (level : Bool)
  /-- R327: The sheet level stays stable for SFILTs µs and the edge becomes a source event. -/
  | sheetEdgeAccept (j : Nat)
  /-- R327: An accepted Z rising edge becomes a mark source event. -/
  | encoderZEdge (e : Nat)
  /-- R328: The follower receives a trigger record, logs it and hands TRIGs to its ports. -/
  | trecRx (pk : RxPkt)
  /-- R329: No expected trigger record within TAKE_US makes the follower the source. -/
  | takeoverTimeout
  /-- R336: Orbit reaches a time-based host pulse start or end. -/
  | hostPulseTimeEdge (k : Nat)
  /-- R335: Orbit reaches a strobe start or end around a trigger's t_x. -/
  | strobeEdge (k : Nat)
  /-- R332: A write of CMT_OUTk_CFG that changes MODE or ENC discards pending windows. -/
  | cmtOutCfgWrite (src : Src) (k : Nat) (v : Word)
  /-- R370: DMA_CHn_CTRL.GO starts a channel from DMA_CHn_START. -/
  | dmaGo (src : Src) (n : Nat) (v : Word)
  /-- R370: DMA_CHn_CTRL.STOP stops a channel or enters STOPPING. -/
  | dmaStop (src : Src) (n : Nat) (v : Word)
  /-- R370: The current element ends and a stopping channel goes IDLE. -/
  | dmaStoppingComplete (n : Nat)
  /-- R362: DMA_CHn_CTRL.DBCLR sets the doorbell count to 0. -/
  | dmaDbclr (src : Src) (n : Nat) (v : Word)
  /-- R362: A doorbell write adds INC to DBCNT and may release a PARK. -/
  | dmaDoorbell (src : Src) (n : Nat) (v : Word)
  /-- R358: A MOVE instruction copies words element by element through the loop nest. -/
  | dmaMove (n : Nat) (flips : List (Nat × Bool))
  /-- R359: A LOOP instruction sets a loop level for the next MOVE. -/
  | dmaLoop (n : Nat)
  /-- R361: A WAIT EVENT completes on a latched or new event line pulse. -/
  | dmaWaitEvent (n : Nat)
  /-- R362: A WAIT DOORBELL completes when DBCNT reaches N. -/
  | dmaWaitDoorbell (n : Nat)
  /-- R363: A WAIT TIME waits for an Orbit target. -/
  | dmaWaitTime (n : Nat)
  /-- R363: Orbit reaches a waiting channel's target and the WAIT completes. -/
  | dmaWaitTimeReached (n : Nat)
  /-- R360: A SIGNAL pulses an event line after the read-back of prior writes. -/
  | dmaSignal (n : Nat)
  /-- R364: A JUMP moves the fetch address by OFFSET instructions. -/
  | dmaJump (n : Nat)
  /-- R362: A PARK consumes a doorbell or waits for one. -/
  | dmaPark (n : Nat)
  /-- R366: An END finishes the program after read-back and the channel goes IDLE. -/
  | dmaEnd (n : Nat)
  /-- R357: An invalid instruction halts the channel with HALT_REASON DECODE. -/
  | dmaDecodeError (n : Nat)
  /-- R367: The read-back of the last written word returns, completing a SIGNAL or END. -/
  | dmaReadbackReturn (n : Nat) (flips : List (Nat × Bool))
  /-- R372: GAP_US after a bus error the failed access is reissued. -/
  | dmaRetryGap (n : Nat)
  /-- R376: A write of CVUn_DATA adds four bytes to the PUSH frame. -/
  | cvuDataWrite (src : Src) (n : Nat) (v : Word)
  /-- R377: CVUn_CTRL.CLOSE closes the frame and runs the result checks. -/
  | cvuClose (src : Src) (n : Nat) (v : Word)
  /-- R376: CVUn_CTRL.GO starts a READ run over memory. -/
  | cvuGo (src : Src) (n : Nat) (v : Word)
  /-- R380: CVUn_CTRL.ABORT discards the open frame or READ run. -/
  | cvuAbort (src : Src) (n : Nat) (v : Word)
  /-- R377: The last word of a READ run closes the frame. -/
  | cvuReadRunComplete (n : Nat)
  /-- R382: A READ run meets an uncorrectable error and ends with no checks. -/
  | cvuReadEccError (n : Nat) (word : Nat)
  /-- R387: EQn_WCMD OPEN takes the queue write port for software. -/
  | eqOpen (src : Src) (n : Nat) (v : Word)
  /-- R387: A write of EQn_WDATA adds four payload bytes to the open packet. -/
  | eqWdata (src : Src) (n : Nat) (v : Word)
  /-- R387: EQn_WCMD CLOSE closes the packet, writes QSEQ and advances WPTR. -/
  | eqClose (src : Src) (n : Nat) (v : Word)
  /-- R387: EQn_WCMD ABORT discards the open packet and frees the port. -/
  | eqAbort (src : Src) (n : Nat) (v : Word)
  /-- R389: A write of EQn_POP releases the packet at RPTR when SEQ matches. -/
  | eqPop (src : Src) (n : Nat) (v : Word)
  /-- R396: A 4,096-cycle monitor window ends and each source passes or fails. -/
  | clkMonitorWindow (counts : List (Option Nat)) (plls : List Nat)
  /-- R396: A source with no edge for 16 AON cycles fails at once. -/
  | clkSourceStop (j : Nat)
  /-- R395: An oscillator's start-up wait ends and it enters RETURNING. -/
  | clkStartupWaitEnd (j : Nat)
  /-- R400: The PLLs relock on a usable reference and SAFE clears. -/
  | clkPllRelock
  /-- R403: 150 ms of holdover stops the reference-fed domains. -/
  | clkHoldoverExpiry
  /-- R401: 1 ms after a failed idle fallback is disabled it is enabled again. -/
  | clkFallbackReenable
  /-- R398: A PLL lock detector reports lock loss. -/
  | clkPllLockLoss (p : Nat)
  /-- R445: A relocked CORE PLL held in lock for 1 s becomes the standby. -/
  | corePllStandbyRestore
  /-- R409: A selector not done within 64 AON cycles is forced with its domain reset. -/
  | clkSelectorHang (d : Nat)
  /-- R402: CLK_CMD.REVERT = 1 changes back from the fallback to the primary. -/
  | clkRevert (src : Src) (v : Word)
  /-- R409: CLK_CMD.FORCE forces the CORE selector while CORE is held in reset. -/
  | clkForce (src : Src) (v : Word)
  /-- R413: Power applied with PWRGD rising starts a power-on reset. -/
  | powerOn
  /-- R411: PWRGD low starts a power-on reset. -/
  | pwrgdLow
  /-- R413: RESET_N low starts a device reset. -/
  | resetNAssert
  /-- R413: The reset hold ends and boot starts. -/
  | resetHoldEnd
  /-- R414: Writing 0x0000_A5C3 to RST_WDT_KICK restarts the watchdog period. -/
  | watchdogKick (src : Src)
  /-- R414: A watchdog period ends without a kick and a device reset follows. -/
  | watchdogExpiry
  /-- R414: RST_MATE.REQ = 1 sends a reset request to the mate. -/
  | rstMateReq (src : Src) (v : Word)
  /-- R414: An RSTREQ from the mate resets the device when MATE_EN = 1, else is counted. -/
  | mateResetRequestRx (pk : RxPkt)
  /-- R417: The AON oscillator runs and the trim load starts. -/
  | bootAonStart
  /-- R419: A trim copy passes its CRC and is committed. -/
  | bootTrimLoadDone
  /-- R416: The straps are sampled with pull-up and pull-down and checked. -/
  | bootStrapSample (up : Nat) (down : Nat)
  /-- R417: After the start-up wait the PLLs lock and MGMT starts. -/
  | bootPllLock
  /-- R418: A PLL not locked within 1 ms holds boot with ERR PLL. -/
  | bootPllTimeout
  /-- R423: The boot part of each slot is read and verified and a slot chosen. -/
  | bootPartVerified (imgs : List (List Byte))
  /-- R420: GLB_BOOT_CMD.GO = 1 starts verification of a pushed image. -/
  | bootPushGo (src : Src) (v : Word)
  /-- R417: The REG sections are applied, including DDR5 initialization, and links enable. -/
  | bootRegApplied (trained : List Nat)
  /-- R425: A write of OPT_DATA programs one option-store word. -/
  | optDataWrite (src : Src) (v : Word)
  /-- R426: A read of OPT_DATA returns the word at OPT_ADDR and advances it. -/
  | optDataRead (src : Src)
  /-- R425: An option-store write pulse and read-back complete, sparing a failing word. -/
  | optWritePulseDone (ok : Bool)
  /-- R428: SEC_CMD ATTEST makes the index durable and starts a signed report. -/
  | secAttest (src : Src) (v : Word)
  /-- R428: The attestation report is signed and placed in SEC_BUF. -/
  | secAttestDone
  /-- R427: SEC_CMD SVN_COMMIT sets SEC_SVN_MIN to the running SVN. -/
  | secSvnCommit (src : Src) (v : Word)
  /-- R427: SEC_CMD OWN installs a new owner key after signature check. -/
  | secOwn (src : Src) (v : Word)
  /-- R463: FC_INJECT.GO = 1 raises a report as hardware does. -/
  | fcInjectGo (src : Src) (v : Word)
  /-- R438: Writing 1 to an FC_PEND bit acknowledges a class. -/
  | fcPendAck (src : Src) (v : Word)
  /-- R436: FC_CTRL.FIRST_CLR clears FC_FIRST.VALID and OVF. -/
  | fcFirstClr (src : Src) (v : Word)
  /-- R457: FC_CTRL.WITHDRAW or an L4 report starts the withdrawal sequence. -/
  | fcWithdraw (src : Src) (v : Word)
  /-- R457: The round carrying the TRIG of T_W leaves; head links idle and RUN clears. -/
  | withdrawTrigRoundLeft
  /-- R459: FC_CTRL.RESUME returns a withdrawn device to service. -/
  | fcResume (src : Src) (v : Word)
  /-- R448: A junction at 150 °C forces outputs safe and resets the device. -/
  | thermalTrip
  /-- R448: All trip sensors below 140 °C for 1 s release the reset hold. -/
  | thermalTripRelease
  /-- R444: Once an hour hour counts and engine wear are updated and checked. -/
  | wearHourly
  /-- R444: A write of FC_WEAR_LIM allows worn engines to be reported again. -/
  | fcWearLimWrite (src : Src) (v : Word)
  /-- R453: Every 1 ms and on change a STATE message is sent. -/
  | pairStateSend
  /-- R451: A STATE message updates mate status and service state. -/
  | pairStateRx (pk : RxPkt)
  /-- R451: No STATE for 3 ms leaves PAIRED; the mate is lost. -/
  | pairStateTimeout
  /-- R451: A WITHDRAW message makes the survivor ALONE and the trigger source. -/
  | pairWithdrawRx (pk : RxPkt)
  /-- R460: PL_CMD.JOIN starts a join with the arming checks and a JOIN message. -/
  | pairJoinCmd (src : Src) (v : Word)
  /-- R460: The server compares the JOIN digest and sends JOIN_ACK or NAK. -/
  | pairJoinRx (pk : RxPkt)
  /-- R460: The joiner receives JOIN_ACK or NAK. -/
  | pairJoinAckRx (pk : RxPkt)
  /-- R460: A FIELD message writes field store entries and lets the band's slices start. -/
  | pairFieldRx (pk : RxPkt)
  /-- R461: A DSEQ message gives the joiner its first DSEQ. -/
  | pairDseqRx (pk : RxPkt)
  /-- R455: A band digest from the mate is compared and divergence reported. -/
  | pairBdigRx (pk : RxPkt)
  /-- R455: No band digest from the mate within 10 ms is counted. -/
  | pairBdigTimeout
  /-- R456: Every PER_MS ms a TCHK request is sent. -/
  | pairTchkTimer
  /-- R456: A TCHK request is answered, or an answer gives the time offset. -/
  | pairTchkRx (pk : RxPkt)
  /-- R468: MC0_CTRL.INIT = 1 starts training of every populated channel. -/
  | mcInit (src : Src) (v : Word)
  /-- R468: A channel initialization step completes or fails. -/
  | mcTrainStepDone (n : Nat) (ok : Bool)
  /-- R471: A scrub piece reads lines and writes back corrected data. -/
  | mcScrubPiece (n : Nat) (hits : List (Nat × Bool)) (pass : Bool)
  /-- R472: The row copy completes and accesses to the row resume. -/
  | mcRowRepairDone (n : Nat)
  /-- R473: MCn_CMD OP = hPPR runs permanent repair of pending entries. -/
  | mcHppr (src : Src) (n : Nat) (v : Word)
  /-- R473: MCn_CMD OP = sPPR runs soft repair of pending entries. -/
  | mcSppr (src : Src) (n : Nat) (v : Word)
  /-- R473: Post-package repair of an entry completes or is refused. -/
  | mcPprDone (n : Nat) (ok : Bool)
  /-- R474: Every 10 ms DRAM temperature is read and refresh or limits applied. -/
  | mcTempRead (n : Nat) (t0 : Option Int) (t1 : Option Int) (mr4Hot : Bool)
  /-- R492: A temperature read not done in 10 ms counts as an unreadable sensor. -/
  | mcI2cReadTimeout (n : Nat) (second : Bool) (t : Option Int) (mr4Hot : Bool)
  /-- R475: A read of MCn_RMAP_DATA returns an entry and advances IDX. -/
  | mcRmapDataRead (src : Src) (n : Nat)
  /-- R487: A watched rail below 0.700 V for 1 µs acts as PWRGD low. -/
  | railUndervoltage
  /-- R487: VDD_AON below 0.740 V holds the whole device in reset. -/
  | aonUndervoltage
  /-- R479: TESTMODE high holds every domain except AON in reset. -/
  | testmodeHigh (high : Bool)
  /-- R496: TRST_N low puts the TAP in Test-Logic-Reset with IDCODE. -/
  | jtagTrst
  /-- R497: EXTEST makes outputs follow the boundary register. -/
  | jtagExtest (v : Nat)
  /-- R496: IDCODE selects the 32-bit identification register. -/
  | jtagIdcode
  /-- R496: SAMPLE/PRELOAD captures and loads the boundary register. -/
  | jtagSamplePreload (v : Nat)
  /-- R496: HIGHZ makes every output high-impedance with pulls active. -/
  | jtagHighz
  /-- R497: CLAMP holds outputs from the boundary register. -/
  | jtagClamp
  /-- R496: EXTEST_PULSE runs the IEEE 1149.6 AC test on lanes. -/
  | jtagExtestPulse (v : Nat)
  /-- R496: EXTEST_TRAIN runs the IEEE 1149.6 train test on lanes. -/
  | jtagExtestTrain (v : Nat)
  /-- R496: BOOTSTAT captures GLB_BOOT_STAT into a JTAG data register. -/
  | jtagBootstat
  /-- R496: BYPASS or any unlisted code selects the 1-bit bypass register. -/
  | jtagBypass (code : Nat)
  /-- R115: A device in the head role on the pair link (mate 1) receives PREPARE, answers PREPARE_ACK and takes NEW
  from OFF to TRAIN. -/
  | swapPrepareRx (pk : RxPkt)
  /-- R115: A device in the head role on the pair link receives COMMIT, answers COMMIT_ACK with its own switch point
  and switches at AM_SEQ_h. -/
  | swapCommitRx (pk : RxPkt)
  /-- R101: Mate 1, in the head role on the pair link, receives a valid CAP from the device and answers it with its
  own CAP, every repeat included. -/
  | deviceCapRx (pk : RxPkt)
  /-- R327: The SHEET level changes back before SFILTs µs and the candidate edge is discarded. -/
  | sheetCandidateDiscard (j : Nat)
  /-- R339: The host reads the response out over SPI and the SPI path becomes free for the next command. -/
  | spiResponseReadOut
  /-- R339: A response leaves the uplink, its command frees its queue entry and the next queued command executes in
  arrival order. -/
  | scpResponseLeaves
  /-- R443: A parity error appears in an engine's local memories and the engine reports source 0x21. -/
  | engineParityError (e : Nat)
  deriving DecidableEq, Repr

end Sys2Proof
end

