-- ==== Sys2Proof/Decode.lean ====
section
/-! DEFINITION. Decode.lean: the word form of a command. No row of the table of operations and events gives bits, so no
word spells a command. -/

namespace Sys2Proof

/-- The command a word of the table spells: none (spec/opcode_table.json gives its rows no bits). -/
def decodeTableWord (_nbits _w : Nat) : Option Instr := none

end Sys2Proof
end

