-- ==== Sys2Proof/Config.lean ====
section
/-! DEFINITION. Config.lean: the values the spec leaves open. None of them has a body, so no proof can see a value. -/

namespace Sys2Proof.Config

/-- A value the spec leaves open: which one is asked for (a code of the model's, listed in the assumption log) and the
running index of `Chip.freeCtr`. -/
opaque freeNat : Nat → Nat → Nat

/-- The level of a ball while the spec leaves it open, at an index of `Chip.freeCtr` and a tick: none for high-impedance (R415, R482). -/
opaque pinLevel : Nat → Nat → Nat → Option Bool

/-- The bits of the SSPRQ pattern, which the spec takes from IEEE 802.3 (R62, 02_serial_lanes.md). -/
opaque ssprq : Nat → Bool

/-- How the 24 bytes of a tile in the colour sum buffer hold its NCOL and SUM_0 to SUM_3, as one little-endian number: the
spec gives the size and no layout (R200, 07_colour_defects.md). -/
opaque colourSums : List Nat → Nat

/-- The rank, subchannel, bank group, bank and row, as MCn_RMAP_DATA names them, of an address within a channel with this
configuration word: the spec states no mapping (R467, R472, 19_memory.md). -/
opaque dramPlace : Word → Nat → Nat

/-- The identifier of a tree of the attestation key, named by its level and number (R428). -/
opaque attTreeId : Nat → Nat → List Byte

/-- The one-time private key of a leaf of a tree, chain by chain: the private key state that R426 hides (R428). -/
opaque attOtsKey : Nat → Nat → Nat → Nat → List Byte

/-- The randomizer of the signature of a leaf (R428). -/
opaque attRandom : Nat → Nat → Nat → List Byte

end Sys2Proof.Config
end

