-- ==== Sys2Proof/Machine/Operands.lean ====
section
/-! DEFINITION. Operands.lean: bit fields of a register word, the access types of R16 and the legal ranges of the
register maps. -/

namespace Sys2Proof.Machine

/-- One field of one register: the register's byte address, the field's lowest bit and its width (R10). -/
structure Fld where
  addr  : Nat
  lo    : Nat
  width : Nat
  deriving DecidableEq, Repr

/-- The mask of `width` ones starting at bit `lo`. -/
def bitMask (lo width : Nat) : Word := BitVec.ofNat 32 (2 ^ width - 1) <<< lo

/-- The value of the field of `width` bits at `lo` of a word. -/
def getBits (w : Word) (lo width : Nat) : Nat := ((w >>> lo) &&& BitVec.ofNat 32 (2 ^ width - 1)).toNat

/-- A word with the field of `width` bits at `lo` set to `v` (modulo its width) and every other bit kept. -/
def putBits (w : Word) (lo width v : Nat) : Word :=
  (w &&& ~~~ bitMask lo width) ||| ((BitVec.ofNat 32 v &&& BitVec.ofNat 32 (2 ^ width - 1)) <<< lo)

/-- One bit of a word as a Bool. -/
def bitAt (w : Word) (i : Nat) : Bool := w.getLsbD i

/-- The two's complement reading of the low `width` bits of `n`. -/
def toSigned (width n : Nat) : Int :=
  let m := n % 2 ^ width
  if 2 * m < 2 ^ width then (m : Int) else (m : Int) - (2 ^ width : Nat)

/-- The `width`-bit two's complement code of an integer. -/
def ofSigned (width : Nat) (i : Int) : Nat := (i % ((2 ^ width : Nat) : Int)).toNat

/-- The register access types of R16 (00_scope.md). -/
inductive Access where
  | ro | rw | w1c | w1s | wo | rc
  deriving DecidableEq, Repr

/-- What a register map says a field may be written with; anything else is status 0x03. -/
inductive Legal where
  | any
  | rng (lo hi : Nat)
  | symm (bound : Nat)              -- signed 32-bit value within plus or minus `bound`
  | mult (lo hi step : Nat)         -- a multiple of `step` within the range
  deriving DecidableEq, Repr

/-- One line of a register map (the columns Bits, Field, Access, Reset and the range of Description). -/
structure FieldRow where
  hi    : Nat
  lo    : Nat
  acc   : Access
  reset : Nat
  legal : Legal
  deriving DecidableEq, Repr

/-- One register of the register maps: its name, the address of its first instance, the (count, stride) of each
dimension it is repeated in (outermost first), its fields, and a reset value that depends on the instance where the
map gives one. -/
structure RegRow where
  name   : String
  addr   : Nat
  dims   : List (Nat × Nat)
  fields : List FieldRow
  rst    : Option (List Nat → Nat)

/-- The instance indices of an offset inside repeated registers, outermost first; none where no instance lies there. -/
def dimIndex : List (Nat × Nat) → Nat → Option (List Nat)
  | [], d => if d = 0 then some [] else none
  | (n, st) :: rest, d => if d / st < n then (dimIndex rest (d % st)).map (d / st :: ·) else none

def RegRow.find (r : RegRow) (a : Nat) : Option (List Nat) :=
  if r.addr ≤ a then dimIndex r.dims (a - r.addr) else none

/-- The mask of the fields of one access type. -/
def RegRow.mask (r : RegRow) (k : Access) : Word :=
  r.fields.foldl (fun m f => if f.acc = k then m ||| bitMask f.lo (f.hi + 1 - f.lo) else m) 0#32

/-- The reset value of an instance of the register (R18). -/
def RegRow.resetAt (r : RegRow) (ix : List Nat) : Word :=
  match r.rst with
  | some g => BitVec.ofNat 32 (g ix)
  | none => r.fields.foldl (fun w f => putBits w f.lo (f.hi + 1 - f.lo) f.reset) 0#32

def Legal.ok (l : Legal) (v : Nat) : Bool :=
  match l with
  | .any => true
  | .rng a b => a ≤ v && v ≤ b
  | .symm b => -(b : Int) ≤ toSigned 32 v && toSigned 32 v ≤ (b : Int)
  | .mult a b k => a ≤ v && v ≤ b && v % k == 0

/-- Every writable field of the written word lies in the range its map gives (status 0x03 otherwise). -/
def RegRow.legal (r : RegRow) (v : Word) : Bool :=
  r.fields.all fun f => f.acc == .ro || f.acc == .rc || f.legal.ok (getBits v f.lo (f.hi + 1 - f.lo))

/-- The value a register holds after a write of `v` over `old`, field by field as R16 and R17 say: RW takes the
written bits, a 1 in W1C clears, a 1 in W1S sets, RO, RC, WO and reserved bits keep what they hold. -/
def RegRow.store (r : RegRow) (old v : Word) : Word :=
  let rw := r.mask .rw
  let base := (old &&& ~~~ rw) ||| (v &&& rw)
  (base &&& ~~~ (v &&& r.mask .w1c)) ||| (v &&& r.mask .w1s)

/-- What a read returns: WO fields and reserved bits read 0 (R16, R17). -/
def RegRow.view (r : RegRow) (w : Word) : Word :=
  w &&& (r.mask .ro ||| r.mask .rw ||| r.mask .w1c ||| r.mask .w1s ||| r.mask .rc)

/-- What the register holds after a read: RC fields are cleared (R16). -/
def RegRow.afterRead (r : RegRow) (w : Word) : Word := w &&& ~~~ r.mask .rc

end Sys2Proof.Machine
end

