-- ==== Sys2Proof/Machine/Fields.lean ====
section
/-! DEFINITION. Fields.lean: the names of the registers (namespace R, a byte address) and of their fields (namespace F),
as the register maps of the spec give them. -/

namespace Sys2Proof.Machine

namespace R

def lnCtrl (n m : Nat) : Nat := 0x108000 + n * 0x10000 + m * 0x100
def lnState (n m : Nat) : Nat := 0x108000 + n * 0x10000 + m * 0x100 + 0x4
def lnTxeq (n m : Nat) : Nat := 0x108000 + n * 0x10000 + m * 0x100 + 0x8
def lnRxeq (n m : Nat) : Nat := 0x108000 + n * 0x10000 + m * 0x100 + 0xC
def lnFfe0 (n m : Nat) : Nat := 0x108000 + n * 0x10000 + m * 0x100 + 0x10
def lnFfe1 (m : Nat) : Nat := 0x198000 + m * 0x100 + 0x14
def lnFfe2 (m : Nat) : Nat := 0x198000 + m * 0x100 + 0x18
def lnDfe (m : Nat) : Nat := 0x198000 + m * 0x100 + 0x1C
def lnAdapt (n m : Nat) : Nat := 0x108000 + n * 0x10000 + m * 0x100 + 0x20
def lnGuard (n m : Nat) : Nat := 0x108000 + n * 0x10000 + m * 0x100 + 0x24
def lnEye (n m : Nat) : Nat := 0x108000 + n * 0x10000 + m * 0x100 + 0x28
def lnEvt (n m : Nat) : Nat := 0x108000 + n * 0x10000 + m * 0x100 + 0x2C
def lnSnapCnt (n m : Nat) : Nat := 0x108000 + n * 0x10000 + m * 0x100 + 0x30
def lnPrbsCtrl (n m : Nat) : Nat := 0x108000 + n * 0x10000 + m * 0x100 + 0x34
def lnPrbsStat (n m : Nat) : Nat := 0x108000 + n * 0x10000 + m * 0x100 + 0x38
def lnPrbsErrLo (n m : Nat) : Nat := 0x108000 + n * 0x10000 + m * 0x100 + 0x3C
def lnPrbsErrHi (n m : Nat) : Nat := 0x108000 + n * 0x10000 + m * 0x100 + 0x40
def lnPrbsBitsLo (n m : Nat) : Nat := 0x108000 + n * 0x10000 + m * 0x100 + 0x44
def lnPrbsBitsHi (n m : Nat) : Nat := 0x108000 + n * 0x10000 + m * 0x100 + 0x48
def lnInj (n m : Nat) : Nat := 0x108000 + n * 0x10000 + m * 0x100 + 0x4C
def laneMap (n : Nat) : Nat := 0x100000 + n * 0x10000 + 0x8F00
def laneRate (n : Nat) : Nat := 0x100000 + n * 0x10000 + 0x8F04
def spareCond (n : Nat) : Nat := 0x100000 + n * 0x10000 + 0x8F08
def spareStat (n : Nat) : Nat := 0x100000 + n * 0x10000 + 0x8F0C
def linkCtrl (n : Nat) : Nat := 0x100000 + n * 0x10000
def linkState (n : Nat) : Nat := 0x100000 + n * 0x10000 + 0x4
def linkEvt (n : Nat) : Nat := 0x100000 + n * 0x10000 + 0x8
def linkCfg (n : Nat) : Nat := 0x100000 + n * 0x10000 + 0xC
def lat (n : Nat) : Nat := 0x100000 + n * 0x10000 + 0x10
def headTrig (n : Nat) : Nat := 0x100000 + n * 0x10000 + 0x14
def swapCmd (n : Nat) : Nat := 0x100000 + n * 0x10000 + 0x18
def swapStat (n : Nat) : Nat := 0x100000 + n * 0x10000 + 0x1C
def hregAddr (n : Nat) : Nat := 0x100000 + n * 0x10000 + 0x20
def hregData (n : Nat) : Nat := 0x100000 + n * 0x10000 + 0x24
def hregCmd (n : Nat) : Nat := 0x100000 + n * 0x10000 + 0x28
def hregStat (n : Nat) : Nat := 0x100000 + n * 0x10000 + 0x2C
def laneThr (n : Nat) : Nat := 0x100000 + n * 0x10000 + 0x30
def fecCorr (n : Nat) : Nat := 0x100000 + n * 0x10000 + 0x40
def fecUncorr (n : Nat) : Nat := 0x100000 + n * 0x10000 + 0x44
def lsym (n : Nat) (k : Nat) : Nat := 0x100000 + n * 0x10000 + 0x48 + k * 4
def frameErr (n : Nat) : Nat := 0x100000 + n * 0x10000 + 0x58
def fecDrop (n : Nat) : Nat := 0x100000 + n * 0x10000 + 0x5C
def crcErr (n : Nat) : Nat := 0x100000 + n * 0x10000 + 0x60
def typeErr (n : Nat) : Nat := 0x100000 + n * 0x10000 + 0x64
def osErr (n : Nat) : Nat := 0x100000 + n * 0x10000 + 0x68
def idErr (n : Nat) : Nat := 0x100000 + n * 0x10000 + 0x6C
def fmtErr (n : Nat) : Nat := 0x100000 + n * 0x10000 + 0x70
def aliveRep (n : Nat) : Nat := 0x100000 + n * 0x10000 + 0x74
def aliveSkip (n : Nat) : Nat := 0x100000 + n * 0x10000 + 0x78
def tsErr (n : Nat) : Nat := 0x100000 + n * 0x10000 + 0x7C
def trigLate (n : Nat) : Nat := 0x100000 + n * 0x10000 + 0x80
def lineCnt (n : Nat) : Nat := 0x100000 + n * 0x10000 + 0x84
def cap (n : Nat) (k : Nat) : Nat := 0x100000 + n * 0x10000 + 0x100 + k * 4
def feStat (n : Nat) : Nat := 0x200000 + n * 0x2000
def feTblAddr (n : Nat) : Nat := 0x200000 + n * 0x2000 + 0x4
def feTblData (n : Nat) : Nat := 0x200000 + n * 0x2000 + 0x8
def feTblChk (n : Nat) : Nat := 0x200000 + n * 0x2000 + 0xC
def feTblCrc (n : Nat) : Nat := 0x200000 + n * 0x2000 + 0x10
def feEccCorr (n : Nat) : Nat := 0x200000 + n * 0x2000 + 0x14
def feEccUnc (n : Nat) : Nat := 0x200000 + n * 0x2000 + 0x18
def feLineOut (n : Nat) : Nat := 0x200000 + n * 0x2000 + 0x20
def feMissCnt (n : Nat) : Nat := 0x200000 + n * 0x2000 + 0x24
def fePartCnt (n : Nat) : Nat := 0x200000 + n * 0x2000 + 0x28
def feLateCnt (n : Nat) : Nat := 0x200000 + n * 0x2000 + 0x2C
def feDupCnt (n : Nat) : Nat := 0x200000 + n * 0x2000 + 0x30
def feUnexpCnt (n : Nat) : Nat := 0x200000 + n * 0x2000 + 0x34
def feLnoGap (n : Nat) : Nat := 0x200000 + n * 0x2000 + 0x38
def feSatCnt (n : Nat) : Nat := 0x200000 + n * 0x2000 + 0x3C
def feNdpxCnt (n : Nat) : Nat := 0x200000 + n * 0x2000 + 0x40
def feOvfCnt (n : Nat) : Nat := 0x200000 + n * 0x2000 + 0x44
def feJcfg (b n : Nat) : Nat := 0x200400 + n * 0x2000 + b * 0x200
def feCrop (b n : Nat) : Nat := 0x200400 + n * 0x2000 + b * 0x200 + 0x4
def feBinTmo (b n : Nat) : Nat := 0x200400 + n * 0x2000 + b * 0x200 + 0x8
def feChmap (b n : Nat) : Nat := 0x200400 + n * 0x2000 + b * 0x200 + 0xC
def feMat (b n : Nat) (k : Nat) : Nat := 0x200400 + n * 0x2000 + b * 0x200 + 0x10 + k * 4
def feOfs0 (b n : Nat) : Nat := 0x200400 + n * 0x2000 + b * 0x200 + 0x30
def feOfs1 (b n : Nat) : Nat := 0x200400 + n * 0x2000 + b * 0x200 + 0x34
def stcStat : Nat := 0x300000
def stcBseq : Nat := 0x300000 + 0x4
def stcWlineCnt : Nat := 0x300000 + 0x10
def stcBandCnt : Nat := 0x300000 + 0x14
def stcNdpxCnt : Nat := 0x300000 + 0x18
def stcExpireCnt : Nat := 0x300000 + 0x1C
def stcShortCnt : Nat := 0x300000 + 0x20
def stcNorepCnt : Nat := 0x300000 + 0x24
def stcSkipCnt : Nat := 0x300000 + 0x28
def stcWeb (b : Nat) : Nat := 0x301000 + b * 0x1000
def stcHXs (b n : Nat) : Nat := 0x301100 + b * 0x1000 + n * 0x100
def stcHXe (b n : Nat) : Nat := 0x301100 + b * 0x1000 + n * 0x100 + 0x4
def stcHGeom (b n : Nat) : Nat := 0x301100 + b * 0x1000 + n * 0x100 + 0x8
def stcHBlend (b n : Nat) : Nat := 0x301100 + b * 0x1000 + n * 0x100 + 0xC
def stcHK (b n : Nat) (j : Nat) : Nat := 0x301100 + b * 0x1000 + n * 0x100 + 0x20 + j * 4
def ieStat : Nat := 0x400000
def ieEvt : Nat := 0x400000 + 0x4
def ieRepeat : Nat := 0x400000 + 0x8
def ieLatMax : Nat := 0x400000 + 0xC
def ieBandCnt : Nat := 0x400000 + 0x10
def ieNorepCnt : Nat := 0x400000 + 0x14
def ieTileCnt : Nat := 0x400000 + 0x18
def ieUninspCnt : Nat := 0x400000 + 0x1C
def ieHoldCnt : Nat := 0x400000 + 0x20
def ieReglostCnt : Nat := 0x400000 + 0x24
def ieBlobCnt : Nat := 0x400000 + 0x28
def ieBlobOvfCnt : Nat := 0x400000 + 0x2C
def ieMemerrCnt : Nat := 0x400000 + 0x30
def ieFidHit : Nat := 0x400000 + 0x34
def ieFidMiss : Nat := 0x400000 + 0x38
def ieFidLate : Nat := 0x400000 + 0x3C
def ieLateCnt : Nat := 0x400000 + 0x40
def ieRingClamp : Nat := 0x400000 + 0x44
def ieRingWait : Nat := 0x400000 + 0x48
def ieBadruleCnt : Nat := 0x400000 + 0x4C
def ieJcfg (b : Nat) : Nat := 0x410000 + b * 0x10000
def ieRefBase (b : Nat) : Nat := 0x410000 + b * 0x10000 + 0x4
def ieRefStride (b : Nat) : Nat := 0x410000 + b * 0x10000 + 0x8
def ieRefW (b : Nat) : Nat := 0x410000 + b * 0x10000 + 0xC
def ieRefH (b : Nat) : Nat := 0x410000 + b * 0x10000 + 0x10
def ieRefX0 (b : Nat) : Nat := 0x410000 + b * 0x10000 + 0x14
def ieRefL0 (b : Nat) : Nat := 0x410000 + b * 0x10000 + 0x18
def ieRuleBase (b : Nat) : Nat := 0x410000 + b * 0x10000 + 0x1C
def ieRuleTy (b : Nat) : Nat := 0x410000 + b * 0x10000 + 0x20
def ieRepLines (b : Nat) : Nat := 0x410000 + b * 0x10000 + 0x24
def ieFieldBase (b : Nat) : Nat := 0x410000 + b * 0x10000 + 0x28
def ieReg (b : Nat) : Nat := 0x410000 + b * 0x10000 + 0x2C
def ieRegw (b : Nat) : Nat := 0x410000 + b * 0x10000 + 0x30
def ieFidPos (b : Nat) : Nat := 0x410000 + b * 0x10000 + 0x34
def ieFidLine (b : Nat) : Nat := 0x410000 + b * 0x10000 + 0x38
def ieFidCfg (b : Nat) : Nat := 0x410000 + b * 0x10000 + 0x3C
def ieClass0 (b : Nat) : Nat := 0x410000 + b * 0x10000 + 0x200
def ieClass (b : Nat) (k : Nat) : Nat := 0x410000 + b * 0x10000 + 0x204 + k * 4
def ieFidt (b : Nat) (i : Nat) : Nat := 0x410000 + b * 0x10000 + 0x400 + i * 4
def ieLut (b : Nat) (j : Nat) : Nat := 0x410000 + b * 0x10000 + 0x800 + j * 4
def csStat : Nat := 0x430000
def csDseq : Nat := 0x430000 + 0x4
def csTileCnt : Nat := 0x430000 + 0x10
def csDefCnt : Nat := 0x430000 + 0x14
def csDeOverCnt : Nat := 0x430000 + 0x18
def csDropCnt : Nat := 0x430000 + 0x1C
def csFewCnt : Nat := 0x430000 + 0x20
def csAlarmSup : Nat := 0x430000 + 0x24
def csDeMax : Nat := 0x430000 + 0x28
def csCfg (b : Nat) : Nat := 0x440000 + b * 0x10000
def csXyz (b : Nat) (k : Nat) : Nat := 0x440000 + b * 0x10000 + 0x4 + k * 4
def jobStat : Nat := 0x500000
def jobCmd : Nat := 0x500000 + 0x4
def jobArm : Nat := 0x500000 + 0x8
def jobLead : Nat := 0x500000 + 0xC
def jobEncLo : Nat := 0x500000 + 0x10
def jobEncHi : Nat := 0x500000 + 0x14
def jobPairCfg : Nat := 0x500000 + 0x18
def jobDigest : Nat := 0x500000 + 0x1C
def jobEvt : Nat := 0x500000 + 0x20
def jobChk : Nat := 0x500000 + 0x24
def jobLoadUl : Nat := 0x500000 + 0x28
def jobLoadMem : Nat := 0x500000 + 0x2C
def jobLimMem : Nat := 0x500000 + 0x30
def jobLoadClk : Nat := 0x500000 + 0x34
def jobCommitTrig : Nat := 0x500000 + 0x38
def jobPostponeCnt : Nat := 0x500000 + 0x3C
def jobWrPend : Nat := 0x500000 + 0x40
def jobVcfg : Nat := 0x500000 + 0x44
def jobVstat : Nat := 0x500000 + 0x48
def jobRefCrc : Nat := 0x500000 + 0x4C
def jobRuleCrc : Nat := 0x500000 + 0x50
def jobFeCrc (n : Nat) : Nat := 0x500000 + 0x54 + n * 4
def jobPortOff : Nat := 0x500000 + 0x74
def jobProdOff : Nat := 0x500000 + 0x78
def shpStat : Nat := 0xA0000
def shpEvt : Nat := 0xA0000 + 0x4
def shpCtrl : Nat := 0xA0000 + 0x8
def shpBudgetW : Nat := 0xA0000 + 0xC
def shpBaseW : Nat := 0xA0000 + 0x10
def shpTherm : Nat := 0xA0000 + 0x14
def shpEcyc : Nat := 0xA0000 + 0x18
def shpNeed : Nat := 0xA0000 + 0x1C
def shpCap : Nat := 0xA0000 + 0x20
def shpRem : Nat := 0xA0000 + 0x24
def shpFlockPwr : Nat := 0xA0000 + 0x28
def shpCStat (k : Nat) : Nat := 0xA0100 + k * 0x20
def shpCTemp0 (k : Nat) : Nat := 0xA0100 + k * 0x20 + 0x4
def shpCTemp1 (k : Nat) : Nat := 0xA0100 + k * 0x20 + 0x8
def shpCPwr (k : Nat) : Nat := 0xA0100 + k * 0x20 + 0xC
def shpCMap0 (k : Nat) : Nat := 0xA0100 + k * 0x20 + 0x10
def shpCMap1 (k : Nat) : Nat := 0xA0100 + k * 0x20 + 0x14
def shpCLimit (k : Nat) : Nat := 0xA0100 + k * 0x20 + 0x18
def shpStart (f : Nat) : Nat := 0xA0000 + 0x200 + f * 4
def shpDefer (f : Nat) : Nat := 0xA0000 + 0x210 + f * 4
def shpDrop (f : Nat) : Nat := 0xA0000 + 0x220 + f * 4
def shpStepDn : Nat := 0xA0000 + 0x230
def shpStepUp : Nat := 0xA0000 + 0x234
def shpFloorCnt : Nat := 0xA0000 + 0x238
def sspStat : Nat := 0x1A0000
def sspEvt : Nat := 0x1A0000 + 0x4
def sspCfg : Nat := 0x1A0000 + 0x8
def sspEtype : Nat := 0x1A0000 + 0xC
def sspDmacLo : Nat := 0x1A0000 + 0x10
def sspDmacHi : Nat := 0x1A0000 + 0x14
def sspDip4 : Nat := 0x1A0000 + 0x18
def sspDip6 (i : Nat) : Nat := 0x1A0000 + 0x1C + i * 4
def sspUdp : Nat := 0x1A0000 + 0x2C
def sspPace : Nat := 0x1A0000 + 0x30
def sspRingBase : Nat := 0x1A0000 + 0x34
def sspRingSize : Nat := 0x1A0000 + 0x38
def sspPseq (t : Nat) : Nat := 0x1A0000 + 0x40 + t * 4
def sspTx (t : Nat) : Nat := 0x1A0000 + 0x60 + t * 4
def sspDrop (t : Nat) : Nat := 0x1A0000 + 0x80 + t * 4
def sspWithheld : Nat := 0x1A0000 + 0xA0
def sspTrunc : Nat := 0x1A0000 + 0xA4
def sspSyncCnt : Nat := 0x1A0000 + 0xA8
def sspPsel (b : Nat) : Nat := 0x1A1000 + b * 0x1000
def sspP0Cfg (b : Nat) : Nat := 0x1A1000 + b * 0x1000 + 0x4
def sspP1Cfg (b : Nat) : Nat := 0x1A1000 + b * 0x1000 + 0x8
def sspRoi (b : Nat) (i : Nat) : Nat := 0x1A1000 + b * 0x1000 + 0x10 + i * 4
def ulCtrl : Nat := 0x190000
def ulStat : Nat := 0x190000 + 0x4
def ulEvt : Nat := 0x190000 + 0x8
def ulMacLo : Nat := 0x190000 + 0xC
def ulMacHi : Nat := 0x190000 + 0x10
def ulVlan : Nat := 0x190000 + 0x14
def ulIp4 : Nat := 0x190000 + 0x18
def ulIp6 (i : Nat) : Nat := 0x190000 + 0x1C + i * 4
def ulScp : Nat := 0x190000 + 0x2C
def ulLaneThr : Nat := 0x190000 + 0x30
def ulTsAdj : Nat := 0x190000 + 0x34
def ulFecCorr : Nat := 0x190000 + 0x40
def ulFecUncorr : Nat := 0x190000 + 0x44
def ulTxFrm : Nat := 0x190000 + 0x48
def ulRxFrm : Nat := 0x190000 + 0x4C
def ulRxFcs : Nat := 0x190000 + 0x50
def ulRxDrop : Nat := 0x190000 + 0x54
def ulRxPause : Nat := 0x190000 + 0x58
def ulDownCnt : Nat := 0x190000 + 0x5C
def orbCtrl : Nat := 0x80000
def orbStat : Nat := 0x80000 + 0x4
def orbEvt : Nat := 0x80000 + 0x8
def orbNowNs : Nat := 0x80000 + 0xC
def orbNowSlo : Nat := 0x80000 + 0x10
def orbNowShi : Nat := 0x80000 + 0x14
def orbNowFrac : Nat := 0x80000 + 0x18
def orbNomFrac : Nat := 0x80000 + 0x1C
def orbNomNs : Nat := 0x80000 + 0x20
def orbIncrFrac : Nat := 0x80000 + 0x24
def orbIncrNs : Nat := 0x80000 + 0x28
def orbSlew : Nat := 0x80000 + 0x2C
def orbStep : Nat := 0x80000 + 0x30
def orbJump : Nat := 0x80000 + 0x34
def orbAsym : Nat := 0x80000 + 0x38
def orbOffset : Nat := 0x80000 + 0x3C
def orbMpd : Nat := 0x80000 + 0x40
def orbSlewRem : Nat := 0x80000 + 0x44
def orbSetNs : Nat := 0x80000 + 0x48
def orbSetSlo : Nat := 0x80000 + 0x4C
def orbSetShi : Nat := 0x80000 + 0x50
def orbCmd : Nat := 0x80000 + 0x54
def orbPps : Nat := 0x80000 + 0x58
def orbPpsinNs : Nat := 0x80000 + 0x5C
def orbPpsinSlo : Nat := 0x80000 + 0x60
def orbPpsinShi : Nat := 0x80000 + 0x64
def orbSyncCnt : Nat := 0x80000 + 0x70
def orbJumpCnt : Nat := 0x80000 + 0x74
def cmtStat : Nat := 0x90000
def cmtEvt : Nat := 0x90000 + 0x4
def cmtEncCfg : Nat := 0x90000 + 0x8
def cmtSheetCfg : Nat := 0x90000 + 0xC
def cmtEncLo (e : Nat) : Nat := 0x90000 + 0x10 + e * 8
def cmtEncHi (e : Nat) : Nat := 0x90000 + 0x14 + e * 8
def cmtNextId : Nat := 0x90000 + 0x20
def cmtVel : Nat := 0x90000 + 0x24
def cmtPairCfg : Nat := 0x90000 + 0x28
def cmtHost : Nat := 0x90000 + 0x2C
def cmtHostTlo : Nat := 0x90000 + 0x30
def cmtHostThi : Nat := 0x90000 + 0x34
def cmtTrigCnt : Nat := 0x90000 + 0x40
def cmtEncErr0 : Nat := 0x90000 + 0x44
def cmtEncErr1 : Nat := 0x90000 + 0x48
def cmtOvrDly : Nat := 0x90000 + 0x4C
def cmtOvrDrop : Nat := 0x90000 + 0x50
def cmtMarkIgn : Nat := 0x90000 + 0x54
def cmtMarkMiss : Nat := 0x90000 + 0x58
def cmtPoLate : Nat := 0x90000 + 0x5C
def cmtPoMiss : Nat := 0x90000 + 0x60
def cmtPoMerge : Nat := 0x90000 + 0x64
def cmtPairDev : Nat := 0x90000 + 0x68
def cmtOutCfg (k : Nat) : Nat := 0x90100 + k * 0x10
def cmtOutDist (k : Nat) : Nat := 0x90100 + k * 0x10 + 0x4
def cmtOutWin (k : Nat) : Nat := 0x90100 + k * 0x10 + 0x8
def cmtTcfg (b : Nat) : Nat := 0x91000 + b * 0x1000
def cmtPitch (b : Nat) : Nat := 0x91000 + b * 0x1000 + 0x4
def cmtFmax (b : Nat) : Nat := 0x91000 + b * 0x1000 + 0x8
def cmtTdly (b : Nat) : Nat := 0x91000 + b * 0x1000 + 0xC
def cmtMarkOfs (b : Nat) : Nat := 0x91000 + b * 0x1000 + 0x10
def cmtTimer (b : Nat) : Nat := 0x91000 + b * 0x1000 + 0x14
def scpEpoch : Nat := 0x8000
def scpSum : Nat := 0x8000 + 0x4
def scpIntEn : Nat := 0x8000 + 0x8
def scpEvtCfg : Nat := 0x8000 + 0xC
def scpSession : Nat := 0x8000 + 0x10
def scpNonce : Nat := 0x8000 + 0x14
def scpRxCmd : Nat := 0x8000 + 0x20
def scpRxBad : Nat := 0x8000 + 0x24
def scpRej : Nat := 0x8000 + 0x28
def scpReplay : Nat := 0x8000 + 0x2C
def scpEvtTx : Nat := 0x8000 + 0x30
def dmaStat : Nat := 0x50000
def dmaRetryMax : Nat := 0x50000 + 0x4
def dmaRate : Nat := 0x50000 + 0x8
def dmaSlots : Nat := 0x50000 + 0xC
def dmaHaltCnt : Nat := 0x50000 + 0x10
def dmaChCtrl (n : Nat) : Nat := 0x50100 + n * 0x40
def dmaChCfg (n : Nat) : Nat := 0x50100 + n * 0x40 + 0x4
def dmaChStartLo (n : Nat) : Nat := 0x50100 + n * 0x40 + 0x8
def dmaChStartHi (n : Nat) : Nat := 0x50100 + n * 0x40 + 0xC
def dmaChStat (n : Nat) : Nat := 0x50100 + n * 0x40 + 0x10
def dmaChPcLo (n : Nat) : Nat := 0x50100 + n * 0x40 + 0x14
def dmaChPcHi (n : Nat) : Nat := 0x50100 + n * 0x40 + 0x18
def dmaChDoorbell (n : Nat) : Nat := 0x50100 + n * 0x40 + 0x1C
def dmaChDbcnt (n : Nat) : Nat := 0x50100 + n * 0x40 + 0x20
def dmaChErrLo (n : Nat) : Nat := 0x50100 + n * 0x40 + 0x24
def dmaChErrHi (n : Nat) : Nat := 0x50100 + n * 0x40 + 0x28
def dmaChErrCode (n : Nat) : Nat := 0x50100 + n * 0x40 + 0x2C
def dmaChEvseen (n : Nat) : Nat := 0x50100 + n * 0x40 + 0x30
def dmaChBytes (n : Nat) : Nat := 0x50100 + n * 0x40 + 0x34
def cvuCtrl (n : Nat) : Nat := 0x60100 + n * 0x40
def cvuCfg (n : Nat) : Nat := 0x60100 + n * 0x40 + 0x4
def cvuStat (n : Nat) : Nat := 0x60100 + n * 0x40 + 0x8
def cvuData (n : Nat) : Nat := 0x60100 + n * 0x40 + 0xC
def cvuAddrLo (n : Nat) : Nat := 0x60100 + n * 0x40 + 0x10
def cvuAddrHi (n : Nat) : Nat := 0x60100 + n * 0x40 + 0x14
def cvuLen4 (n : Nat) : Nat := 0x60100 + n * 0x40 + 0x18
def cvuExpLo (n : Nat) : Nat := 0x60100 + n * 0x40 + 0x1C
def cvuExpHi (n : Nat) : Nat := 0x60100 + n * 0x40 + 0x20
def cvuResultLo (n : Nat) : Nat := 0x60100 + n * 0x40 + 0x24
def cvuResultHi (n : Nat) : Nat := 0x60100 + n * 0x40 + 0x28
def cvuEvt (n : Nat) : Nat := 0x60100 + n * 0x40 + 0x2C
def cvuAlive (n : Nat) : Nat := 0x60100 + n * 0x40 + 0x30
def cvuFrames (n : Nat) : Nat := 0x60100 + n * 0x40 + 0x34
def cvuMisCnt (n : Nat) : Nat := 0x60100 + n * 0x40 + 0x38
def cvuRepSkip (n : Nat) : Nat := 0x60100 + n * 0x40 + 0x3C
def eqEvt : Nat := 0x70000
def eqCfg (n : Nat) : Nat := 0x70100 + n * 0x40
def eqStat (n : Nat) : Nat := 0x70100 + n * 0x40 + 0x4
def eqRptr (n : Nat) : Nat := 0x70100 + n * 0x40 + 0x8
def eqWptr (n : Nat) : Nat := 0x70100 + n * 0x40 + 0xC
def eqRseq (n : Nat) : Nat := 0x70100 + n * 0x40 + 0x10
def eqPop (n : Nat) : Nat := 0x70100 + n * 0x40 + 0x14
def eqWcmd (n : Nat) : Nat := 0x70100 + n * 0x40 + 0x18
def eqWdata (n : Nat) : Nat := 0x70100 + n * 0x40 + 0x1C
def eqLost (n : Nat) : Nat := 0x70100 + n * 0x40 + 0x20
def clkStat : Nat := 0x10000
def clkEvt : Nat := 0x10000 + 0x4
def clkCfg : Nat := 0x10000 + 0x8
def clkCmd : Nat := 0x10000 + 0xC
def clkStrap : Nat := 0x10000 + 0x10
def clkFault : Nat := 0x10000 + 0x14
def clkCnt (i : Nat) : Nat := 0x10000 + 0x20 + i * 4
def fcStat : Nat := 0x20000
def fcPend : Nat := 0x20000 + 0x4
def fcCtrl : Nat := 0x20000 + 0x8
def fcFirst : Nat := 0x20000 + 0xC
def fcLast : Nat := 0x20000 + 0x18
def fcFirstNs : Nat := 0x20000 + 0x10
def fcFirstSlo : Nat := 0x20000 + 0x14
def fcLvl : Nat := 0x20000 + 0x1C
def fcTrans : Nat := 0x20000 + 0x20
def fcEsccap : Nat := 0x20000 + 0x24
def fcWearLim : Nat := 0x20000 + 0x28
def fcInject : Nat := 0x20000 + 0x2C
def fcCnt (c : Nat) : Nat := 0x20000 + 0x40 + c * 4
def plStat : Nat := 0x180000 + 0x400
def plEvt : Nat := 0x180000 + 0x404
def plCmd : Nat := 0x180000 + 0x408
def plTcfg : Nat := 0x180000 + 0x40C
def plTofs : Nat := 0x180000 + 0x410
def plActDigest : Nat := 0x180000 + 0x414
def plLastDiv : Nat := 0x180000 + 0x418
def plMsgLost : Nat := 0x180000 + 0x420
def plDivCnt : Nat := 0x180000 + 0x424
def plDigMiss : Nat := 0x180000 + 0x428
def plTimeErr : Nat := 0x180000 + 0x42C
def mcCfg (n : Nat) : Nat := 0x800000 + n * 0x10000
def mc0Ctrl : Nat := 0x800000 + 0x4
def mcStat (n : Nat) : Nat := 0x800000 + n * 0x10000 + 0x8
def mcTs (n : Nat) : Nat := 0x800000 + n * 0x10000 + 0xC
def mcTherm (n : Nat) : Nat := 0x800000 + n * 0x10000 + 0x10
def mcTemp (n : Nat) : Nat := 0x800000 + n * 0x10000 + 0x14
def mcCmd (n : Nat) : Nat := 0x800000 + n * 0x10000 + 0x18
def mcRmapIdx (n : Nat) : Nat := 0x800000 + n * 0x10000 + 0x1C
def mcRmapData (n : Nat) : Nat := 0x800000 + n * 0x10000 + 0x20
def mcUeLo (n : Nat) : Nat := 0x800000 + n * 0x10000 + 0x24
def mcUeHi (n : Nat) : Nat := 0x800000 + n * 0x10000 + 0x28
def mcCorr (n : Nat) : Nat := 0x800000 + n * 0x10000 + 0x30
def mcUncorr (n : Nat) : Nat := 0x800000 + n * 0x10000 + 0x34
def mcScrubPass (n : Nat) : Nat := 0x800000 + n * 0x10000 + 0x38
def mcRfmCnt (n : Nat) : Nat := 0x800000 + n * 0x10000 + 0x3C
def glbId : Nat := 0x0
def glbSerialLo : Nat := 0x0 + 0x4
def glbSerialHi : Nat := 0x0 + 0x8
def glbStrap : Nat := 0x0 + 0xC
def glbBootStat : Nat := 0x0 + 0x10
def glbBootCmd : Nat := 0x0 + 0x14
def rstCause : Nat := 0x18000
def rstCfg : Nat := 0x18000 + 0x4
def rstWdtKick : Nat := 0x18000 + 0x8
def rstHold : Nat := 0x18000 + 0xC
def rstMate : Nat := 0x18000 + 0x10
def rstLastFault : Nat := 0x18000 + 0x14
def rstCount : Nat := 0x18000 + 0x18
def rstMateIgn : Nat := 0x18000 + 0x1C
def optStat : Nat := 0x30000
def optEvt : Nat := 0x30000 + 0x4
def optAddr : Nat := 0x30000 + 0x8
def optData : Nat := 0x30000 + 0xC
def optWrCnt : Nat := 0x30000 + 0x10
def secStat : Nat := 0x40000
def secEvt : Nat := 0x40000 + 0x4
def secCmd : Nat := 0x40000 + 0x8
def secSvnRun : Nat := 0x40000 + 0xC
def secSvnMin : Nat := 0x40000 + 0x10
def secAttIdx : Nat := 0x40000 + 0x14
def secChal (i : Nat) : Nat := 0x40000 + 0x20 + i * 4
def secDigest (i : Nat) : Nat := 0x40000 + 0x40 + i * 4
def secImgBaseLo : Nat := 0x40000 + 0x60
def secImgBaseHi : Nat := 0x40000 + 0x64
def secBuf (i : Nat) : Nat := 0x40000 + 0x1000 + i * 4

end R


namespace F

def lnCtrlTestEn (n m : Nat) : Fld := ⟨(R.lnCtrl n m), 7, 1⟩
def lnCtrlLoopback (n m : Nat) : Fld := ⟨(R.lnCtrl n m), 5, 2⟩
def lnCtrlRxInv (n m : Nat) : Fld := ⟨(R.lnCtrl n m), 4, 1⟩
def lnCtrlTxInv (n m : Nat) : Fld := ⟨(R.lnCtrl n m), 3, 1⟩
def lnCtrlPrecodeRx (n m : Nat) : Fld := ⟨(R.lnCtrl n m), 2, 1⟩
def lnCtrlPrecodeTx (n m : Nat) : Fld := ⟨(R.lnCtrl n m), 1, 1⟩
def lnStateSigDet (n m : Nat) : Fld := ⟨(R.lnState n m), 18, 1⟩
def lnStateCdrLock (n m : Nat) : Fld := ⟨(R.lnState n m), 17, 1⟩
def lnStateFrozen (n m : Nat) : Fld := ⟨(R.lnState n m), 16, 1⟩
def lnStateMapped (n m : Nat) : Fld := ⟨(R.lnState n m), 4, 1⟩
def lnStateState (n m : Nat) : Fld := ⟨(R.lnState n m), 0, 4⟩
def lnTxeqAmp (n m : Nat) : Fld := ⟨(R.lnTxeq n m), 29, 3⟩
def lnTxeqCPre2 (n m : Nat) : Fld := ⟨(R.lnTxeq n m), 24, 5⟩
def lnTxeqCPre1 (n m : Nat) : Fld := ⟨(R.lnTxeq n m), 16, 5⟩
def lnTxeqCMain (n m : Nat) : Fld := ⟨(R.lnTxeq n m), 8, 6⟩
def lnTxeqCPost1 (n m : Nat) : Fld := ⟨(R.lnTxeq n m), 0, 5⟩
def lnRxeqVga (n m : Nat) : Fld := ⟨(R.lnRxeq n m), 16, 6⟩
def lnRxeqCtle (n m : Nat) : Fld := ⟨(R.lnRxeq n m), 0, 4⟩
def lnFfe0Pre1 (n m : Nat) : Fld := ⟨(R.lnFfe0 n m), 24, 8⟩
def lnFfe0Post1 (n m : Nat) : Fld := ⟨(R.lnFfe0 n m), 16, 8⟩
def lnFfe0Post2 (n m : Nat) : Fld := ⟨(R.lnFfe0 n m), 8, 8⟩
def lnFfe0Post3 (n m : Nat) : Fld := ⟨(R.lnFfe0 n m), 0, 8⟩
def lnFfe1Pre3 (m : Nat) : Fld := ⟨(R.lnFfe1 m), 24, 8⟩
def lnFfe1Pre2 (m : Nat) : Fld := ⟨(R.lnFfe1 m), 16, 8⟩
def lnFfe1Post4 (m : Nat) : Fld := ⟨(R.lnFfe1 m), 8, 8⟩
def lnFfe1Post5 (m : Nat) : Fld := ⟨(R.lnFfe1 m), 0, 8⟩
def lnFfe2Post6 (m : Nat) : Fld := ⟨(R.lnFfe2 m), 24, 8⟩
def lnFfe2Post7 (m : Nat) : Fld := ⟨(R.lnFfe2 m), 16, 8⟩
def lnFfe2Post8 (m : Nat) : Fld := ⟨(R.lnFfe2 m), 8, 8⟩
def lnDfeH1 (m : Nat) : Fld := ⟨(R.lnDfe m), 0, 8⟩
def lnAdaptAdaptEn (n m : Nat) : Fld := ⟨(R.lnAdapt n m), 31, 1⟩
def lnAdaptFreezeWin (n m : Nat) : Fld := ⟨(R.lnAdapt n m), 20, 8⟩
def lnAdaptResumeWin (n m : Nat) : Fld := ⟨(R.lnAdapt n m), 12, 8⟩
def lnAdaptTdMin (n m : Nat) : Fld := ⟨(R.lnAdapt n m), 0, 10⟩
def lnGuardEyeGood (n m : Nat) : Fld := ⟨(R.lnGuard n m), 8, 8⟩
def lnGuardEyeSnap (n m : Nat) : Fld := ⟨(R.lnGuard n m), 0, 8⟩
def lnEyeEyeSaved (n m : Nat) : Fld := ⟨(R.lnEye n m), 8, 8⟩
def lnEyeEyeLast (n m : Nat) : Fld := ⟨(R.lnEye n m), 0, 8⟩
def lnEvtLos (n m : Nat) : Fld := ⟨(R.lnEvt n m), 4, 1⟩
def lnEvtPrbsLol (n m : Nat) : Fld := ⟨(R.lnEvt n m), 3, 1⟩
def lnEvtSnap (n m : Nat) : Fld := ⟨(R.lnEvt n m), 2, 1⟩
def lnEvtFreeze (n m : Nat) : Fld := ⟨(R.lnEvt n m), 1, 1⟩
def lnEvtCdrLol (n m : Nat) : Fld := ⟨(R.lnEvt n m), 0, 1⟩
def lnSnapCntCount (n m : Nat) : Fld := ⟨(R.lnSnapCnt n m), 0, 16⟩
def lnPrbsCtrlGenEn (n m : Nat) : Fld := ⟨(R.lnPrbsCtrl n m), 31, 1⟩
def lnPrbsCtrlChkEn (n m : Nat) : Fld := ⟨(R.lnPrbsCtrl n m), 30, 1⟩
def lnPrbsCtrlGenPat (n m : Nat) : Fld := ⟨(R.lnPrbsCtrl n m), 24, 4⟩
def lnPrbsCtrlChkPat (n m : Nat) : Fld := ⟨(R.lnPrbsCtrl n m), 20, 4⟩
def lnPrbsCtrlClr (n m : Nat) : Fld := ⟨(R.lnPrbsCtrl n m), 0, 1⟩
def lnPrbsStatLock (n m : Nat) : Fld := ⟨(R.lnPrbsStat n m), 0, 1⟩
def lnPrbsErrLoCountLo (n m : Nat) : Fld := ⟨(R.lnPrbsErrLo n m), 0, 32⟩
def lnPrbsErrHiCountHi (n m : Nat) : Fld := ⟨(R.lnPrbsErrHi n m), 0, 16⟩
def lnPrbsBitsLoCountLo (n m : Nat) : Fld := ⟨(R.lnPrbsBitsLo n m), 0, 32⟩
def lnPrbsBitsHiCountHi (n m : Nat) : Fld := ⟨(R.lnPrbsBitsHi n m), 0, 16⟩
def lnInjMode (n m : Nat) : Fld := ⟨(R.lnInj n m), 30, 2⟩
def lnInjBurstLen (n m : Nat) : Fld := ⟨(R.lnInj n m), 16, 8⟩
def lnInjPeriod (n m : Nat) : Fld := ⟨(R.lnInj n m), 0, 16⟩
def laneRateRate (n : Nat) : Fld := ⟨(R.laneRate n), 0, 2⟩
def spareCondEn (n : Nat) : Fld := ⟨(R.spareCond n), 31, 1⟩
def spareCondInterval (n : Nat) : Fld := ⟨(R.spareCond n), 0, 16⟩
def spareStatRuns (n : Nat) : Fld := ⟨(R.spareStat n), 16, 16⟩
def spareStatUnusable (n : Nat) : Fld := ⟨(R.spareStat n), 2, 1⟩
def spareStatLastFail (n : Nat) : Fld := ⟨(R.spareStat n), 1, 1⟩
def spareStatLastPass (n : Nat) : Fld := ⟨(R.spareStat n), 0, 1⟩
def linkCtrlEn (n : Nat) : Fld := ⟨(R.linkCtrl n), 31, 1⟩
def linkCtrlRetryNow (n : Nat) : Fld := ⟨(R.linkCtrl n), 30, 1⟩
def linkCtrlIdleReq (n : Nat) : Fld := ⟨(R.linkCtrl n), 28, 2⟩
def linkCtrlPrecodeReq (n : Nat) : Fld := ⟨(R.linkCtrl n), 27, 1⟩
def linkCtrlExpected (n : Nat) : Fld := ⟨(R.linkCtrl n), 26, 1⟩
def linkStateLastFailPhase (n : Nat) : Fld := ⟨(R.linkState n), 28, 4⟩
def linkStateAttempts (n : Nat) : Fld := ⟨(R.linkState n), 16, 12⟩
def linkStateBackoffMs (n : Nat) : Fld := ⟨(R.linkState n), 4, 12⟩
def linkStateState (n : Nat) : Fld := ⟨(R.linkState n), 0, 4⟩
def linkEvtSwapReq (n : Nat) : Fld := ⟨(R.linkEvt n), 10, 1⟩
def linkEvtAmLoss (n : Nat) : Fld := ⟨(R.linkEvt n), 9, 1⟩
def linkEvtLatJump (n : Nat) : Fld := ⟨(R.linkEvt n), 8, 1⟩
def linkEvtSwapFail (n : Nat) : Fld := ⟨(R.linkEvt n), 7, 1⟩
def linkEvtSwapDone (n : Nat) : Fld := ⟨(R.linkEvt n), 6, 1⟩
def linkEvtCapMismatch (n : Nat) : Fld := ⟨(R.linkEvt n), 5, 1⟩
def linkEvtTrainTo (n : Nat) : Fld := ⟨(R.linkEvt n), 4, 1⟩
def linkEvtHbLost (n : Nat) : Fld := ⟨(R.linkEvt n), 3, 1⟩
def linkEvtUnplug (n : Nat) : Fld := ⟨(R.linkEvt n), 2, 1⟩
def linkEvtSeek (n : Nat) : Fld := ⟨(R.linkEvt n), 1, 1⟩
def linkEvtUp (n : Nat) : Fld := ⟨(R.linkEvt n), 0, 1⟩
def linkCfgHeadId (n : Nat) : Fld := ⟨(R.linkCfg n), 24, 8⟩
def linkCfgTimePer (n : Nat) : Fld := ⟨(R.linkCfg n), 16, 8⟩
def linkCfgProbePer (n : Nat) : Fld := ⟨(R.linkCfg n), 8, 8⟩
def linkCfgTsTol (n : Nat) : Fld := ⟨(R.linkCfg n), 0, 8⟩
def latLDown (n : Nat) : Fld := ⟨(R.lat n), 0, 24⟩
def headTrigTHeadTrig (n : Nat) : Fld := ⟨(R.headTrig n), 0, 32⟩
def swapCmdGo (n : Nat) : Fld := ⟨(R.swapCmd n), 31, 1⟩
def swapCmdLog (n : Nat) : Fld := ⟨(R.swapCmd n), 0, 2⟩
def swapStatBusy (n : Nat) : Fld := ⟨(R.swapStat n), 31, 1⟩
def swapStatStep (n : Nat) : Fld := ⟨(R.swapStat n), 28, 3⟩
def swapStatResult (n : Nat) : Fld := ⟨(R.swapStat n), 24, 4⟩
def swapStatCount (n : Nat) : Fld := ⟨(R.swapStat n), 0, 16⟩
def hregAddrAddr (n : Nat) : Fld := ⟨(R.hregAddr n), 0, 32⟩
def hregDataData (n : Nat) : Fld := ⟨(R.hregData n), 0, 32⟩
def hregCmdOp (n : Nat) : Fld := ⟨(R.hregCmd n), 30, 2⟩
def hregStatBusy (n : Nat) : Fld := ⟨(R.hregStat n), 31, 1⟩
def hregStatDone (n : Nat) : Fld := ⟨(R.hregStat n), 30, 1⟩
def hregStatTag (n : Nat) : Fld := ⟨(R.hregStat n), 8, 8⟩
def hregStatCode (n : Nat) : Fld := ⟨(R.hregStat n), 0, 8⟩
def laneThrSymThr (n : Nat) : Fld := ⟨(R.laneThr n), 0, 16⟩
def fecCorrCount (n : Nat) : Fld := ⟨(R.fecCorr n), 0, 32⟩
def fecUncorrCount (n : Nat) : Fld := ⟨(R.fecUncorr n), 0, 32⟩
def lsymCount (n : Nat) (k : Nat) : Fld := ⟨(R.lsym n k), 0, 32⟩
def frameErrCount (n : Nat) : Fld := ⟨(R.frameErr n), 0, 32⟩
def fecDropCount (n : Nat) : Fld := ⟨(R.fecDrop n), 0, 32⟩
def crcErrCount (n : Nat) : Fld := ⟨(R.crcErr n), 0, 32⟩
def typeErrCount (n : Nat) : Fld := ⟨(R.typeErr n), 0, 32⟩
def osErrCount (n : Nat) : Fld := ⟨(R.osErr n), 0, 32⟩
def idErrCount (n : Nat) : Fld := ⟨(R.idErr n), 0, 32⟩
def fmtErrCount (n : Nat) : Fld := ⟨(R.fmtErr n), 0, 32⟩
def aliveRepCount (n : Nat) : Fld := ⟨(R.aliveRep n), 0, 32⟩
def aliveSkipCount (n : Nat) : Fld := ⟨(R.aliveSkip n), 0, 32⟩
def tsErrCount (n : Nat) : Fld := ⟨(R.tsErr n), 0, 32⟩
def trigLateCount (n : Nat) : Fld := ⟨(R.trigLate n), 0, 32⟩
def lineCntCount (n : Nat) : Fld := ⟨(R.lineCnt n), 0, 32⟩
def capBytes (n : Nat) (k : Nat) : Fld := ⟨(R.cap n k), 0, 32⟩
def feStatBankAct (n : Nat) : Fld := ⟨(R.feStat n), 31, 1⟩
def feStatOldBusy (n : Nat) : Fld := ⟨(R.feStat n), 30, 1⟩
def feTblAddrBank (n : Nat) : Fld := ⟨(R.feTblAddr n), 31, 1⟩
def feTblAddrIndex (n : Nat) : Fld := ⟨(R.feTblAddr n), 0, 16⟩
def feTblDataEntry (n : Nat) : Fld := ⟨(R.feTblData n), 0, 32⟩
def feTblChkGo (n : Nat) : Fld := ⟨(R.feTblChk n), 31, 1⟩
def feTblChkDone (n : Nat) : Fld := ⟨(R.feTblChk n), 30, 1⟩
def feTblChkStale (n : Nat) : Fld := ⟨(R.feTblChk n), 29, 1⟩
def feTblChkBank (n : Nat) : Fld := ⟨(R.feTblChk n), 28, 1⟩
def feTblCrcCrc (n : Nat) : Fld := ⟨(R.feTblCrc n), 0, 32⟩
def feEccCorrCount (n : Nat) : Fld := ⟨(R.feEccCorr n), 0, 32⟩
def feEccUncCount (n : Nat) : Fld := ⟨(R.feEccUnc n), 0, 32⟩
def feLineOutCount (n : Nat) : Fld := ⟨(R.feLineOut n), 0, 32⟩
def feMissCntCount (n : Nat) : Fld := ⟨(R.feMissCnt n), 0, 32⟩
def fePartCntCount (n : Nat) : Fld := ⟨(R.fePartCnt n), 0, 32⟩
def feLateCntCount (n : Nat) : Fld := ⟨(R.feLateCnt n), 0, 32⟩
def feDupCntCount (n : Nat) : Fld := ⟨(R.feDupCnt n), 0, 32⟩
def feUnexpCntCount (n : Nat) : Fld := ⟨(R.feUnexpCnt n), 0, 32⟩
def feLnoGapCount (n : Nat) : Fld := ⟨(R.feLnoGap n), 0, 32⟩
def feSatCntCount (n : Nat) : Fld := ⟨(R.feSatCnt n), 0, 32⟩
def feNdpxCntCount (n : Nat) : Fld := ⟨(R.feNdpxCnt n), 0, 32⟩
def feOvfCntCount (n : Nat) : Fld := ⟨(R.feOvfCnt n), 0, 32⟩
def feJcfgPortEn (b n : Nat) : Fld := ⟨(R.feJcfg b n), 31, 1⟩
def feJcfgSize (b n : Nat) : Fld := ⟨(R.feJcfg b n), 28, 2⟩
def feJcfgNch (b n : Nat) : Fld := ⟨(R.feJcfg b n), 26, 2⟩
def feJcfgMissFill (b n : Nat) : Fld := ⟨(R.feJcfg b n), 25, 1⟩
def feJcfgNpix (b n : Nat) : Fld := ⟨(R.feJcfg b n), 0, 15⟩
def feCropLen (b n : Nat) : Fld := ⟨(R.feCrop b n), 16, 15⟩
def feCropStart (b n : Nat) : Fld := ⟨(R.feCrop b n), 0, 14⟩
def feBinTmoBin (b n : Nat) : Fld := ⟨(R.feBinTmo b n), 30, 2⟩
def feBinTmoLineTmo (b n : Nat) : Fld := ⟨(R.feBinTmo b n), 0, 10⟩
def feChmapCh3 (b n : Nat) : Fld := ⟨(R.feChmap b n), 12, 4⟩
def feChmapCh2 (b n : Nat) : Fld := ⟨(R.feChmap b n), 8, 4⟩
def feChmapCh1 (b n : Nat) : Fld := ⟨(R.feChmap b n), 4, 4⟩
def feChmapCh0 (b n : Nat) : Fld := ⟨(R.feChmap b n), 0, 4⟩
def feMatMHi (b n : Nat) (k : Nat) : Fld := ⟨(R.feMat b n k), 16, 16⟩
def feMatMLo (b n : Nat) (k : Nat) : Fld := ⟨(R.feMat b n k), 0, 16⟩
def feOfs0Ofs1 (b n : Nat) : Fld := ⟨(R.feOfs0 b n), 16, 16⟩
def feOfs0Ofs0 (b n : Nat) : Fld := ⟨(R.feOfs0 b n), 0, 16⟩
def feOfs1Ofs3 (b n : Nat) : Fld := ⟨(R.feOfs1 b n), 16, 16⟩
def feOfs1Ofs2 (b n : Nat) : Fld := ⟨(R.feOfs1 b n), 0, 16⟩
def stcStatBankAct : Fld := ⟨R.stcStat, 31, 1⟩
def stcStatOldBusy : Fld := ⟨R.stcStat, 30, 1⟩
def stcStatStoreKib : Fld := ⟨R.stcStat, 0, 16⟩
def stcBseqBseq : Fld := ⟨R.stcBseq, 0, 32⟩
def stcWlineCntCount : Fld := ⟨R.stcWlineCnt, 0, 32⟩
def stcBandCntCount : Fld := ⟨R.stcBandCnt, 0, 32⟩
def stcNdpxCntCount : Fld := ⟨R.stcNdpxCnt, 0, 32⟩
def stcExpireCntCount : Fld := ⟨R.stcExpireCnt, 0, 32⟩
def stcShortCntCount : Fld := ⟨R.stcShortCnt, 0, 32⟩
def stcNorepCntCount : Fld := ⟨R.stcNorepCnt, 0, 32⟩
def stcSkipCntCount : Fld := ⟨R.stcSkipCnt, 0, 32⟩
def stcWebWidth (b : Nat) : Fld := ⟨(R.stcWeb b), 0, 18⟩
def stcHXsXs (b n : Nat) : Fld := ⟨(R.stcHXs b n), 0, 17⟩
def stcHXeXe (b n : Nat) : Fld := ⟨(R.stcHXe b n), 0, 17⟩
def stcHGeomUse (b n : Nat) : Fld := ⟨(R.stcHGeom b n), 31, 1⟩
def stcHGeomSegLog2 (b n : Nat) : Fld := ⟨(R.stcHGeom b n), 16, 4⟩
def stcHGeomLofs (b n : Nat) : Fld := ⟨(R.stcHGeom b n), 0, 8⟩
def stcHBlendL (b n : Nat) : Fld := ⟨(R.stcHBlend b n), 28, 4⟩
def stcHBlendB0 (b n : Nat) : Fld := ⟨(R.stcHBlend b n), 0, 17⟩
def stcHKK (b n : Nat) (j : Nat) : Fld := ⟨(R.stcHK b n j), 0, 24⟩
def ieStatBankAct : Fld := ⟨R.ieStat, 31, 1⟩
def ieStatOldBusy : Fld := ⟨R.ieStat, 30, 1⟩
def ieStatAcq : Fld := ⟨R.ieStat, 28, 2⟩
def ieStatValidPct : Fld := ⟨R.ieStat, 20, 8⟩
def ieEvtRegLost : Fld := ⟨R.ieEvt, 7, 1⟩
def ieEvtMemErr : Fld := ⟨R.ieEvt, 6, 1⟩
def ieEvtBlobOvf : Fld := ⟨R.ieEvt, 5, 1⟩
def ieEvtLate : Fld := ⟨R.ieEvt, 4, 1⟩
def ieEvtFidLost : Fld := ⟨R.ieEvt, 3, 1⟩
def ieEvtFidMiss : Fld := ⟨R.ieEvt, 2, 1⟩
def ieEvtAcqFail : Fld := ⟨R.ieEvt, 1, 1⟩
def ieEvtAcqDone : Fld := ⟨R.ieEvt, 0, 1⟩
def ieRepeatRidx : Fld := ⟨R.ieRepeat, 0, 32⟩
def ieLatMaxMaxUs : Fld := ⟨R.ieLatMax, 0, 16⟩
def ieBandCntCount : Fld := ⟨R.ieBandCnt, 0, 32⟩
def ieNorepCntCount : Fld := ⟨R.ieNorepCnt, 0, 32⟩
def ieTileCntCount : Fld := ⟨R.ieTileCnt, 0, 32⟩
def ieUninspCntCount : Fld := ⟨R.ieUninspCnt, 0, 32⟩
def ieHoldCntCount : Fld := ⟨R.ieHoldCnt, 0, 32⟩
def ieReglostCntCount : Fld := ⟨R.ieReglostCnt, 0, 32⟩
def ieBlobCntCount : Fld := ⟨R.ieBlobCnt, 0, 32⟩
def ieBlobOvfCntCount : Fld := ⟨R.ieBlobOvfCnt, 0, 32⟩
def ieMemerrCntCount : Fld := ⟨R.ieMemerrCnt, 0, 32⟩
def ieFidHitCount : Fld := ⟨R.ieFidHit, 0, 32⟩
def ieFidMissCount : Fld := ⟨R.ieFidMiss, 0, 32⟩
def ieFidLateCount : Fld := ⟨R.ieFidLate, 0, 32⟩
def ieLateCntCount : Fld := ⟨R.ieLateCnt, 0, 32⟩
def ieRingClampCount : Fld := ⟨R.ieRingClamp, 0, 32⟩
def ieRingWaitCount : Fld := ⟨R.ieRingWait, 0, 32⟩
def ieBadruleCntCount : Fld := ⟨R.ieBadruleCnt, 0, 32⟩
def ieJcfgFidEn (b : Nat) : Fld := ⟨(R.ieJcfg b), 31, 1⟩
def ieJcfgConn8 (b : Nat) : Fld := ⟨(R.ieJcfg b), 30, 1⟩
def ieJcfgBankmixInsp (b : Nat) : Fld := ⟨(R.ieJcfg b), 29, 1⟩
def ieJcfgCref (b : Nat) : Fld := ⟨(R.ieJcfg b), 27, 2⟩
def ieRefBaseBase (b : Nat) : Fld := ⟨(R.ieRefBase b), 0, 28⟩
def ieRefStrideStride (b : Nat) : Fld := ⟨(R.ieRefStride b), 0, 20⟩
def ieRefWRefW (b : Nat) : Fld := ⟨(R.ieRefW b), 0, 18⟩
def ieRefHRefH (b : Nat) : Fld := ⟨(R.ieRefH b), 0, 25⟩
def ieRefX0X0 (b : Nat) : Fld := ⟨(R.ieRefX0 b), 0, 32⟩
def ieRefL0L0 (b : Nat) : Fld := ⟨(R.ieRefL0 b), 0, 32⟩
def ieRuleBaseBase (b : Nat) : Fld := ⟨(R.ieRuleBase b), 0, 28⟩
def ieRuleTyTyN (b : Nat) : Fld := ⟨(R.ieRuleTy b), 0, 25⟩
def ieRepLinesRepLines (b : Nat) : Fld := ⟨(R.ieRepLines b), 0, 25⟩
def ieFieldBaseBase (b : Nat) : Fld := ⟨(R.ieFieldBase b), 0, 28⟩
def ieRegConfMin (b : Nat) : Fld := ⟨(R.ieReg b), 24, 8⟩
def ieRegAlphaM1 (b : Nat) : Fld := ⟨(R.ieReg b), 20, 4⟩
def ieRegHoldMax (b : Nat) : Fld := ⟨(R.ieReg b), 16, 4⟩
def ieRegAcqMin (b : Nat) : Fld := ⟨(R.ieReg b), 8, 8⟩
def ieRegwW3 (b : Nat) : Fld := ⟨(R.ieRegw b), 24, 8⟩
def ieRegwW2 (b : Nat) : Fld := ⟨(R.ieRegw b), 16, 8⟩
def ieRegwW1 (b : Nat) : Fld := ⟨(R.ieRegw b), 8, 8⟩
def ieRegwW0 (b : Nat) : Fld := ⟨(R.ieRegw b), 0, 8⟩
def ieFidPosFidRx (b : Nat) : Fld := ⟨(R.ieFidPos b), 0, 17⟩
def ieFidLineFidRl (b : Nat) : Fld := ⟨(R.ieFidLine b), 0, 25⟩
def ieFidCfgFidThr (b : Nat) : Fld := ⟨(R.ieFidCfg b), 24, 8⟩
def ieFidCfgMissMax (b : Nat) : Fld := ⟨(R.ieFidCfg b), 20, 4⟩
def ieClassEn (b : Nat) (k : Nat) : Fld := ⟨(R.ieClass b k), 31, 1⟩
def ieClassSeverity (b : Nat) (k : Nat) : Fld := ⟨(R.ieClass b k), 28, 2⟩
def ieClassDeLim (b : Nat) (k : Nat) : Fld := ⟨(R.ieClass b k), 0, 16⟩
def ieFidtT (b : Nat) (i : Nat) : Fld := ⟨(R.ieFidt b i), 0, 32⟩
def ieLutEHi (b : Nat) (j : Nat) : Fld := ⟨(R.ieLut b j), 16, 16⟩
def ieLutELo (b : Nat) (j : Nat) : Fld := ⟨(R.ieLut b j), 0, 16⟩
def csStatBankAct : Fld := ⟨R.csStat, 31, 1⟩
def csStatOldBusy : Fld := ⟨R.csStat, 30, 1⟩
def csDseqDseq : Fld := ⟨R.csDseq, 0, 32⟩
def csTileCntCount : Fld := ⟨R.csTileCnt, 0, 32⟩
def csDefCntCount : Fld := ⟨R.csDefCnt, 0, 32⟩
def csDeOverCntCount : Fld := ⟨R.csDeOverCnt, 0, 32⟩
def csDropCntCount : Fld := ⟨R.csDropCnt, 0, 32⟩
def csFewCntCount : Fld := ⟨R.csFewCnt, 0, 32⟩
def csAlarmSupCount : Fld := ⟨R.csAlarmSup, 0, 32⟩
def csDeMaxMax : Fld := ⟨R.csDeMax, 0, 16⟩
def csCfgWhite (b : Nat) : Fld := ⟨(R.csCfg b), 31, 1⟩
def csCfgExclDef (b : Nat) : Fld := ⟨(R.csCfg b), 30, 1⟩
def csCfgAlmEn (b : Nat) : Fld := ⟨(R.csCfg b), 29, 1⟩
def csCfgSumEn (b : Nat) : Fld := ⟨(R.csCfg b), 28, 1⟩
def csCfgAlarmMax (b : Nat) : Fld := ⟨(R.csCfg b), 16, 8⟩
def csCfgEqEn (b : Nat) : Fld := ⟨(R.csCfg b), 15, 1⟩
def csCfgEqSel (b : Nat) : Fld := ⟨(R.csCfg b), 13, 2⟩
def csCfgNmin (b : Nat) : Fld := ⟨(R.csCfg b), 0, 9⟩
def csXyzMHi (b : Nat) (k : Nat) : Fld := ⟨(R.csXyz b k), 16, 16⟩
def csXyzMLo (b : Nat) (k : Nat) : Fld := ⟨(R.csXyz b k), 0, 16⟩
def jobStatActBank : Fld := ⟨R.jobStat, 31, 1⟩
def jobStatRun : Fld := ⟨R.jobStat, 30, 1⟩
def jobStatSst : Fld := ⟨R.jobStat, 27, 3⟩
def jobStatSolo : Fld := ⟨R.jobStat, 26, 1⟩
def jobStatHoldReason : Fld := ⟨R.jobStat, 20, 4⟩
def jobStatProfAct : Fld := ⟨R.jobStat, 0, 5⟩
def jobCmdOp : Fld := ⟨R.jobCmd, 28, 4⟩
def jobCmdProfile : Fld := ⟨R.jobCmd, 0, 5⟩
def jobArmTarget : Fld := ⟨R.jobArm, 30, 2⟩
def jobArmStop : Fld := ⟨R.jobArm, 29, 1⟩
def jobArmProf : Fld := ⟨R.jobArm, 0, 5⟩
def jobLeadLead : Fld := ⟨R.jobLead, 0, 16⟩
def jobEncLoEncLo : Fld := ⟨R.jobEncLo, 0, 32⟩
def jobEncHiEncHi : Fld := ⟨R.jobEncHi, 0, 32⟩
def jobPairCfgTmo : Fld := ⟨R.jobPairCfg, 0, 10⟩
def jobDigestDigest : Fld := ⟨R.jobDigest, 0, 32⟩
def jobEvtPairSplit : Fld := ⟨R.jobEvt, 9, 1⟩
def jobEvtStopped : Fld := ⟨R.jobEvt, 8, 1⟩
def jobEvtPortOff : Fld := ⟨R.jobEvt, 7, 1⟩
def jobEvtPostpone : Fld := ⟨R.jobEvt, 6, 1⟩
def jobEvtCommit : Fld := ⟨R.jobEvt, 5, 1⟩
def jobEvtArmFail : Fld := ⟨R.jobEvt, 4, 1⟩
def jobEvtArmed : Fld := ⟨R.jobEvt, 3, 1⟩
def jobEvtVerifyDone : Fld := ⟨R.jobEvt, 2, 1⟩
def jobEvtLoaded : Fld := ⟨R.jobEvt, 0, 1⟩
def jobChkStatus : Fld := ⟨R.jobChk, 24, 8⟩
def jobChkStep : Fld := ⟨R.jobChk, 20, 4⟩
def jobChkPort : Fld := ⟨R.jobChk, 8, 4⟩
def jobChkFailClk : Fld := ⟨R.jobChk, 3, 1⟩
def jobChkFailMem : Fld := ⟨R.jobChk, 2, 1⟩
def jobChkFailUl : Fld := ⟨R.jobChk, 1, 1⟩
def jobChkFailPort : Fld := ⟨R.jobChk, 0, 1⟩
def jobLoadUlMbps : Fld := ⟨R.jobLoadUl, 0, 32⟩
def jobLoadMemMbytes : Fld := ⟨R.jobLoadMem, 0, 32⟩
def jobLimMemMbytes : Fld := ⟨R.jobLimMem, 0, 32⟩
def jobLoadClkMhz : Fld := ⟨R.jobLoadClk, 0, 16⟩
def jobCommitTrigTrig : Fld := ⟨R.jobCommitTrig, 0, 32⟩
def jobPostponeCntCount : Fld := ⟨R.jobPostponeCnt, 0, 32⟩
def jobWrPendCount : Fld := ⟨R.jobWrPend, 0, 16⟩
def jobVcfgCvu : Fld := ⟨R.jobVcfg, 0, 3⟩
def jobVstatBusy : Fld := ⟨R.jobVstat, 31, 1⟩
def jobVstatTgt : Fld := ⟨R.jobVstat, 30, 1⟩
def jobVstatPct : Fld := ⟨R.jobVstat, 23, 7⟩
def jobVstatRefOk : Fld := ⟨R.jobVstat, 3, 1⟩
def jobVstatRefFail : Fld := ⟨R.jobVstat, 2, 1⟩
def jobVstatRuleOk : Fld := ⟨R.jobVstat, 1, 1⟩
def jobVstatRuleFail : Fld := ⟨R.jobVstat, 0, 1⟩
def jobRefCrcCrc : Fld := ⟨R.jobRefCrc, 0, 32⟩
def jobRuleCrcCrc : Fld := ⟨R.jobRuleCrc, 0, 32⟩
def jobFeCrcCrc (n : Nat) : Fld := ⟨(R.jobFeCrc n), 0, 32⟩
def jobPortOffPort : Fld := ⟨R.jobPortOff, 0, 8⟩
def jobProdOffProd : Fld := ⟨R.jobProdOff, 0, 5⟩
def shpStatFloor : Fld := ⟨R.shpStat, 31, 1⟩
def shpStatOver : Fld := ⟨R.shpStat, 30, 1⟩
def shpStatStep3 : Fld := ⟨R.shpStat, 6, 2⟩
def shpStatStep2 : Fld := ⟨R.shpStat, 4, 2⟩
def shpStatStep1 : Fld := ⟨R.shpStat, 2, 2⟩
def shpStatStep0 : Fld := ⟨R.shpStat, 0, 2⟩
def shpEvtSpareIn : Fld := ⟨R.shpEvt, 5, 1⟩
def shpEvtSensorFail : Fld := ⟨R.shpEvt, 4, 1⟩
def shpEvtOverBudget : Fld := ⟨R.shpEvt, 3, 1⟩
def shpEvtFloor : Fld := ⟨R.shpEvt, 2, 1⟩
def shpEvtCeil : Fld := ⟨R.shpEvt, 1, 1⟩
def shpEvtStep : Fld := ⟨R.shpEvt, 0, 1⟩
def shpCtrlF1En : Fld := ⟨R.shpCtrl, 31, 1⟩
def shpCtrlF3En : Fld := ⟨R.shpCtrl, 30, 1⟩
def shpCtrlUpEp : Fld := ⟨R.shpCtrl, 16, 8⟩
def shpCtrlPwrLog2 : Fld := ⟨R.shpCtrl, 8, 3⟩
def shpBudgetWWatts : Fld := ⟨R.shpBudgetW, 0, 8⟩
def shpBaseWWatts : Fld := ⟨R.shpBaseW, 0, 8⟩
def shpThermCeil : Fld := ⟨R.shpTherm, 8, 8⟩
def shpThermHyst : Fld := ⟨R.shpTherm, 0, 4⟩
def shpEcycE2 : Fld := ⟨R.shpEcyc, 20, 10⟩
def shpEcycE1 : Fld := ⟨R.shpEcyc, 10, 10⟩
def shpEcycE0 : Fld := ⟨R.shpEcyc, 0, 10⟩
def shpNeedNeedAct : Fld := ⟨R.shpNeed, 16, 16⟩
def shpNeedNeedStg : Fld := ⟨R.shpNeed, 0, 16⟩
def shpCapCap : Fld := ⟨R.shpCap, 0, 16⟩
def shpRemRem : Fld := ⟨R.shpRem, 0, 32⟩
def shpFlockPwrMw : Fld := ⟨R.shpFlockPwr, 0, 20⟩
def shpCStatStep (k : Nat) : Fld := ⟨(R.shpCStat k), 30, 2⟩
def shpCStatValid (k : Nat) : Fld := ⟨(R.shpCStat k), 24, 4⟩
def shpCStatNact (k : Nat) : Fld := ⟨(R.shpCStat k), 16, 5⟩
def shpCStatTmax (k : Nat) : Fld := ⟨(R.shpCStat k), 0, 16⟩
def shpCTemp0S1 (k : Nat) : Fld := ⟨(R.shpCTemp0 k), 16, 16⟩
def shpCTemp0S0 (k : Nat) : Fld := ⟨(R.shpCTemp0 k), 0, 16⟩
def shpCTemp1S3 (k : Nat) : Fld := ⟨(R.shpCTemp1 k), 16, 16⟩
def shpCTemp1S2 (k : Nat) : Fld := ⟨(R.shpCTemp1 k), 0, 16⟩
def shpCPwrMw (k : Nat) : Fld := ⟨(R.shpCPwr k), 0, 20⟩
def shpCMap0Eng (k : Nat) : Fld := ⟨(R.shpCMap0 k), 0, 32⟩
def shpCMap1Eng16 (k : Nat) : Fld := ⟨(R.shpCMap1 k), 0, 2⟩
def shpCLimitLimit (k : Nat) : Fld := ⟨(R.shpCLimit k), 0, 2⟩
def shpStartCount (f : Nat) : Fld := ⟨(R.shpStart f), 0, 32⟩
def shpDeferCount (f : Nat) : Fld := ⟨(R.shpDefer f), 0, 32⟩
def shpDropCount (f : Nat) : Fld := ⟨(R.shpDrop f), 0, 32⟩
def shpStepDnCount : Fld := ⟨R.shpStepDn, 0, 32⟩
def shpStepUpCount : Fld := ⟨R.shpStepUp, 0, 32⟩
def shpFloorCntCount : Fld := ⟨R.shpFloorCnt, 0, 32⟩
def sspStatBankAct : Fld := ⟨R.sspStat, 31, 1⟩
def sspStatOldBusy : Fld := ⟨R.sspStat, 30, 1⟩
def sspStatRingPct : Fld := ⟨R.sspStat, 8, 8⟩
def sspStatObufPct : Fld := ⟨R.sspStat, 0, 8⟩
def sspEvtSync : Fld := ⟨R.sspEvt, 3, 1⟩
def sspEvtObufFull : Fld := ⟨R.sspEvt, 2, 1⟩
def sspEvtRingFull : Fld := ⟨R.sspEvt, 1, 1⟩
def sspEvtDrop : Fld := ⟨R.sspEvt, 0, 1⟩
def sspCfgTransport : Fld := ⟨R.sspCfg, 30, 2⟩
def sspCfgRtagEn : Fld := ⟨R.sspCfg, 29, 1⟩
def sspCfgDscp : Fld := ⟨R.sspCfg, 16, 6⟩
def sspCfgPkt64 : Fld := ⟨R.sspCfg, 0, 8⟩
def sspEtypeEtype : Fld := ⟨R.sspEtype, 0, 16⟩
def sspDmacLoMacLo : Fld := ⟨R.sspDmacLo, 0, 32⟩
def sspDmacHiMacHi : Fld := ⟨R.sspDmacHi, 0, 16⟩
def sspDip4Addr : Fld := ⟨R.sspDip4, 0, 32⟩
def sspDip6Addr (i : Nat) : Fld := ⟨(R.sspDip6 i), 0, 32⟩
def sspUdpPort : Fld := ⟨R.sspUdp, 0, 16⟩
def sspPaceGbps : Fld := ⟨R.sspPace, 0, 10⟩
def sspRingBaseBase : Fld := ⟨R.sspRingBase, 0, 28⟩
def sspRingSizeMib : Fld := ⟨R.sspRingSize, 0, 13⟩
def sspPseqPseq (t : Nat) : Fld := ⟨(R.sspPseq t), 0, 32⟩
def sspTxCount (t : Nat) : Fld := ⟨(R.sspTx t), 0, 32⟩
def sspDropCount (t : Nat) : Fld := ⟨(R.sspDrop t), 0, 32⟩
def sspWithheldCount : Fld := ⟨R.sspWithheld, 0, 32⟩
def sspTruncCount : Fld := ⟨R.sspTrunc, 0, 32⟩
def sspSyncCntCount : Fld := ⟨R.sspSyncCnt, 0, 32⟩
def sspPselProd (b : Nat) : Fld := ⟨(R.sspPsel b), 0, 5⟩
def sspP0CfgDepth (b : Nat) : Fld := ⟨(R.sspP0Cfg b), 30, 2⟩
def sspP0CfgBin (b : Nat) : Fld := ⟨(R.sspP0Cfg b), 28, 2⟩
def sspP0CfgNroi (b : Nat) : Fld := ⟨(R.sspP0Cfg b), 0, 5⟩
def sspP1CfgRef (b : Nat) : Fld := ⟨(R.sspP1Cfg b), 31, 1⟩
def sspP1CfgDepth (b : Nat) : Fld := ⟨(R.sspP1Cfg b), 29, 2⟩
def sspP1CfgMargin (b : Nat) : Fld := ⟨(R.sspP1Cfg b), 27, 2⟩
def sspP1CfgTmax (b : Nat) : Fld := ⟨(R.sspP1Cfg b), 16, 11⟩
def sspP1CfgCsel (b : Nat) : Fld := ⟨(R.sspP1Cfg b), 12, 4⟩
def sspP1CfgRes (b : Nat) : Fld := ⟨(R.sspP1Cfg b), 0, 12⟩
def sspRoiCsel (b : Nat) (i : Nat) : Fld := ⟨(R.sspRoi b i), 28, 4⟩
def sspRoiW16 (b : Nat) (i : Nat) : Fld := ⟨(R.sspRoi b i), 14, 14⟩
def sspRoiX16 (b : Nat) (i : Nat) : Fld := ⟨(R.sspRoi b i), 0, 13⟩
def ulCtrlEn : Fld := ⟨R.ulCtrl, 31, 1⟩
def ulCtrlRetrain : Fld := ⟨R.ulCtrl, 30, 1⟩
def ulCtrlRate : Fld := ⟨R.ulCtrl, 29, 1⟩
def ulCtrlMode : Fld := ⟨R.ulCtrl, 27, 2⟩
def ulCtrlAnEn : Fld := ⟨R.ulCtrl, 26, 1⟩
def ulCtrlSpareEn : Fld := ⟨R.ulCtrl, 25, 1⟩
def ulCtrlSpareLog : Fld := ⟨R.ulCtrl, 0, 3⟩
def ulStatState : Fld := ⟨R.ulStat, 28, 4⟩
def ulStatMap : Fld := ⟨R.ulStat, 24, 4⟩
def ulEvtAnFail : Fld := ⟨R.ulEvt, 4, 1⟩
def ulEvtSpareFail : Fld := ⟨R.ulEvt, 3, 1⟩
def ulEvtSpareDone : Fld := ⟨R.ulEvt, 2, 1⟩
def ulEvtDown : Fld := ⟨R.ulEvt, 1, 1⟩
def ulEvtUp : Fld := ⟨R.ulEvt, 0, 1⟩
def ulMacLoMacLo : Fld := ⟨R.ulMacLo, 0, 32⟩
def ulMacHiMacHi : Fld := ⟨R.ulMacHi, 0, 16⟩
def ulVlanEn : Fld := ⟨R.ulVlan, 31, 1⟩
def ulVlanPcp : Fld := ⟨R.ulVlan, 12, 3⟩
def ulVlanVid : Fld := ⟨R.ulVlan, 0, 12⟩
def ulIp4Addr : Fld := ⟨R.ulIp4, 0, 32⟩
def ulIp6Addr (i : Nat) : Fld := ⟨(R.ulIp6 i), 0, 32⟩
def ulScpEtype : Fld := ⟨R.ulScp, 16, 16⟩
def ulScpPort : Fld := ⟨R.ulScp, 0, 16⟩
def ulLaneThrSymThr : Fld := ⟨R.ulLaneThr, 0, 16⟩
def ulTsAdjTxAdj : Fld := ⟨R.ulTsAdj, 16, 16⟩
def ulTsAdjRxAdj : Fld := ⟨R.ulTsAdj, 0, 16⟩
def ulFecCorrCount : Fld := ⟨R.ulFecCorr, 0, 32⟩
def ulFecUncorrCount : Fld := ⟨R.ulFecUncorr, 0, 32⟩
def ulTxFrmCount : Fld := ⟨R.ulTxFrm, 0, 32⟩
def ulRxFrmCount : Fld := ⟨R.ulRxFrm, 0, 32⟩
def ulRxFcsCount : Fld := ⟨R.ulRxFcs, 0, 32⟩
def ulRxDropCount : Fld := ⟨R.ulRxDrop, 0, 32⟩
def ulRxPauseCount : Fld := ⟨R.ulRxPause, 0, 32⟩
def ulDownCntCount : Fld := ⟨R.ulDownCnt, 0, 32⟩
def orbCtrlSrc : Fld := ⟨R.orbCtrl, 30, 2⟩
def orbCtrlProfile : Fld := ⟨R.orbCtrl, 29, 1⟩
def orbCtrlMech : Fld := ⟨R.orbCtrl, 28, 1⟩
def orbCtrlTransport : Fld := ⟨R.orbCtrl, 26, 2⟩
def orbCtrlServo : Fld := ⟨R.orbCtrl, 25, 1⟩
def orbCtrlTestTt : Fld := ⟨R.orbCtrl, 24, 1⟩
def orbCtrlF10m : Fld := ⟨R.orbCtrl, 23, 1⟩
def orbCtrlFavg : Fld := ⟨R.orbCtrl, 20, 3⟩
def orbCtrlDomain : Fld := ⟨R.orbCtrl, 0, 8⟩
def orbStatValid : Fld := ⟨R.orbStat, 31, 1⟩
def orbStatHold : Fld := ⟨R.orbStat, 30, 1⟩
def orbStatSlewing : Fld := ⟨R.orbStat, 29, 1⟩
def orbEvtPpsIn : Fld := ⟨R.orbEvt, 4, 1⟩
def orbEvtSlewLong : Fld := ⟨R.orbEvt, 3, 1⟩
def orbEvtJump : Fld := ⟨R.orbEvt, 2, 1⟩
def orbEvtStepped : Fld := ⟨R.orbEvt, 1, 1⟩
def orbEvtHoldover : Fld := ⟨R.orbEvt, 0, 1⟩
def orbNowNsNs : Fld := ⟨R.orbNowNs, 0, 30⟩
def orbNowSloSLo : Fld := ⟨R.orbNowSlo, 0, 32⟩
def orbNowShiSHi : Fld := ⟨R.orbNowShi, 0, 16⟩
def orbNowFracFrac : Fld := ⟨R.orbNowFrac, 0, 32⟩
def orbNomFracFrac : Fld := ⟨R.orbNomFrac, 0, 32⟩
def orbNomNsNs : Fld := ⟨R.orbNomNs, 0, 4⟩
def orbIncrFracFrac : Fld := ⟨R.orbIncrFrac, 0, 32⟩
def orbIncrNsNs : Fld := ⟨R.orbIncrNs, 0, 4⟩
def orbSlewSlewMax : Fld := ⟨R.orbSlew, 0, 9⟩
def orbStepStepThr : Fld := ⟨R.orbStep, 0, 32⟩
def orbJumpPtpJumpThr : Fld := ⟨R.orbJump, 0, 16⟩
def orbAsymAsym : Fld := ⟨R.orbAsym, 0, 32⟩
def orbOffsetTheta : Fld := ⟨R.orbOffset, 0, 32⟩
def orbMpdMpd : Fld := ⟨R.orbMpd, 0, 32⟩
def orbSlewRemSr : Fld := ⟨R.orbSlewRem, 0, 32⟩
def orbSetNsNs : Fld := ⟨R.orbSetNs, 0, 32⟩
def orbSetSloSLo : Fld := ⟨R.orbSetSlo, 0, 32⟩
def orbSetShiSHi : Fld := ⟨R.orbSetShi, 0, 16⟩
def orbCmdSet : Fld := ⟨R.orbCmd, 31, 1⟩
def orbPpsOutEn : Fld := ⟨R.orbPps, 31, 1⟩
def orbPpsWidthMs : Fld := ⟨R.orbPps, 0, 10⟩
def orbPpsinNsNs : Fld := ⟨R.orbPpsinNs, 0, 30⟩
def orbPpsinSloSLo : Fld := ⟨R.orbPpsinSlo, 0, 32⟩
def orbPpsinShiSHi : Fld := ⟨R.orbPpsinShi, 0, 16⟩
def orbSyncCntCount : Fld := ⟨R.orbSyncCnt, 0, 32⟩
def orbJumpCntCount : Fld := ⟨R.orbJumpCnt, 0, 32⟩
def cmtStatSource : Fld := ⟨R.cmtStat, 31, 1⟩
def cmtStatLag : Fld := ⟨R.cmtStat, 24, 5⟩
def cmtStatOut : Fld := ⟨R.cmtStat, 0, 24⟩
def cmtEvtLogStale : Fld := ⟨R.cmtEvt, 8, 1⟩
def cmtEvtTakeover : Fld := ⟨R.cmtEvt, 7, 1⟩
def cmtEvtPairDev : Fld := ⟨R.cmtEvt, 6, 1⟩
def cmtEvtPoMiss : Fld := ⟨R.cmtEvt, 5, 1⟩
def cmtEvtPoLate : Fld := ⟨R.cmtEvt, 4, 1⟩
def cmtEvtMarkMiss : Fld := ⟨R.cmtEvt, 3, 1⟩
def cmtEvtOvrDrop : Fld := ⟨R.cmtEvt, 2, 1⟩
def cmtEvtOverspeed : Fld := ⟨R.cmtEvt, 1, 1⟩
def cmtEvtEncErr : Fld := ⟨R.cmtEvt, 0, 1⟩
def cmtEncCfgInv1 : Fld := ⟨R.cmtEncCfg, 15, 1⟩
def cmtEncCfgFilt1 : Fld := ⟨R.cmtEncCfg, 8, 6⟩
def cmtEncCfgInv0 : Fld := ⟨R.cmtEncCfg, 7, 1⟩
def cmtEncCfgFilt0 : Fld := ⟨R.cmtEncCfg, 0, 6⟩
def cmtSheetCfgSpol1 : Fld := ⟨R.cmtSheetCfg, 17, 1⟩
def cmtSheetCfgSpol0 : Fld := ⟨R.cmtSheetCfg, 16, 1⟩
def cmtSheetCfgSfilt1 : Fld := ⟨R.cmtSheetCfg, 8, 8⟩
def cmtSheetCfgSfilt0 : Fld := ⟨R.cmtSheetCfg, 0, 8⟩
def cmtEncLoPosLo (e : Nat) : Fld := ⟨(R.cmtEncLo e), 0, 32⟩
def cmtEncHiPosHi (e : Nat) : Fld := ⟨(R.cmtEncHi e), 0, 16⟩
def cmtNextIdId : Fld := ⟨R.cmtNextId, 0, 32⟩
def cmtVelVel : Fld := ⟨R.cmtVel, 0, 32⟩
def cmtPairCfgTakeUs : Fld := ⟨R.cmtPairCfg, 16, 8⟩
def cmtPairCfgTol : Fld := ⟨R.cmtPairCfg, 0, 16⟩
def cmtHostOp : Fld := ⟨R.cmtHost, 30, 2⟩
def cmtHostBase : Fld := ⟨R.cmtHost, 29, 1⟩
def cmtHostOut : Fld := ⟨R.cmtHost, 24, 5⟩
def cmtHostLen : Fld := ⟨R.cmtHost, 0, 20⟩
def cmtHostTloTgt : Fld := ⟨R.cmtHostTlo, 0, 32⟩
def cmtHostThiTgt : Fld := ⟨R.cmtHostThi, 0, 32⟩
def cmtTrigCntCount : Fld := ⟨R.cmtTrigCnt, 0, 32⟩
def cmtEncErr0Count : Fld := ⟨R.cmtEncErr0, 0, 32⟩
def cmtEncErr1Count : Fld := ⟨R.cmtEncErr1, 0, 32⟩
def cmtOvrDlyCount : Fld := ⟨R.cmtOvrDly, 0, 32⟩
def cmtOvrDropCount : Fld := ⟨R.cmtOvrDrop, 0, 32⟩
def cmtMarkIgnCount : Fld := ⟨R.cmtMarkIgn, 0, 32⟩
def cmtMarkMissCount : Fld := ⟨R.cmtMarkMiss, 0, 32⟩
def cmtPoLateCount : Fld := ⟨R.cmtPoLate, 0, 32⟩
def cmtPoMissCount : Fld := ⟨R.cmtPoMiss, 0, 32⟩
def cmtPoMergeCount : Fld := ⟨R.cmtPoMerge, 0, 32⟩
def cmtPairDevCount : Fld := ⟨R.cmtPairDev, 0, 32⟩
def cmtOutCfgMode (k : Nat) : Fld := ⟨(R.cmtOutCfg k), 29, 3⟩
def cmtOutCfgEnc (k : Nat) : Fld := ⟨(R.cmtOutCfg k), 28, 1⟩
def cmtOutDistDist (k : Nat) : Fld := ⟨(R.cmtOutDist k), 0, 32⟩
def cmtOutWinPre (k : Nat) : Fld := ⟨(R.cmtOutWin k), 16, 16⟩
def cmtOutWinPost (k : Nat) : Fld := ⟨(R.cmtOutWin k), 0, 16⟩
def cmtTcfgSrc (b : Nat) : Fld := ⟨(R.cmtTcfg b), 30, 2⟩
def cmtTcfgEncSel (b : Nat) : Fld := ⟨(R.cmtTcfg b), 29, 1⟩
def cmtTcfgMarkSrc (b : Nat) : Fld := ⟨(R.cmtTcfg b), 26, 3⟩
def cmtTcfgMissLines (b : Nat) : Fld := ⟨(R.cmtTcfg b), 0, 16⟩
def cmtPitchInt (b : Nat) : Fld := ⟨(R.cmtPitch b), 16, 16⟩
def cmtPitchFrac (b : Nat) : Fld := ⟨(R.cmtPitch b), 0, 16⟩
def cmtFmaxFmax (b : Nat) : Fld := ⟨(R.cmtFmax b), 0, 20⟩
def cmtTdlyTrigDly (b : Nat) : Fld := ⟨(R.cmtTdly b), 0, 20⟩
def cmtMarkOfsOfs (b : Nat) : Fld := ⟨(R.cmtMarkOfs b), 0, 31⟩
def cmtTimerPeriod (b : Nat) : Fld := ⟨(R.cmtTimer b), 0, 32⟩
def scpEpochEpoch : Fld := ⟨R.scpEpoch, 0, 32⟩
def scpSumSum : Fld := ⟨R.scpSum, 0, 18⟩
def scpIntEnEn : Fld := ⟨R.scpIntEn, 0, 18⟩
def scpEvtCfgEn : Fld := ⟨R.scpEvtCfg, 31, 1⟩
def scpEvtCfgRepeatMs : Fld := ⟨R.scpEvtCfg, 16, 10⟩
def scpEvtCfgHoldoffUs : Fld := ⟨R.scpEvtCfg, 0, 16⟩
def scpSessionUlOpen : Fld := ⟨R.scpSession, 31, 1⟩
def scpSessionSpiOpen : Fld := ⟨R.scpSession, 30, 1⟩
def scpSessionSubscr : Fld := ⟨R.scpSession, 29, 1⟩
def scpSessionUlScope : Fld := ⟨R.scpSession, 20, 4⟩
def scpSessionSpiScope : Fld := ⟨R.scpSession, 16, 4⟩
def scpNonceNonce : Fld := ⟨R.scpNonce, 0, 32⟩
def scpRxCmdCount : Fld := ⟨R.scpRxCmd, 0, 32⟩
def scpRxBadCount : Fld := ⟨R.scpRxBad, 0, 32⟩
def scpRejCount : Fld := ⟨R.scpRej, 0, 32⟩
def scpReplayCount : Fld := ⟨R.scpReplay, 0, 32⟩
def scpEvtTxCount : Fld := ⟨R.scpEvtTx, 0, 32⟩
def dmaStatHalted : Fld := ⟨R.dmaStat, 16, 16⟩
def dmaStatBusy : Fld := ⟨R.dmaStat, 0, 16⟩
def dmaRetryMaxGapUs : Fld := ⟨R.dmaRetryMax, 8, 8⟩
def dmaRetryMaxMax : Fld := ⟨R.dmaRetryMax, 0, 3⟩
def dmaRateDdrGbps : Fld := ⟨R.dmaRate, 0, 6⟩
def dmaSlotsUsed : Fld := ⟨R.dmaSlots, 0, 7⟩
def dmaHaltCntCount : Fld := ⟨R.dmaHaltCnt, 0, 32⟩
def dmaChCtrlGo (n : Nat) : Fld := ⟨(R.dmaChCtrl n), 31, 1⟩
def dmaChCtrlStop (n : Nat) : Fld := ⟨(R.dmaChCtrl n), 30, 1⟩
def dmaChCtrlDbclr (n : Nat) : Fld := ⟨(R.dmaChCtrl n), 29, 1⟩
def dmaChCfgSlots (n : Nat) : Fld := ⟨(R.dmaChCfg n), 0, 7⟩
def dmaChStartLoAddr (n : Nat) : Fld := ⟨(R.dmaChStartLo n), 4, 28⟩
def dmaChStartHiAddr (n : Nat) : Fld := ⟨(R.dmaChStartHi n), 0, 8⟩
def dmaChStatState (n : Nat) : Fld := ⟨(R.dmaChStat n), 28, 4⟩
def dmaChStatLastOp (n : Nat) : Fld := ⟨(R.dmaChStat n), 24, 4⟩
def dmaChStatHaltReason (n : Nat) : Fld := ⟨(R.dmaChStat n), 22, 2⟩
def dmaChPcLoPc (n : Nat) : Fld := ⟨(R.dmaChPcLo n), 0, 32⟩
def dmaChPcHiPc (n : Nat) : Fld := ⟨(R.dmaChPcHi n), 0, 8⟩
def dmaChDoorbellInc (n : Nat) : Fld := ⟨(R.dmaChDoorbell n), 0, 16⟩
def dmaChDbcntDbcnt (n : Nat) : Fld := ⟨(R.dmaChDbcnt n), 0, 24⟩
def dmaChErrLoAddr (n : Nat) : Fld := ⟨(R.dmaChErrLo n), 0, 32⟩
def dmaChErrHiAddr (n : Nat) : Fld := ⟨(R.dmaChErrHi n), 0, 8⟩
def dmaChErrCodeKind (n : Nat) : Fld := ⟨(R.dmaChErrCode n), 30, 2⟩
def dmaChErrCodeAttempts (n : Nat) : Fld := ⟨(R.dmaChErrCode n), 24, 4⟩
def dmaChErrCodeStatus (n : Nat) : Fld := ⟨(R.dmaChErrCode n), 0, 8⟩
def dmaChEvseenSeen (n : Nat) : Fld := ⟨(R.dmaChEvseen n), 0, 32⟩
def dmaChBytesCount (n : Nat) : Fld := ⟨(R.dmaChBytes n), 0, 32⟩
def cvuCtrlGo (n : Nat) : Fld := ⟨(R.cvuCtrl n), 31, 1⟩
def cvuCtrlClose (n : Nat) : Fld := ⟨(R.cvuCtrl n), 30, 1⟩
def cvuCtrlAbort (n : Nat) : Fld := ⟨(R.cvuCtrl n), 29, 1⟩
def cvuCfgAlg (n : Nat) : Fld := ⟨(R.cvuCfg n), 30, 2⟩
def cvuCfgMode (n : Nat) : Fld := ⟨(R.cvuCfg n), 29, 1⟩
def cvuCfgOrder (n : Nat) : Fld := ⟨(R.cvuCfg n), 28, 1⟩
def cvuCfgCmpEn (n : Nat) : Fld := ⟨(R.cvuCfg n), 27, 1⟩
def cvuCfgEvEn (n : Nat) : Fld := ⟨(R.cvuCfg n), 26, 1⟩
def cvuCfgCloseLine (n : Nat) : Fld := ⟨(R.cvuCfg n), 16, 5⟩
def cvuCfgAlvW (n : Nat) : Fld := ⟨(R.cvuCfg n), 14, 2⟩
def cvuCfgAlvLsb (n : Nat) : Fld := ⟨(R.cvuCfg n), 8, 5⟩
def cvuStatOwner (n : Nat) : Fld := ⟨(R.cvuStat n), 30, 2⟩
def cvuStatValid (n : Nat) : Fld := ⟨(R.cvuStat n), 29, 1⟩
def cvuDataWord (n : Nat) : Fld := ⟨(R.cvuData n), 0, 32⟩
def cvuAddrLoAddr (n : Nat) : Fld := ⟨(R.cvuAddrLo n), 2, 30⟩
def cvuAddrHiAddr (n : Nat) : Fld := ⟨(R.cvuAddrHi n), 0, 8⟩
def cvuLen4Words (n : Nat) : Fld := ⟨(R.cvuLen4 n), 0, 32⟩
def cvuExpLoExp (n : Nat) : Fld := ⟨(R.cvuExpLo n), 0, 32⟩
def cvuExpHiExp (n : Nat) : Fld := ⟨(R.cvuExpHi n), 0, 32⟩
def cvuResultLoResult (n : Nat) : Fld := ⟨(R.cvuResultLo n), 0, 32⟩
def cvuResultHiResult (n : Nat) : Fld := ⟨(R.cvuResultHi n), 0, 32⟩
def cvuEvtEcc (n : Nat) : Fld := ⟨(R.cvuEvt n), 3, 1⟩
def cvuEvtSkip (n : Nat) : Fld := ⟨(R.cvuEvt n), 2, 1⟩
def cvuEvtRep (n : Nat) : Fld := ⟨(R.cvuEvt n), 1, 1⟩
def cvuEvtCrcMis (n : Nat) : Fld := ⟨(R.cvuEvt n), 0, 1⟩
def cvuAliveKept (n : Nat) : Fld := ⟨(R.cvuAlive n), 0, 16⟩
def cvuFramesCount (n : Nat) : Fld := ⟨(R.cvuFrames n), 0, 32⟩
def cvuMisCntCount (n : Nat) : Fld := ⟨(R.cvuMisCnt n), 0, 32⟩
def cvuRepSkipRep (n : Nat) : Fld := ⟨(R.cvuRepSkip n), 16, 16⟩
def cvuRepSkipSkip (n : Nat) : Fld := ⟨(R.cvuRepSkip n), 0, 16⟩
def eqEvtLost3 : Fld := ⟨R.eqEvt, 7, 1⟩
def eqEvtData3 : Fld := ⟨R.eqEvt, 6, 1⟩
def eqEvtLost2 : Fld := ⟨R.eqEvt, 5, 1⟩
def eqEvtData2 : Fld := ⟨R.eqEvt, 4, 1⟩
def eqEvtLost1 : Fld := ⟨R.eqEvt, 3, 1⟩
def eqEvtData1 : Fld := ⟨R.eqEvt, 2, 1⟩
def eqEvtLost0 : Fld := ⟨R.eqEvt, 1, 1⟩
def eqEvtData0 : Fld := ⟨R.eqEvt, 0, 1⟩
def eqCfgEn (n : Nat) : Fld := ⟨(R.eqCfg n), 31, 1⟩
def eqCfgThr (n : Nat) : Fld := ⟨(R.eqCfg n), 0, 13⟩
def eqStatOwner (n : Nat) : Fld := ⟨(R.eqStat n), 24, 8⟩
def eqStatCount (n : Nat) : Fld := ⟨(R.eqStat n), 0, 13⟩
def eqRptrIndex (n : Nat) : Fld := ⟨(R.eqRptr n), 0, 13⟩
def eqWptrIndex (n : Nat) : Fld := ⟨(R.eqWptr n), 0, 13⟩
def eqRseqQseq (n : Nat) : Fld := ⟨(R.eqRseq n), 0, 32⟩
def eqPopSeq (n : Nat) : Fld := ⟨(R.eqPop n), 0, 32⟩
def eqWcmdOp (n : Nat) : Fld := ⟨(R.eqWcmd n), 30, 2⟩
def eqWcmdDropB (n : Nat) : Fld := ⟨(R.eqWcmd n), 0, 2⟩
def eqWdataWord (n : Nat) : Fld := ⟨(R.eqWdata n), 0, 32⟩
def eqLostCount (n : Nat) : Fld := ⟨(R.eqLost n), 0, 32⟩
def clkStatRefAct : Fld := ⟨R.clkStat, 31, 1⟩
def clkStatCoreAct : Fld := ⟨R.clkStat, 30, 1⟩
def clkStatHold : Fld := ⟨R.clkStat, 29, 1⟩
def clkStatSafe : Fld := ⟨R.clkStat, 28, 1⟩
def clkStatLock : Fld := ⟨R.clkStat, 23, 5⟩
def clkStatStRefa : Fld := ⟨R.clkStat, 12, 3⟩
def clkStatStRefb : Fld := ⟨R.clkStat, 9, 3⟩
def clkStatStHl : Fld := ⟨R.clkStat, 6, 3⟩
def clkStatStUl : Fld := ⟨R.clkStat, 3, 3⟩
def clkStatStF10m : Fld := ⟨R.clkStat, 0, 3⟩
def clkEvtAonSuspect : Fld := ⟨R.clkEvt, 10, 1⟩
def clkEvtHoldExp : Fld := ⟨R.clkEvt, 9, 1⟩
def clkEvtMuxHang : Fld := ⟨R.clkEvt, 8, 1⟩
def clkEvtCoreSw : Fld := ⟨R.clkEvt, 7, 1⟩
def clkEvtPllUnlock : Fld := ⟨R.clkEvt, 6, 1⟩
def clkEvtF10mFail : Fld := ⟨R.clkEvt, 5, 1⟩
def clkEvtUlFail : Fld := ⟨R.clkEvt, 4, 1⟩
def clkEvtHlFail : Fld := ⟨R.clkEvt, 3, 1⟩
def clkEvtFbFail : Fld := ⟨R.clkEvt, 2, 1⟩
def clkEvtRefSw : Fld := ⟨R.clkEvt, 1, 1⟩
def clkEvtRefFail : Fld := ⟨R.clkEvt, 0, 1⟩
def clkCfgFbEn : Fld := ⟨R.clkCfg, 31, 1⟩
def clkCmdRevert : Fld := ⟨R.clkCmd, 31, 1⟩
def clkCmdForce : Fld := ⟨R.clkCmd, 30, 1⟩
def clkCmdSel : Fld := ⟨R.clkCmd, 29, 1⟩
def clkStrapOscwait : Fld := ⟨R.clkStrap, 4, 3⟩
def clkStrapClkmode : Fld := ⟨R.clkStrap, 0, 2⟩
def clkFaultSrc : Fld := ⟨R.clkFault, 28, 4⟩
def clkFaultKind : Fld := ⟨R.clkFault, 24, 4⟩
def clkCntCount (i : Nat) : Fld := ⟨(R.clkCnt i), 0, 16⟩
def fcStatOvf : Fld := ⟨R.fcStat, 31, 1⟩
def fcStatWithdrawn : Fld := ⟨R.fcStat, 30, 1⟩
def fcPendPend : Fld := ⟨R.fcPend, 0, 9⟩
def fcCtrlFirstClr : Fld := ⟨R.fcCtrl, 31, 1⟩
def fcCtrlResume : Fld := ⟨R.fcCtrl, 30, 1⟩
def fcCtrlWithdraw : Fld := ⟨R.fcCtrl, 29, 1⟩
def fcFirstValid : Fld := ⟨R.fcFirst, 31, 1⟩
def fcFirstLevel : Fld := ⟨R.fcFirst, 28, 3⟩
def fcFirstClass : Fld := ⟨R.fcFirst, 24, 4⟩
def fcFirstSrc : Fld := ⟨R.fcFirst, 16, 8⟩
def fcFirstInst : Fld := ⟨R.fcFirst, 0, 16⟩
def fcLastValid : Fld := ⟨R.fcLast, 31, 1⟩
def fcLastLevel : Fld := ⟨R.fcLast, 28, 3⟩
def fcLastClass : Fld := ⟨R.fcLast, 24, 4⟩
def fcLastSrc : Fld := ⟨R.fcLast, 16, 8⟩
def fcLastInst : Fld := ⟨R.fcLast, 0, 16⟩
def fcFirstNsNs : Fld := ⟨R.fcFirstNs, 0, 30⟩
def fcFirstSloSLo : Fld := ⟨R.fcFirstSlo, 0, 32⟩
def fcLvlLvl : Fld := ⟨R.fcLvl, 0, 27⟩
def fcTransN : Fld := ⟨R.fcTrans, 28, 4⟩
def fcTransWMs : Fld := ⟨R.fcTrans, 0, 16⟩
def fcEsccapCaps : Fld := ⟨R.fcEsccap, 0, 27⟩
def fcWearLimLim : Fld := ⟨R.fcWearLim, 0, 32⟩
def fcInjectGo : Fld := ⟨R.fcInject, 31, 1⟩
def fcInjectSrc : Fld := ⟨R.fcInject, 16, 8⟩
def fcInjectInst : Fld := ⟨R.fcInject, 0, 16⟩
def fcCntCount (c : Nat) : Fld := ⟨(R.fcCnt c), 0, 32⟩
def plStatSvc : Fld := ⟨R.plStat, 29, 3⟩
def plStatMateSvc : Fld := ⟨R.plStat, 26, 3⟩
def plStatMateRun : Fld := ⟨R.plStat, 25, 1⟩
def plStatMateSource : Fld := ⟨R.plStat, 24, 1⟩
def plStatJoinStatus : Fld := ⟨R.plStat, 8, 8⟩
def plEvtMateWd : Fld := ⟨R.plEvt, 7, 1⟩
def plEvtBothServe : Fld := ⟨R.plEvt, 6, 1⟩
def plEvtJoinFail : Fld := ⟨R.plEvt, 5, 1⟩
def plEvtJoined : Fld := ⟨R.plEvt, 4, 1⟩
def plEvtTimeDiff : Fld := ⟨R.plEvt, 3, 1⟩
def plEvtDiverge : Fld := ⟨R.plEvt, 2, 1⟩
def plEvtMateLost : Fld := ⟨R.plEvt, 1, 1⟩
def plEvtPaired : Fld := ⟨R.plEvt, 0, 1⟩
def plCmdJoin : Fld := ⟨R.plCmd, 31, 1⟩
def plTcfgPerMs : Fld := ⟨R.plTcfg, 24, 8⟩
def plTcfgTol : Fld := ⟨R.plTcfg, 0, 16⟩
def plTofsOfs : Fld := ⟨R.plTofs, 0, 32⟩
def plActDigestDigest : Fld := ⟨R.plActDigest, 0, 32⟩
def plLastDivTrig : Fld := ⟨R.plLastDiv, 0, 32⟩
def plMsgLostCount : Fld := ⟨R.plMsgLost, 0, 32⟩
def plDivCntCount : Fld := ⟨R.plDivCnt, 0, 32⟩
def plDigMissCount : Fld := ⟨R.plDigMiss, 0, 32⟩
def plTimeErrCount : Fld := ⟨R.plTimeErr, 0, 32⟩
def mcCfgPop (n : Nat) : Fld := ⟨(R.mcCfg n), 31, 1⟩
def mcCfgRanks (n : Nat) : Fld := ⟨(R.mcCfg n), 30, 1⟩
def mcCfgWidth (n : Nat) : Fld := ⟨(R.mcCfg n), 29, 1⟩
def mcCfgDens (n : Nat) : Fld := ⟨(R.mcCfg n), 27, 2⟩
def mcCfgSpeed (n : Nat) : Fld := ⟨(R.mcCfg n), 25, 2⟩
def mc0CtrlInit : Fld := ⟨R.mc0Ctrl, 31, 1⟩
def mcStatState (n : Nat) : Fld := ⟨(R.mcStat n), 29, 3⟩
def mcStatHot (n : Nat) : Fld := ⟨(R.mcStat n), 28, 1⟩
def mcStatPprFail (n : Nat) : Fld := ⟨(R.mcStat n), 27, 1⟩
def mcStatPprPend (n : Nat) : Fld := ⟨(R.mcStat n), 18, 9⟩
def mcStatInitDone (n : Nat) : Fld := ⟨(R.mcStat n), 17, 1⟩
def mcStatRmapUsed (n : Nat) : Fld := ⟨(R.mcStat n), 0, 9⟩
def mcTsAddr1 (n : Nat) : Fld := ⟨(R.mcTs n), 8, 7⟩
def mcTsAddr0 (n : Nat) : Fld := ⟨(R.mcTs n), 0, 7⟩
def mcThermTmax (n : Nat) : Fld := ⟨(R.mcTherm n), 0, 8⟩
def mcTempTemp (n : Nat) : Fld := ⟨(R.mcTemp n), 0, 16⟩
def mcCmdOp (n : Nat) : Fld := ⟨(R.mcCmd n), 30, 2⟩
def mcRmapIdxIdx (n : Nat) : Fld := ⟨(R.mcRmapIdx n), 0, 8⟩
def mcRmapDataValid (n : Nat) : Fld := ⟨(R.mcRmapData n), 31, 1⟩
def mcRmapDataPend (n : Nat) : Fld := ⟨(R.mcRmapData n), 30, 1⟩
def mcRmapDataRank (n : Nat) : Fld := ⟨(R.mcRmapData n), 23, 1⟩
def mcRmapDataSub (n : Nat) : Fld := ⟨(R.mcRmapData n), 22, 1⟩
def mcRmapDataBg (n : Nat) : Fld := ⟨(R.mcRmapData n), 19, 3⟩
def mcRmapDataBa (n : Nat) : Fld := ⟨(R.mcRmapData n), 17, 2⟩
def mcRmapDataRow (n : Nat) : Fld := ⟨(R.mcRmapData n), 0, 17⟩
def mcUeLoAddr (n : Nat) : Fld := ⟨(R.mcUeLo n), 0, 32⟩
def mcUeHiAddr (n : Nat) : Fld := ⟨(R.mcUeHi n), 0, 8⟩
def mcCorrCount (n : Nat) : Fld := ⟨(R.mcCorr n), 0, 32⟩
def mcUncorrCount (n : Nat) : Fld := ⟨(R.mcUncorr n), 0, 32⟩
def mcScrubPassCount (n : Nat) : Fld := ⟨(R.mcScrubPass n), 0, 32⟩
def mcRfmCntCount (n : Nat) : Fld := ⟨(R.mcRfmCnt n), 0, 32⟩
def glbIdPart : Fld := ⟨R.glbId, 16, 16⟩
def glbIdStep : Fld := ⟨R.glbId, 8, 8⟩
def glbSerialLoSerial : Fld := ⟨R.glbSerialLo, 0, 32⟩
def glbSerialHiSerial : Fld := ⟨R.glbSerialHi, 0, 32⟩
def glbStrapStraps : Fld := ⟨R.glbStrap, 0, 10⟩
def glbBootStatPhase : Fld := ⟨R.glbBootStat, 28, 4⟩
def glbBootStatErr : Fld := ⟨R.glbBootStat, 24, 4⟩
def glbBootStatSlot : Fld := ⟨R.glbBootStat, 23, 1⟩
def glbBootStatPush : Fld := ⟨R.glbBootStat, 22, 1⟩
def glbBootCmdGo : Fld := ⟨R.glbBootCmd, 31, 1⟩
def rstCauseCause : Fld := ⟨R.rstCause, 0, 7⟩
def rstCfgMateEn : Fld := ⟨R.rstCfg, 31, 1⟩
def rstCfgWdtEn : Fld := ⟨R.rstCfg, 30, 1⟩
def rstCfgWdtMs : Fld := ⟨R.rstCfg, 0, 16⟩
def rstWdtKickKey : Fld := ⟨R.rstWdtKick, 0, 32⟩
def rstHoldCore : Fld := ⟨R.rstHold, 31, 1⟩
def rstHoldMemc : Fld := ⟨R.rstHold, 30, 1⟩
def rstHoldTime : Fld := ⟨R.rstHold, 29, 1⟩
def rstMateReq : Fld := ⟨R.rstMate, 31, 1⟩
def rstLastFaultFirst : Fld := ⟨R.rstLastFault, 0, 32⟩
def rstCountCount : Fld := ⟨R.rstCount, 0, 32⟩
def rstMateIgnCount : Fld := ⟨R.rstMateIgn, 0, 32⟩
def optStatBusy : Fld := ⟨R.optStat, 31, 1⟩
def optStatTrimB : Fld := ⟨R.optStat, 30, 1⟩
def optStatSpares : Fld := ⟨R.optStat, 0, 5⟩
def optEvtWriteFail : Fld := ⟨R.optEvt, 2, 1⟩
def optEvtTrimRepair : Fld := ⟨R.optEvt, 1, 1⟩
def optEvtSectorSwap : Fld := ⟨R.optEvt, 0, 1⟩
def optAddrWord : Fld := ⟨R.optAddr, 0, 16⟩
def optDataData : Fld := ⟨R.optData, 0, 32⟩
def optWrCntCount : Fld := ⟨R.optWrCnt, 0, 32⟩
def secStatDefaultKey : Fld := ⟨R.secStat, 31, 1⟩
def secStatAttBusy : Fld := ⟨R.secStat, 30, 1⟩
def secEvtSectBad : Fld := ⟨R.secEvt, 2, 1⟩
def secEvtAttDone : Fld := ⟨R.secEvt, 1, 1⟩
def secEvtOwnDone : Fld := ⟨R.secEvt, 0, 1⟩
def secCmdOp : Fld := ⟨R.secCmd, 28, 4⟩
def secSvnRunSvn : Fld := ⟨R.secSvnRun, 0, 32⟩
def secSvnMinSvn : Fld := ⟨R.secSvnMin, 0, 32⟩
def secAttIdxIndex : Fld := ⟨R.secAttIdx, 0, 30⟩
def secChalChal (i : Nat) : Fld := ⟨(R.secChal i), 0, 32⟩
def secDigestDigest (i : Nat) : Fld := ⟨(R.secDigest i), 0, 32⟩
def secImgBaseLoBase : Fld := ⟨R.secImgBaseLo, 0, 32⟩
def secImgBaseHiBase : Fld := ⟨R.secImgBaseHi, 0, 8⟩
def secBufWord (i : Nat) : Fld := ⟨(R.secBuf i), 0, 32⟩

end F

/-- The LANE_MAP entry of logical lane k (R71). -/
def F.laneMapLog (n k : Nat) : Fld := ⟨R.laneMap n, 4 * k, 4⟩
/-- LVLc of FC_LVL (R463). -/
def F.fcLvlC (c : Nat) : Fld := ⟨R.fcLvl, 3 * c, 3⟩
/-- CAPc of FC_ESCCAP (R463). -/
def F.fcEsccapC (c : Nat) : Fld := ⟨R.fcEsccap, 3 * c, 3⟩
/-- ENGj of SHP_Ck_MAP0 and MAP1 (R260). -/
def F.shpEng (k j : Nat) : Fld := if j = 16 then ⟨R.shpCMap1 k, 0, 2⟩ else ⟨R.shpCMap0 k, 2 * j, 2⟩
/-- STEPk of SHP_STAT (R260). -/
def F.shpStatStep (k : Nat) : Fld := ⟨R.shpStat, 2 * k, 2⟩
/-- ST of clock source i of CLK_STAT: 0 REFA, 1 REFB, 2 HL, 3 UL, 4 F10M (R410). -/
def F.clkStatSt (i : Nat) : Fld := ⟨R.clkStat, 12 - 3 * i, 3⟩
/-- LOCK bit of PLL p of CLK_STAT: 0 MGMT, 1 CORE 0, 2 CORE 1, 3 MEMC, 4 TIME (R410). -/
def F.clkStatLockP (p : Nat) : Fld := ⟨R.clkStat, 27 - p, 1⟩
/-- Bit c of FC_PEND (R463). -/
def F.fcPendC (c : Nat) : Fld := ⟨R.fcPend, c, 1⟩
/-- DATAn and LOSTn of EQ_EVT (R392). -/
def F.eqEvtData (n : Nat) : Fld := ⟨R.eqEvt, 2 * n, 1⟩
def F.eqEvtLost (n : Nat) : Fld := ⟨R.eqEvt, 2 * n + 1, 1⟩
/-- Weight Wc of IE_REGW (R198). -/
def F.ieRegwW (b c : Nat) : Fld := ⟨R.ieRegw b, 8 * c, 8⟩
/-- CHc of FEn_CHMAP (R143). -/
def F.feChmapCh (b n c : Nat) : Fld := ⟨R.feChmap b n, 4 * c, 4⟩

end Sys2Proof.Machine
end

