-- ==== Sys2Proof/Machine/Flags.lean ====
section
/-! DEFINITION. Flags.lean: the status codes and their precedence (R347, R499), saturating counts and signed sums,
and the check values of the wire formats and of the check-value units (R85, R340, R375). -/

namespace Sys2Proof.Machine

/-- The order in which R499 (13_control_protocol.md) lets rejecting rules decide a status; 0x00 comes last. The
length limits of R340, the unknown opcode and the arming steps are decided before this order is asked. -/
def statusRank (st : Nat) : Nat :=
  match st with
  | 0x02 => 0 | 0x08 => 1 | 0x03 => 2 | 0x04 => 3 | 0x09 => 4 | 0x05 => 5 | 0x06 => 6 | 0x07 => 7 | 0x0A => 8
  | _ => 9

/-- The one status of an access to which several rejecting rules apply (R499). -/
def pickStatus (l : List Nat) : Nat := l.foldl (fun b s => if statusRank s < statusRank b then s else b) 0

/-- A rejecting rule as a list: the status where its condition holds. -/
def rej (cond : Bool) (st : Nat) : List Nat := if cond then [st] else []

/-- A count of `w` bits that saturates. -/
def satAdd (w a b : Nat) : Nat := min (a + b) (2 ^ w - 1)

/-- A signed value saturated to `w` bits of two's complement. -/
def satSigned (w : Nat) (i : Int) : Int :=
  max (-((2 ^ (w - 1) : Nat) : Int)) (min i (((2 ^ (w - 1) : Nat) : Int) - 1))

/-- Floor division with a zero divisor answering zero is never reached where the spec divides; ceiling division. -/
def ceilDiv (a b : Nat) : Nat := (a + b - 1) / b

/-- Bits of a byte, least significant first. -/
def byteBitsLsb (b : Byte) : List Bool := (List.range 8).map b.getLsbD

/-- One step of a reflected cyclic redundancy check of width `w` with reflected polynomial `poly`. -/
def crcStep (w : Nat) (poly : BitVec w) (crc : BitVec w) (b : Bool) : BitVec w :=
  if crc.getLsbD 0 != b then (crc >>> 1) ^^^ poly else crc >>> 1

/-- A reflected CRC over bytes, before the final inversion. -/
def crcRun (w : Nat) (poly : BitVec w) (crc : BitVec w) (bs : List Byte) : BitVec w :=
  bs.foldl (fun c b => (byteBitsLsb b).foldl (crcStep w poly) c) crc

/-- CRC-32C over bytes with the parameters of R85 (03_drauxlink.md). -/
def crc32c (bs : List Byte) : Word := ~~~ crcRun 32 0x82F63B78#32 0xFFFFFFFF#32 bs

/-- The four bytes of a word in control-space order, bits 7:0 first (R13). -/
def wordBytesLE (w : Word) : List Byte := (List.range 4).map fun i => (w >>> (8 * i)).setWidth 8

/-- `n` bytes of a number, most significant first, as wire fields are sent (R13). -/
def natBytesBE (n v : Nat) : List Byte := (List.range n).map fun i => BitVec.ofNat 8 (v >>> (8 * (n - 1 - i)))

/-- The number bytes spell, most significant byte first (R13). -/
def natOfBE (bs : List Byte) : Nat := bs.foldl (fun a b => a * 256 + b.toNat) 0

/-- The number bytes spell, least significant byte first (R13, memory images). -/
def natOfLE (bs : List Byte) : Nat := bs.foldr (fun b a => a * 256 + b.toNat) 0

/-- `n` bytes of a number, least significant first. -/
def natBytesLE (n v : Nat) : List Byte := (List.range n).map fun i => BitVec.ofNat 8 (v >>> (8 * i))

/-- The bytes `lo` to `lo + n - 1` of a packet read as one wire field. -/
def fieldBE (bs : List Byte) (lo n : Nat) : Nat := natOfBE ((bs.drop lo).take n)

end Sys2Proof.Machine
end

