-- ==== Sys2Proof/Machine/RegTable.lean ====
section
/-! DEFINITION. RegTable.lean: the register maps of the spec, one row a register, block by block (R70, R71, R118,
R143, R159, R198, R221, R240, R260, R289, R318, R319, R338, R355, R374, R391, R392, R410, R431, R463, R464, R475). -/

namespace Sys2Proof.Machine

/-- LUT[c][r] after reset (R169, 06_registration_compare.md); the entry number is 256 c + r. -/
def lutReset (e : Nat) : Nat := ((e % 256) * 61440 + 127) / 255

def tableGlb : List RegRow := [
  ⟨"SCP_EPOCH", 0x8000, [],
    [⟨31, 0, .ro, 0x0, .any⟩], none⟩,
  ⟨"SCP_SUM", 0x8004, [],
    [⟨17, 0, .ro, 0x0, .any⟩], none⟩,
  ⟨"SCP_INT_EN", 0x8008, [],
    [⟨17, 0, .rw, 0x3FFFF, .any⟩], none⟩,
  ⟨"SCP_EVT_CFG", 0x800C, [],
    [⟨31, 31, .rw, 0x1, .any⟩,
     ⟨25, 16, .rw, 0x64, (.rng 0 1000)⟩,
     ⟨15, 0, .rw, 0x64, (.rng 10 65535)⟩], none⟩,
  ⟨"SCP_SESSION", 0x8010, [],
    [⟨31, 31, .ro, 0x0, .any⟩,
     ⟨30, 30, .ro, 0x0, .any⟩,
     ⟨29, 29, .ro, 0x0, .any⟩,
     ⟨23, 20, .ro, 0x0, .any⟩,
     ⟨19, 16, .ro, 0x0, .any⟩], none⟩,
  ⟨"SCP_NONCE", 0x8014, [],
    [⟨31, 0, .ro, 0x0, .any⟩], none⟩,
  ⟨"SCP_RX_CMD", 0x8020, [],
    [⟨31, 0, .rc, 0x0, .any⟩], none⟩,
  ⟨"SCP_RX_BAD", 0x8024, [],
    [⟨31, 0, .rc, 0x0, .any⟩], none⟩,
  ⟨"SCP_REJ", 0x8028, [],
    [⟨31, 0, .rc, 0x0, .any⟩], none⟩,
  ⟨"SCP_REPLAY", 0x802C, [],
    [⟨31, 0, .rc, 0x0, .any⟩], none⟩,
  ⟨"SCP_EVT_TX", 0x8030, [],
    [⟨31, 0, .rc, 0x0, .any⟩], none⟩,
  ⟨"GLB_ID", 0x0, [],
    [⟨31, 16, .ro, 0x880, .any⟩,
     ⟨15, 8, .ro, 0x1, .any⟩], none⟩,
  ⟨"GLB_SERIAL_LO", 0x4, [],
    [⟨31, 0, .ro, 0x0, .any⟩], none⟩,
  ⟨"GLB_SERIAL_HI", 0x8, [],
    [⟨31, 0, .ro, 0x0, .any⟩], none⟩,
  ⟨"GLB_STRAP", 0xC, [],
    [⟨9, 0, .ro, 0x0, .any⟩], none⟩,
  ⟨"GLB_BOOT_STAT", 0x10, [],
    [⟨31, 28, .ro, 0x0, .any⟩,
     ⟨27, 24, .ro, 0x0, .any⟩,
     ⟨23, 23, .ro, 0x0, .any⟩,
     ⟨22, 22, .ro, 0x0, .any⟩], none⟩,
  ⟨"GLB_BOOT_CMD", 0x14, [],
    [⟨31, 31, .wo, 0x0, .any⟩], none⟩]

def tableClk : List RegRow := [
  ⟨"CLK_STAT", 0x10000, [],
    [⟨31, 31, .ro, 0x0, .any⟩,
     ⟨30, 30, .ro, 0x0, .any⟩,
     ⟨29, 29, .ro, 0x0, .any⟩,
     ⟨28, 28, .ro, 0x0, .any⟩,
     ⟨27, 23, .ro, 0x0, .any⟩,
     ⟨14, 12, .ro, 0x0, .any⟩,
     ⟨11, 9, .ro, 0x0, .any⟩,
     ⟨8, 6, .ro, 0x0, .any⟩,
     ⟨5, 3, .ro, 0x0, .any⟩,
     ⟨2, 0, .ro, 0x0, .any⟩], none⟩,
  ⟨"CLK_EVT", 0x10004, [],
    [⟨10, 10, .w1c, 0x0, .any⟩,
     ⟨9, 9, .w1c, 0x0, .any⟩,
     ⟨8, 8, .w1c, 0x0, .any⟩,
     ⟨7, 7, .w1c, 0x0, .any⟩,
     ⟨6, 6, .w1c, 0x0, .any⟩,
     ⟨5, 5, .w1c, 0x0, .any⟩,
     ⟨4, 4, .w1c, 0x0, .any⟩,
     ⟨3, 3, .w1c, 0x0, .any⟩,
     ⟨2, 2, .w1c, 0x0, .any⟩,
     ⟨1, 1, .w1c, 0x0, .any⟩,
     ⟨0, 0, .w1c, 0x0, .any⟩], none⟩,
  ⟨"CLK_CFG", 0x10008, [],
    [⟨31, 31, .rw, 0x1, .any⟩], none⟩,
  ⟨"CLK_CMD", 0x1000C, [],
    [⟨31, 31, .wo, 0x0, .any⟩,
     ⟨30, 30, .wo, 0x0, .any⟩,
     ⟨29, 29, .wo, 0x0, .any⟩], none⟩,
  ⟨"CLK_STRAP", 0x10010, [],
    [⟨6, 4, .ro, 0x0, .any⟩,
     ⟨1, 0, .ro, 0x0, .any⟩], none⟩,
  ⟨"CLK_FAULT", 0x10014, [],
    [⟨31, 28, .ro, 0x0, .any⟩,
     ⟨27, 24, .ro, 0x0, .any⟩], none⟩,
  ⟨"CLK_CNT", 0x10020, [(5, 0x4)],
    [⟨15, 0, .ro, 0x0, .any⟩], none⟩]

def tableRst : List RegRow := [
  ⟨"RST_CAUSE", 0x18000, [],
    [⟨6, 0, .w1c, 0x1, .any⟩], none⟩,
  ⟨"RST_CFG", 0x18004, [],
    [⟨31, 31, .rw, 0x0, .any⟩,
     ⟨30, 30, .rw, 0x0, .any⟩,
     ⟨15, 0, .rw, 0x3E8, (.rng 10 65535)⟩], none⟩,
  ⟨"RST_WDT_KICK", 0x18008, [],
    [⟨31, 0, .wo, 0x0, .any⟩], none⟩,
  ⟨"RST_HOLD", 0x1800C, [],
    [⟨31, 31, .rw, 0x0, .any⟩,
     ⟨30, 30, .rw, 0x0, .any⟩,
     ⟨29, 29, .rw, 0x0, .any⟩], none⟩,
  ⟨"RST_MATE", 0x18010, [],
    [⟨31, 31, .wo, 0x0, .any⟩], none⟩,
  ⟨"RST_LAST_FAULT", 0x18014, [],
    [⟨31, 0, .ro, 0x0, .any⟩], none⟩,
  ⟨"RST_COUNT", 0x18018, [],
    [⟨31, 0, .ro, 0x0, .any⟩], none⟩,
  ⟨"RST_MATE_IGN", 0x1801C, [],
    [⟨31, 0, .rc, 0x0, .any⟩], none⟩]

def tableFc : List RegRow := [
  ⟨"FC_STAT", 0x20000, [],
    [⟨31, 31, .ro, 0x0, .any⟩,
     ⟨30, 30, .ro, 0x0, .any⟩], none⟩,
  ⟨"FC_PEND", 0x20004, [],
    [⟨8, 0, .w1c, 0x0, .any⟩], none⟩,
  ⟨"FC_CTRL", 0x20008, [],
    [⟨31, 31, .wo, 0x0, .any⟩,
     ⟨30, 30, .wo, 0x0, .any⟩,
     ⟨29, 29, .wo, 0x0, .any⟩], none⟩,
  ⟨"FC_FIRST", 0x2000C, [],
    [⟨31, 31, .ro, 0x0, .any⟩,
     ⟨30, 28, .ro, 0x0, .any⟩,
     ⟨27, 24, .ro, 0x0, .any⟩,
     ⟨23, 16, .ro, 0x0, .any⟩,
     ⟨15, 0, .ro, 0x0, .any⟩], none⟩,
  ⟨"FC_LAST", 0x20018, [],
    [⟨31, 31, .ro, 0x0, .any⟩,
     ⟨30, 28, .ro, 0x0, .any⟩,
     ⟨27, 24, .ro, 0x0, .any⟩,
     ⟨23, 16, .ro, 0x0, .any⟩,
     ⟨15, 0, .ro, 0x0, .any⟩], none⟩,
  ⟨"FC_FIRST_NS", 0x20010, [],
    [⟨29, 0, .ro, 0x0, .any⟩], none⟩,
  ⟨"FC_FIRST_SLO", 0x20014, [],
    [⟨31, 0, .ro, 0x0, .any⟩], none⟩,
  ⟨"FC_LVL", 0x2001C, [],
    [⟨26, 0, .ro, 0x0, .any⟩], none⟩,
  ⟨"FC_TRANS", 0x20020, [],
    [⟨31, 28, .rw, 0x4, (.rng 2 15)⟩,
     ⟨15, 0, .rw, 0x3E8, (.rng 1 65535)⟩], none⟩,
  ⟨"FC_ESCCAP", 0x20024, [],
    [⟨26, 0, .rw, 0x3B6DB6D, .any⟩], none⟩,
  ⟨"FC_WEAR_LIM", 0x20028, [],
    [⟨31, 0, .rw, 0x558C0, .any⟩], none⟩,
  ⟨"FC_INJECT", 0x2002C, [],
    [⟨31, 31, .wo, 0x0, .any⟩,
     ⟨23, 16, .wo, 0x0, .any⟩,
     ⟨15, 0, .wo, 0x0, .any⟩], none⟩,
  ⟨"FC_CNT", 0x20040, [(9, 0x4)],
    [⟨31, 0, .rc, 0x0, .any⟩], none⟩]

def tableOpt : List RegRow := [
  ⟨"OPT_STAT", 0x30000, [],
    [⟨31, 31, .ro, 0x0, .any⟩,
     ⟨30, 30, .ro, 0x0, .any⟩,
     ⟨4, 0, .ro, 0x0, .any⟩], none⟩,
  ⟨"OPT_EVT", 0x30004, [],
    [⟨2, 2, .w1c, 0x0, .any⟩,
     ⟨1, 1, .w1c, 0x0, .any⟩,
     ⟨0, 0, .w1c, 0x0, .any⟩], none⟩,
  ⟨"OPT_ADDR", 0x30008, [],
    [⟨15, 0, .rw, 0x0, .any⟩], none⟩,
  ⟨"OPT_DATA", 0x3000C, [],
    [⟨31, 0, .rw, 0x0, .any⟩], none⟩,
  ⟨"OPT_WR_CNT", 0x30010, [],
    [⟨31, 0, .rc, 0x0, .any⟩], none⟩]

def tableSec : List RegRow := [
  ⟨"SEC_STAT", 0x40000, [],
    [⟨31, 31, .ro, 0x1, .any⟩,
     ⟨30, 30, .ro, 0x0, .any⟩], none⟩,
  ⟨"SEC_EVT", 0x40004, [],
    [⟨2, 2, .w1c, 0x0, .any⟩,
     ⟨1, 1, .w1c, 0x0, .any⟩,
     ⟨0, 0, .w1c, 0x0, .any⟩], none⟩,
  ⟨"SEC_CMD", 0x40008, [],
    [⟨31, 28, .wo, 0x0, .any⟩], none⟩,
  ⟨"SEC_SVN_RUN", 0x4000C, [],
    [⟨31, 0, .ro, 0x0, .any⟩], none⟩,
  ⟨"SEC_SVN_MIN", 0x40010, [],
    [⟨31, 0, .ro, 0x0, .any⟩], none⟩,
  ⟨"SEC_ATT_IDX", 0x40014, [],
    [⟨29, 0, .ro, 0x0, .any⟩], none⟩,
  ⟨"SEC_CHAL", 0x40020, [(8, 0x4)],
    [⟨31, 0, .rw, 0x0, .any⟩], none⟩,
  ⟨"SEC_DIGEST", 0x40040, [(8, 0x4)],
    [⟨31, 0, .ro, 0x0, .any⟩], none⟩,
  ⟨"SEC_IMG_BASE_LO", 0x40060, [],
    [⟨31, 0, .rw, 0x0, .any⟩], none⟩,
  ⟨"SEC_IMG_BASE_HI", 0x40064, [],
    [⟨7, 0, .rw, 0x0, .any⟩], none⟩,
  ⟨"SEC_BUF", 0x41000, [(2048, 0x4)],
    [⟨31, 0, .rw, 0x0, .any⟩], none⟩]

def tableDma : List RegRow := [
  ⟨"DMA_STAT", 0x50000, [],
    [⟨31, 16, .ro, 0x0, .any⟩,
     ⟨15, 0, .ro, 0x0, .any⟩], none⟩,
  ⟨"DMA_RETRY_MAX", 0x50004, [],
    [⟨15, 8, .rw, 0xA, (.rng 1 255)⟩,
     ⟨2, 0, .rw, 0x3, .any⟩], none⟩,
  ⟨"DMA_RATE", 0x50008, [],
    [⟨5, 0, .rw, 0x10, (.rng 1 32)⟩], none⟩,
  ⟨"DMA_SLOTS", 0x5000C, [],
    [⟨6, 0, .ro, 0x0, .any⟩], none⟩,
  ⟨"DMA_HALT_CNT", 0x50010, [],
    [⟨31, 0, .rc, 0x0, .any⟩], none⟩,
  ⟨"DMA_CH_CTRL", 0x50100, [(16, 0x40)],
    [⟨31, 31, .wo, 0x0, .any⟩,
     ⟨30, 30, .wo, 0x0, .any⟩,
     ⟨29, 29, .wo, 0x0, .any⟩], none⟩,
  ⟨"DMA_CH_CFG", 0x50104, [(16, 0x40)],
    [⟨6, 0, .rw, 0x8, (.rng 1 64)⟩], none⟩,
  ⟨"DMA_CH_START_LO", 0x50108, [(16, 0x40)],
    [⟨31, 4, .rw, 0x0, .any⟩], none⟩,
  ⟨"DMA_CH_START_HI", 0x5010C, [(16, 0x40)],
    [⟨7, 0, .rw, 0x0, .any⟩], none⟩,
  ⟨"DMA_CH_STAT", 0x50110, [(16, 0x40)],
    [⟨31, 28, .ro, 0x0, .any⟩,
     ⟨27, 24, .ro, 0x0, .any⟩,
     ⟨23, 22, .ro, 0x0, .any⟩], none⟩,
  ⟨"DMA_CH_PC_LO", 0x50114, [(16, 0x40)],
    [⟨31, 0, .ro, 0x0, .any⟩], none⟩,
  ⟨"DMA_CH_PC_HI", 0x50118, [(16, 0x40)],
    [⟨7, 0, .ro, 0x0, .any⟩], none⟩,
  ⟨"DMA_CH_DOORBELL", 0x5011C, [(16, 0x40)],
    [⟨15, 0, .wo, 0x0, (.rng 1 65535)⟩], none⟩,
  ⟨"DMA_CH_DBCNT", 0x50120, [(16, 0x40)],
    [⟨23, 0, .ro, 0x0, .any⟩], none⟩,
  ⟨"DMA_CH_ERR_LO", 0x50124, [(16, 0x40)],
    [⟨31, 0, .ro, 0x0, .any⟩], none⟩,
  ⟨"DMA_CH_ERR_HI", 0x50128, [(16, 0x40)],
    [⟨7, 0, .ro, 0x0, .any⟩], none⟩,
  ⟨"DMA_CH_ERR_CODE", 0x5012C, [(16, 0x40)],
    [⟨31, 30, .ro, 0x0, .any⟩,
     ⟨27, 24, .ro, 0x0, .any⟩,
     ⟨7, 0, .ro, 0x0, .any⟩], none⟩,
  ⟨"DMA_CH_EVSEEN", 0x50130, [(16, 0x40)],
    [⟨31, 0, .ro, 0x0, .any⟩], none⟩,
  ⟨"DMA_CH_BYTES", 0x50134, [(16, 0x40)],
    [⟨31, 0, .rc, 0x0, .any⟩], none⟩]

def tableCvu : List RegRow := [
  ⟨"CVU_CTRL", 0x60100, [(8, 0x40)],
    [⟨31, 31, .wo, 0x0, .any⟩,
     ⟨30, 30, .wo, 0x0, .any⟩,
     ⟨29, 29, .wo, 0x0, .any⟩], none⟩,
  ⟨"CVU_CFG", 0x60104, [(8, 0x40)],
    [⟨31, 30, .rw, 0x0, (.rng 0 2)⟩,
     ⟨29, 29, .rw, 0x0, .any⟩,
     ⟨28, 28, .rw, 0x0, .any⟩,
     ⟨27, 27, .rw, 0x0, .any⟩,
     ⟨26, 26, .rw, 0x0, .any⟩,
     ⟨20, 16, .rw, 0x0, .any⟩,
     ⟨15, 14, .rw, 0x0, .any⟩,
     ⟨12, 8, .rw, 0x0, .any⟩], none⟩,
  ⟨"CVU_STAT", 0x60108, [(8, 0x40)],
    [⟨31, 30, .ro, 0x0, .any⟩,
     ⟨29, 29, .ro, 0x0, .any⟩], none⟩,
  ⟨"CVU_DATA", 0x6010C, [(8, 0x40)],
    [⟨31, 0, .wo, 0x0, .any⟩], none⟩,
  ⟨"CVU_ADDR_LO", 0x60110, [(8, 0x40)],
    [⟨31, 2, .rw, 0x0, .any⟩], none⟩,
  ⟨"CVU_ADDR_HI", 0x60114, [(8, 0x40)],
    [⟨7, 0, .rw, 0x0, .any⟩], none⟩,
  ⟨"CVU_LEN4", 0x60118, [(8, 0x40)],
    [⟨31, 0, .rw, 0x0, .any⟩], none⟩,
  ⟨"CVU_EXP_LO", 0x6011C, [(8, 0x40)],
    [⟨31, 0, .rw, 0x0, .any⟩], none⟩,
  ⟨"CVU_EXP_HI", 0x60120, [(8, 0x40)],
    [⟨31, 0, .rw, 0x0, .any⟩], none⟩,
  ⟨"CVU_RESULT_LO", 0x60124, [(8, 0x40)],
    [⟨31, 0, .ro, 0x0, .any⟩], none⟩,
  ⟨"CVU_RESULT_HI", 0x60128, [(8, 0x40)],
    [⟨31, 0, .ro, 0x0, .any⟩], none⟩,
  ⟨"CVU_EVT", 0x6012C, [(8, 0x40)],
    [⟨3, 3, .w1c, 0x0, .any⟩,
     ⟨2, 2, .w1c, 0x0, .any⟩,
     ⟨1, 1, .w1c, 0x0, .any⟩,
     ⟨0, 0, .w1c, 0x0, .any⟩], none⟩,
  ⟨"CVU_ALIVE", 0x60130, [(8, 0x40)],
    [⟨15, 0, .ro, 0x0, .any⟩], none⟩,
  ⟨"CVU_FRAMES", 0x60134, [(8, 0x40)],
    [⟨31, 0, .rc, 0x0, .any⟩], none⟩,
  ⟨"CVU_MIS_CNT", 0x60138, [(8, 0x40)],
    [⟨31, 0, .rc, 0x0, .any⟩], none⟩,
  ⟨"CVU_REP_SKIP", 0x6013C, [(8, 0x40)],
    [⟨31, 16, .rc, 0x0, .any⟩,
     ⟨15, 0, .rc, 0x0, .any⟩], none⟩]

def tableEq : List RegRow := [
  ⟨"EQ_EVT", 0x70000, [],
    [⟨7, 7, .w1c, 0x0, .any⟩,
     ⟨6, 6, .w1c, 0x0, .any⟩,
     ⟨5, 5, .w1c, 0x0, .any⟩,
     ⟨4, 4, .w1c, 0x0, .any⟩,
     ⟨3, 3, .w1c, 0x0, .any⟩,
     ⟨2, 2, .w1c, 0x0, .any⟩,
     ⟨1, 1, .w1c, 0x0, .any⟩,
     ⟨0, 0, .w1c, 0x0, .any⟩], none⟩,
  ⟨"EQ_CFG", 0x70100, [(4, 0x40)],
    [⟨31, 31, .rw, 0x1, .any⟩,
     ⟨12, 0, .rw, 0x1, (.rng 1 8191)⟩], none⟩,
  ⟨"EQ_STAT", 0x70104, [(4, 0x40)],
    [⟨31, 24, .ro, 0x0, .any⟩,
     ⟨12, 0, .ro, 0x0, .any⟩], none⟩,
  ⟨"EQ_RPTR", 0x70108, [(4, 0x40)],
    [⟨12, 0, .ro, 0x0, .any⟩], none⟩,
  ⟨"EQ_WPTR", 0x7010C, [(4, 0x40)],
    [⟨12, 0, .ro, 0x0, .any⟩], none⟩,
  ⟨"EQ_RSEQ", 0x70110, [(4, 0x40)],
    [⟨31, 0, .ro, 0x0, .any⟩], none⟩,
  ⟨"EQ_POP", 0x70114, [(4, 0x40)],
    [⟨31, 0, .wo, 0x0, .any⟩], none⟩,
  ⟨"EQ_WCMD", 0x70118, [(4, 0x40)],
    [⟨31, 30, .wo, 0x0, .any⟩,
     ⟨1, 0, .wo, 0x0, .any⟩], none⟩,
  ⟨"EQ_WDATA", 0x7011C, [(4, 0x40)],
    [⟨31, 0, .wo, 0x0, .any⟩], none⟩,
  ⟨"EQ_LOST", 0x70120, [(4, 0x40)],
    [⟨31, 0, .rc, 0x0, .any⟩], none⟩]

def tableOrb0 : List RegRow := [
  ⟨"ORB_CTRL", 0x80000, [],
    [⟨31, 30, .rw, 0x0, (.rng 0 2)⟩,
     ⟨29, 29, .rw, 0x0, .any⟩,
     ⟨28, 28, .rw, 0x0, .any⟩,
     ⟨27, 26, .rw, 0x1, (.rng 0 2)⟩,
     ⟨25, 25, .rw, 0x1, .any⟩,
     ⟨24, 24, .rw, 0x0, .any⟩,
     ⟨23, 23, .rw, 0x0, .any⟩,
     ⟨22, 20, .rw, 0x3, .any⟩,
     ⟨7, 0, .rw, 0x0, (.rng 0 127)⟩], none⟩,
  ⟨"ORB_STAT", 0x80004, [],
    [⟨31, 31, .ro, 0x0, .any⟩,
     ⟨30, 30, .ro, 0x1, .any⟩,
     ⟨29, 29, .ro, 0x0, .any⟩], none⟩,
  ⟨"ORB_EVT", 0x80008, [],
    [⟨4, 4, .w1c, 0x0, .any⟩,
     ⟨3, 3, .w1c, 0x0, .any⟩,
     ⟨2, 2, .w1c, 0x0, .any⟩,
     ⟨1, 1, .w1c, 0x0, .any⟩,
     ⟨0, 0, .w1c, 0x0, .any⟩], none⟩,
  ⟨"ORB_NOW_NS", 0x8000C, [],
    [⟨29, 0, .ro, 0x0, .any⟩], none⟩,
  ⟨"ORB_NOW_SLO", 0x80010, [],
    [⟨31, 0, .ro, 0x0, .any⟩], none⟩,
  ⟨"ORB_NOW_SHI", 0x80014, [],
    [⟨15, 0, .ro, 0x0, .any⟩], none⟩,
  ⟨"ORB_NOW_FRAC", 0x80018, [],
    [⟨31, 0, .ro, 0x0, .any⟩], none⟩,
  ⟨"ORB_NOM_FRAC", 0x8001C, [],
    [⟨31, 0, .rw, 0x0, .any⟩], none⟩,
  ⟨"ORB_NOM_NS", 0x80020, [],
    [⟨3, 0, .rw, 0x4, .any⟩], none⟩,
  ⟨"ORB_INCR_FRAC", 0x80024, [],
    [⟨31, 0, .ro, 0x0, .any⟩], none⟩,
  ⟨"ORB_INCR_NS", 0x80028, [],
    [⟨3, 0, .ro, 0x4, .any⟩], none⟩,
  ⟨"ORB_SLEW", 0x8002C, [],
    [⟨8, 0, .rw, 0x64, (.rng 1 500)⟩], none⟩,
  ⟨"ORB_STEP", 0x80030, [],
    [⟨31, 0, .rw, 0x3E8, (.rng 1 1000000000)⟩], none⟩,
  ⟨"ORB_JUMP", 0x80034, [],
    [⟨15, 0, .rw, 0xC8, (.rng 8 65535)⟩], none⟩,
  ⟨"ORB_ASYM", 0x80038, [],
    [⟨31, 0, .rw, 0x0, .any⟩], none⟩,
  ⟨"ORB_OFFSET", 0x8003C, [],
    [⟨31, 0, .ro, 0x0, .any⟩], none⟩,
  ⟨"ORB_MPD", 0x80040, [],
    [⟨31, 0, .ro, 0x0, .any⟩], none⟩,
  ⟨"ORB_SLEW_REM", 0x80044, [],
    [⟨31, 0, .ro, 0x0, .any⟩], none⟩,
  ⟨"ORB_SET_NS", 0x80048, [],
    [⟨31, 0, .rw, 0x0, (.rng 0 999999999)⟩], none⟩,
  ⟨"ORB_SET_SLO", 0x8004C, [],
    [⟨31, 0, .rw, 0x0, .any⟩], none⟩,
  ⟨"ORB_SET_SHI", 0x80050, [],
    [⟨15, 0, .rw, 0x0, .any⟩], none⟩,
  ⟨"ORB_CMD", 0x80054, [],
    [⟨31, 31, .wo, 0x0, .any⟩], none⟩,
  ⟨"ORB_PPS", 0x80058, [],
    [⟨31, 31, .rw, 0x0, .any⟩,
     ⟨9, 0, .rw, 0x64, (.rng 1 999)⟩], none⟩,
  ⟨"ORB_PPSIN_NS", 0x8005C, [],
    [⟨29, 0, .ro, 0x0, .any⟩], none⟩]

def tableOrb1 : List RegRow := [
  ⟨"ORB_PPSIN_SLO", 0x80060, [],
    [⟨31, 0, .ro, 0x0, .any⟩], none⟩,
  ⟨"ORB_PPSIN_SHI", 0x80064, [],
    [⟨15, 0, .ro, 0x0, .any⟩], none⟩,
  ⟨"ORB_SYNC_CNT", 0x80070, [],
    [⟨31, 0, .rc, 0x0, .any⟩], none⟩,
  ⟨"ORB_JUMP_CNT", 0x80074, [],
    [⟨31, 0, .rc, 0x0, .any⟩], none⟩]

def tableOrb : List RegRow := tableOrb0 ++ tableOrb1

def tableCmt0 : List RegRow := [
  ⟨"CMT_STAT", 0x90000, [],
    [⟨31, 31, .ro, 0x1, .any⟩,
     ⟨28, 24, .ro, 0x0, .any⟩,
     ⟨23, 0, .ro, 0x0, .any⟩], none⟩,
  ⟨"CMT_EVT", 0x90004, [],
    [⟨8, 8, .w1c, 0x0, .any⟩,
     ⟨7, 7, .w1c, 0x0, .any⟩,
     ⟨6, 6, .w1c, 0x0, .any⟩,
     ⟨5, 5, .w1c, 0x0, .any⟩,
     ⟨4, 4, .w1c, 0x0, .any⟩,
     ⟨3, 3, .w1c, 0x0, .any⟩,
     ⟨2, 2, .w1c, 0x0, .any⟩,
     ⟨1, 1, .w1c, 0x0, .any⟩,
     ⟨0, 0, .w1c, 0x0, .any⟩], none⟩,
  ⟨"CMT_ENC_CFG", 0x90008, [],
    [⟨15, 15, .rw, 0x0, .any⟩,
     ⟨13, 8, .rw, 0x3, .any⟩,
     ⟨7, 7, .rw, 0x0, .any⟩,
     ⟨5, 0, .rw, 0x3, .any⟩], none⟩,
  ⟨"CMT_SHEET_CFG", 0x9000C, [],
    [⟨17, 17, .rw, 0x0, .any⟩,
     ⟨16, 16, .rw, 0x0, .any⟩,
     ⟨15, 8, .rw, 0xA, .any⟩,
     ⟨7, 0, .rw, 0xA, .any⟩], none⟩,
  ⟨"CMT_ENC_LO", 0x90010, [(2, 0x8)],
    [⟨31, 0, .ro, 0x0, .any⟩], none⟩,
  ⟨"CMT_ENC_HI", 0x90014, [(2, 0x8)],
    [⟨15, 0, .ro, 0x0, .any⟩], none⟩,
  ⟨"CMT_NEXT_ID", 0x90020, [],
    [⟨31, 0, .ro, 0x0, .any⟩], none⟩,
  ⟨"CMT_VEL", 0x90024, [],
    [⟨31, 0, .ro, 0x0, .any⟩], none⟩,
  ⟨"CMT_PAIR_CFG", 0x90028, [],
    [⟨23, 16, .rw, 0x8, (.rng 1 255)⟩,
     ⟨15, 0, .rw, 0x4, .any⟩], none⟩,
  ⟨"CMT_HOST", 0x9002C, [],
    [⟨31, 30, .wo, 0x0, .any⟩,
     ⟨29, 29, .wo, 0x0, .any⟩,
     ⟨28, 24, .wo, 0x0, .any⟩,
     ⟨19, 0, .wo, 0x0, .any⟩], none⟩,
  ⟨"CMT_HOST_TLO", 0x90030, [],
    [⟨31, 0, .rw, 0x0, .any⟩], none⟩,
  ⟨"CMT_HOST_THI", 0x90034, [],
    [⟨31, 0, .rw, 0x0, .any⟩], none⟩,
  ⟨"CMT_TRIG_CNT", 0x90040, [],
    [⟨31, 0, .rc, 0x0, .any⟩], none⟩,
  ⟨"CMT_ENC_ERR0", 0x90044, [],
    [⟨31, 0, .rc, 0x0, .any⟩], none⟩,
  ⟨"CMT_ENC_ERR1", 0x90048, [],
    [⟨31, 0, .rc, 0x0, .any⟩], none⟩,
  ⟨"CMT_OVR_DLY", 0x9004C, [],
    [⟨31, 0, .rc, 0x0, .any⟩], none⟩,
  ⟨"CMT_OVR_DROP", 0x90050, [],
    [⟨31, 0, .rc, 0x0, .any⟩], none⟩,
  ⟨"CMT_MARK_IGN", 0x90054, [],
    [⟨31, 0, .rc, 0x0, .any⟩], none⟩,
  ⟨"CMT_MARK_MISS", 0x90058, [],
    [⟨31, 0, .rc, 0x0, .any⟩], none⟩,
  ⟨"CMT_PO_LATE", 0x9005C, [],
    [⟨31, 0, .rc, 0x0, .any⟩], none⟩,
  ⟨"CMT_PO_MISS", 0x90060, [],
    [⟨31, 0, .rc, 0x0, .any⟩], none⟩,
  ⟨"CMT_PO_MERGE", 0x90064, [],
    [⟨31, 0, .rc, 0x0, .any⟩], none⟩,
  ⟨"CMT_PAIR_DEV", 0x90068, [],
    [⟨31, 0, .rc, 0x0, .any⟩], none⟩,
  ⟨"CMT_OUT_CFG", 0x90100, [(24, 0x10)],
    [⟨31, 29, .rw, 0x0, (.rng 0 4)⟩,
     ⟨28, 28, .rw, 0x0, .any⟩], none⟩]

def tableCmt1 : List RegRow := [
  ⟨"CMT_OUT_DIST", 0x90104, [(24, 0x10)],
    [⟨31, 0, .rw, 0x0, .any⟩], none⟩,
  ⟨"CMT_OUT_WIN", 0x90108, [(24, 0x10)],
    [⟨31, 16, .rw, 0x0, .any⟩,
     ⟨15, 0, .rw, 0x0, .any⟩], none⟩,
  ⟨"CMT_TCFG", 0x91000, [(2, 0x1000)],
    [⟨31, 30, .rw, 0x0, (.rng 0 2)⟩,
     ⟨29, 29, .rw, 0x0, .any⟩,
     ⟨28, 26, .rw, 0x1, (.rng 0 3)⟩,
     ⟨15, 0, .rw, 0x40, .any⟩], none⟩,
  ⟨"CMT_PITCH", 0x91004, [(2, 0x1000)],
    [⟨31, 16, .rw, 0x1, (.rng 1 65535)⟩,
     ⟨15, 0, .rw, 0x0, .any⟩], none⟩,
  ⟨"CMT_FMAX", 0x91008, [(2, 0x1000)],
    [⟨19, 0, .rw, 0x3C0F0, (.rng 1 1000000)⟩], none⟩,
  ⟨"CMT_TDLY", 0x9100C, [(2, 0x1000)],
    [⟨19, 0, .rw, 0x2710, (.rng 2000 1000000)⟩], none⟩,
  ⟨"CMT_MARK_OFS", 0x91010, [(2, 0x1000)],
    [⟨30, 0, .rw, 0x0, .any⟩], none⟩,
  ⟨"CMT_TIMER", 0x91014, [(2, 0x1000)],
    [⟨31, 0, .rw, 0x2710, (.rng 1000 1000000000)⟩], none⟩]

def tableCmt : List RegRow := tableCmt0 ++ tableCmt1

def tableShp : List RegRow := [
  ⟨"SHP_STAT", 0xA0000, [],
    [⟨31, 31, .ro, 0x0, .any⟩,
     ⟨30, 30, .ro, 0x0, .any⟩,
     ⟨7, 6, .ro, 0x0, .any⟩,
     ⟨5, 4, .ro, 0x0, .any⟩,
     ⟨3, 2, .ro, 0x0, .any⟩,
     ⟨1, 0, .ro, 0x0, .any⟩], none⟩,
  ⟨"SHP_EVT", 0xA0004, [],
    [⟨5, 5, .w1c, 0x0, .any⟩,
     ⟨4, 4, .w1c, 0x0, .any⟩,
     ⟨3, 3, .w1c, 0x0, .any⟩,
     ⟨2, 2, .w1c, 0x0, .any⟩,
     ⟨1, 1, .w1c, 0x0, .any⟩,
     ⟨0, 0, .w1c, 0x0, .any⟩], none⟩,
  ⟨"SHP_CTRL", 0xA0008, [],
    [⟨31, 31, .rw, 0x1, .any⟩,
     ⟨30, 30, .rw, 0x1, .any⟩,
     ⟨23, 16, .rw, 0x32, (.rng 1 255)⟩,
     ⟨10, 8, .rw, 0x4, (.rng 0 6)⟩], none⟩,
  ⟨"SHP_BUDGET_W", 0xA000C, [],
    [⟨7, 0, .rw, 0xA0, (.rng 20 250)⟩], none⟩,
  ⟨"SHP_BASE_W", 0xA0010, [],
    [⟨7, 0, .rw, 0x43, (.rng 0 250)⟩], none⟩,
  ⟨"SHP_THERM", 0xA0014, [],
    [⟨15, 8, .rw, 0x87, (.rng 60 145)⟩,
     ⟨3, 0, .rw, 0x5, (.rng 1 15)⟩], none⟩,
  ⟨"SHP_ECYC", 0xA0018, [],
    [⟨29, 20, .rw, 0x17C, (.rng 1 1023)⟩,
     ⟨19, 10, .rw, 0x1E0, (.rng 1 1023)⟩,
     ⟨9, 0, .rw, 0x258, (.rng 1 1023)⟩], none⟩,
  ⟨"SHP_NEED", 0xA001C, [],
    [⟨31, 16, .ro, 0x0, .any⟩,
     ⟨15, 0, .ro, 0x0, .any⟩], none⟩,
  ⟨"SHP_CAP", 0xA0020, [],
    [⟨15, 0, .ro, 0x4E2, .any⟩], none⟩,
  ⟨"SHP_REM", 0xA0024, [],
    [⟨31, 0, .ro, 0x0, .any⟩], none⟩,
  ⟨"SHP_FLOCK_PWR", 0xA0028, [],
    [⟨19, 0, .ro, 0x0, .any⟩], none⟩,
  ⟨"SHP_C_STAT", 0xA0100, [(4, 0x20)],
    [⟨31, 30, .ro, 0x0, .any⟩,
     ⟨27, 24, .ro, 0x0, .any⟩,
     ⟨20, 16, .ro, 0x10, .any⟩,
     ⟨15, 0, .ro, 0x8000, .any⟩], none⟩,
  ⟨"SHP_C_TEMP0", 0xA0104, [(4, 0x20)],
    [⟨31, 16, .ro, 0x8000, .any⟩,
     ⟨15, 0, .ro, 0x8000, .any⟩], none⟩,
  ⟨"SHP_C_TEMP1", 0xA0108, [(4, 0x20)],
    [⟨31, 16, .ro, 0x8000, .any⟩,
     ⟨15, 0, .ro, 0x8000, .any⟩], none⟩,
  ⟨"SHP_C_PWR", 0xA010C, [(4, 0x20)],
    [⟨19, 0, .ro, 0x0, .any⟩], none⟩,
  ⟨"SHP_C_MAP0", 0xA0110, [(4, 0x20)],
    [⟨31, 0, .ro, 0x0, .any⟩], none⟩,
  ⟨"SHP_C_MAP1", 0xA0114, [(4, 0x20)],
    [⟨1, 0, .ro, 0x1, .any⟩], none⟩,
  ⟨"SHP_C_LIMIT", 0xA0118, [(4, 0x20)],
    [⟨1, 0, .rw, 0x0, (.rng 0 2)⟩], none⟩,
  ⟨"SHP_START", 0xA0200, [(4, 0x4)],
    [⟨31, 0, .rc, 0x0, .any⟩], none⟩,
  ⟨"SHP_DEFER", 0xA0210, [(3, 0x4)],
    [⟨31, 0, .rc, 0x0, .any⟩], none⟩,
  ⟨"SHP_DROP", 0xA0220, [(3, 0x4)],
    [⟨31, 0, .rc, 0x0, .any⟩], none⟩,
  ⟨"SHP_STEP_DN", 0xA0230, [],
    [⟨31, 0, .rc, 0x0, .any⟩], none⟩,
  ⟨"SHP_STEP_UP", 0xA0234, [],
    [⟨31, 0, .rc, 0x0, .any⟩], none⟩,
  ⟨"SHP_FLOOR_CNT", 0xA0238, [],
    [⟨31, 0, .rc, 0x0, .any⟩], none⟩]

def tableHp0 : List RegRow := [
  ⟨"HP_LN_CTRL", 0x108000, [(8, 0x10000), (5, 0x100)],
    [⟨7, 7, .rw, 0x0, .any⟩,
     ⟨6, 5, .rw, 0x0, (.rng 0 2)⟩,
     ⟨4, 4, .rw, 0x0, .any⟩,
     ⟨3, 3, .rw, 0x0, .any⟩,
     ⟨2, 2, .rw, 0x0, .any⟩,
     ⟨1, 1, .rw, 0x0, .any⟩], none⟩,
  ⟨"HP_LN_STATE", 0x108004, [(8, 0x10000), (5, 0x100)],
    [⟨18, 18, .ro, 0x0, .any⟩,
     ⟨17, 17, .ro, 0x0, .any⟩,
     ⟨16, 16, .ro, 0x0, .any⟩,
     ⟨4, 4, .ro, 0x0, .any⟩,
     ⟨3, 0, .ro, 0x0, .any⟩], (some fun ix => if ix.getD 1 0 = 4 then 0 else 16)⟩,
  ⟨"HP_LN_TXEQ", 0x108008, [(8, 0x10000), (5, 0x100)],
    [⟨31, 29, .rw, 0x2, (.rng 0 4)⟩,
     ⟨20, 16, .rw, 0x0, .any⟩,
     ⟨13, 8, .rw, 0x3F, .any⟩,
     ⟨4, 0, .rw, 0x0, .any⟩], none⟩,
  ⟨"HP_LN_RXEQ", 0x10800C, [(8, 0x10000), (5, 0x100)],
    [⟨21, 16, .rw, 0x20, .any⟩,
     ⟨3, 0, .rw, 0x8, .any⟩], none⟩,
  ⟨"HP_LN_FFE0", 0x108010, [(8, 0x10000), (5, 0x100)],
    [⟨31, 24, .rw, 0x0, .any⟩,
     ⟨23, 16, .rw, 0x0, .any⟩,
     ⟨15, 8, .rw, 0x0, .any⟩,
     ⟨7, 0, .rw, 0x0, .any⟩], none⟩,
  ⟨"HP_LN_ADAPT", 0x108020, [(8, 0x10000), (5, 0x100)],
    [⟨31, 31, .rw, 0x1, .any⟩,
     ⟨27, 20, .rw, 0x4, (.rng 1 255)⟩,
     ⟨19, 12, .rw, 0x4, (.rng 1 255)⟩,
     ⟨9, 0, .rw, 0x100, .any⟩], none⟩,
  ⟨"HP_LN_GUARD", 0x108024, [(8, 0x10000), (5, 0x100)],
    [⟨15, 8, .rw, 0x30, .any⟩,
     ⟨7, 0, .rw, 0x18, .any⟩], none⟩,
  ⟨"HP_LN_EYE", 0x108028, [(8, 0x10000), (5, 0x100)],
    [⟨15, 8, .ro, 0x0, .any⟩,
     ⟨7, 0, .ro, 0x0, .any⟩], none⟩,
  ⟨"HP_LN_EVT", 0x10802C, [(8, 0x10000), (5, 0x100)],
    [⟨4, 4, .w1c, 0x0, .any⟩,
     ⟨3, 3, .w1c, 0x0, .any⟩,
     ⟨2, 2, .w1c, 0x0, .any⟩,
     ⟨1, 1, .w1c, 0x0, .any⟩,
     ⟨0, 0, .w1c, 0x0, .any⟩], none⟩,
  ⟨"HP_LN_SNAP_CNT", 0x108030, [(8, 0x10000), (5, 0x100)],
    [⟨15, 0, .rc, 0x0, .any⟩], none⟩,
  ⟨"HP_LN_PRBS_CTRL", 0x108034, [(8, 0x10000), (5, 0x100)],
    [⟨31, 31, .rw, 0x0, .any⟩,
     ⟨30, 30, .rw, 0x0, .any⟩,
     ⟨27, 24, .rw, 0x0, (.rng 0 7)⟩,
     ⟨23, 20, .rw, 0x0, (.rng 0 7)⟩,
     ⟨0, 0, .wo, 0x0, .any⟩], none⟩,
  ⟨"HP_LN_PRBS_STAT", 0x108038, [(8, 0x10000), (5, 0x100)],
    [⟨0, 0, .ro, 0x0, .any⟩], none⟩,
  ⟨"HP_LN_PRBS_ERR_LO", 0x10803C, [(8, 0x10000), (5, 0x100)],
    [⟨31, 0, .ro, 0x0, .any⟩], none⟩,
  ⟨"HP_LN_PRBS_ERR_HI", 0x108040, [(8, 0x10000), (5, 0x100)],
    [⟨15, 0, .ro, 0x0, .any⟩], none⟩,
  ⟨"HP_LN_PRBS_BITS_LO", 0x108044, [(8, 0x10000), (5, 0x100)],
    [⟨31, 0, .ro, 0x0, .any⟩], none⟩,
  ⟨"HP_LN_PRBS_BITS_HI", 0x108048, [(8, 0x10000), (5, 0x100)],
    [⟨15, 0, .ro, 0x0, .any⟩], none⟩,
  ⟨"HP_LN_INJ", 0x10804C, [(8, 0x10000), (5, 0x100)],
    [⟨31, 30, .rw, 0x0, .any⟩,
     ⟨23, 16, .rw, 0x0, .any⟩,
     ⟨15, 0, .rw, 0x0, .any⟩], none⟩,
  ⟨"HP_LANE_MAP", 0x108F00, [(8, 0x10000)],
    [⟨15, 12, .rw, 0x3, .any⟩,
     ⟨11, 8, .rw, 0x2, .any⟩,
     ⟨7, 4, .rw, 0x1, .any⟩,
     ⟨3, 0, .rw, 0x0, .any⟩], none⟩,
  ⟨"HP_LANE_RATE", 0x108F04, [(8, 0x10000)],
    [⟨1, 0, .rw, 0x0, (.rng 0 1)⟩], none⟩,
  ⟨"HP_SPARE_COND", 0x108F08, [(8, 0x10000)],
    [⟨31, 31, .rw, 0x1, .any⟩,
     ⟨15, 0, .rw, 0x18, (.rng 1 65535)⟩], none⟩,
  ⟨"HP_SPARE_STAT", 0x108F0C, [(8, 0x10000)],
    [⟨31, 16, .ro, 0x0, .any⟩,
     ⟨2, 2, .ro, 0x0, .any⟩,
     ⟨1, 1, .ro, 0x0, .any⟩,
     ⟨0, 0, .ro, 0x0, .any⟩], none⟩,
  ⟨"HP_LINK_CTRL", 0x100000, [(8, 0x10000)],
    [⟨31, 31, .rw, 0x0, .any⟩,
     ⟨30, 30, .wo, 0x0, .any⟩,
     ⟨29, 28, .rw, 0x0, (.rng 0 2)⟩,
     ⟨27, 27, .rw, 0x0, .any⟩,
     ⟨26, 26, .ro, 0x0, .any⟩], none⟩,
  ⟨"HP_LINK_STATE", 0x100004, [(8, 0x10000)],
    [⟨31, 28, .ro, 0x0, .any⟩,
     ⟨27, 16, .ro, 0x0, .any⟩,
     ⟨15, 4, .ro, 0x0, .any⟩,
     ⟨3, 0, .ro, 0x0, .any⟩], none⟩,
  ⟨"HP_LINK_EVT", 0x100008, [(8, 0x10000)],
    [⟨10, 10, .w1c, 0x0, .any⟩,
     ⟨9, 9, .w1c, 0x0, .any⟩,
     ⟨8, 8, .w1c, 0x0, .any⟩,
     ⟨7, 7, .w1c, 0x0, .any⟩,
     ⟨6, 6, .w1c, 0x0, .any⟩,
     ⟨5, 5, .w1c, 0x0, .any⟩,
     ⟨4, 4, .w1c, 0x0, .any⟩,
     ⟨3, 3, .w1c, 0x0, .any⟩,
     ⟨2, 2, .w1c, 0x0, .any⟩,
     ⟨1, 1, .w1c, 0x0, .any⟩,
     ⟨0, 0, .w1c, 0x0, .any⟩], none⟩]

def tableHp1 : List RegRow := [
  ⟨"HP_LINK_CFG", 0x10000C, [(8, 0x10000)],
    [⟨31, 24, .rw, 0x0, .any⟩,
     ⟨23, 16, .rw, 0x1, (.rng 1 255)⟩,
     ⟨15, 8, .rw, 0xA, (.rng 1 255)⟩,
     ⟨7, 0, .rw, 0x64, .any⟩], (some fun ix => ix.getD 0 0 * 0x1000000 + 0x10A64)⟩,
  ⟨"HP_LAT", 0x100010, [(8, 0x10000)],
    [⟨23, 0, .ro, 0x0, .any⟩], none⟩,
  ⟨"HP_HEAD_TRIG", 0x100014, [(8, 0x10000)],
    [⟨31, 0, .ro, 0x0, .any⟩], none⟩,
  ⟨"HP_SWAP_CMD", 0x100018, [(8, 0x10000)],
    [⟨31, 31, .wo, 0x0, .any⟩,
     ⟨1, 0, .rw, 0x0, .any⟩], none⟩,
  ⟨"HP_SWAP_STAT", 0x10001C, [(8, 0x10000)],
    [⟨31, 31, .ro, 0x0, .any⟩,
     ⟨30, 28, .ro, 0x0, .any⟩,
     ⟨27, 24, .ro, 0x0, .any⟩,
     ⟨15, 0, .ro, 0x0, .any⟩], none⟩,
  ⟨"HP_HREG_ADDR", 0x100020, [(8, 0x10000)],
    [⟨31, 0, .rw, 0x0, (.mult 0 4294967295 4)⟩], none⟩,
  ⟨"HP_HREG_DATA", 0x100024, [(8, 0x10000)],
    [⟨31, 0, .rw, 0x0, .any⟩], none⟩,
  ⟨"HP_HREG_CMD", 0x100028, [(8, 0x10000)],
    [⟨31, 30, .wo, 0x0, .any⟩], none⟩,
  ⟨"HP_HREG_STAT", 0x10002C, [(8, 0x10000)],
    [⟨31, 31, .ro, 0x0, .any⟩,
     ⟨30, 30, .ro, 0x0, .any⟩,
     ⟨15, 8, .ro, 0x0, .any⟩,
     ⟨7, 0, .ro, 0x0, .any⟩], none⟩,
  ⟨"HP_LANE_THR", 0x100030, [(8, 0x10000)],
    [⟨15, 0, .rw, 0x400, .any⟩], none⟩,
  ⟨"HP_FEC_CORR", 0x100040, [(8, 0x10000)],
    [⟨31, 0, .rc, 0x0, .any⟩], none⟩,
  ⟨"HP_FEC_UNCORR", 0x100044, [(8, 0x10000)],
    [⟨31, 0, .rc, 0x0, .any⟩], none⟩,
  ⟨"HP_LSYM", 0x100048, [(8, 0x10000), (4, 0x4)],
    [⟨31, 0, .rc, 0x0, .any⟩], none⟩,
  ⟨"HP_FRAME_ERR", 0x100058, [(8, 0x10000)],
    [⟨31, 0, .rc, 0x0, .any⟩], none⟩,
  ⟨"HP_FEC_DROP", 0x10005C, [(8, 0x10000)],
    [⟨31, 0, .rc, 0x0, .any⟩], none⟩,
  ⟨"HP_CRC_ERR", 0x100060, [(8, 0x10000)],
    [⟨31, 0, .rc, 0x0, .any⟩], none⟩,
  ⟨"HP_TYPE_ERR", 0x100064, [(8, 0x10000)],
    [⟨31, 0, .rc, 0x0, .any⟩], none⟩,
  ⟨"HP_OS_ERR", 0x100068, [(8, 0x10000)],
    [⟨31, 0, .rc, 0x0, .any⟩], none⟩,
  ⟨"HP_ID_ERR", 0x10006C, [(8, 0x10000)],
    [⟨31, 0, .rc, 0x0, .any⟩], none⟩,
  ⟨"HP_FMT_ERR", 0x100070, [(8, 0x10000)],
    [⟨31, 0, .rc, 0x0, .any⟩], none⟩,
  ⟨"HP_ALIVE_REP", 0x100074, [(8, 0x10000)],
    [⟨31, 0, .rc, 0x0, .any⟩], none⟩,
  ⟨"HP_ALIVE_SKIP", 0x100078, [(8, 0x10000)],
    [⟨31, 0, .rc, 0x0, .any⟩], none⟩,
  ⟨"HP_TS_ERR", 0x10007C, [(8, 0x10000)],
    [⟨31, 0, .rc, 0x0, .any⟩], none⟩,
  ⟨"HP_TRIG_LATE", 0x100080, [(8, 0x10000)],
    [⟨31, 0, .rc, 0x0, .any⟩], none⟩]

def tableHp2 : List RegRow := [
  ⟨"HP_LINE_CNT", 0x100084, [(8, 0x10000)],
    [⟨31, 0, .rc, 0x0, .any⟩], none⟩,
  ⟨"HP_CAP", 0x100100, [(8, 0x10000), (10, 0x4)],
    [⟨31, 0, .ro, 0x0, .any⟩], none⟩]

def tableHp : List RegRow := tableHp0 ++ tableHp1 ++ tableHp2

def tablePl0 : List RegRow := [
  ⟨"PL_LN_CTRL", 0x188000, [(3, 0x100)],
    [⟨7, 7, .rw, 0x0, .any⟩,
     ⟨6, 5, .rw, 0x0, (.rng 0 2)⟩,
     ⟨4, 4, .rw, 0x0, .any⟩,
     ⟨3, 3, .rw, 0x0, .any⟩,
     ⟨2, 2, .rw, 0x0, .any⟩,
     ⟨1, 1, .rw, 0x0, .any⟩], none⟩,
  ⟨"PL_LN_STATE", 0x188004, [(3, 0x100)],
    [⟨18, 18, .ro, 0x0, .any⟩,
     ⟨17, 17, .ro, 0x0, .any⟩,
     ⟨16, 16, .ro, 0x0, .any⟩,
     ⟨4, 4, .ro, 0x0, .any⟩,
     ⟨3, 0, .ro, 0x0, .any⟩], (some fun ix => if ix.getD 0 0 = 2 then 0 else 16)⟩,
  ⟨"PL_LN_TXEQ", 0x188008, [(3, 0x100)],
    [⟨31, 29, .rw, 0x2, (.rng 0 4)⟩,
     ⟨20, 16, .rw, 0x0, .any⟩,
     ⟨13, 8, .rw, 0x3F, .any⟩,
     ⟨4, 0, .rw, 0x0, .any⟩], none⟩,
  ⟨"PL_LN_RXEQ", 0x18800C, [(3, 0x100)],
    [⟨21, 16, .rw, 0x20, .any⟩,
     ⟨3, 0, .rw, 0x8, .any⟩], none⟩,
  ⟨"PL_LN_FFE0", 0x188010, [(3, 0x100)],
    [⟨31, 24, .rw, 0x0, .any⟩,
     ⟨23, 16, .rw, 0x0, .any⟩,
     ⟨15, 8, .rw, 0x0, .any⟩,
     ⟨7, 0, .rw, 0x0, .any⟩], none⟩,
  ⟨"PL_LN_ADAPT", 0x188020, [(3, 0x100)],
    [⟨31, 31, .rw, 0x1, .any⟩,
     ⟨27, 20, .rw, 0x4, (.rng 1 255)⟩,
     ⟨19, 12, .rw, 0x4, (.rng 1 255)⟩,
     ⟨9, 0, .rw, 0x100, .any⟩], none⟩,
  ⟨"PL_LN_GUARD", 0x188024, [(3, 0x100)],
    [⟨15, 8, .rw, 0x30, .any⟩,
     ⟨7, 0, .rw, 0x18, .any⟩], none⟩,
  ⟨"PL_LN_EYE", 0x188028, [(3, 0x100)],
    [⟨15, 8, .ro, 0x0, .any⟩,
     ⟨7, 0, .ro, 0x0, .any⟩], none⟩,
  ⟨"PL_LN_EVT", 0x18802C, [(3, 0x100)],
    [⟨4, 4, .w1c, 0x0, .any⟩,
     ⟨3, 3, .w1c, 0x0, .any⟩,
     ⟨2, 2, .w1c, 0x0, .any⟩,
     ⟨1, 1, .w1c, 0x0, .any⟩,
     ⟨0, 0, .w1c, 0x0, .any⟩], none⟩,
  ⟨"PL_LN_SNAP_CNT", 0x188030, [(3, 0x100)],
    [⟨15, 0, .rc, 0x0, .any⟩], none⟩,
  ⟨"PL_LN_PRBS_CTRL", 0x188034, [(3, 0x100)],
    [⟨31, 31, .rw, 0x0, .any⟩,
     ⟨30, 30, .rw, 0x0, .any⟩,
     ⟨27, 24, .rw, 0x0, (.rng 0 7)⟩,
     ⟨23, 20, .rw, 0x0, (.rng 0 7)⟩,
     ⟨0, 0, .wo, 0x0, .any⟩], none⟩,
  ⟨"PL_LN_PRBS_STAT", 0x188038, [(3, 0x100)],
    [⟨0, 0, .ro, 0x0, .any⟩], none⟩,
  ⟨"PL_LN_PRBS_ERR_LO", 0x18803C, [(3, 0x100)],
    [⟨31, 0, .ro, 0x0, .any⟩], none⟩,
  ⟨"PL_LN_PRBS_ERR_HI", 0x188040, [(3, 0x100)],
    [⟨15, 0, .ro, 0x0, .any⟩], none⟩,
  ⟨"PL_LN_PRBS_BITS_LO", 0x188044, [(3, 0x100)],
    [⟨31, 0, .ro, 0x0, .any⟩], none⟩,
  ⟨"PL_LN_PRBS_BITS_HI", 0x188048, [(3, 0x100)],
    [⟨15, 0, .ro, 0x0, .any⟩], none⟩,
  ⟨"PL_LN_INJ", 0x18804C, [(3, 0x100)],
    [⟨31, 30, .rw, 0x0, .any⟩,
     ⟨23, 16, .rw, 0x0, .any⟩,
     ⟨15, 0, .rw, 0x0, .any⟩], none⟩,
  ⟨"PL_LANE_MAP", 0x188F00, [],
    [⟨7, 4, .rw, 0x1, .any⟩,
     ⟨3, 0, .rw, 0x0, .any⟩], none⟩,
  ⟨"PL_LANE_RATE", 0x188F04, [],
    [⟨1, 0, .ro, 0x0, .any⟩], none⟩,
  ⟨"PL_SPARE_COND", 0x188F08, [],
    [⟨31, 31, .rw, 0x1, .any⟩,
     ⟨15, 0, .rw, 0x18, (.rng 1 65535)⟩], none⟩,
  ⟨"PL_SPARE_STAT", 0x188F0C, [],
    [⟨31, 16, .ro, 0x0, .any⟩,
     ⟨2, 2, .ro, 0x0, .any⟩,
     ⟨1, 1, .ro, 0x0, .any⟩,
     ⟨0, 0, .ro, 0x0, .any⟩], none⟩,
  ⟨"PL_LINK_CTRL", 0x180000, [],
    [⟨31, 31, .rw, 0x0, .any⟩,
     ⟨30, 30, .wo, 0x0, .any⟩,
     ⟨29, 28, .rw, 0x0, (.rng 0 2)⟩,
     ⟨27, 27, .rw, 0x0, .any⟩,
     ⟨26, 26, .ro, 0x0, .any⟩], none⟩,
  ⟨"PL_LINK_STATE", 0x180004, [],
    [⟨31, 28, .ro, 0x0, .any⟩,
     ⟨27, 16, .ro, 0x0, .any⟩,
     ⟨15, 4, .ro, 0x0, .any⟩,
     ⟨3, 0, .ro, 0x0, .any⟩], none⟩,
  ⟨"PL_LINK_EVT", 0x180008, [],
    [⟨10, 10, .w1c, 0x0, .any⟩,
     ⟨9, 9, .w1c, 0x0, .any⟩,
     ⟨8, 8, .w1c, 0x0, .any⟩,
     ⟨7, 7, .w1c, 0x0, .any⟩,
     ⟨6, 6, .w1c, 0x0, .any⟩,
     ⟨5, 5, .w1c, 0x0, .any⟩,
     ⟨4, 4, .w1c, 0x0, .any⟩,
     ⟨3, 3, .w1c, 0x0, .any⟩,
     ⟨2, 2, .w1c, 0x0, .any⟩,
     ⟨1, 1, .w1c, 0x0, .any⟩,
     ⟨0, 0, .w1c, 0x0, .any⟩], none⟩]

def tablePl1 : List RegRow := [
  ⟨"PL_SWAP_CMD", 0x180018, [],
    [⟨31, 31, .wo, 0x0, .any⟩,
     ⟨1, 0, .rw, 0x0, .any⟩], none⟩,
  ⟨"PL_SWAP_STAT", 0x18001C, [],
    [⟨31, 31, .ro, 0x0, .any⟩,
     ⟨30, 28, .ro, 0x0, .any⟩,
     ⟨27, 24, .ro, 0x0, .any⟩,
     ⟨15, 0, .ro, 0x0, .any⟩], none⟩,
  ⟨"PL_LANE_THR", 0x180030, [],
    [⟨15, 0, .rw, 0x400, .any⟩], none⟩,
  ⟨"PL_FEC_CORR", 0x180040, [],
    [⟨31, 0, .rc, 0x0, .any⟩], none⟩,
  ⟨"PL_FEC_UNCORR", 0x180044, [],
    [⟨31, 0, .rc, 0x0, .any⟩], none⟩,
  ⟨"PL_LSYM", 0x180048, [(2, 0x4)],
    [⟨31, 0, .rc, 0x0, .any⟩], none⟩,
  ⟨"PL_FRAME_ERR", 0x180058, [],
    [⟨31, 0, .rc, 0x0, .any⟩], none⟩,
  ⟨"PL_FEC_DROP", 0x18005C, [],
    [⟨31, 0, .rc, 0x0, .any⟩], none⟩,
  ⟨"PL_CRC_ERR", 0x180060, [],
    [⟨31, 0, .rc, 0x0, .any⟩], none⟩,
  ⟨"PL_TYPE_ERR", 0x180064, [],
    [⟨31, 0, .rc, 0x0, .any⟩], none⟩,
  ⟨"PL_OS_ERR", 0x180068, [],
    [⟨31, 0, .rc, 0x0, .any⟩], none⟩,
  ⟨"PL_CAP", 0x180100, [(10, 0x4)],
    [⟨31, 0, .ro, 0x0, .any⟩], none⟩,
  ⟨"PL_STAT", 0x180400, [],
    [⟨31, 29, .ro, 0x0, .any⟩,
     ⟨28, 26, .ro, 0x0, .any⟩,
     ⟨25, 25, .ro, 0x0, .any⟩,
     ⟨24, 24, .ro, 0x0, .any⟩,
     ⟨15, 8, .ro, 0x0, .any⟩], none⟩,
  ⟨"PL_EVT", 0x180404, [],
    [⟨7, 7, .w1c, 0x0, .any⟩,
     ⟨6, 6, .w1c, 0x0, .any⟩,
     ⟨5, 5, .w1c, 0x0, .any⟩,
     ⟨4, 4, .w1c, 0x0, .any⟩,
     ⟨3, 3, .w1c, 0x0, .any⟩,
     ⟨2, 2, .w1c, 0x0, .any⟩,
     ⟨1, 1, .w1c, 0x0, .any⟩,
     ⟨0, 0, .w1c, 0x0, .any⟩], none⟩,
  ⟨"PL_CMD", 0x180408, [],
    [⟨31, 31, .wo, 0x0, .any⟩], none⟩,
  ⟨"PL_TCFG", 0x18040C, [],
    [⟨31, 24, .rw, 0xA, (.rng 1 255)⟩,
     ⟨15, 0, .rw, 0x64, (.rng 1 65535)⟩], none⟩,
  ⟨"PL_TOFS", 0x180410, [],
    [⟨31, 0, .ro, 0x0, .any⟩], none⟩,
  ⟨"PL_ACT_DIGEST", 0x180414, [],
    [⟨31, 0, .ro, 0x0, .any⟩], none⟩,
  ⟨"PL_LAST_DIV", 0x180418, [],
    [⟨31, 0, .ro, 0x0, .any⟩], none⟩,
  ⟨"PL_MSG_LOST", 0x180420, [],
    [⟨31, 0, .rc, 0x0, .any⟩], none⟩,
  ⟨"PL_DIV_CNT", 0x180424, [],
    [⟨31, 0, .rc, 0x0, .any⟩], none⟩,
  ⟨"PL_DIG_MISS", 0x180428, [],
    [⟨31, 0, .rc, 0x0, .any⟩], none⟩,
  ⟨"PL_TIME_ERR", 0x18042C, [],
    [⟨31, 0, .rc, 0x0, .any⟩], none⟩]

def tablePl : List RegRow := tablePl0 ++ tablePl1

def tableUl0 : List RegRow := [
  ⟨"UL_LN_CTRL", 0x198000, [(9, 0x100)],
    [⟨7, 7, .rw, 0x0, .any⟩,
     ⟨6, 5, .rw, 0x0, (.rng 0 2)⟩,
     ⟨4, 4, .rw, 0x0, .any⟩,
     ⟨3, 3, .rw, 0x0, .any⟩,
     ⟨2, 2, .rw, 0x0, .any⟩,
     ⟨1, 1, .rw, 0x0, .any⟩], none⟩,
  ⟨"UL_LN_STATE", 0x198004, [(9, 0x100)],
    [⟨18, 18, .ro, 0x0, .any⟩,
     ⟨17, 17, .ro, 0x0, .any⟩,
     ⟨16, 16, .ro, 0x0, .any⟩,
     ⟨4, 4, .ro, 0x0, .any⟩,
     ⟨3, 0, .ro, 0x0, .any⟩], (some fun ix => if ix.getD 0 0 = 8 then 0 else 16)⟩,
  ⟨"UL_LN_TXEQ", 0x198008, [(9, 0x100)],
    [⟨31, 29, .rw, 0x2, (.rng 0 4)⟩,
     ⟨28, 24, .rw, 0x0, .any⟩,
     ⟨20, 16, .rw, 0x0, .any⟩,
     ⟨13, 8, .rw, 0x3F, .any⟩,
     ⟨4, 0, .rw, 0x0, .any⟩], none⟩,
  ⟨"UL_LN_RXEQ", 0x19800C, [(9, 0x100)],
    [⟨21, 16, .rw, 0x20, .any⟩,
     ⟨3, 0, .rw, 0x8, .any⟩], none⟩,
  ⟨"UL_LN_FFE0", 0x198010, [(9, 0x100)],
    [⟨31, 24, .rw, 0x0, .any⟩,
     ⟨23, 16, .rw, 0x0, .any⟩,
     ⟨15, 8, .rw, 0x0, .any⟩,
     ⟨7, 0, .rw, 0x0, .any⟩], none⟩,
  ⟨"UL_LN_FFE1", 0x198014, [(9, 0x100)],
    [⟨31, 24, .rw, 0x0, .any⟩,
     ⟨23, 16, .rw, 0x0, .any⟩,
     ⟨15, 8, .rw, 0x0, .any⟩,
     ⟨7, 0, .rw, 0x0, .any⟩], none⟩,
  ⟨"UL_LN_FFE2", 0x198018, [(9, 0x100)],
    [⟨31, 24, .rw, 0x0, .any⟩,
     ⟨23, 16, .rw, 0x0, .any⟩,
     ⟨15, 8, .rw, 0x0, .any⟩], none⟩,
  ⟨"UL_LN_DFE", 0x19801C, [(9, 0x100)],
    [⟨7, 0, .rw, 0x0, .any⟩], none⟩,
  ⟨"UL_LN_ADAPT", 0x198020, [(9, 0x100)],
    [⟨31, 31, .rw, 0x1, .any⟩,
     ⟨27, 20, .rw, 0x4, (.rng 1 255)⟩,
     ⟨19, 12, .rw, 0x4, (.rng 1 255)⟩,
     ⟨9, 0, .rw, 0x100, .any⟩], none⟩,
  ⟨"UL_LN_GUARD", 0x198024, [(9, 0x100)],
    [⟨15, 8, .rw, 0x30, .any⟩,
     ⟨7, 0, .rw, 0x18, .any⟩], none⟩,
  ⟨"UL_LN_EYE", 0x198028, [(9, 0x100)],
    [⟨15, 8, .ro, 0x0, .any⟩,
     ⟨7, 0, .ro, 0x0, .any⟩], none⟩,
  ⟨"UL_LN_EVT", 0x19802C, [(9, 0x100)],
    [⟨4, 4, .w1c, 0x0, .any⟩,
     ⟨3, 3, .w1c, 0x0, .any⟩,
     ⟨2, 2, .w1c, 0x0, .any⟩,
     ⟨1, 1, .w1c, 0x0, .any⟩,
     ⟨0, 0, .w1c, 0x0, .any⟩], none⟩,
  ⟨"UL_LN_SNAP_CNT", 0x198030, [(9, 0x100)],
    [⟨15, 0, .rc, 0x0, .any⟩], none⟩,
  ⟨"UL_LN_PRBS_CTRL", 0x198034, [(9, 0x100)],
    [⟨31, 31, .rw, 0x0, .any⟩,
     ⟨30, 30, .rw, 0x0, .any⟩,
     ⟨27, 24, .rw, 0x0, (.rng 0 7)⟩,
     ⟨23, 20, .rw, 0x0, (.rng 0 7)⟩,
     ⟨0, 0, .wo, 0x0, .any⟩], none⟩,
  ⟨"UL_LN_PRBS_STAT", 0x198038, [(9, 0x100)],
    [⟨0, 0, .ro, 0x0, .any⟩], none⟩,
  ⟨"UL_LN_PRBS_ERR_LO", 0x19803C, [(9, 0x100)],
    [⟨31, 0, .ro, 0x0, .any⟩], none⟩,
  ⟨"UL_LN_PRBS_ERR_HI", 0x198040, [(9, 0x100)],
    [⟨15, 0, .ro, 0x0, .any⟩], none⟩,
  ⟨"UL_LN_PRBS_BITS_LO", 0x198044, [(9, 0x100)],
    [⟨31, 0, .ro, 0x0, .any⟩], none⟩,
  ⟨"UL_LN_PRBS_BITS_HI", 0x198048, [(9, 0x100)],
    [⟨15, 0, .ro, 0x0, .any⟩], none⟩,
  ⟨"UL_LN_INJ", 0x19804C, [(9, 0x100)],
    [⟨31, 30, .rw, 0x0, .any⟩,
     ⟨23, 16, .rw, 0x0, .any⟩,
     ⟨15, 0, .rw, 0x0, .any⟩], none⟩,
  ⟨"UL_LANE_MAP", 0x198F00, [],
    [⟨31, 28, .rw, 0x7, .any⟩,
     ⟨27, 24, .rw, 0x6, .any⟩,
     ⟨23, 20, .rw, 0x5, .any⟩,
     ⟨19, 16, .rw, 0x4, .any⟩,
     ⟨15, 12, .rw, 0x3, .any⟩,
     ⟨11, 8, .rw, 0x2, .any⟩,
     ⟨7, 4, .rw, 0x1, .any⟩,
     ⟨3, 0, .rw, 0x0, .any⟩], none⟩,
  ⟨"UL_LANE_RATE", 0x198F04, [],
    [⟨1, 0, .ro, 0x2, .any⟩], none⟩,
  ⟨"UL_SPARE_COND", 0x198F08, [],
    [⟨31, 31, .rw, 0x1, .any⟩,
     ⟨15, 0, .rw, 0x18, (.rng 1 65535)⟩], none⟩,
  ⟨"UL_SPARE_STAT", 0x198F0C, [],
    [⟨31, 16, .ro, 0x0, .any⟩,
     ⟨2, 2, .ro, 0x0, .any⟩,
     ⟨1, 1, .ro, 0x0, .any⟩,
     ⟨0, 0, .ro, 0x0, .any⟩], none⟩]

def tableUl1 : List RegRow := [
  ⟨"UL_CTRL", 0x190000, [],
    [⟨31, 31, .rw, 0x0, .any⟩,
     ⟨30, 30, .wo, 0x0, .any⟩,
     ⟨29, 29, .rw, 0x0, .any⟩,
     ⟨28, 27, .rw, 0x0, (.rng 0 2)⟩,
     ⟨26, 26, .rw, 0x0, .any⟩,
     ⟨25, 25, .rw, 0x0, .any⟩,
     ⟨2, 0, .rw, 0x0, .any⟩], none⟩,
  ⟨"UL_STAT", 0x190004, [],
    [⟨31, 28, .ro, 0x0, .any⟩,
     ⟨27, 24, .ro, 0xF, .any⟩], none⟩,
  ⟨"UL_EVT", 0x190008, [],
    [⟨4, 4, .w1c, 0x0, .any⟩,
     ⟨3, 3, .w1c, 0x0, .any⟩,
     ⟨2, 2, .w1c, 0x0, .any⟩,
     ⟨1, 1, .w1c, 0x0, .any⟩,
     ⟨0, 0, .w1c, 0x0, .any⟩], none⟩,
  ⟨"UL_MAC_LO", 0x19000C, [],
    [⟨31, 0, .rw, 0x0, .any⟩], none⟩,
  ⟨"UL_MAC_HI", 0x190010, [],
    [⟨15, 0, .rw, 0x0, .any⟩], none⟩,
  ⟨"UL_VLAN", 0x190014, [],
    [⟨31, 31, .rw, 0x0, .any⟩,
     ⟨14, 12, .rw, 0x0, .any⟩,
     ⟨11, 0, .rw, 0x1, (.rng 1 4094)⟩], none⟩,
  ⟨"UL_IP4", 0x190018, [],
    [⟨31, 0, .rw, 0x0, .any⟩], none⟩,
  ⟨"UL_IP6", 0x19001C, [(4, 0x4)],
    [⟨31, 0, .rw, 0x0, .any⟩], none⟩,
  ⟨"UL_SCP", 0x19002C, [],
    [⟨31, 16, .rw, 0x88B6, .any⟩,
     ⟨15, 0, .rw, 0xC100, .any⟩], none⟩,
  ⟨"UL_LANE_THR", 0x190030, [],
    [⟨15, 0, .rw, 0x1000, .any⟩], none⟩,
  ⟨"UL_TS_ADJ", 0x190034, [],
    [⟨31, 16, .rw, 0x0, .any⟩,
     ⟨15, 0, .rw, 0x0, .any⟩], none⟩,
  ⟨"UL_FEC_CORR", 0x190040, [],
    [⟨31, 0, .rc, 0x0, .any⟩], none⟩,
  ⟨"UL_FEC_UNCORR", 0x190044, [],
    [⟨31, 0, .rc, 0x0, .any⟩], none⟩,
  ⟨"UL_TX_FRM", 0x190048, [],
    [⟨31, 0, .rc, 0x0, .any⟩], none⟩,
  ⟨"UL_RX_FRM", 0x19004C, [],
    [⟨31, 0, .rc, 0x0, .any⟩], none⟩,
  ⟨"UL_RX_FCS", 0x190050, [],
    [⟨31, 0, .rc, 0x0, .any⟩], none⟩,
  ⟨"UL_RX_DROP", 0x190054, [],
    [⟨31, 0, .rc, 0x0, .any⟩], none⟩,
  ⟨"UL_RX_PAUSE", 0x190058, [],
    [⟨31, 0, .rc, 0x0, .any⟩], none⟩,
  ⟨"UL_DOWN_CNT", 0x19005C, [],
    [⟨31, 0, .rc, 0x0, .any⟩], none⟩]

def tableUl : List RegRow := tableUl0 ++ tableUl1

def tableSsp : List RegRow := [
  ⟨"SSP_STAT", 0x1A0000, [],
    [⟨31, 31, .ro, 0x0, .any⟩,
     ⟨30, 30, .ro, 0x0, .any⟩,
     ⟨15, 8, .ro, 0x0, .any⟩,
     ⟨7, 0, .ro, 0x0, .any⟩], none⟩,
  ⟨"SSP_EVT", 0x1A0004, [],
    [⟨3, 3, .w1c, 0x0, .any⟩,
     ⟨2, 2, .w1c, 0x0, .any⟩,
     ⟨1, 1, .w1c, 0x0, .any⟩,
     ⟨0, 0, .w1c, 0x0, .any⟩], none⟩,
  ⟨"SSP_CFG", 0x1A0008, [],
    [⟨31, 30, .rw, 0x1, (.rng 0 2)⟩,
     ⟨29, 29, .rw, 0x1, .any⟩,
     ⟨21, 16, .rw, 0x0, .any⟩,
     ⟨7, 0, .rw, 0x80, (.rng 65 128)⟩], none⟩,
  ⟨"SSP_ETYPE", 0x1A000C, [],
    [⟨15, 0, .rw, 0x88B5, .any⟩], none⟩,
  ⟨"SSP_DMAC_LO", 0x1A0010, [],
    [⟨31, 0, .rw, 0x0, .any⟩], none⟩,
  ⟨"SSP_DMAC_HI", 0x1A0014, [],
    [⟨15, 0, .rw, 0x0, .any⟩], none⟩,
  ⟨"SSP_DIP4", 0x1A0018, [],
    [⟨31, 0, .rw, 0x0, .any⟩], none⟩,
  ⟨"SSP_DIP6", 0x1A001C, [(4, 0x4)],
    [⟨31, 0, .rw, 0x0, .any⟩], none⟩,
  ⟨"SSP_UDP", 0x1A002C, [],
    [⟨15, 0, .rw, 0xC000, (.rng 0 65530)⟩], none⟩,
  ⟨"SSP_PACE", 0x1A0030, [],
    [⟨9, 0, .rw, 0x0, (.rng 0 800)⟩], none⟩,
  ⟨"SSP_RING_BASE", 0x1A0034, [],
    [⟨27, 0, .rw, 0x8000000, .any⟩], none⟩,
  ⟨"SSP_RING_SIZE", 0x1A0038, [],
    [⟨12, 0, .rw, 0x400, (.mult 64 4096 64)⟩], none⟩,
  ⟨"SSP_PSEQ", 0x1A0040, [(6, 0x4)],
    [⟨31, 0, .ro, 0x0, .any⟩], none⟩,
  ⟨"SSP_TX", 0x1A0060, [(6, 0x4)],
    [⟨31, 0, .rc, 0x0, .any⟩], none⟩,
  ⟨"SSP_DROP", 0x1A0080, [(6, 0x4)],
    [⟨31, 0, .rc, 0x0, .any⟩], none⟩,
  ⟨"SSP_WITHHELD", 0x1A00A0, [],
    [⟨31, 0, .rc, 0x0, .any⟩], none⟩,
  ⟨"SSP_TRUNC", 0x1A00A4, [],
    [⟨31, 0, .rc, 0x0, .any⟩], none⟩,
  ⟨"SSP_SYNC_CNT", 0x1A00A8, [],
    [⟨31, 0, .rc, 0x0, .any⟩], none⟩,
  ⟨"SSP_PSEL", 0x1A1000, [(2, 0x1000)],
    [⟨4, 0, .rw, 0x0, .any⟩], none⟩,
  ⟨"SSP_P0_CFG", 0x1A1004, [(2, 0x1000)],
    [⟨31, 30, .rw, 0x3, .any⟩,
     ⟨29, 28, .rw, 0x0, (.rng 0 2)⟩,
     ⟨4, 0, .rw, 0x1, (.rng 1 16)⟩], none⟩,
  ⟨"SSP_P1_CFG", 0x1A1008, [(2, 0x1000)],
    [⟨31, 31, .rw, 0x0, .any⟩,
     ⟨30, 29, .rw, 0x3, .any⟩,
     ⟨28, 27, .rw, 0x1, .any⟩,
     ⟨26, 16, .rw, 0x100, (.rng 1 2047)⟩,
     ⟨15, 12, .rw, 0xF, .any⟩,
     ⟨11, 0, .rw, 0x0, (.rng 0 3040)⟩], none⟩,
  ⟨"SSP_ROI", 0x1A1010, [(2, 0x1000), (16, 0x4)],
    [⟨31, 28, .rw, 0x7, (.rng 1 15)⟩,
     ⟨27, 14, .rw, 0x2000, (.rng 1 8192)⟩,
     ⟨12, 0, .rw, 0x0, .any⟩], none⟩]

def tableFe : List RegRow := [
  ⟨"FE_STAT", 0x200000, [(8, 0x2000)],
    [⟨31, 31, .ro, 0x0, .any⟩,
     ⟨30, 30, .ro, 0x0, .any⟩], none⟩,
  ⟨"FE_TBL_ADDR", 0x200004, [(8, 0x2000)],
    [⟨31, 31, .rw, 0x0, .any⟩,
     ⟨15, 0, .rw, 0x0, .any⟩], none⟩,
  ⟨"FE_TBL_DATA", 0x200008, [(8, 0x2000)],
    [⟨31, 0, .rw, 0x0, .any⟩], none⟩,
  ⟨"FE_TBL_CHK", 0x20000C, [(8, 0x2000)],
    [⟨31, 31, .wo, 0x0, .any⟩,
     ⟨30, 30, .ro, 0x0, .any⟩,
     ⟨29, 29, .ro, 0x0, .any⟩,
     ⟨28, 28, .rw, 0x0, .any⟩], none⟩,
  ⟨"FE_TBL_CRC", 0x200010, [(8, 0x2000)],
    [⟨31, 0, .ro, 0x0, .any⟩], none⟩,
  ⟨"FE_ECC_CORR", 0x200014, [(8, 0x2000)],
    [⟨31, 0, .rc, 0x0, .any⟩], none⟩,
  ⟨"FE_ECC_UNC", 0x200018, [(8, 0x2000)],
    [⟨31, 0, .rc, 0x0, .any⟩], none⟩,
  ⟨"FE_LINE_OUT", 0x200020, [(8, 0x2000)],
    [⟨31, 0, .rc, 0x0, .any⟩], none⟩,
  ⟨"FE_MISS_CNT", 0x200024, [(8, 0x2000)],
    [⟨31, 0, .rc, 0x0, .any⟩], none⟩,
  ⟨"FE_PART_CNT", 0x200028, [(8, 0x2000)],
    [⟨31, 0, .rc, 0x0, .any⟩], none⟩,
  ⟨"FE_LATE_CNT", 0x20002C, [(8, 0x2000)],
    [⟨31, 0, .rc, 0x0, .any⟩], none⟩,
  ⟨"FE_DUP_CNT", 0x200030, [(8, 0x2000)],
    [⟨31, 0, .rc, 0x0, .any⟩], none⟩,
  ⟨"FE_UNEXP_CNT", 0x200034, [(8, 0x2000)],
    [⟨31, 0, .rc, 0x0, .any⟩], none⟩,
  ⟨"FE_LNO_GAP", 0x200038, [(8, 0x2000)],
    [⟨31, 0, .rc, 0x0, .any⟩], none⟩,
  ⟨"FE_SAT_CNT", 0x20003C, [(8, 0x2000)],
    [⟨31, 0, .rc, 0x0, .any⟩], none⟩,
  ⟨"FE_NDPX_CNT", 0x200040, [(8, 0x2000)],
    [⟨31, 0, .rc, 0x0, .any⟩], none⟩,
  ⟨"FE_OVF_CNT", 0x200044, [(8, 0x2000)],
    [⟨31, 0, .rc, 0x0, .any⟩], none⟩,
  ⟨"FE_JCFG", 0x200400, [(8, 0x2000), (2, 0x200)],
    [⟨31, 31, .rw, 0x0, .any⟩,
     ⟨29, 28, .rw, 0x2, .any⟩,
     ⟨27, 26, .rw, 0x3, .any⟩,
     ⟨25, 25, .rw, 0x0, .any⟩,
     ⟨14, 0, .rw, 0x4000, (.rng 1 16384)⟩], none⟩,
  ⟨"FE_CROP", 0x200404, [(8, 0x2000), (2, 0x200)],
    [⟨30, 16, .rw, 0x4000, (.rng 1 16384)⟩,
     ⟨13, 0, .rw, 0x0, .any⟩], none⟩,
  ⟨"FE_BIN_TMO", 0x200408, [(8, 0x2000), (2, 0x200)],
    [⟨31, 30, .rw, 0x0, (.rng 0 2)⟩,
     ⟨9, 0, .rw, 0x28, (.rng 2 1000)⟩], none⟩,
  ⟨"FE_CHMAP", 0x20040C, [(8, 0x2000), (2, 0x200)],
    [⟨15, 12, .rw, 0x4, (.rng 0 7)⟩,
     ⟨11, 8, .rw, 0x3, (.rng 0 7)⟩,
     ⟨7, 4, .rw, 0x2, (.rng 0 7)⟩,
     ⟨3, 0, .rw, 0x1, (.rng 0 7)⟩], none⟩,
  ⟨"FE_MAT", 0x200410, [(8, 0x2000), (2, 0x200), (8, 0x4)],
    [⟨31, 16, .rw, 0x0, .any⟩,
     ⟨15, 0, .rw, 0x0, .any⟩], (some fun ix => [0x1000, 0, 0x10000000, 0, 0, 0x1000, 0, 0x10000000].getD (ix.getD 2 0) 0)⟩,
  ⟨"FE_OFS0", 0x200430, [(8, 0x2000), (2, 0x200)],
    [⟨31, 16, .rw, 0x0, .any⟩,
     ⟨15, 0, .rw, 0x0, .any⟩], none⟩,
  ⟨"FE_OFS1", 0x200434, [(8, 0x2000), (2, 0x200)],
    [⟨31, 16, .rw, 0x0, .any⟩,
     ⟨15, 0, .rw, 0x0, .any⟩], none⟩]

def tableStc : List RegRow := [
  ⟨"STC_STAT", 0x300000, [],
    [⟨31, 31, .ro, 0x0, .any⟩,
     ⟨30, 30, .ro, 0x0, .any⟩,
     ⟨15, 0, .ro, 0x0, .any⟩], none⟩,
  ⟨"STC_BSEQ", 0x300004, [],
    [⟨31, 0, .ro, 0x0, .any⟩], none⟩,
  ⟨"STC_WLINE_CNT", 0x300010, [],
    [⟨31, 0, .rc, 0x0, .any⟩], none⟩,
  ⟨"STC_BAND_CNT", 0x300014, [],
    [⟨31, 0, .rc, 0x0, .any⟩], none⟩,
  ⟨"STC_NDPX_CNT", 0x300018, [],
    [⟨31, 0, .rc, 0x0, .any⟩], none⟩,
  ⟨"STC_EXPIRE_CNT", 0x30001C, [],
    [⟨31, 0, .rc, 0x0, .any⟩], none⟩,
  ⟨"STC_SHORT_CNT", 0x300020, [],
    [⟨31, 0, .rc, 0x0, .any⟩], none⟩,
  ⟨"STC_NOREP_CNT", 0x300024, [],
    [⟨31, 0, .rc, 0x0, .any⟩], none⟩,
  ⟨"STC_SKIP_CNT", 0x300028, [],
    [⟨31, 0, .rc, 0x0, .any⟩], none⟩,
  ⟨"STC_WEB", 0x301000, [(2, 0x1000)],
    [⟨17, 0, .rw, 0x20000, (.rng 16 131072)⟩], none⟩,
  ⟨"STC_H_XS", 0x301100, [(2, 0x1000), (8, 0x100)],
    [⟨16, 0, .rw, 0x0, .any⟩], (some fun ix => 16384 * ix.getD 1 0)⟩,
  ⟨"STC_H_XE", 0x301104, [(2, 0x1000), (8, 0x100)],
    [⟨16, 0, .rw, 0x0, .any⟩], (some fun ix => 16384 * ix.getD 1 0 + 16383)⟩,
  ⟨"STC_H_GEOM", 0x301108, [(2, 0x1000), (8, 0x100)],
    [⟨31, 31, .rw, 0x0, .any⟩,
     ⟨19, 16, .rw, 0x9, (.rng 6 12)⟩,
     ⟨7, 0, .rw, 0x0, .any⟩], none⟩,
  ⟨"STC_H_BLEND", 0x30110C, [(2, 0x1000), (8, 0x100)],
    [⟨31, 28, .rw, 0x0, (.rng 0 10)⟩,
     ⟨16, 0, .rw, 0x0, .any⟩], (some fun ix => 16384 * ix.getD 1 0)⟩,
  ⟨"STC_H_K", 0x301120, [(2, 0x1000), (8, 0x100), (33, 0x4)],
    [⟨23, 0, .rw, 0x0, .any⟩], (some fun ix => 131072 * ix.getD 2 0)⟩]

def tableIe0 : List RegRow := [
  ⟨"IE_STAT", 0x400000, [],
    [⟨31, 31, .ro, 0x0, .any⟩,
     ⟨30, 30, .ro, 0x0, .any⟩,
     ⟨29, 28, .ro, 0x0, .any⟩,
     ⟨27, 20, .ro, 0x0, .any⟩], none⟩,
  ⟨"IE_EVT", 0x400004, [],
    [⟨7, 7, .w1c, 0x0, .any⟩,
     ⟨6, 6, .w1c, 0x0, .any⟩,
     ⟨5, 5, .w1c, 0x0, .any⟩,
     ⟨4, 4, .w1c, 0x0, .any⟩,
     ⟨3, 3, .w1c, 0x0, .any⟩,
     ⟨2, 2, .w1c, 0x0, .any⟩,
     ⟨1, 1, .w1c, 0x0, .any⟩,
     ⟨0, 0, .w1c, 0x0, .any⟩], none⟩,
  ⟨"IE_REPEAT", 0x400008, [],
    [⟨31, 0, .ro, 0x0, .any⟩], none⟩,
  ⟨"IE_LAT_MAX", 0x40000C, [],
    [⟨15, 0, .rc, 0x0, .any⟩], none⟩,
  ⟨"IE_BAND_CNT", 0x400010, [],
    [⟨31, 0, .rc, 0x0, .any⟩], none⟩,
  ⟨"IE_NOREP_CNT", 0x400014, [],
    [⟨31, 0, .rc, 0x0, .any⟩], none⟩,
  ⟨"IE_TILE_CNT", 0x400018, [],
    [⟨31, 0, .rc, 0x0, .any⟩], none⟩,
  ⟨"IE_UNINSP_CNT", 0x40001C, [],
    [⟨31, 0, .rc, 0x0, .any⟩], none⟩,
  ⟨"IE_HOLD_CNT", 0x400020, [],
    [⟨31, 0, .rc, 0x0, .any⟩], none⟩,
  ⟨"IE_REGLOST_CNT", 0x400024, [],
    [⟨31, 0, .rc, 0x0, .any⟩], none⟩,
  ⟨"IE_BLOB_CNT", 0x400028, [],
    [⟨31, 0, .rc, 0x0, .any⟩], none⟩,
  ⟨"IE_BLOB_OVF_CNT", 0x40002C, [],
    [⟨31, 0, .rc, 0x0, .any⟩], none⟩,
  ⟨"IE_MEMERR_CNT", 0x400030, [],
    [⟨31, 0, .rc, 0x0, .any⟩], none⟩,
  ⟨"IE_FID_HIT", 0x400034, [],
    [⟨31, 0, .rc, 0x0, .any⟩], none⟩,
  ⟨"IE_FID_MISS", 0x400038, [],
    [⟨31, 0, .rc, 0x0, .any⟩], none⟩,
  ⟨"IE_FID_LATE", 0x40003C, [],
    [⟨31, 0, .rc, 0x0, .any⟩], none⟩,
  ⟨"IE_LATE_CNT", 0x400040, [],
    [⟨31, 0, .rc, 0x0, .any⟩], none⟩,
  ⟨"IE_RING_CLAMP", 0x400044, [],
    [⟨31, 0, .rc, 0x0, .any⟩], none⟩,
  ⟨"IE_RING_WAIT", 0x400048, [],
    [⟨31, 0, .rc, 0x0, .any⟩], none⟩,
  ⟨"IE_BADRULE_CNT", 0x40004C, [],
    [⟨31, 0, .rc, 0x0, .any⟩], none⟩,
  ⟨"IE_JCFG", 0x410000, [(2, 0x10000)],
    [⟨31, 31, .rw, 0x0, .any⟩,
     ⟨30, 30, .rw, 0x1, .any⟩,
     ⟨29, 29, .rw, 0x0, .any⟩,
     ⟨28, 27, .rw, 0x3, .any⟩], none⟩,
  ⟨"IE_REF_BASE", 0x410004, [(2, 0x10000)],
    [⟨27, 0, .rw, 0x8000000, .any⟩], none⟩,
  ⟨"IE_REF_STRIDE", 0x410008, [(2, 0x10000)],
    [⟨19, 0, .rw, 0x80000, (.mult 64 524288 64)⟩], none⟩,
  ⟨"IE_REF_W", 0x41000C, [(2, 0x10000)],
    [⟨17, 0, .rw, 0x20000, (.rng 256 131072)⟩], none⟩]

def tableIe1 : List RegRow := [
  ⟨"IE_REF_H", 0x410010, [(2, 0x10000)],
    [⟨24, 0, .rw, 0x8000, (.rng 16 16777216)⟩], none⟩,
  ⟨"IE_REF_X0", 0x410014, [(2, 0x10000)],
    [⟨31, 0, .rw, 0x0, (.symm 131072)⟩], none⟩,
  ⟨"IE_REF_L0", 0x410018, [(2, 0x10000)],
    [⟨31, 0, .rw, 0x0, (.symm 16777216)⟩], none⟩,
  ⟨"IE_RULE_BASE", 0x41001C, [(2, 0x10000)],
    [⟨27, 0, .rw, 0x8000000, .any⟩], none⟩,
  ⟨"IE_RULE_TY", 0x410020, [(2, 0x10000)],
    [⟨24, 0, .rw, 0x800, (.rng 1 16777216)⟩], none⟩,
  ⟨"IE_REP_LINES", 0x410024, [(2, 0x10000)],
    [⟨24, 0, .rw, 0x8000, (.rng 16 16777216)⟩], none⟩,
  ⟨"IE_FIELD_BASE", 0x410028, [(2, 0x10000)],
    [⟨27, 0, .rw, 0x8000000, .any⟩], none⟩,
  ⟨"IE_REG", 0x41002C, [(2, 0x10000)],
    [⟨31, 24, .rw, 0x20, .any⟩,
     ⟨23, 20, .rw, 0x3, .any⟩,
     ⟨19, 16, .rw, 0x4, (.rng 1 15)⟩,
     ⟨15, 8, .rw, 0x4B, (.rng 1 100)⟩], none⟩,
  ⟨"IE_REGW", 0x410030, [(2, 0x10000)],
    [⟨31, 24, .rw, 0x0, .any⟩,
     ⟨23, 16, .rw, 0x1D, .any⟩,
     ⟨15, 8, .rw, 0x96, .any⟩,
     ⟨7, 0, .rw, 0x4D, .any⟩], none⟩,
  ⟨"IE_FID_POS", 0x410034, [(2, 0x10000)],
    [⟨16, 0, .rw, 0x0, .any⟩], none⟩,
  ⟨"IE_FID_LINE", 0x410038, [(2, 0x10000)],
    [⟨24, 0, .rw, 0x0, .any⟩], none⟩,
  ⟨"IE_FID_CFG", 0x41003C, [(2, 0x10000)],
    [⟨31, 24, .rw, 0xC, .any⟩,
     ⟨23, 20, .rw, 0x3, (.rng 1 15)⟩], none⟩,
  ⟨"IE_CLASS0", 0x410200, [(2, 0x10000)],
    [], none⟩,
  ⟨"IE_CLASS", 0x410204, [(2, 0x10000), (63, 0x4)],
    [⟨31, 31, .rw, 0x1, .any⟩,
     ⟨29, 28, .rw, 0x0, .any⟩,
     ⟨15, 0, .rw, 0x0, .any⟩], none⟩,
  ⟨"IE_FIDT", 0x410400, [(2, 0x10000), (256, 0x4)],
    [⟨31, 0, .rw, 0x0, .any⟩], none⟩,
  ⟨"IE_LUT", 0x410800, [(2, 0x10000), (512, 0x4)],
    [⟨31, 16, .rw, 0x0, .any⟩,
     ⟨15, 0, .rw, 0x0, .any⟩], (some fun ix => lutReset (2 * ix.getD 1 0) + lutReset (2 * ix.getD 1 0 + 1) * 0x10000)⟩]

def tableIe : List RegRow := tableIe0 ++ tableIe1

def tableCs : List RegRow := [
  ⟨"CS_STAT", 0x430000, [],
    [⟨31, 31, .ro, 0x0, .any⟩,
     ⟨30, 30, .ro, 0x0, .any⟩], none⟩,
  ⟨"CS_DSEQ", 0x430004, [],
    [⟨31, 0, .ro, 0x0, .any⟩], none⟩,
  ⟨"CS_TILE_CNT", 0x430010, [],
    [⟨31, 0, .rc, 0x0, .any⟩], none⟩,
  ⟨"CS_DEF_CNT", 0x430014, [],
    [⟨31, 0, .rc, 0x0, .any⟩], none⟩,
  ⟨"CS_DE_OVER_CNT", 0x430018, [],
    [⟨31, 0, .rc, 0x0, .any⟩], none⟩,
  ⟨"CS_DROP_CNT", 0x43001C, [],
    [⟨31, 0, .rc, 0x0, .any⟩], none⟩,
  ⟨"CS_FEW_CNT", 0x430020, [],
    [⟨31, 0, .rc, 0x0, .any⟩], none⟩,
  ⟨"CS_ALARM_SUP", 0x430024, [],
    [⟨31, 0, .rc, 0x0, .any⟩], none⟩,
  ⟨"CS_DE_MAX", 0x430028, [],
    [⟨15, 0, .rc, 0x0, .any⟩], none⟩,
  ⟨"CS_CFG", 0x440000, [(2, 0x10000)],
    [⟨31, 31, .rw, 0x0, .any⟩,
     ⟨30, 30, .rw, 0x1, .any⟩,
     ⟨29, 29, .rw, 0x1, .any⟩,
     ⟨28, 28, .rw, 0x1, .any⟩,
     ⟨23, 16, .rw, 0x10, .any⟩,
     ⟨15, 15, .rw, 0x1, .any⟩,
     ⟨14, 13, .rw, 0x0, .any⟩,
     ⟨8, 0, .rw, 0x80, (.rng 1 256)⟩], none⟩,
  ⟨"CS_XYZ", 0x440004, [(2, 0x10000), (6, 0x4)],
    [⟨31, 16, .rw, 0x0, .any⟩,
     ⟨15, 0, .rw, 0x0, .any⟩], (some fun ix => [0x1000, 0, 0x10000000, 0, 0, 0x1000].getD (ix.getD 1 0) 0)⟩]

def tableJob : List RegRow := [
  ⟨"JOB_STAT", 0x500000, [],
    [⟨31, 31, .ro, 0x0, .any⟩,
     ⟨30, 30, .ro, 0x0, .any⟩,
     ⟨29, 27, .ro, 0x0, .any⟩,
     ⟨26, 26, .ro, 0x0, .any⟩,
     ⟨23, 20, .ro, 0x0, .any⟩,
     ⟨4, 0, .ro, 0x0, .any⟩], none⟩,
  ⟨"JOB_CMD", 0x500004, [],
    [⟨31, 28, .wo, 0x0, .any⟩,
     ⟨4, 0, .wo, 0x0, .any⟩], none⟩,
  ⟨"JOB_ARM", 0x500008, [],
    [⟨31, 30, .rw, 0x0, (.rng 0 2)⟩,
     ⟨29, 29, .rw, 0x0, .any⟩,
     ⟨4, 0, .rw, 0x0, .any⟩], none⟩,
  ⟨"JOB_LEAD", 0x50000C, [],
    [⟨15, 0, .rw, 0x100, (.rng 16 65535)⟩], none⟩,
  ⟨"JOB_ENC_LO", 0x500010, [],
    [⟨31, 0, .rw, 0x0, .any⟩], none⟩,
  ⟨"JOB_ENC_HI", 0x500014, [],
    [⟨31, 0, .rw, 0x0, .any⟩], none⟩,
  ⟨"JOB_PAIR_CFG", 0x500018, [],
    [⟨9, 0, .rw, 0x64, (.rng 1 1000)⟩], none⟩,
  ⟨"JOB_DIGEST", 0x50001C, [],
    [⟨31, 0, .ro, 0x0, .any⟩], none⟩,
  ⟨"JOB_EVT", 0x500020, [],
    [⟨9, 9, .w1c, 0x0, .any⟩,
     ⟨8, 8, .w1c, 0x0, .any⟩,
     ⟨7, 7, .w1c, 0x0, .any⟩,
     ⟨6, 6, .w1c, 0x0, .any⟩,
     ⟨5, 5, .w1c, 0x0, .any⟩,
     ⟨4, 4, .w1c, 0x0, .any⟩,
     ⟨3, 3, .w1c, 0x0, .any⟩,
     ⟨2, 2, .w1c, 0x0, .any⟩,
     ⟨0, 0, .w1c, 0x0, .any⟩], none⟩,
  ⟨"JOB_CHK", 0x500024, [],
    [⟨31, 24, .ro, 0x0, .any⟩,
     ⟨23, 20, .ro, 0x0, .any⟩,
     ⟨11, 8, .ro, 0x0, .any⟩,
     ⟨3, 3, .ro, 0x0, .any⟩,
     ⟨2, 2, .ro, 0x0, .any⟩,
     ⟨1, 1, .ro, 0x0, .any⟩,
     ⟨0, 0, .ro, 0x0, .any⟩], none⟩,
  ⟨"JOB_LOAD_UL", 0x500028, [],
    [⟨31, 0, .ro, 0x0, .any⟩], none⟩,
  ⟨"JOB_LOAD_MEM", 0x50002C, [],
    [⟨31, 0, .ro, 0x0, .any⟩], none⟩,
  ⟨"JOB_LIM_MEM", 0x500030, [],
    [⟨31, 0, .ro, 0x0, .any⟩], none⟩,
  ⟨"JOB_LOAD_CLK", 0x500034, [],
    [⟨15, 0, .ro, 0x0, .any⟩], none⟩,
  ⟨"JOB_COMMIT_TRIG", 0x500038, [],
    [⟨31, 0, .ro, 0x0, .any⟩], none⟩,
  ⟨"JOB_POSTPONE_CNT", 0x50003C, [],
    [⟨31, 0, .rc, 0x0, .any⟩], none⟩,
  ⟨"JOB_WR_PEND", 0x500040, [],
    [⟨15, 0, .ro, 0x0, .any⟩], none⟩,
  ⟨"JOB_VCFG", 0x500044, [],
    [⟨2, 0, .rw, 0x7, .any⟩], none⟩,
  ⟨"JOB_VSTAT", 0x500048, [],
    [⟨31, 31, .ro, 0x0, .any⟩,
     ⟨30, 30, .ro, 0x0, .any⟩,
     ⟨29, 23, .ro, 0x0, .any⟩,
     ⟨3, 3, .ro, 0x0, .any⟩,
     ⟨2, 2, .ro, 0x0, .any⟩,
     ⟨1, 1, .ro, 0x0, .any⟩,
     ⟨0, 0, .ro, 0x0, .any⟩], none⟩,
  ⟨"JOB_REF_CRC", 0x50004C, [],
    [⟨31, 0, .rw, 0x0, .any⟩], none⟩,
  ⟨"JOB_RULE_CRC", 0x500050, [],
    [⟨31, 0, .rw, 0x0, .any⟩], none⟩,
  ⟨"JOB_FE_CRC", 0x500054, [(8, 0x4)],
    [⟨31, 0, .rw, 0x0, .any⟩], none⟩,
  ⟨"JOB_PORT_OFF", 0x500074, [],
    [⟨7, 0, .w1s, 0x0, .any⟩], none⟩,
  ⟨"JOB_PROD_OFF", 0x500078, [],
    [⟨4, 0, .rw, 0x0, .any⟩], none⟩]

def tableMc : List RegRow := [
  ⟨"MC_CFG", 0x800000, [(6, 0x10000)],
    [⟨31, 31, .rw, 0x0, .any⟩,
     ⟨30, 30, .rw, 0x0, .any⟩,
     ⟨29, 29, .rw, 0x0, .any⟩,
     ⟨28, 27, .rw, 0x0, (.rng 0 2)⟩,
     ⟨26, 25, .rw, 0x0, (.rng 0 2)⟩], none⟩,
  ⟨"MC0_CTRL", 0x800004, [],
    [⟨31, 31, .wo, 0x0, .any⟩], none⟩,
  ⟨"MC_STAT", 0x800008, [(6, 0x10000)],
    [⟨31, 29, .ro, 0x0, .any⟩,
     ⟨28, 28, .ro, 0x0, .any⟩,
     ⟨27, 27, .ro, 0x0, .any⟩,
     ⟨26, 18, .ro, 0x0, .any⟩,
     ⟨17, 17, .ro, 0x0, .any⟩,
     ⟨8, 0, .ro, 0x0, .any⟩], none⟩,
  ⟨"MC_TS", 0x80000C, [(6, 0x10000)],
    [⟨14, 8, .rw, 0x0, .any⟩,
     ⟨6, 0, .rw, 0x0, .any⟩], none⟩,
  ⟨"MC_THERM", 0x800010, [(6, 0x10000)],
    [⟨7, 0, .rw, 0x5F, (.rng 85 105)⟩], none⟩,
  ⟨"MC_TEMP", 0x800014, [(6, 0x10000)],
    [⟨15, 0, .ro, 0x8000, .any⟩], none⟩,
  ⟨"MC_CMD", 0x800018, [(6, 0x10000)],
    [⟨31, 30, .wo, 0x0, .any⟩], none⟩,
  ⟨"MC_RMAP_IDX", 0x80001C, [(6, 0x10000)],
    [⟨7, 0, .rw, 0x0, .any⟩], none⟩,
  ⟨"MC_RMAP_DATA", 0x800020, [(6, 0x10000)],
    [⟨31, 31, .ro, 0x0, .any⟩,
     ⟨30, 30, .ro, 0x0, .any⟩,
     ⟨23, 23, .ro, 0x0, .any⟩,
     ⟨22, 22, .ro, 0x0, .any⟩,
     ⟨21, 19, .ro, 0x0, .any⟩,
     ⟨18, 17, .ro, 0x0, .any⟩,
     ⟨16, 0, .ro, 0x0, .any⟩], none⟩,
  ⟨"MC_UE_LO", 0x800024, [(6, 0x10000)],
    [⟨31, 0, .ro, 0x0, .any⟩], none⟩,
  ⟨"MC_UE_HI", 0x800028, [(6, 0x10000)],
    [⟨7, 0, .ro, 0x0, .any⟩], none⟩,
  ⟨"MC_CORR", 0x800030, [(6, 0x10000)],
    [⟨31, 0, .rc, 0x0, .any⟩], none⟩,
  ⟨"MC_UNCORR", 0x800034, [(6, 0x10000)],
    [⟨31, 0, .rc, 0x0, .any⟩], none⟩,
  ⟨"MC_SCRUB_PASS", 0x800038, [(6, 0x10000)],
    [⟨31, 0, .rc, 0x0, .any⟩], none⟩,
  ⟨"MC_RFM_CNT", 0x80003C, [(6, 0x10000)],
    [⟨31, 0, .rc, 0x0, .any⟩], none⟩]

/-- The register rows of the block an address lies in (R31, 01_architecture.md). -/
def tableAt (a : Nat) : List RegRow :=
  if 0x0 ≤ a ∧ a < 0x10000 then tableGlb
  else if 0x10000 ≤ a ∧ a < 0x18000 then tableClk
  else if 0x18000 ≤ a ∧ a < 0x20000 then tableRst
  else if 0x20000 ≤ a ∧ a < 0x30000 then tableFc
  else if 0x30000 ≤ a ∧ a < 0x40000 then tableOpt
  else if 0x40000 ≤ a ∧ a < 0x50000 then tableSec
  else if 0x50000 ≤ a ∧ a < 0x60000 then tableDma
  else if 0x60000 ≤ a ∧ a < 0x70000 then tableCvu
  else if 0x70000 ≤ a ∧ a < 0x80000 then tableEq
  else if 0x80000 ≤ a ∧ a < 0x90000 then tableOrb
  else if 0x90000 ≤ a ∧ a < 0xA0000 then tableCmt
  else if 0xA0000 ≤ a ∧ a < 0xB0000 then tableShp
  else if 0x100000 ≤ a ∧ a < 0x180000 then tableHp
  else if 0x180000 ≤ a ∧ a < 0x190000 then tablePl
  else if 0x190000 ≤ a ∧ a < 0x1A0000 then tableUl
  else if 0x1A0000 ≤ a ∧ a < 0x1B0000 then tableSsp
  else if 0x200000 ≤ a ∧ a < 0x210000 then tableFe
  else if 0x300000 ≤ a ∧ a < 0x310000 then tableStc
  else if 0x400000 ≤ a ∧ a < 0x430000 then tableIe
  else if 0x430000 ≤ a ∧ a < 0x460000 then tableCs
  else if 0x500000 ≤ a ∧ a < 0x600000 then tableJob
  else if 0x800000 ≤ a ∧ a < 0x860000 then tableMc
  else []

/-- The first row of a list that has an instance at the address. -/
def findRow (a : Nat) : List RegRow → Option (RegRow × List Nat)
  | [] => none
  | r :: rs => match r.find a with
    | some ix => some (r, ix)
    | none => findRow a rs

/-- The register at an address, with its instance indices (R14, R15); none where the block holds no register. -/
def regAt (a : Nat) : Option (RegRow × List Nat) := findRow a (tableAt a)

/-- The reset value of the register at an address (R18). -/
def resetVal (a : Nat) : Word :=
  match regAt a with
  | some (r, ix) => r.resetAt ix
  | none => 0#32

end Sys2Proof.Machine
end

