-- ==== Sys2Proof/Machine/State.lean ====
section
/-! DEFINITION. State.lean: the whole state of the SW880 as plain data, and the state right after reset. Every register
of the register maps lives in `Chip.regs`; the structures below hold what the spec gives the machine beside them. -/

namespace Sys2Proof.Machine

/-- A pattern generator (R62): the bits it sent last, newest first, and its position in SSPRQ. -/
structure PatGen where
  hist : List Bool
  pos  : Nat
  deriving DecidableEq, Repr

/-- A pattern checker (R64): whether it is locked, the bits it goes by (newest first) with its position in SSPRQ, the run of
error-free bits towards lock, the errors among the last 64 bits, the bits and errors still to be added to the counts, and
whether it has lost lock. -/
structure PatChk where
  locked : Bool
  hist   : List Bool
  pos    : Nat
  run    : Nat
  win    : List Bool
  bits   : Nat
  errs   : Nat
  lost   : Bool
  deriving DecidableEq, Repr

/-- A lane beside its registers (02_serial_lanes.md): the last good set (R58, R59), the freeze and resume run counts
(R57), the windows and busy windows of the running guard interval (R58), the precoder states (R46), the 48-bit counts
(R64), the bits of an injection that waits for data (R65) and of one that inverts the next bits sent, the pattern generator
and checker (R62, R64), and whether a SWAP or retrain has taken the lane out of use (R61). -/
structure LaneS where
  good    : LaneSet
  idleRun : Nat
  busyRun : Nat
  gWin    : Nat
  gBusy   : Nat
  precTx  : Nat
  precRx  : Nat
  errCnt  : Nat
  bitCnt  : Nat
  injPend : Nat
  flip    : Nat
  gen     : PatGen
  chk     : PatChk
  left    : Bool
  deriving DecidableEq, Repr

/-- Spare conditioning of a port beside SPARE_STAT (R69): failed runs in a row and the repeat still to come. -/
structure PortS where
  condFails : Nat
  condRetry : Bool
  deriving DecidableEq, Repr

/-! ### DrauxLink (03_drauxlink.md) -/

/-- A codeword that waits in the deskew of its lane (R77, R79): whether it begins with an AM block, whether it could not be
corrected, and its message symbols. -/
structure RxWord where
  am   : Bool
  bad  : Bool
  syms : List Nat
  deriving DecidableEq, Repr

/-- The receiver of one logical lane: AM lock, runs of valid and failed AM positions, lateness of the last AM block, its AM_SEQ,
corrected symbols of the running AM interval, whether the next codeword begins with an AM block (R78 to R80), the place of the next
codeword, 16,384 places to an AM_SEQ (R78), and the codewords that wait for those of the other lanes. -/
structure LaneRx where
  locked : Bool
  vRun   : Nat
  fRun   : Nat
  late   : Nat
  corr   : Nat
  am     : Bool
  seq    : Nat
  pos    : Nat
  words  : List RxWord
  deriving DecidableEq, Repr

/-- Training of one physical lane (R98 to R100): runs of valid and invalid frames, frame lock, the partner's FLOCK and
READY, the own READY and the run of good guard intervals behind it, the run of PRE_REQ frames, the last request toggle
acted on with its answer, the own request, and the instant at which the frames began (1/80 ns since power-on) with the frames sent
since. -/
structure LaneTr where
  vRun    : Nat
  iRun    : Nat
  flock   : Bool
  pFlock  : Bool
  pReady  : Bool
  ready   : Bool
  goodRun : Nat
  preRun  : Nat
  actedTog : Bool
  ackStat : Nat
  reqTog  : Bool
  reqTap  : Nat
  reqDir  : Nat
  acked   : Bool
  t0      : Nat
  frames  : Nat
  deriving DecidableEq, Repr

/-- A codeword on NEW before its direction has switched: its place, whether it begins with an AM block, and its symbols. -/
structure NewWord where
  pos  : Nat
  am   : Bool
  word : List Nat
  deriving DecidableEq, Repr

/-- A SWAP in progress (R115, R116). `newPos` and `newAm` are the place of the next codeword on NEW and whether it begins with an AM
block, `newWords` the last codewords that came on NEW, and `switchPos` the place from which on the receiver takes lane `log` from
NEW, once that is known. -/
structure Swap where
  xid       : Nat
  log       : Nat
  old       : Nat
  new       : Nat
  reason    : Nat
  step      : Nat
  amD       : Nat
  amH       : Nat
  amRun     : Nat
  clean     : Nat
  ownReady  : Bool
  headReady : Bool
  rxSwitched : Bool
  txSwitched : Bool
  ownDone   : Bool
  headDone  : Bool
  newPos    : Nat
  newAm     : Bool
  newWords  : List NewWord
  switchPos : Option Nat
  deriving DecidableEq, Repr

/-- A SWAP at its start: transaction, logical lane, OLD, NEW, reason and step. -/
def Swap.start (xid log old new reason step : Nat) : Swap :=
  { xid, log, old, new, reason, step, amD := 0, amH := 0, amRun := 0, clean := 0, ownReady := false, headReady := false
    rxSwitched := false, txSwitched := false, ownDone := false, headDone := false, newPos := 0, newAm := false, newWords := []
    switchPos := none }

/-- A CTRL access (R96, R117): from the mailbox, or a head register write of the image (R101). -/
structure CtrlReq where
  tag     : Nat
  write   : Bool
  addr    : Nat
  data    : Nat
  resends : Nat
  image   : Bool
  deriving DecidableEq, Repr

/-- A TRIG waiting for the departure of its round (R110); DELAY in units of 1/16 ns. -/
structure PendTrig where
  trig  : Nat
  tx    : Nat
  round : Nat
  delay : Nat
  deriving DecidableEq, Repr

/-- The packet receiver (R83, R87): between packets, inside one, or past a discarded one until the next START. -/
inductive RxPhase where
  | idle
  | inPkt (len : Nat) (bytes : List Byte)
  | resync
  deriving DecidableEq, Repr

/-- One DrauxLink link beside its registers: n = 0 to 7 HPn, 8 PL. While rounds run, `pcs` is the instant (1/80 ns since power-on) at
which round 0 would have started had no idle time come between (R78, R107); `txq` holds the blocks that wait to be sent
(header bit and bytes), `scr` and `descr` the scrambler states, `rounds` the rounds that have entered the transmit PCS, `rxTurn` the
logical lane whose codeword comes next, `burst` the instant at which the exit from idle starts sending, and `lastSwap` the SWAP that
ended last, whose messages are answered again (R97). -/
structure LinkS where
  pcs      : Option Int
  txq      : List (Bool × List Byte)
  scr      : Nat
  rounds   : Nat
  burst    : Option Nat
  rxTurn   : Nat
  descr    : Nat
  logical  : List LaneRx
  train    : List LaneTr
  phase    : RxPhase
  rxq      : List RxPkt
  alive    : Option Nat
  lineOpen : Bool
  hbSeq    : Nat
  hbUncorr : Nat
  hbCrc    : Nat
  hbLast   : List Byte
  timeSeq  : Nat
  stepped  : Bool
  cfgStep  : Nat
  samples  : List Int
  probes   : List (Nat × Nat)
  pid      : Nat
  sent     : Nat
  repeats  : Nat
  latRun   : Bool
  ctrl     : Option CtrlReq
  mailbox  : Option CtrlReq
  tag      : Nat
  imgDone  : Nat
  swap     : Option Swap
  lastSwap : Option Swap
  xid      : Nat
  trigs    : List PendTrig
  draining : Bool
  fromSeek : Bool
  exiting  : Bool
  eqFrames : Nat
  deriving DecidableEq, Repr

/-! ### Port front ends (04_port_front_end.md) -/

/-- A segment of a head line: X_OFF, LINE_NO and its pixels, each a list of samples (R88, R89). -/
structure Seg where
  x      : Nat
  lineNo : Nat
  px     : List (List Nat)
  deriving DecidableEq, Repr

/-- An expected line (R121): its trigger, its target time in ns, its bank, whether its TRIG was not sent, and the
segments that came. -/
structure ExpLine where
  trig    : Nat
  tx      : Nat
  bank    : Nat
  notSent : Bool
  segs    : List Seg
  deriving DecidableEq, Repr

/-- A closed line that waits for its hand-over (R124, R137). -/
structure ClosedLine where
  line     : ExpLine
  missing  : Bool
  partial_ : Bool
  lineNo   : Nat
  deriving DecidableEq, Repr

/-- A pixel after the colour matrix: four samples and the no-data mark (R134, R136). -/
structure Px where
  s0 : Nat
  s1 : Nat
  s2 : Nat
  s3 : Nat
  nd : Bool
  deriving DecidableEq, Repr

/-- A port front end beside its registers: input FIFO, expected and closed lines, the last closed trigger and the last
carried LINE_NO, the line handed over before (R125), the correction table (key bank * 65536 + entry) with its ECC marks
(true for a double-bit error), the setting of the table after reset (R130), the bank of a running check and the bank that the last
GO named (R141). -/
structure FeS where
  fifo       : List (List Byte)
  exp        : List ExpLine
  closed     : List ClosedLine
  lastClosed : Option Nat
  lastNo     : Option Nat
  prev       : List Px
  tbl        : List (Nat × Word)
  ecc        : List (Nat × Bool)
  initBusy   : Bool
  chk        : Option Nat
  chkOf      : Option Nat
  deriving DecidableEq, Repr

/-! ### Stitcher (05_stitching.md) -/

/-- A handed-over line in the stagger store (R137, R146), with the START, LEN and BIN it was cropped and binned with (R150). -/
structure StcLine where
  slot     : Nat
  trig     : Nat
  lineNo   : Nat
  bank     : Nat
  missing  : Bool
  partial_ : Bool
  nd       : Nat
  start    : Nat
  len      : Nat
  bin      : Nat
  px       : List Px
  deriving DecidableEq, Repr

/-- A trigger of the web whose web line is still to come (R144): its bank, its mark, whether it is outside a repeat,
its repeat index, and the ports it was handed to. -/
structure WebTrig where
  trig   : Nat
  bank   : Nat
  mark   : Bool
  norep  : Bool
  ridx   : Nat
  handed : List Nat
  deriving DecidableEq, Repr

/-- A web pixel: four samples and its no-data code (R148). -/
structure WPx where
  s0  : Nat
  s1  : Nat
  s2  : Nat
  s3  : Nat
  ndc : Nat
  deriving DecidableEq, Repr

/-- What stream 5 says of one web line (R276): trigger, repeat index, line of the repeat, mark, NOREP and bank mix, the
ports missing, partial and out, the web pixels without data, and the line number used of each port. -/
structure LineMeta where
  trig    : Nat
  ridx    : Nat
  line    : Nat
  mark    : Bool
  norep   : Bool
  bankmix : Bool
  miss    : Nat
  part    : Nat
  pout    : Nat
  ndpx    : Nat
  lno     : List Nat
  deriving DecidableEq, Repr

/-- A band with its descriptor (R153, R154). -/
structure Band where
  bseq    : Nat
  ridx    : Nat
  ty      : Nat
  nlines  : Nat
  first   : Nat
  bank    : Nat
  short   : Bool
  norep   : Bool
  bankmix : Bool
  ndCount : Nat
  rows    : List (List WPx)
  metas   : List LineMeta
  width   : Nat
  cut     : Bool
  deriving DecidableEq, Repr

/-- The stitcher beside its registers: the stagger store, the last trigger used of each slot, the web triggers, the
rows of the band being assembled with its first trigger, bank, repeat, tile row and marks, the next BSEQ, the band
buffer slots, the completed bands not yet taken by the Shepherd, the lines of the repeat so far, and the trigger at
which a stop cuts the repeat off (R234). -/
structure StcS where
  lines    : List StcLine
  lastUsed : List (Option Nat)
  webq     : List WebTrig
  rows     : List (List WPx)
  metas    : List LineMeta
  first    : Nat
  bank     : Nat
  ridx     : Nat
  norep    : Bool
  bankmix  : Bool
  ty       : Nat
  bseq     : Nat
  slots    : List (Option Band)
  fresh    : List Band
  began    : Bool
  lostAt   : Option Nat
  cutAt    : Option Nat
  deriving DecidableEq, Repr

/-! ### Comparison, colour and the flock (06, 07, 09) -/

/-- A region of a band slice after smoothing (R177): displacement, confidence, state and hold count. -/
structure Region where
  dx    : Int
  dy    : Int
  conf  : Nat
  state : Nat
  hold  : Nat
  deriving DecidableEq, Repr

/-- A defect pixel with what its blob needs of it (R186, R189): web x, line of the repeat, the largest |d_c| with its
sign and channel, and the tile it lies in with its class, flags and smallest area. -/
structure DefPx where
  x       : Nat
  line    : Nat
  peak    : Nat
  neg     : Bool
  chan    : Nat
  tx      : Nat
  ty      : Nat
  cls     : Nat
  flags   : Nat
  minArea : Nat
  deriving DecidableEq, Repr

/-- A colour result (R204, R205). -/
structure ColourRes where
  l  : Nat
  a  : Int
  b  : Int
  de : Nat
  deriving DecidableEq, Repr

/-- A tile result with its colour sums (R191, R199). -/
structure TileRes where
  tx      : Nat
  reason  : Nat
  ncmp    : Nat
  ndef    : Nat
  dx      : Int
  dy      : Int
  conf    : Nat
  state   : Nat
  flags   : Nat
  cls     : Nat
  ruleErr : Bool
  noRule  : Bool
  lRef    : Nat
  aRef    : Int
  bRef    : Int
  ncol    : Nat
  sums    : List Nat
  colour  : Option ColourRes
  deriving DecidableEq, Repr

/-- How far a band slice is. -/
inductive SliceSt where
  | waiting | running | done | expired | engineFault
  deriving DecidableEq, Repr

/-- A band slice with its results (R160, R162). -/
structure Slice where
  st      : SliceSt
  regions : List Region
  tiles   : List TileRes
  frags   : List (List DefPx)
  lost    : List (List DefPx)
  deriving DecidableEq, Repr

/-- A band in the flock: descriptor, time of completion in ns, whether it is compared, first trigger of its repeat,
reference lines loaded or waited for, band centre offset and bad reference lines (R171, R173), whether its FIELD message is awaited (R460), band slices, merge,
colour item (0 pending, 1 completed, 2 dropped) and colour pieces done, whether its tile records have been emitted
(R211), its colour alarms (R212), whether its stream 4 unit has been formed (R275), and the bytes of its band digest while
its blobs have still to close and the digest is still to be sent (R455), whether it was the last of its repeat (known from
then on), and its slot in the colour sum buffer (R200). -/
structure FBand where
  band     : Band
  doneNs   : Nat
  compared : Bool
  rep      : Nat
  loaded   : Bool
  waited   : Bool
  pc       : Int
  bad      : List Int
  joinWait : Bool
  slices   : List Slice
  merged   : Bool
  colour   : Nat
  pieces   : List Nat
  emitted  : Bool
  alarms   : List (List Byte)
  out4     : Bool
  dig      : Option (List Byte)
  last     : Bool
  cslot    : Nat
  deriving DecidableEq, Repr

/-- An open blob (R187, R188): its pixels, the bands it has been open for, whether it continues a split blob, its
repeat, its repeat index and its bank. -/
structure Blob where
  px    : List DefPx
  bands : Nat
  cont  : Bool
  rep   : Nat
  ridx  : Nat
  bank  : Nat
  deriving DecidableEq, Repr

/-- The sums of one repeat (R180, R213); `kept` counts the regions of band slices without results whose field store
entry is VALID or FLAT; `ended` holds the acquisition state and valid share at the end of the complete repeat. -/
structure RepAcc where
  rep     : Nat
  bank    : Nat
  ended   : Option (Nat × Nat)
  ridx    : Nat
  nlines  : Nat
  ntile   : Nat
  nuninsp : Nat
  nblob   : Nat
  nover   : Nat
  deMax   : Nat
  nreg    : Nat
  valid   : Nat
  held    : Nat
  flat    : Nat
  none_   : Nat
  kept    : Nat
  dxs     : List Int
  dys     : List Int
  deriving DecidableEq, Repr

/-- The inspection stage beside its registers: bands in the flock, open blobs, pixels of split blobs on the last merged
line, sums of the repeats, the repeat of the last merged band, the acquisition state and repeats in ACQ of each bank,
and the fiducial detector's window, candidate run, best candidate, missed marks (R164 to R166, R180), and the reference lines in the ring with their bad marks (R170, R171). -/
structure IeS where
  bands   : List FBand
  blobs   : List Blob
  splits  : List DefPx
  reps    : List RepAcc
  lastRep : Option Nat
  acq     : List Nat
  acqReps : List Nat
  fidRows : List (Nat × List Nat)
  fidBest : Option (Nat × Nat)
  fidRun  : Bool
  fidMiss : Nat
  ring    : List (Nat × Int × Bool)
  deriving DecidableEq, Repr

/-- A work item (R244): fold, band and strip, kind of product piece, its tiles, its cycle estimate in sixteenths of a cycle, and
whether it has been deferred. In Fold 3 the kind is 0 for a self-test (bseq the engine, strip the pieces left), 1 for a scrub piece (bseq
the channel, with the erroneous words it meets and whether it ends a pass) and 2 for spare conditioning (bseq the block); `waits` marks
one that an isolation returned and that waits for its next due time (R253). -/
structure WorkItem where
  fold     : Nat
  bseq     : Nat
  strip    : Nat
  kind     : Nat
  tiles    : List Nat
  cycles16 : Nat
  deferred : Bool
  hits     : List (Nat × Bool) := []
  pass     : Bool := false
  waits    : Bool := false
  deriving DecidableEq, Repr

/-- One cluster beside its registers: sensor state (invalid, run of valid readings), power readings of the epoch with
the charged energy and the invalid mark, epochs below CEIL - HYST, whether it was at or above CEIL, the step a running
change comes from, and whether its rail monitor has been reported. -/
structure ClusterS where
  badRun   : List (Option Nat)
  seen     : List Bool
  pwSum    : Nat
  pwCnt    : Nat
  pwBad    : Bool
  charged  : Nat
  cool     : Nat
  hot      : Bool
  fromStep : Option Nat
  reported : Bool
  deriving DecidableEq, Repr

/-- The Shepherd beside its registers: queued items, running items by engine, clusters, the energy account in nJ, the
allowance in force in W, the flock powers of past epochs, the engines under test with whether the test belongs to a
substitution, the engines that retire when their item ends, the epochs tallied this hour by cluster and temperature bin,
the epochs of past hours that make no whole hour yet, which resets keep (log entry 36), and the worn engines already reported
(R259, R444). -/
structure ShpS where
  queue    : List WorkItem
  run      : List (Nat × WorkItem)
  clusters : List ClusterS
  rem      : Int
  allow    : Nat
  powers   : List Nat
  tests    : List (Nat × Bool)
  retiring : List Nat
  tally    : List (List Nat)
  part     : List (List Nat)
  worn     : List Nat
  deriving DecidableEq, Repr

/-- A captured tile (R271): band, strip, tile row and column, image samples and reference samples. -/
structure Capture where
  bseq  : Nat
  strip : Nat
  ty    : Nat
  tx    : Nat
  ref   : Bool
  px    : List (List Nat)
  deriving DecidableEq, Repr

/-- A packet before its sequence number: UNIT field, TRIG, payload, TRUNC. -/
structure PktSrc where
  unit  : Nat
  trig  : Nat
  data  : List Byte
  trunc : Bool
  deriving DecidableEq, Repr

/-- A unit waiting to be formed (R261): stream, bank, its packets where they are known, the band whose pieces it waits
for, the tiles of a crop, its own trigger and the first of its band, repeat index, flags and held colour status. -/
structure SspUnit where
  stream  : Nat
  bank    : Nat
  bseq    : Nat
  trig    : Nat
  first   : Nat
  ridx    : Nat
  norep   : Bool
  bankmix : Bool
  job     : Nat
  pkts    : List PktSrc
  crop    : List (Nat × Nat × Nat × Nat)
  dseq    : Nat
  rows    : List (List WPx)
  held    : Bool
  deriving DecidableEq, Repr

/-- A packet with its sequence number, waiting to be sent; `hold` names the band whose colour status it waits for. -/
structure SspPkt where
  stream : Nat
  bank   : Nat
  bytes  : List Byte
  drop   : Bool
  hold   : Option Nat
  deriving DecidableEq, Repr

/-- The packetizer beside its registers: units to form, packets ready or held, captured tiles and product pieces that
completed or dropped (band, strip, kind, dropped), streams whose first unit of the new bank waits for the mate's PSEQ,
the PSEQ messages of the mate (first trigger of the band, values), streams that still owe the mate theirs, the PSEQ of the first
unit of the new bank of each stream that has sent its own (R278), colour statuses of the mate, the P1 rate account and the frames of the last
10 µs. -/
structure SspS where
  units    : List SspUnit
  ready    : List SspPkt
  caps     : List Capture
  pieces   : List (Nat × Nat × Nat × Bool)
  waitSync : List Nat
  pseqMsgs : List (Nat × List Nat)
  oweSync  : List Nat
  pseqAt   : List (Nat × Nat)
  cstat    : List (Nat × Bool)
  p1Tokens : Nat
  p1Time   : Nat
  paced    : List (Nat × Nat)
  deriving DecidableEq, Repr

/-! ### Comet (12_comet_press.md) -/

/-- A trigger log entry (R326): identifier, encoder position, target time in ns, the ports the TRIG was sent to, mark,
bank, delay and repeat index. -/
structure LogEntry where
  id   : Nat
  enc  : Nat
  time : Nat
  sent : Nat
  mark : Bool
  bank : Nat
  dly  : Nat
  ridx : Nat
  deriving DecidableEq, Repr

/-- Work another block owes and does before the command ends. -/
inductive Defer where
  | pairDown
  | ulDown
  | ulUp
  | bandNew (bseq : Nat)
  | bandLoaded (bseq : Nat)
  | bandDigest (trig digest : Nat)
  | colourStatus (trig : Nat) (dropped : Bool)
  | fidMark (trig : Nat)
  | fidMissing (start : Nat)
  | stopCut
  | stopCheck
  | stepped
  deriving DecidableEq, Repr

/-- What the device sends or drives in one command: packets, blocks and training frames as the link layer hands them over,
the bits that an injection inverts, the symbols a lane sends by their level indices (R45), frames of the uplink, the technology
it advertises (R292), responses on the SPI path, temperature reads on the I2C bus with their attempts (R492), what TDO shifts out, the AC test of the
transmit pairs with the values of their cells (R496), and answers. -/
inductive Out where
  | packet (link : Nat) (bytes : List Byte)
  | block (link : Nat) (bytes : List Byte)
  | trainFrame (link lane : Nat) (word : Word)
  | bitErrors (blk lane bits : Nat)
  | levels (blk lane : Nat) (symbols : List Nat)
  | ulFrame (bytes : List Byte)
  | advertise (rate : Bool) (mode : Nat)
  | spi (bytes : List Byte)
  | i2cRead (chan addr tries : Nat)
  | tdo (value : Nat)
  | acTest (train : Bool) (pairs : Nat)
  | status (value : Nat)
  deriving DecidableEq, Repr

/-- A fault report on its way to the FC: source code and instance (R432), and whether it is a corrected error (R446). -/
structure Report where
  src  : Nat
  inst : Nat
  low  : Bool
  deriving DecidableEq, Repr

/-! ### Uplink and Orbit (11_uplink_time.md) -/

/-- A spare retrain in progress (R297): logical lane, lane leaving use, reason of the lane record, step. -/
structure Retrain where
  log    : Nat
  old    : Nat
  reason : Nat
  step   : Nat
  deriving DecidableEq, Repr

/-- An open jump run (R313): its first sample and the samples so far, in units of 2^-32 ns. -/
structure JumpRun where
  first   : Int
  samples : List Int
  deriving DecidableEq, Repr

/-- Orbit beside its registers (R305 to R316): seconds, nanoseconds, fraction, ticks since reset, remaining slew SR in
units of 2^-32 ns, a written fraction of ORB_NOM that is held and the fraction in force (R306), the path-delay samples, the jump run, the known time transmitters with their
ranks, lost receipt timers, messages waiting for their partner, the samples since the last servo update with its base
(ticks and transmitter time), the level of PPS_OUT, the message intervals announced for Sync and Delay_Req (R302), and whether
the next offset sample tests for a jump (R314), and the ticks when the Sync that waits for its Follow_Up came. -/
structure OrbS where
  s        : Nat
  n        : Nat
  f        : Nat
  ticks    : Nat
  sr       : Int
  held     : Option Nat
  frac     : Nat
  mpd      : List Int
  mean     : Int
  jump     : Option JumpRun
  masters  : List (Nat × List Nat)
  syncLost : Bool
  ppsLost  : Bool
  sync     : Option (Nat × Int × Int)
  lastSync : Option (Int × Int)
  seq      : Nat
  delayReq : Option (Nat × Int)
  pdelay   : Option (Nat × Int)
  samples  : Nat
  base     : Option (Nat × Int)
  ppsOut   : Bool
  syncLog  : Int
  reqLog   : Int
  retest   : Bool
  syncTick : Nat
  deriving DecidableEq, Repr

/-- An accepted write into a staged region that has still to land (R228): the regions it meets, the reference and the rule table, the
DDR5 channels it lies in, and the DMA channel that wrote it, none for a write of the control protocol (R367). -/
structure Landing where
  ref   : Bool
  rule  : Bool
  chans : List Nat
  dma   : Option Nat
  deriving DecidableEq, Repr

/-- The JOB block beside its registers: the T_off of each port and the ports whose disable has ended (R237), the pending
writes that have still to land (R228), a running verify that an event has spoilt, a stop whose last band is still to
come, the trigger of the current repeat's mark, the mate's digest with the time it came (ns), the mate's verdict with its
decision trigger, an own verdict with its decision trigger that waits for the mate's answer, the product masks with their bank and the band from which each is in force, a mask sent whose answer is awaited with its bank's bound and that band's first TRIG_ID (R238), and the
profile index of each bank's job (R229). -/
structure JobS where
  tOff     : List (Option Nat)
  offDone  : List Nat
  pend     : List Landing
  verBad   : Bool
  stopping : Bool
  ts       : Option Nat
  mateDig  : Option (Nat × Nat)
  verdict  : Option (Nat × Nat)
  waiting  : Option (Nat × Nat)
  masks    : List (Nat × Nat × Nat)
  prodSent : Option (Nat × Nat × Nat)
  profs    : List Nat
  deriving DecidableEq, Repr

/-- The DDR5 window as it was formed when INIT_DONE became 1 (R466): its channels in ascending order, their common capacity
in bytes and the SPEED code. No channel: the window holds no memory. -/
structure DdrWin where
  chans : List Nat
  cap   : Nat
  speed : Nat
  deriving DecidableEq, Repr

/-- A memory controller beside its registers (R468 to R474): the training step, the remap entries, the row copies that run with
the entry each is to fill, oldest first (R472), the PPR operation in progress, the one that waits for accepted writes to land (R228), and the run of temperature
readings above TMAX, and the erroneous words that the running scrub pass has met (R471). -/
structure McS where
  step    : Nat
  rmap    : List (Nat × Word)
  copying : List (Nat × Word)
  ppr     : Nat
  pprWait : Nat
  hotRun  : Nat
  scrubbed : List Nat
  deriving DecidableEq, Repr

/-- A check-value unit beside its registers (R375 to R382): the running CRC, the words since the last close, the first of
them, whether the next frame is the first after a write of CVUn_CFG, and the words a READ run has read. -/
structure CvuS where
  crc   : BitVec 64
  words : Nat
  first : Word
  fresh : Bool
  done  : Nat
  deriving DecidableEq, Repr

/-- An event queue beside its registers and its ring (R383 to R390): the read words of each closed packet, the next QSEQ,
and the payload bytes of the open packet. -/
structure EqS where
  pkts : List Nat
  qseq : Nat
  data : List Byte
  deriving DecidableEq, Repr

/-- A window of a press output (R333, R335, R336): whether it is in Orbit time (ns) or in encoder counts, ON and OFF. -/
structure OutWin where
  time : Bool
  on   : Int
  off  : Int
  deriving DecidableEq, Repr

/-- A press output beside its registers: pending windows and strobes. -/
structure OutS where
  wins    : List OutWin
  strobes : List OutWin
  deriving DecidableEq, Repr

/-- Comet beside its registers (R320 to R336): encoder positions, the accepted levels of A and B, the times of illegal
transitions, the counts of the last millisecond (encoder, time in ns, sign), the next trigger position in 2^-16 count,
the target of the trigger before, the next TIMER due time, the repeat index, the trigger of the last mark since START, the
triggers counted towards a miss, the source events (their position with the mark offset added) and fiducial marks waiting
for a trigger, the sheet candidates, the outputs, whether idle ports were asked to exit since the commit, the last record
received on a follower (TRIG_ID, ENC), whether the follower has set its position, and the triggers its own decoder found
due since that record (crossing time, position). -/
structure CmtS where
  pos     : List Int
  lvl     : List (Bool × Bool)
  illegal : List (List Nat)
  recent  : List (Nat × Nat × Int)
  pnext   : Option Int
  txPrev  : Option Nat
  due     : Option Nat
  ridx    : Nat
  lastMark : Option Nat
  missCnt : Nat
  events  : List Int
  fids    : List Nat
  sheet   : List (Option Int)
  outs    : List OutS
  woken   : Bool
  lastRec : Option (Nat × Int)
  synced  : Bool
  ownDue  : List (Nat × Int)
  deriving DecidableEq, Repr

/-- The fault controller beside its registers: times (ns) of the counted reports of each source and instance (R435), the
holder of each class (R437), reports that wait for MGMT with their times (R399), the trigger T_W whose round a withdrawal
waits for, and whether a device reset follows it (R433, R457). -/
structure FcS where
  times   : List (Nat × Nat × List Nat)
  holders : List (Option (Nat × Nat))
  waiting : List (Report × Nat)
  tw      : Option Nat
  l5      : Bool
  deriving DecidableEq, Repr

/-- The pair block beside its registers (R450 to R462): the next MSEQ, the last MSEQ received, the mate's digest, whether a
STATE has come since reset, the Comet role as source, own and received band digests, the message resent until it is
answered with its body, a JOIN waiting for its answer, an accepted join waiting for its mark, the repeat whose FIELD
messages are awaited with whether the first has come, whether DSEQ is awaited, the served join, the repeat it serves, DSEQ
still owed to the joiner, the TCHK sequence number, the departure time of the request in the air, whether BOTH_SERVE
has been reported while both serve, whether the mate has withdrawn since its last STATE, and the trigger records that are still to be
sent a second time, each with the round for it (R454). -/
structure PairS where
  mseq      : Nat
  mateSeq   : Option Nat
  mateDig   : Nat
  seen      : Bool
  source    : Bool
  ownDigs   : List (Nat × Nat)
  mateDigs  : List (Nat × Nat)
  resend    : Option (Nat × Nat)
  joinReq   : Bool
  joinAck   : Bool
  joinRep   : Option Nat
  joinFirst : Bool
  joinDseq  : Bool
  fields    : List (Nat × List Byte)
  serveAck  : Bool
  serveRep  : Option Nat
  serveDseq : Bool
  tSeq      : Nat
  tOut      : Option (Nat × Int)
  both      : Bool
  gone      : Bool
  again     : List (Nat × List Byte)
  deriving DecidableEq, Repr

/-- A DMA channel beside its registers (R356 to R372): the address of the next instruction, the instruction being executed
(W0 to W3), the words of its MOVE that are done, the buffer slots under lease, oldest first, each with the words read into it
and not yet written (R373), the three loop levels (count, source
step, destination step), the target of a WAIT, whether a read-back is outstanding, the last memory word written since the
start or the last SIGNAL, the attempts of the access that failed, and whether the last burst the read engine read was its own (R373). -/
structure DmaS where
  pc    : Nat
  cur   : Option (Word × Word × Word × Word)
  done  : Nat
  slots : List (List Word)
  loops : List (Nat × Int × Int)
  until_ : Int
  rb    : Bool
  last  : Option Nat
  tries : Nat
  served : Bool
  deriving DecidableEq, Repr

/-- A monitored clock source beside its state in CLK_STAT (R396, R397, R400): consecutive passing and failing windows, the
sign of the last failing window, whether it came from FAILED, and the consecutive passing windows that began after the
reference in use failed, none while the running window began before that, and whether the running window holds a stop. -/
structure ClkSrc where
  pass   : Nat
  fail   : Nat
  high   : Bool
  failed : Bool
  since  : Option Nat
  stop   : Bool
  deriving DecidableEq, Repr

/-- The clock block beside its registers (R393 to R409, R445): the five sources, whether the failure of the reference in use
or of the 10 MHz input holds the outputs safe, whether the TIME PLL takes the 10 MHz input while it is GOOD (R317, R404), whether the fallback is off
for 1 ms, whether the host asked for the primary, the reference that a change in progress takes, whether holdover expired, the CORE PLL in standby, the PLLs whose output has stopped, the times of
lock losses of the CORE PLLs, and the barred ones. -/
structure ClkS where
  srcs    : List ClkSrc
  refLost : Bool
  f10Lost : Bool
  time10  : Bool
  fbOff   : Bool
  revert  : Bool
  target  : Option Nat
  expired : Bool
  standby : Option Nat
  stopped : List Nat
  losses  : List (List Nat)
  barred  : List Nat
  deriving DecidableEq, Repr

/-- A write of the option store whose pulse and read-back have still to end (R425): the word, its new value and its old one, and
whether it is the device's own, whose new value is in the store already (log entry 11). -/
structure OptW where
  word  : Nat
  value : Word
  old   : Word
  own   : Bool
  deriving DecidableEq, Repr

/-- Reset, boot and security beside their registers (R411 to R430, R448, R479, R487): the reset hold with the levels that
keep it, whether straps stand, whether boot restarts at step 4, the boot part in force, whether a pushed image is being
verified, the option store writes in progress, the index of the attestation in progress, whether trims are to be
repaired, the spare sectors used, and the SRAM rows that a spare row has replaced since the last trim load (R441, R446). -/
structure BootS where
  hold    : Bool
  pinLow  : Bool
  pwrLow  : Bool
  aonLow  : Bool
  testHi  : Bool
  trip    : Bool
  straps  : Bool
  restart : Bool
  img     : List Byte
  verify  : Bool
  optw    : List OptW
  att     : Option Nat
  repair  : Bool
  spares  : Nat
  rows    : List Nat
  deriving DecidableEq, Repr

/-- A session (R350, R351): scope, remaining uses, none for no limit, and the source it is bound to. -/
structure Session where
  scope : Nat
  uses  : Option Nat
  key   : List Byte
  deriving DecidableEq, Repr

/-- A kept response (R349): path, source, TAG, CRC and the response. -/
structure Replay where
  path : Path
  key  : List Byte
  tag  : Nat
  crc  : Nat
  resp : List Byte
  deriving DecidableEq, Repr

/-- The control protocol beside its registers (R339 to R353): the uplink queue, the response of its head that waits to leave, the
command the SPI path holds, kept responses, the sessions, the subscriber, the next EVSEQ, the enabled summary seen last, whether a rise has
not been sent, when the last event packet was formed, and the resets that wait for their delay (path, code, whether the
response has left). -/
structure ScpS where
  ulq    : List ScpCmd
  ulResp : Option (List Byte)
  spi    : Option ScpCmd
  kept   : List Replay
  ulSess : Option Session
  spiSess : Option Session
  sub    : Option (List Byte)
  evSeq  : Nat
  seen   : Nat
  rose   : Bool
  evTime : Option Nat
  resets : List (Path × Nat × Bool)
  deriving DecidableEq, Repr

/-- The test access port (R496, R497): the instruction, the data register it selects, the boundary register, and whether the TAP is in
Test-Logic-Reset; after a scan it is in Run-Test/Idle. -/
structure JtagS where
  ir  : Nat
  dr  : Nat
  bsr : Nat
  tlr : Bool
  deriving DecidableEq, Repr

/-- The device beside its queue of commands. -/
structure Chip where
  regs    : List (Nat × Word)
  mem     : List Host.Cell
  ecc     : List (Nat × Bool)
  opt     : List (Nat × Word)
  win     : DdrWin
  mcs     : List McS
  cvus    : List CvuS
  eqs     : List EqS
  cmt     : CmtS
  lanes   : List LaneS
  ports   : List PortS
  links   : List LinkS
  fes     : List FeS
  stc     : StcS
  ie      : IeS
  shp     : ShpS
  ssp     : SspS
  job     : JobS
  orb     : OrbS
  fc      : FcS
  pair    : PairS
  dma     : List DmaS
  clk     : ClkS
  boot    : BootS
  scp     : ScpS
  jtag    : JtagS
  retrain : Option Retrain
  log     : List (Nat × LogEntry)
  headWrites : List (List (Nat × Nat))
  reports : List Report
  defers  : List Defer
  out     : List Out
  freeCtr : Nat

  deriving DecidableEq, Repr

/-- The whole machine: the commands that wait, first in first out, and the device. -/
structure State where
  pending : List Instr
  chip    : Chip
  deriving DecidableEq, Repr

/-- Why the machine stops with a fault. No command of the model ever does: the spec gives each of them an effect or says
that nothing happens. The one reason is kept for the shape of the interface (safe). -/
inductive Fault where
  /-- Raised by nothing (safe). -/
  | none_
  deriving DecidableEq, Repr

/-- Why the machine has no answer. -/
inductive Refusal where
  /-- Raised by an arm of exec whose command has no meaning yet (safe): no arm does. -/
  | notModelled (mnemonic : String)
  deriving DecidableEq, Repr

def PatGen.reset : PatGen := ⟨[], 0⟩

def PatChk.reset : PatChk := ⟨false, [], 0, 0, [], 0, 0, false⟩

def LaneS.reset : LaneS := ⟨⟨0#32, 0#32, 0#32, 0#32, 0#32⟩, 0, 0, 0, 0, 0, 0, 0, 0, 0, 0, PatGen.reset, PatChk.reset, false⟩

def LaneRx.reset : LaneRx := ⟨false, 0, 0, 0, 0, false, 0, 0, []⟩

def LaneTr.reset : LaneTr := ⟨0, 0, false, false, false, false, 0, 0, false, 0, false, 0, 0, true, 0, 0⟩

def LinkS.reset : LinkS :=
  { pcs := none, txq := [], scr := 0, rounds := 0, burst := none, rxTurn := 0, descr := 0, logical := List.replicate 4 LaneRx.reset, train := List.replicate 5 LaneTr.reset
    phase := .idle, rxq := [], alive := none, lineOpen := false, hbSeq := 0, hbUncorr := 0, hbCrc := 0, hbLast := []
    timeSeq := 0, stepped := false, cfgStep := 0, samples := [], probes := [], pid := 0, sent := 0, repeats := 0
    latRun := false, ctrl := none, mailbox := none, tag := 0, imgDone := 0, swap := none, lastSwap := none, xid := 0
    trigs := [], draining := false, fromSeek := false, exiting := false, eqFrames := 0 }

def FeS.reset : FeS := ⟨[], [], [], none, none, [], [], [], true, none, none⟩

def StcS.reset : StcS :=
  { lines := [], lastUsed := List.replicate 8 none, webq := [], rows := [], metas := [], first := 0, bank := 0, ridx := 0
    norep := true, bankmix := false, ty := 0, bseq := 0, slots := List.replicate 3 none, fresh := [], began := false
    lostAt := none, cutAt := none }

def IeS.reset : IeS :=
  { bands := [], blobs := [], splits := [], reps := [], lastRep := none, acq := [0, 0], acqReps := [0, 0]
    fidRows := [], fidBest := none, fidRun := false, fidMiss := 0, ring := [] }

def ClusterS.reset : ClusterS :=
  ⟨List.replicate 4 none, List.replicate 4 false, 0, 0, false, 0, 0, false, none, false⟩

def ShpS.reset : ShpS :=
  { queue := [], run := [], clusters := List.replicate 4 ClusterS.reset, rem := 0, allow := 0, powers := [], tests := []
    retiring := [], tally := List.replicate 4 [0, 0, 0, 0, 0], part := List.replicate 4 [0, 0, 0, 0, 0], worn := [] }

def SspS.reset : SspS :=
  { units := [], ready := [], caps := [], pieces := [], waitSync := [], pseqMsgs := [], oweSync := [], pseqAt := [], cstat := [], p1Tokens := 8388608
    p1Time := 0, paced := [] }

def OrbS.reset : OrbS :=
  { s := 0, n := 0, f := 0, ticks := 0, sr := 0, held := none, frac := 0, mpd := [], mean := 0, jump := none, masters := []
    syncLost := true, ppsLost := true, sync := none, lastSync := none, seq := 0, delayReq := none, pdelay := none
    samples := 0, base := none, ppsOut := false, syncLog := 0, reqLog := 0, retest := false, syncTick := 0 }

def JobS.reset : JobS :=
  { tOff := List.replicate 8 none, offDone := [], pend := [], verBad := false, stopping := false, ts := none
    mateDig := none, verdict := none, waiting := none, masks := [], prodSent := none, profs := [0, 0] }

def DdrWin.reset : DdrWin := ⟨[], 0, 0⟩

def McS.reset : McS := ⟨0, [], [], 0, 0, 0, []⟩

def CvuS.reset : CvuS := ⟨BitVec.allOnes 64, 0, 0#32, true, 0⟩

def EqS.reset : EqS := ⟨[], 0, []⟩

def CmtS.reset : CmtS :=
  { pos := [0, 0], lvl := List.replicate 2 (false, false), illegal := [[], []], recent := [], pnext := none
    txPrev := none, due := none, ridx := 0, lastMark := none, missCnt := 0, events := [], fids := [], sheet := [none, none]
    outs := List.replicate 24 ⟨[], []⟩, woken := false, lastRec := none, synced := false, ownDue := [] }

def FcS.reset : FcS := ⟨[], List.replicate 9 none, [], none, false⟩

def PairS.reset : PairS :=
  { mseq := 0, mateSeq := none, mateDig := 0, seen := false, source := false, ownDigs := [], mateDigs := [], resend := none
    joinReq := false, joinAck := false, joinRep := none, joinFirst := false, joinDseq := false, fields := []
    serveAck := false, serveRep := none, serveDseq := false, tSeq := 0, tOut := none, both := false, gone := false, again := [] }

def DmaS.reset : DmaS := ⟨0, none, 0, [], List.replicate 3 (1, 0, 0), 0, false, none, 0, false⟩

def ClkS.reset : ClkS :=
  { srcs := List.replicate 5 ⟨0, 0, false, false, none, false⟩, refLost := false, f10Lost := false, time10 := false, fbOff := false
    revert := false, target := none, expired := false, standby := some 1, stopped := [], losses := [[], []], barred := [] }

def ScpS.reset : ScpS :=
  { ulq := [], ulResp := none, spi := none, kept := [], ulSess := none, spiSess := none, sub := none, evSeq := 0, seen := 0, rose := false
    evTime := none, resets := [] }

def BootS.reset : BootS :=
  { hold := true, pinLow := false, pwrLow := false, aonLow := false, testHi := false, trip := false, straps := false
    restart := false, img := [], verify := false, optw := [], att := none, repair := false, spares := 0, rows := [] }

def JtagS.reset : JtagS := ⟨1, 0x10880A95, 0, true⟩

/-- The device right after a power-on reset: every register at its reset value, every memory with nothing listed. -/
def Chip.reset : Chip :=
  { regs := [], mem := [], ecc := [], opt := [], win := DdrWin.reset, mcs := List.replicate 6 McS.reset, cvus := List.replicate 8 CvuS.reset
    eqs := List.replicate 4 EqS.reset, cmt := CmtS.reset, lanes := List.replicate 90 LaneS.reset
    ports := List.replicate 10 ⟨0, false⟩, links := List.replicate 9 LinkS.reset, fes := List.replicate 8 FeS.reset
    stc := StcS.reset, ie := IeS.reset, shp := ShpS.reset, ssp := SspS.reset, job := JobS.reset, orb := OrbS.reset
    fc := FcS.reset, pair := PairS.reset, dma := List.replicate 16 DmaS.reset, clk := ClkS.reset, boot := BootS.reset
    scp := ScpS.reset, jtag := JtagS.reset, retrain := none, log := [], headWrites := [], reports := [], defers := []
    out := [], freeCtr := 0 }

/-- The machine right after a power-on reset: no command waits, and the device is in its reset hold (R411, R413). -/
def State.reset : State := { pending := [], chip := Chip.reset }

end Sys2Proof.Machine
end

