-- ==== Sys2Proof/Machine/Ops.lean ====
section
/-! DEFINITION. Ops.lean: the named operations over the sparse stores, the registers, the memories, the fault reports
and the outputs. -/

namespace Sys2Proof.Machine

/-- What a canonical sparse store holds at a key: the listed value, or the default of an unlisted key. -/
def sget {α : Type} (d : Nat → α) : List (Nat × α) → Nat → α
  | [], k => d k
  | (j, v) :: rest, k => if j = k then v else sget d rest k

/-- A store without an entry at the key. -/
def sdel {α : Type} (k : Nat) (m : List (Nat × α)) : List (Nat × α) := m.filter fun p => p.1 != k

/-- A store with an entry put before the first larger key. -/
def sins {α : Type} (k : Nat) (v : α) : List (Nat × α) → List (Nat × α)
  | [] => [(k, v)]
  | (j, w) :: rest => if k < j then (k, v) :: (j, w) :: rest else (j, w) :: sins k v rest

/-- Writing a key: writing the default removes the entry, so that equal stores are equal lists. -/
def sput {α : Type} [DecidableEq α] (d : Nat → α) (m : List (Nat × α)) (k : Nat) (v : α) : List (Nat × α) :=
  if v = d k then sdel k m else sins k v (sdel k m)

/-- The canonical form of a sparse store: keys strictly rising, no entry equal to its key's default. -/
def swf {α : Type} (d : Nat → α) (m : List (Nat × α)) : Prop :=
  m.Pairwise (fun p q => p.1 < q.1) ∧ ∀ p ∈ m, p.2 ≠ d p.1

/-- Dropping every entry whose key lies in a half-open range. -/
def sdrop {α : Type} (lo hi : Nat) (m : List (Nat × α)) : List (Nat × α) :=
  m.filter fun p => decide (p.1 < lo) || decide (hi ≤ p.1)

/-! ### Registers -/

/-- The stored value of the register at an address. -/
def Chip.rd (c : Chip) (a : Nat) : Word := sget resetVal c.regs a

/-- Hardware's write of a whole register. -/
def Chip.wr (c : Chip) (a : Nat) (v : Word) : Chip := { c with regs := sput resetVal c.regs a v }

/-- The value of a field. -/
def Chip.f (c : Chip) (x : Fld) : Nat := getBits (c.rd x.addr) x.lo x.width

/-- A field read as a signed number. -/
def Chip.fs (c : Chip) (x : Fld) : Int := toSigned x.width (c.f x)

/-- A one-bit field as a Bool. -/
def Chip.fb (c : Chip) (x : Fld) : Bool := c.f x != 0

/-- Hardware's write of one field; every other bit of the register keeps its value. -/
def Chip.setF (c : Chip) (x : Fld) (v : Nat) : Chip := c.wr x.addr (putBits (c.rd x.addr) x.lo x.width v)

/-- Hardware's write of one field with a signed number. -/
def Chip.setFs (c : Chip) (x : Fld) (i : Int) : Chip := c.setF x (ofSigned x.width i)

/-- Hardware's write of a one-bit field. -/
def Chip.setFb (c : Chip) (x : Fld) (b : Bool) : Chip := c.setF x (if b then 1 else 0)

/-- Setting an event bit (R20: the bit ends set). -/
def Chip.ev (c : Chip) (x : Fld) : Chip := c.setF x 1

/-- Adding to a counter, which saturates at its width (the counter rows of every register map). -/
def Chip.add (c : Chip) (x : Fld) (n : Nat) : Chip := c.setF x (satAdd x.width (c.f x) n)

def Chip.inc (c : Chip) (x : Fld) : Chip := c.add x 1

/-- A reset of the registers of an address range: each holds its reset value again (R18). -/
def Chip.resetRange (c : Chip) (lo hi : Nat) : Chip := { c with regs := sdrop lo hi c.regs }

/-! ### Reports, outputs and free values -/

/-- A fault report to the FC: source code and instance (R432). -/
def Chip.report (c : Chip) (src inst : Nat) : Chip := { c with reports := c.reports ++ [⟨src, inst, false⟩] }

/-- The report of a corrected error, whose level is lower than that of an uncorrectable one (R446). -/
def Chip.reportLow (c : Chip) (src inst : Nat) : Chip := { c with reports := c.reports ++ [⟨src, inst, true⟩] }

/-- Something the device sends or drives in this command. -/
def Chip.emit (c : Chip) (o : Out) : Chip := { c with out := c.out ++ [o] }

/-- A value the spec leaves open, of kind `k`, and the state with the next index (log entry 5). -/
def Chip.fresh (c : Chip) (k : Nat) : Nat × Chip := (Config.freeNat k c.freeCtr, { c with freeCtr := c.freeCtr + 1 })

/-- A chain of operations over a list, in list order. -/
def Chip.each {α : Type} (c : Chip) (l : List α) (g : Chip → α → Chip) : Chip := l.foldl g c

/-- An operation under a condition. -/
def Chip.when (c : Chip) (b : Bool) (g : Chip → Chip) : Chip := if b then g c else c

/-! ### Memory -/

/-- A register word with one field forced, as the commands that write a named field send it. -/
def force (x : Fld) (k : Nat) (v : Word) : Word := putBits v x.lo x.width k

/-- What an unlisted byte of the memories reads as (log entry 3). -/
def memDefault (_ : Nat) : Byte := 0#8

/-- The byte of the SRAM or DDR5 image at an address. -/
def Chip.byte (c : Chip) (a : Nat) : Byte := sget memDefault c.mem a

def Chip.setByte (c : Chip) (a : Nat) (b : Byte) : Chip := { c with mem := sput memDefault c.mem a b }

/-- `n` bytes from an address upwards. -/
def Chip.bytes (c : Chip) (a n : Nat) : List Byte := (List.range n).map fun i => c.byte (a + i)

/-- Storing bytes from an address upwards. -/
def Chip.setBytes (c : Chip) (a : Nat) : List Byte → Chip
  | [] => c
  | b :: bs => (c.setByte a b).setBytes (a + 1) bs

/-- The 32-bit word of a memory image, little-endian (R13). -/
def Chip.memWord (c : Chip) (a : Nat) : Word := BitVec.ofNat 32 (natOfLE (c.bytes a 4))

def Chip.setMemWord (c : Chip) (a : Nat) (w : Word) : Chip := c.setBytes a (wordBytesLE w)

/-! ### The option store, Orbit and the trigger log -/

/-- What an option store word that nobody wrote holds (R419, R426, log entry 4): trims of zeros with their check value, and
engine 16 of each cluster marked SPARE in the engine map (R241, R447); every other word is 0. -/
def optDefault (i : Nat) : Word :=
  if i = 0x3FF ∨ i = 0x7FF then 0xA732586E#32
  else if i = 0x1501 then 0x1#32
  else if i = 0x1502 then 0x4#32
  else if i = 0x1503 then 0x10#32
  else if i = 0x1504 then 0x40#32
  else 0#32

/-- The word of the option store at an index (R425, R426). -/
def Chip.optWord (c : Chip) (i : Nat) : Word := sget optDefault c.opt i

/-- Programming a word of the option store, which OPT_WR_CNT counts (R425, R431). -/
def Chip.progWord (c : Chip) (i : Nat) (w : Word) : Chip :=
  { c.inc F.optWrCntCount with opt := sput optDefault c.opt i w }

/-- The device's own write of a word: its pulse and read-back are still to end (R425). DESIGN CHOICE: the new value is in the store at
once (log entry 11). -/
def Chip.setOptWord (c : Chip) (i : Nat) (w : Word) : Chip :=
  let c' := (c.progWord i w).setF F.optStatBusy 1
  { c' with boot := { c'.boot with optw := c'.boot.optw ++ [⟨i, w, c.optWord i, true⟩] } }

/-- Pair mode and mate number, from the straps (R416, R450). -/
def Chip.pairMode (c : Chip) : Bool := bitAt (c.rd R.glbStrap) 8

def Chip.pairId (c : Chip) : Nat := getBits (c.rd R.glbStrap) 9 1

/-- The job runs (R240). -/
def Chip.running (c : Chip) : Bool := c.fb F.jobStatRun

/-- The signed 32-bit difference a - b of two identifiers (R111, R123). -/
def sdiff32 (a b : Nat) : Int := toSigned 32 (a + 2 ^ 32 - b % 2 ^ 32)

/-- A target has been reached: the signed 64-bit difference is not negative (R311). -/
def reached64 (now target : Nat) : Bool := decide (0 ≤ toSigned 64 (now + 2 ^ 64 - target % 2 ^ 64))

/-- An 80-bit Orbit time as wire bytes: 48-bit seconds, 32-bit nanoseconds (R88). -/
def timeBytes (ns : Nat) : List Byte := natBytesBE 6 (ns / 1000000000 % 2 ^ 48) ++ natBytesBE 4 (ns % 1000000000)

/-- The ns an 80-bit time spells. -/
def timeOfBytes (bs : List Byte) : Nat := fieldBE bs 0 6 * 1000000000 + fieldBE bs 6 4

/-- Orbit time in ns: seconds and nanoseconds of the Orbit counter (R305). -/
def Chip.nowNs (c : Chip) : Nat := c.orb.s * 1000000000 + c.orb.n

/-- The trigger log's entry for an identifier, none where it was overwritten or never written (R326). -/
def Chip.logEntry (c : Chip) (id : Nat) : Option LogEntry :=
  match c.log.find? fun p => p.1 == id % 65536 with
  | some (_, e) => if e.id = id then some e else none
  | none => none

/-- Reading entries that newer ones have overwritten sets LOG_STALE (R326). -/
def Chip.noteStale (c : Chip) (ids : List Nat) : Chip :=
  if ids.any fun id => (c.log.find? fun p => p.1 == id % 65536).any fun p => decide (0 < sdiff32 p.2.id id) then
    c.setF F.cmtEvtLogStale 1 else c

def Chip.modLog (c : Chip) (id : Nat) (g : LogEntry → LogEntry) : Chip :=
  { c with log := c.log.map fun p => if p.2.id = id then (p.1, g p.2) else p }

end Sys2Proof.Machine
end

