-- ==== Sys2Proof/Machine/Mem.lean ====
section
/-! DEFINITION. Mem.lean: the SRAM and DDR5 windows and the memory controllers (R33, R34, R224, R282, R446 and
19_memory.md, R465 to R475). -/

namespace Sys2Proof.Machine

def sramBase : Nat := 0x1000000
def sramEnd : Nat := 0x1800000
def ddrBase : Nat := 0x8000000000

def mcReset : Nat := 0
def mcTraining : Nat := 1
def mcReady : Nat := 2
def mcFailed : Nat := 3
def mcUnusable : Nat := 4

def Chip.mc (c : Chip) (n : Nat) : McS := (c.mcs[n]?).getD McS.reset

def Chip.modMc (c : Chip) (n : Nat) (g : McS → McS) : Chip := { c with mcs := c.mcs.modify n g }

/-! ### The DDR5 window (R465 to R467) -/

/-- The populated channels in ascending order. -/
def Chip.mcPop (c : Chip) : List Nat := (List.range 6).filter fun n => c.fb (F.mcCfgPop n)

/-- Channel capacity in bytes before the repair reserve (the table of R465). -/
def Chip.mcCapacity (c : Chip) (n : Nat) : Nat :=
  let gib := match c.f (F.mcCfgDens n) with
    | 0 => 16
    | 1 => 24
    | _ => 32
  gib * (c.f (F.mcCfgRanks n) + 1) * 2 ^ 30 / (c.f (F.mcCfgWidth n) + 1)

/-- The window is formed when INIT_DONE becomes 1, from the populated channels, and holds no memory where one of them is
FAILED (R466). -/
def Chip.formWindow (c : Chip) : Chip :=
  let l := c.mcPop
  if l.all fun n => c.f (F.mcStatState n) == mcReady then
    { c with win := ⟨l, c.mcCapacity (l.headD 0), c.f (F.mcCfgSpeed (l.headD 0))⟩ }
  else { c with win := DdrWin.reset }

/-- The top of populated memory (R33, R466); each channel keeps its top 2 MiB as repair reserve. -/
def Chip.ddrTop (c : Chip) : Nat := ddrBase + c.win.chans.length * (c.win.cap - 2 ^ 21)

/-- The channel of a window address (R467). -/
def Chip.ddrChannel (c : Chip) (a : Nat) : Nat :=
  (c.win.chans[(a - ddrBase) / 4096 % max 1 c.win.chans.length]?).getD 0

/-- The address within its channel (R467). -/
def Chip.ddrLocal (c : Chip) (a : Nat) : Nat :=
  (a - ddrBase) / 4096 / max 1 c.win.chans.length * 4096 + (a - ddrBase) % 4096

/-- The channels that a range of the window touches: one a 4,096-byte piece, each once. -/
def Chip.ddrTouched (c : Chip) (a n : Nat) : List Nat :=
  if n = 0 then []
  else
    (List.range (min ((a + n - 1) / 4096 - a / 4096 + 1) c.win.chans.length)).map fun i =>
      c.ddrChannel (a / 4096 * 4096 + 4096 * i)

/-! ### Regions of the job (R34, R168, R178, R183, R224, R282) -/

/-- Two byte ranges share a byte. -/
def meets (a n b m : Nat) : Bool := 0 < n && 0 < m && a < b + m && b < a + n

def Chip.refRegion (c : Chip) (b : Nat) : Nat × Nat :=
  (c.f (F.ieRefBaseBase b) * 4096, c.f (F.ieRefStrideStride b) * c.f (F.ieRefHRefH b))

def Chip.ruleRegion (c : Chip) (b : Nat) : Nat × Nat :=
  (c.f (F.ieRuleBaseBase b) * 4096, 16 * (c.f (F.stcWebWidth b) / 16) * c.f (F.ieRuleTyTyN b))

def Chip.fieldRegion (c : Chip) (b : Nat) : Nat × Nat := (c.f (F.ieFieldBaseBase b) * 4096, 2 ^ 24)

def Chip.ringRegion (c : Chip) : Nat × Nat := (c.f F.sspRingBaseBase * 4096, c.f F.sspRingSizeMib * 2 ^ 20)

/-- A range meets a region of a bank. -/
def Chip.meetsBank (c : Chip) (b a n : Nat) : Bool :=
  [c.refRegion b, c.ruleRegion b, c.fieldRegion b].any fun r => meets a n r.1 r.2

/-- The work SRAM under lease: event queues, output buffer and colour sum buffer (R200, R283, R383). -/
def sramLeased : Nat × Nat := (0x1500000, 0x300000)

/-! ### Rules that reject an access -/

/-- A range lies whole in one window, on 4-byte boundaries (R33). -/
def Chip.inWindow (c : Chip) (a n : Nat) : Bool :=
  a % 4 == 0 && n % 4 == 0 &&
    ((sramBase ≤ a && a + n ≤ sramEnd) || (ddrBase ≤ a && a + n ≤ c.ddrTop))

/-- The statuses that reject a memory access (R33, R34, R224, R282, R473). -/
def Chip.memChecks (c : Chip) (a n : Nat) (write : Bool) : List Nat :=
  let act := c.f F.jobStatActBank
  let sst := c.f F.jobStatSst
  let ring := c.ringRegion
  let held := ((c.running || c.job.stopping) && c.meetsBank act a n) || meets a n sramLeased.1 sramLeased.2
    || (c.running && meets a n ring.1 ring.2)
  let staged := c.meetsBank (1 - act) a n
  rej (!c.inWindow a n) 0x02
    ++ rej (write && held) 0x04
    ++ rej (write && staged && (sst == 2 || sst == 3 || sst == 4)) 0x09
    ++ rej (write && staged && (sst == 1 || c.fb F.ieStatOldBusy)) 0x05
    ++ rej (ddrBase ≤ a && (c.ddrTouched a n).any fun ch => (c.mc ch).ppr != 0) 0x05

/-! ### ECC (R446, R470) -/

/-- The words of a range that hold an error. -/
def Chip.eccIn (c : Chip) (a n : Nat) : List (Nat × Bool) :=
  c.ecc.filter fun p => decide (a < 8 * p.1 + 8) && decide (8 * p.1 < a + n)

/-- The address within its channel, place of a row, of a window or reserve address (R467, R472). -/
def Chip.dramRow (c : Chip) (n a : Nat) : Nat := Config.dramPlace (c.rd (R.mcCfg n)) (c.ddrLocal a) % 2 ^ 24

/-- A 64-bit word lies in the channel: in the window, or in the repair reserve, where the interleave goes on above the window
(R465 to R467, log entry 21). -/
def Chip.inChannel (c : Chip) (n word : Nat) : Bool :=
  decide (ddrBase ≤ 8 * word) && decide (8 * word < ddrBase + c.win.chans.length * c.win.cap) && c.ddrChannel (8 * word) == n

/-- Cells lose their contents: a word holds a single-bit (false) or double-bit (true) error from now on. A word that holds a
double-bit error keeps it. -/
def Chip.flip (c : Chip) (l : List (Nat × Bool)) : Chip :=
  c.each l fun c p => { c with ecc := sins p.1 (p.2 || c.ecc.contains (p.1, true)) (sdel p.1 c.ecc) }

/-- One erroneous word meets a read: it is counted and reported (R446, R470). INST of 0x13 is the row, here the 64-bit
word of the SRAM (log entry 20). MCn_UE_LO and MCn_UE_HI hold window addresses, so a line of the repair reserve leaves them (R471, log
entry 21). -/
def Chip.eccMeet (c : Chip) (word : Nat) (double : Bool) : Chip :=
  let a := 8 * word
  if a < ddrBase then
    if double then c.report 0x13 ((a - sramBase) / 8) else c.reportLow 0x13 ((a - sramBase) / 8)
  else
    let ch := c.ddrChannel a
    if double then
      let c := c.inc (F.mcUncorrCount ch)
      let c := if a < c.ddrTop then (c.setF (F.mcUeLoAddr ch) a).setF (F.mcUeHiAddr ch) (a / 2 ^ 32) else c
      c.report 0x11 ch
    else c.inc (F.mcCorrCount ch)

/-- A read of a range: errors are counted and reported; the Bool says that some word is uncorrectable. -/
def Chip.eccRead (c : Chip) (a n : Nat) : Chip × Bool :=
  let l := c.eccIn a n
  (c.each l fun c p => c.eccMeet p.1 p.2, l.any (·.2))

/-- A write renews every word it covers whole; the read of a partial write corrects a single-bit error and leaves a
double-bit error in the word (R470). -/
def Chip.eccWrite (c : Chip) (a n : Nat) : Chip :=
  let l := c.eccIn a n
  let whole := fun (p : Nat × Bool) => decide (a ≤ 8 * p.1) && decide (8 * p.1 + 8 ≤ a + n)
  let c := c.each (l.filter fun p => !whole p) fun c p => c.eccMeet p.1 p.2
  { c with ecc := c.ecc.filter fun p => !(l.contains p && (whole p || !p.2)) }

/-- A partial write of the work SRAM that meets an uncorrectable word (R446). -/
def Chip.sramPartialBad (c : Chip) (a n : Nat) : Bool :=
  decide (a < ddrBase) && (c.eccIn a n).any fun p => p.2 && !(decide (a ≤ 8 * p.1) && decide (8 * p.1 + 8 ≤ a + n))

/-- Hardware's own write of bytes. -/
def Chip.memPut (c : Chip) (a : Nat) (bs : List Byte) : Chip := (c.eccWrite a bs.length).setBytes a bs

/-- Hardware's own read of bytes. -/
def Chip.memGet (c : Chip) (a n : Nat) : Chip × List Byte × Bool :=
  let (c', bad) := c.eccRead a n
  (c', c.bytes a n, bad)

/-! ### Writes into staged regions (R228) -/

/-- Noting an accepted write into a staged region, of DMA channel `by_` or of another source, which has still to land. -/
def Chip.landLater (c : Chip) (by_ : Option Nat) (a n : Nat) : Chip :=
  let b := 1 - c.f F.jobStatActBank
  let r := c.refRegion b
  let u := c.ruleRegion b
  if c.meetsBank b a n ∧ ddrBase ≤ a then
    let pend := c.job.pend ++ [⟨meets a n r.1 r.2, meets a n u.1 u.2, c.ddrTouched a n, by_⟩]
    { c with job := { c.job with pend := pend } }.setF F.jobWrPendCount (min pend.length 65535)
  else c

/-- An event of R228 for the reference or the rule table: OK and FAIL clear and a running verify is spoilt. -/
def Chip.verifySpoilt (c : Chip) (rule : Bool) : Chip :=
  let c := if rule then (c.setF F.jobVstatRuleOk 0).setF F.jobVstatRuleFail 0
    else (c.setF F.jobVstatRefOk 0).setF F.jobVstatRefFail 0
  if c.fb F.jobVstatBusy && c.fb F.jobVstatTgt == rule then { c with job := { c.job with verBad := true } } else c

/-- An accepted write into a staged region has still to land in the channel (R228). -/
def Chip.landsIn (c : Chip) (n : Nat) : Bool := c.job.pend.any fun p => p.chans.contains n

/-- A post-package repair that waited starts once every accepted write to its channel has landed (R228). -/
def Chip.pprStart (c : Chip) (n : Nat) : Chip :=
  let m := c.mc n
  if m.pprWait ≠ 0 ∧ !c.landsIn n then c.modMc n fun m => { m with ppr := m.pprWait, pprWait := 0 } else c

/-- The writes that still have to land. -/
def Chip.pendGone (c : Chip) (rest : List Landing) : Chip :=
  { c with job := { c.job with pend := rest } }.setF F.jobWrPendCount (min rest.length 65535)

/-- What a write that lands spoils, and the repairs that waited for it (R228). -/
def Chip.landed (c : Chip) (p : Landing) : Chip :=
  ((c.when p.ref (·.verifySpoilt false)).when p.rule (·.verifySpoilt true)).each (List.range 6) Chip.pprStart

/-- The oldest pending write lands (R228). -/
def Chip.writeLanded (c : Chip) : Chip :=
  match c.job.pend with
  | [] => c
  | p :: rest => (c.pendGone rest).landed p

/-- Every pending write of a DMA channel lands, in the order of their issue (R367). -/
def Chip.channelLanded (c : Chip) (n : Nat) : Chip :=
  let (own, rest) := c.job.pend.partition fun p => p.dma == some n
  if own.isEmpty then c else (c.pendGone rest).each own Chip.landed

/-! ### Initialization (R468, R469) -/

/-- A word written to MC0_CTRL with INIT = 1 starts every populated channel. -/
def Chip.mcInit (c : Chip) : Chip :=
  (c.each c.mcPop fun c n => (c.setF (F.mcStatState n) mcTraining).modMc n fun m => { m with step := 1 })

/-- Every populated channel is READY or FAILED: INIT_DONE = 1 (R468). -/
def Chip.mcInitCheck (c : Chip) : Chip :=
  if c.mcPop.all fun n => c.f (F.mcStatState n) == mcReady || c.f (F.mcStatState n) == mcFailed then
    (c.setF (F.mcStatInitDone 0) 1).formWindow else c

/-- Step 5 writes every line with zero data and valid ECC (R468). -/
def Chip.ddrZero (c : Chip) : Chip :=
  { c with mem := c.mem.filter fun p => decide (p.1 < ddrBase), ecc := c.ecc.filter fun p => decide (8 * p.1 < ddrBase) }

def Chip.mcTrainStep (c : Chip) (n : Nat) (ok : Bool) : Chip :=
  if n < 6 ∧ c.f (F.mcStatState n) = mcTraining then
    if ok then
      if (c.mc n).step < 5 then c.modMc n fun m => { m with step := m.step + 1 }
      else ((c.setF (F.mcStatState n) mcReady).ddrZero).mcInitCheck
    else ((c.setF (F.mcStatState n) mcFailed).report 0x12 n).mcInitCheck
  else c

/-! ### Scrubbing, row repair and post-package repair (R471 to R473) -/

/-- A channel that can be scrubbed now. -/
def Chip.scrubbable (c : Chip) (n : Nat) : Bool := c.f (F.mcStatState n) == mcReady && (c.mc n).ppr == 0

/-- Erroneous words of the channel are read: each is counted and reported, and a correctable one is written back corrected
(R470 to R472). -/
def Chip.eccMend (c : Chip) (l : List (Nat × Bool)) : Chip :=
  let c := c.each l fun c p => c.eccMeet p.1 p.2
  { c with ecc := c.ecc.filter fun p => !(l.contains p && !p.2) }

/-- One scrub piece of a channel ends: `hits` are the erroneous words it finds, `pass` the end of a pass, in which every line of the
channel has been read (R471). DESIGN CHOICE: a word in error that no piece of the pass named is read by the piece that ends it (log
entry 21). -/
def Chip.mcScrub (c : Chip) (n : Nat) (hits : List (Nat × Bool)) (pass : Bool) : Chip :=
  if !c.scrubbable n then c
  else
    let c := c.flip (hits.filter fun p => c.inChannel n p.1)
    let met := c.ecc.filter fun p => c.inChannel n p.1 &&
      (hits.any (fun h => h.1 == p.1) || (pass && !(c.mc n).scrubbed.contains p.1))
    let c := (c.eccMend met).modMc n fun m => { m with scrubbed := if pass then [] else m.scrubbed ++ met.map (·.1) }
    if pass then c.inc (F.mcScrubPassCount n) else c

/-- The counts that MCn_STAT shows of the remap entries. -/
def Chip.mcShow (c : Chip) (n : Nat) : Chip :=
  let l := (c.mc n).rmap.map (·.2)
  (c.setF (F.mcStatRmapUsed n) (l.filter fun w => bitAt w 31).length).setF (F.mcStatPprPend n)
    (l.filter fun w => bitAt w 30).length

/-- The lowest free remap entry, those that a running copy is to fill being taken. -/
def Chip.mcFreeEntry (c : Chip) (n : Nat) : Option Nat :=
  (List.range 256).find? fun i => !(((c.mc n).rmap ++ (c.mc n).copying).any fun p => p.1 == i)

/-- Row repair at L2 takes entry i, and the row that holds the last uncorrectable address is copied to spare row i (R472). Which rank,
subchannel, bank group, bank and row hold an address is not stated: `Config.dramPlace` leaves it open (log entry 21). -/
def Chip.mcRowRepair (c : Chip) (n : Nat) : Chip × Bool :=
  match c.mcFreeEntry n with
  | none => (c, false)
  | some i =>
    let ue := c.f (F.mcUeHiAddr n) * 2 ^ 32 + c.f (F.mcUeLoAddr n)
    let w := BitVec.ofNat 32 (2 ^ 31 + 2 ^ 30 + c.dramRow n ue)
    (c.modMc n fun m => { m with copying := m.copying ++ [(i, w)] }, true)

/-- MC_ROW_REPAIR_DONE: the oldest copy ends with every correctable word of the row corrected, and its entry is set VALID and PEND
(steps 2 and 3 of R472). DESIGN CHOICE: a corrected word is counted as R470 counts one, an uncorrectable one, copied unchanged, is not
counted again (log entry 21). -/
def Chip.mcRowDone (c : Chip) (n : Nat) : Chip :=
  match (c.mc n).copying with
  | [] => c
  | (i, w) :: rest =>
    let c := c.eccMend (c.ecc.filter fun p => !p.2 && c.inChannel n p.1 && c.dramRow n (8 * p.1) == w.toNat % 2 ^ 24)
    (c.modMc n fun m => { m with rmap := sins i w m.rmap, copying := rest }).mcShow n

/-- Post-package repair for the entries with PEND = 1 starts after every accepted write to its channel has landed
(R228, R473). -/
def Chip.mcPpr (c : Chip) (n op : Nat) : Chip :=
  if (c.mc n).rmap.any fun p => bitAt p.2 30 then (c.modMc n fun m => { m with pprWait := op }).pprStart n else c

/-- The repair of the lowest pending entry ends: it is freed, or it keeps its remap and PPR_FAIL is set (R473). -/
def Chip.mcPprDone (c : Chip) (n : Nat) (ok : Bool) : Chip :=
  if n < 6 ∧ (c.mc n).ppr ≠ 0 then
    match (c.mc n).rmap.find? fun p => bitAt p.2 30 with
    | none => c.modMc n fun m => { m with ppr := 0 }
    | some (i, w) =>
      let c := c.modMc n fun m =>
        { m with rmap := if ok then sdel i m.rmap else sins i (w &&& ~~~ bitMask 30 1) (sdel i m.rmap) }
      let c := if ok then c else c.setF (F.mcStatPprFail n) 1
      let c := if (c.mc n).rmap.any fun p => bitAt p.2 30 then c else c.modMc n fun m => { m with ppr := 0 }
      c.mcShow n
  else c

/-- A read of MCn_RMAP_DATA: the entry at IDX, which then advances (R475). -/
def Chip.mcRmapRead (c : Chip) (n : Nat) : Chip × Word :=
  let i := c.f (F.mcRmapIdxIdx n)
  (c.setF (F.mcRmapIdxIdx n) (i + 1), sget (fun _ => 0#32) (c.mc n).rmap i)

/-- Refresh-management commands have been sent to a channel that runs; how many is not stated, so the count that a read of
MCn_RFM_CNT finds is a free value (R468, R475, log entry 5). -/
def Chip.rfmCounted (c : Chip) (n : Nat) : Chip :=
  if c.f (F.mcStatState n) = mcReady then
    let (k, c) := c.fresh 21
    c.add (F.mcRfmCntCount n) k
  else c

/-! ### Temperature (R474) -/

/-- The reads of a channel's sensors on the I2C bus. A read that loses the arbitration is retried when the bus is free, which
happens a free number of times (R492, log entry 5). -/
def Chip.mcI2cReads (c : Chip) (n : Nat) : Chip :=
  c.each ([c.f (F.mcTsAddr0 n), c.f (F.mcTsAddr1 n)].filter (· != 0)) fun c a =>
    let (k, c) := c.fresh 22
    c.emit (.i2cRead n a (k + 1))

/-- A temperature reading of a channel, in 1/16 °C: the sensors that could be read and the range of mode register 4. -/
def Chip.mcTemp (c : Chip) (n : Nat) (t0 t1 : Option Int) (mr4Hot : Bool) : Chip :=
  if n < 6 ∧ c.fb (F.mcCfgPop n) then
    let c := c.mcI2cReads n
    let seen := (if c.f (F.mcTsAddr0 n) = 0 then [] else t0.toList) ++ (if c.f (F.mcTsAddr1 n) = 0 then [] else t1.toList)
    match seen with
    | [] => (c.setF (F.mcTempTemp n) 0x8000).setFb (F.mcStatHot n) mr4Hot
    | t :: ts =>
      let top := ts.foldl max t
      let c := (c.setFs (F.mcTempTemp n) top).setFb (F.mcStatHot n) (mr4Hot || decide (1360 ≤ top))
      let run := if 16 * (c.f (F.mcThermTmax n) : Int) < top then (c.mc n).hotRun + 1 else 0
      let c := c.modMc n fun m => { m with hotRun := run }
      if 3 ≤ run ∧ c.f (F.mcStatState n) ≠ mcUnusable then (c.setF (F.mcStatState n) mcUnusable).report 0x12 n else c
  else c

/-- MC_I2C_READ_TIMEOUT: one sensor counts as unreadable; `t` is what the other one gave (R474, R492). -/
def Chip.mcI2cTimeout (c : Chip) (n : Nat) (second : Bool) (t : Option Int) (mr4Hot : Bool) : Chip :=
  if second then c.mcTemp n t none mr4Hot else c.mcTemp n none t mr4Hot

/-! ### Register writes (R468, R473, R475) -/

def Chip.mcChecks (c : Chip) (n off : Nat) (v : Word) : List Nat :=
  let pop := c.mcPop
  match off with
  | 0x00 => rej (c.f (F.mcStatState n) != mcReset) 0x04
  | 0x04 => if n = 0 ∧ bitAt v 31 then
      rej (pop.isEmpty || pop.any fun p => c.rd (R.mcCfg p) != c.rd (R.mcCfg (pop.headD 0))) 0x03
        ++ rej (pop.any fun p => c.f (F.mcStatState p) != mcReset) 0x04
      else []
  | 0x18 => rej (getBits v 30 2 == 0 || getBits v 30 2 == 3) 0x03
      ++ rej (c.running || c.f (F.mcStatState n) != mcReady) 0x04
  | _ => []

def Chip.mcWritten (c : Chip) (n off : Nat) (v : Word) : Chip :=
  match off with
  | 0x04 => if n = 0 ∧ bitAt v 31 then c.mcInit else c
  | 0x18 => c.mcPpr n (getBits v 30 2)
  | _ => c

end Sys2Proof.Machine
end

