-- ==== Sys2Proof/Machine/Cvu.lean ====
section
/-! DEFINITION. Cvu.lean: the check-value units (15_checks_queues.md, R375 to R382). -/

namespace Sys2Proof.Machine

def Chip.cvu (c : Chip) (n : Nat) : CvuS := (c.cvus[n]?).getD CvuS.reset

def Chip.modCvu (c : Chip) (n : Nat) (g : CvuS → CvuS) : Chip := { c with cvus := c.cvus.modify n g }

/-- The running CRC of an algorithm of R375 over further bytes. -/
def cvuCrc (alg : Nat) (crc : BitVec 64) (bs : List Byte) : BitVec 64 :=
  match alg with
  | 0 => (crcRun 32 0x82F63B78#32 (crc.setWidth 32) bs).setWidth 64
  | 1 => (crcRun 32 0xEDB88320#32 (crc.setWidth 32) bs).setWidth 64
  | _ => crcRun 64 0xC96C5795D7870F42#64 crc bs

/-- The result of a running CRC after its final inversion; 32-bit results have high word 0 (R375). -/
def cvuResult (alg : Nat) (crc : BitVec 64) : BitVec 64 :=
  if alg = 2 then ~~~ crc else (~~~ crc.setWidth 32).setWidth 64

def Chip.cvuAlg (c : Chip) (n : Nat) : Nat := c.f (F.cvuCfgAlg n)

/-- One input word (R376, R378). -/
def Chip.cvuWord (c : Chip) (n : Nat) (w : Word) (bs : List Byte) : Chip :=
  let alg := c.cvuAlg n
  c.modCvu n fun u => { u with crc := cvuCrc alg u.crc bs, first := if u.words = 0 then w else u.first, words := u.words + 1 }

/-- A write of CVUn_DATA in PUSH mode (R376): the frame is open from now on. -/
def Chip.cvuPush (c : Chip) (n : Nat) (w : Word) : Chip :=
  let bs := if c.fb (F.cvuCfgOrder n) then (wordBytesLE w).reverse else wordBytesLE w
  (c.cvuWord n w bs).setF (F.cvuStatOwner n) 1

/-- The alive check of a closed frame (R378). -/
def Chip.cvuAlive (c : Chip) (n : Nat) : Chip :=
  let aw := c.f (F.cvuCfgAlvW n)
  if aw = 0 then c
  else
    let w := 2 * 2 ^ aw
    let v := getBits (c.cvu n).first (c.f (F.cvuCfgAlvLsb n)) w
    let kept := c.f (F.cvuAliveKept n)
    let c' := (c.setF (F.cvuAliveKept n) v).modCvu n fun u => { u with fresh := false }
    if (c.cvu n).fresh then c'
    else if v = kept then ((c'.ev (F.cvuEvtRep n)).inc (F.cvuRepSkipRep n)).report 0x52 n
    else if v = (kept + 1) % 2 ^ w then c'
    else ((c'.ev (F.cvuEvtSkip n)).add (F.cvuRepSkipSkip n) ((v + 2 ^ w - kept - 1) % 2 ^ w)).report 0x52 n

/-- The compare of a closed frame (R379). -/
def Chip.cvuCompare (c : Chip) (n : Nat) : Chip :=
  if c.fb (F.cvuCfgCmpEn n) && (c.f (F.cvuResultLoResult n) != c.f (F.cvuExpLoExp n)
      || c.f (F.cvuResultHiResult n) != c.f (F.cvuExpHiExp n)) then
    ((c.ev (F.cvuEvtCrcMis n)).inc (F.cvuMisCntCount n)).report 0x52 n else c

def Chip.cvuShow (c : Chip) (n : Nat) (r : BitVec 64) : Chip :=
  ((c.setF (F.cvuResultLoResult n) (r.toNat % 2 ^ 32)).setF (F.cvuResultHiResult n) (r.toNat / 2 ^ 32)).setF
    (F.cvuStatValid n) 1

/-- A close (R377): ignored without input; otherwise result, checks, frame count and a fresh CRC. -/
def Chip.cvuClose (c : Chip) (n : Nat) : Chip :=
  let u := c.cvu n
  if u.words = 0 then c
  else
    let c := c.cvuShow n (cvuResult (c.cvuAlg n) u.crc)
    let c := ((c.cvuAlive n).cvuCompare n).inc (F.cvuFramesCount n)
    let c := c.modCvu n fun u => { u with crc := BitVec.allOnes 64, words := 0 }
    if c.f (F.cvuStatOwner n) = 1 then c.setF (F.cvuStatOwner n) 0 else c

/-- A pulse on an event line closes the PUSH frames that name it (R377, R381). -/
def Chip.cvuLinePulse (c : Chip) (line : Nat) : Chip :=
  c.each (List.range 8) fun c n =>
    if !c.fb (F.cvuCfgMode n) && c.fb (F.cvuCfgEvEn n) && c.f (F.cvuCfgCloseLine n) == line
      && c.f (F.cvuStatOwner n) != 3 then c.cvuClose n else c

def Chip.cvuAddr (c : Chip) (n : Nat) : Nat := c.f (F.cvuAddrHiAddr n) * 2 ^ 32 + c.f (F.cvuAddrLoAddr n) * 4

/-- Discarding the open frame or the READ run; no checks run (R380). -/
def Chip.cvuAbort (c : Chip) (n : Nat) : Chip :=
  ((c.modCvu n fun u => { u with crc := BitVec.allOnes 64, words := 0, done := 0 }).setF (F.cvuStatValid n) 0).setF
    (F.cvuStatOwner n) 0

/-- A READ run ends at an uncorrectable error (R382). -/
def Chip.cvuEccEnd (c : Chip) (n : Nat) : Chip := (c.cvuAbort n).ev (F.cvuEvtEcc n)

/-- The bytes of a region up to the end of its first uncorrectable word, all of them where it holds none. -/
def Chip.goodPart (c : Chip) (a n : Nat) : Nat :=
  match ((c.eccIn a n).filter (·.2)).map (·.1) with
  | [] => n
  | w :: ws => min n (8 * ws.foldl min w + 8 - a)

/-- The unit reads the next `k` words of its READ run (R376); an uncorrectable one among them ends the run at once (R382). -/
def Chip.cvuRead (c : Chip) (n k : Nat) : Chip :=
  let a := c.cvuAddr n + 4 * (c.cvu n).done
  let (c, bad) := c.eccRead a (c.goodPart a (4 * k))
  if bad then c.cvuEccEnd n
  else
    let c := c.each (List.range k) fun c i =>
      let w := c.memWord (a + 4 * i)
      c.cvuWord n w (wordBytesLE w)
    c.modCvu n fun u => { u with done := u.done + k }

/-- A write of CLOSE: in a READ run the words read until then are timing, hence a free value (R377). -/
def Chip.cvuCloseWritten (c : Chip) (n : Nat) : Chip :=
  if c.f (F.cvuStatOwner n) = 2 then
    let left := c.f (F.cvuLen4Words n) - (c.cvu n).done
    let (k, c) := c.fresh 8
    (c.cvuRead n (k % max 1 left)).cvuClose n
  else c.cvuClose n

/-- The last word of a READ run closes the frame (R377). -/
def Chip.cvuRunDone (c : Chip) (n : Nat) : Chip :=
  if n < 8 ∧ c.f (F.cvuStatOwner n) = 2 then
    ((c.cvuRead n (c.f (F.cvuLen4Words n) - (c.cvu n).done)).cvuClose n).setF (F.cvuStatOwner n) 0
  else c

/-- A READ run meets an uncorrectable error in a word of its region (R382). -/
def Chip.cvuEccError (c : Chip) (n word : Nat) : Chip :=
  if n < 8 ∧ c.f (F.cvuStatOwner n) = 2 ∧ meets (8 * word) 8 (c.cvuAddr n) (4 * c.f (F.cvuLen4Words n)) then
    ((c.flip [(word, true)]).eccMeet word true).cvuEccEnd n
  else c

def Chip.cvuGo (c : Chip) (n : Nat) : Chip :=
  if c.fb (F.cvuCfgMode n) then (c.modCvu n fun u => { u with done := 0 }).setF (F.cvuStatOwner n) 2 else c

/-- The region CRC of a verify: CRC-32C whatever ALG; over an uncorrectable word it is a free value (R227, R381). -/
def Chip.verifyCrc (c : Chip) (a n : Nat) : Chip × Word :=
  let (c, bad) := c.eccRead a n
  if bad then let (k, c) := c.fresh 9; (c, BitVec.ofNat 32 k) else (c, crc32c (c.bytes a n))

/-- The rejecting rules of a write at offset `off` of unit `n` (R376, R378, R380, R381, R391). -/
def Chip.cvuChecks (c : Chip) (n off : Nat) (v : Word) : List Nat :=
  let owner := c.f (F.cvuStatOwner n)
  let busy := owner != 0
  rej (owner == 3) 0x05 ++ match off with
  | 0x00 =>
    let len := 4 * c.f (F.cvuLen4Words n)
    if bitAt v 31 then
      rej busy 0x04 ++ rej (c.fb (F.cvuCfgMode n) && len == 0) 0x03
        ++ rej (c.fb (F.cvuCfgMode n) && !c.inWindow (c.cvuAddr n) len) 0x02
    else []
  | 0x04 =>
    let aw := getBits v 14 2
    rej (aw != 0 && decide (32 < getBits v 8 5 + 2 * 2 ^ aw)) 0x03 ++ rej busy 0x04
  | 0x0C => rej (c.fb (F.cvuCfgMode n)) 0x04
  | 0x10 | 0x14 | 0x18 => rej busy 0x04
  | _ => []

def Chip.cvuWritten (c : Chip) (n off : Nat) (v : Word) : Chip :=
  match off with
  | 0x00 =>
    let c := c.when (bitAt v 29) (·.cvuAbort n)
    let c := c.when (bitAt v 30) (·.cvuCloseWritten n)
    c.when (bitAt v 31) (·.cvuGo n)
  | 0x04 => c.modCvu n fun u => { u with fresh := true }
  | 0x0C => c.cvuPush n v
  | _ => c

end Sys2Proof.Machine
end

