-- ==== Sys2Proof/Machine/Sha.lean ====
section
/-! DEFINITION. Sha.lean: SHA-256, which the spec takes from FIPS 180-4 (R421, R422, R428, 17_reset_boot_security.md). -/

namespace Sys2Proof.Machine

/-- The constants of the 64 rounds. -/
def shaK : List Word :=
  [0x428a2f98#32, 0x71374491#32, 0xb5c0fbcf#32, 0xe9b5dba5#32, 0x3956c25b#32, 0x59f111f1#32, 0x923f82a4#32, 0xab1c5ed5#32]
   ++ [0xd807aa98#32, 0x12835b01#32, 0x243185be#32, 0x550c7dc3#32, 0x72be5d74#32, 0x80deb1fe#32, 0x9bdc06a7#32, 0xc19bf174#32]
   ++ [0xe49b69c1#32, 0xefbe4786#32, 0x0fc19dc6#32, 0x240ca1cc#32, 0x2de92c6f#32, 0x4a7484aa#32, 0x5cb0a9dc#32, 0x76f988da#32]
   ++ [0x983e5152#32, 0xa831c66d#32, 0xb00327c8#32, 0xbf597fc7#32, 0xc6e00bf3#32, 0xd5a79147#32, 0x06ca6351#32, 0x14292967#32]
   ++ [0x27b70a85#32, 0x2e1b2138#32, 0x4d2c6dfc#32, 0x53380d13#32, 0x650a7354#32, 0x766a0abb#32, 0x81c2c92e#32, 0x92722c85#32]
   ++ [0xa2bfe8a1#32, 0xa81a664b#32, 0xc24b8b70#32, 0xc76c51a3#32, 0xd192e819#32, 0xd6990624#32, 0xf40e3585#32, 0x106aa070#32]
   ++ [0x19a4c116#32, 0x1e376c08#32, 0x2748774c#32, 0x34b0bcb5#32, 0x391c0cb3#32, 0x4ed8aa4a#32, 0x5b9cca4f#32, 0x682e6ff3#32]
   ++ [0x748f82ee#32, 0x78a5636f#32, 0x84c87814#32, 0x8cc70208#32, 0x90befffa#32, 0xa4506ceb#32, 0xbef9a3f7#32, 0xc67178f2#32]

/-- The hash value at the start. -/
def shaInit : List Word :=
  [0x6a09e667#32, 0xbb67ae85#32, 0x3c6ef372#32, 0xa54ff53a#32, 0x510e527f#32, 0x9b05688c#32, 0x1f83d9ab#32, 0x5be0cd19#32]

/-- Two rotations and a third word, which is a rotation or a shift: the sigma functions. -/
def shaSig (a b : Nat) (x z : Word) : Word := x.rotateRight a ^^^ x.rotateRight b ^^^ z

/-- The schedule word after those in `w`, the newest of which stands first. -/
def shaNext (w : List Word) : Word :=
  let at_ := fun i => w.getD i 0#32
  shaSig 17 19 (at_ 1) (at_ 1 >>> 10) + at_ 6 + shaSig 7 18 (at_ 14) (at_ 14 >>> 3) + at_ 15

/-- The message schedule, newest word first: the 16 words of a block extended by `n` more. -/
def shaSched : Nat → List Word → List Word
  | 0, w => w
  | n + 1, w => shaSched n (shaNext w :: w)

/-- One round over the working variables a to h, with its constant and its schedule word. -/
def shaRound (v : List Word) (kw : Word × Word) : List Word :=
  match v with
  | [a, b, c, d, e, f, g, h] =>
    let t := h + shaSig 6 11 e (e.rotateRight 25) + ((e &&& f) ^^^ (~~~ e &&& g)) + kw.1 + kw.2
    [t + shaSig 2 13 a (a.rotateRight 22) + ((a &&& b) ^^^ (a &&& c) ^^^ (b &&& c)), a, b, c, d + t, e, f, g]
  | _ => v

/-- The hash value after one block of 64 bytes. -/
def shaBlock (hs : List Word) (block : List Byte) : List Word :=
  let w := (List.range 16).map fun i => BitVec.ofNat 32 (fieldBE block (4 * i) 4)
  let v := (shaK.zip (shaSched 48 w.reverse).reverse).foldl shaRound hs
  List.zipWith (· + ·) hs v

/-- The hash value after `n` blocks. -/
def shaRun : Nat → List Word → List Byte → List Word
  | 0, hs, _ => hs
  | n + 1, hs, bs => shaRun n (shaBlock hs (bs.take 64)) (bs.drop 64)

/-- A message with its padding: a one bit, zeros, and the length in bits as 64 bits. -/
def shaPad (m : List Byte) : List Byte :=
  m ++ 0x80#8 :: List.replicate ((119 - m.length % 64) % 64) 0#8 ++ natBytesBE 8 (8 * m.length)

/-- SHA-256 of a message: 32 bytes. -/
def sha256 (m : List Byte) : List Byte :=
  let p := shaPad m
  (shaRun (p.length / 64) shaInit p).flatMap fun x => natBytesBE 4 x.toNat

end Sys2Proof.Machine
end

