-- ==== Sys2Proof/Machine/Fe.lean ====
section
/-! DEFINITION. Fe.lean: the port front ends FE0 to FE7 (04_port_front_end.md, R119 to R143). -/

namespace Sys2Proof.Machine

def Chip.fe (c : Chip) (n : Nat) : FeS := (c.fes[n]?).getD FeS.reset

def Chip.modFe (c : Chip) (n : Nat) (g : FeS → FeS) : Chip := { c with fes := c.fes.modify n g }

/-- Bits of a sample by the SIZE code (R88). -/
def sizeBits (code : Nat) : Nat := 8 + 2 * code

/-- The active job bank: 0 A, 1 B (R222). -/
def Chip.actBank (c : Chip) : Nat := c.f F.jobStatActBank

/-! ### The correction table (R128 to R131, R140, R141) -/

/-- The reset entry: gain 1.0, dark 0, not defective (R130). -/
def tblDefault (_ : Nat) : Word := 0x40000000#32

def FeS.tblGet (s : FeS) (b i : Nat) : Word := sget tblDefault s.tbl (b * 65536 + i)

def FeS.tblPut (s : FeS) (b i : Nat) (w : Word) : FeS :=
  { s with tbl := sput tblDefault s.tbl (b * 65536 + i) w, ecc := sdel (b * 65536 + i) s.ecc }

/-- The ECC mark of an entry: none, some false for a single-bit error, some true for a double-bit error. -/
def FeS.tblEcc (s : FeS) (b i : Nat) : Option Bool := (s.ecc.find? fun p => p.1 == b * 65536 + i).map (·.2)

/-- The entry step 3 uses and what the read counts (R131): (entry, corrected, uncorrectable). -/
def FeS.tblUse (s : FeS) (b i : Nat) : Word × Nat × Nat :=
  match s.tblEcc b i with
  | none => (s.tblGet b i, 0, 0)
  | some false => (s.tblGet b i, 1, 0)
  | some true => (0x40000002#32, 0, 1)

/-- Entries of the table that hold an error from now on, by key (log entry 10). -/
def Chip.feFlip (c : Chip) (n : Nat) (l : List (Nat × Bool)) : Chip :=
  c.modFe n fun s => { s with ecc := l.foldl (fun e p => sins p.1 p.2 (sdel p.1 e)) s.ecc }

/-- INDEX increments after each access, wrapping from 65,535 to 0 (R140). -/
def Chip.feNextIndex (c : Chip) (n : Nat) : Chip :=
  c.setF (F.feTblAddrIndex n) ((c.f (F.feTblAddrIndex n) + 1) % 65536)

/-- A performed write of FEn_TBL_DATA: STALE when the bank is the one the last GO named (R140, R141). -/
def Chip.feTblWrite (c : Chip) (n : Nat) (v : Word) : Chip :=
  let b := c.f (F.feTblAddrBank n)
  let c := c.modFe n fun s => s.tblPut b (c.f (F.feTblAddrIndex n)) v
  let c := if (c.fe n).chkOf = some b then c.setF (F.feTblChkStale n) 1 else c
  c.feNextIndex n

/-- A read of FEn_TBL_DATA: the corrected entry, or 0xFFFF_FFFF for an uncorrectable one. The counts and the report of
R131 belong to the entries its step 3 reads. -/
def Chip.feTblRead (c : Chip) (n : Nat) : Chip × Word :=
  let s := c.fe n
  let b := c.f (F.feTblAddrBank n)
  let i := c.f (F.feTblAddrIndex n)
  let c' := c.feNextIndex n
  (c', if s.tblEcc b i = some true then 0xFFFFFFFF#32 else s.tblGet b i)

/-- A performed write of FEn_TBL_CHK: GO starts the computation and clears DONE and STALE (R141). -/
def Chip.feChkWritten (c : Chip) (n : Nat) (v : Word) : Chip :=
  if bitAt v 31 then
    ((c.modFe n fun s => { s with chk := some (getBits v 28 1), chkOf := some (getBits v 28 1) }).setF (F.feTblChkDone n) 0).setF (F.feTblChkStale n) 0
  else c

/-- The check value over the 65,536 entries of a bank, in index order, most significant byte first (R141). -/
def FeS.tblCrc (s : FeS) (b : Nat) : Word :=
  ~~~ (List.range 65536).foldl (fun r i => crcRun 32 0x82F63B78#32 r (natBytesBE 4 (s.tblGet b i).toNat)) 0xFFFFFFFF#32

def Chip.feChkDone (c : Chip) (n : Nat) : Chip :=
  match (c.fe n).chk with
  | none => c
  | some b =>
    ((c.modFe n fun s => { s with chk := none }).wr (R.feTblCrc n) ((c.fe n).tblCrc b)).setF (F.feTblChkDone n) 1

/-- The table of a front end that was reset has been set to its reset entries (R130). -/
def Chip.feInitDone (c : Chip) (n : Nat) : Chip := c.modFe n fun s => { s with initBusy := false }

/-! ### Assembly (R120 to R126) -/

/-- An expected line for port n, for a trigger that Comet issues to it (R121). -/
def Chip.feExpect (c : Chip) (n trig tx bank : Nat) : Chip :=
  c.modFe n fun s => { s with exp := s.exp ++ [⟨trig, tx, bank, false, []⟩] }

/-- The trigger log marks the TRIG of a line as not sent for port n (R124). -/
def Chip.feNotSent (c : Chip) (n trig : Nat) : Chip :=
  c.modFe n fun s => { s with exp := s.exp.map fun l => if l.trig = trig then { l with notSent := true } else l }

/-- Covered pixels of a line. -/
def ExpLine.covered (l : ExpLine) : Nat := (l.segs.map fun g => g.px.length).sum

def Chip.lineNpix (c : Chip) (n bank : Nat) : Nat := c.f (F.feJcfgNpix bank n)

/-- In-flight disable completes when line T_off of the port closes (R237). -/
def Chip.portOffClosed (c : Chip) (n trig : Nat) : Chip :=
  if c.job.tOff.getD n none = some trig then
    { (c.setF (F.linkCtrlExpected n) 0).ev F.jobEvtPortOff with
      job := { c.job with tOff := c.job.tOff.set n none, offDone := c.job.offDone ++ [n] } }
  else c

/-- A closed line takes its place in TRIG_ID order (R125, R137). -/
def closedIn (x : ClosedLine) : List ClosedLine → List ClosedLine
  | [] => [x]
  | y :: ys => if sdiff32 x.line.trig y.line.trig < 0 then x :: y :: ys else y :: closedIn x ys

/-- Closing the k-th expected line (R122, R124, R126). DESIGN CHOICE: of segments whose LINE_NO values differ, the line
carries that of the segment accepted first (log entry 54). -/
def Chip.feCloseAt (c : Chip) (n k : Nat) : Chip :=
  match (c.fe n).exp[k]? with
  | none => c
  | some l =>
    let npix := c.lineNpix n l.bank
    let cov := l.covered
    let missing := cov == 0
    let partial_ := !missing && cov < npix
    let no := (l.segs.head?.map (·.lineNo)).getD 0
    let last := (c.fe n).lastNo
    let c := c.modFe n fun s => { s with
      exp := s.exp.eraseIdx k
      closed := closedIn ⟨l, missing, partial_, no⟩ s.closed
      lastClosed := match s.lastClosed with
        | some t => if sdiff32 l.trig t < 0 then some t else some l.trig
        | none => some l.trig
      lastNo := if missing then s.lastNo else some no }
    let c := if missing then c.inc (F.feMissCntCount n) else if partial_ then c.inc (F.fePartCntCount n) else c
    let c := match missing, last with
      | false, some p =>
        let gap := (no + 2 ^ 32 - p) % 2 ^ 32
        if gap > 1 then c.add (F.feLnoGapCount n) (gap - 1) else c
      | _, _ => c
    let c := if missing && c.fb (F.linkCtrlExpected n) then c.report 0x05 n else c
    c.portOffClosed n l.trig

/-- Closing the oldest expected line. -/
def Chip.feClose (c : Chip) (n : Nat) : Chip := c.feCloseAt n 0

/-- Closing the first `k` expected lines, oldest first. -/
def Chip.feCloseN (c : Chip) (n : Nat) : Nat → Chip
  | 0 => c
  | k + 1 => (c.feClose n).feCloseN n k

/-- Port loss: every expected line still open closes at once (R124). -/
def Chip.fePortLoss (c : Chip) (n : Nat) : Chip := c.feCloseN n (c.fe n).exp.length

/-- After the port enters ACTIVE the previous line counts as all zeros (R125). -/
def Chip.fePortUp (c : Chip) (n : Nat) : Chip := c.modFe n fun s => { s with prev := [] }

/-- The deadline t_x + LINE_TMO of a line has been reached, by a signed comparison (R124). -/
def Chip.lineExpired (c : Chip) (n : Nat) (l : ExpLine) : Bool :=
  reached64 c.nowNs (l.tx + 1000 * c.f (F.feBinTmoLineTmo l.bank n))

/-- Every open line past its deadline closes, oldest first; a younger line with an earlier deadline does not wait. -/
def Chip.feDeadline (c : Chip) (n : Nat) : Chip :=
  c.each (((c.fe n).exp.filter (c.lineExpired n)).map (·.trig)) fun c t =>
    match (c.fe n).exp.findIdx? fun l => l.trig == t with
    | some k => c.feCloseAt n k
    | none => c

/-- The oldest expected line closes where its TRIG was not sent (R124). -/
def Chip.feCloseNotSent (c : Chip) (n : Nat) : Chip :=
  match (c.fe n).exp with
  | l :: _ => if l.notSent then c.feClose n else c
  | [] => c

/-- Bytes of the input FIFO in use (R120). -/
def FeS.fifoBytes (s : FeS) : Nat := (s.fifo.map List.length).sum

/-- A LINE packet that passed the checks of R87 reaches the front end (R120, R121). DESIGN CHOICE: a packet takes as many bytes of the
input FIFO as it has, header and CRC included, and the FIFO is full for a packet that does not fit whole (log entry 54). -/
def Chip.feAccept (c : Chip) (n : Nat) (bytes : List Byte) : Chip :=
  if !c.fb (F.feJcfgPortEn c.actBank n) then c.inc (F.feUnexpCntCount n)
  else if (c.fe n).fifoBytes + bytes.length > 131072 then c.inc (F.feOvfCntCount n)
  else c.modFe n fun s => { s with fifo := s.fifo ++ [bytes] }

/-- The bits of bytes, most significant first: packed samples are one contiguous bit stream (R13). -/
def bitsBE (bs : List Byte) : List Bool := bs.flatMap fun b => (byteBitsLsb b).reverse

/-- The number a bit string spells, most significant bit first. -/
def natOfBits (l : List Bool) : Nat := l.foldl (fun a b => 2 * a + (if b then 1 else 0)) 0

/-- `count` samples of `b` bits from a bit stream (R89). -/
def takeSamples (b : Nat) : Nat → List Bool → List Nat
  | 0, _ => []
  | k + 1, l => natOfBits (l.take b) :: takeSamples b k (l.drop b)

/-- Groups of `k` elements: the pixels of a sample list. -/
def groupsOf (k : Nat) : Nat → List Nat → List (List Nat)
  | 0, _ => []
  | m + 1, l => l.take k :: groupsOf k m (l.drop k)

/-- The segment a LINE packet carries (R88, R89). -/
def segOf (bytes : List Byte) : Seg :=
  let fmt := fieldBE bytes 6 1
  let b := sizeBits (fmt / 64)
  let nch := fmt / 16 % 4 + 1
  let npix := fieldBE bytes 28 2
  ⟨fieldBE bytes 26 2, fieldBE bytes 8 4,
   groupsOf nch npix (takeSamples b (npix * nch) (bitsBE (bytes.drop 30)))⟩

def Seg.overlaps (g h : Seg) : Bool := g.x < h.x + h.px.length && h.x < g.x + g.px.length

/-- The front end takes the next accepted segment (R121, R123, R124). -/
def Chip.feSegment (c : Chip) (n : Nat) : Chip :=
  match (c.fe n).fifo with
  | [] => c
  | bytes :: rest =>
    let c := c.modFe n fun s => { s with fifo := rest }
    let trig := fieldBE bytes 12 4
    let seg := segOf bytes
    let late := match (c.fe n).lastClosed with
      | some t => decide (sdiff32 trig t ≤ 0)
      | none => false
    if late then c.inc (F.feLateCntCount n)
    else match (c.fe n).exp.findIdx? fun l => l.trig == trig with
    | some k =>
      let c := c.feCloseN n k
      match (c.fe n).exp with
      | [] => c
      | l :: ls =>
        if l.segs.any (·.overlaps seg) then c.inc (F.feDupCntCount n)
        else
          let c := c.modFe n fun s => { s with exp := { l with segs := l.segs ++ [seg] } :: ls }
          if l.covered + seg.px.length = c.lineNpix n l.bank then c.feClose n else c
    | none => c.inc (F.feUnexpCntCount n)

/-! ### Correction (R127 to R136) -/

/-- Dark and flat correction of one normalized sample (R129). -/
def flatCorrect (entry : Word) (s14 : Nat) : Nat :=
  min (((s14 - getBits entry 2 14) * getBits entry 16 16 + 2048) / 4096) 65535

/-- One raw pixel of a line, none where no segment covers it. -/
def rawPixel (segs : List Seg) (x : Nat) : Option (List Nat) :=
  match segs with
  | [] => none
  | g :: gs => if g.x ≤ x ∧ x < g.x + g.px.length then g.px[x - g.x]? else rawPixel gs x

/-- The column x' nearest below x within 2, or nearest above, that satisfies `good` (R132). -/
def nearLeft (good : Nat → Bool) (x : Nat) : Option Nat :=
  if 1 ≤ x ∧ good (x - 1) then some (x - 1) else if 2 ≤ x ∧ good (x - 2) then some (x - 2) else none

def nearRight (good : Nat → Bool) (npix x : Nat) : Option Nat :=
  if x + 1 < npix ∧ good (x + 1) then some (x + 1) else if x + 2 < npix ∧ good (x + 2) then some (x + 2) else none

/-- Defective-pixel replacement of sample (x, j): the value and whether the pixel is left without data (R132). -/
def replaceDefect (good : Nat → Bool) (val : Nat → Nat) (npix x : Nat) : Nat × Bool :=
  match nearLeft good x, nearRight good npix x with
  | some l, some r => ((val l + val r + 1) / 2, false)
  | some l, none => (val l, false)
  | none, some r => (val r, false)
  | none, none => (0, true)

/-- M[i][j] of the colour matrix (R134, R143). -/
def Chip.feMat (c : Chip) (bank n i j : Nat) : Int :=
  if j % 2 = 0 then c.fs (F.feMatMLo bank n (2 * i + j / 2)) else c.fs (F.feMatMHi bank n (2 * i + j / 2))

def Chip.feOfs (c : Chip) (bank n i : Nat) : Int :=
  match i with
  | 0 => c.fs (F.feOfs0Ofs0 bank n)
  | 1 => c.fs (F.feOfs0Ofs1 bank n)
  | 2 => c.fs (F.feOfs1Ofs2 bank n)
  | _ => c.fs (F.feOfs1Ofs3 bank n)

/-- Clamping to the unsigned 16-bit range of calibrated linear space (R133, R134). -/
def clamp16 (i : Int) : Nat := (max 0 (min i 65535)).toNat

/-- One output channel of the colour matrix (R134). -/
def Chip.feMatOut (c : Chip) (bank n i : Nat) (fs : List Nat) : Nat :=
  if c.f (F.feChmapCh bank n i) = 0 then 0
  else
    let acc := ((List.range 4).map fun j => c.feMat bank n i j * (fs.getD j 0 : Int)).sum
    clamp16 ((acc + 2048).fdiv 4096 + c.feOfs bank n i)

/-- A corrected line at head columns, before crop and bin: steps 2 to 5 of R119, with the counts of the entries read
(corrected, uncorrectable) and of saturated samples. -/
def Chip.feCorrect (c : Chip) (n : Nat) (l : ExpLine) : List Px × Nat × Nat × Nat :=
  let bank := l.bank
  let s := c.fe n
  let npix := c.lineNpix n bank
  let nch := c.f (F.feJcfgNch bank n) + 1
  let bits := sizeBits (c.f (F.feJcfgSize bank n))
  let fillZero := c.fb (F.feJcfgMissFill bank n)
  let raws := (List.range npix).map (rawPixel l.segs)
  let entry := fun x j => s.tblUse bank (4 * x + j)
  let good := fun j x => (raws.getD x none).isSome && !bitAt (entry x j).1 1
  let val := fun j x => flatCorrect (entry x j).1 (((raws.getD x none).getD []).getD j 0 * 2 ^ (14 - bits))
  let pixel := fun x (r : Option (List Nat)) =>
    match r with
    | none =>
      if fillZero then (⟨0, 0, 0, 0, true⟩ : Px) else { (s.prev.getD x ⟨0, 0, 0, 0, true⟩) with nd := true }
    | some _ =>
      let fs := (List.range nch).map fun j =>
        if bitAt (entry x j).1 1 then replaceDefect (good j) (val j) npix x else (val j x, false)
      let vs := fs.map (·.1)
      ⟨c.feMatOut bank n 0 vs, c.feMatOut bank n 1 vs, c.feMatOut bank n 2 vs, c.feMatOut bank n 3 vs,
       fs.any (·.2)⟩
  let px := (List.range npix).zipWith pixel raws
  let seen := ((List.range npix).zip raws).filter fun p => p.2.isSome
  let reads := seen.flatMap fun p => (List.range nch).map fun j => (entry p.1 j).2
  let sat := (seen.map fun p => ((p.2.getD []).filter (· == 2 ^ bits - 1)).length).sum
  (px, (reads.map (·.1)).sum, (reads.map (·.2)).sum, sat)

/-- A group of `bin` pixels averaged, the no-data mark carried if any pixel has it (R135). -/
def binPixels (bin : Nat) (g : List Px) : Px :=
  let avg := fun (h : Px → Nat) => ((g.map h).sum + bin / 2) / bin
  ⟨avg (·.s0), avg (·.s1), avg (·.s2), avg (·.s3), g.any (·.nd)⟩

def binLine (bin : Nat) : Nat → List Px → List Px
  | 0, _ => []
  | k + 1, l => binPixels bin (l.take bin) :: binLine bin k (l.drop bin)

/-- BIN of a front end: 1, 2 or 4 (R143). -/
def Chip.feBin (c : Chip) (bank n : Nat) : Nat := 2 ^ c.f (F.feBinTmoBin bank n)

/-- No line of the old bank is left to hand over (R139). -/
def FeS.uses (s : FeS) (bank : Nat) : Bool :=
  s.exp.any (·.bank == bank) || s.closed.any fun l => l.line.bank == bank

/-- The last old-bank line has been handed over: OLD_BUSY clears (R139). -/
def Chip.feRelease (c : Chip) (n : Nat) : Chip :=
  if c.fb (F.feStatOldBusy n) && !(c.fe n).uses (1 - c.actBank) then c.setF (F.feStatOldBusy n) 0 else c

/-- A closed line still waits for an older one to close: lines leave in TRIG_ID order (R125). -/
def FeS.waits (s : FeS) (l : ClosedLine) : Bool := s.exp.any fun e => decide (sdiff32 e.trig l.line.trig < 0)

/-- Hand-over of the oldest closed line to the stitcher (R137). -/
def Chip.feHandover (c : Chip) (n : Nat) : Chip :=
  match (c.fe n).closed with
  | [] => c
  | l :: rest =>
    if (c.fe n).waits l then c
    else
    let bank := l.line.bank
    let (px, corr, unc, sat) := c.feCorrect n l.line
    let crop := (px.drop (c.f (F.feCropStart bank n))).take (c.f (F.feCropLen bank n))
    let bin := c.feBin bank n
    let out := binLine bin (crop.length / bin) crop
    let nd := (out.filter (·.nd)).length
    let c := c.modFe n fun s => { s with closed := rest, prev := px }
    let c := (((c.add (F.feEccCorrCount n) corr).add (F.feEccUncCount n) unc).add (F.feSatCntCount n) sat).add (F.feNdpxCntCount n) nd
    let c := (List.range unc).foldl (fun c _ => c.report 0x10 n) c
    let c := (c.inc (F.feLineOutCount n)).feRelease n
    { c with stc := { c.stc with
        lines := c.stc.lines ++ [⟨n, l.line.trig, l.lineNo, bank, l.missing, l.partial_, nd,
          c.f (F.feCropStart bank n), c.f (F.feCropLen bank n), bin, out⟩] } }

/-- The configuration checks of an FE at arming (R142): CAP bytes 20-21 NPIX_MAX, 22 CH_MAX, 23 BITS_MASK. -/
def Chip.feArmOk (c : Chip) (bank n : Nat) : Bool :=
  !c.fb (F.feJcfgPortEn bank n) ||
  (let npix := c.lineNpix n bank
   let cap5 := c.rd (R.cap n 5)
   let len := c.f (F.feCropLen bank n)
   decide (c.f (F.feCropStart bank n) + len ≤ npix) && len % c.feBin bank n == 0
     && decide (npix ≤ getBits cap5 16 16) && decide (c.f (F.feJcfgNch bank n) + 1 ≤ getBits cap5 8 8)
     && bitAt cap5 (c.f (F.feJcfgSize bank n))
     && (List.range 4).any fun i => c.f (F.feChmapCh bank n i) != 0)

end Sys2Proof.Machine
end

