-- ==== Sys2Proof/Machine/CmtOut.lean ====
section
/-! DEFINITION. CmtOut.lean: the press outputs and strobes (12_comet_press.md, R332 to R337). -/

namespace Sys2Proof.Machine

def Chip.modCmt (c : Chip) (g : CmtS → CmtS) : Chip := { c with cmt := g c.cmt }

def Chip.encPos (c : Chip) (e : Nat) : Int := (c.cmt.pos[e]?).getD 0

/-- The web encoder of the active bank (R321). -/
def Chip.webEnc (c : Chip) : Nat := c.f (F.cmtTcfgEncSel c.actBank)

def Chip.webPos (c : Chip) : Int := c.encPos c.webEnc

/-- The signed 64-bit comparison a ≥ b of R311. -/
def ge64 (a b : Int) : Bool := decide (0 ≤ toSigned 64 (ofSigned 64 (a - b)))

def Chip.outS (c : Chip) (k : Nat) : OutS := (c.cmt.outs[k]?).getD ⟨[], []⟩

def Chip.modOut (c : Chip) (k : Nat) (g : OutS → OutS) : Chip := c.modCmt fun m => { m with outs := m.outs.modify k g }

def Chip.outMode (c : Chip) (k : Nat) : Nat := c.f (F.cmtOutCfgMode k)

/-- The position of the encoder an output's windows use. -/
def Chip.outPos (c : Chip) (k : Nat) : Int := c.encPos (c.f (F.cmtOutCfgEnc k))

/-- Where along its own scale an output stands: Orbit time in ns or position. -/
def Chip.outNow (c : Chip) (k : Nat) (time : Bool) : Int := if time then (c.nowNs : Int) else c.outPos k

/-- Outputs are forced low while the device is withdrawn or its clocks are not safe (R337, R400, R448). -/
def Chip.outsForced (c : Chip) : Bool := c.fb F.fcStatWithdrawn || c.fb F.clkStatSafe

/-- A window is open: ON reached, OFF not reached (R333). -/
def Chip.winHigh (c : Chip) (k : Nat) (w : OutWin) : Bool :=
  ge64 (c.outNow k w.time) w.on && !ge64 (c.outNow k w.time) w.off

/-- The level of an output (R332, R333, R335, R336). -/
def Chip.outLevel (c : Chip) (k : Nat) : Bool :=
  let o := c.outS k
  !c.outsForced && match c.outMode k with
    | 1 | 2 | 4 => o.wins.any (c.winHigh k)
    | 3 => c.running && o.strobes.any (c.winHigh k)
    | _ => false

/-- Windows whose OFF is reached are retired, and every output takes its level (R333). -/
def Chip.outsUpdate (c : Chip) : Chip :=
  let c := c.each (List.range 24) fun c k => c.modOut k fun o =>
    { wins := o.wins.filter fun w => !ge64 (c.outNow k w.time) w.off
      strobes := o.strobes.filter fun w => !ge64 (c.outNow k w.time) w.off }
  c.setF F.cmtStatOut (((List.range 24).map fun k => if c.outLevel k then 2 ^ k else 0).sum)

/-- Two windows of one scale overlap or touch (R333). -/
def OutWin.joins (v w : OutWin) : Bool := v.time == w.time && ge64 v.off w.on && ge64 w.off v.on

def OutWin.span (v w : OutWin) : OutWin :=
  ⟨v.time, if ge64 v.on w.on then w.on else v.on, if ge64 v.off w.off then v.off else w.off⟩

/-- Adding a window to those of an output, with the merges it makes. -/
def addWin (l : List OutWin) (w : OutWin) : List OutWin × Nat :=
  let hit := l.filter (OutWin.joins w)
  let rest := l.filter fun v => !OutWin.joins w v
  (rest ++ [hit.foldl OutWin.span w], hit.length)

/-- A 65th window merges into the pending one of its scale whose OFF lies furthest, and the window that makes with those it then
overlaps (R333); a host pulse on a scale that none of the 64 has is dropped (log entry 42). -/
def limitWins (l : List OutWin) : List OutWin × Nat :=
  if l.length ≤ 64 then (l, 0)
  else
    match l.getLast? with
    | none => (l, 0)
    | some w =>
      let old := l.dropLast
      match old.filter fun v => v.time == w.time with
      | [] => (old, 0)
      | v :: vs =>
        let far := vs.foldl (fun b x => if ge64 x.off b.off && x.off != b.off then x else b) v
        let (l, n) := addWin (old.erase far) (far.span w)
        (l, n + 1)

/-- A window joins the pending windows of an output (R333). -/
def Chip.addWindow (c : Chip) (k : Nat) (w : OutWin) : Chip :=
  let (l, n) := addWin (c.outS k).wins w
  let (l, m) := limitWins l
  ((c.modOut k fun o => { o with wins := l }).add F.cmtPoMergeCount (n + m)).outsUpdate

/-- The window of a defect record on one output, late or missed (R333, R334). -/
def Chip.recordWindow (c : Chip) (k : Nat) (enc0 enc1 : Int) : Chip :=
  let dist : Int := c.f (F.cmtOutDistDist k)
  let w : OutWin := ⟨false, enc0 + dist - c.f (F.cmtOutWinPre k), enc1 + dist + c.f (F.cmtOutWinPost k)⟩
  let pos := c.outPos k
  if ge64 pos w.off then ((c.inc F.cmtPoMissCount).ev F.cmtEvtPoMiss).report 0x51 k
  else
    let c := if ge64 pos w.on && pos != w.on then (c.inc F.cmtPoLateCount).ev F.cmtEvtPoLate else c
    c.addWindow k w

/-- A defect record reaches Comet (R217, R333, R337). -/
def Chip.cometRecord (c : Chip) (reject mark : Bool) (enc0 enc1 : Int) : Chip :=
  if c.fb F.fcStatWithdrawn then c
  else c.each (List.range 24) fun c k =>
    let m := c.outMode k
    if (m == 1 && reject) || (m == 2 && mark) then c.recordWindow k enc0 enc1 else c

/-- The strobes of an issued trigger (R335); those of a time with the outputs forced safe are kept too (R400). -/
def Chip.strobeTrigger (c : Chip) (tx : Nat) : Chip :=
  (c.each (List.range 24) fun c k =>
    if c.outMode k = 3 ∧ !c.fb F.fcStatWithdrawn then
      let w : OutWin := ⟨true, (tx : Int) - 4 * c.f (F.cmtOutWinPre k), (tx : Int) + 4 * c.f (F.cmtOutWinPost k)⟩
      c.modOut k fun o => { o with strobes := (addWin o.strobes w).1 }
    else c).outsUpdate

/-- A host pulse enters the pending windows of its output (R336, R337). -/
def Chip.hostPulse (c : Chip) (v : Word) : Chip :=
  if c.fb F.fcStatWithdrawn then c
  else
    let t := toSigned 64 (c.f F.cmtHostThiTgt * 2 ^ 32 + c.f F.cmtHostTloTgt)
    let len := getBits v 0 20
    if bitAt v 29 then c.addWindow (getBits v 24 5) ⟨false, t, t + len⟩
    else c.addWindow (getBits v 24 5) ⟨true, t, t + len * 1000⟩

/-- HOST_PULSE_TIME_EDGE: an output of MODE 4 whose window in Orbit time starts or ends takes its level (R336). -/
def Chip.pulseEdge (c : Chip) (k : Nat) : Chip := if (c.outS k).wins.any (·.time) then c.outsUpdate else c

/-- STROBE_EDGE: a strobe of the output starts or ends (R335). -/
def Chip.strobeEdge (c : Chip) (k : Nat) : Chip := if (c.outS k).strobes.isEmpty then c else c.outsUpdate

/-- A Withdraw reaction forces every output low and discards every pending window (R337). -/
def Chip.outsWithdraw (c : Chip) : Chip :=
  (c.each (List.range 24) fun c k => c.modOut k fun _ => ⟨[], []⟩).outsUpdate

/-- A write of CMT_OUTk_CFG that changes MODE or ENC discards the pending windows (R332). -/
def Chip.outCfgWritten (c : Chip) (k : Nat) (old v : Word) : Chip :=
  (if getBits old 28 4 ≠ getBits v 28 4 then c.modOut k fun _ => ⟨[], []⟩ else c).outsUpdate

/-! ### The arming check of R334 -/

def Chip.pitch16 (c : Chip) (b : Nat) : Nat := c.f (F.cmtPitchInt b) * 65536 + c.f (F.cmtPitchFrac b)

def Chip.fmax (c : Chip) (b : Nat) : Nat := c.f (F.cmtFmaxFmax b)

/-- T_min in ns (R323). -/
def Chip.tMin (c : Chip) (b : Nat) : Nat := ceilDiv 1000000000 (max 1 (c.fmax b))

/-- N_lat of a bank (R334). -/
def Chip.nLat (c : Chip) (b : Nat) : Nat :=
  let use := (List.range 8).filter fun n => c.fb (F.stcHGeomUse b n)
  let lofs := (use.map fun n => c.f (F.stcHGeomLofs b n)).foldl max 0
  let ports := (List.range 8).filter fun n => c.fb (F.feJcfgPortEn b n)
  let tmo := (ports.map fun n => c.f (F.feBinTmoLineTmo b n)).foldl max 0
  16 + lofs + ceilDiv (c.fmax b * (tmo + 1504)) 1000000

/-- DIST - PRE ≥ ⌈PITCH × N_lat⌉ for an output of the given registers in REJECT or MARK mode (R334). -/
def Chip.outReach (c : Chip) (b : Nat) (cfg dist win : Word) : Bool :=
  let m := getBits cfg 29 3
  !(m == 1 || m == 2) ||
    decide ((ceilDiv (c.pitch16 b * c.nLat b) 65536 : Int) ≤ (dist.toNat : Int) - getBits win 16 16)

def Chip.outsReach (c : Chip) (b : Nat) : Bool :=
  (List.range 24).all fun k => c.outReach b (c.rd (R.cmtOutCfg k)) (c.rd (R.cmtOutDist k)) (c.rd (R.cmtOutWin k))

end Sys2Proof.Machine
end

