-- ==== Sys2Proof/Machine/Eq.lean ====
section
/-! DEFINITION. Eq.lean: the event queues (15_checks_queues.md, R383 to R390, R392). -/

namespace Sys2Proof.Machine

def Chip.eq (c : Chip) (n : Nat) : EqS := (c.eqs[n]?).getD EqS.reset

def Chip.modEq (c : Chip) (n : Nat) (g : EqS → EqS) : Chip := { c with eqs := c.eqs.modify n g }

/-- The owner tag of a source (R384, R439). -/
def srcTag : Src → Nat
  | .scp .ul _ => 0x10
  | .scp .spi _ => 0x11
  | .dma ch => 0x20 + ch
  | .boot => 0xFF

/-- The address of byte `off` of the packet at read word `i` of a queue; the ring wraps (R383). -/
def eqAddr (n i off : Nat) : Nat := 0x1500000 + n * 0x40000 + (32 * i + off) % 0x40000

/-- Bytes of a packet written from byte offset `off` on. -/
def Chip.eqPut (c : Chip) (n i off : Nat) (bs : List Byte) : Chip :=
  c.each bs.zipIdx fun c p => c.memPut (eqAddr n i (off + p.2)) [p.1]

/-- Read words of a packet with `len` payload bytes (R384). -/
def eqWords (len : Nat) : Nat := ceilDiv (8 + len) 32

def Chip.eqOccupied (c : Chip) (n : Nat) : Nat := (c.eq n).pkts.sum

/-- The pointers, the count and RSEQ shown (R383, R389). -/
def Chip.eqShow (c : Chip) (n : Nat) : Chip :=
  let q := c.eq n
  (c.setF (F.eqStatCount n) q.pkts.length).setF (F.eqRseqQseq n) ((q.qseq + 2 ^ 32 - q.pkts.length) % 2 ^ 32)

/-- The oldest packet leaves: RPTR advances by its NW. -/
def Chip.eqAdvance (c : Chip) (n : Nat) : Chip :=
  match (c.eq n).pkts with
  | [] => c
  | k :: rest =>
    ((c.modEq n fun q => { q with pkts := rest }).setF (F.eqRptrIndex n) ((c.f (F.eqRptrIndex n) + k) % 8192)).eqShow n

def Chip.eqLoss (c : Chip) (n : Nat) : Chip := (c.inc (F.eqLostCount n)).ev (F.eqEvtLost n)

/-- Dropping oldest packets until an open packet of `nw` read words fits into the 8,191 (R383, R388). -/
def Chip.eqMakeRoom (c : Chip) (n nw : Nat) : Nat → Chip
  | 0 => c
  | k + 1 => if 8191 < c.eqOccupied n + nw then ((c.eqAdvance n).eqLoss n).eqMakeRoom n nw k else c

/-- Opening: the first read word at WPTR is reserved, its header with CLOSED = 0; the header's other bits are not stated
and are a free value (R385). -/
def Chip.eqOpen (c : Chip) (n tag : Nat) : Chip :=
  let c := c.eqMakeRoom n 1 (c.eq n).pkts.length
  let (k, c) := c.fresh 7
  let c := c.eqPut n (c.f (F.eqWptrIndex n)) 0 (natBytesLE 4 (k % 2 ^ 31))
  (c.modEq n fun q => { q with data := [] }).setF (F.eqStatOwner n) tag

/-- Payload bytes of the open packet (R387, R388). -/
def Chip.eqData (c : Chip) (n : Nat) (bs : List Byte) : Chip :=
  let len := (c.eq n).data.length
  let c := c.eqMakeRoom n (eqWords (len + bs.length)) (c.eq n).pkts.length
  (c.eqPut n (c.f (F.eqWptrIndex n)) (8 + len) bs).modEq n fun q => { q with data := q.data ++ bs }

/-- Closing: the dropped bytes and the rest of the last read word are 0, then QSEQ, then the header word, then WPTR advances
(R384, R385, R387, R390). -/
def Chip.eqClose (c : Chip) (n dropB : Nat) : Chip :=
  let q := c.eq n
  let tag := c.f (F.eqStatOwner n)
  let len := q.data.length - dropB
  let nw := eqWords len
  let vb := 8 + len - 32 * (nw - 1)
  let w := c.f (F.eqWptrIndex n)
  let c := c.eqPut n w (8 + len) (List.replicate (max (32 * nw - 8 - len) dropB) 0#8)
  let c := c.eqPut n w 4 (natBytesLE 4 q.qseq)
  let c := c.eqPut n w 0 (natBytesLE 4 (2 ^ 31 + vb * 2 ^ 25 + nw * 2 ^ 12 + tag))
  let c := c.modEq n fun q => { q with pkts := q.pkts ++ [nw], qseq := (q.qseq + 1) % 2 ^ 32, data := [] }
  let c := ((c.setF (F.eqWptrIndex n) ((w + nw) % 8192)).setF (F.eqStatOwner n) 0).eqShow n
  if q.pkts.length + 1 = c.f (F.eqCfgThr n) then c.ev (F.eqEvtData n) else c

def Chip.eqAbort (c : Chip) (n : Nat) : Chip := (c.modEq n fun q => { q with data := [] }).setF (F.eqStatOwner n) 0

/-- A queue is hardware-owned (R386). -/
def Chip.eqHardware (c : Chip) (n : Nat) : Bool :=
  let names := fun b => c.fb (F.csCfgEqEn b) && c.f (F.csCfgEqSel b) == n
  names c.actBank || (c.fb F.csStatOldBusy && names (1 - c.actBank))

/-- The colour stage writes a record as one packet, or loses it to the queue (R386). -/
def Chip.eqRecord (c : Chip) (n : Nat) (bs : List Byte) : Chip :=
  if c.f (F.eqStatOwner n) ≠ 0 ∨ !c.fb (F.eqCfgEn n) then c.eqLoss n
  else ((c.eqOpen n 1).eqData n bs).eqClose n 0

/-- A record of a band goes to the queue its colour stage bank names (R217, R386). -/
def Chip.eqFor (c : Chip) (b : Nat) (bs : List Byte) : Chip :=
  if c.fb (F.csCfgEqEn b) then c.eqRecord (c.f (F.csCfgEqSel b)) bs else c

/-- Isolation of a DMA channel acts as ABORT on the ports it holds (R387). -/
def Chip.eqIsolate (c : Chip) (ch : Nat) : Chip :=
  c.each (List.range 4) fun c n => if c.f (F.eqStatOwner n) = 0x20 + ch then c.eqAbort n else c

/-- The rejecting rules of a write at offset `off` of queue `n` (R387, R389, R392). -/
def Chip.eqChecks (c : Chip) (src : Src) (n off : Nat) (v : Word) : List Nat :=
  let owner := c.f (F.eqStatOwner n)
  let mine := owner == srcTag src
  let q := c.eq n
  match off with
  | 0x00 => rej (!bitAt v 31 && owner != 0) 0x04
  | 0x14 => rej q.pkts.isEmpty 0x04 ++ rej (!q.pkts.isEmpty && v.toNat != c.f (F.eqRseqQseq n)) 0x07
  | 0x18 =>
    match getBits v 30 2 with
    | 1 => rej (!c.fb (F.eqCfgEn n) || c.eqHardware n || mine) 0x04 ++ rej (owner != 0 && !mine) 0x05
    | 2 => rej (mine && decide (q.data.length < getBits v 0 2)) 0x03 ++ rej (!mine) 0x04
    | 3 => rej (!mine) 0x04
    | _ => [0x03]
  | 0x1C => rej (mine && decide (2040 < q.data.length + 4)) 0x03 ++ rej (!mine) 0x04
  | _ => []

def Chip.eqWritten (c : Chip) (src : Src) (n off : Nat) (v : Word) : Chip :=
  match off with
  | 0x14 => c.eqAdvance n
  | 0x18 =>
    match getBits v 30 2 with
    | 1 => c.eqOpen n (srcTag src)
    | 2 => c.eqClose n (getBits v 0 2)
    | _ => c.eqAbort n
  | 0x1C => c.eqData n (wordBytesLE v)
  | _ => c

end Sys2Proof.Machine
end

