-- ==== Sys2Proof/Machine/ColourRom.lean ====
section
/-! DEFINITION. ColourRom.lean: the colour ROM tables, computed from the formulas of R206 (07_colour_defects.md). -/

namespace Sys2Proof.Machine

def romFt0 : List Int := [4520, 4786, 5051, 5317, 5583, 5849, 6115, 6380, 6646, 6909, 7156, 7387, 7605, 7810, 8006,
  8192, 8370, 8541, 8705, 8864, 9016, 9164, 9308, 9446, 9581, 9713, 9841, 9965, 10087, 10205, 10321, 10435, 10546,
  10654, 10761, 10865, 10968, 11069, 11167, 11265, 11360, 11454, 11546, 11637, 11727, 11815, 11902, 11987, 12072,
  12155, 12237, 12318, 12398, 12477, 12555, 12632, 12708, 12784, 12858, 12931, 13004, 13076, 13147, 13217]
def romFt1 : List Int := [13287, 13356, 13424, 13491, 13558, 13624, 13690, 13755, 13819, 13882, 13946, 14008, 14070,
  14132, 14192, 14253, 14313, 14372, 14431, 14489, 14547, 14605, 14662, 14719, 14775, 14831, 14886, 14941, 14995,
  15049, 15103, 15157, 15210, 15262, 15314, 15366, 15418, 15469, 15520, 15571, 15621, 15671, 15720, 15770, 15819,
  15867, 15916, 15964, 16012, 16059, 16106, 16153, 16200, 16246, 16292, 16338, 16384, 16429, 16475, 16519, 16564,
  16608, 16653, 16697]
def romFt2 : List Int := [16740, 16784, 16827, 16870, 16913, 16955, 16998, 17040, 17082, 17124, 17165, 17207, 17248,
  17289, 17330, 17370, 17411, 17451, 17491, 17531, 17570, 17610, 17649, 17688, 17727, 17766, 17805, 17843, 17881,
  17920, 17957, 17995, 18033, 18070, 18108, 18145, 18182, 18219, 18256, 18292, 18329, 18365, 18401, 18437, 18473,
  18509, 18544, 18580, 18615, 18650, 18685, 18720, 18755, 18790, 18824, 18859, 18893, 18927, 18961, 18995, 19029,
  19063, 19096, 19130]
def romFt3 : List Int := [19163, 19196, 19229, 19262, 19295, 19328, 19360, 19393, 19425, 19458, 19490, 19522, 19554,
  19586, 19618, 19649, 19681, 19712, 19744, 19775, 19806, 19837, 19868, 19899, 19930, 19961, 19991, 20022, 20052,
  20083, 20113, 20143, 20173, 20203, 20233, 20263, 20293, 20322, 20352, 20381, 20411, 20440, 20469, 20498, 20527,
  20556, 20585, 20614, 20643, 20671, 20700, 20728, 20757, 20785, 20813, 20841, 20869, 20897, 20925, 20953, 20981,
  21009, 21036, 21064]
def romFt4 : List Int := [21091, 21119, 21146, 21174, 21201, 21228, 21255, 21282, 21309, 21336, 21363, 21389, 21416,
  21443, 21469, 21496, 21522, 21548, 21575, 21601, 21627, 21653, 21679, 21705, 21731, 21757, 21783, 21808, 21834,
  21860, 21885, 21911, 21936, 21961, 21987, 22012, 22037, 22062, 22087, 22112, 22137, 22162, 22187, 22212, 22237,
  22261, 22286, 22310, 22335, 22359, 22384, 22408, 22432, 22457, 22481, 22505, 22529, 22553, 22577, 22601, 22625,
  22649, 22673, 22696]
def romFt5 : List Int := [22720, 22744, 22767, 22791, 22814, 22838, 22861, 22885, 22908, 22931, 22954, 22977, 23001,
  23024, 23047, 23070, 23093, 23115, 23138, 23161, 23184, 23207, 23229, 23252, 23274, 23297, 23319, 23342, 23364,
  23387, 23409, 23431, 23453, 23476, 23498, 23520, 23542, 23564, 23586, 23608, 23630, 23652, 23673, 23695, 23717,
  23739, 23760, 23782, 23804, 23825, 23847, 23868, 23890, 23911, 23932, 23954, 23975, 23996, 24017, 24038, 24060,
  24081, 24102, 24123]
def romFt6 : List Int := [24144, 24165, 24186, 24206, 24227, 24248, 24269, 24289, 24310, 24331, 24351, 24372, 24393,
  24413, 24434, 24454, 24474, 24495, 24515, 24535, 24556, 24576, 24596, 24616, 24637, 24657, 24677, 24697, 24717,
  24737, 24757, 24777, 24797, 24816, 24836, 24856, 24876, 24895, 24915, 24935, 24954, 24974, 24994, 25013, 25033,
  25052, 25072, 25091, 25110, 25130, 25149, 25168, 25188, 25207, 25226, 25245, 25264, 25284, 25303, 25322, 25341,
  25360, 25379, 25398]
def romFt7 : List Int := [25417, 25436, 25454, 25473, 25492, 25511, 25530, 25548, 25567, 25586, 25604, 25623, 25642,
  25660, 25679, 25697, 25716, 25734, 25753, 25771, 25789, 25808, 25826, 25844, 25863, 25881, 25899, 25917, 25936,
  25954, 25972, 25990, 26008, 26026, 26044, 26062, 26080, 26098, 26116, 26134, 26152, 26170, 26187, 26205, 26223,
  26241, 26258, 26276, 26294, 26311, 26329, 26347, 26364, 26382, 26399, 26417, 26434, 26452, 26469, 26487, 26504,
  26522, 26539, 26556]
def romFt8 : List Int := [26574, 26591, 26608, 26625, 26643, 26660, 26677, 26694, 26711, 26728, 26745, 26763, 26780,
  26797, 26814, 26831, 26848, 26864, 26881, 26898, 26915, 26932, 26949, 26966, 26982, 26999, 27016, 27033, 27049,
  27066, 27083, 27099, 27116, 27133, 27149, 27166, 27182, 27199, 27215, 27232, 27248, 27265, 27281, 27298, 27314,
  27330, 27347, 27363, 27379, 27396, 27412, 27428, 27444, 27461, 27477, 27493, 27509, 27525, 27541, 27557, 27573,
  27590, 27606, 27622]
def romFt9 : List Int := [27638, 27654, 27670, 27686, 27701, 27717, 27733, 27749, 27765, 27781, 27797, 27812, 27828,
  27844, 27860, 27875, 27891, 27907, 27923, 27938, 27954, 27969, 27985, 28001, 28016, 28032, 28047, 28063, 28078,
  28094, 28109, 28125, 28140, 28156, 28171, 28186, 28202, 28217, 28232, 28248, 28263, 28278, 28294, 28309, 28324,
  28339, 28355, 28370, 28385, 28400, 28415, 28430, 28445, 28461, 28476, 28491, 28506, 28521, 28536, 28551, 28566,
  28581, 28596, 28611]
def romFt10 : List Int := [28625, 28640, 28655, 28670, 28685, 28700, 28715, 28729, 28744, 28759, 28774, 28789, 28803,
  28818, 28833, 28847, 28862, 28877, 28891, 28906, 28921, 28935, 28950, 28964, 28979, 28993, 29008, 29022, 29037,
  29051, 29066, 29080, 29095, 29109, 29124, 29138, 29152, 29167, 29181, 29196, 29210, 29224, 29238, 29253, 29267,
  29281, 29295, 29310, 29324, 29338, 29352, 29367, 29381, 29395, 29409, 29423, 29437, 29451, 29465, 29479, 29493,
  29507, 29522, 29536]
def romFt11 : List Int := [29550, 29564, 29577, 29591, 29605, 29619, 29633, 29647, 29661, 29675, 29689, 29703, 29716,
  29730, 29744, 29758, 29772, 29785, 29799, 29813, 29827, 29840, 29854, 29868, 29882, 29895, 29909, 29923, 29936,
  29950, 29963, 29977, 29991, 30004, 30018, 30031, 30045, 30058, 30072, 30085, 30099, 30112, 30126, 30139, 30153,
  30166, 30180, 30193, 30206, 30220, 30233, 30247, 30260, 30273, 30287, 30300, 30313, 30326, 30340, 30353, 30366,
  30379, 30393, 30406]
def romFt12 : List Int := [30419, 30432, 30445, 30459, 30472, 30485, 30498, 30511, 30524, 30537, 30551, 30564, 30577,
  30590, 30603, 30616, 30629, 30642, 30655, 30668, 30681, 30694, 30707, 30720, 30733, 30746, 30759, 30771, 30784,
  30797, 30810, 30823, 30836, 30849, 30862, 30874, 30887, 30900, 30913, 30926, 30938, 30951, 30964, 30977, 30989,
  31002, 31015, 31027, 31040, 31053, 31065, 31078, 31091, 31103, 31116, 31129, 31141, 31154, 31166, 31179, 31192,
  31204, 31217, 31229]
def romFt13 : List Int := [31242, 31254, 31267, 31279, 31292, 31304, 31317, 31329, 31341, 31354, 31366, 31379, 31391,
  31404, 31416, 31428, 31441, 31453, 31465, 31478, 31490, 31502, 31515, 31527, 31539, 31551, 31564, 31576, 31588,
  31600, 31613, 31625, 31637, 31649, 31662, 31674, 31686, 31698, 31710, 31722, 31735, 31747, 31759, 31771, 31783,
  31795, 31807, 31819, 31831, 31843, 31855, 31867, 31879, 31891, 31903, 31915, 31927, 31939, 31951, 31963, 31975,
  31987, 31999, 32011]
def romFt14 : List Int := [32023, 32035, 32047, 32059, 32071, 32082, 32094, 32106, 32118, 32130, 32142, 32154, 32165,
  32177, 32189, 32201, 32213, 32224, 32236, 32248, 32260, 32271, 32283, 32295, 32306, 32318, 32330, 32341, 32353,
  32365, 32376, 32388, 32400, 32411, 32423, 32435, 32446, 32458, 32469, 32481, 32493, 32504, 32516, 32527, 32539,
  32550, 32562, 32573, 32585, 32596, 32608, 32619, 32631, 32642, 32654, 32665, 32677, 32688, 32700, 32711, 32722,
  32734, 32745, 32757]
def romFt15 : List Int := [32768, 32779, 32791, 32802, 32813, 32825, 32836, 32847, 32859, 32870, 32881, 32893, 32904,
  32915, 32927, 32938, 32949, 32960, 32972, 32983, 32994, 33005, 33016, 33028, 33039, 33050, 33061, 33072, 33084,
  33095, 33106, 33117, 33128, 33139, 33150, 33161, 33173, 33184, 33195, 33206, 33217, 33228, 33239, 33250, 33261,
  33272, 33283, 33294, 33305, 33316, 33327, 33338, 33349, 33360, 33371, 33382, 33393, 33404, 33415, 33426, 33437,
  33448, 33459, 33470]
def romFt16 : List Int := [33481]

/-- Table FT (R206). -/
def romFt : List Int :=
  romFt0 ++ romFt1 ++ romFt2 ++ romFt3 ++ romFt4 ++ romFt5 ++ romFt6 ++ romFt7
    ++ romFt8 ++ romFt9 ++ romFt10 ++ romFt11 ++ romFt12 ++ romFt13 ++ romFt14 ++ romFt15
    ++ romFt16

def romAtan0 : List Int := [0, 10, 20, 31, 41, 51, 61, 71, 81, 92, 102, 112, 122, 132, 143, 153, 163, 173, 183, 194,
  204, 214, 224, 234, 244, 255, 265, 275, 285, 295, 305, 316, 326, 336, 346, 356, 367, 377, 387, 397, 407, 417, 428,
  438, 448, 458, 468, 478, 489, 499, 509, 519, 529, 539, 550, 560, 570, 580, 590, 600, 610, 621, 631, 641]
def romAtan1 : List Int := [651, 661, 671, 681, 692, 702, 712, 722, 732, 742, 752, 763, 773, 783, 793, 803, 813, 823,
  833, 844, 854, 864, 874, 884, 894, 904, 914, 924, 935, 945, 955, 965, 975, 985, 995, 1005, 1015, 1025, 1036, 1046,
  1056, 1066, 1076, 1086, 1096, 1106, 1116, 1126, 1136, 1146, 1156, 1166, 1177, 1187, 1197, 1207, 1217, 1227, 1237,
  1247, 1257, 1267, 1277, 1287]
def romAtan2 : List Int := [1297, 1307, 1317, 1327, 1337, 1347, 1357, 1367, 1377, 1387, 1397, 1407, 1417, 1427, 1437,
  1447, 1457, 1467, 1477, 1487, 1497, 1507, 1517, 1527, 1537, 1547, 1557, 1567, 1577, 1587, 1597, 1607, 1617, 1627,
  1637, 1646, 1656, 1666, 1676, 1686, 1696, 1706, 1716, 1726, 1736, 1746, 1756, 1765, 1775, 1785, 1795, 1805, 1815,
  1825, 1835, 1845, 1854, 1864, 1874, 1884, 1894, 1904, 1914, 1923]
def romAtan3 : List Int := [1933, 1943, 1953, 1963, 1973, 1982, 1992, 2002, 2012, 2022, 2031, 2041, 2051, 2061, 2071,
  2080, 2090, 2100, 2110, 2120, 2129, 2139, 2149, 2159, 2168, 2178, 2188, 2198, 2207, 2217, 2227, 2237, 2246, 2256,
  2266, 2275, 2285, 2295, 2305, 2314, 2324, 2334, 2343, 2353, 2363, 2372, 2382, 2392, 2401, 2411, 2421, 2430, 2440,
  2450, 2459, 2469, 2478, 2488, 2498, 2507, 2517, 2526, 2536, 2546]
def romAtan4 : List Int := [2555, 2565, 2574, 2584, 2594, 2603, 2613, 2622, 2632, 2641, 2651, 2660, 2670, 2679, 2689,
  2699, 2708, 2718, 2727, 2737, 2746, 2756, 2765, 2775, 2784, 2793, 2803, 2812, 2822, 2831, 2841, 2850, 2860, 2869,
  2879, 2888, 2897, 2907, 2916, 2926, 2935, 2944, 2954, 2963, 2973, 2982, 2991, 3001, 3010, 3019, 3029, 3038, 3047,
  3057, 3066, 3075, 3085, 3094, 3103, 3113, 3122, 3131, 3141, 3150]
def romAtan5 : List Int := [3159, 3168, 3178, 3187, 3196, 3206, 3215, 3224, 3233, 3243, 3252, 3261, 3270, 3279, 3289,
  3298, 3307, 3316, 3325, 3335, 3344, 3353, 3362, 3371, 3380, 3390, 3399, 3408, 3417, 3426, 3435, 3444, 3453, 3463,
  3472, 3481, 3490, 3499, 3508, 3517, 3526, 3535, 3544, 3553, 3562, 3571, 3580, 3589, 3599, 3608, 3617, 3626, 3635,
  3644, 3653, 3662, 3670, 3679, 3688, 3697, 3706, 3715, 3724, 3733]
def romAtan6 : List Int := [3742, 3751, 3760, 3769, 3778, 3787, 3796, 3804, 3813, 3822, 3831, 3840, 3849, 3858, 3867,
  3875, 3884, 3893, 3902, 3911, 3920, 3928, 3937, 3946, 3955, 3964, 3972, 3981, 3990, 3999, 4007, 4016, 4025, 4034,
  4042, 4051, 4060, 4069, 4077, 4086, 4095, 4103, 4112, 4121, 4129, 4138, 4147, 4155, 4164, 4173, 4181, 4190, 4199,
  4207, 4216, 4224, 4233, 4242, 4250, 4259, 4267, 4276, 4284, 4293]
def romAtan7 : List Int := [4302, 4310, 4319, 4327, 4336, 4344, 4353, 4361, 4370, 4378, 4387, 4395, 4404, 4412, 4421,
  4429, 4438, 4446, 4454, 4463, 4471, 4480, 4488, 4497, 4505, 4513, 4522, 4530, 4539, 4547, 4555, 4564, 4572, 4580,
  4589, 4597, 4605, 4614, 4622, 4630, 4639, 4647, 4655, 4663, 4672, 4680, 4688, 4697, 4705, 4713, 4721, 4730, 4738,
  4746, 4754, 4762, 4771, 4779, 4787, 4795, 4803, 4812, 4820, 4828]
def romAtan8 : List Int := [4836, 4844, 4852, 4860, 4869, 4877, 4885, 4893, 4901, 4909, 4917, 4925, 4933, 4941, 4949,
  4958, 4966, 4974, 4982, 4990, 4998, 5006, 5014, 5022, 5030, 5038, 5046, 5054, 5062, 5070, 5078, 5086, 5094, 5101,
  5109, 5117, 5125, 5133, 5141, 5149, 5157, 5165, 5173, 5181, 5188, 5196, 5204, 5212, 5220, 5228, 5235, 5243, 5251,
  5259, 5267, 5275, 5282, 5290, 5298, 5306, 5313, 5321, 5329, 5337]
def romAtan9 : List Int := [5344, 5352, 5360, 5368, 5375, 5383, 5391, 5398, 5406, 5414, 5421, 5429, 5437, 5444, 5452,
  5460, 5467, 5475, 5483, 5490, 5498, 5505, 5513, 5521, 5528, 5536, 5543, 5551, 5559, 5566, 5574, 5581, 5589, 5596,
  5604, 5611, 5619, 5626, 5634, 5641, 5649, 5656, 5664, 5671, 5679, 5686, 5694, 5701, 5708, 5716, 5723, 5731, 5738,
  5745, 5753, 5760, 5768, 5775, 5782, 5790, 5797, 5804, 5812, 5819]
def romAtan10 : List Int := [5826, 5834, 5841, 5848, 5856, 5863, 5870, 5878, 5885, 5892, 5899, 5907, 5914, 5921, 5928,
  5936, 5943, 5950, 5957, 5964, 5972, 5979, 5986, 5993, 6000, 6008, 6015, 6022, 6029, 6036, 6043, 6050, 6058, 6065,
  6072, 6079, 6086, 6093, 6100, 6107, 6114, 6121, 6128, 6135, 6142, 6150, 6157, 6164, 6171, 6178, 6185, 6192, 6199,
  6206, 6213, 6220, 6227, 6234, 6240, 6247, 6254, 6261, 6268, 6275]
def romAtan11 : List Int := [6282, 6289, 6296, 6303, 6310, 6317, 6323, 6330, 6337, 6344, 6351, 6358, 6365, 6371, 6378,
  6385, 6392, 6399, 6406, 6412, 6419, 6426, 6433, 6440, 6446, 6453, 6460, 6467, 6473, 6480, 6487, 6493, 6500, 6507,
  6514, 6520, 6527, 6534, 6540, 6547, 6554, 6560, 6567, 6574, 6580, 6587, 6594, 6600, 6607, 6613, 6620, 6627, 6633,
  6640, 6646, 6653, 6660, 6666, 6673, 6679, 6686, 6692, 6699, 6705]
def romAtan12 : List Int := [6712, 6718, 6725, 6731, 6738, 6744, 6751, 6757, 6764, 6770, 6777, 6783, 6790, 6796, 6803,
  6809, 6815, 6822, 6828, 6835, 6841, 6848, 6854, 6860, 6867, 6873, 6879, 6886, 6892, 6898, 6905, 6911, 6917, 6924,
  6930, 6936, 6943, 6949, 6955, 6962, 6968, 6974, 6980, 6987, 6993, 6999, 7005, 7012, 7018, 7024, 7030, 7037, 7043,
  7049, 7055, 7061, 7068, 7074, 7080, 7086, 7092, 7098, 7105, 7111]
def romAtan13 : List Int := [7117, 7123, 7129, 7135, 7141, 7147, 7154, 7160, 7166, 7172, 7178, 7184, 7190, 7196, 7202,
  7208, 7214, 7220, 7226, 7232, 7238, 7244, 7250, 7256, 7262, 7268, 7274, 7280, 7286, 7292, 7298, 7304, 7310, 7316,
  7322, 7328, 7334, 7340, 7346, 7352, 7358, 7363, 7369, 7375, 7381, 7387, 7393, 7399, 7405, 7411, 7416, 7422, 7428,
  7434, 7440, 7446, 7451, 7457, 7463, 7469, 7475, 7480, 7486, 7492]
def romAtan14 : List Int := [7498, 7503, 7509, 7515, 7521, 7526, 7532, 7538, 7544, 7549, 7555, 7561, 7566, 7572, 7578,
  7584, 7589, 7595, 7601, 7606, 7612, 7618, 7623, 7629, 7635, 7640, 7646, 7651, 7657, 7663, 7668, 7674, 7679, 7685,
  7691, 7696, 7702, 7707, 7713, 7718, 7724, 7730, 7735, 7741, 7746, 7752, 7757, 7763, 7768, 7774, 7779, 7785, 7790,
  7796, 7801, 7807, 7812, 7818, 7823, 7828, 7834, 7839, 7845, 7850]
def romAtan15 : List Int := [7856, 7861, 7866, 7872, 7877, 7883, 7888, 7893, 7899, 7904, 7910, 7915, 7920, 7926, 7931,
  7936, 7942, 7947, 7952, 7958, 7963, 7968, 7974, 7979, 7984, 7990, 7995, 8000, 8005, 8011, 8016, 8021, 8026, 8032,
  8037, 8042, 8047, 8053, 8058, 8063, 8068, 8074, 8079, 8084, 8089, 8094, 8100, 8105, 8110, 8115, 8120, 8125, 8131,
  8136, 8141, 8146, 8151, 8156, 8161, 8166, 8172, 8177, 8182, 8187]
def romAtan16 : List Int := [8192]

/-- Table ATAN (R206). -/
def romAtan : List Int :=
  romAtan0 ++ romAtan1 ++ romAtan2 ++ romAtan3 ++ romAtan4 ++ romAtan5 ++ romAtan6 ++ romAtan7
    ++ romAtan8 ++ romAtan9 ++ romAtan10 ++ romAtan11 ++ romAtan12 ++ romAtan13 ++ romAtan14 ++ romAtan15
    ++ romAtan16

def romCos0 : List Int := [16384, 16384, 16383, 16381, 16379, 16376, 16373, 16369, 16364, 16359, 16353, 16347, 16340,
  16332, 16324, 16315, 16305, 16295, 16284, 16273, 16261, 16248, 16235, 16221, 16207, 16192, 16176, 16160, 16143,
  16125, 16107, 16088, 16069, 16049, 16029, 16008, 15986, 15964, 15941, 15917, 15893, 15868, 15843, 15817, 15791,
  15763, 15736, 15707, 15679, 15649, 15619, 15588, 15557, 15525, 15493, 15460, 15426, 15392, 15357, 15322, 15286,
  15250, 15213, 15175]
def romCos1 : List Int := [15137, 15098, 15059, 15019, 14978, 14937, 14896, 14854, 14811, 14768, 14724, 14680, 14635,
  14589, 14543, 14497, 14449, 14402, 14354, 14305, 14256, 14206, 14155, 14104, 14053, 14001, 13949, 13896, 13842,
  13788, 13733, 13678, 13623, 13567, 13510, 13453, 13395, 13337, 13279, 13219, 13160, 13100, 13039, 12978, 12916,
  12854, 12792, 12729, 12665, 12601, 12537, 12472, 12406, 12340, 12274, 12207, 12140, 12072, 12004, 11935, 11866,
  11797, 11727, 11656]
def romCos2 : List Int := [11585, 11514, 11442, 11370, 11297, 11224, 11151, 11077, 11003, 10928, 10853, 10778, 10702,
  10625, 10549, 10471, 10394, 10316, 10238, 10159, 10080, 10001, 9921, 9841, 9760, 9679, 9598, 9516, 9434, 9352, 9269,
  9186, 9102, 9019, 8935, 8850, 8765, 8680, 8595, 8509, 8423, 8337, 8250, 8163, 8076, 7988, 7900, 7812, 7723, 7635,
  7545, 7456, 7366, 7276, 7186, 7096, 7005, 6914, 6823, 6731, 6639, 6547, 6455, 6363]
def romCos3 : List Int := [6270, 6177, 6084, 5990, 5897, 5803, 5708, 5614, 5520, 5425, 5330, 5235, 5139, 5044, 4948,
  4852, 4756, 4660, 4563, 4467, 4370, 4273, 4176, 4078, 3981, 3883, 3786, 3688, 3590, 3492, 3393, 3295, 3196, 3098,
  2999, 2900, 2801, 2702, 2603, 2503, 2404, 2305, 2205, 2105, 2006, 1906, 1806, 1706, 1606, 1506, 1406, 1306, 1205,
  1105, 1005, 904, 804, 704, 603, 503, 402, 302, 201, 101]
def romCos4 : List Int := [0, -101, -201, -302, -402, -503, -603, -704, -804, -904, -1005, -1105, -1205, -1306, -1406,
  -1506, -1606, -1706, -1806, -1906, -2006, -2105, -2205, -2305, -2404, -2503, -2603, -2702, -2801, -2900, -2999,
  -3098, -3196, -3295, -3393, -3492, -3590, -3688, -3786, -3883, -3981, -4078, -4176, -4273, -4370, -4467, -4563,
  -4660, -4756, -4852, -4948, -5044, -5139, -5235, -5330, -5425, -5520, -5614, -5708, -5803, -5897, -5990, -6084,
  -6177]
def romCos5 : List Int := [-6270, -6363, -6455, -6547, -6639, -6731, -6823, -6914, -7005, -7096, -7186, -7276, -7366,
  -7456, -7545, -7635, -7723, -7812, -7900, -7988, -8076, -8163, -8250, -8337, -8423, -8509, -8595, -8680, -8765,
  -8850, -8935, -9019, -9102, -9186, -9269, -9352, -9434, -9516, -9598, -9679, -9760, -9841, -9921, -10001, -10080,
  -10159, -10238, -10316, -10394, -10471, -10549, -10625, -10702, -10778, -10853, -10928, -11003, -11077, -11151,
  -11224, -11297, -11370, -11442, -11514]
def romCos6 : List Int := [-11585, -11656, -11727, -11797, -11866, -11935, -12004, -12072, -12140, -12207, -12274,
  -12340, -12406, -12472, -12537, -12601, -12665, -12729, -12792, -12854, -12916, -12978, -13039, -13100, -13160,
  -13219, -13279, -13337, -13395, -13453, -13510, -13567, -13623, -13678, -13733, -13788, -13842, -13896, -13949,
  -14001, -14053, -14104, -14155, -14206, -14256, -14305, -14354, -14402, -14449, -14497, -14543, -14589, -14635,
  -14680, -14724, -14768, -14811, -14854, -14896, -14937, -14978, -15019, -15059, -15098]
def romCos7 : List Int := [-15137, -15175, -15213, -15250, -15286, -15322, -15357, -15392, -15426, -15460, -15493,
  -15525, -15557, -15588, -15619, -15649, -15679, -15707, -15736, -15763, -15791, -15817, -15843, -15868, -15893,
  -15917, -15941, -15964, -15986, -16008, -16029, -16049, -16069, -16088, -16107, -16125, -16143, -16160, -16176,
  -16192, -16207, -16221, -16235, -16248, -16261, -16273, -16284, -16295, -16305, -16315, -16324, -16332, -16340,
  -16347, -16353, -16359, -16364, -16369, -16373, -16376, -16379, -16381, -16383, -16384]
def romCos8 : List Int := [-16384, -16384, -16383, -16381, -16379, -16376, -16373, -16369, -16364, -16359, -16353,
  -16347, -16340, -16332, -16324, -16315, -16305, -16295, -16284, -16273, -16261, -16248, -16235, -16221, -16207,
  -16192, -16176, -16160, -16143, -16125, -16107, -16088, -16069, -16049, -16029, -16008, -15986, -15964, -15941,
  -15917, -15893, -15868, -15843, -15817, -15791, -15763, -15736, -15707, -15679, -15649, -15619, -15588, -15557,
  -15525, -15493, -15460, -15426, -15392, -15357, -15322, -15286, -15250, -15213, -15175]
def romCos9 : List Int := [-15137, -15098, -15059, -15019, -14978, -14937, -14896, -14854, -14811, -14768, -14724,
  -14680, -14635, -14589, -14543, -14497, -14449, -14402, -14354, -14305, -14256, -14206, -14155, -14104, -14053,
  -14001, -13949, -13896, -13842, -13788, -13733, -13678, -13623, -13567, -13510, -13453, -13395, -13337, -13279,
  -13219, -13160, -13100, -13039, -12978, -12916, -12854, -12792, -12729, -12665, -12601, -12537, -12472, -12406,
  -12340, -12274, -12207, -12140, -12072, -12004, -11935, -11866, -11797, -11727, -11656]
def romCos10 : List Int := [-11585, -11514, -11442, -11370, -11297, -11224, -11151, -11077, -11003, -10928, -10853,
  -10778, -10702, -10625, -10549, -10471, -10394, -10316, -10238, -10159, -10080, -10001, -9921, -9841, -9760, -9679,
  -9598, -9516, -9434, -9352, -9269, -9186, -9102, -9019, -8935, -8850, -8765, -8680, -8595, -8509, -8423, -8337,
  -8250, -8163, -8076, -7988, -7900, -7812, -7723, -7635, -7545, -7456, -7366, -7276, -7186, -7096, -7005, -6914,
  -6823, -6731, -6639, -6547, -6455, -6363]
def romCos11 : List Int := [-6270, -6177, -6084, -5990, -5897, -5803, -5708, -5614, -5520, -5425, -5330, -5235, -5139,
  -5044, -4948, -4852, -4756, -4660, -4563, -4467, -4370, -4273, -4176, -4078, -3981, -3883, -3786, -3688, -3590,
  -3492, -3393, -3295, -3196, -3098, -2999, -2900, -2801, -2702, -2603, -2503, -2404, -2305, -2205, -2105, -2006,
  -1906, -1806, -1706, -1606, -1506, -1406, -1306, -1205, -1105, -1005, -904, -804, -704, -603, -503, -402, -302,
  -201, -101]
def romCos12 : List Int := [0, 101, 201, 302, 402, 503, 603, 704, 804, 904, 1005, 1105, 1205, 1306, 1406, 1506, 1606,
  1706, 1806, 1906, 2006, 2105, 2205, 2305, 2404, 2503, 2603, 2702, 2801, 2900, 2999, 3098, 3196, 3295, 3393, 3492,
  3590, 3688, 3786, 3883, 3981, 4078, 4176, 4273, 4370, 4467, 4563, 4660, 4756, 4852, 4948, 5044, 5139, 5235, 5330,
  5425, 5520, 5614, 5708, 5803, 5897, 5990, 6084, 6177]
def romCos13 : List Int := [6270, 6363, 6455, 6547, 6639, 6731, 6823, 6914, 7005, 7096, 7186, 7276, 7366, 7456, 7545,
  7635, 7723, 7812, 7900, 7988, 8076, 8163, 8250, 8337, 8423, 8509, 8595, 8680, 8765, 8850, 8935, 9019, 9102, 9186,
  9269, 9352, 9434, 9516, 9598, 9679, 9760, 9841, 9921, 10001, 10080, 10159, 10238, 10316, 10394, 10471, 10549, 10625,
  10702, 10778, 10853, 10928, 11003, 11077, 11151, 11224, 11297, 11370, 11442, 11514]
def romCos14 : List Int := [11585, 11656, 11727, 11797, 11866, 11935, 12004, 12072, 12140, 12207, 12274, 12340, 12406,
  12472, 12537, 12601, 12665, 12729, 12792, 12854, 12916, 12978, 13039, 13100, 13160, 13219, 13279, 13337, 13395,
  13453, 13510, 13567, 13623, 13678, 13733, 13788, 13842, 13896, 13949, 14001, 14053, 14104, 14155, 14206, 14256,
  14305, 14354, 14402, 14449, 14497, 14543, 14589, 14635, 14680, 14724, 14768, 14811, 14854, 14896, 14937, 14978,
  15019, 15059, 15098]
def romCos15 : List Int := [15137, 15175, 15213, 15250, 15286, 15322, 15357, 15392, 15426, 15460, 15493, 15525, 15557,
  15588, 15619, 15649, 15679, 15707, 15736, 15763, 15791, 15817, 15843, 15868, 15893, 15917, 15941, 15964, 15986,
  16008, 16029, 16049, 16069, 16088, 16107, 16125, 16143, 16160, 16176, 16192, 16207, 16221, 16235, 16248, 16261,
  16273, 16284, 16295, 16305, 16315, 16324, 16332, 16340, 16347, 16353, 16359, 16364, 16369, 16373, 16376, 16379,
  16381, 16383, 16384]
def romCos16 : List Int := [16384]

/-- Table COS (R206). -/
def romCos : List Int :=
  romCos0 ++ romCos1 ++ romCos2 ++ romCos3 ++ romCos4 ++ romCos5 ++ romCos6 ++ romCos7
    ++ romCos8 ++ romCos9 ++ romCos10 ++ romCos11 ++ romCos12 ++ romCos13 ++ romCos14 ++ romCos15
    ++ romCos16

def romQt0 : List Int := [0, 0, 0, 0, 1, 2, 3, 6, 9, 14, 21, 29, 39, 52, 67, 86, 107, 133, 162, 196, 234, 278, 327,
  382, 444, 512, 587, 670, 761, 861, 969, 1087, 1215, 1353, 1502, 1662, 1834, 2018, 2216, 2426, 2651, 2889, 3143,
  3412, 3697, 3999, 4317, 4653, 5007, 5379, 5770, 6181, 6611, 7062, 7533, 8025, 8539, 9075, 9632, 10212, 10815, 11440,
  12087, 12758]
def romQt1 : List Int := [13451, 14167, 14906, 15666, 16449, 17253, 18077, 18923, 19787, 20671, 21572, 22490, 23423,
  24371, 25332, 26304, 27287, 28278, 29275, 30277, 31283, 32290, 33296, 34300, 35299, 36292, 37278, 38253, 39217,
  40168, 41104, 42024, 42927, 43811, 44675, 45519, 46341, 47141, 47917, 48671, 49401, 50107, 50788, 51446, 52080,
  52690, 53277, 53840, 54381, 54899, 55395, 55870, 56325, 56759, 57173, 57569, 57947, 58307, 58650, 58977, 59289,
  59585, 59867, 60136]
def romQt2 : List Int := [60391, 60634, 60865, 61085, 61294, 61492, 61681, 61860, 62031, 62193, 62347, 62493, 62632,
  62765, 62891, 63010, 63124, 63232, 63335, 63433, 63526, 63614, 63698, 63779, 63855, 63928, 63997, 64063, 64125,
  64185, 64242, 64297, 64348, 64398, 64445, 64490, 64533, 64573, 64612, 64650, 64685, 64719, 64752, 64783, 64812,
  64841, 64868, 64894, 64918, 64942, 64965, 64986, 65007, 65027, 65046, 65064, 65082, 65099, 65115, 65130, 65145,
  65159, 65172, 65185]
def romQt3 : List Int := [65198, 65210, 65221, 65232, 65243, 65253, 65263, 65272, 65281, 65290, 65299, 65307, 65314,
  65322, 65329, 65336, 65342, 65349, 65355, 65361, 65366, 65372, 65377, 65382, 65387, 65392, 65396, 65401, 65405,
  65409, 65413, 65417, 65421, 65424, 65427, 65431, 65434, 65437, 65440, 65443, 65446, 65448, 65451, 65453, 65456,
  65458, 65460, 65463, 65465, 65467, 65469, 65471, 65472, 65474, 65476, 65478, 65479, 65481, 65482, 65484, 65485,
  65487, 65488, 65489]
def romQt4 : List Int := [65491, 65492, 65493, 65494, 65495, 65496, 65497, 65498, 65499, 65500, 65501, 65502, 65503,
  65504, 65505, 65505, 65506, 65507, 65508, 65508, 65509, 65510, 65510, 65511, 65512, 65512, 65513, 65513, 65514,
  65515, 65515, 65516, 65516, 65517, 65517, 65517, 65518, 65518, 65519, 65519, 65520, 65520, 65520, 65521, 65521,
  65521, 65522, 65522, 65522, 65523, 65523, 65523, 65524, 65524, 65524, 65524, 65525, 65525, 65525, 65525, 65526,
  65526, 65526, 65526]
def romQt5 : List Int := [65526, 65527, 65527, 65527, 65527, 65527, 65528, 65528, 65528, 65528, 65528, 65528, 65529,
  65529, 65529, 65529, 65529, 65529, 65529, 65530, 65530, 65530, 65530, 65530, 65530, 65530, 65530, 65531, 65531,
  65531, 65531, 65531, 65531, 65531, 65531, 65531, 65531, 65532, 65532, 65532, 65532, 65532, 65532, 65532, 65532,
  65532, 65532, 65532, 65532, 65532, 65533, 65533, 65533, 65533, 65533, 65533, 65533, 65533, 65533, 65533, 65533,
  65533, 65533, 65533]
def romQt6 : List Int := [65533, 65533, 65533, 65533, 65534, 65534, 65534, 65534, 65534, 65534, 65534, 65534, 65534,
  65534, 65534, 65534, 65534, 65534, 65534, 65534, 65534, 65534, 65534, 65534, 65534, 65534, 65534, 65534, 65534,
  65534, 65534, 65534, 65534, 65535, 65535, 65535, 65535, 65535, 65535, 65535, 65535, 65535, 65535, 65535, 65535,
  65535, 65535, 65535, 65535, 65535, 65535, 65535, 65535, 65535, 65535, 65535, 65535, 65535, 65535, 65535, 65535,
  65535, 65535, 65535]
def romQt7 : List Int := [65535, 65535, 65535, 65535, 65535, 65535, 65535, 65535, 65535, 65535, 65535, 65535, 65535,
  65535, 65535, 65535, 65535, 65535, 65535, 65535, 65535, 65535, 65535, 65535, 65535, 65535, 65535, 65535, 65535,
  65535, 65535, 65535, 65535, 65535, 65535, 65535, 65535, 65535, 65535, 65535, 65536, 65536, 65536, 65536, 65536,
  65536, 65536, 65536, 65536, 65536, 65536, 65536, 65536, 65536, 65536, 65536, 65536, 65536, 65536, 65536, 65536,
  65536, 65536, 65536]
def romQt8 : List Int := [65536, 65536, 65536, 65536, 65536, 65536, 65536, 65536, 65536, 65536, 65536, 65536, 65536,
  65536, 65536, 65536, 65536, 65536, 65536, 65536, 65536, 65536, 65536, 65536, 65536, 65536, 65536, 65536, 65536,
  65536, 65536, 65536, 65536, 65536, 65536, 65536, 65536, 65536, 65536, 65536, 65536, 65536, 65536, 65536, 65536,
  65536, 65536, 65536, 65536, 65536, 65536, 65536, 65536, 65536, 65536, 65536, 65536, 65536, 65536, 65536, 65536,
  65536, 65536, 65536]
def romQt9 : List Int := [65536, 65536, 65536, 65536, 65536, 65536, 65536, 65536, 65536, 65536, 65536, 65536, 65536,
  65536, 65536, 65536, 65536, 65536, 65536, 65536, 65536, 65536, 65536, 65536, 65536, 65536, 65536, 65536, 65536,
  65536, 65536, 65536, 65536, 65536, 65536, 65536, 65536, 65536, 65536, 65536, 65536, 65536, 65536, 65536, 65536,
  65536, 65536, 65536, 65536, 65536, 65536, 65536, 65536, 65536, 65536, 65536, 65536, 65536, 65536, 65536, 65536,
  65536, 65536, 65536]
def romQt10 : List Int := [65536, 65536, 65536, 65536, 65536, 65536, 65536, 65536, 65536, 65536, 65536, 65536, 65536,
  65536, 65536, 65536, 65536, 65536, 65536, 65536, 65536, 65536, 65536, 65536, 65536, 65536, 65536, 65536, 65536,
  65536, 65536, 65536, 65536, 65536, 65536, 65536, 65536, 65536, 65536, 65536, 65536, 65536, 65536, 65536, 65536,
  65536, 65536, 65536, 65536, 65536, 65536, 65536, 65536, 65536, 65536, 65536, 65536, 65536, 65536, 65536, 65536,
  65536, 65536, 65536]
def romQt11 : List Int := [65536, 65536, 65536, 65536, 65536, 65536, 65536, 65536, 65536, 65536, 65536, 65536, 65536,
  65536, 65536, 65536, 65536, 65536, 65536, 65536, 65536, 65536, 65536, 65536, 65536, 65536, 65536, 65536, 65536,
  65536, 65536, 65536, 65536, 65536, 65536, 65536, 65536, 65536, 65536, 65536, 65536, 65536, 65536, 65536, 65536,
  65536, 65536, 65536, 65536, 65536, 65536, 65536, 65536, 65536, 65536, 65536, 65536, 65536, 65536, 65536, 65536,
  65536, 65536, 65536]
def romQt12 : List Int := [65536, 65536, 65536, 65536, 65536, 65536, 65536, 65536, 65536, 65536, 65536, 65536, 65536,
  65536, 65536, 65536, 65536, 65536, 65536, 65536, 65536, 65536, 65536, 65536, 65536, 65536, 65536, 65536, 65536,
  65536, 65536, 65536, 65536, 65536, 65536, 65536, 65536, 65536, 65536, 65536, 65536, 65536, 65536, 65536, 65536,
  65536, 65536, 65536, 65536, 65536, 65536, 65536, 65536, 65536, 65536, 65536, 65536, 65536, 65536, 65536, 65536,
  65536, 65536, 65536]
def romQt13 : List Int := [65536, 65536, 65536, 65536, 65536, 65536, 65536, 65536, 65536, 65536, 65536, 65536, 65536,
  65536, 65536, 65536, 65536, 65536, 65536, 65536, 65536, 65536, 65536, 65536, 65536, 65536, 65536, 65536, 65536,
  65536, 65536, 65536, 65536, 65536, 65536, 65536, 65536, 65536, 65536, 65536, 65536, 65536, 65536, 65536, 65536,
  65536, 65536, 65536, 65536, 65536, 65536, 65536, 65536, 65536, 65536, 65536, 65536, 65536, 65536, 65536, 65536,
  65536, 65536, 65536]
def romQt14 : List Int := [65536, 65536, 65536, 65536, 65536, 65536, 65536, 65536, 65536, 65536, 65536, 65536, 65536,
  65536, 65536, 65536, 65536, 65536, 65536, 65536, 65536, 65536, 65536, 65536, 65536, 65536, 65536, 65536, 65536,
  65536, 65536, 65536, 65536, 65536, 65536, 65536, 65536, 65536, 65536, 65536, 65536, 65536, 65536, 65536, 65536,
  65536, 65536, 65536, 65536, 65536, 65536, 65536, 65536, 65536, 65536, 65536, 65536, 65536, 65536, 65536, 65536,
  65536, 65536, 65536]
def romQt15 : List Int := [65536, 65536, 65536, 65536, 65536, 65536, 65536, 65536, 65536, 65536, 65536, 65536, 65536,
  65536, 65536, 65536, 65536, 65536, 65536, 65536, 65536, 65536, 65536, 65536, 65536, 65536, 65536, 65536, 65536,
  65536, 65536, 65536, 65536, 65536, 65536, 65536, 65536, 65536, 65536, 65536, 65536, 65536, 65536, 65536, 65536,
  65536, 65536, 65536, 65536, 65536, 65536, 65536, 65536, 65536, 65536, 65536, 65536, 65536, 65536, 65536, 65536,
  65536, 65536, 65536]

/-- Table QT (R206). -/
def romQt : List Int :=
  romQt0 ++ romQt1 ++ romQt2 ++ romQt3 ++ romQt4 ++ romQt5 ++ romQt6 ++ romQt7
    ++ romQt8 ++ romQt9 ++ romQt10 ++ romQt11 ++ romQt12 ++ romQt13 ++ romQt14 ++ romQt15

def romDt0 : List Int := [10923, 10921, 10914, 10903, 10888, 10869, 10845, 10817, 10785, 10749, 10709, 10664, 10616,
  10564, 10507, 10447, 10383, 10316, 10245, 10170, 10092, 10010, 9926, 9838, 9747, 9653, 9556, 9456, 9354, 9249, 9142,
  9032, 8920, 8806, 8691, 8573, 8453, 8332, 8209, 8085, 7960, 7834, 7706, 7578, 7448, 7318, 7188, 7057, 6926, 6794,
  6662, 6530, 6399, 6267, 6136, 6005, 5875, 5745, 5616, 5487, 5360, 5233, 5107, 4983]
def romDt1 : List Int := [4859, 4737, 4616, 4496, 4377, 4260, 4145, 4031, 3918, 3808, 3699, 3591, 3486, 3382, 3280,
  3179, 3081, 2984, 2890, 2797, 2706, 2617, 2530, 2445, 2362, 2281, 2201, 2124, 2048, 1975, 1903, 1833, 1765, 1699,
  1635, 1572, 1512, 1453, 1396, 1340, 1287, 1234, 1184, 1135, 1088, 1042, 998, 955, 914, 874, 836, 799, 763, 729, 696,
  664, 633, 604, 575, 548, 522, 497, 473, 450]
def romDt2 : List Int := [428, 407, 386, 367, 348, 330, 313, 297, 282, 267, 253, 239, 226, 214, 203, 191, 181, 171,
  161, 152, 144, 135, 128, 120, 113, 107, 100, 94, 89, 83, 78, 74, 69, 65, 61, 57, 54, 50, 47, 44, 41, 38, 36, 34, 31,
  29, 27, 26, 24, 22, 21, 19, 18, 17, 16, 15, 14, 13, 12, 11, 10, 9, 9, 8]
def romDt3 : List Int := [7, 7, 6, 6, 5, 5, 5, 4, 4, 4, 3, 3, 3, 3, 2, 2, 2, 2, 2, 2, 2, 1, 1, 1, 1, 1, 1, 1, 1, 1, 1,
  1, 1, 0, 0, 0, 0, 0, 0, 0, 0, 0, 0, 0, 0, 0, 0, 0, 0, 0, 0, 0, 0, 0, 0, 0, 0, 0, 0, 0, 0, 0, 0, 0]
def romDt4 : List Int := [0, 0, 0, 0, 0, 0, 0, 0, 0, 0, 0, 0, 0, 0, 0, 0, 0, 0, 0, 0, 0, 0, 0, 0, 0, 0, 0, 0, 0, 0, 0,
  0, 0, 0, 0, 0, 0, 0, 0, 0, 0, 0, 0, 0, 0, 0, 0, 0, 0, 0, 0, 0, 0, 0, 0, 0, 0, 0, 0, 0, 0, 0, 0, 0]
def romDt5 : List Int := [0, 0, 0, 0, 0, 0, 0, 0, 0, 0, 0, 0, 0, 0, 0, 0, 0, 0, 0, 0, 0, 0, 0, 0, 0, 0, 0, 0, 0, 0, 0,
  0, 0, 0, 0, 0, 0, 0, 0, 0, 0, 0, 0, 0, 0, 0, 0, 0, 0, 0, 0, 0, 0, 0, 0, 0, 0, 0, 0, 0, 0, 0, 0, 0]
def romDt6 : List Int := [0, 0, 0, 0, 0, 0, 0, 0, 0, 0, 0, 0, 0, 0, 0, 0, 0, 0, 0, 0, 0, 0, 0, 0, 0, 0, 0, 0, 0, 0, 0,
  0, 0, 0, 0, 0, 0, 0, 0, 0, 0, 0, 0, 0, 0, 0, 0, 0, 0, 0, 0, 0, 0, 0, 0, 0, 0, 0, 0, 0, 0, 0, 0, 0]
def romDt7 : List Int := [0, 0, 0, 0, 0, 0, 0, 0, 0, 0, 0, 0, 0, 0, 0, 0, 0, 0, 0, 0, 0, 0, 0, 0, 0, 0, 0, 0, 0, 0, 0,
  0, 0, 0, 0, 0, 0, 0, 0, 0, 0, 0, 0, 0, 0, 0, 0, 0, 0, 0, 0, 0, 0, 0, 0, 0, 0, 0, 0, 0, 0, 0, 0, 0]

/-- Table DT (R206). -/
def romDt : List Int :=
  romDt0 ++ romDt1 ++ romDt2 ++ romDt3 ++ romDt4 ++ romDt5 ++ romDt6 ++ romDt7

end Sys2Proof.Machine
end

