-- ==== Sys2Proof/Machine/Stc.lean ====
section
/-! DEFINITION. Stc.lean: the stitcher (05_stitching.md, R144 to R159): web lines, no-data codes, geometry, blending,
bands. -/

namespace Sys2Proof.Machine

/-! ### Geometry (R149, R150) -/

/-- A pixel of no-data code `k`: its samples are 0 (R148). -/
def ndPx (k : Nat) : WPx := ⟨0, 0, 0, 0, k⟩

/-- A handed-over pixel; ND = 1 is NDC 1 (R150). -/
def Px.web (p : Px) : WPx := if p.nd then ndPx 1 else ⟨p.s0, p.s1, p.s2, p.s3, 0⟩

/-- Channelwise combination of two web pixels. -/
def WPx.zip (g : Nat → Nat → Nat) (p q : WPx) (ndc : Nat) : WPx :=
  ⟨g p.s0 q.s0, g p.s1 q.s1, g p.s2 q.s2, g p.s3 q.s3, ndc⟩

def WPx.chan (p : WPx) (j : Nat) : Nat :=
  match j with
  | 0 => p.s0
  | 1 => p.s1
  | 2 => p.s2
  | _ => p.s3

/-- The head position of web x on slot n, in units of 1/256 head pixel (R150). -/
def Chip.headPos (c : Chip) (b n x : Nat) : Int :=
  let g := c.f (F.stcHGeomSegLog2 b n)
  let d := x - c.f (F.stcHXsXs b n)
  let j := d / 2 ^ g
  let r := d % 2 ^ g
  let k0 := c.fs (F.stcHKK b n j)
  k0 + ((c.fs (F.stcHKK b n (j + 1)) - k0) * (r : Int) + ((2 ^ (g - 1) : Nat) : Int)) / ((2 ^ g : Nat) : Int)

/-- The contribution of slot n to web x from a handed-over line (R150); `b` is the web line's bank. -/
def Chip.contribution (c : Chip) (b : Nat) (l : StcLine) (x : Nat) : WPx :=
  let n := l.slot
  let u := (c.headPos b n x - 256 * (l.start : Int)) / (l.bin : Int)
  let k0 := u / 256
  let f := (u % 256).toNat
  let cnt := l.len / l.bin
  if u < 0 ∨ k0 > (cnt : Int) - 1 ∨ (k0 = (cnt : Int) - 1 ∧ f > 0) then ndPx 3
  else
    let p := ((l.px.map Px.web).getD k0.toNat (ndPx 3))
    if f = 0 then p
    else
      let q := ((l.px.map Px.web).getD (k0.toNat + 1) (ndPx 3))
      if p.ndc = 0 ∧ q.ndc = 0 then p.zip (fun s t => (s * (256 - f) + t * f + 128) / 256) q 0
      else ndPx (max p.ndc q.ndc)

/-! ### Blending (R151) -/

/-- The weight of the right slot in units of 1/256 (R151). -/
def blendWeight (b0 l x : Nat) : Nat :=
  if x < b0 then 0 else if x < b0 + 2 ^ l then (x - b0 + 1) * 256 / 2 ^ l else 256

/-- The web pixel of two overlapping contributions with right weight `wb` (R151). -/
def blend (a b : WPx) (wb : Nat) : WPx :=
  if a.ndc = 0 ∧ b.ndc = 0 then a.zip (fun s t => (s * (256 - wb) + t * wb + 128) / 256) b 0
  else if a.ndc = 0 then a
  else if b.ndc = 0 then b
  else if wb > 128 then ndPx b.ndc else ndPx a.ndc

/-! ### Web lines (R144 to R148, R156 to R158) -/

/-- The slots that take part in the geometry of a bank (R149). -/
def Chip.useSlots (c : Chip) (b : Nat) : List Nat := (List.range 8).filter fun n => c.fb (F.stcHGeomUse b n)

def Chip.lofs (c : Chip) (b n : Nat) : Nat := c.f (F.stcHGeomLofs b n)

def Chip.lofsMax (c : Chip) (b : Nat) : Nat := ((c.useSlots b).map (c.lofs b)).foldl max 0

/-- The head line of trigger `t` on slot `n`, or NDC 2 where no TRIG for it was handed to the port. -/
def Chip.slotLine (c : Chip) (n t : Nat) : Option (StcLine ⊕ Nat) :=
  match c.stc.lines.find? fun l => l.slot == n && l.trig == t with
  | some l => some (.inl l)
  | none =>
    match c.stc.webq.find? fun w => w.trig == t with
    | some w => if w.handed.contains n then none else some (.inr 2)
    | none => if c.fb F.jobStatRun then none else some (.inr 2)

/-- What a slot brings to web line `t` (R147): a handed-over line, a fixed no-data code, or nothing yet. -/
def Chip.slotBrings (c : Chip) (w : WebTrig) (n : Nat) : Option (StcLine ⊕ Nat) :=
  let t := (w.trig + c.lofs w.bank n) % 2 ^ 32
  match c.stc.lastUsed.getD n none with
  | some u => if sdiff32 t u ≤ 0 then some (.inr 1) else c.slotLine n t
  | none => c.slotLine n t

/-- The contributions of every slot that takes part, by slot number; none while the web line is not complete. -/
def Chip.webBrings (c : Chip) (w : WebTrig) : Option (List (Nat × (StcLine ⊕ Nat))) :=
  (c.useSlots w.bank).mapM fun n => (c.slotBrings w n).map fun x => (n, x)

/-- One web pixel from the contributions of the slots that cover it (R148, R151). -/
def Chip.webPixel (c : Chip) (b : Nat) (brings : List (Nat × (StcLine ⊕ Nat))) (x : Nat) : WPx :=
  let cover := brings.filter fun p => c.f (F.stcHXsXs b p.1) ≤ x && x ≤ c.f (F.stcHXeXe b p.1)
  let value := fun (p : Nat × (StcLine ⊕ Nat)) => match p.2 with
    | .inl l => c.contribution b l x
    | .inr k => ndPx k
  match cover with
  | [] => ndPx 3
  | [p] => value p
  | p :: q :: _ =>
    let (l, r) := if c.f (F.stcHXsXs b p.1) < c.f (F.stcHXsXs b q.1) then (p, q) else (q, p)
    blend (value l) (value r) (blendWeight (c.f (F.stcHBlendB0 b r.1)) (c.f (F.stcHBlendL b r.1)) x)

def Chip.stcWidth (c : Chip) (b : Nat) : Nat := c.f (F.stcWebWidth b)

def Chip.webRow (c : Chip) (b : Nat) (brings : List (Nat × (StcLine ⊕ Nat))) : List WPx :=
  (List.range (c.stcWidth b)).map (c.webPixel b brings)

/-- The lines of a slot older than trigger `t` still waiting: skipped and discarded (R157). -/
def skippedLines (lines : List StcLine) (n t : Nat) : Nat :=
  (lines.filter fun l => l.slot == n && decide (sdiff32 l.trig t < 0)).length

/-- Taking the head lines of one web line out of the stagger store (R157). -/
def Chip.takeLine (c : Chip) (n : Nat) (b : StcLine ⊕ Nat) : Chip :=
  match b with
  | .inr _ => c
  | .inl l =>
    let c := c.add F.stcSkipCntCount (skippedLines c.stc.lines n l.trig)
    { c with stc := { c.stc with
        lines := c.stc.lines.filter fun k => k.slot != n || decide (sdiff32 k.trig l.trig > 0)
        lastUsed := c.stc.lastUsed.set n (some l.trig) } }

/-- The stagger store demand of a bank in bytes (R146). -/
def Chip.storeDemand (c : Chip) (b : Nat) : Nat :=
  ((c.useSlots b).map fun n =>
    (c.lofsMax b - c.lofs b n) * (c.f (F.feCropLen b n) / c.feBin b n) * 8).sum

/-- The arming relations of R152 on the staged bank. -/
def Chip.stcArmOk (c : Chip) (b : Nat) : Bool :=
  let width := c.stcWidth b
  let xs := fun n => c.f (F.stcHXsXs b n)
  let xe := fun n => c.f (F.stcHXeXe b n)
  let us := c.useSlots b
  let ovl := fun p q => decide (p ≠ q) && decide (xs p ≤ xe q) && decide (xs q ≤ xe p)
  width % 16 == 0 && decide (16 ≤ width) && decide (width ≤ 131072)
  && us.all (fun n => decide (xs n ≤ xe n) && decide (xe n < width)
      && decide (xe n - xs n + 1 ≤ 32 * 2 ^ c.f (F.stcHGeomSegLog2 b n)))
  && us.all (fun p => us.all fun q => us.all fun r =>
      !(decide (p < q) && decide (q < r) && ovl p q && ovl q r && ovl p r
        && decide (max (max (xs p) (xs q)) (xs r) ≤ min (min (xe p) (xe q)) (xe r))))
  && us.all (fun p => us.all fun q => !(ovl p q) ||
      (decide (xs p ≠ xs q) && (!(decide (xs p < xs q)) ||
        (decide (xe p < xe q) && decide (xs q ≤ c.f (F.stcHBlendB0 b q))
          && decide (c.f (F.stcHBlendB0 b q) + 2 ^ c.f (F.stcHBlendL b q) ≤ xe p + 1)))))
  && us.any (fun n => c.lofs b n == 0)
  && decide (c.storeDemand b ≤ 4194304)
  && (List.range 8).all (fun n => !c.fb (F.feJcfgPortEn b n) || us.contains n)

/-! ### Bands (R153 to R155) -/

/-- The web pixels of a band with NDC other than 0 (R154). -/
def bandNd (rows : List (List WPx)) : Nat := (rows.map fun r => (r.filter fun p => p.ndc != 0).length).sum

/-- The band being assembled completes; its slot then holds it and it waits for the Shepherd (R153, R154). -/
def Chip.completeBand (c : Chip) (cut : Bool) : Chip :=
  let s := c.stc
  if s.rows.isEmpty then c
  else
    let n := s.rows.length
    let band : Band :=
      { bseq := s.bseq, ridx := s.ridx, ty := s.ty, nlines := n, first := s.first, bank := s.bank, short := decide (n < 16)
        norep := s.norep, bankmix := s.bankmix, ndCount := bandNd s.rows, rows := s.rows, metas := s.metas
        width := (s.rows.headD []).length, cut := cut }
    let c := { c with stc := { s with
      rows := [], metas := [], bseq := (s.bseq + 1) % 2 ^ 32, ty := s.ty + 1, bankmix := false
      slots := s.slots.set (s.bseq % 3) (some band), fresh := s.fresh ++ [band] } }
    let c := (c.inc F.stcBandCntCount).setF F.stcBseqBseq band.bseq
    let c := if band.short then c.inc F.stcShortCntCount else c
    let c := if band.norep then c.inc F.stcNorepCntCount else c
    c.add F.stcNdpxCntCount band.ndCount

/-- The last web line of the old bank has been emitted: OLD_BUSY clears (R156). -/
def Chip.stcRelease (c : Chip) : Chip :=
  if c.fb F.stcStatOldBusy && !c.stc.webq.any fun w => w.bank == 1 - c.actBank then c.setF F.stcStatOldBusy 0 else c

/-- Appending an emitted web line to its band (R144, R153). A mark ends the band in progress and starts a repeat. -/
def Chip.appendRow (c : Chip) (w : WebTrig) (row : List WPx) (mix : Bool) (m : LineMeta) : Chip :=
  let c := if w.mark ∨ w.norep != c.stc.norep ∨ w.bank != c.stc.bank then c.completeBand false else c
  let s := c.stc
  let s := if w.mark ∨ w.norep != s.norep then { s with ty := 0 } else s
  let s := if s.rows.isEmpty then
      { s with first := w.trig, bank := w.bank, ridx := w.ridx, norep := w.norep, began := true } else s
  let line := if w.norep then 0xFFFFFFFF else 16 * s.ty + s.rows.length
  let c := { c with stc := { s with
    rows := s.rows ++ [row], bankmix := s.bankmix || mix, metas := s.metas ++ [{ m with line := line }] } }
  let cut := c.stc.cutAt == some w.trig
  let c := if c.stc.rows.length = 16 || cut then c.completeBand cut else c
  if cut then { c with stc := { c.stc with cutAt := none } } else c

/-- The next web line, when it is complete, with its contributions (R147). -/
def Chip.nextWebLine (c : Chip) : Option (WebTrig × List (Nat × (StcLine ⊕ Nat))) :=
  match c.stc.webq with
  | [] => none
  | w :: _ => (c.webBrings w).map fun b => (w, b)

/-- Bits of the slots for which a property of the contributions holds. -/
def slotBits (brings : List (Nat × (StcLine ⊕ Nat))) (g : StcLine ⊕ Nat → Bool) : Nat :=
  (brings.map fun p => if g p.2 then 2 ^ p.1 else 0).sum

/-- The line metadata of a web line (R276). -/
def lineMeta (w : WebTrig) (brings : List (Nat × (StcLine ⊕ Nat))) (row : List WPx) (mix : Bool) : LineMeta :=
  { trig := w.trig, ridx := if w.norep then 0xFFFFFFFF else w.ridx, line := 0, mark := w.mark && !w.norep, norep := w.norep
    bankmix := mix
    miss := slotBits brings fun x => match x with | .inl l => l.missing | .inr _ => false
    part := slotBits brings fun x => match x with | .inl l => l.partial_ | .inr _ => false
    pout := slotBits brings fun x => match x with | .inl _ => false | .inr k => k == 2
    ndpx := (row.filter fun p => p.ndc != 0).length
    lno := (List.range 8).map fun n => match brings.find? fun p => p.1 == n with
      | some (_, .inl l) => if l.missing then 0 else l.lineNo % 65536
      | _ => 0 }

/-- Emitting a complete web line: stitched, blended and put into its band (R147 to R157). Lines past a lost fiducial
repeat are outside any repeat until a mark (R166). -/
def Chip.emitWebLine (c : Chip) (w : WebTrig) (brings : List (Nat × (StcLine ⊕ Nat))) : Chip × WebTrig × List WPx :=
  let lost := match c.stc.lostAt with
    | some t => !w.mark && decide (0 ≤ sdiff32 w.trig t)
    | none => false
  let c := if w.mark then { c with stc := { c.stc with lostAt := none } } else c
  let w := if lost then { w with norep := true } else w
  let row := c.webRow w.bank brings
  let mix := brings.any fun p => match p.2 with
    | .inl l => l.bank != w.bank
    | .inr _ => false
  let c := brings.foldl (fun c p => c.takeLine p.1 p.2) c
  let c := { c with stc := { c.stc with webq := c.stc.webq.drop 1 } }
  (((c.inc F.stcWlineCntCount).appendRow w row mix (lineMeta w brings row mix)).stcRelease, w, row)

end Sys2Proof.Machine
end

