-- ==== Sys2Proof/Machine/Ie.lean ====
section
/-! DEFINITION. Ie.lean: registration and comparison of one band slice (06_registration_compare.md, R160 to R191):
strips and regions, the displacement search, the field, the warp, tile rules, defect pixels and fragments. -/

namespace Sys2Proof.Machine

/-! ### Sorting by a key -/

/-- Inserting into a sorted list, behind equal keys. -/
def insertBy {α : Type} (lt : α → α → Bool) (x : α) : List α → List α
  | [] => [x]
  | y :: ys => if lt x y then x :: y :: ys else y :: insertBy lt x ys

/-- Insertion sort. -/
def sortBy {α : Type} (lt : α → α → Bool) (l : List α) : List α := l.foldl (fun acc x => insertBy lt x acc) []

/-- The least element of a list under a strict order, the earliest on a tie. -/
def leastBy {α : Type} (lt : α → α → Bool) : List α → Option α
  | [] => none
  | x :: xs => some (xs.foldl (fun b y => if lt y b then y else b) x)

/-! ### Strips and regions (R160, R161) -/

/-- The strips of a web line, each with its first x and its width (R160). -/
def strips (width : Nat) : List (Nat × Nat) :=
  let n := ceilDiv width 2048
  let n := if 1 < n ∧ width - 2048 * (n - 1) < 256 then n - 1 else n
  (List.range n).map fun s => (2048 * s, if s + 1 = n then width - 2048 * s else 2048)

/-- First x of the regions of a strip of width `ws` (R161). -/
def regionStarts (ws : Nat) : List Nat := (List.range (ceilDiv ws 256)).map fun r => min (256 * r) (ws - 256)

/-- Regions across the web (R178). -/
def regionCount (width : Nat) : Nat := ((strips width).map fun s => ceilDiv s.2 256).sum

/-- Number of the first region of strip `s` (R161). -/
def regionBase (width s : Nat) : Nat := (((strips width).take s).map fun p => ceilDiv p.2 256).sum

/-! ### The reference (R168, R169, R172) -/

def Chip.ieCref (c : Chip) (b : Nat) : Nat := c.f (F.ieJcfgCref b) + 1

/-- The decoded value of a reference code of a channel (R169). -/
def Chip.lut (c : Chip) (b ch code : Nat) : Nat :=
  let e := 256 * ch + code
  if e % 2 = 0 then c.f (F.ieLutELo b (e / 2)) else c.f (F.ieLutEHi b (e / 2))

def Chip.refH (c : Chip) (b : Nat) : Int := c.f (F.ieRefHRefH b)
def Chip.refW (c : Chip) (b : Nat) : Int := c.f (F.ieRefWRefW b)
def Chip.refX0 (c : Chip) (b : Nat) : Int := c.fs (F.ieRefX0X0 b)
def Chip.refL0 (c : Chip) (b : Nat) : Int := c.fs (F.ieRefL0L0 b)

def Chip.clampX (c : Chip) (b : Nat) (x : Int) : Int := min (max x 0) (c.refW b - 1)

/-- A reference line outside 0 to REF_H - 1 (R170). -/
def Chip.refOutside (c : Chip) (b : Nat) (y : Int) : Bool := decide (y < 0) || decide (c.refH b ≤ y)

/-- The decoded sample of a reference pixel (R168, R169). -/
def Chip.refSample (c : Chip) (b : Nat) (x y : Int) (ch : Nat) : Nat :=
  c.lut b ch (c.byte (c.f (F.ieRefBaseBase b) * 4096 + y.toNat * c.f (F.ieRefStrideStride b)
    + (c.clampX b x).toNat * c.ieCref b + ch)).toNat

def Chip.regWeight (c : Chip) (b ch : Nat) : Nat :=
  match ch with
  | 0 => c.f (F.ieRegwW0 b)
  | 1 => c.f (F.ieRegwW1 b)
  | 2 => c.f (F.ieRegwW2 b)
  | _ => c.f (F.ieRegwW3 b)

/-- The registration signal of a web pixel (R172). -/
def Chip.g8 (c : Chip) (b : Nat) (p : WPx) : Nat :=
  ((List.range 4).map fun ch => c.regWeight b ch * p.chan ch).sum / 256 / 256

/-- The registration signal of the reference; 0 on a line outside or marked bad (R174). -/
def Chip.g8ref (c : Chip) (b : Nat) (bad : List Int) (x y : Int) : Nat :=
  if c.refOutside b y || bad.contains y then 0
  else ((List.range (c.ieCref b)).map fun ch => c.regWeight b ch * c.refSample b x y ch).sum / 256 / 256

/-! ### The field store (R178) -/

def fieldAddr (c : Chip) (b width ty reg : Nat) : Nat :=
  c.f (F.ieFieldBaseBase b) * 4096 + 8 * (ty * regionCount width + reg)

/-- A field store entry: DX, DY, HOLD and STATE (R178). -/
def Chip.fieldGet (c : Chip) (b width ty reg : Nat) : Int × Int × Nat × Nat :=
  let a := fieldAddr c b width ty reg
  let w0 := c.memWord a
  let w1 := c.memWord (a + 4)
  (toSigned 16 (getBits w0 0 16), toSigned 16 (getBits w0 16 16), getBits w1 16 8, getBits w1 0 2)

def fieldBytes (r : Region) : List Byte :=
  natBytesLE 4 (ofSigned 16 r.dy * 65536 + ofSigned 16 r.dx) ++ natBytesLE 4 (r.hold * 65536 + r.state)

def Chip.fieldPut (c : Chip) (b width ty reg : Nat) (r : Region) : Chip :=
  c.memPut (fieldAddr c b width ty reg) (fieldBytes r)

/-- The store is cleared to state NONE (R178, R180). -/
def Chip.fieldClear (c : Chip) (b : Nat) : Chip :=
  let r := c.fieldRegion b
  { c with mem := sdrop r.1 (r.1 + r.2) c.mem, ecc := c.ecc.filter fun p => !meets (8 * p.1) 8 r.1 r.2 }

/-- The prediction of a region: the field of the previous repeat, when it has one (R173). -/
def Chip.prediction (c : Chip) (b width ty reg : Nat) : Option (Int × Int) :=
  let (dx, dy, _, st) := c.fieldGet b width ty reg
  if st = 0 then none else some (dx, dy)

/-- The integer prediction (R173). -/
def intPred (p : Option (Int × Int)) : Int × Int :=
  match p with
  | some (dx, dy) => ((dx + 8) / 16, (dy + 8) / 16)
  | none => (0, 0)

/-- The band centre offset P_c over all regions of a band (R173). -/
def Chip.bandCentre (c : Chip) (b width ty : Nat) : Int :=
  let pys := (List.range (regionCount width)).map fun r => (intPred (c.prediction b width ty r)).2
  (pys.foldl min (pys.headD 0) + pys.foldl max (pys.headD 0)) / 2

def clampTo (lo hi i : Int) : Int := max lo (min i hi)

/-- Regions of a band whose py is clamped to P_c - 4 to P_c + 4 (R173). -/
def Chip.clampedRegions (c : Chip) (b width ty : Nat) (pc : Int) : Nat :=
  ((List.range (regionCount width)).filter fun r =>
    let py := (intPred (c.prediction b width ty r)).2
    clampTo (pc - 4) (pc + 4) py != py).length

/-! ### Search and sub-pixel result (R174, R175) -/

/-- The order in which a tie of the search is resolved: S, |dx| + |dy|, dy, dx (R174). -/
def candLt (p q : Nat × Int × Int) : Bool :=
  let key := fun (r : Nat × Int × Int) => (r.2.1.natAbs + r.2.2.natAbs : Nat)
  decide (p.1 < q.1) || (p.1 == q.1 && (decide (key p < key q) || (key p == key q &&
    (decide (p.2.2 < q.2.2) || (p.2.2 == q.2.2 && decide (p.2.1 < q.2.1))))))

/-- The 465 integer displacements (R174). -/
def candidates : List (Int × Int) :=
  (List.range 15).flatMap fun (j : Nat) => (List.range 31).map fun (i : Nat) => ((i : Int) - 15, (j : Int) - 7)

def subPixel (sm s0 sp : Nat) : Int :=
  let den : Int := sm + sp - 2 * s0
  if den ≤ 0 then 0 else (16 * ((sm : Int) - sp) + den) / (2 * den)

/-- A raw result: RX, RY, CONF and whether it is valid (R175). -/
structure RawReg where
  rx    : Int
  ry    : Int
  conf  : Nat
  valid : Bool
  deriving DecidableEq, Repr

/-- RX and RY saturate at ±2,047.9375 (R192). -/
def satField (i : Int) : Int := max (-32767) (min i 32767)

/-- The search of one region that starts at web x `x0` (R174, R175); `g` is the band's registration signal, with none
for a pixel whose NDC is not 0, and `(px, py)` the clamped integer prediction. -/
def Chip.searchRegion (c : Chip) (b : Nat) (bad : List Int) (ty x0 : Nat) (g : Array (Array (Option Nat))) (px py : Int) :
    RawReg :=
  let n := g.size
  let cell := fun (i x : Nat) => ((g[i]?).bind fun r => r[x]?).getD none
  let pts := (List.range n).flatMap fun i => (List.range 256).filterMap fun j => (cell i (x0 + j)).map fun v => (i, x0 + j, v)
  let s := fun (dx dy : Int) => (pts.map fun p =>
    ((p.2.2 : Int) - c.g8ref b bad ((p.2.1 : Int) + c.refX0 b + px + dx)
      (16 * (ty : Int) + p.1 + c.refL0 b + py + dy)).natAbs).sum
  let all := candidates.map fun d => (s d.1 d.2, d.1, d.2)
  let best := (leastBy candLt all).getD (0, 0, 0)
  let bx := best.2.1
  let by_ := best.2.2
  let fx := subPixel (s (bx - 1) by_) best.1 (s (bx + 1) by_)
  let fy := subPixel (s bx (by_ - 1)) best.1 (s bx (by_ + 1))
  let mean := (all.map (·.1)).sum / 465
  let conf := min 255 (256 * (mean - best.1) / (mean + 1))
  { rx := satField (16 * (px + bx) + fx), ry := satField (16 * (py + by_) + fy), conf := conf
    valid := decide (bx.natAbs < 15) && decide (by_.natAbs < 7) && decide (c.f (F.ieRegConfMin b) ≤ conf)
      && decide (4 ≤ n) && decide (128 * n ≤ pts.length) }

/-! ### The displacement field (R176, R177, R179) -/

/-- Smoothing across the regions of a strip (R176). -/
def smooth (raws : List RawReg) (r : Nat) : Option (Int × Int) :=
  let terms := ([((-2 : Int), (1 : Int)), (-1, 2), (0, 4), (1, 2), (2, 1)]).filterMap fun jk =>
    let i := (r : Int) + jk.1
    if i < 0 then none
    else match raws[i.toNat]? with
      | some q => if q.valid then some (jk.2, q) else none
      | none => none
  let wsum := (terms.map (·.1)).sum
  if wsum ≤ 0 then none
  else some ((2 * (terms.map fun t => t.1 * t.2.rx).sum + wsum) / (2 * wsum),
    (2 * (terms.map fun t => t.1 * t.2.ry).sum + wsum) / (2 * wsum))

/-- The field value and state of a region (the table of R177). -/
def fieldOf (alpha holdMax : Nat) (sp p : Option (Int × Int)) (hold : Nat) (flat : Bool) (conf : Nat) : Region :=
  let mix := fun (o s : Int) => (o * (16 - alpha) + s * alpha + 8) / 16
  match sp, p with
  | some s, some o => ⟨mix o.1 s.1, mix o.2 s.2, conf, 1, 0⟩
  | some s, none => ⟨s.1, s.2, conf, 1, 0⟩
  | none, p =>
    if flat then ⟨(p.getD (0, 0)).1, (p.getD (0, 0)).2, conf, 3, hold⟩
    else match p with
      | some o => if hold < holdMax then ⟨o.1, o.2, conf, 2, hold + 1⟩ else ⟨0, 0, conf, 0, hold⟩
      | none => ⟨0, 0, conf, 0, hold⟩

def lerpField (d0 d1 : Int) (t s : Int) : Int := d0 + (2 * (d1 - d0) * t + s) / (2 * s)

/-- The displacement at strip-relative x (R179). -/
def fieldAt (ws : Nat) (regs : List Region) (x : Nat) : Int × Int :=
  let cs := (regionStarts ws).map (· + 128)
  let at_ := fun r => ((regs[r]?).map fun q => (q.dx, q.dy)).getD (0, 0)
  let n := cs.length
  if x ≤ cs.headD 0 then at_ 0
  else if cs.getD (n - 1) 0 ≤ x then at_ (n - 1)
  else
    let r := ((List.range n).filter fun r => cs.getD r 0 ≤ x).length - 1
    let s : Int := (cs.getD (r + 1) 0 : Int) - cs.getD r 0
    let t : Int := (x : Int) - cs.getD r 0
    (lerpField (at_ r).1 (at_ (r + 1)).1 t s, lerpField (at_ r).2 (at_ (r + 1)).2 t s)

/-! ### Tile rules (R183 to R185) -/

/-- A tile rule entry (R184), with whether it was read with an uncorrectable error and whether it is invalid. -/
structure Rule where
  cls     : Nat
  tmode   : Nat
  shift   : Nat
  minArea : Nat
  flags   : Nat
  thr     : List Nat
  lRef    : Nat
  mask    : Nat
  aRef    : Int
  bRef    : Int
  err     : Bool
  invalid : Bool
  deriving DecidableEq, Repr

def Chip.ruleAddr (c : Chip) (b tx ty : Nat) : Nat :=
  c.f (F.ieRuleBaseBase b) * 4096 + 16 * (ty * (c.f (F.stcWebWidth b) / 16) + tx)

/-- The rule entry of a tile; none for ty ≥ TY_N (R183). The FLAGS that an entry read with an uncorrectable error gives its
tile are free (R191; log entry 5). -/
def Chip.rule (c : Chip) (b tx ty : Nat) : Option Rule :=
  if c.f (F.ieRuleTyTyN b) ≤ ty then none
  else
    let a := c.ruleAddr b tx ty
    let w0 := c.memWord a
    let w1 := c.memWord (a + 4)
    let w2 := c.memWord (a + 8)
    let w3 := c.memWord (a + 12)
    let cls := getBits w0 26 6
    let err := (c.eccIn a 16).any (·.2)
    some
      { cls := cls, tmode := getBits w0 24 2, shift := getBits w0 20 4, minArea := getBits w0 12 8
        flags := 4 * (if err then Config.freeNat 16 a % 64 else getBits w0 2 6)
        thr := (List.range 4).map fun ch => getBits w1 (8 * ch) 8, lRef := getBits w2 16 16, mask := getBits w2 0 16
        aRef := toSigned 16 (getBits w3 0 16), bRef := toSigned 16 (getBits w3 16 16)
        err := err
        invalid := getBits w0 24 2 == 3 || decide (8 < getBits w0 20 4) || (cls != 0 && !c.fb (F.ieClassEn b (cls - 1))) }

/-- A region is flat when all 16 tiles it covers have FLAGS.FLAT = 1 (R177). -/
def Chip.regionFlat (c : Chip) (b x0 ty : Nat) : Bool :=
  (List.range 16).all fun i => match c.rule b (x0 / 16 + i) ty with
    | some r => !r.err && r.flags.testBit 2
    | none => false

/-! ### Warp and defect pixels (R182, R186) -/

/-- What one web pixel of a compared tile yields. -/
structure PxRes where
  masked  : Bool
  ndc     : Nat
  outside : Bool
  bad     : Bool
  cmp     : Bool
  defect  : Option DefPx
  colour  : Bool
  deriving DecidableEq, Repr

/-- The interpolated reference of a channel at a displaced position (R182). -/
def Chip.warpRef (c : Chip) (b : Nat) (x16 y16 : Int) (ch : Nat) : Nat :=
  let xi := x16 / 16
  let yi := y16 / 16
  let fx := (x16 % 16).toNat
  let fy := (y16 % 16).toNat
  (c.refSample b xi yi ch * (16 - fx) * (16 - fy) + c.refSample b (xi + 1) yi ch * fx * (16 - fy)
    + c.refSample b xi (yi + 1) ch * (16 - fx) * fy + c.refSample b (xi + 1) (yi + 1) ch * fx * fy + 128) / 256

/-- A difference is in defect under TMODE and T_c (R186). -/
def inDefect (tmode : Nat) (d : Int) (t : Nat) : Bool :=
  match tmode with
  | 0 => decide ((t : Int) < d) || decide (d < -(t : Int))
  | 1 => decide (d < -(t : Int))
  | 2 => decide ((t : Int) < d)
  | _ => false

/-- The largest |d_c| with its channel, the lowest channel on a tie (R189). -/
def peakOf (ds : List Int) : Nat × Nat × Bool :=
  let r := (ds.zipIdx).foldl (fun (b : Nat × Nat × Bool) p =>
    if b.1 < p.1.natAbs then (p.1.natAbs, p.2, decide (p.1 < 0)) else b) (0, 0, false)
  r

/-- One web pixel at (x, line) with displacement `d` under a rule entry (R182, R186, R199). -/
def Chip.comparePx (c : Chip) (b : Nat) (bad : List Int) (cmpTile : Bool) (rule : Option Rule) (state tx ty x line : Nat)
    (d : Int × Int) (p : WPx) (exclDef : Bool) : PxRes :=
  let masked := match rule with
    | some r => r.mask.testBit (4 * ((line % 16) / 4) + (x % 16) / 4)
    | none => false
  let x16 := 16 * ((x : Int) + c.refX0 b) + d.1
  let y16 := 16 * ((line : Int) + c.refL0 b) + d.2
  let yi := y16 / 16
  let outside := c.refOutside b yi || c.refOutside b (yi + 1)
  let isBad := bad.contains yi || bad.contains (yi + 1)
  let cmp := cmpTile && !masked && p.ndc == 0 && !outside && !isBad && state != 0
  let defect := match rule with
    | some r =>
      if cmp then
        let ds := (List.range (c.ieCref b)).map fun ch => (p.chan ch : Int) - c.warpRef b x16 y16 ch
        let hit := (ds.zip r.thr).any fun q => q.2 != 0 && inDefect r.tmode q.1 (q.2 * 2 ^ r.shift)
        if hit then
          let k := peakOf ds
          some (DefPx.mk x line k.1 k.2.2 k.2.1 tx ty r.cls r.flags r.minArea)
        else none
      else none
    | none => none
  { masked := masked, ndc := p.ndc, outside := outside, bad := isBad, cmp := cmp, defect := defect
    colour := !masked && p.ndc == 0 && !(exclDef && defect.isSome) }

/-- The lowest reason code that applies to a tile (R190); `over` marks a dropped defect pixel. -/
def reasonOf (codes : List (Bool × Nat)) : Nat :=
  ((codes.filter (·.1)).map (·.2)).foldl (fun b k => if b = 0 then k else min b k) 0

/-! ### Fragments (R187) -/

def DefPx.before (p q : DefPx) : Bool := decide (p.line < q.line) || (p.line == q.line && decide (p.x < q.x))

/-- Two pixels are neighbours in 8- or 4-connectivity. -/
def DefPx.touches (conn8 : Bool) (p q : DefPx) : Bool :=
  let dx := max p.x q.x - min p.x q.x
  let dl := max p.line q.line - min p.line q.line
  if conn8 then decide (dx ≤ 1) && decide (dl ≤ 1) else decide (dx + dl ≤ 1)

/-- Adding a pixel to a list of components: it joins those it touches. -/
def joinPx (conn8 : Bool) (comps : List (List DefPx)) (p : DefPx) : List (List DefPx) :=
  let hit := comps.filter fun k => k.any (DefPx.touches conn8 p)
  let rest := comps.filter fun k => !k.any (DefPx.touches conn8 p)
  rest ++ [hit.flatten ++ [p]]

/-- The components of the defect pixels, in raster order of their first pixels. -/
def components (conn8 : Bool) (px : List DefPx) : List (List DefPx) :=
  let comps := (px.foldl (joinPx conn8) []).map (sortBy DefPx.before)
  sortBy (fun k l => match k, l with
    | p :: _, q :: _ => p.before q
    | _, _ => false) comps

/-! ### A whole band slice (R162) -/

/-- The regions of strip `s` of a band: registration signal, search, smoothing and field (R172 to R177). -/
def Chip.sliceRegions (c : Chip) (fb : FBand) (s : Nat) : List Region :=
  let b := fb.band.bank
  let w := fb.band.width
  let ty := fb.band.ty
  let (x0, ws) := (strips w).getD s (0, 0)
  let g := (fb.band.rows.map fun r => (r.map fun p => if p.ndc = 0 then some (c.g8 b p) else none).toArray).toArray
  let base := regionBase w s
  let preds := (List.range (regionStarts ws).length).map fun r => c.prediction b w ty (base + r)
  let raws := ((regionStarts ws).zip preds).map fun q =>
    let ip := intPred q.2
    c.searchRegion b fb.bad ty (x0 + q.1) g ip.1 (clampTo (fb.pc - 4) (fb.pc + 4) ip.2)
  (raws.zipIdx).map fun q =>
    let r := q.2
    let hold := (c.fieldGet b w ty (base + r)).2.2.1
    fieldOf (c.f (F.ieRegAlphaM1 b) + 1) (c.f (F.ieRegHoldMax b)) (smooth raws r) (preds.getD r none) hold
      (c.regionFlat b (x0 + (regionStarts ws).getD r 0) ty) q.1.conf

/-- One tile of a strip: its pixels and its result before fragments are known (R185, R186, R190, R191, R199). -/
def Chip.tileResult (c : Chip) (fb : FBand) (x0 ws : Nat) (regs : List Region) (locked : Bool) (tx : Nat) :
    TileRes × List DefPx :=
  let b := fb.band.bank
  let ty := fb.band.ty
  let rule := c.rule b tx ty
  let mix := fb.band.bankmix && !c.fb (F.ieJcfgBankmixInsp b)
  let reg := (regs[(16 * tx - x0) / 256]?).getD ⟨0, 0, 0, 0, 0⟩
  let cmpTile := match rule with
    | some r => !r.err && !r.invalid && r.cls != 0 && r.mask != 0xFFFF && !mix
    | none => false
  let excl := c.fb (F.csCfgExclDef b)
  let px := (fb.band.rows.zipIdx).flatMap fun row => ((row.1.drop (16 * tx)).take 16).zipIdx.map fun q =>
    let x := 16 * tx + q.2
    (c.comparePx b fb.bad cmpTile rule reg.state tx ty x (16 * ty + row.2) (fieldAt ws regs (x - x0)) q.1 excl, q.1)
  let un := px.filter fun q => !q.1.masked
  let d := fieldAt ws regs (16 * tx + 8 - x0)
  let err := match rule with
    | some r => r.err
    | none => false
  let codes := [
    (err || un.any (·.1.bad), 0x3),
    (!err && (rule.map (·.invalid)).getD false, 0x4),
    (rule.isNone || un.any (·.1.outside), 0x5),
    (mix, 0x6),
    (reg.state == 0 && !locked, 0x7),
    (reg.state == 0 && locked, 0x8),
    (un.any (·.1.ndc == 2), 0x9),
    (un.any (·.1.ndc == 3), 0xA),
    (un.any (·.1.ndc == 1), 0xB),
    (!err && (rule.map fun r => r.cls == 0 || r.mask == 0xFFFF).getD false, 0xD)]
  let col := px.filter (·.1.colour)
  let defs := px.filterMap (·.1.defect)
  ({ tx := tx, reason := reasonOf codes, ncmp := (px.filter (·.1.cmp)).length, ndef := defs.length, dx := d.1, dy := d.2
     conf := reg.conf, state := reg.state, flags := (rule.map (·.flags)).getD 0, cls := (rule.map (·.cls)).getD 0
     ruleErr := err, noRule := rule.isNone || (rule.map (·.invalid)).getD false, lRef := (rule.map (·.lRef)).getD 0
     aRef := (rule.map (·.aRef)).getD 0, bRef := (rule.map (·.bRef)).getD 0, ncol := col.length
     sums := (List.range 4).map fun ch => (col.map fun q => q.2.chan ch).sum, colour := none }, defs)

/-- A dropped defect pixel makes its tile BLOB_OVF, where no lower code applies (R187, R190). -/
def ovfTiles (lost : List (List DefPx)) (t : TileRes) : TileRes :=
  if lost.any (·.any fun p => p.tx == t.tx) ∧ (t.reason = 0 ∨ 0xC < t.reason) then { t with reason := 0xC } else t

/-- All an engine delivers for a band slice (R162). -/
def Chip.runSlice (c : Chip) (fb : FBand) (s : Nat) (locked : Bool) : Slice :=
  let (x0, ws) := (strips fb.band.width).getD s (0, 0)
  let regs := c.sliceRegions fb s
  let tiles := (List.range (ws / 16)).map fun i => c.tileResult fb x0 ws regs locked (x0 / 16 + i)
  let comps := components (c.fb (F.ieJcfgConn8 fb.band.bank)) (sortBy DefPx.before (tiles.flatMap (·.2)))
  let lost := comps.drop 4096
  { st := .done, regions := regs, tiles := (tiles.map (·.1)).map (ovfTiles lost), frags := comps.take 4096, lost := lost }

/-! ### Arming relations (R197) -/

def Chip.ieArmOk (c : Chip) (b : Nat) : Bool :=
  let width := c.f (F.stcWebWidth b)
  let cref := c.ieCref b
  let held := if c.running || c.job.stopping then
      [c.refRegion (1 - b), c.ruleRegion (1 - b), c.fieldRegion (1 - b)] else []
  let own := [c.refRegion b, c.ruleRegion b, c.fieldRegion b]
  let inDdr := fun (r : Nat × Nat) => ddrBase ≤ r.1 && r.1 + r.2 ≤ c.ddrTop
  let apart := fun (r q : Nat × Nat) => !meets r.1 r.2 q.1 q.2
  let rx := c.f (F.ieFidPosFidRx b)
  decide (256 ≤ width)
  && decide (c.f (F.ieRefWRefW b) * cref ≤ c.f (F.ieRefStrideStride b))
  && decide ((c.refRegion b).2 ≤ 2 ^ 34)
  && decide (width / 16 * c.f (F.ieRuleTyTyN b) ≤ 2 ^ 24)
  && decide (c.f (F.ieRepLinesRepLines b) ≤ 16 * c.f (F.ieRuleTyTyN b))
  && ((List.range 4).all fun ch => decide (ch < cref) || c.regWeight b ch == 0)
  && (!c.fb (F.ieJcfgFidEn b) || (decide (96 ≤ rx) && decide (rx + 160 ≤ width)
      && decide (c.f (F.ieFidLineFidRl b) + 336 ≤ c.f (F.ieRepLinesRepLines b))))
  && own.all inDdr && apart (own.getD 0 (0, 0)) (own.getD 1 (0, 0)) && apart (own.getD 0 (0, 0)) (own.getD 2 (0, 0))
  && apart (own.getD 1 (0, 0)) (own.getD 2 (0, 0)) && own.all fun r => held.all (apart r)

end Sys2Proof.Machine
end

