-- ==== Sys2Proof/Machine/Cs.lean ====
section
/-! DEFINITION. Cs.lean: colour of tile means, CIEDE2000 and the records (07_colour_defects.md, R202 to R214). -/

namespace Sys2Proof.Machine

def romAt (t : List Int) (k : Nat) : Int := t.getD k 0

/-- An arithmetic shift to the right. -/
def sar (i : Int) (k : Nat) : Int := i / ((2 ^ k : Nat) : Int)

/-- Linear interpolation between two table entries, 64 steps apart; the second entry is not read on a knot (R204, R207). -/
def romLerp (t : List Int) (k step : Nat) : Int :=
  if step = 0 then romAt t k else romAt t k + sar ((romAt t (k + 1) - romAt t k) * step + 32) 6

/-! ### From tile means to L*a*b* (R202 to R204) -/

def Chip.xyzCoef (c : Chip) (b i j : Nat) : Int :=
  let k := 2 * i + j / 2
  if j % 2 = 0 then c.fs (F.csXyzMLo b k) else c.fs (F.csXyzMHi b k)

/-- The mean of a channel over the colour pixels (R202). -/
def tileMean (sum ncol : Nat) : Nat := (2 * sum + ncol) / (2 * ncol)

/-- A tristimulus value (R202). -/
def Chip.tristim (c : Chip) (b i : Nat) (ms : List Nat) : Nat :=
  let s := ((ms.zipIdx).map fun p => c.xyzCoef b i p.2 * (p.1 : Int)).sum
  (clampTo 0 65535 (sar (s + 2048) 12)).toNat

/-- The ratio to the white point (R203). -/
def whiteRatio (x nWhite : Nat) : Nat := min 65535 ((x * nWhite + 32768) / 65536)

def whiteConst (d65 : Bool) : Nat × Nat × Nat := if d65 then (68951, 65536, 60189) else (67969, 65536, 79428)

/-- The CIE function f from table FT (R204). -/
def cieF (t : Nat) : Int := romLerp romFt (t / 64) (t % 64)

/-- L* x 512, a* x 256 and b* x 256 of three tristimulus ratios (R204). -/
def labOf (tx ty tz : Nat) : Nat × Int × Int :=
  ((clampTo 0 65535 (sar (116 * cieF ty + 32) 6 - 8192)).toNat,
   clampTo (-32767) 32767 (sar (125 * (cieF tx - cieF ty) + 16) 5),
   clampTo (-32767) 32767 (sar (25 * (cieF ty - cieF tz) + 8) 4))

def Chip.tileLab (c : Chip) (b : Nat) (sums : List Nat) (ncol : Nat) : Nat × Int × Int :=
  let ms := sums.map fun s => tileMean s ncol
  let w := whiteConst (c.fb (F.csCfgWhite b))
  labOf (whiteRatio (c.tristim b 0 ms) w.1) (whiteRatio (c.tristim b 1 ms) w.2.1) (whiteRatio (c.tristim b 2 ms) w.2.2)

/-! ### CIEDE2000 (R205, R207) -/

/-- The floor of the square root, digit by digit in base 4 (R205). -/
def isqrtGo : Nat → Nat → Nat
  | 0, _ => 0
  | k + 1, n => let r := 2 * isqrtGo k (n / 4); if (r + 1) * (r + 1) ≤ n then r + 1 else r

def isqrt (n : Nat) : Nat := isqrtGo (n.log2 / 2 + 1) n

def isqrtZ (i : Int) : Int := isqrt i.toNat

def cosBau (theta : Int) : Int :=
  let t := (theta % 65536).toNat
  romLerp romCos (t / 64) (t % 64)

def sinBau (theta : Int) : Int := cosBau (theta - 16384)

def atanTab (q : Nat) : Int := romLerp romAtan (q / 64) (q % 64)

def atan2Bau (y x : Int) : Int :=
  let ax := x.natAbs
  let ay := y.natAbs
  let ang := if ay ≤ ax then atanTab (65536 * ay / ax) else 16384 - atanTab (65536 * ax / ay)
  let ang := if x < 0 then 32768 - ang else ang
  let ang := if y < 0 then 65536 - ang else ang
  ang % 65536

def signed16 (i : Int) : Int := toSigned 16 (ofSigned 16 i)

def qTab (chroma : Int) : Int := romAt romQt (min (chroma / 64).toNat 1023)

/-- The colour difference of R205 between (L1, a1, b1) and (L2, a2, b2), times 256. -/
def deltaE (l1 : Nat) (a1 b1 : Int) (l2 : Nat) (a2 b2 : Int) : Nat :=
  let c1 := isqrtZ (a1 * a1 + b1 * b1)
  let c2 := isqrtZ (a2 * a2 + b2 * b2)
  let cb := (c1 + c2 + 1) / 2
  let g := (65536 - qTab cb) / 2
  let a1p := a1 + sar (a1 * g + 32768) 16
  let a2p := a2 + sar (a2 * g + 32768) 16
  let c1p := isqrtZ (a1p * a1p + b1 * b1)
  let c2p := isqrtZ (a2p * a2p + b2 * b2)
  let h1 := if a1p = 0 ∧ b1 = 0 then 0 else atan2Bau b1 a1p
  let h2 := if a2p = 0 ∧ b2 = 0 then 0 else atan2Bau b2 a2p
  let dL : Int := (l2 : Int) - l1
  let dC := c2p - c1p
  let zero := c1p * c2p = 0
  let dh := if zero then 0 else signed16 (h2 - h1)
  let hm := if zero then h1 + h2 else h1 + dh / 2
  let dH := sar (2 * isqrtZ (c1p * c2p) * sinBau (dh / 2) + 8192) 14
  let lm : Int := ((l1 : Int) + l2 + 1) / 2
  let cm := (c1p + c2p + 1) / 2
  let t := 16384 + (-17 * cosBau (hm - 5461) + 24 * cosBau (2 * hm) + 32 * cosBau (3 * hm + 1092)
    - 20 * cosBau (4 * hm - 11469)) / 100
  let u := lm - 25600
  let w := isqrtZ (5242880 + u * u)
  let sL := 16384 + 12 * u * u / (25 * w)
  let sC := 16384 + 72 * cm / 25
  let sH := 16384 + 3 * cm * t / 51200
  let dt := romAt romDt (min ((signed16 (hm - 50062)).natAbs / 64) 511)
  let rT := -(sar (sinBau dt * 2 * qTab cm + 32768) 16)
  let tL := dL * 8192 / sL
  let tC := dC * 16384 / sC
  let tH := dH * 16384 / sH
  let e2 := tL * tL + tC * tC + tH * tH + sar (rT * tC * tH) 14
  min 65535 (isqrtZ (max e2 0)).toNat

/-- The colour result of a tile (R202 to R205). -/
def Chip.tileColour (c : Chip) (b : Nat) (t : TileRes) : ColourRes :=
  let (l, a, bb) := c.tileLab b t.sums t.ncol
  ⟨l, a, bb, deltaE l a bb t.lRef t.aRef t.bRef⟩

/-- The colour status CSTAT of a tile, `dropped` for a dropped colour item (R208). -/
def Chip.cstat (c : Chip) (b : Nat) (dropped : Bool) (t : TileRes) : Nat :=
  if t.reason = 1 ∨ t.reason = 2 ∨ t.ruleErr then 2
  else if !t.flags.testBit 7 || t.cls == 0 || t.noRule then 1
  else if dropped then 4
  else if t.ncol < c.f (F.csCfgNmin b) ∨ t.ncol = 0 then 3
  else 0

/-- A tile exceeds its class's limit (R209). -/
def Chip.deOver (c : Chip) (b : Nat) (t : TileRes) (r : ColourRes) : Bool :=
  t.cls != 0 && c.f (F.ieClassDeLim b (t.cls - 1)) != 0 && decide (c.f (F.ieClassDeLim b (t.cls - 1)) < r.de)

/-! ### Records (R210, R213, R214) -/

def be16s (i : Int) : List Byte := natBytesBE 2 (ofSigned 16 i)

/-- A tile record, or with RTYPE 0x03 a colour alarm (R210, R212). -/
def tileRecord (rtype ty ridx cst : Nat) (big : Bool) (t : TileRes) (r : ColourRes) : List Byte :=
  natBytesBE 1 rtype ++ natBytesBE 1 (t.reason * 16 + cst) ++ natBytesBE 2 t.tx ++ natBytesBE 3 ty ++ natBytesBE 1 t.flags
    ++ natBytesBE 4 ridx ++ natBytesBE 2 t.ncmp ++ natBytesBE 2 t.ndef ++ be16s t.dx ++ be16s t.dy ++ natBytesBE 1 t.conf
    ++ natBytesBE 1 ((if big then 128 else 0) + t.state) ++ natBytesBE 2 r.de ++ natBytesBE 2 r.l ++ be16s r.a ++ be16s r.b
    ++ natBytesBE 2 t.ncol

/-- Mean, least and greatest of the X or Y statistics of a repeat (R213). -/
def repMean (l : List Int) : Int :=
  if l.isEmpty then 0 else (2 * l.sum + (l.length : Int)) / (2 * (l.length : Int))

def listMin (l : List Int) : Int := l.foldl min (l.headD 0)
def listMax (l : List Int) : Int := l.foldl max (l.headD 0)

/-- Valid share of a repeat (R180). -/
def validShare (a : RepAcc) : Nat := if a.nreg = 0 then 0 else 100 * (a.valid + a.flat + a.kept) / a.nreg

/-- A repeat summary (R213). -/
def summaryRecord (acq pct : Nat) (a : RepAcc) : List Byte :=
  natBytesBE 1 4 ++ natBytesBE 1 acq ++ natBytesBE 1 pct ++ natBytesBE 1 0 ++ natBytesBE 4 a.ridx ++ natBytesBE 4 a.rep
    ++ natBytesBE 4 a.nlines ++ natBytesBE 4 a.ntile ++ natBytesBE 4 a.nuninsp ++ natBytesBE 4 a.nblob ++ natBytesBE 4 a.nover
    ++ be16s (repMean a.dxs) ++ be16s (repMean a.dys) ++ be16s (listMin a.dxs) ++ be16s (listMax a.dxs)
    ++ be16s (listMin a.dys) ++ be16s (listMax a.dys) ++ natBytesBE 4 a.valid ++ natBytesBE 4 a.held ++ natBytesBE 4 a.flat
    ++ natBytesBE 4 a.none_ ++ natBytesBE 2 a.deMax ++ natBytesBE 2 0

/-- The attributes of a closed blob (R189). -/
structure BlobAttr where
  x0     : Nat
  x1     : Nat
  line0  : Nat
  line1  : Nat
  area   : Nat
  peak   : DefPx
  cls    : Nat
  flags  : Nat
  reported : Bool
  deriving DecidableEq, Repr

/-- The order of peaks: larger |d|, then earlier line, smaller x, lower channel (R189). -/
def peakLt (p q : DefPx) : Bool :=
  decide (q.peak < p.peak) || (p.peak == q.peak && (p.before q || (p.x == q.x && p.line == q.line && decide (p.chan < q.chan))))

def Chip.severity (c : Chip) (b k : Nat) : Nat := if k = 0 then 0 else c.f (F.ieClassSeverity b (k - 1))

/-- Attributes of a non-empty blob (R189). -/
def Chip.blobAttr (c : Chip) (bl : Blob) : BlobAttr :=
  let p0 : DefPx := bl.px.headD ⟨0, 0, 0, false, 0, 0, 0, 0, 0, 0⟩
  let xs := bl.px.map (·.x)
  let ls := bl.px.map (·.line)
  let clsLt := fun (i j : Nat) => decide (c.severity bl.bank j < c.severity bl.bank i) ||
    (c.severity bl.bank i == c.severity bl.bank j && decide (i < j))
  let flags := (bl.px.map (·.flags)).foldl (· ||| ·) 0
  let minArea := (bl.px.map fun p => max 1 p.minArea).foldl min (max 1 p0.minArea)
  { x0 := xs.foldl min p0.x, x1 := xs.foldl max p0.x, line0 := ls.foldl min p0.line, line1 := ls.foldl max p0.line
    area := min bl.px.length (2 ^ 32 - 1), peak := (leastBy peakLt bl.px).getD p0
    cls := (leastBy clsLt (bl.px.map (·.cls))).getD 0, flags := flags &&& 0x78
    reported := flags.testBit 6 && decide (minArea ≤ bl.px.length) }

/-- A defect record (R214). -/
def defectRecord (a : BlobAttr) (bl : Blob) (late split : Bool) (sev dseq : Nat) (e0 e1 : LogEntry) (job : Nat) : List Byte :=
  let bit := fun (b : Bool) (k : Nat) => if b then 2 ^ k else 0
  let enc := fun (p : Nat) => natBytesBE 8 (ofSigned 64 (toSigned 48 p))
  natBytesBE 1 2 ++ natBytesBE 1 (bit late 7 + bit split 6 + bit bl.cont 5 + bit (a.flags.testBit 4) 4
      + bit (a.flags.testBit 3) 3 + bit (a.flags.testBit 5) 2)
    ++ natBytesBE 1 (a.cls * 4 + sev) ++ natBytesBE 1 (a.peak.chan * 64 + bit a.peak.neg 5) ++ natBytesBE 4 dseq
    ++ natBytesBE 4 bl.ridx ++ natBytesBE 4 a.x0 ++ natBytesBE 4 a.x1 ++ natBytesBE 4 a.line0 ++ natBytesBE 4 a.line1
    ++ natBytesBE 4 a.area ++ natBytesBE 2 a.peak.peak ++ natBytesBE 2 0 ++ natBytesBE 4 a.peak.x ++ natBytesBE 4 a.peak.line
    ++ natBytesBE 4 e0.id ++ natBytesBE 4 e1.id ++ enc e0.enc ++ enc e1.enc ++ timeBytes e0.time ++ natBytesBE 1 job
    ++ natBytesBE 1 bl.bank

end Sys2Proof.Machine
end

