-- ==== Sys2Proof/Machine/Symbol.lean ====
section
/-! DEFINITION. Symbol.lean: symbols, Gray mapping, precoding and the test patterns of a lane (02_serial_lanes.md, R45, R46,
R54, R62, R64). A symbol is named by its level index, 0 for the level -3 to 3 for +3. -/

namespace Sys2Proof.Machine

/-! ### Gray mapping and precoding (R45, R46, R54) -/

/-- The level index of a bit pair (first, second), by the Gray mapping of R45. -/
def grayIndex (first second : Bool) : Nat :=
  match first, second with
  | false, false => 0
  | false, true => 1
  | true, true => 2
  | true, false => 3

/-- The inverse mapping of the receiver (R45). -/
def grayBits (g : Nat) : List Bool :=
  match g with
  | 0 => [false, false]
  | 1 => [false, true]
  | 2 => [true, true]
  | _ => [true, false]

/-- The level of a level index (R45). -/
def grayLevel (g : Nat) : Int := 2 * (g : Int) - 3

/-- A bit stream taken two bits at a time (R45); a single last bit waits for its second and is not mapped. -/
def grayMap : List Bool → List Nat
  | a :: b :: bs => grayIndex a b :: grayMap bs
  | _ => []

/-- The precoded level indices of a stream, from a precoder state (R46). -/
def precode (p : Nat) : List Nat → List Nat
  | [] => []
  | g :: gs => let q := (g + 4 - p % 4) % 4; q :: precode q gs

/-- The receiver's recovery of the level indices (R46). -/
def unprecode (p : Nat) : List Nat → List Nat
  | [] => []
  | q :: qs => (q + p) % 4 :: unprecode q qs

/-- Inverted polarity exchanges the levels -3 and +3, and -1 and +1 (R54). -/
def invert (on : Bool) (l : List Nat) : List Nat := if on then l.map fun g => 3 - g else l

/-! ### Test patterns (R62) -/

/-- The stages of a pattern's polynomial whose sum is the next bit: x^a + x^b + 1 sends the sum of the bits sent a and b
bits before. SSPRQ has none. -/
def patTaps (code : Nat) : List Nat :=
  match code with
  | 0 => [7, 6]
  | 1 => [9, 5]
  | 2 | 5 => [13, 12, 2, 1]
  | 3 => [15, 14]
  | 4 | 6 => [31, 28]
  | _ => []

/-- The degree of the polynomial, 32 bits of SSPRQ. -/
def patOrder (code : Nat) : Nat := if code = 7 then 32 else (patTaps code).foldl max 0

/-- Binary patterns send one bit a symbol on the outer levels, Q patterns two. -/
def patBinary (code : Nat) : Bool := decide (code < 5)

/-- The bits of the SSPRQ period of IEEE 802.3. -/
def ssprqBits : Nat := 131070

/-- The bit that follows those sent last (newest first); SSPRQ is sent from its position. -/
def patNext (code : Nat) (hist : List Bool) (pos : Nat) : Bool :=
  if code = 7 then Config.ssprq (pos % ssprqBits)
  else (patTaps code).foldl (fun b k => b != hist.getD (k - 1) false) false

def PatGen.next (code : Nat) (g : PatGen) : Bool × PatGen :=
  let b := patNext code g.hist g.pos
  (b, { hist := (b :: g.hist).take (patOrder code), pos := (g.pos + 1) % ssprqBits })

/-- `k` bits of the pattern, oldest first. -/
def PatGen.run (code : Nat) : Nat → PatGen → List Bool × PatGen
  | 0, g => ([], g)
  | k + 1, g => let (b, g) := g.next code; let (bs, g) := PatGen.run code k g; (b :: bs, g)

/-- A generator starts somewhere in its sequence; where, the spec leaves open, but for the state that sends zeros only. -/
def PatGen.start (code free : Nat) : PatGen :=
  let v := 1 + free % (2 ^ patOrder code - 1)
  { hist := (List.range (patOrder code)).map v.testBit, pos := free % ssprqBits }

/-- The bits of a pattern as symbols, before precoding (R62). -/
def patMap (code : Nat) (bs : List Bool) : List Nat :=
  if patBinary code then bs.map fun b => if b then 3 else 0 else grayMap bs

/-- The bits of a pattern that received symbols carry: binary patterns are sliced at the middle. -/
def patUnmap (code : Nat) (l : List Nat) : List Bool :=
  if patBinary code then l.map (2 ≤ ·) else l.flatMap grayBits

/-! ### The checker (R64) -/

/-- The position in SSPRQ after the bits received last (newest first). -/
def ssprqFind (hist : List Bool) : Option Nat :=
  (List.range ssprqBits).find? fun p =>
    (List.range hist.length).all fun i => hist.getD i false == Config.ssprq ((p + ssprqBits - 1 - i) % ssprqBits)

/-- The checker takes one bit. It seeds itself from the received bits; 64 error-free bits in a row give lock; then it runs on
by itself, counts, and 16 errors in the last 64 bits lose lock and start it again. -/
def PatChk.step (code : Nat) (k : PatChk) (b : Bool) : PatChk :=
  let order := patOrder code
  if k.locked then
    let p := patNext code k.hist k.pos
    let win := ((p != b) :: k.win).take 64
    let k := { k with bits := k.bits + 1, errs := k.errs + (if p != b then 1 else 0) }
    if 16 ≤ (win.filter id).length then { k with locked := false, lost := true, hist := [], pos := 0, run := 0, win := [] }
    else { k with win := win, hist := (p :: k.hist).take order, pos := (k.pos + 1) % ssprqBits }
  else
    let hist := (b :: k.hist).take order
    if k.hist.length < order then
      { k with hist := hist, run := 0, pos := if code = 7 ∧ hist.length = order then (ssprqFind hist).getD 0 else 0 }
    else if patNext code k.hist k.pos = b then
      { k with hist := hist, pos := (k.pos + 1) % ssprqBits, run := k.run + 1, locked := k.run + 1 == 64, win := [] }
    else
      { k with hist := hist, run := 0, pos := if code = 7 then (ssprqFind hist).getD 0 else 0 }

/-- The checker takes the bits of received symbols. -/
def PatChk.take (code : Nat) (k : PatChk) (bs : List Bool) : PatChk := bs.foldl (PatChk.step code) k

end Sys2Proof.Machine
end

