-- ==== Sys2Proof/Machine/Lane.lean ====
section
/-! DEFINITION. Lane.lean: the PAM4 serial lanes (02_serial_lanes.md, R42 to R71). A lane is named by its block
(0 to 7 HP, 8 PL, 9 UL) and its physical number. -/

namespace Sys2Proof.Machine

/-- Physical lanes of a block (R67). -/
def laneCount (n : Nat) : Nat := if n < 8 then 5 else if n = 8 then 3 else 9

/-- Logical lanes of a block (R67). -/
def logicalCount (n : Nat) : Nat := laneCount n - 1

/-- The lane states of R47. -/
def lsOff : Nat := 0
def lsDeep : Nat := 1
def lsFast : Nat := 2
def lsTrain : Nat := 3
def lsActive : Nat := 4
def lsTest : Nat := 5
def lsCond : Nat := 6

def Chip.laneState (c : Chip) (n m : Nat) : Nat := c.f (F.lnStateState n m)

def Chip.lane (c : Chip) (n m : Nat) : LaneS := (c.lanes[n * 9 + m]?).getD LaneS.reset

def Chip.modLane (c : Chip) (n m : Nat) (g : LaneS → LaneS) : Chip :=
  { c with lanes := c.lanes.modify (n * 9 + m) g }

def Chip.port (c : Chip) (n : Nat) : PortS := (c.ports[n]?).getD ⟨0, false⟩

def Chip.modPort (c : Chip) (n : Nat) (g : PortS → PortS) : Chip := { c with ports := c.ports.modify n g }

/-! ### Coefficients -/

/-- The receive set a lane holds now (R55). -/
def Chip.laneSet (c : Chip) (n m : Nat) : LaneSet :=
  ⟨c.rd (R.lnRxeq n m), c.rd (R.lnFfe0 n m),
   if n = 9 then c.rd (R.lnFfe1 m) else 0#32, if n = 9 then c.rd (R.lnFfe2 m) else 0#32,
   if n = 9 then c.rd (R.lnDfe m) else 0#32⟩

/-- Loading a receive set; LN_FFE1, LN_FFE2 and LN_DFE exist only in UL (R70). -/
def Chip.loadSet (c : Chip) (n m : Nat) (x : LaneSet) : Chip :=
  let c := (c.wr (R.lnRxeq n m) x.rxeq).wr (R.lnFfe0 n m) x.ffe0
  if n = 9 then ((c.wr (R.lnFfe1 m) x.ffe1).wr (R.lnFfe2 m) x.ffe2).wr (R.lnDfe m) x.dfe else c

/-- Loading a set as adaptation does: the CTLE code of LN_RXEQ keeps its value when it is held (R55). -/
def Chip.adaptSet (c : Chip) (n m : Nat) (holdCtle : Bool) (x : LaneSet) : Chip :=
  let ctle := c.f (F.lnRxeqCtle n m)
  let c := c.loadSet n m x
  if holdCtle then c.setF (F.lnRxeqCtle n m) ctle else c

/-- The reset coefficient values (R47, R48): those of the receiver. LN_TXEQ is the host's setting, which the host may write
in OFF and with which a link starts (R53, R292), and is kept. -/
def Chip.resetCoeffs (c : Chip) (n m : Nat) : Chip :=
  c.loadSet n m ⟨resetVal (R.lnRxeq n m), resetVal (R.lnFfe0 n m), 0#32, 0#32, 0#32⟩

/-! ### Symbols sent and received (R45, R46, R54, R65) -/

/-- An injection inverts the next bits of the transmit stream (R65). -/
def Chip.flipBits (c : Chip) (n m : Nat) (bs : List Bool) : Chip × List Bool :=
  let k := (c.lane n m).flip
  (c.modLane n m fun l => { l with flip := k - bs.length }, (bs.take k).map (!·) ++ bs.drop k)

/-- Level indices on their way to the ball: precoded where precoding is on and the pattern uses it, then inverted where
TX_INV is set. -/
def Chip.txSyms (c : Chip) (n m : Nat) (coded : Bool) (g : List Nat) : Chip × List Nat :=
  let inv := c.fb (F.lnCtrlTxInv n m)
  if coded && c.fb (F.lnCtrlPrecodeTx n m) then
    let p := (c.lane n m).precTx
    let q := precode p g
    (c.modLane n m fun l => { l with precTx := q.getLastD p }, invert inv q)
  else (c, invert inv g)

/-- The symbols that carry a stream of data bits on a lane. -/
def Chip.laneTx (c : Chip) (n m : Nat) (bs : List Bool) : Chip × List Nat :=
  let (c, bs) := c.flipBits n m bs
  c.txSyms n m true (grayMap bs)

/-- Received symbols as level indices: RX_INV acts before Gray mapping is undone, and precoding is undone where it is on. -/
def Chip.rxSyms (c : Chip) (n m : Nat) (coded : Bool) (l : List Nat) : Chip × List Nat :=
  let q := invert (c.fb (F.lnCtrlRxInv n m)) l
  if coded && c.fb (F.lnCtrlPrecodeRx n m) then
    let p := (c.lane n m).precRx
    (c.modLane n m fun l => { l with precRx := q.getLastD p }, unprecode p q)
  else (c, q)

/-- The data bits of received symbols. -/
def Chip.laneRxBits (c : Chip) (n m : Nat) (l : List Nat) : Chip × List Bool :=
  let (c, g) := c.rxSyms n m true l
  (c, g.flatMap grayBits)

/-- Precoding is turned on or off; a state starts at 0 when its direction is turned on (R46). -/
def Chip.setPrecode (c : Chip) (n m : Nat) (tx rx : Bool) : Chip :=
  let c := if tx && !c.fb (F.lnCtrlPrecodeTx n m) then c.modLane n m fun l => { l with precTx := 0 } else c
  let c := if rx && !c.fb (F.lnCtrlPrecodeRx n m) then c.modLane n m fun l => { l with precRx := 0 } else c
  (c.setFb (F.lnCtrlPrecodeTx n m) tx).setFb (F.lnCtrlPrecodeRx n m) rx

/-- A partner request on the coefficients of a lane and its ACK_STAT: 1 applied, 2 at limit, 3 unknown (R52, R53, R99, R100). Tap 4 is
C_PRE2, which only uplink lanes have. -/
def Chip.coeffRequest (c : Chip) (n m tap dir : Nat) : Chip × Nat :=
  let pre := c.fs (F.lnTxeqCPre1 n m)
  let main := (c.f (F.lnTxeqCMain n m) : Int)
  let post := c.fs (F.lnTxeqCPost1 n m)
  let pre2 := if n = 9 then c.fs (F.lnTxeqCPre2 9 m) else 0
  let d : Int := if dir = 1 then 1 else if dir = 2 then -1 else 0
  let next : Option (Int × Int × Int × Int) :=
    if dir = 3 then some (pre2, -4, 51, -8)
    else match tap with
      | 1 => some (pre2, pre + d, main, post)
      | 2 => some (pre2, pre, main + d, post)
      | 3 => some (pre2, pre, main, post + d)
      | 4 => if n = 9 then some (pre2 + d, pre, main, post) else none
      | _ => none
  match next with
  | none => (c, if tap = 0 then 0 else 3)
  | some (w, p, k, q) =>
    if dir = 0 then (c, 0)
    else if -16 ≤ w ∧ w ≤ 15 ∧ -16 ≤ p ∧ p ≤ 15 ∧ 0 ≤ k ∧ k ≤ 63 ∧ -16 ≤ q ∧ q ≤ 15
        ∧ w.natAbs + p.natAbs + k.toNat + q.natAbs ≤ 63 then
      let c := if n = 9 then c.setFs (F.lnTxeqCPre2 9 m) w else c
      (((c.setFs (F.lnTxeqCPre1 n m) p).setF (F.lnTxeqCMain n m) k.toNat).setFs (F.lnTxeqCPost1 n m) q, 1)
    else (c, 2)

/-! ### State changes (R48) -/

/-- Ending the running guard interval without evaluating it (R61). -/
def Chip.endGuard (c : Chip) (n m : Nat) : Chip := c.modLane n m fun l => { l with gWin := 0, gBusy := 0 }

def Chip.clearFreeze (c : Chip) (n m : Nat) : Chip :=
  (c.modLane n m fun l => { l with idleRun := 0, busyRun := 0 }).setF (F.lnStateFrozen n m) 0

/-- Entering a state: a lane that leaves ACTIVE ends its guard interval (R61). -/
def Chip.laneGo (c : Chip) (n m st : Nat) : Chip :=
  ((c.endGuard n m).modLane n m fun l => { l with left := false }).setF (F.lnStateState n m) st

/-- The generator and the checker stop (R48, R63). -/
def Chip.testStop (c : Chip) (n m : Nat) : Chip :=
  (((c.setF (F.lnPrbsCtrlGenEn n m) 0).setF (F.lnPrbsCtrlChkEn n m) 0).setF (F.lnPrbsStatLock n m) 0).modLane n m fun l =>
    { l with gen := PatGen.reset, chk := PatChk.reset }

/-- Removing power, the coefficients kept: the receiver detects no signal, no pattern runs and no bit is left to invert. -/
def Chip.laneDown (c : Chip) (n m : Nat) : Chip :=
  (((((c.laneGo n m lsOff).clearFreeze n m).setF (F.lnStateSigDet n m) 0).setF (F.lnStateCdrLock n m) 0).testStop n m).modLane n m
    fun l => { l with flip := 0 }

/-- What a lane receives shows that its CDR is locked, in TRAIN, ACTIVE, TEST and COND (R71; log entry 53). -/
def Chip.cdrSeen (c : Chip) (n m : Nat) : Chip :=
  let st := c.laneState n m
  if lsTrain ≤ st ∧ st ≤ lsCond then c.setF (F.lnStateCdrLock n m) 1 else c

/-- Removing power; the coefficients of a lane in OFF are the reset values (R47). -/
def Chip.laneOff (c : Chip) (n m : Nat) : Chip := (c.laneDown n m).resetCoeffs n m

/-- A power-down request of the link layer: a lane in TEST or COND has no row for it (R48). -/
def Chip.laneRest (c : Chip) (n m : Nat) : Chip :=
  let st := c.laneState n m
  if st = lsTest ∨ st = lsCond then c else c.laneOff n m

/-- A lane leaves use in a SWAP or a retrain: it stops adapting and keeps its last values (R61). -/
def Chip.laneLeave (c : Chip) (n m : Nat) : Chip := (c.endGuard n m).modLane n m fun l => { l with left := true }

/-- Injected bit errors: the next `bits` bits that the lane sends are inverted (R65); an uplink lane in ACTIVE sends without a break,
so they leave at once. -/
def Chip.inject (c : Chip) (n m bits : Nat) : Chip :=
  if bits = 0 then c
  else ((if n = 9 ∧ c.laneState n m = lsActive then c else c.modLane n m fun l => { l with flip := l.flip + bits }).emit
    (.bitErrors n m bits))

/-- A pending injection applies to the next transmitted bits, and MODE then reads 00 (R65). -/
def Chip.applyInjection (c : Chip) (n m : Nat) : Chip :=
  let k := (c.lane n m).injPend
  if k = 0 then c
  else ((c.inject n m k).modLane n m fun l => { l with injPend := 0 }).setF (F.lnInjMode n m) 0

def Chip.lanePowerUp (c : Chip) (n m : Nat) : Chip :=
  if n < 9 ∧ c.laneState n m = lsOff then (c.resetCoeffs n m).laneGo n m lsDeep else c

/-- A swap or retrain request for a lane in COND aborts conditioning without recording a result (R48). -/
def Chip.laneCondAbort (c : Chip) (n m : Nat) : Chip :=
  if c.laneState n m = lsCond then
    (((c.resetCoeffs n m).setF (F.lnCtrlLoopback n m) 0).laneGo n m lsTrain).modPort n fun p => { p with condRetry := false }
  else c

/-- A training request for an uplink lane, which also aborts its conditioning (R48). -/
def Chip.laneTrainUl (c : Chip) (m : Nat) : Chip :=
  if c.laneState 9 m = lsOff then (c.resetCoeffs 9 m).laneGo 9 m lsTrain else c.laneCondAbort 9 m

def Chip.laneWakeTrain (c : Chip) (n m : Nat) : Chip :=
  if c.laneState n m = lsDeep then c.laneGo n m lsTrain else c

/-- The CDR starts and the lane equalizes again from the held coefficients (R48). -/
def Chip.laneWakeData (c : Chip) (n m : Nat) : Chip :=
  if c.laneState n m = lsDeep then (c.laneGo n m lsActive).setF (F.lnStateCdrLock n m) 1 else c

def Chip.lanePowerDown (c : Chip) (n m : Nat) : Chip :=
  let st := c.laneState n m
  if st = lsDeep ∨ st = lsActive ∨ st = lsTrain then c.laneOff n m else c

def Chip.laneFastExit (c : Chip) (n m : Nat) : Chip :=
  if c.laneState n m = lsFast then (c.laneGo n m lsActive).applyInjection n m else c

/-- The PLL and bias stop; only signal detect runs on, so the CDR is not locked (R47, R48). -/
def Chip.laneDeep (c : Chip) (n m : Nat) : Chip :=
  let st := c.laneState n m
  if st = lsFast ∨ st = lsActive then (c.laneGo n m lsDeep).setF (F.lnStateCdrLock n m) 0 else c

/-- Uplink lanes never enter IDLE_FAST or IDLE_DEEP (R47). -/
def Chip.laneFast (c : Chip) (n m : Nat) : Chip :=
  if n < 9 ∧ c.laneState n m = lsActive then c.laneGo n m lsFast else c

/-- Training completes: the set reached becomes the first last good set, with EYE_SAVED = 0 (R48, R59); with
ADAPT_EN = 0 training skipped receiver adaptation (R60). -/
def Chip.laneTrained (c : Chip) (n m : Nat) (x : LaneSet) : Chip :=
  if c.laneState n m = lsTrain then
    let c := if c.fb (F.lnAdaptAdaptEn n m) then c.adaptSet n m false x else c
    let c := c.modLane n m fun l => { l with good := c.laneSet n m }
    ((c.setF (F.lnEyeEyeSaved n m) 0).clearFreeze n m |>.setF (F.lnStateCdrLock n m) 1).laneGo n m lsActive
  else c

def Chip.laneTrainAbandoned (c : Chip) (n m : Nat) (x : LaneSet) : Chip :=
  if c.laneState n m = lsTrain then
    if n = 9 then c.laneOff n m
    else ((if c.fb (F.lnAdaptAdaptEn n m) then c.adaptSet n m false x else c).laneGo n m lsDeep).setF
      (F.lnStateCdrLock n m) 0
  else c

def Chip.laneRetrain (c : Chip) (n m : Nat) : Chip :=
  if c.laneState n m = lsActive then c.laneGo n m lsTrain else c

/-- Bringing a lane into training for the link layer, from OFF, IDLE_DEEP, ACTIVE or COND (R48, R68). -/
def Chip.laneBringUp (c : Chip) (n m : Nat) : Chip :=
  if n = 9 then c.laneTrainUl m
  else (((c.laneCondAbort n m).lanePowerUp n m).laneWakeTrain n m).laneRetrain n m

/-! ### Signal, adaptation and the drift guard (R50, R51, R56 to R61) -/

/-- The signal has been absent for more than 1 µs in ACTIVE (R51). -/
def Chip.laneLos (c : Chip) (n m : Nat) : Chip := if c.laneState n m = lsActive then c.ev (F.lnEvtLos n m) else c

/-- The CDR loses lock in ACTIVE (R51). -/
def Chip.laneCdrLol (c : Chip) (n m : Nat) : Chip :=
  if c.laneState n m = lsActive then (c.ev (F.lnEvtCdrLol n m)).setF (F.lnStateCdrLock n m) 0 else c

/-- The signal detect report, with its hysteresis between 40 mV and 80 mV (R50). -/
def Chip.signalDetect (c : Chip) (n m mv : Nat) : Chip :=
  let st := c.laneState n m
  if st = lsOff ∨ st = lsCond then c
  else if mv > 80 then c.setF (F.lnStateSigDet n m) 1
  else if mv < 40 then c.setF (F.lnStateSigDet n m) 0 else c

/-- One window counts towards the guard interval; the window after a full interval begins the next one (R58). -/
def LaneS.guardWindow (busy : Bool) (l : LaneS) : LaneS :=
  let k := if busy then 1 else 0
  if l.gWin < 1024 then { l with gWin := l.gWin + 1, gBusy := l.gBusy + k } else { l with gWin := 1, gBusy := k }

/-- One 1,024-UI window with `trans` transitions ends (R56, R57); `x` is the set sign-sign adaptation reaches in it. The gate
keeps counting with ADAPT_EN = 0 (R60): DESIGN CHOICE, FROZEN and LN_EVT.FREEZE then follow it as they do with ADAPT_EN = 1
(log entry 53). A lane in COND adapts from the reset values (R47). A busy window shows a locked CDR. -/
def Chip.adaptWindow (c : Chip) (n m trans : Nat) (x : LaneSet) : Chip :=
  let st := c.laneState n m
  let busy : Bool := decide (c.f (F.lnAdaptTdMin n m) ≤ trans) && st != lsFast && st != lsDeep
  if st = lsTrain ∨ st = lsActive ∨ st = lsFast ∨ st = lsDeep ∨ st = lsCond then
    let adapting := c.fb (F.lnAdaptAdaptEn n m) && (st == lsTrain || st == lsActive || st == lsCond)
      && !(c.lane n m).left
    let c := if busy then c.cdrSeen n m else c
    let c := if (st = lsTrain ∨ st = lsActive) ∧ !(c.lane n m).left then c.modLane n m (LaneS.guardWindow busy) else c
    let c := if busy && adapting && !c.fb (F.lnStateFrozen n m) then c.adaptSet n m (st == lsActive) x else c
    let l := c.lane n m
    if busy then
      let run := l.busyRun + 1
      let c := c.modLane n m fun l => { l with idleRun := 0, busyRun := run }
      if c.fb (F.lnStateFrozen n m) && c.f (F.lnAdaptResumeWin n m) ≤ run then c.clearFreeze n m else c
    else
      let run := l.idleRun + 1
      let c := c.modLane n m fun l => { l with idleRun := run, busyRun := 0 }
      if !c.fb (F.lnStateFrozen n m) && c.f (F.lnAdaptFreezeWin n m) ≤ run then
        (c.setF (F.lnStateFrozen n m) 1).ev (F.lnEvtFreeze n m) else c
  else c

/-- INST of a lane source (R432). -/
def laneInst (n m : Nat) : Nat := n * 256 + m

/-- A guard interval of 1,024 windows ends with eye metric `eye` (R58, R60): skipped with fewer than 512 busy windows;
otherwise EYE_LAST is written, and with ADAPT_EN = 1 the interval saves or snaps. DESIGN CHOICE: it does so in ACTIVE only, since
training itself stores the first last good set (R59, log entry 53). -/
def Chip.guardEnd (c : Chip) (n m eye : Nat) : Chip :=
  let st := c.laneState n m
  if (st = lsTrain ∨ st = lsActive) ∧ (c.lane n m).gWin = 1024 then
    let busy := (c.lane n m).gBusy
    let c := c.endGuard n m
    if busy < 512 then c
    else
      let eye := min eye 255
      let c := c.setF (F.lnEyeEyeLast n m) eye
      if c.fb (F.lnAdaptAdaptEn n m) && st == lsActive then
        if c.f (F.lnGuardEyeGood n m) ≤ eye then
          (c.modLane n m fun l => { l with good := c.laneSet n m }).setF (F.lnEyeEyeSaved n m) eye
        else if eye < c.f (F.lnGuardEyeSnap n m) then
          let c := (c.loadSet n m (c.lane n m).good).clearFreeze n m
          ((c.ev (F.lnEvtSnap n m)).inc (F.lnSnapCntCount n m)).report 0x02 (laneInst n m)
        else c
      else c
  else c

/-! ### Test patterns and injection (R62 to R66) -/

/-- The generator runs: in TEST with GEN_EN = 1 (R63). -/
def Chip.genOn (c : Chip) (n m : Nat) : Bool := c.laneState n m == lsTest && c.fb (F.lnPrbsCtrlGenEn n m)

/-- The next `k` symbols of the generator as the transmitter sends them (R62, R65). -/
def Chip.genSyms (c : Chip) (n m k : Nat) : Chip × List Nat :=
  let code := c.f (F.lnPrbsCtrlGenPat n m)
  let (bs, g) := (c.lane n m).gen.run code (if patBinary code then k else 2 * k)
  let (c, bs) := (c.modLane n m fun l => { l with gen := g }).flipBits n m bs
  c.txSyms n m (!patBinary code) (patMap code bs)

/-- The checker compares received symbols: in TEST with CHK_EN = 1 (R63, R64). Both counts saturate at 2^48 - 1. -/
def Chip.checkSyms (c : Chip) (n m : Nat) (l : List Nat) : Chip :=
  if c.laneState n m = lsTest ∧ c.fb (F.lnPrbsCtrlChkEn n m) then
    let code := c.f (F.lnPrbsCtrlChkPat n m)
    let (c, g) := c.rxSyms n m (!patBinary code) l
    let k := (c.lane n m).chk.take code (patUnmap code g)
    let c := c.modLane n m fun l => { l with
      chk := { k with bits := 0, errs := 0, lost := false }
      bitCnt := satAdd 48 l.bitCnt k.bits, errCnt := satAdd 48 l.errCnt k.errs }
    let c := c.setFb (F.lnPrbsStatLock n m) k.locked
    let c := if k.lost then c.ev (F.lnEvtPrbsLol n m) else c
    if k.locked then c.cdrSeen n m else c
  else c

/-- The lane sends `k` symbols of its generator: to its ball, or in near-end serial loopback to its own receiver while the
ball stays at electrical idle; in far-end loopback the transmitter serves the receiver (R66). -/
def Chip.testRun (c : Chip) (n m k : Nat) : Chip :=
  if c.genOn n m then
    match c.f (F.lnCtrlLoopback n m) with
    | 0 => let (c, l) := c.genSyms n m k; c.emit (.levels n m l)
    | 1 => let (c, l) := c.genSyms n m k; c.checkSyms n m l
    | _ => c
  else c

/-- Symbols reach a lane in TEST: they are checked, and in far-end loopback sent again without decoding; in near-end loopback
the receiver takes as many symbols of its own transmitter instead (R64, R66). -/
def Chip.testRx (c : Chip) (n m : Nat) (l : List Nat) : Chip :=
  if c.laneState n m = lsTest then
    match c.f (F.lnCtrlLoopback n m) with
    | 1 => c.testRun n m l.length
    | 2 => (c.checkSyms n m l).emit
        (.levels n m (invert (c.fb (F.lnCtrlTxInv n m)) (invert (c.fb (F.lnCtrlRxInv n m)) l)))
    | _ => c.checkSyms n m l
  else c

/-- A read of an _LO register: the low 32 bits are returned and the upper 16 are latched into _HI (R64). -/
def Chip.prbsReadLo (c : Chip) (n m : Nat) (bitsCount : Bool) : Chip × Word :=
  let v := if bitsCount then (c.lane n m).bitCnt else (c.lane n m).errCnt
  let c := c.setF (if bitsCount then F.lnPrbsBitsHiCountHi n m else F.lnPrbsErrHiCountHi n m) (v / 2 ^ 32)
  (c.setF (if bitsCount then F.lnPrbsBitsLoCountLo n m else F.lnPrbsErrLoCountLo n m) (v % 2 ^ 32),
   BitVec.ofNat 32 v)

/-- Bits leave the lane: in ACTIVE, and in TEST while the generator runs (R65). -/
def Chip.laneSends (c : Chip) (n m : Nat) : Bool := c.laneState n m == lsActive || c.genOn n m

/-- The effect of a write of LN_INJ (R65). -/
def Chip.injWritten (c : Chip) (n m : Nat) : Chip :=
  let k := match c.f (F.lnInjMode n m) with
    | 1 => 1
    | 3 => c.f (F.lnInjBurstLen n m) + 1
    | _ => 0
  let c := c.modLane n m fun l => { l with injPend := k }
  if c.laneSends n m then c.applyInjection n m else c

/-- One error of the periodic mode falls due (R65); counting pauses while the lane is idle. -/
def Chip.injPeriodic (c : Chip) (n m : Nat) : Chip :=
  if c.f (F.lnInjMode n m) = 2 ∧ c.laneSends n m then c.inject n m 1 else c

/-! ### Lane maps (R9, R67) -/

def Chip.mapOf (c : Chip) (n k : Nat) : Nat := c.f (F.laneMapLog n k)

/-- The physical lanes of a block that carry a logical lane. -/
def Chip.mapped (c : Chip) (n : Nat) : List Nat := (List.range (logicalCount n)).map (c.mapOf n)

/-- The unmapped lane of a block (R9). -/
def Chip.spareLane (c : Chip) (n : Nat) : Nat :=
  ((List.range (laneCount n)).find? fun m => !(c.mapped n).contains m).getD (laneCount n - 1)

/-- LN_STATE.MAPPED follows LANE_MAP (R9). -/
def Chip.syncMapped (c : Chip) (n : Nat) : Chip :=
  let ms := c.mapped n
  c.each (List.range (laneCount n)) fun c m => c.setFb (F.lnStateMapped n m) (ms.contains m)

/-- Logical lane `k` moves to physical lane `m` (R67, R115, R297). -/
def Chip.remap (c : Chip) (n k m : Nat) : Chip := (c.setF (F.laneMapLog n k) m).syncMapped n

/-! ### Spare conditioning (R69) -/

/-- A lane record of the option store (R447). -/
def laneRecAddr (n : Nat) : Nat := 0x1580 + n

/-- Barring a physical lane in the lane record (R442, R447). -/
def Chip.barLane (c : Chip) (n m : Nat) : Chip :=
  c.setOptWord (laneRecAddr n) (c.optWord (laneRecAddr n) ||| bitMask m 1)

def Chip.laneBarred (c : Chip) (n m : Nat) : Bool := bitAt (c.optWord (laneRecAddr n)) m

/-- The spare is offered to the link layer: usable and not barred (R69, R442). -/
def Chip.spareUsable (c : Chip) (n : Nat) : Bool :=
  !c.fb (F.spareStatUnusable n) && !c.laneBarred n (c.spareLane n)

/-- Conditioning may run on the spare now (R69). -/
def Chip.condReady (c : Chip) (n : Nat) : Bool :=
  c.fb (F.spareCondEn n) && !c.fb (F.spareStatUnusable n) && c.laneState n (c.spareLane n) == lsOff

/-- A run starts from the reset coefficient values, with near-end serial loopback (R47, R69). -/
def Chip.condStart (c : Chip) (n : Nat) : Chip :=
  let m := c.spareLane n
  ((c.resetCoeffs n m).setF (F.lnCtrlLoopback n m) 1).laneGo n m lsCond

/-- A conditioning run ends without a result: its engine has been isolated (R253). -/
def Chip.condAbort (c : Chip) (n : Nat) : Chip :=
  let m := c.spareLane n
  if c.laneState n m = lsCond then (c.setF (F.lnCtrlLoopback n m) 0).laneOff n m else c

/-- A conditioning run ends: its result is recorded and the lane returns to OFF (R48, R69). -/
def Chip.condEnd (c : Chip) (n : Nat) (pass : Bool) : Chip :=
  let m := c.spareLane n
  if c.laneState n m = lsCond then
    let c := c.condAbort n
    let c := ((c.inc (F.spareStatRuns n)).setFb (F.spareStatLastPass n) pass).setFb (F.spareStatLastFail n) !pass
    if pass then c.modPort n fun _ => ⟨0, false⟩
    else if (c.port n).condFails = 0 then c.modPort n fun _ => ⟨1, true⟩
    else
      let c := (c.modPort n fun _ => ⟨0, false⟩).setF (F.spareStatUnusable n) 1
      (c.barLane n m).report 0x06 (laneInst n m)
  else c

/-- The lane taken out of use by a completed SWAP or spare retrain: the spare is spent, and the lane is barred when the
reaction was fault-driven (R442, R447). -/
def Chip.spareSpent (c : Chip) (n old reason : Nat) : Chip :=
  let c := c.setF (F.spareStatUnusable n) 1
  if 1 ≤ reason ∧ reason ≤ 5 then
    let w := (c.barLane n old).optWord (laneRecAddr n)
    (c.barLane n old).setOptWord (laneRecAddr n) (putBits w 16 16 (satAdd 16 (getBits w 16 16) 1))
  else c

/-! ### Register writes (R43, R52, R53, R59, R60, R62, R63, R65, R67, R71) -/

/-- The tap sum of R52 and the reserved AMP codes. -/
def txeqLegal (v : Word) : Bool :=
  (toSigned 5 (getBits v 24 5)).natAbs + (toSigned 5 (getBits v 16 5)).natAbs + getBits v 8 6
    + (toSigned 5 (getBits v 0 5)).natAbs ≤ 63

/-- The rejecting rules of a write at offset `off` of a lane window. DESIGN CHOICE: a write of LN_CTRL outside OFF and TEST
counts as one of R53's writes only where it changes a bit of 6:1, so that TEST_EN can be written (log entry 53). -/
def Chip.laneChecks (c : Chip) (n m off : Nat) (v : Word) : List Nat :=
  let st := c.laneState n m
  let quiet : Bool := st == lsOff || st == lsTest
  match off with
  | 0x00 =>
    let old := c.rd (R.lnCtrl n m)
    rej (!quiet && getBits v 1 6 != getBits old 1 6) 0x04
      ++ rej (bitAt v 7 && (st == lsTrain || st == lsActive)) 0x04
  | 0x08 => rej (!txeqLegal (if n = 9 then v else v &&& ~~~ bitMask 24 5)) 0x03 ++ rej (!quiet) 0x04
  | 0x0C | 0x10 | 0x14 | 0x18 | 0x1C => rej (c.fb (F.lnAdaptAdaptEn n m)) 0x04
  | 0x24 => rej (getBits v 8 8 ≤ getBits v 0 8) 0x03
  | 0x34 => rej ((bitAt v 31 || bitAt v 30) && st != lsTest) 0x04
  | 0x4C => rej (st != lsTest && st != lsActive) 0x04
  | _ => []

/-- What a performed write at offset `off` of a lane window does beside storing the fields. DESIGN CHOICE: TEST_EN = 1
written in IDLE_DEEP, IDLE_FAST or COND starts nothing (R48), and the bit reads back as written (log entry 53). -/
def Chip.laneWritten (c : Chip) (n m off : Nat) (old v : Word) : Chip :=
  match off with
  | 0x00 =>
    let st := c.laneState n m
    let c := if bitAt v 1 && !bitAt old 1 then c.modLane n m fun l => { l with precTx := 0 } else c
    let c := if bitAt v 2 && !bitAt old 2 then c.modLane n m fun l => { l with precRx := 0 } else c
    if bitAt v 7 && st == lsOff then c.laneGo n m lsTest
    else if !bitAt v 7 && st == lsTest then (c.setF (F.lnCtrlLoopback n m) 0).laneOff n m
    else c
  | 0x20 =>
    if bitAt v 31 then (c.modLane n m fun l => { l with good := c.laneSet n m }).clearFreeze n m else c
  | 0x34 =>
    let c := if bitAt v 0 then c.modLane n m fun l => { l with bitCnt := 0, errCnt := 0 } else c
    let c := if bitAt v 31 && (!bitAt old 31 || getBits v 24 4 != getBits old 24 4) then
        let (k, c) := c.fresh 17
        c.modLane n m fun l => { l with gen := PatGen.start (c.f (F.lnPrbsCtrlGenPat n m)) k }
      else c
    let c := if bitAt v 30 && bitAt old 30 && getBits v 20 4 == getBits old 20 4 then c
      else (c.setF (F.lnPrbsStatLock n m) 0).modLane n m fun l => { l with chk := PatChk.reset }
    if c.laneSends n m then c.applyInjection n m else c
  | 0x4C => c.injWritten n m
  | _ => c

/-- The rejecting rules of a write of LANE_MAP, LANE_RATE or SPARE_COND (R43, R67, R69). -/
def Chip.portChecks (c : Chip) (n off : Nat) (v : Word) : List Nat :=
  let states := (List.range (laneCount n)).map (c.laneState n)
  match off with
  | 0x8F00 =>
    let ms := (List.range (logicalCount n)).map fun k => getBits v (4 * k) 4
    rej (!(ms.all (· < laneCount n) && decide ms.Nodup)) 0x03
      ++ rej (!states.all fun st => st == lsOff || st == lsTest) 0x04
  | 0x8F04 => rej (getBits v 0 2 != c.f (F.laneRateRate n) && !states.all (· == lsOff) && n < 8) 0x04
  | _ => []

def Chip.portWritten (c : Chip) (n off : Nat) : Chip := if off = 0x8F00 then c.syncMapped n else c

end Sys2Proof.Machine
end

