-- ==== Sys2Proof/Machine/Shp.lean ====
section
/-! DEFINITION. Shp.lean: the Shepherd (09_shepherd.md, R241 to R260): engine states, clock steps, sensing, the energy
account, dispatch, spares and wear (R443, R444). -/

namespace Sys2Proof.Machine

def engActive : Nat := 0
def engSpare : Nat := 1
def engRetired : Nat := 2
def engTesting : Nat := 3

def Chip.modShp (c : Chip) (g : ShpS → ShpS) : Chip := { c with shp := g c.shp }

def Chip.cluster (c : Chip) (k : Nat) : ClusterS := (c.shp.clusters[k]?).getD ClusterS.reset

def Chip.modCluster (c : Chip) (k : Nat) (g : ClusterS → ClusterS) : Chip :=
  c.modShp fun s => { s with clusters := s.clusters.modify k g }

/-! ### Engines (R241) -/

def engField (e : Nat) : Fld :=
  if e % 17 = 16 then F.shpCMap1Eng16 (e / 17) else ⟨R.shpCMap0 (e / 17), 2 * (e % 17), 2⟩

def Chip.engState (c : Chip) (e : Nat) : Nat := c.f (engField e)

/-- Engines of cluster k (R241). -/
def clusterEngines (k : Nat) : List Nat := (List.range 17).map (17 * k + ·)

def Chip.nAct (c : Chip) (k : Nat) : Nat := ((clusterEngines k).filter fun e => c.engState e == engActive).length

/-! ### Capacity (R242, R243) -/

/-- The clock of a step in MHz (R242). -/
def stepClock (st : Nat) : Nat := if st = 0 then 1250 else if st = 1 then 1000 else 800

def Chip.stepOf (c : Chip) (k : Nat) : Nat := c.f (F.shpCStatStep k)

/-- The clock that counts: the lower one while a change is in progress (R242). -/
def Chip.countedClock (c : Chip) (k : Nat) : Nat :=
  match (c.cluster k).fromStep with
  | some o => min (stepClock o) (stepClock (c.stepOf k))
  | none => stepClock (c.stepOf k)

/-- 64 × K in MHz for the cluster clocks that `g` names. -/
def Chip.cap64 (c : Chip) (g : Nat → Nat) : Nat := ((List.range 4).map fun k => c.nAct k * g k).sum

def Chip.need (c : Chip) : Nat := max (c.f F.shpNeedNeedAct) (c.f F.shpNeedNeedStg)

/-- K ≥ NEED for the cluster clocks that `g` names. -/
def Chip.enough (c : Chip) (g : Nat → Nat) : Bool := decide (64 * c.need ≤ c.cap64 g)

/-- SHP_Ck_STAT.NACT and SHP_CAP follow the engines and the clocks. -/
def Chip.capShow (c : Chip) : Chip :=
  let c := c.each (List.range 4) fun c k => c.setF (F.shpCStatNact k) (c.nAct k)
  c.setF F.shpCapCap (c.cap64 c.countedClock / 64)

/-- The Fold 0 need of a job (R243). -/
def jobNeed (fmax width cref : Nat) : Nat := ceilDiv (fmax * width * cref) 128000000

/-! ### Clock steps (R242, R254) -/

def stepField (k : Nat) : Fld :=
  match k with
  | 0 => F.shpStatStep0
  | 1 => F.shpStatStep1
  | 2 => F.shpStatStep2
  | _ => F.shpStatStep3

/-- A step change starts (R242); STEP shows the new step from now on. -/
def Chip.stepTo (c : Chip) (k st : Nat) : Chip :=
  let old := c.stepOf k
  let c := (c.setF (F.shpCStatStep k) st).setF (stepField k) st
  let c := (c.modCluster k fun s => { s with fromStep := some old }).ev F.shpEvtStep
  (if old < st then c.inc F.shpStepDnCount else c.inc F.shpStepUpCount).capShow

/-- A cluster may start a step change. -/
def Chip.steady (c : Chip) (k : Nat) : Bool := (c.cluster k).fromStep.isNone

/-- CEIL in 1/16 °C. -/
def Chip.ceil16 (c : Chip) : Int := 16 * (c.f F.shpThermCeil : Int)

/-- The cluster temperature T_k in 1/16 °C; CEIL without a valid sensor (R247). -/
def Chip.tempOf (c : Chip) (k : Nat) : Int :=
  if c.f (F.shpCStatValid k) = 0 then c.ceil16 else c.fs (F.shpCStatTmax k)

/-- The clusters by rising temperature, the lowest number first on a tie. -/
def Chip.coolFirst (c : Chip) : List Nat := sortBy (fun j k => decide (c.tempOf j < c.tempOf k)) (List.range 4)

def Chip.hotFirst (c : Chip) : List Nat := sortBy (fun j k => decide (c.tempOf k < c.tempOf j)) (List.range 4)

/-- FLOOR becomes or stays 1; the fault is reported on entry (R256). -/
def Chip.floorFault (c : Chip) : Chip :=
  let c := if c.fb F.shpStatFloor then c else c.report 0x41 0
  (c.setF F.shpStatFloor 1).ev F.shpEvtFloor

/-- The clocks that count after cluster k has gone to step `st` (R242, R254). -/
def Chip.stepsWith (c : Chip) (k st : Nat) : Nat → Nat := fun j => if j = k then stepClock st else c.countedClock j

/-- The ceiling rule for one cluster (R254, step 2): the state, whether it stepped and whether it held. -/
def Chip.ceilingOne (c : Chip) (k : Nat) : Chip × Bool × Bool :=
  if c.tempOf k < c.ceil16 ∨ 2 ≤ c.stepOf k ∨ !c.steady k then (c, false, false)
  else if c.enough (c.stepsWith k (c.stepOf k + 1)) then (c.stepTo k (c.stepOf k + 1), true, false)
  else (c.floorFault, false, true)

def Chip.ceilingRule (c : Chip) : Chip × Bool × Bool :=
  c.hotFirst.foldl (fun (r : Chip × Bool × Bool) k =>
    let (c, s, h) := r.1.ceilingOne k
    (c, r.2.1 || s, r.2.2 || h)) (c, false, false)

/-- The power rule (R254, step 3). -/
def Chip.powerRule (c : Chip) : Chip × Bool :=
  if c.f F.shpFlockPwrMw ≤ 1000 * c.shp.allow then (c, false)
  else
    match c.hotFirst.find? fun k => decide (c.stepOf k < 2) && c.steady k && c.enough (c.stepsWith k (c.stepOf k + 1)) with
    | some k => (c.stepTo k (c.stepOf k + 1), true)
    | none => ((c.setF F.shpStatOver 1).ev F.shpEvtOverBudget, false)

/-- The clocks that count for the capacity rule: the step-ups in `ups` are its own and count as done. -/
def Chip.upClocks (c : Chip) (ups : List Nat) : Nat → Nat :=
  fun k => if ups.contains k then stepClock (c.stepOf k) else c.countedClock k

/-- The step-ups of the capacity rule, coolest cluster first, until K ≥ NEED (R254, step 4): the device and the clusters that
stepped up. A cluster whose clock is still changing waits. -/
def Chip.capacityUps (c : Chip) : Chip × List Nat :=
  c.coolFirst.foldl (fun (r : Chip × List Nat) k =>
    if !r.1.enough (r.1.upClocks r.2) && decide (r.1.f (F.shpCLimitLimit k) < r.1.stepOf k) && r.1.steady k then
      (r.1.stepTo k (r.1.stepOf k - 1), k :: r.2) else r) (c, [])

/-- The capacity rule of the epoch (R254, step 4): the device, whether a cluster stepped up, and whether K ≥ NEED then. -/
def Chip.capacityRule (c : Chip) : Chip × Bool × Bool :=
  let (c, ups) := c.capacityUps
  let ok := c.enough (c.upClocks ups)
  (if ok then c else c.floorFault, !ups.isEmpty, ok)

/-- The capacity rule outside the epoch (R255): it takes up to two step changes a cluster, so K stays below NEED after it
only where no change is in progress and no cluster has a step left (R256). -/
def Chip.capacityNow (c : Chip) : Chip :=
  let (c, ups) := c.capacityUps
  let more := (List.range 4).any fun k => !c.steady k || decide (c.f (F.shpCLimitLimit k) < c.stepOf k)
  if c.enough (c.upClocks ups) || more then c else c.floorFault

/-- The step-up rule (R254, step 5). -/
def Chip.stepUpRule (c : Chip) : Chip :=
  if 15000 * c.shp.allow < 16 * c.f F.shpFlockPwrMw then c
  else
    match c.coolFirst.find? fun k => decide (c.f (F.shpCLimitLimit k) < c.stepOf k) && c.steady k
        && decide (c.f F.shpCtrlUpEp ≤ (c.cluster k).cool) with
    | some k => c.stepTo k (c.stepOf k - 1)
    | none => c

/-- A clock step change completes (R242). When no change is in progress any more, a capacity still short of the need steps on
(R255). -/
def Chip.stepDone (c : Chip) (k : Nat) : Chip :=
  if k < 4 ∧ !c.steady k then
    let c := (c.modCluster k fun s => { s with fromStep := none }).capShow
    if c.enough c.countedClock || !(List.range 4).all c.steady then c else c.capacityNow
  else c

/-! ### Sensing (R247, R248) -/

def tempField (k i : Nat) : Fld :=
  match i with
  | 0 => F.shpCTemp0S0 k
  | 1 => F.shpCTemp0S1 k
  | 2 => F.shpCTemp1S2 k
  | _ => F.shpCTemp1S3 k

/-- T_k and the valid bits shown (R247). -/
def Chip.tempShow (c : Chip) (k : Nat) : Chip :=
  let s := c.cluster k
  let ok := (List.range 4).filter fun i => s.seen.getD i false && (s.badRun.getD i none).isNone
  let c := c.setF (F.shpCStatValid k) ((ok.map fun i => 2 ^ i).sum)
  match (ok.filter fun i => c.f (tempField k i) != 0x8000).map fun i => c.fs (tempField k i) with
  | [] => c.setF (F.shpCStatTmax k) 0x8000
  | t :: ts => c.setFs (F.shpCStatTmax k) (ts.foldl max t)

/-- One reading of sensor i of cluster k in 1/16 °C, none for a failed conversion (R247). -/
def Chip.sensorReading (c : Chip) (k i : Nat) (r : Option Int) : Chip :=
  if k < 4 ∧ i < 4 then
    let s := c.cluster k
    match r.filter fun t => decide (-880 ≤ t) && decide (t ≤ 2800) with
    | some t =>
      let run := match s.badRun.getD i none with
        | some n => if n + 1 < 100 then some (n + 1) else none
        | none => none
      ((c.setFs (tempField k i) t).modCluster k fun s =>
        { s with seen := s.seen.set i true, badRun := s.badRun.set i run }).tempShow k
    | none =>
      let c := if (s.badRun.getD i none).isNone then (c.ev F.shpEvtSensorFail).report 0x40 k else c
      ((c.setF (tempField k i) 0x8000).modCluster k fun s => { s with badRun := s.badRun.set i (some 0) }).tempShow k
  else c

/-- One power reading of cluster k in mW (R248). -/
def Chip.powerReading (c : Chip) (k : Nat) (mw : Int) : Chip :=
  if k < 4 then
    if 0 ≤ mw ∧ mw ≤ 80000 then c.modCluster k fun s => { s with pwSum := s.pwSum + mw.toNat, pwCnt := s.pwCnt + 1 }
    else
      let c := if (c.cluster k).reported then c else (c.ev F.shpEvtSensorFail).report 0x40 k
      c.modCluster k fun s => { s with pwBad := true, reported := true }
  else c

/-! ### Energy (R249, R250) -/

def Chip.remSet (c : Chip) (i : Int) : Chip := (c.modShp fun s => { s with rem := i }).setFs F.shpRemRem (satSigned 32 i)

def Chip.ecyc (c : Chip) (st : Nat) : Nat :=
  if st = 0 then c.f F.shpEcycE0 else if st = 1 then c.f F.shpEcycE1 else c.f F.shpEcycE2

/-- The cost of an item on cluster k in nJ (R250). -/
def Chip.itemCost (c : Chip) (w : WorkItem) (k : Nat) : Nat := ceilDiv (w.cycles16 * c.ecyc (c.stepOf k)) 16000

/-! ### The epoch (R254) -/

/-- The tally bin of a temperature (R444). -/
def tallyBin (t : Int) : Nat :=
  if t < 1360 then 0 else if t < 1760 then 1 else if t < 2160 then 2 else if t < 2400 then 3 else 4

/-- Step 1: temperatures, powers and tallies are latched (R248, R254, R444). -/
def Chip.epochLatch (c : Chip) : Chip :=
  let c := c.modShp fun s => { s with allow := c.f F.shpBudgetWWatts - c.f F.shpBaseWWatts }
  let c := c.each (List.range 4) fun c k =>
    let s := c.cluster k
    let c := if s.pwBad then c.setF (F.shpCPwrMw k) (min (s.charged / 100) (2 ^ 20 - 1))
      else if s.pwCnt = 0 then c else c.setF (F.shpCPwrMw k) (s.pwSum / s.pwCnt)
    let t := c.tempOf k
    let hot := decide (c.ceil16 ≤ t)
    let c := if hot && !s.hot then c.ev F.shpEvtCeil else c
    let cool := decide (t ≤ c.ceil16 - 16 * (c.f F.shpThermHyst : Int))
    let c := c.modShp fun sh => { sh with tally := sh.tally.modify k fun l => l.modify (tallyBin t) (· + 1) }
    c.modCluster k fun s => { s with
      pwSum := 0, pwCnt := 0, pwBad := false, charged := 0, hot := hot, cool := if cool then s.cool + 1 else 0 }
  let total := ((List.range 4).map fun k => c.f (F.shpCPwrMw k)).sum
  let powers := (total :: c.shp.powers).take 64
  let win := powers.take (2 ^ c.f F.shpCtrlPwrLog2)
  (c.modShp fun s => { s with powers := powers }).setF F.shpFlockPwrMw (min (win.sum / max 1 win.length) (2 ^ 20 - 1))

/-- A cluster faster than its limit steps down to it (R257); while the floor fault stands, only where K ≥ NEED stays
(R256). -/
def Chip.limitRule (c : Chip) : Chip :=
  c.each (List.range 4) fun c k =>
    let lim := c.f (F.shpCLimitLimit k)
    if c.stepOf k < lim ∧ c.steady k ∧ (!c.fb F.shpStatFloor || c.enough (c.stepsWith k lim)) then c.stepTo k lim else c

/-- Step 6: the account is refilled, FLOOR and OVER clear (R250, R254, R256); `ok` says that K ≥ NEED after step 4. -/
def Chip.epochEnd (c : Chip) (held ok : Bool) : Chip :=
  let a : Int := c.shp.allow * 100000
  let c := c.remSet (min (c.shp.rem + a) (2 * a))
  let c := if !held && ok then c.setF F.shpStatFloor 0 else c
  let c := if c.f F.shpFlockPwrMw ≤ 1000 * c.shp.allow then c.setF F.shpStatOver 0 else c
  if c.fb F.shpStatFloor then c.inc F.shpFloorCntCount else c

def Chip.shpEpoch (c : Chip) : Chip :=
  let (c, dn, held) := (c.epochLatch.limitRule).ceilingRule
  let (c, pw) := if dn then (c, false) else c.powerRule
  let (c, up, ok) := c.capacityRule
  let c := if dn || pw || up then c else c.stepUpRule
  c.epochEnd held ok

/-! ### The queues (R244, R251, R252) -/

def Chip.fband (c : Chip) (bseq : Nat) : Option FBand := c.ie.bands.find? fun b => b.band.bseq == bseq

def Chip.modFband (c : Chip) (bseq : Nat) (g : FBand → FBand) : Chip :=
  { c with ie := { c.ie with bands := c.ie.bands.map fun b => if b.band.bseq = bseq then g b else b } }

/-- The slot of the band is still readable (R155). -/
def Chip.slotReadable (c : Chip) (bseq : Nat) : Bool :=
  match c.stc.slots.getD (bseq % 3) none with
  | some b => b.bseq == bseq
  | none => false

/-- Order within a fold: BSEQ, then strip. -/
def itemLt (v w : WorkItem) : Bool :=
  decide (v.fold < w.fold) || (v.fold == w.fold && v.fold != 3 &&
    (decide (sdiff32 v.bseq w.bseq < 0) || (v.bseq == w.bseq && decide (v.strip < w.strip))))

def Chip.enqueue (c : Chip) (w : WorkItem) : Chip := c.modShp fun s => { s with queue := insertBy itemLt w s.queue }

def Chip.sliceSt (c : Chip) (bseq s : Nat) : SliceSt :=
  match c.fband bseq with
  | some b => ((b.slices[s]?).map (·.st)).getD .done
  | none => .done

/-- An item of the queue may start (R244, R171). -/
def Chip.eligible (c : Chip) (w : WorkItem) : Bool :=
  match w.fold with
  | 0 => match c.fband w.bseq with
    | some b => b.loaded && !b.joinWait
    | none => false
  | 1 => match c.fband w.bseq with
    | some b => b.colour == 0 && b.slices.all fun s => s.st != .waiting && s.st != .running
    | none => false
  | 2 => c.slotReadable w.bseq && (match c.fband w.bseq with
    | some b => !b.compared || c.sliceSt w.bseq w.strip == .done
    | none => true)
  | _ => !w.waits && (match w.kind with
    | 0 => true
    | 1 => c.scrubbable w.bseq
    | _ => c.condReady w.bseq)

/-- An engine takes work: ACTIVE, without an item, not leaving. -/
def Chip.engFree (c : Chip) (e : Nat) : Bool :=
  c.engState e == engActive && !(c.shp.run.any fun p => p.1 == e) && !c.shp.retiring.contains e

def Chip.freeEngine (c : Chip) (k : Nat) : Option Nat := (clusterEngines k).find? c.engFree

/-- The engine an item would start on: the lowest free engine of the coolest candidate cluster (R251). A self-test piece
runs on the engine it tests. -/
def Chip.placeFor (c : Chip) (w : WorkItem) : Option Nat :=
  let cand := c.coolFirst.filter fun k => (c.freeEngine k).isSome && (w.fold == 0 || decide (c.tempOf k < c.ceil16))
  if w.fold = 3 ∧ w.kind = 0 then (if cand.contains (w.bseq / 17) ∧ c.engFree w.bseq then some w.bseq else none)
  else cand.head?.bind c.freeEngine

def Chip.setSlice (c : Chip) (bseq s : Nat) (st : SliceSt) : Chip :=
  c.modFband bseq fun b => { b with slices := b.slices.modify s fun x => { x with st := st } }

/-- What a background piece does as it starts: conditioning runs on the spare (R69). A self-test and a scrub piece do what they do
when they end. -/
def Chip.backgroundStart (c : Chip) (w : WorkItem) : Chip := if w.kind = 2 then c.condStart w.bseq else c

/-- An item starts: it is charged and leaves its queue (R250, R251). -/
def Chip.startItem (c : Chip) (w : WorkItem) (e : Nat) : Chip :=
  let cost := c.itemCost w (e / 17)
  let c := c.modShp fun s => { s with queue := s.queue.erase w, run := s.run ++ [(e, w)] }
  let c := (c.remSet (c.shp.rem - (cost : Int))).modCluster (e / 17) fun s => { s with charged := s.charged + cost }
  let c := c.inc (F.shpStartCount w.fold)
  if w.fold = 0 then c.setSlice w.bseq w.strip .running
  else if w.fold = 3 then c.backgroundStart w else c

def Chip.foldOn (c : Chip) (f : Nat) : Bool :=
  match f with
  | 1 => c.fb F.shpCtrlF1En
  | 3 => c.fb F.shpCtrlF3En
  | _ => true

/-- The first entry of the queue that equals the item is marked deferred (R251). -/
def markDeferred (w : WorkItem) : List WorkItem → List WorkItem
  | [] => []
  | v :: vs => if v = w then { v with deferred := true } :: vs else v :: markDeferred w vs

/-- One fold of a dispatch pass: the state and whether an item started (R251). -/
def Chip.offerFold (c : Chip) (f : Nat) : Chip × Bool :=
  if !c.foldOn f then (c, false)
  else
    match c.shp.queue.find? fun w => w.fold == f && c.eligible w with
    | none => (c, false)
    | some w =>
      match c.placeFor w with
      | none => (c, false)
      | some e =>
        if f = 0 ∨ (c.itemCost w (e / 17) : Int) ≤ c.shp.rem then (c.startItem w e, true)
        else if w.deferred then (c, false)
        else
          ((c.modShp fun s => { s with queue := markDeferred w s.queue }).inc (F.shpDeferCount (f - 1)), false)

/-- One pass over the folds, ended by the first start. -/
def Chip.dispatchPass (c : Chip) : Chip × Bool :=
  (List.range 4).foldl (fun (r : Chip × Bool) f => if r.2 then r else r.1.offerFold f) (c, false)

/-- Passes until one starts nothing; every start takes one of the 68 engines. -/
def Chip.dispatchLoop : Nat → Chip → Chip
  | 0, c => c
  | n + 1, c => let (c', s) := c.dispatchPass; if s then Chip.dispatchLoop n c' else c'

def Chip.dispatch (c : Chip) : Chip := Chip.dispatchLoop 69 c

/-- A scrub piece or a conditioning run falls due: it waits in Fold 3, and the dispatch runs. The spec states no estimate for
these pieces, so it is a free value within the bound of R245 (log entry 33). A piece of the same work that an isolation returned is due
again with it (R253). -/
def Chip.backgroundDue (c : Chip) (w : WorkItem) : Chip :=
  let (k, c) := c.fresh 11
  let same := fun (v : WorkItem) => v.fold == 3 && v.kind == w.kind && v.bseq == w.bseq
  (c.modShp fun s => { s with queue :=
    (s.queue.map fun v => if same v then { v with waits := false } else v) ++ [{ w with cycles16 := 16 * (k % 20481) }] }).dispatch

/-- The scrubber's next piece falls due (R471); `hits` are the erroneous words it meets, `pass` the end of a pass. -/
def Chip.scrubDue (c : Chip) (n : Nat) (hits : List (Nat × Bool)) (pass : Bool) : Chip :=
  c.backgroundDue { fold := 3, bseq := n, strip := 0, kind := 1, tiles := [], cycles16 := 0, deferred := false, hits := hits, pass := pass }

/-- The conditioning of a block waits or runs. -/
def Chip.condQueued (c : Chip) (n : Nat) : Bool :=
  c.shp.queue.any (fun w => w.fold == 3 && w.kind == 2 && w.bseq == n)

/-- A run that an isolation ended waits for the next due time (R253). -/
def Chip.condWaits (c : Chip) (n : Nat) : Bool :=
  c.shp.queue.any (fun w => w.fold == 3 && w.kind == 2 && w.bseq == n && w.waits)

/-- Spare conditioning of a block falls due (R69, R246); a run that was returned to the queue is the one that is due (R253). -/
def Chip.condDue (c : Chip) (n : Nat) : Chip :=
  if c.fb (F.spareCondEn n) && !c.fb (F.spareStatUnusable n) then
    if c.condWaits n then
      (c.modShp fun s => { s with queue := s.queue.map fun w =>
        if w.fold == 3 && w.kind == 2 && w.bseq == n then { w with waits := false } else w }).dispatch
    else if c.condQueued n then c
    else c.backgroundDue { fold := 3, bseq := n, strip := 0, kind := 2, tiles := [], cycles16 := 0, deferred := false }
  else c

/-- The run that failed is repeated 1 s later (R69). -/
def Chip.condRepeat (c : Chip) (n : Nat) : Chip :=
  if (c.port n).condRetry then (c.modPort n fun p => { p with condRetry := false }).condDue n else c

/-! ### Engine states and substitution (R253, R259, R443) -/

/-- A change of an engine's state: the map, N_k, K and the engine map of the option store (R242, R443, R447). -/
def Chip.setEng (c : Chip) (e st : Nat) : Chip :=
  let c := (c.setF (engField e) st).capShow
  let i := 0x1500 + e / 16
  let w := putBits (c.optWord i) (2 * (e % 16)) 2 (if st = engTesting then engSpare else st)
  if w = c.optWord i then c else c.setOptWord i w

/-- An engine leaves ACTIVE (R253, R255, R259); what is queued of its self-test goes with it. -/
def Chip.retire (c : Chip) (e : Nat) : Chip :=
  let was := c.engState e == engActive
  let c := (c.setEng e engRetired).modShp fun s => { s with
    retiring := s.retiring.filter (· != e)
    queue := s.queue.filter fun w => !(w.fold == 3 && w.kind == 0 && w.bseq == e) }
  if was then c.capacityNow else c

/-- The item of an engine ends; an engine that leaves then retires (R259). -/
def Chip.engDone (c : Chip) (e : Nat) : Chip :=
  let c := c.modShp fun s => { s with run := s.run.filter fun p => p.1 != e }
  if c.shp.retiring.contains e then c.retire e else c

def Chip.running? (c : Chip) (e : Nat) : Option WorkItem := (c.shp.run.find? fun p => p.1 == e).map (·.2)

/-- The SPARE engine of a cluster (R443). -/
def Chip.spareOf (c : Chip) (k : Nat) : Option Nat := (clusterEngines k).find? fun e => c.engState e == engSpare

/-- Substitution at L2 (R259, R443): the spare enters TESTING; the Bool says that there was one. -/
def Chip.substitute (c : Chip) (e : Nat) : Chip × Bool :=
  match c.spareOf (e / 17) with
  | none => (c, false)
  | some sp =>
    let c := (c.setEng sp engTesting).modShp fun s => { s with tests := s.tests ++ [(sp, true)] }
    if c.engState e ≠ engActive then (c, true)
    else if (c.running? e).isSome then (c.modShp fun s => { s with retiring := s.retiring ++ [e] }, true)
    else (c.retire e, true)

/-- The boot test of every spare starts (R259). -/
def Chip.bootTests (c : Chip) : Chip :=
  c.each ((List.range 68).filter fun e => c.engState e == engSpare) fun c e =>
    (c.setEng e engTesting).modShp fun s => { s with tests := s.tests ++ [(e, false)] }

/-- A spare's known-answer test ends (R259). -/
def Chip.testDone (c : Chip) (e : Nat) (pass : Bool) : Chip :=
  match c.shp.tests.find? fun p => p.1 == e with
  | none => c
  | some (_, sub) =>
    let c := c.modShp fun s => { s with tests := s.tests.filter fun p => p.1 != e }
    match pass, sub with
    | true, true => ((c.setEng e engActive).ev F.shpEvtSpareIn).capacityNow
    | true, false => c.setEng e engSpare
    | false, true => (c.setEng e engRetired).report 0x22 e |>.capacityNow
    | false, false => (c.setEng e engRetired).report 0x22 e

/-- An item put back as the first of Fold 3, which stands last in the queue. -/
def firstOf3 (w : WorkItem) : List WorkItem → List WorkItem
  | [] => [w]
  | v :: vs => if v.fold = 3 then w :: v :: vs else v :: firstOf3 w vs

/-- The item of an engine ends without results and returns to its queue with its age (R253). -/
def Chip.itemBack (c : Chip) (e : Nat) : Chip :=
  let item := c.running? e
  let c := c.modShp fun s => { s with run := s.run.filter fun p => p.1 != e }
  match item with
  | none => c
  | some w =>
    match w.fold with
    | 0 =>
      if c.slotReadable w.bseq then (c.setSlice w.bseq w.strip .waiting).enqueue w
      else c.setSlice w.bseq w.strip .engineFault
    | 3 =>
      let c := c.modShp fun s => { s with queue := firstOf3 { w with waits := true } s.queue }
      if w.kind = 2 then c.condAbort w.bseq else c
    | _ => c.enqueue w

/-- Isolation of an engine at L3 (R253, R434). -/
def Chip.isolateEngine (c : Chip) (e : Nat) : Chip :=
  ((c.itemBack e).modShp fun s => { s with tests := s.tests.filter fun p => p.1 != e }).retire e

/-- The engines of a cluster restart (R409). -/
def Chip.clusterRestart (c : Chip) (k : Nat) : Chip :=
  c.each (clusterEngines k) Chip.itemBack

/-! ### Background pieces and wear (R443, R444) -/

/-- Self-test pieces fall due for every ACTIVE engine, 64 an engine (R443; the hour of R444 serves as their schedule). -/
def Chip.selfTestsDue (c : Chip) : Chip :=
  c.each ((List.range 68).filter fun e => c.engState e == engActive) fun c e =>
    let own := fun (w : WorkItem) => w.fold == 3 && w.kind == 0 && w.bseq == e
    if c.shp.queue.any own || c.shp.run.any (fun p => own p.2) then c
    else c.modShp fun s => { s with queue := s.queue ++
      [{ fold := 3, bseq := e, strip := 64, kind := 0, tiles := [], cycles16 := 320000, deferred := false }] }

/-- A background piece ends: a scrub piece has read its lines (R471); a failed known-answer test reports 0x21 (R443). -/
def Chip.backgroundDone (c : Chip) (e : Nat) (ok : Bool) : Chip :=
  match c.running? e with
  | some w =>
    if w.fold = 3 then
      let c := c.engDone e
      if w.kind = 1 then c.mcScrub w.bseq w.hits w.pass
      else if w.kind ≠ 0 then c
      else if !ok then c.report 0x21 e
      else if 1 < w.strip ∧ c.engState e = engActive then
        c.modShp fun s => { s with queue := s.queue ++ [{ w with strip := w.strip - 1, deferred := false }] }
      else c
    else c
  | none => c

/-- A parity error in an engine's local memories (R443). -/
def Chip.engineParity (c : Chip) (e : Nat) : Chip :=
  if e < 68 ∧ (c.engState e = engActive ∨ c.engState e = engTesting) then c.report 0x21 e else c

/-- Epochs of one hour (R254, R444). -/
def epochsPerHour : Nat := 36000000

/-- Weight of a temperature bin (R444). -/
def binWeight (b : Nat) : Nat := [1, 2, 8, 16, 16].getD b 0

def hoursAddr (k b : Nat) : Nat := 0x1560 + 5 * k + b

def wearAddr (e : Nat) : Nat := 0x1510 + e

/-- The epochs of cluster k in bin b that are in no hour count yet: those of this hour, and what past hours left below a whole one. -/
def Chip.tallied (c : Chip) (k b : Nat) : Nat := (c.shp.tally.getD k []).getD b 0 + (c.shp.part.getD k []).getD b 0

/-- Whole hours of cluster k in bin b that the tallies hold. -/
def Chip.tallyHours (c : Chip) (k b : Nat) : Nat := c.tallied k b / epochsPerHour

/-- The hourly addition to hour counts and wear (R444). DESIGN CHOICE: the hour counts hold whole hours; the epochs left below one are
kept, by every reset, so that a reset loses at most the last hour (log entry 36). -/
def Chip.wearAdd (c : Chip) : Chip :=
  let sat := fun (n : Nat) => BitVec.ofNat 32 (min n (2 ^ 32 - 1))
  let c := c.each (List.range 4) fun c k =>
    let weighted := ((List.range 5).map fun b => binWeight b * c.tallyHours k b).sum
    let c := c.each ((clusterEngines k).filter fun e => c.engState e == engActive) fun c e =>
      c.setOptWord (wearAddr e) (sat ((c.optWord (wearAddr e)).toNat + weighted))
    c.each (List.range 5) fun c b =>
      c.setOptWord (hoursAddr k b) (sat ((c.optWord (hoursAddr k b)).toNat + c.tallyHours k b))
  let left := (List.range 4).map fun k => (List.range 5).map fun b => c.tallied k b % epochsPerHour
  c.modShp fun s => { s with tally := List.replicate 4 [0, 0, 0, 0, 0], part := left }

/-- The hourly check of wear against the limit (R444). -/
def Chip.wearCheck (c : Chip) : Chip :=
  c.each ((List.range 68).filter fun e => c.engState e == engActive) fun c e =>
    if (c.optWord (wearAddr e)).toNat < c.f F.fcWearLimLim then c
    else if (c.spareOf (e / 17)).isSome then c.report 0x23 e
    else if c.shp.worn.contains e then c
    else (c.modShp fun s => { s with worn := s.worn ++ [e] }).report 0x23 e

def Chip.wearHourly (c : Chip) : Chip := (c.wearAdd.wearCheck).selfTestsDue

/-! ### Register writes (R246, R257, R260) -/

def Chip.shpChecks (c : Chip) (off : Nat) (v : Word) : List Nat :=
  if off = 0x008 then rej (bitAt v 31 && !c.fb F.shpCtrlF1En && c.running) 0x04
  else if 0x100 ≤ off ∧ off < 0x180 ∧ off % 0x20 = 0x18 then
    let k := (off - 0x100) / 0x20
    let lim := fun j => stepClock (if j = k then getBits v 0 2 else c.f (F.shpCLimitLimit j))
    rej (!c.enough lim) 0x06
  else []

end Sys2Proof.Machine
end

