-- ==== Sys2Proof/Machine/Product.lean ====
section
/-! DEFINITION. Product.lean: the products of a band: units, Fold 2 pieces, crops and line metadata (10_stream_output.md,
R261, R262, R268 to R276). -/

namespace Sys2Proof.Machine

def Chip.modSsp (c : Chip) (g : SspS → SspS) : Chip := { c with ssp := g c.ssp }

/-- Product Pk is on for a band (R238, R262). -/
def Chip.prodOn (c : Chip) (bank bseq k : Nat) : Bool :=
  let m := (c.job.masks.filter fun m => m.1 == bank && decide (0 ≤ sdiff32 bseq m.2.1)).getLast?
  (c.f (F.sspPselProd bank)).testBit k && !((m.map fun x => x.2.2.testBit k).getD false)

/-- A trigger log entry, all zero where the log no longer holds it (R26, R326). -/
def Chip.logOr (c : Chip) (id : Nat) : LogEntry :=
  (c.logEntry id).getD { id := id, enc := 0, time := 0, sent := 0, mark := false, bank := 0, dly := 0, ridx := 0 }

/-- PKT_MAX (R267). -/
def Chip.pktMax (c : Chip) : Nat := 64 * c.f F.sspCfgPkt64

/-- Channels selected by a CSEL field, in ascending order. -/
def selChans (csel : Nat) : List Nat := (List.range 4).filter csel.testBit

/-- Sample width of a DEPTH code (R268). -/
def depthBits (code : Nat) : Nat := [16, 12, 10, 8].getD code 8

/-- Depth reduction of a sample (R268). -/
def reduceDepth (bits v : Nat) : Nat := if bits = 16 then v else min (2 ^ bits - 1) ((v + 2 ^ (15 - bits)) / 2 ^ (16 - bits))

/-- Samples packed most significant bit first as one bit stream, the last byte filled with zeros (R13, R269). -/
def packSamples (bits : Nat) (l : List Nat) : List Byte :=
  let bs := l.flatMap fun v => (List.range bits).map fun i => v.testBit (bits - 1 - i)
  groupsBytes ((bs.length + 7) / 8) bs
where
  groupsBytes : Nat → List Bool → List Byte
    | 0, _ => []
    | n + 1, l =>
      let g := l.take 8
      BitVec.ofNat 8 (natOfBits (g ++ List.replicate (8 - g.length) false)) :: groupsBytes n (l.drop 8)

/-- A region of interest: first x, width, channels (R268). -/
def Chip.rois (c : Chip) (bank : Nat) : List (Nat × Nat × List Nat) :=
  (List.range (c.f (F.sspP0CfgNroi bank))).map fun i =>
    (16 * c.f (F.sspRoiX16 bank i), 16 * c.f (F.sspRoiW16 bank i), selChans (c.f (F.sspRoiCsel bank i)))

def Chip.p0Bin (c : Chip) (bank : Nat) : Nat := 2 ^ c.f (F.sspP0CfgBin bank)

/-- P0 that needs no Fold 2 work (R270). -/
def Chip.p0Plain (c : Chip) (bank : Nat) : Bool := c.p0Bin bank == 1 && c.f (F.sspP0CfgDepth bank) == 0

/-- Output samples of a strip of a band's P0 (R244, R268). -/
def Chip.p0Samples (c : Chip) (b : Band) (x0 w : Nat) : Nat :=
  let bin := c.p0Bin b.bank
  ((c.rois b.bank).map fun r =>
    (min (r.1 + r.2.1) (x0 + w) - max r.1 x0) / bin * ceilDiv b.nlines bin * r.2.2.length).sum

/-- Sizes of the pieces that a number of output samples is cut into (R245: 20,480 cycles of 8 samples). -/
def pieceSizes (n : Nat) : List Nat :=
  let k := ceilDiv n 163840
  (List.range k).map fun i => if i + 1 = k then n - 163840 * i else 163840

/-- The P0 pieces of a band (R244, R270). -/
def Chip.p0Items (c : Chip) (b : Band) : List WorkItem :=
  if !c.prodOn b.bank b.bseq 0 || c.p0Plain b.bank then []
  else ((strips b.width).zipIdx).flatMap fun s => (pieceSizes (c.p0Samples b s.1.1 s.1.2)).map fun n =>
    { fold := 2, bseq := b.bseq, strip := s.2, kind := 0, tiles := [], cycles16 := 2 * n, deferred := false }

/-! ### Crops (R271) -/

/-- The tiles that hold a fragment's pixels, widened by the margin (R271). -/
def cropTiles (margin txN : Nat) (px : List DefPx) : List Nat :=
  (List.range txN).filter fun tx => px.any fun p => decide (p.tx ≤ tx + margin) && decide (tx ≤ p.tx + margin)

/-- A list cut into groups of at most `n`. -/
def chunks {α : Type} (n : Nat) : Nat → List α → List (List α)
  | 0, _ => []
  | k + 1, l => if l.isEmpty then [] else l.take n :: chunks n k (l.drop n)

/-- The P1 pieces of a completed band slice, image and reference (R244, R245, R271). -/
def Chip.p1Items (c : Chip) (b : Band) (s : Nat) (frags : List (List DefPx)) : List WorkItem :=
  if !c.prodOn b.bank b.bseq 1 then []
  else
    let tiles := cropTiles (c.f (F.sspP1CfgMargin b.bank)) (b.width / 16) frags.flatten
    let nsel := max 1 (selChans (c.f (F.sspP1CfgCsel b.bank))).length
    let kinds := if c.fb (F.sspP1CfgRef b.bank) then [1, 2] else [1]
    kinds.flatMap fun k => (chunks (163840 / (256 * nsel)) (tiles.length + 1) tiles).map fun g =>
      { fold := 2, bseq := b.bseq, strip := s, kind := k, tiles := g, cycles16 := 2 * (256 * nsel * g.length)
        deferred := false }

/-- The image samples of a tile, 256 pixels of four channels; rows beyond NLINES give 0 (R271). -/
def tileImage (rows : List (List WPx)) (tx : Nat) : List (List Nat) :=
  (List.range 16).flatMap fun i => (List.range 16).map fun j =>
    let p := (((rows[i]?).bind fun r => r[16 * tx + j]?).getD (ndPx 3))
    [p.s0, p.s1, p.s2, p.s3]

/-- The regions of a strip as the field store holds them. -/
def Chip.storedRegions (c : Chip) (b : Band) (s : Nat) : List Region :=
  let w := ((strips b.width).getD s (0, 0)).2
  (List.range (regionStarts w).length).map fun r =>
    let (dx, dy, hold, st) := c.fieldGet b.bank b.width b.ty (regionBase b.width s + r)
    ⟨dx, dy, 0, st, hold⟩

/-- The strip that holds a web x. -/
def stripOf (width x : Nat) : Nat := min (x / 2048) ((strips width).length - 1)

/-- Where the warp reads the reference for each pixel of a tile, in 1/16 px and 1/16 line (R182). -/
def Chip.tilePos (c : Chip) (b : Band) (tx : Nat) : List (Int × Int) :=
  let s := stripOf b.width (16 * tx)
  let (x0, ws) := (strips b.width).getD s (0, 0)
  let regs := c.storedRegions b s
  (List.range 16).flatMap fun i => (List.range 16).map fun j =>
    let x := 16 * tx + j
    let d := fieldAt ws regs (x - x0)
    (16 * ((x : Int) + c.refX0 b.bank) + d.1, 16 * ((16 * b.ty + i : Nat) + c.refL0 b.bank) + d.2)

/-- The warped reference of a tile (R182, R271); outside and bad pixels give 0. -/
def Chip.tileReference (c : Chip) (bank : Nat) (bad : List Int) (pos : List (Int × Int)) : List (List Nat) :=
  pos.map fun p =>
    let yi := p.2 / 16
    let dead := c.refOutside bank yi || c.refOutside bank (yi + 1) || bad.contains yi || bad.contains (yi + 1)
    (List.range 4).map fun ch => if dead || c.ieCref bank ≤ ch then 0 else c.warpRef bank p.1 p.2 ch

/-- A reference piece reads the part of each reference line that a tile needs from DDR5: a part with an uncorrectable error is
bad, counted and reported as the ring loader does (R171, R271). -/
def Chip.tileRead (c : Chip) (fb : FBand) (tx : Nat) : Chip × List (List Nat) :=
  let b := fb.band.bank
  let pos := c.tilePos fb.band tx
  let xs := (pos.flatMap fun p => [(c.clampX b (p.1 / 16)).toNat, (c.clampX b (p.1 / 16 + 1)).toNat]).eraseDups
  let lo := xs.foldl min (xs.headD 0)
  let hi := xs.foldl max 0
  let ys := ((pos.flatMap fun p => [p.2 / 16, p.2 / 16 + 1]).eraseDups).filter fun y =>
    !c.refOutside b y && !fb.bad.contains y
  let (c, bad) := ys.foldl (fun (r : Chip × List Int) y =>
    let (c, e) := r.1.eccRead (c.f (F.ieRefBaseBase b) * 4096 + y.toNat * c.f (F.ieRefStrideStride b) + lo * c.ieCref b)
      ((hi + 1 - lo) * c.ieCref b)
    if e then ((c.inc F.ieMemerrCntCount).ev F.ieEvtMemErr, y :: r.2) else (c, r.2)) (c, [])
  (c, c.tileReference b (fb.bad ++ bad) pos)

/-! ### Units (R261) -/

/-- An empty unit of a stream for a band. -/
def Chip.bandUnit (c : Chip) (stream : Nat) (b : Band) : SspUnit :=
  { stream := stream, bank := b.bank, bseq := b.bseq, trig := b.first, first := b.first, ridx := if b.norep then 0xFFFFFFFF else b.ridx
    norep := b.norep, bankmix := b.bankmix, job := c.job.profs.getD b.bank 0, pkts := [], crop := [], dseq := 0, rows := []
    held := false }

def Chip.addUnit (c : Chip) (u : SspUnit) : Chip := c.modSsp fun s => { s with units := s.units ++ [u] }

/-- The UNIT field of a band: ty, or 0x00FF_FFFF for a NOREP band (R261). -/
def bandUnitField (b : Band) : Nat := if b.norep then 0xFFFFFF else b.ty % 2 ^ 24

/-- A line metadata record (R276). -/
def Chip.metaRecord (c : Chip) (job : Nat) (m : LineMeta) : List Byte :=
  let e := c.logOr m.trig
  let bit := fun (b : Bool) (k : Nat) => if b then 2 ^ k else 0
  natBytesBE 4 m.trig ++ natBytesBE 4 m.ridx ++ natBytesBE 4 m.line ++ natBytesBE 8 (ofSigned 64 (toSigned 48 e.enc))
    ++ timeBytes e.time ++ natBytesBE 1 (bit m.mark 7 + bit m.norep 6 + bit m.bankmix 5) ++ natBytesBE 1 job
    ++ natBytesBE 1 m.miss ++ natBytesBE 1 m.part ++ natBytesBE 1 m.pout ++ natBytesBE 1 0 ++ natBytesBE 4 m.ndpx
    ++ m.lno.flatMap (natBytesBE 2) ++ List.replicate 8 0#8

/-- The units that a completed band gives at once: P0 and line metadata (R261, R276). -/
def Chip.bandUnits (c : Chip) (b : Band) : Chip :=
  let c := if c.prodOn b.bank b.bseq 0 then c.addUnit { c.bandUnit 0 b with rows := b.rows } else c
  if c.prodOn b.bank b.bseq 4 then
    let u := c.bandUnit 5 b
    let c := c.noteStale (b.metas.map (·.trig))
    c.addUnit { u with pkts := [⟨bandUnitField b, b.first, b.metas.flatMap (c.metaRecord u.job), false⟩] }
  else c

/-- The stream 2 unit of a band: its tile records, ⌊PKT_MAX ÷ 32⌋ a packet (R274). -/
def Chip.p2Unit (c : Chip) (b : Band) (recs : List (List Byte)) (held : Bool) : Chip :=
  if c.prodOn b.bank b.bseq 2 then
    let n := c.pktMax / 32
    c.addUnit { c.bandUnit 2 b with
      pkts := (chunks n (recs.length + 1) recs).map fun g => ⟨bandUnitField b, b.first, g.flatten, false⟩, held := held }
  else c

/-- The stream 4 unit of a band: its alarms, then the repeat summary (R275). -/
def Chip.alarmUnit (c : Chip) (b : Band) (alarms summary : List (List Byte)) (held : Bool) : Chip :=
  if c.prodOn b.bank b.bseq 3 then
    let n := (c.pktMax - 64) / 32
    let lost := alarms.length - n
    let c := c.add F.sspTruncCount lost
    c.addUnit { c.bandUnit 4 b with
      pkts := [⟨bandUnitField b, b.first, ((alarms.take n) ++ summary).flatten, decide (0 < lost)⟩], held := held }
  else c

/-- The stream 3 unit of a defect record, and its crop (R261, R271, R275). -/
def Chip.recordUnits (c : Chip) (b : Band) (bl : Blob) (dseq trig0 : Nat) (crop : Bool) (bs : List Byte)
    (tiles : List (Nat × Nat × Nat × Nat)) : Chip :=
  let base := { c.bandUnit 3 b with bank := bl.bank, trig := trig0, ridx := bl.ridx, norep := false, bankmix := b.bankmix
                                    dseq := dseq }
  let c := if c.prodOn bl.bank b.bseq 3 then c.addUnit { base with pkts := [⟨dseq, trig0, bs, false⟩] } else c
  if crop && c.prodOn bl.bank b.bseq 1 then c.addUnit { base with stream := 1, crop := tiles } else c

/-! ### Pieces that end (R270, R273) -/

/-- A piece was dropped: its packets will be (R252, R270, R273). -/
def Chip.pieceDropped (c : Chip) (w : WorkItem) : Chip :=
  if w.fold = 2 then
    (c.modSsp fun s => { s with pieces := s.pieces ++ [(w.bseq, w.strip, w.kind, true)] }).inc (F.shpDropCount 1)
  else c.inc (F.shpDropCount 0)

/-- A Fold 2 piece is queued or running. -/
def Chip.pieceOpen (c : Chip) (g : WorkItem → Bool) : Bool :=
  (c.shp.queue.any fun w => w.fold == 2 && g w) || c.shp.run.any fun p => p.2.fold == 2 && g p.2

/-- A Fold 2 piece completes: a capture lands in the ring (R271). -/
def Chip.productDone (c : Chip) (e : Nat) (flips : List (Nat × Bool)) : Chip :=
  match c.running? e with
  | none => c
  | some w =>
    if w.fold = 2 then
      let c := match w.kind, c.fband w.bseq with
        | 0, _ => c
        | k, some fb => (c.when (k == 2) (·.flip flips)).each w.tiles fun c tx =>
            let (c, px) := if k = 2 then c.tileRead fb tx else (c, tileImage fb.band.rows tx)
            c.modSsp fun s => { s with caps := s.caps ++ [(⟨w.bseq, w.strip, fb.band.ty, tx, k == 2, px⟩ : Capture)] }
        | _, none => c
      c.engDone e
    else c

/-- The deadline of a queued Fold 1 or Fold 2 piece has passed (R244). -/
def Chip.pastDeadline (c : Chip) (w : WorkItem) : Bool :=
  match w.fold with
  | 1 => match c.fband w.bseq with
    | some b => b.colour == 2
    | none => true
  | 2 => !c.slotReadable w.bseq
  | _ => false

/-- Dropping the oldest queued piece of a fold whose deadline has passed (R252). -/
def Chip.deadlineDrop (c : Chip) (f : Nat) : Chip :=
  match c.shp.queue.find? fun w => w.fold == f && c.pastDeadline w with
  | none => c
  | some w => (c.modShp fun s => { s with queue := s.queue.erase w }).pieceDropped w

end Sys2Proof.Machine
end

