-- ==== Sys2Proof/Machine/Flow.lean ====
section
/-! DEFINITION. Flow.lean: the data path from a complete web line to the records: slots and expiry, fiducials, the
reference ring, band slices, the blob merger, colour items and the emission of records (R155, R164 to R171, R180, R187 to
R191, R195, R196, R200, R201, R208 to R220). -/

namespace Sys2Proof.Machine

def Chip.modIe (c : Chip) (g : IeS → IeS) : Chip := { c with ie := g c.ie }

/-! ### Acquisition (R180) -/

def acqIdle : Nat := 0
def acqWait : Nat := 1
def acqAcq : Nat := 2
def acqLocked : Nat := 3

def Chip.acqOf (c : Chip) (b : Nat) : Nat := c.ie.acq.getD b 0

def Chip.setAcq (c : Chip) (b st : Nat) : Chip :=
  let c := c.modIe fun i => { i with acq := i.acq.set b st }
  c.setF F.ieStatAcq (c.acqOf c.actBank)

/-- Entry into ACQ: the field store is cleared (R178, R180). -/
def Chip.enterAcq (c : Chip) (b : Nat) : Chip :=
  ((c.fieldClear b).modIe fun i => { i with acqReps := i.acqReps.set b 0 }).setAcq b acqAcq

/-! ### The sums of a repeat (R213) -/

def repStart (b : Band) : Nat := (b.first + 2 ^ 32 - 16 * b.ty % 2 ^ 32) % 2 ^ 32

def Chip.repAcc (c : Chip) (rep : Nat) : Option RepAcc := c.ie.reps.find? fun a => a.rep == rep

def Chip.modRep (c : Chip) (rep : Nat) (g : RepAcc → RepAcc) : Chip :=
  c.modIe fun i => { i with reps := i.reps.map fun a => if a.rep = rep then g a else a }

def Chip.needRep (c : Chip) (fb : FBand) : Chip :=
  if (c.repAcc fb.rep).isSome then c
  else c.modIe fun i => { i with reps := i.reps ++ [{ rep := fb.rep, bank := fb.band.bank, ended := none, ridx := fb.band.ridx, nlines := 0, ntile := 0, nuninsp := 0, nblob := 0, nover := 0, deMax := 0, nreg := 0, valid := 0, held := 0, flat := 0, none_ := 0, kept := 0, dxs := [], dys := [] }] }

/-- A complete repeat ends: valid share and acquisition are judged (R180). -/
def Chip.judgeRepeat (c : Chip) (rep : Nat) : Chip :=
  match c.repAcc rep with
  | none => c
  | some a =>
    if a.ended.isSome then c
    else
      let pct := validShare a
      let c := (c.setF F.ieStatValidPct pct).setF F.ieRepeatRidx a.ridx
      let c := if c.acqOf a.bank = acqAcq then
          if c.f (F.ieRegAcqMin a.bank) ≤ pct then (c.setAcq a.bank acqLocked).ev F.ieEvtAcqDone
          else
            let n := c.ie.acqReps.getD a.bank 0 + 1
            let c := c.modIe fun i => { i with acqReps := i.acqReps.set a.bank n }
            if n = 2 then c.ev F.ieEvtAcqFail else c
        else c
      let acq := c.acqOf a.bank
      c.modRep rep fun a => { a with ended := some (acq, pct) }

/-! ### Where a repeat ends (R153, R188) -/

/-- Whether a band is the last of its repeat, none while that is not known yet. -/
def Chip.bandLast (c : Chip) (fb : FBand) : Option Bool :=
  let b := fb.band
  let nxt := (b.bseq + 1) % 2 ^ 32
  let t := (b.first + b.nlines) % 2 ^ 32
  if b.cut || b.short then some true
  else
    match c.fband nxt with
    | some k => some (k.band.norep || k.rep != fb.rep)
    | none =>
      if c.stc.bseq = nxt ∧ !c.stc.rows.isEmpty then some (c.stc.norep || c.stc.ty == 0)
      else if (c.stc.lostAt.map fun l => decide (0 ≤ sdiff32 t l)).getD false then some true
      else (c.logEntry t).map (·.mark)

/-! ### Defect records (R189, R195, R214 to R219) -/

def Blob.first (bl : Blob) : DefPx := (leastBy DefPx.before bl.px).getD ⟨0, 0, 0, false, 0, 0, 0, 0, 0, 0⟩

/-- The tiles of a blob's crop set with the strip whose piece captures each (R271). -/
def Chip.cropSet (c : Chip) (b : Band) (bl : Blob) : List (Nat × Nat × Nat × Nat) :=
  let keys := (bl.px.map fun p => (p.ty, stripOf b.width p.x)).eraseDups
  keys.flatMap fun k =>
    let px := bl.px.filter fun p => p.ty == k.1 && stripOf b.width p.x == k.2
    (cropTiles (c.f (F.sspP1CfgMargin bl.bank)) (b.width / 16) px).map fun tx =>
      ((b.bseq + 2 ^ 32 - (b.ty - k.1) % 2 ^ 32) % 2 ^ 32, k.2, k.1, tx)

/-- Latency of a record of a band in ns. -/
def Chip.recordLatency (c : Chip) (fb : FBand) : Nat := c.nowNs - fb.doneNs

/-- LATE and the largest latency (R195). -/
def Chip.noteLatency (c : Chip) (fb : FBand) : Chip :=
  let us := min (c.recordLatency fb / 1000) 65535
  let c := if c.f F.ieLatMaxMaxUs < us then c.setF F.ieLatMaxMaxUs us else c
  if 1500000 < c.recordLatency fb then (c.inc F.ieLateCntCount).ev F.ieEvtLate else c

/-- A closed blob: where it is reported, its record is formed and sent to every destination (R189, R217, R219). The bytes
are those of the band digest, with LATE taken as 0 (R455). -/
def Chip.closeBlob (c : Chip) (fb : FBand) (bl : Blob) (split : Bool) : Chip × List Byte :=
  let a := c.blobAttr bl
  if !a.reported then (c, [])
  else
    let t0 := (bl.rep + a.line0) % 2 ^ 32
    let t1 := (bl.rep + a.line1) % 2 ^ 32
    let c := c.noteStale [t0, t1]
    let e0 := { c.logOr t0 with id := t0 }
    let e1 := { c.logOr t1 with id := t1 }
    let dseq := c.f F.csDseqDseq
    let job := c.job.profs.getD bl.bank 0
    let record := fun late => defectRecord a bl late split (c.severity bl.bank a.cls) dseq e0 e1 job
    let late := decide (1500000 < c.recordLatency fb)
    let c := (((c.noteLatency fb).inc F.ieBlobCntCount).inc F.csDefCntCount).setF F.csDseqDseq (dseq + 1)
    let c := c.modRep bl.rep fun r => { r with nblob := r.nblob + 1 }
    let c := c.eqFor bl.bank (record late)
    let c := c.recordUnits fb.band bl dseq t0 (a.flags.testBit 5) (record late) (c.cropSet fb.band bl)
    let reject := a.flags.testBit 4
    let mark := a.flags.testBit 3
    let c := if reject || mark then c.cometRecord reject mark (toSigned 48 e0.enc) (toSigned 48 e1.enc) else c
    (c, record false)

/-- Blobs close in raster order of their first pixels (R215). -/
def Chip.closeBlobs (c : Chip) (fb : FBand) (l : List (Blob × Bool)) : Chip × List Byte :=
  (sortBy (fun p q => p.1.first.before q.1.first) l).foldl (fun (r : Chip × List Byte) p =>
    let (c, bs) := r.1.closeBlob fb p.1 p.2
    (c, r.2 ++ bs)) (c, [])

/-! ### The merger (R187, R188) -/

def touchesAny (conn8 : Bool) (l m : List DefPx) : Bool := l.any fun p => m.any (DefPx.touches conn8 p)

/-- One fragment joins the open blobs it touches, or opens a blob, or is dropped (R187). -/
def Chip.mergeFragment (c : Chip) (fb : FBand) (frag : List DefPx) : Chip :=
  let conn8 := c.fb (F.ieJcfgConn8 fb.band.bank)
  let hit := c.ie.blobs.filter fun b => b.rep == fb.rep && touchesAny conn8 frag b.px
  let cont := touchesAny conn8 frag c.ie.splits
  if hit.isEmpty then
    if 65536 ≤ c.ie.blobs.length then
      ((c.modFband fb.band.bseq fun b => { b with slices := b.slices.map fun s =>
        { s with tiles := s.tiles.map (ovfTiles [frag]) } }).inc F.ieBlobOvfCntCount).ev F.ieEvtBlobOvf
    else c.modIe fun i => { i with blobs := i.blobs ++ [⟨frag, 0, cont, fb.rep, fb.band.ridx, fb.band.bank⟩] }
  else
    let rest := c.ie.blobs.filter fun b => !hit.contains b
    let joined : Blob :=
      { px := frag ++ (hit.map (·.px)).flatten, bands := (hit.map (·.bands)).foldl max 0
        cont := cont || hit.any (·.cont), rep := fb.rep, ridx := fb.band.ridx, bank := fb.band.bank }
    c.modIe fun i => { i with blobs := rest ++ [joined] }

/-- The open blobs that close after a band is merged, each with SPLIT (R188). -/
def closing (last : Nat) (bl : Blob) : Option (Blob × Bool) :=
  if !bl.px.any (fun p => p.line == last) then some (bl, false) else if 64 ≤ bl.bands then some (bl, true) else none

/-- What a band slice without results leaves for a tile: the values that no engine formed are free (R190, R191). -/
def Chip.deadTile (c : Chip) (fb : FBand) (reason tx : Nat) : Chip × TileRes :=
  let (k, c) := c.fresh 12
  let r := c.rule fb.band.bank tx fb.band.ty
  (c, { tx := tx, reason := reason, ncmp := 0, ndef := 0, dx := toSigned 16 k, dy := toSigned 16 (k / 2 ^ 16)
        conf := k / 2 ^ 32 % 256, state := k / 2 ^ 40 % 4, flags := (r.map (·.flags)).getD 0, cls := (r.map (·.cls)).getD 0
        ruleErr := (r.map (·.err)).getD false, noRule := (r.map (·.invalid)).getD true
        lRef := (r.map (·.lRef)).getD 0, aRef := (r.map (·.aRef)).getD 0, bRef := (r.map (·.bRef)).getD 0
        ncol := k / 2 ^ 42 % 257, sums := [0, 0, 0, 0], colour := none })

/-- The tiles of the band slices that ended without results (R190). -/
def Chip.fillDead (c : Chip) (fb : FBand) : Chip :=
  c.each fb.slices.zipIdx fun c s =>
    let reason := match s.1.st with
      | .expired => 1
      | .engineFault => 2
      | _ => 0
    if reason = 0 then c
    else
      let (x0, w) := (strips fb.band.width).getD s.2 (0, 0)
      let (c, tiles) := (List.range (w / 16)).foldl (fun (r : Chip × List TileRes) i =>
        let (c, t) := r.1.deadTile fb reason (x0 / 16 + i)
        (c, r.2 ++ [t])) (c, [])
      c.modFband fb.band.bseq fun b => { b with slices := b.slices.modify s.2 fun x => { x with tiles := tiles } }

/-- The regions of a band enter the sums of its repeat (R180, R213). -/
def Chip.sumRegions (c : Chip) (fb : FBand) : Chip :=
  let b := fb.band
  c.each fb.slices.zipIdx fun c s =>
    if s.1.st = .done then
      let cnt := fun st => (s.1.regions.filter fun r => r.state == st).length
      let ok := s.1.regions.filter fun r => r.state == 1
      c.modRep fb.rep fun a => { a with
        nreg := a.nreg + s.1.regions.length, valid := a.valid + cnt 1, held := a.held + cnt 2, flat := a.flat + cnt 3
        none_ := a.none_ + cnt 0, dxs := a.dxs ++ ok.map (·.dx), dys := a.dys ++ ok.map (·.dy) }
    else
      let n := (regionStarts ((strips b.width).getD s.2 (0, 0)).2).length
      let kept := ((List.range n).filter fun r =>
        let st := (c.fieldGet b.bank b.width b.ty (regionBase b.width s.2 + r)).2.2.2
        st == 1 || st == 3).length
      c.modRep fb.rep fun a => { a with nreg := a.nreg + n, kept := a.kept + kept }

/-- The bytes a tile gives to the band digest (R455). -/
def tileDigest (t : TileRes) : List Byte :=
  natBytesBE 1 (t.reason * 16) ++ natBytesBE 2 t.ncmp ++ natBytesBE 2 t.ndef ++ be16s t.dx ++ be16s t.dy ++ natBytesBE 1 t.conf
    ++ natBytesBE 1 t.state

def FBand.tiles (fb : FBand) : List TileRes := fb.slices.flatMap (·.tiles)

/-- Once it is known whether a merged band is the last of its repeat, its blobs close in one batch: all open blobs of the
repeat after the last band, else those that R188 closes. The repeat is judged and the band digest goes out (R180, R188, R215,
R455). -/
def Chip.closeKnown (c : Chip) : Chip :=
  c.each (c.ie.bands.filter fun fb => fb.dig.isSome) fun c fb =>
    match c.bandLast fb with
    | none => c
    | some last =>
      let line := 16 * fb.band.ty + fb.band.nlines - 1
      let blobs := c.ie.blobs.filter fun b => b.rep == fb.rep
      let done := if last then blobs.map fun b => (b, false) else blobs.filterMap (closing line)
      let c := c.modIe fun i => { i with
        blobs := i.blobs.filter fun b => !(done.any fun d => d.1 == b)
        splits := if last then [] else ((done.filter (·.2)).flatMap (·.1.px)).filter fun p => p.line == line }
      let (c, bs) := c.closeBlobs fb done
      let c := if last && !fb.band.cut then c.judgeRepeat fb.rep else c
      let all := natBytesBE 4 fb.band.first ++ (fb.dig.getD []) ++ bs
      { (c.modFband fb.band.bseq fun b => { b with dig := none, last := last }) with
        defers := c.defers ++ [Defer.bandDigest fb.band.first (crc32c all).toNat] }

/-! ### Emission of the tile records of a band (R208 to R213, R217, R275) -/

/-- One tile record and whether it is over its limit. -/
def Chip.recordOf (c : Chip) (fb : FBand) (t : TileRes) : List Byte × Bool × Nat × Nat :=
  let b := fb.band.bank
  let cst := c.cstat b (fb.colour == 2) t
  let r := if cst = 0 then c.tileColour b t else ⟨0, 0, 0, 0⟩
  let big := cst == 0 && c.deOver b t r
  (tileRecord 1 fb.band.ty fb.band.ridx cst big t r, big, cst, r.de)

def alarmOf (r : List Byte) : List Byte := 3#8 :: r.drop 1

/-- The tile records and alarms of a band leave as its colour item ends (R211, R212, R217, R279). -/
def Chip.emitBand (c : Chip) (fb : FBand) : Chip :=
  let b := fb.band
  let recs := fb.tiles.map (c.recordOf fb)
  let big := recs.filter (·.2.1)
  let deMax := (recs.filter fun r => r.2.2.1 == 0).foldl (fun m r => max m r.2.2.2) 0
  let alarms := if c.fb (F.csCfgAlmEn b.bank) then (big.take (c.f (F.csCfgAlarmMax b.bank))).map fun r => alarmOf r.1 else []
  let supp := if c.fb (F.csCfgAlmEn b.bank) then big.length - alarms.length else 0
  let c := (c.add F.csTileCntCount recs.length).add F.csFewCntCount (recs.filter fun r => r.2.2.1 == 3).length
  let c := (c.add F.csDeOverCntCount big.length).add F.csAlarmSupCount supp
  let c := if c.f F.csDeMaxMax < deMax then c.setF F.csDeMaxMax deMax else c
  let c := c.modRep fb.rep fun a => { a with
    ntile := a.ntile + recs.length, nover := a.nover + big.length, deMax := max a.deMax deMax }
  let c := c.each alarms fun c r => c.eqFor b.bank r
  let c := c.p2Unit b (recs.map (·.1)) (fb.colour == 2)
  c.modFband b.bseq fun x => { x with emitted := true, alarms := alarms }

/-- The stream 4 unit of a band, once it is known whether the band ends its repeat: the alarms, then the repeat summary
(R213, R217, R275). -/
def Chip.emitFour (c : Chip) (fb : FBand) (last : Bool) : Chip :=
  let b := fb.band
  let summary := match last, (c.repAcc fb.rep).bind fun a => a.ended.map fun e => summaryRecord e.1 e.2 a with
    | true, some s => if c.fb (F.csCfgSumEn b.bank) then [s] else []
    | _, _ => []
  let c := c.each summary fun c r => c.eqFor b.bank r
  let c := c.alarmUnit b fb.alarms summary (fb.colour == 2)
  let c := c.modFband b.bseq fun x => { x with out4 := true }
  if last then c.modIe fun i => { i with reps := i.reps.filter fun a => a.rep != fb.rep } else c

/-- Bands whose colour item has ended leave in BSEQ order (R211). -/
def Chip.emitReady : Nat → Chip → Chip
  | 0, c => c
  | n + 1, c =>
    match c.ie.bands.find? fun fb => !fb.emitted with
    | none => c
    | some fb => if fb.merged && fb.colour != 0 then Chip.emitReady n (c.emitBand fb) else c

/-- Stream 4 units follow in the same order (R213, R275). -/
def Chip.fourReady : Nat → Chip → Chip
  | 0, c => c
  | n + 1, c =>
    match c.ie.bands.find? fun fb => !fb.out4 with
    | none => c
    | some fb => if fb.emitted && fb.dig.isNone then Chip.fourReady n (c.emitFour fb fb.last) else c

def Chip.recordsOut (c : Chip) : Chip :=
  let c := c.closeKnown
  Chip.fourReady c.ie.bands.length (Chip.emitReady c.ie.bands.length c)

/-- BLOB_MERGER_BAND: the next band in BSEQ order is merged (R187, R188). -/
def Chip.mergeBand (c : Chip) : Chip :=
  let c := c.closeKnown
  match c.ie.bands.find? fun fb => !fb.merged with
  | none => c
  | some fb =>
    if c.pair.joinDseq || fb.slices.any fun s => s.st == .waiting || s.st == .running then c
    else
      let c := (c.needRep fb).fillDead fb
      let c := if c.ie.lastRep = some fb.rep then c else c.modIe fun i => { i with splits := [], lastRep := some fb.rep }
      let fb := (c.fband fb.band.bseq).getD fb
      let c := c.each (fb.slices.flatMap (·.frags)) fun c f => c.mergeFragment fb f
      let fb := (c.fband fb.band.bseq).getD fb
      let c := c.modIe fun i => { i with blobs := i.blobs.map fun b => if b.rep = fb.rep then { b with bands := b.bands + 1 } else b }
      let c := c.sumRegions fb
      let tiles := fb.tiles
      let bad := (tiles.filter fun t => t.reason != 0).length
      let c := c.modRep fb.rep fun a => { a with nlines := a.nlines + fb.band.nlines, nuninsp := a.nuninsp + bad }
      let c := ((c.add F.ieTileCntCount tiles.length).add F.ieUninspCntCount bad).inc F.ieBandCntCount
      (c.modFband fb.band.bseq fun b => { b with merged := true, dig := some (tiles.flatMap tileDigest) }).recordsOut

/-! ### Colour items (R200, R201, R211) -/

/-- A colour piece completes; the item completes with its last piece (R200). -/
def Chip.colourPieceDone (c : Chip) (e : Nat) : Chip :=
  match c.running? e with
  | none => c
  | some w =>
    if w.fold = 1 then
      let c := (c.engDone e).modFband w.bseq fun b => { b with pieces := b.pieces ++ [w.strip] }
      match c.fband w.bseq with
      | none => c
      | some fb =>
        if fb.colour = 0 ∧ fb.pieces.length = fb.slices.length then
          ({ (c.modFband w.bseq fun b => { b with colour := 1 }) with
            defers := c.defers ++ [Defer.colourStatus fb.band.first false] }).recordsOut
        else c
    else c

/-- A compared band completes and takes a slot of the colour sum buffer: with four pending the oldest item drops and leaves
its slot (R201); which of several free slots it takes is free (log entry 5). -/
def Chip.colourSlot (c : Chip) : Chip × Nat :=
  let pend := c.ie.bands.filter fun fb => fb.compared && fb.colour == 0
  match (List.range 4).filter fun k => !pend.any (·.cslot == k), pend with
  | [], fb :: _ =>
    ({ ((c.modFband fb.band.bseq fun b => { b with colour := 2 }).inc F.csDropCntCount) with
        defers := c.defers ++ [Defer.colourStatus fb.band.first true] }, fb.cslot)
  | open_, _ => let (k, c) := c.fresh 18; (c, open_.getD (k % max 1 open_.length) 0)

/-- The colour sum buffer takes NCOL and SUM_0 to SUM_3 of a band slice (R200). -/
def Chip.sumsPut (c : Chip) (fb : FBand) (tiles : List TileRes) : Chip :=
  c.each tiles fun c t =>
    c.memPut (0x1740000 + 196608 * fb.cslot + 24 * t.tx) (natBytesLE 24 (Config.colourSums (t.ncol :: t.sums)))

/-! ### Bands enter the flock (R154, R167, R194, R244) -/

/-- Bands and captures that nothing needs any more leave the model's lists. -/
def Chip.prune (c : Chip) : Chip :=
  let busy := fun (n : Nat) => (c.shp.queue.any fun w => w.fold != 3 && w.bseq == n) ||
    c.shp.run.any fun p => p.2.fold != 3 && p.2.bseq == n
  let newest := (c.ie.bands.filter (·.merged)).getLast?.map (·.band.bseq)
  let keep := c.ie.bands.filter fun fb => !fb.out4 || c.slotReadable fb.band.bseq || busy fb.band.bseq
    || newest == some fb.band.bseq
  let c := c.modIe fun i => { i with bands := keep }
  let used := fun (k : Capture) => (c.ssp.units.any fun u => u.crop.any fun t => t.1 == k.bseq && t.2.2.2 == k.tx)
    || (c.ie.bands.any fun fb => fb.band.bseq == k.bseq) || c.ie.blobs.any fun b => b.px.any fun p => p.ty == k.ty
  c.modSsp fun s => { s with caps := s.caps.filter used }

/-- A completed band reaches the Shepherd (R154, R167, R201, R244, R261). -/
def Chip.enterBand (c : Chip) (b : Band) : Chip :=
  let c := c.prune
  let cmp := !b.norep
  let (c, slot) := if cmp then c.colourSlot else (c.inc F.ieNorepCntCount, 0)
  let st := strips b.width
  let fb : FBand :=
    { band := b, doneNs := c.nowNs, compared := cmp, rep := repStart b, loaded := false, waited := false, pc := 0, bad := []
      joinWait := false, slices := if cmp then st.map fun _ => ⟨.waiting, [], [], [], []⟩ else [], merged := !cmp
      colour := if cmp then 0 else 2, pieces := [], emitted := !cmp, alarms := [], out4 := !cmp, dig := none, last := false, cslot := slot }
  let c := c.modIe fun i => { i with bands := i.bands ++ [fb] }
  let cref := c.ieCref b.bank
  let items := if cmp then st.zipIdx.flatMap fun s =>
      [({ fold := 0, bseq := b.bseq, strip := s.2, kind := 0, tiles := [], cycles16 := 8 * (s.1.2 * b.nlines * cref)
          deferred := false } : WorkItem),
       { fold := 1, bseq := b.bseq, strip := s.2, kind := 0, tiles := [], cycles16 := s.1.2 * b.nlines * cref
         deferred := false }]
    else []
  let c := c.each (items ++ c.p0Items b) Chip.enqueue
  ({ c.bandUnits b with defers := c.defers ++ [Defer.bandNew b.bseq] }).recordsOut

/-! ### Slots (R155) -/

/-- Writing begins in the slot of a band: its unfinished band slices expire, its Fold 2 leases are revoked (R155, R252). -/
def Chip.expireBand (c : Chip) (bseq : Nat) : Chip :=
  let c : Chip := match c.fband bseq with
    | none => c
    | some fb => c.each (fb.slices.zipIdx.filter fun s => s.1.st == .waiting || s.1.st == .running) fun c s =>
      let e := c.shp.run.find? fun p => p.2.fold == 0 && p.2.bseq == bseq && p.2.strip == s.2
      let c := (c.setSlice bseq s.2 .expired).inc F.stcExpireCntCount
      match e with
      | some (e, _) => (c.engDone e).report 0x20 e
      | none => (c.modShp fun h => { h with queue := h.queue.filter fun w =>
          !(w.fold == 0 && w.bseq == bseq && w.strip == s.2) }).report 0x20 0xFFFF
  let c := c.each (c.shp.run.filter fun p => p.2.fold == 2 && p.2.bseq == bseq) fun c p => (c.engDone p.1).pieceDropped p.2
  { c with stc := { c.stc with slots := c.stc.slots.map fun o => o.filter fun b => b.bseq != bseq } }

/-! ### The fiducial detector (R164 to R166) -/

/-- T(i, v) of the template (R164). -/
def Chip.fidTemplate (c : Chip) (b i v : Nat) : Nat :=
  let k := 64 * v + i
  getBits (c.rd (R.ieFidt b (k / 4))) (8 * (k % 4)) 8

/-- The least match value over u for the newest line, none before 16 lines have been seen (R164). -/
def Chip.fidMatch (c : Chip) (b : Nat) (rows : List (List Nat)) : Option Nat :=
  if rows.length < 16 then none
  else
    let grid := (rows.map List.toArray).toArray
    let tmpl := ((List.range 16).map fun v => ((List.range 64).map fun i => c.fidTemplate b i v).toArray).toArray
    let rx := c.f (F.ieFidPosFidRx b)
    let sad := fun u => ((List.range 16).map fun v => ((List.range 64).map fun i =>
      let g : Int := (((grid[v]?).bind fun r => r[u + i]?).getD 0 : Nat)
      let t : Int := (((tmpl[v]?).bind fun r => r[i]?).getD 0 : Nat)
      (g - t).natAbs).sum).sum
    leastBy (fun a b => decide (a < b)) ((List.range 193).map fun k => sad (rx + k - 96))

/-- A web line passes the detector (R164 to R166). A line of a bank without FID_EN passes no detector: the 16 lines of a match
value are then those after it. -/
def Chip.fidLine (c : Chip) (w : WebTrig) (row : List WPx) : Chip :=
  let b := w.bank
  if !c.fb (F.ieJcfgFidEn b) then c.modIe fun i => { i with fidRows := [], fidBest := none, fidRun := false }
  else
    let g := row.map fun p => if p.ndc = 0 then c.g8 b p else 0
    let rows := (c.ie.fidRows ++ [(w.trig, g)]).drop (c.ie.fidRows.length + 1 - 16)
    let c := c.modIe fun i => { i with fidRows := rows }
    let hit := (c.fidMatch b (rows.map (·.2))).filter fun m => decide (m ≤ 1024 * c.f (F.ieFidCfgFidThr b))
    match hit, c.ie.fidBest with
    | some m, none => c.modIe fun i => { i with fidRun := true, fidBest := some (w.trig, m) }
    | some m, some (_, k) => if m < k then c.modIe fun i => { i with fidBest := some (w.trig, m) } else c
    | none, some (l, _) =>
      let tm := (l + 2 ^ 33 - 15 - c.f (F.ieFidLineFidRl b) + c.f (F.ieRepLinesRepLines b)) % 2 ^ 32
      { (c.modIe fun i => { i with fidRun := false, fidBest := none }) with defers := c.defers ++ [Defer.fidMark tm] }
    | none, none => c

/-- Line REP_LINES - 64 of a repeat without a later mark (R166). -/
def Chip.fidExpected (c : Chip) (w : WebTrig) (line : Nat) : Chip :=
  if c.fb (F.ieJcfgFidEn w.bank) && !w.norep && line + 64 == c.f (F.ieRepLinesRepLines w.bank) then
    { c with defers := c.defers ++ [Defer.fidMissing ((w.trig + 2 ^ 32 - line % 2 ^ 32) % 2 ^ 32)] }
  else c

/-! ### The web line (R147, R153, R180) -/

/-- The line of the repeat that the last emitted row has. -/
def Chip.lastLine (c : Chip) : Nat :=
  match c.stc.metas.getLast? with
  | some m => m.line
  | none => ((c.stc.fresh.getLast?.bind fun b => b.metas.getLast?).map (·.line)).getD 0

/-- STC_WEB_LINE_COMPLETE with all that follows from the line (95_what_each_step_holds.md). -/
def Chip.webLine (c : Chip) : Chip :=
  match c.nextWebLine with
  | none => c
  | some (w, brings) =>
    let c := { c with stc := { c.stc with began := false } }
    let (c, w, row) := c.emitWebLine w brings
    let c := if w.mark && w.bank == c.actBank && c.acqOf w.bank == acqWait then c.enterAcq w.bank else c
    let line := c.lastLine
    let c := if c.stc.began then
        let cur := if c.stc.rows.isEmpty then c.stc.bseq + 2 ^ 32 - 1 else c.stc.bseq
        c.expireBand ((cur + 2 ^ 32 - 3) % 2 ^ 32)
      else c
    let c := (c.fidLine w row).fidExpected w line
    let fresh := c.stc.fresh
    (c.each fresh Chip.enterBand).recordsOut |> fun c => { c with stc := { c.stc with fresh := [] } }

/-- A stop whose last web line has already been emitted: the repeat is cut off after it, and the band it ended in is the
last one of the repeat (R153, R234). -/
def Chip.stopCut (c : Chip) : Chip :=
  match c.stc.cutAt with
  | none => c
  | some t =>
    if c.stc.webq.isEmpty then
      let c := (c.completeBand true).modIe fun i => { i with bands := i.bands.map fun fb =>
        if (fb.band.first + fb.band.nlines) % 2 ^ 32 = (t + 1) % 2 ^ 32 then { fb with band := { fb.band with cut := true } }
        else fb }
      let c := c.each c.stc.fresh Chip.enterBand
      { c.recordsOut with stc := { c.stc with fresh := [], cutAt := none } }
    else c

/-! ### The reference ring (R170, R171, R173) -/

/-- Loading the lines of a band's window that the ring does not hold. -/
def Chip.ringLoad (c : Chip) (fb : FBand) (pc : Int) : Chip :=
  let b := fb.band.bank
  let lo : Int := 16 * (fb.band.ty : Int) + c.refL0 b + pc - 12
  let win := ((List.range 40).map fun (k : Nat) => lo + (k : Int)).filter fun y => !c.refOutside b y
  let held := c.ie.ring.filter fun l => l.1 == b && win.contains l.2.1
  let new := win.filter fun y => !held.any fun l => l.2.1 == y
  let n := c.f (F.ieRefWRefW b) * c.ieCref b
  let (c, got) := new.foldl (fun (r : Chip × List (Nat × Int × Bool)) y =>
    let (c, bad) := r.1.eccRead (c.f (F.ieRefBaseBase b) * 4096 + y.toNat * c.f (F.ieRefStrideStride b)) n
    let c := if bad then (c.inc F.ieMemerrCntCount).ev F.ieEvtMemErr else c
    (c, r.2 ++ [(b, y, bad)])) (c, [])
  let rest := c.ie.ring.filter fun l => !held.contains l
  let ring := rest ++ held ++ got
  let c := c.modIe fun i => { i with ring := ring.drop (ring.length - 64) }
  let c := c.add F.ieRingClampCount (c.clampedRegions b fb.band.width fb.band.ty pc)
  let c := c.modFband fb.band.bseq fun x => { x with
    loaded := true, pc := pc, bad := ((held ++ got).filter (·.2.2)).map (·.2.1) }
  { c with defers := c.defers ++ [Defer.bandLoaded fb.band.bseq] }

/-- RING_BAND_LOADED: the loader has the lines of the next band, or waits for the band before it (R171). -/
def Chip.ringBand (c : Chip) (flips : List (Nat × Bool)) : Chip :=
  match c.ie.bands.find? fun fb => fb.compared && !fb.loaded && !fb.joinWait && fb.slices.any fun s => s.st == .waiting with
  | none => c
  | some fb =>
    let c := c.flip flips
    let pc := c.bandCentre fb.band.bank fb.band.width fb.band.ty
    match c.fband ((fb.band.bseq + 2 ^ 32 - 1) % 2 ^ 32) with
    | some prev =>
      if prev.rep = fb.rep ∧ prev.loaded ∧ 8 < pc - prev.pc then
        let c := if fb.waited then c else (c.inc F.ieRingWaitCount).modFband fb.band.bseq fun b => { b with waited := true }
        if prev.slices.any fun s => s.st == .waiting || s.st == .running then c else c.ringLoad fb pc
      else c.ringLoad fb pc
    | none => c.ringLoad fb pc

/-! ### Band slices (R162, R178, R183, R187) -/

/-- The rule entries of a strip are read: uncorrectable ones are reported and counted (R183). -/
def Chip.readRules (c : Chip) (fb : FBand) (s : Nat) : Chip :=
  let b := fb.band.bank
  let (x0, w) := (strips fb.band.width).getD s (0, 0)
  if c.f (F.ieRuleTyTyN b) ≤ fb.band.ty then c
  else c.each (List.range (w / 16)) fun c i =>
    let (c, bad) := c.eccRead (c.ruleAddr b (x0 / 16 + i) fb.band.ty) 16
    if bad then (c.inc F.ieMemerrCntCount).ev F.ieEvtMemErr else c

/-- BAND_SLICE_COMPLETE: an engine delivers the results of its band slice (R162). -/
def Chip.sliceDone (c : Chip) (e : Nat) (flips : List (Nat × Bool)) : Chip :=
  match c.running? e with
  | none => c
  | some w =>
    if w.fold = 0 then
      match c.fband w.bseq with
      | none => c.engDone e
      | some fb =>
        let c := (c.flip flips).readRules fb w.strip
        let b := fb.band
        let lock := c.acqOf b.bank == acqLocked
        let r := c.runSlice fb w.strip lock
        let base := regionBase b.width w.strip
        let lostReg := (r.regions.filter fun q => q.state == 0).length
        let c := c.each r.regions.zipIdx fun c q => c.fieldPut b.bank b.width b.ty (base + q.2) q.1
        let c := (c.add F.ieHoldCntCount (r.regions.filter fun q => q.state == 2).length).add F.ieReglostCntCount lostReg
        let c := if lock && decide (0 < lostReg) then c.ev F.ieEvtRegLost else c
        let c := c.add F.ieBadruleCntCount (r.tiles.filter fun t => !t.ruleErr && t.noRule
          && decide (b.ty < c.f (F.ieRuleTyTyN b.bank))).length
        let c := if r.lost.isEmpty then c else (c.add F.ieBlobOvfCntCount r.lost.length).ev F.ieEvtBlobOvf
        let c := if fb.colour = 0 then c.sumsPut fb r.tiles else c
        let c := (c.modFband w.bseq fun x => { x with slices := x.slices.set w.strip r }).engDone e
        c.each (c.p1Items b w.strip (r.frags ++ r.lost)) Chip.enqueue
    else c

/-! ### Old banks (R196, R220) -/

/-- The stitcher still holds web lines of a bank. -/
def Chip.bankInStc (c : Chip) (b : Nat) : Bool :=
  c.stc.webq.any (·.bank == b) || (!c.stc.rows.isEmpty && c.stc.bank == b) || c.stc.fresh.any (·.bank == b)

def Chip.ieRelease (c : Chip) : Chip :=
  let old := 1 - c.actBank
  if c.fb F.ieStatOldBusy && !c.bankInStc old && !c.ie.bands.any (fun fb => !(fb.merged && fb.dig.isNone) && fb.band.bank == old) then
    c.setF F.ieStatOldBusy 0 else c

def Chip.csRelease (c : Chip) : Chip :=
  let old := 1 - c.actBank
  if c.fb F.csStatOldBusy && !c.bankInStc old && !c.ie.bands.any (fun fb => !(fb.emitted && fb.dig.isNone) && fb.band.bank == old) then
    c.setF F.csStatOldBusy 0 else c

end Sys2Proof.Machine
end

