-- ==== Sys2Proof/Machine/Rs.lean ====
section
/-! DEFINITION. Rs.lean: the RS(544,514) code and the scrambler of the PCS (03_drauxlink.md, R75 to R77). -/

namespace Sys2Proof.Machine

/-- Doubling in GF(2^10) with primitive polynomial x^10 + x^3 + 1 (R77). -/
def gfDouble (a : Nat) : Nat := if a < 512 then 2 * a else (2 * a) ^^^ 0x409

/-- The products a, 2a, 4a, … in the field. -/
def gfDoubles : Nat → Nat → List Nat
  | 0, _ => []
  | k + 1, a => a :: gfDoubles k (gfDouble a)

def gfMul (a b : Nat) : Nat :=
  (gfDoubles 10 a).zipIdx.foldl (fun r p => if b.testBit p.2 then r ^^^ p.1 else r) 0

/-- Square and multiply over the ten bits of an exponent. -/
def gfPow (a e : Nat) : Nat :=
  (List.range 10).foldl (fun r i => let s := gfMul r r; if e.testBit (9 - i) then gfMul s a else s) 1

def gfInv (a : Nat) : Nat := gfPow a 1022

/-- α^i, with α the root of the primitive polynomial; the order of α is 1,023. -/
def gfAlpha (i : Nat) : Nat := gfPow 2 (i % 1023)

/-- The value at `x` of the polynomial whose coefficients are listed from the lowest degree up. -/
def polyEval (p : List Nat) (x : Nat) : Nat := p.foldr (fun c r => gfMul r x ^^^ c) 0

/-- The 30 syndromes of a word whose first symbol sent is its highest coefficient (R77). -/
def rsSyndromes (word : List Nat) : List Nat :=
  (List.range 30).map fun j => word.foldl (fun r c => gfMul r (gfAlpha j) ^^^ c) 0

/-- Sum of two polynomials, lowest degree first. -/
def polyAdd : List Nat → List Nat → List Nat
  | [], q => q
  | p, [] => p
  | a :: p, b :: q => (a ^^^ b) :: polyAdd p q

def polyScale (k : Nat) (p : List Nat) : List Nat := p.map (gfMul k)

/-- The state of the search for the shortest recurrence of the syndromes: the locator, the previous locator, its
discrepancy, the length and the distance since the length changed. -/
structure Recur where
  loc  : List Nat
  prev : List Nat
  disc : Nat
  len  : Nat
  gap  : Nat

def Recur.next (syn : List Nat) (s : Recur) (n : Nat) : Recur :=
  let d := (List.range (s.len + 1)).foldl (fun r i => r ^^^ gfMul (s.loc.getD i 0) (if i ≤ n then syn.getD (n - i) 0 else 0)) 0
  if d = 0 then { s with gap := s.gap + 1 }
  else
    let fix := List.replicate s.gap 0 ++ polyScale (gfMul d (gfInv s.disc)) s.prev
    if 2 * s.len ≤ n then ⟨polyAdd s.loc fix, s.loc, d, n + 1 - s.len, 1⟩
    else { s with loc := polyAdd s.loc fix, gap := s.gap + 1 }

/-- The error locator of the syndromes. -/
def rsLocator (syn : List Nat) : Recur := (List.range 30).foldl (Recur.next syn) ⟨[1], [1], 1, 0, 1⟩

/-- Ω = S Λ modulo x^30. -/
def rsOmega (syn loc : List Nat) : List Nat :=
  (List.range 30).map fun n => (List.range (n + 1)).foldl (fun r i => r ^^^ gfMul (loc.getD i 0) (syn.getD (n - i) 0)) 0

/-- The formal derivative, in characteristic 2. -/
def polyDeriv (p : List Nat) : List Nat :=
  (p.drop 1).zipIdx.map fun q => if q.2 % 2 = 0 then q.1 else 0

/-- Decoding of a received word of 544 symbols (R79): up to 15 symbols are corrected; the answer is the corrected word
and the number of symbols corrected, or none for an uncorrectable codeword. -/
def rsDecode (word : List Nat) : Option (List Nat × Nat) :=
  let syn := rsSyndromes word
  if syn.all (· == 0) then some (word, 0)
  else
    let s := rsLocator syn
    let om := rsOmega syn s.loc
    let dv := polyDeriv s.loc
    let fixed := word.zipIdx.map fun p =>
      let x := gfAlpha (543 - p.2)
      let xi := gfInv x
      if polyEval s.loc xi = 0 then
        (p.1 ^^^ gfMul x (gfMul (polyEval om xi) (gfInv (polyEval dv xi))), true)
      else (p.1, false)
    let k := (fixed.filter (·.2)).length
    if 15 < s.len ∨ k ≠ s.len ∨ !(rsSyndromes (fixed.map (·.1))).all (· == 0) then none
    else some (fixed.map (·.1), k)

/-- Remainder of the message shifted by 30 symbols, divided by the generator: one symbol of the division. -/
def rsDivide (gen : List Nat) (rem : List Nat) (m : Nat) : List Nat :=
  let f := m ^^^ rem.headD 0
  (rem.drop 1 ++ [0]).zipWith (fun r g => r ^^^ gfMul f g) gen

/-- The coefficients below x^30 of the generator polynomial, highest first (R77). -/
def rsGenerator : List Nat :=
  (((List.range 30).foldl (fun p j => polyAdd (0 :: p) (polyScale (gfAlpha j) p)) [1]).take 30).reverse

/-- A codeword: the 514 message symbols followed by the 30 parity symbols (R77). -/
def rsEncode (msg : List Nat) : List Nat := msg ++ msg.foldl (rsDivide rsGenerator) (List.replicate 30 0)

/-! ### Blocks (R75, R76) -/

/-- One block as received: header bit, 32 bytes, and the errored mark (R75, R79). -/
structure RxBlock where
  hdr     : Bool
  bytes   : List Byte
  errored : Bool
  deriving DecidableEq, Repr

/-- The bits of a symbol, bit 0 first. -/
def symbolBits (s : Nat) : List Bool := (List.range 10).map s.testBit

/-- Eight bits as a byte, the first bit most significant. -/
def byteOfBits (l : List Bool) : Byte := BitVec.ofNat 8 (l.foldl (fun a b => 2 * a + (if b then 1 else 0)) 0)

/-- Bytes of a bit stream. -/
def bytesOfBits : Nat → List Bool → List Byte
  | 0, _ => []
  | k + 1, l => byteOfBits (l.take 8) :: bytesOfBits k (l.drop 8)

/-- Descrambling with polynomial x^58 + x^39 + 1 (R76); the state holds the last 58 received bits, newest in bit 0. -/
def descramble (st : Nat) : List Bool → List Bool × Nat
  | [] => ([], st)
  | b :: bs =>
    let r := descramble (((2 * st) + (if b then 1 else 0)) % 2 ^ 58) bs
    ((b ^^ st.testBit 38 ^^ st.testBit 57) :: r.1, r.2)

/-- Scrambling with the same polynomial; the state holds the last 58 sent bits. -/
def scramble (st : Nat) : List Bool → List Bool × Nat
  | [] => ([], st)
  | b :: bs =>
    let o := b ^^ st.testBit 38 ^^ st.testBit 57
    let r := scramble (((2 * st) + (if o then 1 else 0)) % 2 ^ 58) bs
    (o :: r.1, r.2)

/-- The 20 blocks of a message, from its bits; the first block is an AM block where `am` holds, which passes
unscrambled and does not advance the scrambler (R76, R78). -/
def blocksOfBits (am errored : Bool) (st : Nat) : Nat → List Bool → List RxBlock × Nat
  | 0, _ => ([], st)
  | k + 1, l =>
    let raw := (l.drop 1).take 256
    let d := if am then (raw, st) else descramble st raw
    let r := blocksOfBits false errored d.2 k (l.drop 257)
    (⟨l.headD false, bytesOfBits 32 d.1, errored⟩ :: r.1, r.2)

end Sys2Proof.Machine
end

