-- ==== Sys2Proof/Machine/Pcs.lean ====
section
/-! DEFINITION. Pcs.lean: the transmit side of DrauxLink: packets and control blocks in the block stream, rounds of codewords on
the lanes, and what a lane sends in training and on its way out of idle (03_drauxlink.md, R75 to R78, R81 to R85, R98, R107).
A link is named n = 0 to 7 for HPn and 8 for PL. -/

namespace Sys2Proof.Machine

/-! ### The link's own data -/

def Chip.link (c : Chip) (n : Nat) : LinkS := (c.links[n]?).getD LinkS.reset

def Chip.modLink (c : Chip) (n : Nat) (g : LinkS → LinkS) : Chip := { c with links := c.links.modify n g }

/-- The device plays the head role on the pair link when it is mate 1 (R72). -/
def Chip.headRole (c : Chip) (n : Nat) : Bool := n == 8 && c.pairId == 1

def Chip.laneRx (c : Chip) (n k : Nat) : LaneRx := ((c.link n).logical[k]?).getD LaneRx.reset

def Chip.modLaneRx (c : Chip) (n k : Nat) (g : LaneRx → LaneRx) : Chip :=
  c.modLink n fun l => { l with logical := l.logical.modify k g }

def Chip.laneTr (c : Chip) (n m : Nat) : LaneTr := ((c.link n).train[m]?).getD LaneTr.reset

def Chip.modLaneTr (c : Chip) (n m : Nat) (g : LaneTr → LaneTr) : Chip :=
  c.modLink n fun l => { l with train := l.train.modify m g }

/-! ### Packets and control blocks (R81, R83 to R85) -/

/-- A packet with its common header and its CRC. -/
def mkPacket (typ : Nat) (body : List Byte) : List Byte :=
  let bs := natBytesBE 1 (typ * 16 + 1) ++ natBytesBE 1 0 ++ natBytesBE 2 (body.length + 8) ++ body
  bs ++ natBytesBE 4 (crc32c bs).toNat

/-- Bytes filled with 0x00 up to a length. -/
def fillTo (k : Nat) (bs : List Byte) : List Byte := bs ++ List.replicate (k - bs.length) 0#8

/-- A control block: type, fields, check where the type has one, and zero fill up to 32 bytes. -/
def mkBlock (typ : Nat) (checked : Bool) (fields : List Byte) : List Byte :=
  let bs := natBytesBE 1 typ ++ fields
  fillTo 32 (if checked then bs ++ natBytesBE 4 (crc32c bs).toNat else bs)

/-- The check of a control block whose check field stands at byte `pos`. -/
def blockOk (bs : List Byte) (pos : Nat) : Bool := (crc32c (bs.take pos)).toNat == fieldBE bs pos 4

/-- A valid AM block of logical lane `k` (R78, R81). -/
def amValid (k : Nat) (bs : List Byte) : Bool :=
  fieldBE bs 0 1 == 0x55 && fieldBE bs 1 1 == k && fieldBE bs 4 8 == 0x3CA569F0960FC35A && blockOk bs 12

/-- The AM block of logical lane `k` in an AM round. -/
def amBlock (k seq : Nat) : List Byte :=
  mkBlock 0x55 true (natBytesBE 1 k ++ natBytesBE 2 seq ++ natBytesBE 8 0x3CA569F0960FC35A)

/-- Data blocks of 32 bytes each, the last one filled (R83). -/
def dataBlocks : Nat → List Byte → List (Bool × List Byte)
  | 0, _ => []
  | k + 1, bs => (true, fillTo 32 (bs.take 32)) :: dataBlocks k (bs.drop 32)

/-- A packet as blocks: the header bit and 32 bytes of each (R83). -/
def packetBlocks (bs : List Byte) : List (Bool × List Byte) :=
  (false, mkBlock 0x78 false (bs.take 31)) :: dataBlocks (ceilDiv (bs.length - 31) 32) (bs.drop 31)

/-- Blocks take their turn in the block stream, packets whole and in order (R83). -/
def Chip.queueBlocks (c : Chip) (n : Nat) (bs : List (Bool × List Byte)) : Chip :=
  c.modLink n fun l => { l with txq := l.txq ++ bs }

def Chip.sendPacket (c : Chip) (n typ : Nat) (body : List Byte) : Chip :=
  let pk := mkPacket typ body
  (c.emit (.packet n pk)).queueBlocks n (packetBlocks pk)

/-- A control block behind everything that waits. -/
def Chip.sendBlock (c : Chip) (n : Nat) (bs : List Byte) : Chip := (c.emit (.block n bs)).queueBlocks n [(false, bs)]

/-- A control block that goes before everything that waits, between the blocks of a packet too (R82). -/
def Chip.sendAhead (c : Chip) (n : Nat) (bs : List Byte) : Chip :=
  (c.emit (.block n bs)).modLink n fun l => { l with txq := (false, bs) :: l.txq }

/-- The TRIG block (R81). -/
def trigBlock (t : PendTrig) : List Byte :=
  mkBlock 0x2D true (natBytesBE 4 t.trig ++ natBytesBE 2 t.delay ++ natBytesBE 1 0 ++ timeBytes t.tx)

/-! ### Time on a link (R77, R78, R108); one unit is 1/80 ns -/

def Chip.roundLen (c : Chip) (n : Nat) : Nat := if c.f (F.laneRateRate n) = 0 then 8192 else 16384

/-- Orbit time. -/
def Chip.now80 (c : Chip) : Nat := c.nowNs * 80 + c.orb.f * 80 / 2 ^ 32

/-- Time since power-on, which no step of Orbit moves. -/
def Chip.up80 (c : Chip) : Nat := 320 * c.orb.ticks

/-- When round `r` starts, since power-on: rounds follow each other from round 0, and idle times are left out (R78, R107). -/
def Chip.roundStart (c : Chip) (n r : Nat) : Int := (c.link n).pcs.getD c.up80 + (r * c.roundLen n : Nat)

/-- The Orbit time at an instant since power-on. -/
def Chip.orbitAt (c : Chip) (p : Int) : Int := (c.now80 : Int) + p - (c.up80 : Int)

/-- An AM round (R78). -/
def amRound (r : Nat) : Bool := r % 16384 == 0

/-- The AM_SEQ of the last AM round that entered the PCS; before round 0, that of round 0 (R78). -/
def LinkS.amSeq (l : LinkS) : Nat := (l.rounds - 1) / 16384 % 65536

/-- The block slots of a round that AM blocks and TRIGs leave. -/
def Chip.roundSlots (c : Chip) (n r : Nat) : Nat :=
  (if amRound r then 19 else 20) * logicalCount n - (((c.link n).trigs.filter fun t => t.round == r).length)

/-- The round of the `j`-th block slot from the start of round `r` on. -/
def Chip.slotRound (c : Chip) (n : Nat) : Nat → Nat → Nat → Nat
  | 0, r, _ => r
  | k + 1, r, j =>
    let s := c.roundSlots n r
    if j < s then r else c.slotRound n k (r + 1) (j - s)

/-- The round in which a packet sent now starts: what waits goes before it (R83). -/
def Chip.sendRoundOf (c : Chip) (n : Nat) : Nat :=
  let l := c.link n
  c.slotRound n (l.txq.length + 1) l.rounds l.txq.length

/-- The Orbit time, in 1/80 ns, at the end of a round. -/
def Chip.roundEnd (c : Chip) (n r : Nat) : Int := c.orbitAt (c.roundStart n (r + 1))

/-! ### Codewords and rounds (R75 to R78, R82) -/

/-- The bits of a block in transmission order, scrambled but in an AM block, and the scrambler state after it. -/
def blockBits (am : Bool) (st : Nat) (b : Bool × List Byte) : List Bool × Nat :=
  let bits := b.2.flatMap fun x => (List.range 8).map fun i => x.getLsbD (7 - i)
  let (bits, st) := if am then (bits, st) else scramble st bits
  (b.1 :: bits, st)

/-- The bits of the blocks of a message; the first is an AM block where `am` holds. -/
def messageBits (am : Bool) (st : Nat) : List (Bool × List Byte) → List Bool × Nat
  | [] => ([], st)
  | b :: bs =>
    let (x, st) := blockBits am st b
    let (y, st) := messageBits false st bs
    (x ++ y, st)

/-- Ten-bit symbols, the first bit of each group bit 0. -/
def symbolsOfBits : Nat → List Bool → List Nat
  | 0, _ => []
  | k + 1, l => (l.take 10).foldr (fun b a => 2 * a + (if b then 1 else 0)) 0 :: symbolsOfBits k (l.drop 10)

/-- The physical lanes that carry logical lane `k`: its own, the spare beside it while a SWAP mirrors, and the spare alone once
the transmitter has switched (R115). -/
def Chip.txLanes (c : Chip) (n k : Nat) : List Nat :=
  match (c.link n).swap with
  | some s =>
    if s.log ≠ k then [c.mapOf n k] else if s.txSwitched then [s.new]
    else if 5 ≤ s.step then [c.mapOf n k, s.new] else [c.mapOf n k]
  | none => [c.mapOf n k]

/-- A codeword on its logical lane. -/
def Chip.sendCodeword (c : Chip) (n k : Nat) (am : Bool) (bs : List (Bool × List Byte)) : Chip :=
  let (bits, st) := messageBits am (c.link n).scr bs
  let bits := (rsEncode (symbolsOfBits 514 bits)).flatMap symbolBits
  (c.modLink n fun l => { l with scr := st }).each (c.txLanes n k) fun c m =>
    let (c, l) := c.laneTx n m bits
    c.emit (.levels n m l)

/-- The blocks of the next round in order, lane by lane: TRIGs of the round, what waits, and IDLE in every other slot (R82). -/
def Chip.roundBlocks (c : Chip) (n : Nat) : List (Bool × List Byte) :=
  let l := c.link n
  let trigs := (l.trigs.filter fun t => t.round == l.rounds).map fun t => (false, trigBlock t)
  let own := trigs ++ l.txq.take (c.roundSlots n l.rounds)
  own ++ List.replicate (20 * logicalCount n - own.length) (false, mkBlock 0x1E false [])

/-- The next round enters the PCS: a codeword on each logical lane, in an AM round behind an AM block (R77, R78). -/
def Chip.sendRound (c : Chip) (n : Nat) : Chip :=
  let l := c.link n
  let am := amRound l.rounds
  let per := if am then 19 else 20
  let bs := c.roundBlocks n
  let c := c.each (List.range (logicalCount n)) fun c k =>
    let own := (bs.drop (per * k)).take per
    c.sendCodeword n k am (if am then (false, amBlock k (l.rounds / 16384 % 65536)) :: own else own)
  let k := c.roundSlots n l.rounds
  c.modLink n fun l => { l with txq := l.txq.drop k, rounds := l.rounds + 1 }

/-- Rounds go on until nothing waits: the last one carries the last block (R106). -/
def Chip.flushRounds (c : Chip) (n : Nat) : Nat → Chip
  | 0 => c
  | k + 1 => if (c.link n).txq.isEmpty then c else (c.sendRound n).flushRounds n k

/-- The rounds end with the one that carries what was sent last; the PCS stops and keeps its counts (R76, R78, R106). -/
def Chip.stopRounds (c : Chip) (n : Nat) : Chip :=
  let c := if (c.link n).pcs.isSome then c.flushRounds n (c.link n).txq.length else c
  c.modLink n fun l => { l with pcs := none, txq := [] }

/-! ### Training frames and the exit from idle (R98, R107) -/

/-- The PRBS13 generator at the seed of a physical lane; bit i of the seed is stage i + 1 (log entry 43). -/
def laneSeed (m : Nat) : PatGen :=
  let v := [0x1001, 0x0F0F, 0x1ABC, 0x0333, 0x1555].getD m 0
  { hist := (List.range 13).map fun i => v.testBit i, pos := 0 }

/-- `k` UI of PRBS13Q from the seed of the lane, as level indices. -/
def seedPattern (m k : Nat) : List Nat := grayMap (PatGen.run 5 (2 * k) (laneSeed m)).1

/-- Marker and control field of a training frame: one bit per UI on the outer levels. -/
def frameHead (w : Word) : List Nat :=
  let bits : Word → List Nat := fun v => (List.range 32).map fun i => if v.getLsbD (31 - i) then 3 else 0
  List.replicate 16 3 ++ List.replicate 16 0 ++ bits w ++ bits (crc32c (natBytesBE 4 w.toNat))

/-- A training frame leaves on a lane. -/
def Chip.sendFrameOn (c : Chip) (n m : Nat) (w : Word) : Chip :=
  let (c, a) := c.txSyms n m false (frameHead w)
  let (c, b) := c.txSyms n m true (seedPattern m 4000)
  c.emit (.levels n m (a ++ b))

/-- The training burst of 256 UI and the alignment pattern of 64 UI (R49, R107). -/
def Chip.sendBurst (c : Chip) (n m : Nat) : Chip :=
  let (c, a) := c.txSyms n m true (seedPattern m 256)
  let (c, b) := c.txSyms n m false (((List.range 56).map fun i => if i % 2 = 0 then 3 else 0) ++ List.replicate 8 3)
  c.emit (.levels n m (a ++ b))

/-- The exit of one lane from IDLE_FAST, steps 1 to 3 of R49. -/
def Chip.laneExit (c : Chip) (n m : Nat) : Chip :=
  if c.laneState n m = lsFast then (c.sendBurst n m).laneFastExit n m else c

/-- The duration of `k` UI: 2,720 make a round. -/
def Chip.uiTime (c : Chip) (n k : Nat) : Nat := ceilDiv (k * c.roundLen n) 2720

end Sys2Proof.Machine
end

