-- ==== Sys2Proof/Machine/Link.lean ====
section
/-! DEFINITION. Link.lean: DrauxLink in the device role on HP0 to HP7 and on the pair link (03_drauxlink.md, R72 to
R118), but for the transmit stream of Pcs.lean. A link is named n = 0 to 7 for HPn and 8 for PL. -/

namespace Sys2Proof.Machine

/-! ### Link states and the link's own data (R102) -/

def lkDisabled : Nat := 0
def lkDetect : Nat := 1
def lkWake : Nat := 2
def lkEqualize : Nat := 3
def lkAlign : Nat := 4
def lkConfigure : Nat := 5
def lkActive : Nat := 6
def lkIdleF : Nat := 7
def lkIdleD : Nat := 8
def lkSeeking : Nat := 9

def Chip.linkSt (c : Chip) (n : Nat) : Nat := c.f (F.linkStateState n)

/-! ### TIME (R97, R112) -/

/-- TIME with its reference instant (R97, R112). DESIGN CHOICE: its START stands in the round in which its turn comes, behind what
already waits, and T_REF is rounded down to whole ns (log entry 43). -/
def Chip.sendTime (c : Chip) (n : Nat) : Chip :=
  let l := c.link n
  let tRef := ((c.roundEnd n (c.sendRoundOf n)).toNat + 5 * c.f (F.latLDown n)) / 80
  let flags := (if c.fb F.orbStatHold then 1 else 0) + (if l.stepped then 2 else 0) + (if c.running then 4 else 0)
  (c.sendPacket n 3 (timeBytes tRef ++ natBytesBE 1 flags ++ natBytesBE 1 l.timeSeq)).modLink n fun l =>
    { l with timeSeq := (l.timeSeq + 1) % 256, stepped := false }

def Chip.timeTimer (c : Chip) (n : Nat) : Chip := c.when (n < 8 && c.linkSt n == lkActive) (·.sendTime n)

/-! ### HB and CAP (R94, R95, R101) -/

def Chip.sendHb (c : Chip) (n : Nat) : Chip :=
  let l := c.link n
  let (temp, c) := c.fresh 1
  let flags := (if l.swap.isSome then 2 else 0) + (if c.pairMode && !c.headRole n then 4 else 0)
  (c.sendPacket n 4 (natBytesBE 1 (c.linkSt n) ++ natBytesBE 1 flags ++ natBytesBE 2 l.hbSeq
    ++ natBytesBE 2 (min l.hbUncorr 0xFFFF) ++ natBytesBE 2 (min l.hbCrc 0xFFFF) ++ natBytesBE 2 temp
    ++ natBytesBE 2 0)).modLink n fun l => { l with hbSeq := (l.hbSeq + 1) % 65536, hbUncorr := 0, hbCrc := 0 }

def Chip.hbTimer (c : Chip) (n : Nat) : Chip :=
  c.when (c.linkSt n == lkConfigure || c.linkSt n == lkActive) (·.sendHb n)

/-- The device's CAP; on the pair link mate 1 sends it in the head role, with the HEAD_ID that it received (R101). DESIGN CHOICE: mate 0
assigns HEAD_ID 0, and the head's capabilities of mate 1 are 0 (log entry 43). -/
def Chip.sendCap (c : Chip) (n : Nat) : Chip :=
  let head := c.headRole n
  let body := natBytesBE 1 (if head then 1 else 0) ++ natBytesBE 1 (if c.pairMode && !head then c.pairId else 0)
    ++ natBytesBE 1 (if n < 8 then c.f (F.linkCfgHeadId n) else if head then c.f (F.capBytes 8 1) / 256 % 256 else 0)
    ++ natBytesBE 1 (if head || c.pairMode then 1 else 0)
    ++ natBytesBE 2 (Config.freeNat 2 0) ++ natBytesBE 2 (Config.freeNat 3 0)
    ++ natBytesBE 4 (c.rd R.glbSerialHi).toNat ++ natBytesBE 4 (c.rd R.glbSerialLo).toNat
    ++ List.replicate 12 0#8 ++ natBytesBE 1 (if n < 8 then 3 else 1) ++ natBytesBE 1 1 ++ natBytesBE 2 0
  c.sendPacket n 6 body

/-! ### Lanes of a link -/

def Chip.eachMapped (c : Chip) (n : Nat) (g : Chip → Nat → Chip) : Chip := c.each (c.mapped n) g

def Chip.allMapped (c : Chip) (n : Nat) (g : Nat → Bool) : Bool := (c.mapped n).all g

/-- Every lane of a port loses power, but those in TEST or COND, which have no row for it (R48, R102). -/
def Chip.allLanesOff (c : Chip) (n : Nat) : Chip := c.each (List.range (laneCount n)) fun c m => c.laneRest n m

/-- Between attempts the mapped lanes wait in IDLE_DEEP and the spare stays OFF (R103); in the head role a lane that the map has left
may have trained. -/
def Chip.lanesWait (c : Chip) (n : Nat) : Chip :=
  let c := if c.headRole n then c.laneRest n (c.spareLane n) else c
  c.eachMapped n fun c m => (c.laneTrainAbandoned n m (c.laneSet n m)).laneDeep n m

/-! ### Triggers of a port (R110) -/

def Chip.trigLateOne (c : Chip) (n trig : Nat) : Chip := (c.inc (F.trigLateCount n)).feNotSent n trig

/-- Every TRIG whose round has not left is late. -/
def Chip.trigsLate (c : Chip) (n : Nat) : Chip :=
  let ts := (c.link n).trigs
  (c.modLink n fun l => { l with trigs := [] }).each ts fun c t => c.trigLateOne n t.trig

/-- The placement of a TRIG that Comet delivers now, for target `tx` in ns: the latest round still to come that ends in time
(R110); after an exit from idle no round comes before the exit is over (R107, R325). -/
def Chip.placeTrig (c : Chip) (n trig tx : Nat) : Chip :=
  let lim : Int := tx * 80 - 5 * (c.f (F.latLDown n) + c.f (F.headTrigTHeadTrig n))
  let r := (lim - c.roundEnd n 0) / c.roundLen n
  if c.linkSt n = lkActive ∧ (c.link n).rounds ≤ r then
    let delay := ((lim - c.roundEnd n r.toNat) * 2 + 5) / 10
    c.modLink n fun l => { l with trigs := l.trigs ++ [⟨trig, tx, r.toNat, delay.toNat⟩] }
  else c.trigLateOne n trig

/-- The round of the oldest waiting TRIG leaves the balls: the TRIG, which stood in that round, counts as sent (R81, R110,
R326). -/
def Chip.trigDeparts (c : Chip) (n : Nat) : Chip :=
  match (c.link n).trigs with
  | [] => c
  | t :: rest =>
    let c := c.modLink n fun l => { l with trigs := rest }
    if c.linkSt n = lkActive then
      (c.emit (.block n (trigBlock t))).modLog t.trig fun e => { e with sent := e.sent ||| 2 ^ n }
    else c.trigLateOne n t.trig

/-! ### CTRL accesses (R96, R117) -/

def ctrlBody (r : CtrlReq) : List Byte :=
  natBytesBE 1 (if r.write then 2 else 1) ++ natBytesBE 1 r.tag ++ natBytesBE 1 1 ++ natBytesBE 1 0
    ++ natBytesBE 4 r.addr ++ (if r.write then natBytesBE 4 r.data else [])

def Chip.ctrlStart (c : Chip) (n : Nat) (r : CtrlReq) : Chip :=
  let r := { r with tag := (c.link n).tag }
  let c := (c.modLink n fun l => { l with ctrl := some r, tag := (l.tag + 1) % 256 }).sendPacket n 2 (ctrlBody r)
  if r.image then c else c.setF (F.hregStatTag n) r.tag

/-- The next register write of the image for port n, or step 6 of R101 when none is left. -/
def Chip.imageWrite (c : Chip) (n : Nat) : Chip :=
  match ((c.headWrites[n]?).getD [])[(c.link n).imgDone]? with
  | some (a, d) => if (c.link n).ctrl.isSome then c else c.ctrlStart n ⟨0, true, a, d, 0, true⟩
  | none => c.modLink n fun l => { l with cfgStep := 6 }

/-- The TRIGs of rounds that have entered the PCS leave with them (R110). -/
def Chip.trigsLeave (c : Chip) (n : Nat) : Chip :=
  c.each ((c.link n).trigs.filter fun t => t.round < (c.link n).rounds) fun c _ => c.trigDeparts n

/-- A CTRL access ends with a status (R96, R117). DESIGN CHOICE: a register write of the image that ends with another status than 0x00
is passed over (log entry 43). -/
def Chip.ctrlEnd (c : Chip) (n code : Nat) (data : Option Nat) : Chip :=
  match (c.link n).ctrl with
  | none => c
  | some r =>
    let c := c.modLink n fun l => { l with ctrl := none }
    let c := if r.image then c.modLink n fun l => { l with imgDone := l.imgDone + 1 }
      else
        let c := ((c.setF (F.hregStatBusy n) 0).setF (F.hregStatDone n) 1).setF (F.hregStatCode n) code
        match data with
        | some d => if r.write ∨ code ≠ 0 then c else c.setF (F.hregDataData n) d
        | none => c
    match (c.link n).mailbox with
    | some w => (c.modLink n fun l => { l with mailbox := none }).ctrlStart n w
    | none => c

/-- An access that can no longer run ends with status 0x05 (R103). -/
def Chip.ctrlDrop (c : Chip) (n : Nat) : Chip :=
  let c := match (c.link n).mailbox with
    | some _ => (((c.modLink n fun l => { l with mailbox := none }).setF (F.hregStatBusy n) 0).setF (F.hregStatDone n) 1).setF
        (F.hregStatCode n) 5
    | none => c
  c.ctrlEnd n 5 none

def Chip.ctrlTimeout (c : Chip) (n : Nat) : Chip :=
  match (c.link n).ctrl with
  | none => c
  | some r =>
    if r.resends < 3 then
      (c.modLink n fun l => { l with ctrl := some { r with resends := r.resends + 1 } }).sendPacket n 2 (ctrlBody r)
    else
      let c := c.ctrlEnd n 5 none
      if c.linkSt n = lkConfigure ∧ (c.link n).cfgStep = 5 then c.imageWrite n else c

/-- A performed write of HPn_HREG_CMD (R117). -/
def Chip.hregGo (c : Chip) (n : Nat) (write : Bool) : Chip :=
  let c := (c.setF (F.hregStatBusy n) 1).setF (F.hregStatDone n) 0
  let r : CtrlReq := ⟨0, write, c.f (F.hregAddrAddr n), c.f (F.hregDataData n), 0, false⟩
  if (c.link n).ctrl.isSome then c.modLink n fun l => { l with mailbox := some r } else c.ctrlStart n r

/-! ### SWAP (R114 to R116) -/

def Chip.sendSwap (c : Chip) (n op : Nat) (s : Swap) (am : Nat) : Chip :=
  c.sendPacket n 5 (natBytesBE 1 op ++ natBytesBE 1 s.xid ++ natBytesBE 1 s.log ++ natBytesBE 1 s.old
    ++ natBytesBE 1 s.new ++ natBytesBE 1 s.reason ++ natBytesBE 2 am)

def Chip.modSwap (c : Chip) (n : Nat) (g : Swap → Swap) : Chip :=
  c.modLink n fun l => { l with swap := l.swap.map g }

/-- The step of R115. DESIGN CHOICE: SWAP_STAT.STEP has three bits, so step 8 shows as 0 beside BUSY = 1 (log entry 43). -/
def Chip.swapStep (c : Chip) (n k : Nat) : Chip :=
  (c.modSwap n fun s => { s with step := k }).setF (F.swapStatStep n) k

/-- A SWAP ends without success (R116): NEW goes to OFF, the old map stays, OLD is in use as before, the abort is reported. DESIGN
CHOICE: the lane of the report is NEW (log entry 43). -/
def Chip.swapFail (c : Chip) (n result reason : Nat) (send : Bool) : Chip :=
  match (c.link n).swap with
  | none => c
  | some s =>
    let c := if send then c.sendSwap n 7 { s with reason := reason } 0 else c
    let c := (c.modLink n fun l => { l with swap := none, lastSwap := some s }).laneOff n s.new
    let c := c.modLane n s.old fun l => { l with left := false }
    let c := ((c.setF (F.swapStatBusy n) 0).setF (F.swapStatStep n) 0).setF (F.swapStatResult n) result
    (c.ev (F.linkEvtSwapFail n)).report 0x06 (laneInst n s.new)

/-- The conditions under which a SWAP may start (R114, R442). DESIGN CHOICE: mate 1, in the head role, starts none, and its own GO is
rejected with 0x04 (log entry 43). -/
def Chip.swapAllowed (c : Chip) (n : Nat) : Bool :=
  c.linkSt n == lkActive && c.spareUsable n && !c.headRole n

/-- Step 1 of R115. DESIGN CHOICE: SWAP_STAT.RESULT keeps the last result until the SWAP ends (log entry 43). -/
def Chip.swapStart (c : Chip) (n k reason : Nat) : Chip :=
  let old := c.mapOf n k
  let new := c.spareLane n
  let s : Swap := Swap.start (c.link n).xid k old new reason 1
  let c := c.modLink n fun l => { l with swap := some s, xid := (l.xid + 1) % 256 }
  ((c.setF (F.swapStatBusy n) 1).setF (F.swapStatStep n) 1).sendSwap n 1 s 0

/-- A lane begins to send training frames and to look for them (R98). -/
def Chip.trainStart (c : Chip) (n m : Nat) : Chip :=
  (c.laneBringUp n m).modLaneTr n m fun _ => { LaneTr.reset with t0 := c.up80 }

/-- Step 2 of R115, once PREPARE has left: NEW goes to TRAIN. -/
def Chip.swapPrepared (c : Chip) (n : Nat) : Chip :=
  match (c.link n).swap with
  | some s => if s.step = 1 then (c.trainStart n s.new).swapStep n 2 else c
  | none => c

/-- Step 8 of R115: the map is rewritten and the SWAP ends. -/
def Chip.swapFinish (c : Chip) (n : Nat) : Chip :=
  match (c.link n).swap with
  | none => c
  | some s =>
    if s.ownDone && s.headDone then
      let c := (c.remap n s.log s.new).laneDown n s.old
      let c := c.modLink n fun l => { l with swap := none, lastSwap := some s }
      let c := ((c.ev (F.linkEvtSwapDone n)).setF (F.swapStatBusy n) 0).setF (F.swapStatStep n) 0
      ((c.setF (F.swapStatResult n) 1).inc (F.swapStatCount n)).spareSpent n s.old s.reason
    else c

/-- DONE once both directions have switched (R115). -/
def Chip.swapDirections (c : Chip) (n : Nat) : Chip :=
  match (c.link n).swap with
  | none => c
  | some s =>
    if s.rxSwitched && s.txSwitched && !s.ownDone then
      ((((c.swapStep n 8).modSwap n fun s => { s with ownDone := true }).sendSwap n 6 s 0)).swapFinish n
    else c

/-- COMMIT once both receivers are ready on NEW (R115, step 6); the device role sends it, with a switch point two AM rounds on. -/
def Chip.swapCommit (c : Chip) (n : Nat) : Chip :=
  match (c.link n).swap with
  | none => c
  | some s =>
    if s.ownReady && s.headReady && s.step == 5 && !c.headRole n then
      let am := ((c.link n).amSeq + 2) % 65536
      ((c.swapStep n 6).modSwap n fun s => { s with amD := am }).sendSwap n 4 s am
    else c

/-- READY stands on both ends of NEW: mirroring starts at the next round (R115, step 4). -/
def Chip.swapMirror (c : Chip) (n : Nat) : Chip :=
  match (c.link n).swap with
  | none => c
  | some s =>
    if s.step = 3 ∧ (c.laneTr n s.new).ready ∧ (c.laneTr n s.new).pReady then c.swapStep n 4 else c

/-- What the SWAP in progress waits for is asked for again: PREPARE_ACK, COMMIT_ACK, and in the head role COMMIT (R97). -/
def Chip.swapResend (c : Chip) (n : Nat) : Chip :=
  match (c.link n).swap with
  | none => c
  | some s =>
    if s.step = 1 ∨ s.step = 2 then c.sendSwap n 1 s 0
    else if s.step = 6 then c.sendSwap n 4 s s.amD
    else if s.step = 5 ∧ s.ownReady ∧ c.headRole n then c.sendSwap n 3 s 0
    else c

/-- A message of a SWAP that it has answered already, while it runs or after its end: the answer is sent again (R97). READY is
answered with COMMIT, PREPARE and COMMIT with their acknowledgements, and DONE with DONE. -/
def Chip.swapAgain (c : Chip) (n : Nat) (s : Swap) (op : Nat) : Chip :=
  match op with
  | 1 => c.when (c.headRole n) (·.sendSwap n 2 s 0)
  | 3 => c.when (!c.headRole n && decide (6 ≤ s.step)) (·.sendSwap n 4 s s.amD)
  | 4 => c.when (c.headRole n && decide (7 ≤ s.step)) (·.sendSwap n 5 s s.amD)
  | 6 => c.when s.ownDone (·.sendSwap n 6 s 0)
  | _ => c

/-- The SWAP that ended last, where a message names it. -/
def Chip.swapPast (c : Chip) (n xid : Nat) : Option Swap := (c.link n).lastSwap.filter fun s => s.xid == xid

/-! ### Entering and leaving link states (R102, R103) -/

def Chip.linkGo (c : Chip) (n st : Nat) : Chip := c.setF (F.linkStateState n) st

/-- The port leaves ACTIVE: open lines close and waiting TRIGs are late (R102, R110, R124); on the pair link the mate is gone
(R451). -/
def Chip.portLost (c : Chip) (n : Nat) : Chip :=
  let c := c.modLink n fun l => { l with
    alive := none, lineOpen := false, draining := false, latRun := false, exiting := false, burst := none }
  if n < 8 then (c.trigsLate n).fePortLoss n else { c with defers := c.defers ++ [.pairDown] }

/-- The receiver drops what it has not finished: the packet in progress, and the codewords in its deskew (R102). -/
def Chip.rxClear (c : Chip) (n : Nat) : Chip :=
  c.modLink n fun l => { l with
    phase := .idle, rxq := [], rxTurn := 0, logical := l.logical.map fun x => { x with words := [] } }

/-- The pending work of a link ends (R103, R116). -/
def Chip.linkPendingEnds (c : Chip) (n : Nat) : Chip :=
  (c.swapFail n 5 8 true).when (n < 8) (·.ctrlDrop n)

def Chip.wasUp (st : Nat) : Bool := st == lkActive || st == lkIdleF || st == lkIdleD

/-- Every lane of the port to OFF, and DISABLED (R102). -/
def Chip.linkDown (c : Chip) (n : Nat) (send : Bool) : Chip :=
  let st := c.linkSt n
  let c := c.linkPendingEnds n
  let c := if send then ((c.sendBlock n (mkBlock 0x6A false [])).stopRounds n).trigsLeave n else c
  let c := if st = lkActive then c.portLost n else c
  (((c.allLanesOff n).rxClear n).linkGo n lkDisabled).modLink n fun l => { l with
    cfgStep := 0, pcs := none, txq := [], burst := none, fromSeek := false, draining := false, exiting := false }

/-- Entry into SEEKING (R103); a link that drains has been disabled, and goes to DISABLED instead (R102). -/
def Chip.seek (c : Chip) (n : Nat) : Chip :=
  if (c.link n).draining then c.linkDown n true else
  let st := c.linkSt n
  let attempt := (c.link n).fromSeek
  let c := c.linkPendingEnds n
  let c := if st = lkActive then c.portLost n else c
  let c := ((c.lanesWait n).rxClear n).linkGo n lkSeeking
  let c := c.modLink n fun l => { l with cfgStep := 0, pcs := none, txq := [], fromSeek := false }
  if attempt then
    let b := c.f (F.linkStateBackoffMs n)
    c.setF (F.linkStateBackoffMs n) (if 512 ≤ b then 1000 else 2 * b)
  else
    let c := (c.setF (F.linkStateAttempts n) 0).ev (F.linkEvtSeek n)
    if c.fb (F.linkCtrlExpected n) then c.report 0x04 n else c

/-- A training phase ends in SEEKING (R102). -/
def Chip.phaseFail (c : Chip) (n phase : Nat) : Chip :=
  ((c.ev (F.linkEvtTrainTo n)).setF (F.linkStateLastFailPhase n) phase).seek n

/-- The control word the device sends on a lane (R99). -/
def Chip.trainWord (c : Chip) (n m : Nat) : Word :=
  let t := c.laneTr n m
  let spare := !(c.mapped n).contains m
  let phase := if spare then 3 else c.linkSt n - 1
  let log := if spare then 7 else ((List.range (logicalCount n)).find? fun k => c.mapOf n k == m).getD 7
  let b := fun (x : Bool) => if x then 1 else 0
  BitVec.ofNat 32 (phase * 2 ^ 28 + m * 2 ^ 25 + log * 2 ^ 22 + b t.flock * 2 ^ 21 + b t.ready * 2 ^ 20
    + c.f (F.linkCtrlPrecodeReq n) * 2 ^ 19 + c.f (F.lnCtrlPrecodeTx n m) * 2 ^ 18 + b t.reqTog * 2 ^ 17
    + b t.actedTog * 2 ^ 16 + t.reqTap * 2 ^ 12 + t.reqDir * 2 ^ 10 + t.ackStat * 2 ^ 8)

/-- From here on the frames of a lane carry this control word. -/
def Chip.showFrame (c : Chip) (n m : Nat) : Chip := c.emit (.trainFrame n m (c.trainWord n m))

/-- The mapped lanes send the frames of a phase (R102). -/
def Chip.showFrames (c : Chip) (n : Nat) : Chip := c.eachMapped n fun c m => c.showFrame n m

def Chip.detectStart (c : Chip) (n : Nat) : Chip :=
  let c := c.eachMapped n fun c m => c.trainStart n m
  ((c.modLink n fun l => { l with
    logical := List.replicate 4 LaneRx.reset, phase := .idle, rxq := [], rxTurn := 0, txq := [], eqFrames := 0
    cfgStep := 0 }).linkGo n lkDetect).showFrames n

/-- EN written 1 in DISABLED (R102); in single mode the pair link stays DISABLED (R450). -/
def Chip.linkEnable (c : Chip) (n : Nat) : Chip :=
  if c.linkSt n = lkDisabled ∧ (n < 8 ∨ c.pairMode) then
    let c := c.modLink n fun l => { l with fromSeek := false }
    ((c.setF (F.linkStateBackoffMs n) 1).setF (F.linkStateAttempts n) 0).detectStart n
  else c

/-- EN written 0 (R102): from ACTIVE the line in progress drains first. -/
def Chip.linkDisable (c : Chip) (n : Nat) : Chip :=
  let st := c.linkSt n
  if st = lkDisabled then c
  else if st = lkActive ∧ (c.link n).lineOpen then c.modLink n fun l => { l with draining := true }
  else c.linkDown n true

def Chip.drainEnd (c : Chip) (n : Nat) : Chip := if (c.link n).draining then c.linkDown n true else c

/-- Isolation under R434 or withdrawal under R457: EN clears, no drain. -/
def Chip.linkIsolate (c : Chip) (n : Nat) : Chip :=
  let c := c.setF (F.linkCtrlEn n) 0
  if c.linkSt n = lkDisabled then c else c.linkDown n false

def Chip.retry (c : Chip) (n : Nat) : Chip :=
  if c.linkSt n = lkSeeking then
    ((c.inc (F.linkStateAttempts n)).detectStart n).modLink n fun l => { l with fromSeek := true }
  else c

def Chip.detectSignal (c : Chip) (n : Nat) : Chip :=
  if c.linkSt n = lkDetect ∧ c.allMapped n fun m => c.fb (F.lnStateSigDet n m) then (c.linkGo n lkWake).showFrames n else c

def Chip.phaseTimeout (c : Chip) (n st phase : Nat) : Chip := if c.linkSt n = st then c.phaseFail n phase else c

/-- WAKE ends with frame lock on all mapped lanes and the partner's FLOCK (R102); a new guard interval starts on each
lane at the first UI of EQUALIZE (R100). In the head role the lane that the device does not use is the spare, and rests (R74,
R103). -/
def Chip.wakeDone (c : Chip) (n : Nat) : Chip :=
  if c.linkSt n = lkWake ∧ c.allMapped n fun m => (c.laneTr n m).flock && (c.laneTr n m).pFlock then
    let c := if c.headRole n then c.laneRest n (c.spareLane n) else c
    ((c.eachMapped n fun c m => (c.endGuard n m).modLaneTr n m fun t => { t with ready := false, goodRun := 0 }).linkGo n
      lkEqualize).showFrames n
  else c

/-- Another frame has been sent on the lanes in EQUALIZE: once READY stands on both ends of all mapped lanes, 8 more frames end it
(R102), and the PCS starts at round 0 (R78). DESIGN CHOICE: scrambler and descrambler start at 0 with it (R76, log entry 43). -/
def Chip.equalizeDone (c : Chip) (n : Nat) : Chip :=
  if c.linkSt n = lkEqualize ∧ c.allMapped n fun m => (c.laneTr n m).ready && (c.laneTr n m).pReady then
    let k := (c.link n).eqFrames + 1
    let c := c.modLink n fun l => { l with eqFrames := k }
    if k < 8 then c
    else (c.modLink n fun l => { l with
      pcs := some (c.up80 : Int), txq := [], rounds := 0, scr := 0, descr := 0, eqFrames := 0 }).linkGo n lkAlign
  else c

/-- Entry into ACTIVE (R102, R103, R125). -/
def Chip.linkUp (c : Chip) (n : Nat) : Chip :=
  let c := ((c.linkGo n lkActive).ev (F.linkEvtUp n)).setF (F.linkStateBackoffMs n) 1
  let c := c.modLink n fun l => { l with fromSeek := false, alive := none, lineOpen := false, cfgStep := 0, lastSwap := none }
  if n < 8 then c.fePortUp n else c

/-- Step 3 of R101 begins: a set of 16 probes (R109). -/
def Chip.latStart (c : Chip) (n : Nat) : Chip :=
  c.modLink n fun l => { l with samples := [], probes := [], sent := 0, repeats := 0, latRun := true }

/-- Steps 4 and 5 of R101. -/
def Chip.configTime (c : Chip) (n : Nat) : Chip :=
  ((c.sendTime n).modLink n fun l => { l with cfgStep := 5, imgDone := 0 }).imageWrite n

/-- The lanes are aligned from the codewords on that the AM blocks of this round begin: a lane whose AM codeword is still to come keeps
nothing of the round before (R79). -/
def Chip.alignDone (c : Chip) (n : Nat) : Chip :=
  let c := (c.linkGo n lkConfigure).modLink n fun l => { l with
    cfgStep := 1, hbUncorr := 0, hbCrc := 0, rxTurn := 0, logical := l.logical.map fun x => if x.am then { x with words := [] } else x }
  (if c.headRole n then c else c.sendCap n).sendHb n

/-- AM lock on every logical lane, judged once the AM blocks of the round at which the last lane locked are all there (R79,
R102). -/
def Chip.alignCheck (c : Chip) (n : Nat) : Chip :=
  let ls := (c.link n).logical.take (logicalCount n)
  if c.linkSt n = lkAlign ∧ ls.all (fun l => l.locked && l.seq == (c.laneRx n 0).seq) then
    if ls.any fun l => 160000 < l.late then c.phaseFail n 4 else c.alignDone n
  else c

/-- Idle entry (R105, R106): what waits is sent, the last round carries the block, the rounds stop, and the lanes idle; the port
leaves ACTIVE (R124). -/
def Chip.linkIdle (c : Chip) (n : Nat) (deep : Bool) : Chip :=
  if c.linkSt n = lkActive then
    let c := (((c.sendBlock n (mkBlock (if deep then 0x6A else 0x66) false [])).stopRounds n).trigsLeave n).portLost n
    (c.eachMapped n fun c m => if deep then c.laneDeep n m else c.laneFast n m).linkGo n (if deep then lkIdleD else lkIdleF)
  else c

/-- Idle exit (R107): from IDLE_DEEP after a wake of 20 µs, the lanes send burst and alignment pattern, and the round after the last
one before idle starts behind it. The port enters ACTIVE (R92, R125), and HB starts again. -/
def Chip.linkIdleExit (c : Chip) (n : Nat) : Chip :=
  let st := c.linkSt n
  if st = lkIdleF ∨ st = lkIdleD then
    let t := c.up80 + (if st = lkIdleF then 0 else 1600000)
    let c := c.eachMapped n fun c m => if st = lkIdleF then c.laneFastExit n m else c.laneWakeData n m
    let start := t + c.uiTime n 320
    let len := c.roundLen n
    let c := (c.linkGo n lkActive).modLink n fun l => { l with
      exiting := true, alive := none, lineOpen := false, burst := some t, pcs := some (start - (l.rounds * len : Nat)) }
    (if n < 8 then c.fePortUp n else c).sendHb n
  else c

def Chip.idleExitTimeout (c : Chip) (n : Nat) : Chip :=
  if (c.link n).exiting then (c.ev (F.linkEvtUnplug n)).seek n else c

def Chip.hbTimeout (c : Chip) (n : Nat) : Chip :=
  if c.linkSt n = lkActive then (c.ev (F.linkEvtHbLost n)).seek n else c

/-- Signal absent on all mapped lanes, from DETECT to ACTIVE (R102). -/
def Chip.unplug (c : Chip) (n : Nat) : Chip :=
  let st := c.linkSt n
  if lkDetect ≤ st ∧ st ≤ lkActive ∧ c.allMapped n fun m => !c.fb (F.lnStateSigDet n m) then
    (c.ev (F.linkEvtUnplug n)).seek n
  else c

/-! ### Training frames (R98 to R100) -/

/-- A lane that sends and receives training frames: mapped in DETECT to EQUALIZE, or the spare of a SWAP until mirroring (R98,
R115). -/
def Chip.inTraining (c : Chip) (n m : Nat) : Bool :=
  let st := c.linkSt n
  (lkDetect ≤ st && st ≤ lkEqualize && (c.mapped n).contains m)
    || ((c.link n).swap.any fun s => s.new == m && decide (2 ≤ s.step) && decide (s.step ≤ 4))

/-- In the head role the map follows the LOG field of the device's frames (R74). -/
def Chip.headMap (c : Chip) (n m log : Nat) : Chip :=
  if c.headRole n ∧ c.linkSt n ≠ lkActive ∧ log < logicalCount n ∧ c.mapOf n log ≠ m then
    (c.remap n log m).trainStart n m
  else c

/-- What a valid frame under frame lock does (R99, R100). The precoding of a spare in training follows OLD (R115). DESIGN CHOICE: precoding
of the transmitter that a training turned on stays on in the next (log entry 43). -/
def Chip.trainFields (c : Chip) (n m : Nat) (w : Word) : Chip :=
  let c := c.modLaneTr n m fun t => { t with
    pFlock := bitAt w 21, pReady := bitAt w 20, acked := t.acked || (bitAt w 16 == t.reqTog) }
  let c := if c.linkSt n = lkActive then c
    else c.setPrecode n m (c.fb (F.lnCtrlPrecodeTx n m) || (c.laneTr n m).preRun == 3) (bitAt w 18)
  if bitAt w 17 != (c.laneTr n m).actedTog then
    let (c, ack) := c.coeffRequest n m (getBits w 12 4) (getBits w 10 2)
    c.modLaneTr n m fun t => { t with actedTog := bitAt w 17, ackStat := ack }
  else c

/-- The runs of a lane after a frame: towards frame lock and its loss, and of PRE_REQ in valid frames (R98, R100). -/
def LaneTr.runs (t : LaneTr) (valid pre : Bool) : LaneTr :=
  let v := if valid then min (t.vRun + 1) 3 else 0
  let i := if valid then 0 else min (t.iRun + 1) 4
  { t with
    vRun := v, iRun := i, flock := if v = 3 then true else if i = 4 then false else t.flock
    preRun := if valid && pre then min (t.preRun + 1) 3 else 0 }

/-- A training frame arrives on a lane with its control word and check (R98); the lane's own frames go on with what it
changes. -/
def Chip.trainFrame (c : Chip) (n m : Nat) (w crc : Word) : Chip :=
  let valid := crc == crc32c (natBytesBE 4 w.toNat)
  let c := if valid && lkDetect ≤ c.linkSt n && c.linkSt n ≤ lkEqualize && getBits w 28 4 < 3 then
      c.headMap n m (getBits w 22 3)
    else c
  if !c.inTraining n m || (valid && decide (4 ≤ getBits w 28 4)) then c
  else
    let c := c.modLaneTr n m fun t => t.runs valid (bitAt w 19)
    let c := if valid then c.cdrSeen n m else c
    let c := if valid && (c.laneTr n m).flock then c.trainFields n m w else c
    ((c.showFrame n m).wakeDone n).swapMirror n

/-- A guard interval of a lane in EQUALIZE or spare training was evaluated with a metric (R100). -/
def Chip.guardTrain (c : Chip) (n m eye : Nat) : Chip :=
  let eq := c.linkSt n == lkEqualize && (c.mapped n).contains m
  let sp := (c.link n).swap.any fun s => s.new == m && s.step == 3
  if !(eq || sp) then c
  else if c.f (F.lnGuardEyeGood n m) ≤ eye then
    (c.modLaneTr n m fun t => { t with goodRun := t.goodRun + 1, ready := t.ready || decide (1 ≤ t.goodRun) }).swapMirror n
  else
    let c := c.modLaneTr n m fun t => { t with goodRun := 0 }
    if (c.laneTr n m).acked then
      let (k, c) := c.fresh 4
      c.modLaneTr n m fun t =>
        { t with reqTog := !t.reqTog, acked := false, reqTap := k % 3 + 1, reqDir := k / 3 % 4 }
    else c

/-- GUARD_INTERVAL_END: the drift guard of R58, and the READY and requests of training (R100) where it was evaluated. -/
def Chip.guardInterval (c : Chip) (n m eye : Nat) : Chip :=
  let st := c.laneState n m
  let judged := (st == lsTrain || st == lsActive) && (c.lane n m).gWin == 1024 && decide (512 ≤ (c.lane n m).gBusy)
  let c := c.guardEnd n m eye
  if judged && decide (n < 9) then c.guardTrain n m (min eye 255) else c

/-! ### Receiving codewords (R77 to R83, R87) -/

def Chip.rxPhase (c : Chip) (n : Nat) (p : RxPhase) : Chip := c.modLink n fun l => { l with phase := p }

def Chip.inPacket (c : Chip) (n : Nat) : Bool :=
  match (c.link n).phase with
  | .inPkt _ _ => true
  | _ => false

/-- A packet that has all its bytes waits for its row (R83). -/
def Chip.rxGrow (c : Chip) (n len : Nat) (bytes : List Byte) : Chip :=
  if len ≤ bytes.length then
    c.modLink n fun l => { l with phase := .idle, rxq := l.rxq ++ [⟨bytes.take len, false, true⟩] }
  else c.rxPhase n (.inPkt len bytes)

/-- A control block that ends the packet in progress fails its framing (R87). -/
def Chip.rxBreak (c : Chip) (n : Nat) : Chip :=
  (if c.inPacket n then c.inc (F.frameErrCount n) else c).rxPhase n .idle

/-- One block in order (R81 to R83, R87). DESIGN CHOICE: the data blocks behind a START whose LEN is out of range belong to that
packet, which has been counted, and are not counted again (log entry 43). In the head role an enter block is answered with the
same block in the last round, and the lanes idle (R106). -/
def Chip.rxBlock (c : Chip) (n : Nat) (b : RxBlock) : Chip :=
  let typ := fieldBE b.bytes 0 1
  if b.errored then
    let c := if c.inPacket n then (c.inc (F.fecDropCount n)).rxPhase n .resync else c
    if !b.hdr && typ == 0x78 then (c.inc (F.fecDropCount n)).rxPhase n .resync else c
  else if b.hdr then
    match (c.link n).phase with
    | .inPkt len bytes => c.rxGrow n len (bytes ++ b.bytes)
    | .idle => c.inc (F.frameErrCount n)
    | .resync => c
  else match typ with
    | 0x78 =>
      let c := c.rxBreak n
      let bytes := b.bytes.drop 1
      let len := fieldBE bytes 2 2
      if len < 16 ∨ 8226 < len then (c.inc (F.frameErrCount n)).rxPhase n .resync else c.rxGrow n len bytes
    | 0x2D => if blockOk b.bytes 18 then c else c.inc (F.osErrCount n)
    | 0x33 => if blockOk b.bytes 2 then c else c.inc (F.osErrCount n)
    | 0x4B => if blockOk b.bytes 6 then c else c.inc (F.osErrCount n)
    | 0x55 => if blockOk b.bytes 12 then c else c.inc (F.osErrCount n)
    | 0x1E => c.rxBreak n
    | 0x66 => if c.headRole n then (c.rxBreak n).linkIdle n false else c.rxBreak n
    | 0x6A => if c.headRole n then (c.rxBreak n).linkIdle n true else c.rxBreak n
    | _ => (c.inc (F.osErrCount n)).rxBreak n

/-- The PCS receiver runs, in the idle states too for what the head still sends (R106). -/
def Chip.pcsRuns (c : Chip) (n : Nat) : Bool := lkAlign ≤ c.linkSt n && c.linkSt n ≤ lkIdleD

/-- The receiver takes logical lane `k` from NEW (R115, R116). -/
def Chip.rxOnNew (c : Chip) (n k : Nat) : Bool := (c.link n).swap.any fun s => s.log == k && s.rxSwitched

/-- Codewords whose turn has come, one lane after the other, become blocks (R75 to R77). -/
def Chip.rxDrain (c : Chip) (n : Nat) : Nat → Chip
  | 0 => c
  | f + 1 =>
    let k := (c.link n).rxTurn
    match (c.laneRx n k).words with
    | [] => c
    | w :: rest =>
      let c := (c.modLaneRx n k fun l => { l with words := rest }).modLink n fun l => { l with
        rxTurn := (k + 1) % logicalCount n }
      let r := blocksOfBits w.am w.bad (c.link n).descr 20 (w.syms.flatMap symbolBits)
      ((c.modLink n fun l => { l with descr := r.2 }).each r.1 fun c b => c.rxBlock n b).rxDrain n f

/-- A codeword takes its place in the deskew of its lane; until the lanes are aligned, only those since the last AM block count
(R79). -/
def Chip.rxDeskew (c : Chip) (n k : Nat) (w : RxWord) : Chip :=
  if c.linkSt n = lkAlign then
    c.modLaneRx n k fun l => { l with words := if w.am then [w] else if l.words.length < 4 then l.words ++ [w] else l.words }
  else
    let c := c.modLaneRx n k fun l => { l with words := l.words ++ [w] }
    c.rxDrain n (((c.link n).logical.map (·.words.length)).sum)

/-- The place behind place `p`, and whether place `a` is not before place `b`: places count modulo 2^30 (R78). -/
def nextPlace (p : Nat) : Nat := (p + 1) % 2 ^ 30

def placeReached (a b : Nat) : Bool := decide ((a + 2 ^ 30 - b) % 2 ^ 30 < 2 ^ 29)

/-- A codeword of a logical lane in use is decoded and counted (R79). -/
def Chip.rxTake (c : Chip) (n k m : Nat) (word : List Nat) : Chip :=
  let c := c.modLink n fun l => { l with exiting := false }
  let am := (c.laneRx n k).am
  let c := c.modLaneRx n k fun l => { l with am := false, pos := nextPlace l.pos }
  match rsDecode word with
  | some (w, e) =>
    let c := ((c.add (F.lsymCount n k) e).add (F.fecCorrCount n) e).modLaneRx n k fun l => { l with corr := l.corr + e }
    (c.cdrSeen n m).rxDeskew n k ⟨am, false, w.take 514⟩
  | none =>
    let c := (c.inc (F.fecUncorrCount n)).modLink n fun l => { l with hbUncorr := l.hbUncorr + 1 }
    c.rxDeskew n k ⟨am, true, word.take 514⟩

/-- A receiver takes its lane from NEW, on which it is locked, from place `p` on: the codewords from there that have come on NEW
follow those of OLD, which leaves use (R61, R115, R116). -/
def Chip.swapRxSwitch (c : Chip) (n p : Nat) : Chip :=
  match (c.link n).swap with
  | none => c
  | some s =>
    let c := c.modLaneRx n s.log fun l => { l with locked := true, vRun := 2, fRun := 0, pos := p }
    let c := (c.laneLeave n s.old).modSwap n fun s => { s with rxSwitched := true, newWords := [] }
    let c := c.each (s.newWords.filter fun w => placeReached w.pos p) fun c w =>
      (c.modLaneRx n s.log fun l => { l with am := w.am }).rxTake n s.log s.new w.word
    (c.modLaneRx n s.log fun l => { l with am := s.newAm && placeReached s.newPos p }).swapDirections n

/-- OLD has come to the place from which on the receiver takes the lane from NEW (R115, step 7). -/
def Chip.swapReached (c : Chip) (n k : Nat) : Chip :=
  match (c.link n).swap with
  | none => c
  | some s =>
    match s.switchPos with
    | none => c
    | some p => if s.log = k ∧ !s.rxSwitched ∧ placeReached (c.laneRx n k).pos p then c.swapRxSwitch n p else c

/-- OLD fails after READY: NEW takes over from the next codeword on (R116). -/
def Chip.swapOldFails (c : Chip) (n k : Nat) : Chip :=
  match (c.link n).swap with
  | none => c
  | some s =>
    if s.ownReady ∧ s.log = k ∧ !s.rxSwitched then
      (c.modSwap n fun s => { s with switchPos := some (c.laneRx n k).pos }).swapReached n k
    else c

/-- A codeword of the lane that carries logical lane `k`. -/
def Chip.rxCodeword (c : Chip) (n k m : Nat) (word : List Nat) : Chip :=
  let c := c.rxTake n k m word
  if (rsDecode word).isNone then c.swapOldFails n k else c.swapReached n k

/-- A codeword on NEW before the switch is kept for as long as the skew of the lanes allows; the sixteenth in a row that decodes makes
the receiver ready (R79; R115, step 5). -/
def Chip.newCodeword (c : Chip) (n : Nat) (s : Swap) (word : List Nat) : Chip :=
  let c := c.modSwap n fun s =>
    let l := s.newWords ++ [⟨s.newPos, s.newAm, word⟩]
    { s with newPos := nextPlace s.newPos, newAm := false, newWords := l.drop (l.length - 4) }
  if s.step < 5 ∨ s.amRun < 2 ∨ s.ownReady then c
  else if (rsDecode word).isNone then c.modSwap n fun s => { s with clean := 0 }
  else
    let c := c.modSwap n fun s => { s with clean := s.clean + 1 }
    if s.clean + 1 < 16 then c
    else ((c.modSwap n fun s => { s with ownReady := true }).sendSwap n 3 s 0).swapCommit n

/-- A codeword on NEW after the switch counts from the switch point on. -/
def Chip.newInUse (c : Chip) (n : Nat) (s : Swap) (word : List Nat) : Chip :=
  let c := c.modSwap n fun s => { s with newPos := nextPlace s.newPos, newAm := false }
  if s.switchPos.all (placeReached s.newPos) then c.rxTake n s.log s.new word else c

/-- The 2,720 symbols of a codeword of logical lane k arrive on its lane, or on NEW during a SWAP (R45, R77, R79, R115). In the head
role they show that the device has left idle, and the own exit begins (R107). -/
def Chip.codeword (c : Chip) (n k : Nat) (onNew : Bool) (sym : List Nat) : Chip :=
  if !c.pcsRuns n ∨ logicalCount n ≤ k then c
  else
    let st := c.linkSt n
    let c := if c.headRole n ∧ (st = lkIdleF ∨ st = lkIdleD) then c.linkIdleExit n else c
    match onNew, (c.link n).swap with
    | true, none => c
    | true, some s =>
      if s.log ≠ k then c
      else
        let (c, bits) := c.laneRxBits n s.new sym
        let word := symbolsOfBits 544 bits
        if s.rxSwitched then c.newInUse n s word else c.newCodeword n s word
    | false, _ =>
      if c.rxOnNew n k then c
      else
        let m := c.mapOf n k
        let (c, bits) := c.laneRxBits n m sym
        c.rxCodeword n k m (symbolsOfBits 544 bits)

/-- Lock of a logical lane is lost (R79, R102). -/
def Chip.amLost (c : Chip) (n k : Nat) : Chip :=
  let c := (c.ev (F.linkEvtAmLoss n)).report 0x03 (laneInst n (if c.rxOnNew n k then c.spareLane n else c.mapOf n k))
  let c := c.swapOldFails n k
  let lost := (((c.link n).logical.take (logicalCount n)).filter fun l => !l.locked).length
  if c.linkSt n = lkActive ∧ 2 ≤ lost then (c.ev (F.linkEvtHbLost n)).seek n else c

/-- An AM position of a logical lane in use: the block found there and how late it came after the earliest of its round, in ps
(R78 to R80, R102). -/
def Chip.amTaken (c : Chip) (n k m : Nat) (block : List Byte) (late : Nat) : Chip :=
  let l := c.laneRx n k
  let valid := amValid k block && (c.linkSt n == lkAlign || late ≤ 160000)
  let thr := c.f (F.laneThrSymThr n)
  let c := if thr ≠ 0 ∧ thr < l.corr then c.report 0x01 (laneInst n m) else c
  let v := if valid then l.vRun + 1 else 0
  let f := if valid then 0 else l.fRun + 1
  let lost := l.locked && f == 3
  let seq := if valid then fieldBE block 2 2 else (l.seq + 1) % 65536
  let c := c.modLaneRx n k fun l => { l with
    locked := (l.locked || decide (2 ≤ v)) && !lost, vRun := v, fRun := if lost then 0 else f
    late := if valid then late else 0, corr := 0, am := true, seq := seq, pos := seq * 16384 }
  (if lost then c.amLost n k else c).alignCheck n

/-- An AM position on NEW (R115, steps 5 and 7): the receiver locks there. Once NEW is in use the position counts for the lane, unless
that round has been judged on OLD. -/
def Chip.newAmPosition (c : Chip) (n k : Nat) (s : Swap) (block : List Byte) (late : Nat) : Chip :=
  let valid := amValid k block && decide (late ≤ 160000)
  let seq := (if valid then fieldBE block 2 2 else ceilDiv s.newPos 16384) % 65536
  let c := c.modSwap n fun s => { s with
    newPos := seq * 16384, newAm := true, amRun := if s.rxSwitched then s.amRun else if valid then s.amRun + 1 else 0 }
  if !s.rxSwitched then c
  else if seq = (c.laneRx n k).seq then
    c.modLaneRx n k fun l => { l with am := l.am || s.switchPos.all (placeReached (seq * 16384)) }
  else c.amTaken n k s.new block late

/-- An AM position of logical lane k on its lane, or on NEW during a SWAP, where the receiver locks and deskews it with the other
lanes (R79, R115). -/
def Chip.amPosition (c : Chip) (n k : Nat) (onNew : Bool) (block : List Byte) (late : Nat) : Chip :=
  if !c.pcsRuns n ∨ logicalCount n ≤ k then c
  else
    match onNew, (c.link n).swap with
    | true, none => c
    | true, some s => if s.log ≠ k ∨ s.step < 5 then c else c.newAmPosition n k s block late
    | false, _ => if c.rxOnNew n k then c else (c.amTaken n k (c.mapOf n k) block late).swapReached n k

/-! ### Checks of a packet (R84, R86, R87) -/

/-- The LEN of a PAIR message (R453). -/
def pairLen (bs : List Byte) : Option Nat :=
  match fieldBE bs 4 1 with
  | 0x02 | 0x08 => some 40
  | 0x0B => some 48
  | 0x10 => some (20 + 8 * fieldBE bs 14 2)
  | m => if 1 ≤ m ∧ m ≤ 0x11 then some 20 else none

/-- The LEN that the type of a packet asks for on a link (R86); LINE has a range. -/
def lenOk (n : Nat) (bs : List Byte) : Bool :=
  let len := bs.length
  match fieldBE bs 0 1 / 16 with
  | 1 => n < 8 && 35 ≤ len && len ≤ 8226
  | 2 =>
    let op := fieldBE bs 4 1
    let words := if (op = 0x81 ∧ fieldBE bs 7 1 = 0) ∨ op = 2 then fieldBE bs 6 1 else 0
    n < 8 && len == 16 + 4 * words
  | 4 => len == 20
  | 5 => len == 16
  | 6 => len == 40
  | 8 => n == 8 && pairLen bs == some len
  | _ => false

/-- Checks 1 to 4 of R87; the packet leaves the receive queue. -/
def Chip.rxCheck (c : Chip) (n : Nat) (pk : RxPkt) : Chip × Bool :=
  let c := c.modLink n fun l => { l with rxq := match l.rxq with
    | q :: rest => if q = pk then rest else l.rxq
    | [] => [] }
  let bs := pk.bytes
  let len := fieldBE bs 2 2
  if !pk.framed ∨ len < 16 ∨ 8226 < len ∨ bs.length ≠ len then (c.inc (F.frameErrCount n), false)
  else if pk.errored then (c.inc (F.fecDropCount n), false)
  else if (crc32c (bs.take (len - 4))).toNat ≠ fieldBE bs (len - 4) 4 then
    ((c.inc (F.crcErrCount n)).modLink n fun l => { l with hbCrc := l.hbCrc + 1 }, false)
  else if fieldBE bs 0 1 % 16 ≠ 1 ∨ !lenOk n bs then (c.inc (F.typeErrCount n), false)
  else (c, true)

/-- A packet of type `typ` that passes the checks is used by `g`; a good packet of another type belongs to another
row. -/
def Chip.rxUse (c : Chip) (n typ : Nat) (pk : RxPkt) (g : Chip → List Byte → Chip) : Chip :=
  if !c.pcsRuns n then c
  else
    let r := c.rxCheck n pk
    if r.2 ∧ fieldBE pk.bytes 0 1 / 16 = typ then
      g (r.1.modLink n fun l => { l with exiting := false }) pk.bytes
    else r.1

/-! ### LINE packets (R88 to R93) -/

/-- The content checks of R91 after HEAD_ID. -/
def Chip.lineFormatOk (c : Chip) (n : Nat) (bs : List Byte) : Bool :=
  let bank := ((c.logEntry (fieldBE bs 12 4)).map (·.bank)).getD c.actBank
  let fmt := fieldBE bs 6 1
  let size := fmt / 64
  let nch := fmt / 16 % 4
  let npix := fieldBE bs 28 2
  size == c.f (F.feJcfgSize bank n) && nch == c.f (F.feJcfgNch bank n) && 1 ≤ npix
    && fieldBE bs 26 2 + npix ≤ c.lineNpix n bank
    && bs.length == 34 + ceilDiv (npix * (nch + 1) * sizeBits size) 8

/-- The accepted LINE packet goes to the front end (R92, R93, R120). -/
def Chip.lineAccept (c : Chip) (n : Nat) (bs : List Byte) : Chip :=
  let alive := fieldBE bs 5 1
  let c := match (c.link n).alive with
    | some k => c.add (F.aliveSkipCount n) ((alive + 511 - k) % 256)
    | none => c
  let c := match c.logEntry (fieldBE bs 12 4) with
    | some e =>
      let t := timeOfBytes ((bs.drop 16).take 10)
      let tol := c.f (F.linkCfgTsTol n)
      if tol ≠ 0 ∧ tol < max t e.time - min t e.time then c.inc (F.tsErrCount n) else c
    | none => c
  let last := bitAt (BitVec.ofNat 32 (fieldBE bs 1 1)) 6
  let c := (c.inc (F.lineCntCount n)).modLink n fun l => { l with alive := some alive, lineOpen := !last }
  let c := c.feAccept n bs
  if last then c.drainEnd n else c

/-- Checks 5 to 7 of R87; the trigger log is read for the packet's TRIG_ID (R91, R93, R326). -/
def Chip.lineChecked (c : Chip) (n : Nat) (bs : List Byte) : Chip :=
  if c.linkSt n ≠ lkActive then c.inc (F.frameErrCount n)
  else if fieldBE bs 4 1 ≠ c.f (F.linkCfgHeadId n) then c.inc (F.idErrCount n)
  else
    let c := c.noteStale [fieldBE bs 12 4]
    if !c.lineFormatOk n bs then c.inc (F.fmtErrCount n)
    else if (c.link n).alive = some (fieldBE bs 5 1) then c.inc (F.aliveRepCount n)
    else c.lineAccept n bs

def Chip.lineRx (c : Chip) (n : Nat) (pk : RxPkt) : Chip := c.rxUse n 1 pk fun c bs => c.lineChecked n bs

/-! ### HB, CAP, CTRL, ECHO and SWAP packets -/

/-- An HB arrives; in CONFIGURE step 6 TIME_OK completes the configuration (R95, R101). -/
def Chip.hbRx (c : Chip) (n : Nat) (pk : RxPkt) : Chip :=
  c.rxUse n 4 pk fun c bs =>
    let c := c.modLink n fun l => { l with hbLast := bs }
    if c.linkSt n = lkConfigure ∧ (c.link n).cfgStep = 6 ∧ fieldBE bs 5 1 % 2 = 1 then c.linkUp n else c

/-- The capability copy (R118). -/
def Chip.storeCap (c : Chip) (n : Nat) (bs : List Byte) : Chip :=
  c.each (List.range 10) fun c k => c.setF (F.capBytes n k) (fieldBE bs (4 * k) 4)

/-- Step 2 of R101: LINK and RATES of the head's CAP. -/
def Chip.capOk (c : Chip) (n : Nat) (bs : List Byte) : Bool :=
  fieldBE bs 5 1 == (if c.pairMode then c.pairId else 0)
    && (BitVec.ofNat 32 (fieldBE bs 32 1)).getLsbD (c.f (F.laneRateRate n))

/-- A CAP from the head (R101). DESIGN CHOICE: the pair link, which carries no PROBE, TIME or CTRL (R72), is configured with the
exchange of CAP (log entry 43). -/
def Chip.capRx (c : Chip) (n : Nat) (pk : RxPkt) : Chip :=
  if c.headRole n then c else
  c.rxUse n 6 pk fun c bs =>
    let c := c.storeCap n bs
    let c := if n < 8 then c.setF (F.headTrigTHeadTrig n) (fieldBE bs 28 4) else c
    if c.linkSt n = lkConfigure ∧ (c.link n).cfgStep = 1 then
      if !c.capOk n bs then
        ((c.ev (F.linkEvtCapMismatch n)).setF (F.linkStateLastFailPhase n) 5).seek n
      else if n = 8 then c.linkUp n
      else (c.modLink n fun l => { l with cfgStep := 3 }).latStart n
    else c

def Chip.capResend (c : Chip) (n : Nat) : Chip :=
  c.when (c.linkSt n == lkConfigure && (c.link n).cfgStep == 1 && !c.headRole n) (·.sendCap n)

/-- The device's CAP reaches mate 1, which answers it in the head role (R72, R101). -/
def Chip.deviceCapRx (c : Chip) (pk : RxPkt) : Chip :=
  if !c.headRole 8 then c else
  c.rxUse 8 6 pk fun c bs =>
    let c := (c.storeCap 8 bs).sendCap 8
    if c.linkSt 8 = lkConfigure then c.linkUp 8 else c

/-- A probe set ends (R109). `samples` holds twice the latency of each answered probe, in units of 1/16 ns. DESIGN CHOICE: a set with
fewer than three answers is repeated like one with too large a spread; the fourth in ACTIVE ends the measurement with L_DOWN as
it was; the mean is rounded down (log entry 43). -/
def Chip.latDone (c : Chip) (n : Nat) : Chip :=
  let l := c.link n
  let s := l.samples
  let hi := s.foldl max (s.headD 0)
  let lo := s.foldl min (s.headD 0)
  let rest := (s.erase hi).erase lo
  let spread := rest.foldl max (rest.headD 0) - rest.foldl min (rest.headD 0)
  let cfg := c.linkSt n == lkConfigure
  if rest.isEmpty ∨ 32 < spread then
    if l.repeats < 3 then
      c.modLink n fun l => { l with samples := [], probes := [], sent := 0, repeats := l.repeats + 1 }
    else if cfg then c.phaseFail n 5
    else c.modLink n fun l => { l with latRun := false }
  else
    let mean := (rest.sum / (2 * rest.length : Nat)).toNat
    let c := c.modLink n fun l => { l with latRun := false }
    if cfg then ((c.setF (F.latLDown n) mean).modLink n fun l => { l with cfgStep := 4 }).configTime n
    else
      let old := c.f (F.latLDown n)
      if 16 < max old mean - min old mean then (c.ev (F.linkEvtLatJump n)).setF (F.latLDown n) mean else c

def Chip.latMeasuring (c : Chip) (n : Nat) : Bool :=
  n < 8 && (c.link n).latRun
    && ((c.linkSt n == lkConfigure && (c.link n).cfgStep == 3) || c.linkSt n == lkActive)

/-- The next probe of a set; once all 16 are sent and the last could still be answered no longer, the set ends. -/
def Chip.probeSend (c : Chip) (n : Nat) : Chip :=
  if !c.latMeasuring n then c
  else if (c.link n).sent < 16 then
    let pid := (c.link n).pid
    (c.sendAhead n (mkBlock 0x33 true (natBytesBE 1 pid))).modLink n fun l => { l with
      pid := (pid + 1) % 256, sent := l.sent + 1, probes := l.probes ++ [(pid, 0)] }
  else c.latDone n

/-- An ECHO arrives, `rtt` units of 1/16 ns after the departure of its PROBE (R81, R108, R109). -/
def Chip.echoRx (c : Chip) (n : Nat) (block : List Byte) (rtt : Nat) : Chip :=
  if !c.pcsRuns n ∨ fieldBE block 0 1 ≠ 0x4B then c
  else if !blockOk block 6 then c.inc (F.osErrCount n)
  else
    let pid := fieldBE block 1 1
    if c.latMeasuring n ∧ (c.link n).probes.any (·.1 == pid) then
      let c := c.modLink n fun l => { l with
        probes := l.probes.filter (·.1 != pid)
        samples := l.samples ++ [(rtt : Int) - (fieldBE block 2 4 : Int)] }
      if (c.link n).sent = 16 ∧ (c.link n).probes.isEmpty then c.latDone n else c
    else c

def Chip.latPeriod (c : Chip) (n : Nat) : Chip :=
  c.when (n < 8 && c.linkSt n == lkActive && !(c.link n).latRun) (·.latStart n)

/-- The response to the outstanding CTRL access (R96). -/
def Chip.ctrlRx (c : Chip) (n : Nat) (pk : RxPkt) : Chip :=
  c.rxUse n 2 pk fun c bs =>
    match (c.link n).ctrl with
    | none => c
    | some r =>
      if fieldBE bs 5 1 = r.tag ∧ fieldBE bs 4 1 = (if r.write then 0x82 else 0x81) then
        let c := c.ctrlEnd n (fieldBE bs 7 1) (if bs.length = 20 then some (fieldBE bs 12 4) else none)
        if c.linkSt n = lkConfigure ∧ (c.link n).cfgStep = 5 then c.imageWrite n else c
      else c

/-- A SWAP message of operation `op` for the SWAP in progress is used by `g`; one of the SWAP that ended last is answered again
(R97). -/
def Chip.swapRx (c : Chip) (n op : Nat) (pk : RxPkt) (g : Chip → Swap → List Byte → Chip) : Chip :=
  c.rxUse n 5 pk fun c bs =>
    if fieldBE bs 4 1 ≠ op then c
    else match (c.link n).swap.filter fun s => s.xid == fieldBE bs 5 1, c.swapPast n (fieldBE bs 5 1) with
      | some s, _ => g c s bs
      | none, some s => c.swapAgain n s op
      | none, none => c

def Chip.swapPrepareAck (c : Chip) (n : Nat) (pk : RxPkt) : Chip :=
  c.swapRx n 2 pk fun c s _ =>
    if 2 < s.step then c
    else
      let c := c.swapPrepared n
      let c := c.setPrecode n s.new (c.fb (F.lnCtrlPrecodeTx n s.old)) (c.fb (F.lnCtrlPrecodeRx n s.old))
      (c.endGuard n s.new).swapStep n 3

def Chip.swapReadyRx (c : Chip) (n : Nat) (pk : RxPkt) : Chip :=
  c.swapRx n 3 pk fun c s _ =>
    if s.step < 3 then c
    else if 6 ≤ s.step then c.swapAgain n s 3
    else (c.modSwap n fun s => { s with headReady := true }).swapCommit n

def Chip.swapCommitAck (c : Chip) (n : Nat) (pk : RxPkt) : Chip :=
  c.swapRx n 5 pk fun c s bs =>
    if s.step ≠ 6 then c else (c.modSwap n fun s => { s with
      amH := fieldBE bs 10 2, switchPos := some (fieldBE bs 10 2 * 16384) }).swapStep n 7

def Chip.swapDoneRx (c : Chip) (n : Nat) (pk : RxPkt) : Chip :=
  c.swapRx n 6 pk fun c s _ =>
    if s.step < 7 then c else (c.modSwap n fun s => { s with headDone := true }).swapFinish n

def Chip.swapAbortRx (c : Chip) (n : Nat) (pk : RxPkt) : Chip := c.swapRx n 7 pk fun c _ _ => c.swapFail n 4 0 false

/-- REQUEST is reported to the fault controller (R114); the reason names the source, the physical lane the instance. -/
def Chip.swapRequestRx (c : Chip) (n : Nat) (pk : RxPkt) : Chip :=
  c.rxUse n 5 pk fun c bs =>
    if fieldBE bs 4 1 = 8 then
      let src := match fieldBE bs 9 1 with
        | 4 => 0x02
        | 5 => 0x03
        | _ => 0x01
      (c.ev (F.linkEvtSwapReq n)).report src (laneInst n (fieldBE bs 7 1))
    else c

def Chip.swapTimeout (c : Chip) (n : Nat) : Chip := c.swapFail n 2 6 true

/-- Mate 1 answers PREPARE in the head role (R72, R97, R115, R116). -/
def Chip.swapPrepareRx (c : Chip) (pk : RxPkt) : Chip :=
  if !c.headRole 8 then c else
  c.rxUse 8 5 pk fun c bs =>
    if fieldBE bs 4 1 ≠ 1 ∨ c.linkSt 8 ≠ lkActive then c
    else
      let s : Swap := Swap.start (fieldBE bs 5 1) (fieldBE bs 6 1) (fieldBE bs 7 1) (fieldBE bs 8 1) (fieldBE bs 9 1) 3
      match (c.link 8).swap with
      | some t => if t.xid = s.xid then c.swapAgain 8 t 1 else c
      | none =>
        match c.swapPast 8 s.xid with
        | some t => c.swapAgain 8 t 1
        | none =>
          let c := (c.modLink 8 fun l => { l with swap := some s }).setF (F.swapStatBusy 8) 1
          let c := (c.trainStart 8 s.new).setF (F.swapStatStep 8) 3
          let c := c.setPrecode 8 s.new (c.fb (F.lnCtrlPrecodeTx 8 s.old)) (c.fb (F.lnCtrlPrecodeRx 8 s.old))
          c.sendSwap 8 2 s 0

/-- Mate 1 answers COMMIT with its own switch point (R115, step 6). -/
def Chip.swapCommitRx (c : Chip) (pk : RxPkt) : Chip :=
  if !c.headRole 8 then c else
  c.rxUse 8 5 pk fun c bs =>
    if fieldBE bs 4 1 ≠ 4 then c
    else match (c.link 8).swap.filter fun s => s.xid == fieldBE bs 5 1, c.swapPast 8 (fieldBE bs 5 1) with
      | some s, _ =>
        if s.step < 5 then c
        else if 7 ≤ s.step then c.swapAgain 8 s 4
        else
          let am := ((c.link 8).amSeq + 2) % 65536
          let c := (c.modSwap 8 fun s => { s with
            amD := am, amH := fieldBE bs 10 2, switchPos := some (fieldBE bs 10 2 * 16384) }).swapStep 8 7
          c.sendSwap 8 5 s am
      | none, some s => c.swapAgain 8 s 4
      | none, none => c

/-- A Repair reaction on physical lane m (R114, R433); false where it cannot start, and ABORT then carries REASON 7 over a link whose
PCS runs. -/
def Chip.swapRepair (c : Chip) (n m reason : Nat) : Chip × Bool :=
  match (List.range (logicalCount n)).find? fun k => c.mapOf n k == m with
  | none => (c, false)
  | some k =>
    if (c.link n).swap.isNone && c.swapAllowed n then (c.swapStart n k reason, true)
    else
      let s : Swap := Swap.start (c.link n).xid k m (c.spareLane n) 7 0
      let c := if lkAlign ≤ c.linkSt n ∧ c.linkSt n ≤ lkActive then c.sendSwap n 7 s 0 else c
      (if (c.link n).swap.isNone then c.setF (F.swapStatResult n) 3 else c, false)

/-! ### Register writes (R104, R105, R114, R117, R118) -/

/-- The rejecting rules of a write at offset `off` of an HPn or PL block. -/
def Chip.linkChecks (c : Chip) (n off : Nat) (v : Word) : List Nat :=
  let st := c.linkSt n
  match off with
  | 0x00 =>
    rej (getBits v 28 2 == 3) 0x03 ++ rej (!bitAt v 31 && c.fb (F.linkCtrlExpected n)) 0x04
      ++ rej ((getBits v 28 2 == 1 || getBits v 28 2 == 2) && (st != lkActive || (c.link n).swap.isSome)) 0x04
  | 0x0C => rej (st != lkDisabled && st != lkSeeking) 0x04
  | 0x18 =>
    rej (n == 8 && decide (2 ≤ getBits v 0 2)) 0x03
      ++ (if bitAt v 31 then rej (c.link n).swap.isSome 0x05 ++ rej (!c.swapAllowed n) 0x04 else [])
  | 0x28 =>
    let op := getBits v 30 2
    rej (op == 0 || op == 3) 0x03 ++ rej (st != lkConfigure && st != lkActive) 0x04 ++ rej (c.fb (F.hregStatBusy n)) 0x05
  | _ => []

/-- What a performed write at offset `off` of an HPn or PL block does. EN = 1 enables a link in DISABLED; DESIGN CHOICE: it does not end
a drain, and IDLE_REQ of mate 1, in the head role, begins the idle entry as in the device role (log entry 43). -/
def Chip.linkWritten (c : Chip) (n off : Nat) (v : Word) : Chip :=
  match off with
  | 0x00 =>
    let c := if bitAt v 31 then c.linkEnable n else c.linkDisable n
    let c := if bitAt v 30 then c.retry n else c
    if (c.link n).draining then c
    else match getBits v 28 2 with
    | 0 => c.linkIdleExit n
    | 1 => c.linkIdle n false
    | _ => c.linkIdle n true
  | 0x18 => if bitAt v 31 then c.swapStart n (getBits v 0 2) 0 else c
  | 0x28 => c.hregGo n (getBits v 30 2 == 2)
  | _ => c

/-! ### The passing of time on a link (R77, R98, R102, R107, R115) -/

/-- Another training frame of a lane falls due: frames follow each other every 4,096 UI (R98). -/
def Chip.frameDue (c : Chip) (n m : Nat) : Bool :=
  let t := c.laneTr n m
  c.inTraining n m && decide (t.t0 + c.uiTime n (4096 * t.frames) ≤ c.up80)

/-- The frames that fall due leave. -/
def Chip.framesLeave (c : Chip) (n : Nat) : Chip :=
  let due := (List.range (laneCount n)).filter (c.frameDue n)
  let c := c.each due fun c m => (c.sendFrameOn n m (c.trainWord n m)).modLaneTr n m fun t => { t with frames := t.frames + 1 }
  if due.contains (c.mapOf n 0) then c.equalizeDone n else c

/-- A round goes out, and a SWAP moves on with it: PREPARE has left, mirroring starts, the own switch point is passed (R115). DESIGN CHOICE:
the one more round that is mirrored is the AM round of the switch point (log entry 43). -/
def Chip.roundLeaves (c : Chip) (n : Nat) : Chip :=
  let c := match (c.link n).swap with
    | some s => if s.step = 4 then c.swapStep n 5 else c
    | none => c
  let r := (c.link n).rounds
  let c := (c.sendRound n).swapPrepared n
  match (c.link n).swap with
  | some s =>
    if s.step = 7 ∧ amRound r ∧ r / 16384 % 65536 = s.amD then
      (c.modSwap n fun s => { s with txSwitched := true }).swapDirections n
    else c
  | none => c

/-- What a link sends of itself as time passes: training frames, the burst on the way out of idle, and rounds. -/
def Chip.linkTick (c : Chip) (n : Nat) : Chip :=
  let c := c.framesLeave n
  let c := match (c.link n).burst with
    | some t => if t ≤ c.up80 then (c.eachMapped n fun c m => c.sendBurst n m).modLink n fun l => { l with burst := none } else c
    | none => c
  if (c.link n).pcs.isSome ∧ c.roundStart n (c.link n).rounds ≤ c.up80 then c.roundLeaves n else c

/-- The symbols of a lane in the period of the TIME clock that ended with tick `t`: 26.5625 GBd, half of it at Half rate, and
53.125 GBd on the uplink (R42). -/
def Chip.symbolsIn (c : Chip) (n t : Nat) : Nat :=
  let den := if n = 9 then 2 else if c.f (F.laneRateRate n) = 0 then 4 else 8
  425 * t / den - 425 * (t - 1) / den

/-- The pattern generators of a block run on (R62). -/
def Chip.testTick (c : Chip) (n : Nat) : Chip :=
  c.each (List.range (laneCount n)) fun c m => c.testRun n m (c.symbolsIn n c.orb.ticks)

end Sys2Proof.Machine
end

