-- ==== Sys2Proof/Machine/Frame.lean ====
section
/-! DEFINITION. Frame.lean: Ethernet frames of the uplink: how the device builds them, and which received ones it takes
(11_uplink_time.md, R290, R298, R299, R301). -/

namespace Sys2Proof.Machine

/-! ### Sending (R263, R298) -/

/-- The device's MAC address as six bytes. -/
def Chip.macBytes (c : Chip) : List Byte := natBytesBE 2 (c.f F.ulMacHiMacHi) ++ natBytesBE 4 (c.f F.ulMacLoMacLo)

def Chip.ip4Bytes (c : Chip) : List Byte := natBytesBE 4 (c.f F.ulIp4Addr)

def Chip.ip6Bytes (c : Chip) : List Byte := (List.range 4).flatMap fun i => natBytesBE 4 (c.f (F.ulIp6Addr i))

/-- The tag of every sent frame while tagging is enabled (R298). -/
def Chip.vlanTag (c : Chip) : List Byte :=
  if c.fb F.ulVlanEn then natBytesBE 2 0x8100 ++ natBytesBE 2 (c.f F.ulVlanPcp * 8192 + c.f F.ulVlanVid) else []

/-- The head of a sent frame: destination, source and tag (R298). -/
def Chip.etherHead (c : Chip) (dst : List Byte) : List Byte := dst ++ c.macBytes ++ c.vlanTag

/-- The frame check sequence, the CRC-32 of IEEE 802.3 (PRESUMED, log entry 14). -/
def frameFcs (bs : List Byte) : List Byte := wordBytesLE (~~~ crcRun 32 0xEDB88320#32 0xFFFFFFFF#32 bs)

/-- A frame padded to the least length of IEEE 802.3 and closed with its FCS (log entry 14). -/
def sealFrame (bs : List Byte) : List Byte :=
  let bs := bs ++ List.replicate (60 - bs.length) 0#8
  bs ++ frameFcs bs

def Chip.sendFrame (c : Chip) (bytes : List Byte) : Chip := (c.emit (.ulFrame (sealFrame bytes))).inc F.ulTxFrmCount

/-- The 16-bit one's complement sum of bytes, folded and complemented (the checksum of IPv4, UDP and ICMPv6, log entry 14). -/
def inetSum (bs : List Byte) : Nat :=
  let s := (groupsSum bs.length bs)
  let s := s % 65536 + s / 65536
  let s := s % 65536 + s / 65536
  65535 - s
where
  groupsSum : Nat → List Byte → Nat
    | 0, _ => 0
    | _, [] => 0
    | _, [a] => a.toNat * 256
    | k + 1, a :: b :: rest => a.toNat * 256 + b.toNat + groupsSum k rest

/-- An IPv4 header without options and with DF set (R264). -/
def Chip.ip4Head (c : Chip) (dscp ttl len : Nat) (dip : List Byte) : List Byte :=
  let head := fun (sum : Nat) => natBytesBE 1 0x45 ++ natBytesBE 1 (4 * dscp) ++ natBytesBE 2 len ++ natBytesBE 2 0
    ++ natBytesBE 2 0x4000 ++ natBytesBE 1 ttl ++ natBytesBE 1 17 ++ natBytesBE 2 sum ++ c.ip4Bytes ++ dip
  head (inetSum (head 0))

/-- The UDP checksum over IPv6; a sum of 0 is sent as 0xFFFF. -/
def Chip.udp6Sum (c : Chip) (dip udp : List Byte) : Nat :=
  let s := inetSum (c.ip6Bytes ++ dip ++ natBytesBE 4 udp.length ++ natBytesBE 4 17 ++ udp)
  if s = 0 then 0xFFFF else s

/-- A UDP datagram with its IP header and EtherType, to an address of 4 or 16 bytes (R264). `sumOf` is the payload over which
the checksum is formed: the payload itself, but for a message whose time stamp is inserted afterwards (R301). -/
def Chip.udpPacket (c : Chip) (dip : List Byte) (sport dport dscp ttl : Nat) (bs sumOf : List Byte) : List Byte :=
  let len := bs.length + 8
  let udp := fun (sum : Nat) (p : List Byte) =>
    natBytesBE 2 sport ++ natBytesBE 2 dport ++ natBytesBE 2 len ++ natBytesBE 2 sum ++ p
  if dip.length = 4 then natBytesBE 2 0x0800 ++ c.ip4Head dscp ttl (len + 20) dip ++ udp 0 bs
  else natBytesBE 2 0x86DD ++ natBytesBE 4 (0x60000000 + 4 * dscp * 2 ^ 20) ++ natBytesBE 2 len ++ natBytesBE 1 17
    ++ natBytesBE 1 ttl ++ c.ip6Bytes ++ dip ++ udp (c.udp6Sum dip (udp 0 sumOf)) bs

/-! ### Receiving (R290, R298, R299) -/

/-- The VLAN tags in front of an EtherType, with what follows them. -/
def stripTags : Nat → List Byte → List (Nat × Nat) × List Byte
  | 0, b => ([], b)
  | k + 1, b =>
    if fieldBE b 0 2 = 0x8100 ∨ fieldBE b 0 2 = 0x88A8 then
      let r := stripTags k (b.drop 4)
      ((fieldBE b 0 2, fieldBE b 2 2) :: r.1, r.2)
    else ([], b)

/-- The payload of a frame, behind its EtherType. -/
def framePayload (b : List Byte) : List Byte := (stripTags 4 (b.drop 12)).2.drop 2

/-- The head of a received frame (R299). -/
def netOf (fr : UlFrame) : NetHead :=
  let b := fr.bytes
  let (tags, rest) := stripTags 4 (b.drop 12)
  let et := fieldBE rest 0 2
  let p := rest.drop 2
  let v4 := et == 0x0800
  let v6 := et == 0x86DD
  let udp := (v4 && fieldBE p 9 1 == 17) || (v6 && fieldBE p 6 1 == 17)
  let u := p.drop (if v4 then fieldBE p 0 1 % 16 * 4 else 40)
  { dst := fieldBE b 0 6, src := fieldBE b 6 6, tags := tags, etype := et
    dip := if v4 then (p.drop 16).take 4 else if v6 then (p.drop 24).take 16 else []
    sip := if v4 then (p.drop 12).take 4 else if v6 then (p.drop 8).take 16 else []
    udp := udp, dport := if udp then fieldBE u 2 2 else 0, sport := if udp then fieldBE u 0 2 else 0
    len := b.length + 4, fcsOk := fr.fcsOk }

/-- The transport of PTP in use: Layer 2 with PROFILE = 1 (R302). -/
def Chip.ptpTransport (c : Chip) : Nat := if c.fb F.orbCtrlProfile then 0 else c.f F.orbCtrlTransport

/-- The tagging R298 accepts. -/
def Chip.tagOk (c : Chip) (n : NetHead) : Bool :=
  if c.fb F.ulVlanEn then
    match n.tags with
    | [(tpid, tci)] => tpid == 0x8100 && tci % 4096 == c.f F.ulVlanVid
    | _ => false
  else n.tags.isEmpty

/-- The destination addresses R299 accepts. -/
def Chip.destOk (c : Chip) (d : Nat) : Bool :=
  d == natOfBE c.macBytes || d == 0xFFFFFFFFFFFF || d == 0x011B19000000 || d == 0x0180C200000E
    || (c.ptpTransport == 1 && (d == 0x01005E000181 || d == 0x01005E00006B))
    || (c.ptpTransport == 2 && (d == 0x333300000181 || d == 0x33330000006B))

/-- The PTP addresses of R299. -/
def ptpGroups : List (List Byte) :=
  [natBytesBE 4 0xE0000181, natBytesBE 4 0xE000006B, natBytesBE 16 0xFF0E0000000000000000000000000181,
    natBytesBE 16 0xFF02000000000000000000000000006B]

/-- The receive class of a frame that passes the filter of R299 and carries no ARP or ND request: 1 Orbit, 2 SCP. -/
def Chip.netClass (c : Chip) (n : NetHead) : Option Nat :=
  let own := n.dip == c.ip4Bytes || n.dip == c.ip6Bytes
  if !c.tagOk n || !c.destOk n.dst then none
  else if n.etype = 0x88F7 then some 1
  else if n.udp then
    if (n.dport = 319 ∨ n.dport = 320) ∧ (own ∨ ptpGroups.contains n.dip) then some 1
    else if n.dport = c.f F.ulScpPort ∧ own then some 2 else none
  else if n.etype = c.f F.ulScpEtype then some 2
  else none

/-- A frame the device takes as class `cls`: valid FCS, at most 9,216 bytes (R290, R299). -/
def Chip.netTaken (c : Chip) (n : NetHead) (cls : Nat) : Bool :=
  c.f F.ulStatState == 4 && n.fcsOk && decide (n.len ≤ 9216) && n.etype != 0x8808 && c.netClass n == some cls

/-- The counts of a received frame that is taken or not (R290, R299); only an uplink that is UP receives. -/
def Chip.netCount (c : Chip) (n : NetHead) (taken : Bool) : Chip :=
  if c.f F.ulStatState ≠ 4 then c
  else if taken then c.inc F.ulRxFrmCount
  else if !n.fcsOk then c.inc F.ulRxFcsCount
  else if n.etype = 0x8808 then c.inc F.ulRxPauseCount
  else c.inc F.ulRxDropCount

/-- Who sent a command, as sessions, replay and the subscriber know it: MAC address, EtherType, and with UDP the IP address and
port (R339, R349, R350, R353). -/
def netKey (n : NetHead) : List Byte :=
  natBytesBE 6 n.src ++ natBytesBE 2 n.etype ++ (if n.udp then n.sip ++ natBytesBE 2 n.sport else [])

/-- A frame to a sender over the same transport (R339): UDP from UL_SCP.PORT to its address and port, or the raw EtherType. -/
def Chip.frameTo (c : Chip) (key bs : List Byte) : List Byte :=
  let ip := (key.drop 8).dropLast.dropLast
  c.etherHead (key.take 6) ++
    (if ip.isEmpty then natBytesBE 2 (fieldBE key 6 2) ++ bs
     else c.udpPacket ip (c.f F.ulScpPort) (natOfBE (key.drop (8 + ip.length))) 0 64 bs bs)

end Sys2Proof.Machine
end

