-- ==== Sys2Proof/Machine/Orb.lean ====
section
/-! DEFINITION. Orb.lean: Orbit, its servo, PTP and 1PPS (11_uplink_time.md, R301 to R317). Times are counted in units
of 2^-32 ns unless a name says ns. -/

namespace Sys2Proof.Machine

def Chip.modOrb (c : Chip) (g : OrbS → OrbS) : Chip := { c with orb := g c.orb }

/-- Orbit time in units of 2^-32 ns. -/
def Chip.orbTime (c : Chip) : Int := ((c.nowNs * 2 ^ 32 + c.orb.f : Nat) : Int)

/-- Setting S, N and F from a time. -/
def Chip.orbLoad (c : Chip) (t : Int) : Chip :=
  let t := (t % (2 ^ 48 * 1000000000 * 2 ^ 32 : Int)).toNat
  c.modOrb fun o => { o with s := t / 2 ^ 32 / 1000000000, n := t / 2 ^ 32 % 1000000000, f := t % 2 ^ 32 }

/-- SIG of R307. -/
def slewStep (ppm : Nat) : Int := (((ppm * 4 * 2 ^ 32 + 500000) / 1000000 : Nat) : Int)

def satNs (i : Int) : Int := satSigned 32 (i / 2 ^ 32)

/-- ORB_SLEW_REM and SLEWING follow SR (R319). -/
def Chip.slewShow (c : Chip) : Chip :=
  (c.setFs F.orbSlewRemSr (satNs c.orb.sr)).setFb F.orbStatSlewing (c.orb.sr != 0)

/-- ORB_NOM in force: ORB_NOM_FRAC reads as it was last written or set, and while a written fraction waits for the next write of
ORB_NOM_NS the one before it counts (R16, R306). -/
def Chip.orbNom (c : Chip) : Nat := c.f F.orbNomNsNs * 2 ^ 32 + c.orb.frac

/-- ORB_NOM is set to a value, both parts at one tick; the registers show it (R306). -/
def Chip.nomSet (c : Chip) (v : Nat) : Chip :=
  ((c.modOrb fun o => { o with frac := v % 2 ^ 32 }).setF F.orbNomNsNs (v / 2 ^ 32)).setF F.orbNomFracFrac v

def Chip.orbIncrShow (c : Chip) (v : Nat) : Chip :=
  (c.setF F.orbIncrNsNs (v / 2 ^ 32)).setF F.orbIncrFracFrac (v % 2 ^ 32)

/-- PPS_OUT rises at a second boundary (R315). -/
def Chip.ppsRise (c : Chip) : Chip :=
  if c.fb F.orbPpsOutEn && c.fb F.orbStatValid then c.modOrb fun o => { o with ppsOut := true } else c

def Chip.ppsFall (c : Chip) : Chip := c.modOrb fun o => { o with ppsOut := false }

/-- One rising edge of the TIME clock (R305, R307). -/
def Chip.orbTick (c : Chip) : Chip :=
  let sig := slewStep (c.f F.orbSlewSlewMax)
  let sr := c.orb.sr
  let d : Int := if sr.natAbs ≤ sig.natAbs then sr else if 0 < sr then sig else -sig
  let incr := ((c.orbNom : Int) + d).toNat
  let sum := c.orb.f + incr % 2 ^ 32
  let n := c.orb.n + incr / 2 ^ 32 + sum / 2 ^ 32
  let wrap := decide (1000000000 ≤ n)
  let c := c.modOrb fun o => { o with
    f := sum % 2 ^ 32, n := if wrap then n - 1000000000 else n
    s := if wrap then (o.s + 1) % 2 ^ 48 else o.s, ticks := o.ticks + 1, sr := sr - d }
  let c := (c.orbIncrShow incr).slewShow
  if wrap then c.ppsRise else c

/-- The tick on which SR reaches 0: no more than SIG of it is left (R307). -/
def Chip.slewDone (c : Chip) : Chip :=
  if c.orb.sr ≠ 0 ∧ c.orb.sr.natAbs ≤ (slewStep (c.f F.orbSlewSlewMax)).natAbs then c.orbTick else c

/-! ### Holdover (R314) -/

/-- The time transmitter in use: the best of those known (R301). -/
def lexLt : List Nat → List Nat → Bool
  | [], [] => false
  | [], _ :: _ => true
  | _ :: _, [] => false
  | a :: as, b :: bs => if a < b then true else if b < a then false else lexLt as bs

def bestMaster : List (Nat × List Nat) → Option (Nat × List Nat)
  | [] => none
  | m :: ms => match bestMaster ms with
    | some k => if lexLt (k.2 ++ [k.1]) (m.2 ++ [m.1]) then some k else some m
    | none => some m

def Chip.master (c : Chip) : Option Nat := (bestMaster c.orb.masters).map (·.1)

/-- Uplink state UP or SPARE is the link's; UP alone counts as up (R293, R295). -/
def Chip.ulIsUp (c : Chip) : Bool := c.f F.ulStatState == 4

def Chip.orbSrc (c : Chip) : Nat := c.f F.orbCtrlSrc

def Chip.testTt (c : Chip) : Bool := c.fb F.orbCtrlTestTt

/-- A holdover condition of R314 holds. -/
def Chip.holdCause (c : Chip) : Bool :=
  if c.testTt then false
  else match c.orbSrc with
    | 0 => c.orb.jump.isSome || c.orb.syncLost || c.master.isNone || !c.ulIsUp
    | 1 => c.orb.ppsLost
    | _ => false

/-- Holdover starts while a condition holds (R314). -/
def Chip.holdCheck (c : Chip) : Chip :=
  if c.holdCause && !c.fb F.orbStatHold then (c.setF F.orbStatHold 1).ev F.orbEvtHoldover else c

/-! ### Offset samples (R306 to R308, R312, R314) -/

/-- Every link's next TIME carries STEPPED (R112), and targets now in the past are reached at once (R311). -/
def Chip.orbStepped (c : Chip) : Chip :=
  { (((c.modOrb fun o => { o with sr := 0, base := none, samples := 0 }).ev F.orbEvtStepped).setF F.orbStatValid 1).slewShow with
    links := c.links.map (fun l => { l with stepped := true }), defers := c.defers ++ [.stepped] }

/-- A servo step of Orbit by -θ (R308). -/
def Chip.orbStepBy (c : Chip) (theta : Int) : Chip := (c.orbLoad (c.orbTime - theta)).orbStepped

/-- The update of ORB_NOM once every 2^FAVG samples (R306); `t` is the transmitter's time of this sample and `k1` the ticks when it was
taken. DESIGN CHOICE: a fraction that the host has written and that is held stays held for its next write of ORB_NOM_NS, while
ORB_NOM_FRAC reads what the servo has set (log entry 55). -/
def Chip.servoFreq (c : Chip) (t : Int) (k1 : Nat) : Chip :=
  match c.orb.base with
  | none => c.modOrb fun o => { o with base := some (k1, t), samples := 0 }
  | some (k, t0) =>
    let n := c.orb.samples + 1
    if n < 2 ^ c.f F.orbCtrlFavg then c.modOrb fun o => { o with samples := n }
    else
      let dk := k1 - k
      let c := c.modOrb fun o => { o with base := some (k1, t), samples := 0 }
      if dk = 0 ∨ !c.fb F.orbCtrlServo then c
      else
        let four : Int := 4 * 2 ^ 32
        let v := (max (four - 8589935) (min ((t - t0) / (dk : Int)) (four + 8589935))).toNat
        (c.nomSet v).orbIncrShow v

/-- An offset sample θ of transmitter time `t`, taken at tick `k`, is applied (R307, R308, R314). -/
def Chip.offsetSample (c : Chip) (theta t : Int) (k : Nat) : Chip :=
  let c := c.setFs F.orbOffsetTheta (satNs theta)
  if c.holdCause then c
  else
    let c := c.setF F.orbStatHold 0
    let long := decide ((c.f F.orbStepStepThr : Int) * 2 ^ 32 < (theta.natAbs : Int))
    if long && !c.running then c.orbStepBy theta
    else
      let c := (c.modOrb fun o => { o with sr := -theta }).slewShow
      let c := if long then c.ev F.orbEvtSlewLong else c.setF F.orbStatValid 1
      c.servoFreq t k

/-! ### Path delay (R312, R313) -/

def meanOf (l : List Int) : Int := if l.isEmpty then 0 else l.sum / (l.length : Int)

def Chip.setMpd (c : Chip) (l : List Int) (m : Int) : Chip :=
  (c.modOrb fun o => { o with mpd := l, mean := m }).setFs F.orbMpdMpd (satSigned 32 (m / 2 ^ 28))

def Chip.jumpThr (c : Chip) : Int := (c.f F.orbJumpPtpJumpThr : Int) * 2 ^ 32

/-- A jump run opens (R313). -/
def Chip.jumpOpen (c : Chip) (p : Int) : Chip :=
  (((c.modOrb fun o => { o with jump := some ⟨p, [p]⟩ }).ev F.orbEvtJump).inc F.orbJumpCntCount).holdCheck

/-- A path-delay sample (R312, R313). -/
def Chip.pathSample (c : Chip) (p : Int) : Chip :=
  let far := decide (c.jumpThr < ((p - c.orb.mean).natAbs : Int))
  match c.orb.jump with
  | none =>
    if far then c.jumpOpen p
    else
      let l := (c.orb.mpd ++ [p]).drop (c.orb.mpd.length - 7)
      c.setMpd l (meanOf l)
  | some r =>
    if !far then
      let c := c.modOrb fun o => { o with jump := none }
      if c.holdCause then c else c.setF F.orbStatHold 0
    else if 4 * ((p - r.first).natAbs : Int) ≤ c.jumpThr then
      let l := r.samples ++ [p]
      if l.length < 16 then c.modOrb fun o => { o with jump := some ⟨r.first, l⟩ }
      else (c.modOrb fun o => { o with jump := none }).setMpd (l.drop 8) (meanOf l)
    else c.jumpOpen p

/-- With SRC = free Orbit takes no samples (R316). -/
def Chip.pathTake (c : Chip) (p : Int) : Chip := if c.orbSrc = 2 then c else c.pathSample p

/-! ### PTP messages (R301 to R304) -/

def Chip.rxStamp (c : Chip) : Int := c.orbTime + c.fs F.ulTsAdjRxAdj * 2 ^ 28

def Chip.txStamp (c : Chip) : Int := c.orbTime + c.fs F.ulTsAdjTxAdj * 2 ^ 28

def Chip.ptpDomain (c : Chip) : Nat := if c.fb F.orbCtrlProfile then 0 else c.f F.orbCtrlDomain

/-- Peer-to-peer delay mechanism in use (R302). -/
def Chip.ptpP2p (c : Chip) : Bool := c.fb F.orbCtrlProfile || c.fb F.orbCtrlMech

/-- The device's port identity, from its MAC address (log entry 12). -/
def Chip.ptpSelf (c : Chip) : Nat :=
  (((c.f F.ulMacHiMacHi * 2 ^ 8 + c.f F.ulMacLoMacLo / 2 ^ 24) * 2 ^ 16 + 0xFFFE) * 2 ^ 24
    + c.f F.ulMacLoMacLo % 2 ^ 24) * 2 ^ 16 + 1

/-- The transport of a received PTP frame, coded as ORB_CTRL.TRANSPORT. -/
def netTransport (n : NetHead) : Nat := if !n.udp then 0 else if n.etype = 0x0800 then 1 else 2

/-- PTP is received in frames that R299 takes to Orbit on an uplink that is UP, over the transport and in the domain in use
(R301, R302). -/
def Chip.ptpHeard (c : Chip) (m : PtpMsg) : Bool :=
  c.netTaken m.net 1 && netTransport m.net == c.ptpTransport && m.domain == c.ptpDomain

def Chip.fromMaster (c : Chip) (m : PtpMsg) : Bool :=
  c.ptpHeard m && !c.testTt && c.master == some m.source

def nsTime (ns : Nat) : Int := (ns : Int) * 2 ^ 32

/-- The offset sample of a Sync: θ = t2 - t1 - correctionField - ORB_MPD - ORB_ASYM (R312). DEDUCED: the first one after a spare
retrain tests the path delay it shows, θ + ORB_MPD, for a jump (R314, log entry 55). A Sync is used, and counted, when its sample is
applied (R319); `k` are the ticks when it came. -/
def Chip.syncSample (c : Chip) (ts : Nat) (corr t2 : Int) (k : Nat) : Chip :=
  let t1 := nsTime ts + corr * 2 ^ 16
  let c := c.modOrb fun o => { o with lastSync := some (t1, t2) }
  if c.orbSrc = 0 then
    let theta := t2 - t1 - c.orb.mean - c.fs F.orbAsymAsym * 2 ^ 28
    if c.holdCause then c.setFs F.orbOffsetTheta (satNs theta)
    else
      let test := c.orb.retest
      let c := c.modOrb fun o => { o with retest := false }
      if test && decide (c.jumpThr < (theta.natAbs : Int)) then c.jumpOpen (theta + c.orb.mean)
      else (c.inc F.orbSyncCntCount).offsetSample theta t1 k
  else c

def Chip.ptpSync (c : Chip) (m : PtpMsg) : Chip :=
  if !c.fromMaster m then c
  else
    let t2 := c.rxStamp
    let c := c.modOrb fun o => { o with syncLost := false, syncLog := m.log }
    if m.twoStep then c.modOrb fun o => { o with sync := some (m.seq, t2, m.corr), syncTick := o.ticks }
    else c.syncSample m.ts m.corr t2 c.orb.ticks

def Chip.ptpFollowUp (c : Chip) (m : PtpMsg) : Chip :=
  match c.orb.sync with
  | some (seq, t2, corr) =>
    if c.fromMaster m && m.seq == seq then
      (c.modOrb fun o => { o with sync := none }).syncSample m.ts (corr + m.corr) t2 c.orb.syncTick
    else c
  | none => c

def Chip.ptpAnnounce (c : Chip) (m : PtpMsg) : Chip :=
  if c.ptpHeard m && !c.testTt then
    c.modOrb fun o => { o with masters := (o.masters.filter (·.1 != m.source)) ++ [(m.source, m.rank)] }
  else c

/-- The ns of a stamp, as a message carries it. -/
def stampNs (t : Int) : Nat := (t / 2 ^ 32).toNat

/-- The bytes of a PTP message of type `mt` (0 Sync, 1 Delay_Req, 2 Pdelay_Req, 3 Pdelay_Resp, 9 Delay_Resp, 11 Announce) with time
stamp `ts` and requesting port `req`, in the layout of IEEE 1588-2019 (PRESUMED, log entry 15). -/
def Chip.ptpBytes (c : Chip) (mt seq : Nat) (corr : Int) (ts req : Nat) : List Byte :=
  let body := timeBytes ts ++ match mt with
    | 2 => List.replicate 10 0#8
    | 3 => natBytesBE 10 req
    | 9 => natBytesBE 10 req
    | 11 => natBytesBE 2 37 ++ natBytesBE 1 0 ++ natBytesBE 1 128 ++ natBytesBE 4 0xF8FEFFFF ++ natBytesBE 1 128
        ++ natBytesBE 8 (c.ptpSelf / 65536) ++ natBytesBE 2 0 ++ natBytesBE 1 0xA0
    | _ => []
  let log := if mt = 0 ∨ mt = 9 ∨ mt = 11 then 0 else 0x7F
  let control := match mt with
    | 0 => 0
    | 1 => 1
    | 9 => 3
    | _ => 5
  natBytesBE 1 mt ++ natBytesBE 1 0x12 ++ natBytesBE 2 (34 + body.length) ++ natBytesBE 1 c.ptpDomain ++ natBytesBE 1 0
    ++ natBytesBE 2 0 ++ natBytesBE 8 (ofSigned 64 corr) ++ natBytesBE 4 0 ++ natBytesBE 10 c.ptpSelf ++ natBytesBE 2 seq
    ++ natBytesBE 1 control ++ natBytesBE 1 log ++ body

/-- The two trailing bytes that keep the checksum of a message whose time stamp is inserted after it was formed (R301). -/
def udpFix (formed sent : List Byte) : List Byte :=
  natBytesBE 2 (65535 - inetSum (natBytesBE 2 (65535 - inetSum formed) ++ natBytesBE 2 (inetSum sent)))

/-- The frame of a PTP message over the transport in use (R298, R301, R302): event messages to UDP port 319, others to 320, and
peer delay messages to the peer addresses. Over IPv6 the checksum is that of the message without its time stamp. -/
def Chip.ptpFrame (c : Chip) (mt seq : Nat) (corr : Int) (ts req : Nat) : List Byte :=
  let bs := c.ptpBytes mt seq corr ts req
  let peer := mt == 2 || mt == 3
  let port := if mt ≤ 3 then 319 else 320
  let hop := if peer then 1 else 64
  match c.ptpTransport with
  | 0 => c.etherHead (natBytesBE 6 (if peer then 0x0180C200000E else 0x011B19000000)) ++ natBytesBE 2 0x88F7 ++ bs
  | 1 => c.etherHead (natBytesBE 6 (if peer then 0x01005E00006B else 0x01005E000181)) ++
      c.udpPacket (natBytesBE 4 (if peer then 0xE000006B else 0xE0000181)) port port 0 hop bs bs
  | _ =>
    let formed := c.ptpBytes mt seq corr 0 req
    c.etherHead (natBytesBE 6 (if peer then 0x33330000006B else 0x333300000181)) ++
      c.udpPacket (natBytesBE 16 (if peer then 0xFF02000000000000000000000000006B else 0xFF0E0000000000000000000000000181)) port
        port 0 hop (bs ++ udpFix formed bs) (formed ++ natBytesBE 2 0)

def Chip.ptpSend (c : Chip) (mt seq : Nat) (corr : Int) (ts req : Nat) : Chip := c.sendFrame (c.ptpFrame mt seq corr ts req)

/-- A received PTP message is counted as its frame is (R299), then used. -/
def Chip.ptpRx (c : Chip) (m : PtpMsg) (g : Chip → Chip) : Chip := g (c.netCount m.net (c.netTaken m.net 1))

def Chip.ptpDelayReq (c : Chip) : Chip :=
  if c.ulIsUp && !c.testTt && !c.ptpP2p && c.master.isSome then
    let t3 := c.txStamp
    let q := c.orb.seq
    (c.modOrb fun o => { o with seq := (q + 1) % 65536, delayReq := some (q, t3) }).ptpSend 1 q 0 (stampNs t3) 0
  else c

def Chip.ptpDelayResp (c : Chip) (m : PtpMsg) : Chip :=
  match c.orb.delayReq, c.orb.lastSync with
  | some (q, t3), some (t1, t2) =>
    if c.fromMaster m && m.seq == q && m.request == c.ptpSelf then
      (c.modOrb fun o => { o with delayReq := none, reqLog := m.log }).pathTake (((t2 - t1) + (nsTime m.ts - t3 - m.corr * 2 ^ 16)) / 2)
    else c
  | _, _ => c

def Chip.ptpPdelayReq (c : Chip) : Chip :=
  if c.ulIsUp && c.ptpP2p && !c.testTt then
    let t1 := c.txStamp
    let q := c.orb.seq
    (c.modOrb fun o => { o with seq := (q + 1) % 65536, pdelay := some (q, t1) }).ptpSend 2 q 0 (stampNs t1) 0
  else c

def Chip.ptpPdelayResp (c : Chip) (m : PtpMsg) : Chip :=
  match c.orb.pdelay with
  | some (q, t1) =>
    if c.ptpHeard m && !c.testTt && m.seq == q && m.request == c.ptpSelf && !m.twoStep then
      (c.modOrb fun o => { o with pdelay := none }).pathTake ((c.rxStamp - t1 - m.corr * 2 ^ 16) / 2)
    else c
  | none => c

/-- The turnaround time of an answer is not the model's to fix (log entry 13). -/
def Chip.ptpPdelayAnswer (c : Chip) (m : PtpMsg) : Chip :=
  if c.ptpHeard m && (c.ptpP2p || c.testTt) then
    let (k, c) := c.fresh 5
    c.ptpSend 3 m.seq (m.corr + (k : Int)) 0 m.source
  else c

def Chip.ptpDelayAnswer (c : Chip) (m : PtpMsg) : Chip :=
  if c.ptpHeard m && c.testTt then c.ptpSend 9 m.seq m.corr (stampNs c.rxStamp) m.source else c

def Chip.ptpAnnounceLost (c : Chip) : Chip := (c.modOrb fun o => { o with masters := [] }).holdCheck

def Chip.ptpSyncLost (c : Chip) : Chip := (c.modOrb fun o => { o with syncLost := true }).holdCheck

/-- One-step Sync and Announce in test mode (R304), the event message first (R300). -/
def Chip.testSync (c : Chip) : Chip :=
  if c.testTt && c.ulIsUp then
    let q := c.orb.seq
    ((c.modOrb fun o => { o with seq := (q + 1) % 65536 }).ptpSend 0 q 0 (stampNs c.txStamp) 0).ptpSend 11 q 0 0 0
  else c

/-! ### 1PPS (R315, R316) -/

def Chip.ppsIn (c : Chip) : Chip :=
  let n := c.orb.n
  let c := ((c.setF F.orbPpsinNsNs n).setF F.orbPpsinSloSLo (c.orb.s % 2 ^ 32)).setF F.orbPpsinShiSHi (c.orb.s / 2 ^ 32)
  let c := (c.ev F.orbEvtPpsIn).modOrb fun o => { o with ppsLost := false }
  if c.orbSrc = 1 ∧ !c.testTt then
    let theta : Int := (if 500000000 ≤ n then (n : Int) - 1000000000 else (n : Int)) * 2 ^ 32
    c.offsetSample theta (nsTime c.nowNs - theta) c.orb.ticks
  else c

def Chip.ppsLost (c : Chip) : Chip := (c.modOrb fun o => { o with ppsLost := true }).holdCheck

/-! ### Register accesses (R304, R306, R308, R310, R319) -/

/-- A read of ORB_NOW_NS latches the other registers of the instant (R310). -/
def Chip.orbNowRead (c : Chip) : Chip × Word :=
  let o := c.orb
  ((((c.setF F.orbNowNsNs o.n).setF F.orbNowSloSLo (o.s % 2 ^ 32)).setF F.orbNowShiSHi (o.s / 2 ^ 32)).setF
    F.orbNowFracFrac o.f, BitVec.ofNat 32 o.n)

/-- The value a write of ORB_NOM_NS forms with the fraction of the register, held or current (R306). -/
def Chip.nomFormed (c : Chip) (v : Word) : Nat := getBits v 0 4 * 2 ^ 32 + c.orb.held.getD c.orb.frac

def Chip.orbChecks (c : Chip) (off : Nat) (v : Word) : List Nat :=
  match off with
  | 0x00 =>
    rej (getBits v 30 2 == 3 || getBits v 26 2 == 3) 0x03 ++ rej (bitAt v 24 != c.testTt && c.running) 0x04
  | 0x20 =>
    let x := c.nomFormed v
    let four := 4 * 2 ^ 32
    rej (decide (8589935 < max x four - min x four)) 0x03
  | 0x54 => rej (bitAt v 31 && c.running) 0x04
  | _ => []

/-- The PTP domain in use that a value of ORB_CTRL gives (R302). -/
def domainIn (v : Word) : Nat := if bitAt v 29 then 0 else getBits v 0 8

/-- The effects of a performed write. A change of the PTP domain in use, or of the profile, forgets the time transmitters of the old one
(R301, R302). With SRC = free Orbit runs on ORB_NOM, so a slew in progress ends with the write that selects it (R316). -/
def Chip.orbWritten (c : Chip) (off : Nat) (old v : Word) : Chip :=
  match off with
  | 0x00 =>
    let c := if domainIn v != domainIn old || bitAt v 29 != bitAt old 29 then c.modOrb fun o =>
        { o with masters := [], sync := none, lastSync := none, delayReq := none, pdelay := none } else c
    let c := if c.testTt || decide (2 ≤ c.orbSrc) then c.setF F.orbStatHold 0 else c
    let c := if bitAt v 24 && !bitAt old 24 || getBits v 30 2 == 2 && getBits old 30 2 != 2 then (c.modOrb fun o => { o with sr := 0 }).slewShow else c
    c.holdCheck
  | 0x1C => c.modOrb fun o => { o with held := some v.toNat }
  | 0x20 =>
    let x := c.nomFormed v
    ((c.modOrb fun o => { o with held := none }).nomSet x).orbIncrShow x
  | 0x54 =>
    if bitAt v 31 then
      let s := c.f F.orbSetSloSLo + c.f F.orbSetShiSHi * 2 ^ 32
      (c.orbLoad (((s * 1000000000 + c.f F.orbSetNsNs) * 2 ^ 32 : Nat) : Int)).orbStepped
    else c
  | 0x58 => if c.fb F.orbPpsOutEn then c else c.ppsFall
  | _ => c

end Sys2Proof.Machine
end

