-- ==== Sys2Proof/Machine/Ul.lean ====
section
/-! DEFINITION. Ul.lean: the uplink, its states, spare retrain and receive filter (11_uplink_time.md, R290 to R300). -/

namespace Sys2Proof.Machine

def ulDisabled : Nat := 0
def ulAn : Nat := 1
def ulTrain : Nat := 2
def ulAlign : Nat := 3
def ulUp : Nat := 4
def ulSpare : Nat := 5
def ulDown : Nat := 6

def Chip.ulSt (c : Chip) : Nat := c.f F.ulStatState

def Chip.ulGo (c : Chip) (st : Nat) : Chip := c.setF F.ulStatState st

/-- The physical lanes in use: four at 400G, eight at 800G (R292). -/
def Chip.ulLanes (c : Chip) : List Nat := (c.mapped 9).take (if c.fb F.ulCtrlRate then 4 else 8)

/-- The mapped lanes go to TRAIN; with AN_EN = 1 the device advertises the one technology of RATE and MODE in AN, otherwise the
link aligns (R292, R293). -/
def Chip.ulStart (c : Chip) : Chip :=
  let c := c.each c.ulLanes fun c m => c.laneTrainUl m
  if c.fb F.ulCtrlAnEn then (c.ulGo ulAn).emit (.advertise (c.fb F.ulCtrlRate) (c.f F.ulCtrlMode)) else c.ulGo ulAlign

/-- UL_MAP names the logical lane that physical lane 8 carries, 0xF where it carries none (R296). -/
def Chip.ulMapShow (c : Chip) : Chip :=
  c.setF F.ulStatMap (match c.retrain with
    | some r => r.log
    | none => ((List.range c.ulLanes.length).find? fun k => c.mapOf 9 k == 8).getD 0xF)

def Chip.ulEnable (c : Chip) : Chip := if c.ulSt = ulDisabled then c.ulStart else c

/-- The link is no longer UP: Orbit's holdover and the command path follow (R295, R314). -/
def Chip.ulLeft (c : Chip) : Chip := { c.holdCheck with defers := c.defers ++ [.ulDown] }

def Chip.ulDisable (c : Chip) : Chip :=
  if c.ulSt = ulDisabled then c
  else
    let c := (c.each (List.range 9) fun c m => c.laneRest 9 m).ulGo ulDisabled
    (Chip.ulMapShow { c with retrain := none }).ulLeft

/-- UP ends in DOWN (R293). -/
def Chip.ulGoDown (c : Chip) : Chip := (((c.ulGo ulDown).ev F.ulEvtDown).report 0x07 0).ulLeft

/-- The partner advertises the one technology that the device does (R292, R293). -/
def Chip.ulAnAgree (c : Chip) : Chip := if c.ulSt = ulAn then c.ulGo ulTrain else c

def Chip.ulTimeout (c : Chip) (st : Nat) (an : Bool) : Chip :=
  if c.ulSt = st then (if an then c.ev F.ulEvtAnFail else c).ulGo ulDown else c

/-- The tap requests that a number spells, each a tap of 1 to 4 and a direction of 1 or 2; every list of them is spelt by some
number (`fuel` may be that number itself). -/
def tapRequests : Nat → Nat → List (Nat × Nat)
  | 0, _ => []
  | fuel + 1, x =>
    if x = 0 then [] else ((x - 1) % 4 + 1, (x - 1) / 4 % 2 + 1) :: tapRequests fuel ((x - 1) / 8)

/-- Link training has set the taps of a mapped lane by the partner's requests, one unit at a time, and its precoding in both
directions (R53, R292). What the partner asks for and what both agree on is free (log entry 5). -/
def Chip.ulLaneTrained (c : Chip) (m : Nat) : Chip :=
  let (k, c) := c.fresh 19
  let c := c.each (tapRequests k (k / 4)) fun c r => (c.coeffRequest 9 m r.1 r.2).1
  c.setPrecode 9 m (k.testBit 0) (k.testBit 1)

def Chip.ulTrained (c : Chip) : Chip :=
  if c.ulSt = ulTrain then (c.each c.ulLanes Chip.ulLaneTrained).ulGo ulAlign else c

/-- All mapped lanes lock to their alignment markers, which their CDRs must have locked for (R71, R293). -/
def Chip.ulAlignLock (c : Chip) : Chip :=
  if c.ulSt = ulAlign then
    let c := ((c.each c.ulLanes fun c m => c.cdrSeen 9 m).ulGo ulUp).ev F.ulEvtUp
    { c with defers := c.defers ++ [.ulUp] }
  else c

def Chip.ulAlignLost (c : Chip) : Chip := if c.ulSt = ulUp then c.ulGoDown else c

def Chip.ulRetry (c : Chip) : Chip := if c.ulSt = ulDown then (c.inc F.ulDownCntCount).ulStart else c

/-! ### Spare retrain (R296, R297) -/

/-- A spare retrain is possible at all (R296). -/
def Chip.retrainPossible (c : Chip) : Bool := c.f F.ulCtrlMode == 0 && c.fb F.ulCtrlSpareEn

/-- The retrain of logical lane k is not refused (R297, R442). -/
def Chip.retrainAllowed (c : Chip) (k : Nat) : Bool :=
  c.spareUsable 9 && c.spareLane 9 == 8 && c.mapOf 9 k != 8

/-- Steps 1 and 2 of R297. -/
def Chip.retrainStart (c : Chip) (k reason : Nat) : Chip :=
  let old := c.mapOf 9 k
  let c := c.ulGo ulSpare
  let c := (c.laneTrainUl 8).wr (R.lnTxeq 9 8) (c.rd (R.lnTxeq 9 old))
  let c := (c.setPrecode 9 8 (c.fb (F.lnCtrlPrecodeTx 9 old)) (c.fb (F.lnCtrlPrecodeRx 9 old))).laneLeave 9 old
  (Chip.ulMapShow { c with retrain := some ⟨k, old, reason, 3⟩ }).ulLeft

/-- A retrain of logical lane k starts, or is refused and the link goes DOWN (R297); true where it starts. -/
def Chip.retrain? (c : Chip) (k reason : Nat) : Chip × Bool :=
  if c.ulSt ≠ ulUp then (c, false)
  else if !c.retrainPossible then (c, false)
  else if c.retrainAllowed k then (c.retrainStart k reason, true)
  else ((c.report 0x06 (laneInst 9 (c.mapOf 9 k))).ulGoDown, false)

/-- LOS (reason 2) or CDR_LOL (reason 3) on one mapped lane in UP (R293). -/
def Chip.ulLaneFail (c : Chip) (m reason : Nat) : Chip :=
  if c.ulSt = ulUp ∧ c.ulLanes.contains m then
    match (List.range 8).find? fun k => c.mapOf 9 k == m with
    | some k => if c.retrainPossible && c.retrainAllowed k then c.retrainStart k reason else c.ulGoDown
    | none => c
  else c

/-- A lane in ACTIVE loses its signal or its CDR lock: it sets its event and reports it to the link layer, which on the uplink is
R293 (R51). -/
def Chip.laneFails (c : Chip) (n m : Nat) (cdr : Bool) : Chip :=
  let active := c.laneState n m == lsActive
  let c := if cdr then c.laneCdrLol n m else c.laneLos n m
  if active && n == 9 then c.ulLaneFail m (if cdr then 3 else 2) else c

/-- A Repair order names a physical lane (R293, R433); true where the retrain starts. -/
def Chip.ulRepair (c : Chip) (m reason : Nat) : Chip × Bool :=
  match (List.range 8).find? fun k => c.mapOf 9 k == m with
  | some k => c.retrain? k reason
  | none => (c, false)

def Chip.retrainLock (c : Chip) : Chip :=
  match c.retrain with
  | some r => if r.step = 3 then { c with retrain := some { r with step := 4 } } else c
  | none => c

/-- Step 5 of R297. -/
def Chip.retrainDone (c : Chip) : Chip :=
  match c.retrain with
  | some r =>
    if c.ulSt = ulSpare ∧ r.step = 4 then
      let c := ((c.remap 9 r.log 8).laneDown 9 r.old).ulGo ulUp
      let c := ((c.ev F.ulEvtSpareDone).spareSpent 9 r.old r.reason).modOrb fun o => { o with retest := true }
      Chip.ulMapShow { c with retrain := none, defers := c.defers ++ [.ulUp] }
    else c
  | none => c

/-- The retrain exceeds its bound: the old map stays (R293). -/
def Chip.retrainFail (c : Chip) : Chip :=
  match c.retrain with
  | some r =>
    if c.ulSt = ulSpare then
      let c := ((c.laneOff 9 8).ulGo ulDown).ev F.ulEvtSpareFail
      (Chip.ulMapShow { c.report 0x06 (laneInst 9 r.old) with retrain := none }).ulLeft
    else c
  | none => c

/-- Corrected symbols of a mapped lane within 2^24 codewords, of which `uncorr` were uncorrectable (R294, R318). -/
def Chip.ulDegrade (c : Chip) (m corr uncorr : Nat) : Chip :=
  let thr := c.f F.ulLaneThrSymThr
  let c := (c.add F.ulFecCorrCount corr).add F.ulFecUncorrCount uncorr
  if thr ≠ 0 ∧ thr < corr ∧ c.ulLanes.contains m then c.report 0x01 (laneInst 9 m) else c

/-! ### Frames (R290, R298, R299) -/

/-- The receive class of a frame: 1 Orbit, 2 SCP, 3 ARP or ND request for the device (R299). -/
def Chip.frameClass (c : Chip) (fr : UlFrame) : Option Nat :=
  let n := netOf fr
  let p := framePayload fr.bytes
  if !c.tagOk n || !c.destOk n.dst then none
  else if n.etype = 0x0806 then if fieldBE p 6 2 = 1 ∧ fieldBE p 24 4 = c.f F.ulIp4Addr then some 3 else none
  else if n.etype = 0x86DD ∧ fieldBE p 6 1 = 58 then
    if fieldBE p 40 1 = 135 ∧ (p.drop 48).take 16 = c.ip6Bytes then some 3 else none
  else c.netClass n

/-- A frame of at most 9,216 bytes with a valid FCS that fits a class (R290, R299). -/
def Chip.frameFits (c : Chip) (fr : UlFrame) : Bool :=
  let n := netOf fr
  n.fcsOk && decide (n.len ≤ 9216) && n.etype != 0x8808 && (c.frameClass fr).isSome

/-- A received frame that goes nowhere is dropped and counted (R290, R299). -/
def Chip.frameDrop (c : Chip) (fr : UlFrame) : Chip := if c.frameFits fr then c else c.netCount (netOf fr) false

/-- Received ARP and ND requests for the device on an uplink that is UP (R299). -/
def Chip.frameTaken (c : Chip) (fr : UlFrame) : Bool :=
  c.ulIsUp && c.frameFits fr && c.frameClass fr == some 3

def Chip.arpAnswer (c : Chip) (fr : UlFrame) : Chip :=
  let p := framePayload fr.bytes
  if c.frameTaken fr && (netOf fr).etype == 0x0806 then
    let peer := (p.drop 8).take 6
    (c.inc F.ulRxFrmCount).sendFrame (c.etherHead peer ++ natBytesBE 2 0x0806 ++ natBytesBE 2 1 ++ natBytesBE 2 0x0800
      ++ natBytesBE 1 6 ++ natBytesBE 1 4 ++ natBytesBE 2 2 ++ c.macBytes ++ c.ip4Bytes ++ peer ++ (p.drop 14).take 4)
  else c

def Chip.ndAnswer (c : Chip) (fr : UlFrame) : Chip :=
  let p := framePayload fr.bytes
  if c.frameTaken fr && (netOf fr).etype == 0x86DD then
    let peer := (p.drop 8).take 16
    let own := c.ip6Bytes
    let body := fun (sum : Nat) => natBytesBE 2 0x8800 ++ natBytesBE 2 sum ++ natBytesBE 4 0x60000000 ++ own
      ++ natBytesBE 2 0x0201 ++ c.macBytes
    let sum := inetSum (own ++ peer ++ natBytesBE 4 32 ++ natBytesBE 4 58 ++ body 0)
    (c.inc F.ulRxFrmCount).sendFrame (c.etherHead ((fr.bytes.drop 6).take 6) ++ natBytesBE 2 0x86DD
      ++ natBytesBE 4 0x60000000 ++ natBytesBE 2 32 ++ natBytesBE 2 0x3AFF ++ own ++ peer ++ body sum)
  else c

/-! ### Register writes (R290, R291, R296, R318) -/

/-- EtherTypes that may not be used for raw SSP or SCP are ruled in R263; `forbiddenEtype` is that rule's list. -/
def Chip.ulChecks (c : Chip) (off : Nat) (v : Word) : List Nat :=
  match off with
  | 0x00 =>
    let mode := getBits v 27 2
    let old := c.rd R.ulCtrl
    rej (mode == 3 || (bitAt v 26 && mode == 0) || (bitAt v 25 && mode != 0)
        || (bitAt v 29 && decide (4 ≤ getBits v 0 3))) 0x03
      ++ rej (getBits v 25 5 != getBits old 25 5 && c.ulSt != ulDisabled) 0x04
      ++ rej (bitAt v 29 != bitAt old 29 && c.running) 0x04
  | _ => []

def Chip.ulWritten (c : Chip) (off : Nat) (old v : Word) : Chip :=
  match off with
  | 0x00 =>
    let c := if bitAt v 31 && !bitAt old 31 then c.ulEnable else if !bitAt v 31 then c.ulDisable else c
    (if bitAt v 30 then (c.retrain? (getBits v 0 3) 0).1 else c).ulMapShow
  | _ => c

end Sys2Proof.Machine
end

