-- ==== Sys2Proof/Machine/Ssp.lean ====
section
/-! DEFINITION. Ssp.lean: forming units into packets, sequence numbers, buffers and frames (10_stream_output.md, R263 to
R289). -/

namespace Sys2Proof.Machine

/-! ### Packets (R266, R267) -/

/-- An SSP packet. -/
def Chip.sspPacket (c : Chip) (u : SspUnit) (p : PktSrc) (pseq : Nat) (first last : Bool) : List Byte :=
  let e := c.logOr p.trig
  let bit := fun (b : Bool) (k : Nat) => if b then 2 ^ k else 0
  let body := natBytesBE 1 (16 + u.stream)
    ++ natBytesBE 1 (bit first 7 + bit last 6 + bit u.norep 5 + bit p.trunc 4 + bit u.bankmix 3)
    ++ natBytesBE 2 (p.data.length + 44) ++ natBytesBE 4 pseq ++ natBytesBE 4 p.trig
    ++ natBytesBE 4 (if u.norep then 0xFFFFFFFF else e.ridx) ++ natBytesBE 8 (ofSigned 64 (toSigned 48 e.enc))
    ++ timeBytes e.time ++ natBytesBE 1 u.job ++ natBytesBE 1 pseq ++ natBytesBE 4 p.unit ++ p.data
  body ++ natBytesBE 4 (crc32c body).toNat

/-! ### P0 (R268 to R270) -/

/-- The value of channel `ch` of output pixel k of output row r before depth reduction (R268). -/
def binSample (rows : List (List WPx)) (bin x0 r k ch : Nat) : Nat :=
  let px := (List.range bin).flatMap fun i =>
    let row := (rows[min (bin * r + i) (rows.length - 1)]?).getD []
    (List.range bin).map fun j => ((row[x0 + bin * k + j]?).getD (ndPx 3)).chan ch
  (px.sum + bin * bin / 2) / (bin * bin)

/-- Output pixels of a segment (R269). -/
def Chip.segPixels (c : Chip) (nsel bits : Nat) : Nat := 8 * c.pktMax / (max 1 nsel * bits) / 8 * 8

/-- The packets of a P0 unit, each with whether it is dropped (R269, R270). -/
def Chip.p0Packets (c : Chip) (u : SspUnit) : List (PktSrc × Bool) :=
  let bin := c.p0Bin u.bank
  let bits := depthBits (c.f (F.sspP0CfgDepth u.bank))
  let width := c.stcWidth u.bank
  let gone := ((c.ssp.pieces.filter fun p => p.1 == u.bseq && p.2.2.1 == 0).map (·.2.1)).eraseDups
  ((c.rois u.bank).zipIdx).flatMap fun roi =>
    let (x0, w, chans) := roi.1
    let wout := w / bin
    let p := max 8 (c.segPixels chans.length bits)
    (List.range (ceilDiv u.rows.length bin)).flatMap fun r => (List.range (ceilDiv wout p)).map fun j =>
      let n := min ((j + 1) * p) wout - j * p
      let data := packSamples bits ((List.range n).flatMap fun k => chans.map fun ch =>
        reduceDepth bits (binSample u.rows bin x0 r (j * p + k) ch))
      let lo := x0 + bin * (j * p)
      let hi := lo + bin * n
      let dead := gone.any fun s => match (strips width)[s]? with
        | some (sx, sw) => decide (lo < sx + sw) && decide (sx < hi)
        | none => false
      (⟨roi.2 * 2 ^ 28 + r * 2 ^ 24 + j * p, (u.trig + bin * r) % 2 ^ 32, data, false⟩, dead)

/-! ### P1 (R271 to R273) -/

/-- The tiles of a crop in sending order, each once, with band and strip. -/
def cropOrder (l : List (Nat × Nat × Nat × Nat)) : List (Nat × Nat × Nat × Nat) :=
  let lt := fun (p q : Nat × Nat × Nat × Nat) => decide (p.2.2.1 < q.2.2.1) || (p.2.2.1 == q.2.2.1 && decide (p.2.2.2 < q.2.2.2))
  (sortBy lt l).foldl (fun acc t =>
    if acc.any fun s => s.2.2.1 == t.2.2.1 && s.2.2.2 == t.2.2.2 then acc else acc ++ [t]) []

/-- One crop entry (R272). -/
def Chip.cropEntry (c : Chip) (bank : Nat) (t : Nat × Nat × Nat × Nat) (ref : Bool) : List Byte :=
  let chans := selChans (c.f (F.sspP1CfgCsel bank))
  let bits := depthBits (c.f (F.sspP1CfgDepth bank))
  let px := ((c.ssp.caps.find? fun k => k.bseq == t.1 && k.ty == t.2.2.1 && k.tx == t.2.2.2 && k.ref == ref).map (·.px)).getD
    (List.replicate 256 [0, 0, 0, 0])
  natBytesBE 2 t.2.2.2 ++ natBytesBE 3 t.2.2.1 ++ natBytesBE 1 (if ref then 128 else 0)
    ++ packSamples bits (px.flatMap fun p => chans.map fun ch => reduceDepth bits (p.getD ch 0))

/-- Packing entries in order, each packet with as many as fit (R272). -/
def packEntries (room : Nat) (l : List (List Byte)) : List (List Byte) :=
  l.foldl (fun acc e =>
    match acc.getLast? with
    | some g => if g.length + e.length ≤ room then acc.dropLast ++ [g ++ e] else acc ++ [e]
    | none => [e]) []

/-- The packets of a P1 unit, whether they are dropped, and whether the crop was cut (R271 to R273). -/
def Chip.p1Packets (c : Chip) (u : SspUnit) : List (PktSrc × Bool) × Bool :=
  let all := cropOrder u.crop
  let tmax := c.f (F.sspP1CfgTmax u.bank)
  let trunc := decide (tmax < all.length)
  let refs := if c.fb (F.sspP1CfgRef u.bank) then [false, true] else [false]
  let entries := (all.take tmax).flatMap fun t => refs.map (c.cropEntry u.bank t)
  let dead := u.crop.any fun t => c.ssp.pieces.any fun p => p.1 == t.1 && p.2.1 == t.2.1 && p.2.2.1 != 0
  ((packEntries c.pktMax entries).map fun g => (⟨u.dseq, u.trig, g, trunc⟩, dead), trunc)

/-! ### Forming (R261, R277, R282, R283, R285) -/

/-- Everything a unit waits for has ended (R270, R273). -/
def Chip.unitReady (c : Chip) (u : SspUnit) : Bool :=
  match u.stream with
  | 0 => !c.pieceOpen fun w => w.kind == 0 && w.bseq == u.bseq
  | 1 => !c.pieceOpen fun w => w.kind != 0 && u.crop.any fun t => t.1 == w.bseq && t.2.1 == w.strip
  | _ => true

/-- Payload bytes that streams hold in their buffer. -/
def Chip.sspHeld (c : Chip) (streams : List Nat) : Nat :=
  ((c.ssp.ready.filter fun p => streams.contains p.stream).map fun p => p.bytes.length - 44).sum

/-- `n` payload bytes find room for a stream (R282, R283, R285). -/
def Chip.sspRoom (c : Chip) (s n : Nat) : Bool :=
  let ring := c.f F.sspRingSizeMib * 2 ^ 20
  match s with
  | 0 => decide (c.sspHeld [0] + n ≤ ring / 8 * 7)
  | 1 => decide (c.sspHeld [1] + n ≤ ring / 8)
  | 3 => decide (c.sspHeld [2, 3, 4, 5] + n ≤ 1310720)
  | _ => decide (c.sspHeld [2, 4, 5] + n ≤ 1048576) && decide (c.sspHeld [2, 3, 4, 5] + n ≤ 1310720)

/-- The fill shown in SSP_STAT. -/
def Chip.sspShow (c : Chip) : Chip :=
  let ring := c.f F.sspRingSizeMib * 2 ^ 20
  (c.setF F.sspStatRingPct (min 100 (100 * c.sspHeld [0, 1] / max 1 ring))).setF F.sspStatObufPct
    (min 100 (100 * c.sspHeld [2, 3, 4, 5] / 1310720))

/-- The mate is present (R279). -/
def Chip.matePresent (c : Chip) : Bool :=
  c.pairMode && c.linkSt 8 == lkActive && c.f F.plStatMateSvc != 4 && !c.pair.gone

/-- A PAIR packet leaves on the pair link while it is ACTIVE (R452, R453). -/
def Chip.pairSend (c : Chip) (mtype : Nat) (body : List Byte) : Chip :=
  if c.pairMode ∧ c.linkSt 8 = lkActive then
    let m := c.pair.mseq
    ({ c with pair := { c.pair with mseq := (m + 1) % 65536 } }).sendPacket 8 8
      (natBytesBE 1 mtype ++ natBytesBE 1 0 ++ natBytesBE 2 m ++ body)
  else c

/-- Mate 0, or a server, sends its PSEQ values with the first unit of a stream that uses a new bank, under the first trigger of the
unit's band (R278, R453): of a stream that has had such a unit, the value of that unit. -/
def Chip.sendPseq (c : Chip) (trig : Nat) : Chip :=
  c.pairSend 0x08 (natBytesBE 4 trig ++ (List.range 6).flatMap fun s =>
    natBytesBE 4 (((c.ssp.pseqAt.find? fun p => p.1 == s).map (·.2)).getD (c.f (F.sspPseqPseq s))))

/-- The stream `s` owes the mate its value no more: it is the present one, and it is sent (R278). -/
def Chip.payPseq (c : Chip) (s trig : Nat) : Chip :=
  (c.modSsp fun x => { x with
    oweSync := x.oweSync.filter (· != s), pseqAt := x.pseqAt ++ [(s, c.f (F.sspPseqPseq s))] }).sendPseq trig

/-- Dropped packets are counted (R285). -/
def Chip.sspDropped (c : Chip) (s n : Nat) : Chip := if n = 0 then c else (c.add (F.sspDropCount s) n).ev F.sspEvtDrop

/-- What R279 makes of a unit whose colour item this mate dropped: sent, held or withheld. -/
def Chip.holdFor (c : Chip) (u : SspUnit) : Option Nat × Bool :=
  if u.held && c.matePresent then
    match c.ssp.cstat.find? fun p => p.1 == u.trig with
    | some (_, dropped) => (none, !dropped)
    | none => (some u.trig, false)
  else (none, false)

/-- Mate 1 forms the first unit of a stream that uses the new bank: it takes mate 0's value from the newest message for the unit's band
(R278; DEDUCED: a message names its band alone, log entry 56). Without one the unit waits. -/
def Chip.pseqUse (c : Chip) (u : SspUnit) : Chip :=
  match (c.ssp.pseqMsgs.filter fun p => p.1 == u.first).getLast? with
  | none => c
  | some (_, vals) =>
    let v := vals.getD u.stream 0
    let c' := c.modSsp fun x => { x with waitSync := x.waitSync.filter (· != u.stream) }
    if c.f (F.sspPseqPseq u.stream) = v then c'
    else (((c'.setF (F.sspPseqPseq u.stream) v).ev F.sspEvtSync).inc F.sspSyncCntCount).report 0x85 u.stream

/-- A blob that is still open has pixels in the band, whose pieces feed its crop (R187, R271). -/
def Chip.blobNeeds (c : Chip) (bseq : Nat) : Bool :=
  c.ie.bands.any fun fb => fb.merged && c.ie.blobs.any fun bl => bl.rep == fb.rep && bl.px.any fun p =>
    decide (p.ty ≤ fb.band.ty) && (fb.band.bseq + 2 ^ 32 - (fb.band.ty - p.ty) % 2 ^ 32) % 2 ^ 32 == bseq

/-- SSP_UNIT_FORM: the oldest unit of a stream becomes packets with PSEQ, or is dropped. -/
def Chip.sspForm (c : Chip) (s : Nat) : Chip :=
  match c.ssp.units.find? fun u => u.stream == s with
  | none => c
  | some u =>
    let fresh := u.bank == c.actBank
    let c := if fresh && c.unitReady u && c.ssp.waitSync.contains s then c.pseqUse u else c
    if !c.unitReady u || (fresh && c.ssp.waitSync.contains s) || (c.pair.joinDseq && (s == 1 || s == 3)) then c
    else
      let owed := (c.pair.serveRep.map fun t => decide (0 ≤ sdiff32 u.trig t)).getD true
      let c := if fresh && owed && c.ssp.oweSync.contains s then
          c.payPseq s u.first else c
      let (pkts, cut) := match s with
        | 0 => (c.p0Packets u, false)
        | 1 => c.p1Packets u
        | _ => (u.pkts.map fun p => (p, false), false)
      let c := if cut then c.inc F.sspTruncCount else c
      let c := c.noteStale (pkts.map (·.1.trig))
      let live := ((pkts.filter fun p => !p.2).map fun p => p.1.data.length).sum
      let room := c.sspRoom s live
      let c := if room then c else if s ≤ 1 then c.ev F.sspEvtRingFull else c.ev F.sspEvtObufFull
      let pseq := c.f (F.sspPseqPseq s)
      let n := pkts.length
      let (hold, withheld) := c.holdFor u
      let ready := (pkts.zipIdx.filter fun p => !p.1.2 && room && !withheld).map fun p =>
        ({ stream := s, bank := u.bank, drop := false, hold := hold
           bytes := c.sspPacket u p.1.1 ((pseq + p.2) % 2 ^ 32) (p.2 == 0) (p.2 + 1 == n) } : SspPkt)
      let c := c.setF (F.sspPseqPseq s) (pseq + n)
      let c := if withheld then c.add F.sspWithheldCount n
        else c.sspDropped s (if room then (pkts.filter (·.2)).length else n)
      let c := c.modSsp fun x => { x with units := x.units.erase u, ready := x.ready ++ ready }
      (c.modSsp fun x => { x with pieces := x.pieces.filter fun p =>
        (c.ie.bands.any fun fb => fb.band.bseq == p.1) || c.blobNeeds p.1 || x.units.any fun v => v.bseq == p.1 || v.crop.any fun t => t.1 == p.1 }).sspShow

/-! ### The mate's messages (R278, R279) -/

/-- A PSEQ message is kept until mate 1 forms the unit it is for (R278). -/
def Chip.pseqTake (c : Chip) (trig : Nat) (vals : List Nat) : Chip :=
  c.modSsp fun x => { x with pseqMsgs := (x.pseqMsgs ++ [(trig, vals)]).drop (x.pseqMsgs.length + 1 - 12) }

/-- 1 ms has passed for the oldest unit of the new bank that waits: mate 1 uses its own value for its stream (R278). -/
def Chip.pseqTimeout (c : Chip) : Chip :=
  match c.ssp.units.find? fun u => u.bank == c.actBank && c.ssp.waitSync.contains u.stream with
  | some u => c.modSsp fun x => { x with waitSync := x.waitSync.filter (· != u.stream) }
  | none => c

/-- The mate's colour status of a band: held units are withheld or sent (R279). -/
def Chip.cstatTake (c : Chip) (trig : Nat) (dropped : Bool) : Chip :=
  let held := c.ssp.ready.filter fun p => p.hold == some trig
  let c := c.modSsp fun x => { x with cstat := (x.cstat ++ [(trig, dropped)]).drop (x.cstat.length + 1 - 64) }
  if dropped then c.modSsp fun x => { x with
    ready := x.ready.map fun p => if p.hold = some trig then { p with hold := none } else p }
  else
    ((c.modSsp fun x => { x with ready := x.ready.filter fun p => p.hold != some trig }).add F.sspWithheldCount
      held.length).sspShow

/-- No colour status within 1 ms: the units of the longest held band are sent (R279). -/
def Chip.cstatTimeout (c : Chip) : Chip :=
  match c.ssp.ready.find? fun p => p.hold.isSome with
  | none => c
  | some q => c.modSsp fun x => { x with ready := x.ready.map fun p => if p.hold = q.hold then { p with hold := none } else p }

/-- The mate is gone: nothing waits for it (R278, R279, R458). -/
def Chip.sspMateGone (c : Chip) : Chip :=
  c.modSsp fun x => { x with waitSync := [], pseqMsgs := [], oweSync := [], pseqAt := [], ready := x.ready.map fun p => { p with hold := none } }

/-! ### Frames (R263, R264, R273, R284) -/

/-- Streams in the order of their priority (R261). -/
def streamOrder : List Nat := [3, 5, 4, 2, 1, 0]

/-- Time since reset in ns (R305: the counter's ticks are 4 ns). -/
def Chip.upNs (c : Chip) : Nat := 4 * c.orb.ticks

/-- The P1 rate account now, in 1/32 byte (R273: RES × 250 Mb/s is RES/32 bytes a ns). -/
def Chip.p1Account (c : Chip) (bank : Nat) : Nat :=
  min 8388608 (c.ssp.p1Tokens + c.f (F.sspP1CfgRes bank) * (c.upNs - c.ssp.p1Time))

def Chip.pktReady (c : Chip) (p : SspPkt) : Bool :=
  p.hold.isNone && (p.stream != 1 || decide (32 * (p.bytes.length - 44) ≤ c.p1Account p.bank))

def Chip.dip6Bytes (c : Chip) : List Byte := (List.range 4).flatMap fun i => natBytesBE 4 (c.f (F.sspDip6Addr i))

/-- The frame of a packet up to its frame check sequence (R263, R264). -/
def Chip.sspFrame (c : Chip) (p : SspPkt) : List Byte :=
  let dst := natBytesBE 2 (c.f F.sspDmacHiMacHi) ++ natBytesBE 4 (c.f F.sspDmacLoMacLo / 8 * 8 + p.stream)
  let port := c.f F.sspUdpPort + p.stream
  let rtag := if c.fb F.sspCfgRtagEn then natBytesBE 2 0xF1C1 ++ natBytesBE 2 0 ++ (p.bytes.drop 6).take 2 else []
  let udp := fun (dip : List Byte) => c.udpPacket dip port port (c.f F.sspCfgDscp) 64 p.bytes p.bytes
  c.etherHead dst ++ rtag ++ match c.f F.sspCfgTransport with
    | 0 => natBytesBE 2 (c.f F.sspEtypeEtype) ++ p.bytes
    | 1 => udp (natBytesBE 4 (c.f F.sspDip4Addr))
    | _ => udp c.dip6Bytes

/-- A frame sent earlier still counts: it left within the last 10 µs, or its bits have not drained at the rate of SSP_PACE. -/
def Chip.paceCounts (c : Chip) (q : Nat × Nat) : Bool :=
  decide (c.upNs < q.1 + 10000) || decide (c.f F.sspPaceGbps * (c.upNs - q.1) < 8 * q.2)

/-- The frame fits the average of SSP_PACE over the last 10 µs; one that is longer than 10 µs at that rate leaves when no
earlier frame counts (R284). -/
def Chip.paceOk (c : Chip) (frame : List Byte) : Bool :=
  let g := c.f F.sspPaceGbps
  let recent := c.ssp.paced.filter c.paceCounts
  g == 0 || recent.isEmpty || decide (8 * ((recent.map (·.2)).sum + frame.length + 24) ≤ 10000 * g)

/-- SSP_FRAME_SEND: the next ready packet of the highest-priority stream leaves (R284). -/
def Chip.sspSend (c : Chip) : Chip :=
  if !c.ulIsUp || c.fb F.fcStatWithdrawn then c
  else
    let heads := streamOrder.filterMap fun s => c.ssp.ready.find? fun p => p.stream == s
    match heads.find? c.pktReady with
    | none => c
    | some p =>
      let frame := c.sspFrame p
      if !c.paceOk frame then c
      else
        let acct := c.p1Account p.bank
        let c := if p.stream = 1 then c.modSsp fun x => { x with
            p1Tokens := acct - 32 * (p.bytes.length - 44), p1Time := c.upNs } else c
        let c := c.modSsp fun x => { x with
          ready := x.ready.erase p
          paced := x.paced.filter c.paceCounts ++ [(c.upNs, frame.length + 24)] }
        (((c.sendFrame frame).inc (F.sspTxCount p.stream)).sspShow)

/-! ### Old bank, arming and register writes (R287 to R289) -/

def Chip.sspRelease (c : Chip) : Chip :=
  let old := 1 - c.actBank
  if c.fb F.sspStatOldBusy && !c.bankInStc old && !c.ie.bands.any (fun fb => !fb.out4 && fb.band.bank == old)
      && !c.ssp.units.any (·.bank == old) && !c.ssp.ready.any (·.bank == old) && !c.ie.blobs.any (·.bank == old) then
    c.setF F.sspStatOldBusy 0 else c

/-- The checks of R288 on a staged bank. -/
def Chip.sspArmOk (c : Chip) (b : Nat) : Bool :=
  let p := c.f (F.sspPselProd b)
  let ring := c.ringRegion
  let any := p != 0
  let apart := fun (r : Nat × Nat) => !meets r.1 r.2 ring.1 ring.2
  (!p.testBit 0 || (c.rois b).all fun r => decide (r.1 + r.2.1 ≤ c.stcWidth b))
  && (!p.testBit 1 || (decide (1 ≤ c.f (F.sspP1CfgRes b)) && c.f (F.sspP1CfgCsel b) != 0))
  && (!any || ((c.f F.sspDmacLoMacLo != 0 || c.f F.sspDmacHiMacHi != 0)
    && match c.f F.sspCfgTransport with
      | 0 => true
      | 1 => c.f F.sspDip4Addr != 0
      | _ => (List.range 4).any fun i => c.f (F.sspDip6Addr i) != 0))
  && (!(any && c.pairMode) || c.fb F.sspCfgRtagEn)
  && decide (ddrBase ≤ ring.1) && decide (ring.1 + ring.2 ≤ c.ddrTop)
  && [0, 1].all fun k => apart (c.refRegion k) && apart (c.ruleRegion k) && apart (c.fieldRegion k)

/-- The rejecting rules of a write at offset `off` of the SSP block (R288, R289). -/
def Chip.sspChecks (c : Chip) (off : Nat) (v : Word) : List Nat :=
  let et := getBits v 0 16
  rej (c.running && (decide (0x008 ≤ off) && decide (off ≤ 0x02C) || off == 0x034 || off == 0x038)) 0x04
    ++ rej (off == 0x00C && (decide (et < 0x0600) || [0x0800, 0x86DD, 0x8100, 0x88F7, 0xF1C1].contains et)) 0x03
    ++ rej (off == 0x010 && getBits v 0 3 != 0) 0x03

end Sys2Proof.Machine
end

