-- ==== Sys2Proof/Machine/Job.lean ====
section
/-! DEFINITION. Job.lean: configuration images and profiles, the planning sums, staging, arming, decision, commit and stop,
in-flight disables (01_architecture.md R37 to R41, 08_jobs.md R222 to R240, 17_reset_boot_security.md R421, R422, R424). -/

namespace Sys2Proof.Machine

def Chip.modJob (c : Chip) (g : JobS → JobS) : Chip := { c with job := g c.job }

def Chip.modPair (c : Chip) (g : PairS → PairS) : Chip := { c with pair := g c.pair }

def sstOpen : Nat := 0
def sstLoading : Nat := 1
def sstPairing : Nat := 2
def sstArmed : Nat := 3
def sstDecided : Nat := 4

def Chip.sst (c : Chip) : Nat := c.f F.jobStatSst

def Chip.staged (c : Chip) : Nat := 1 - c.actBank

/-- The staged bank is locked (R225). -/
def Chip.locked (c : Chip) : Bool := decide (sstPairing ≤ c.sst) && decide (c.sst ≤ sstDecided)

/-! ### Images (R421, R422) -/

/-- `n` bytes at `lo` of an image as a little-endian number (R421). -/
def imgField (img : List Byte) (lo n : Nat) : Nat := natOfLE ((img.drop lo).take n)

/-- A section table entry with its index. -/
structure Sect where
  index : Nat
  type_ : Nat
  flags : Nat
  idx   : Nat
  off   : Nat
  len   : Nat
  hash  : List Byte
  deriving DecidableEq, Repr

def imgSect (img : List Byte) (k : Nat) : Sect :=
  let a := 64 + 56 * k
  ⟨k, imgField img a 2, imgField img (a + 2) 2, imgField img (a + 4) 4, imgField img (a + 8) 8, imgField img (a + 16) 8,
    (img.drop (a + 24)).take 32⟩

def imgSects (img : List Byte) : List Sect := (List.range (imgField img 6 2)).map (imgSect img)

def Sect.resident (s : Sect) : Bool := s.flags % 2 == 1

def Sect.data (img : List Byte) (s : Sect) : List Byte := (img.drop s.off).take s.len

def Sect.hashOk (s : Sect) (d : List Byte) : Bool := sha256 d == s.hash

/-- The 12-byte entries of a REG or PROFILE section: address and value (R422). -/
def regEntries (d : List Byte) : List (Nat × Word) :=
  (List.range (d.length / 12)).map fun i => (imgField d (12 * i) 8, BitVec.ofNat 32 (imgField d (12 * i + 8) 4))

/-- The sections of a job profile, in table order (R422, R426). -/
def profileSects (img : List Byte) (p : Nat) : List Sect :=
  (imgSects img).filter fun s => ((s.type_ == 3 || s.type_ == 5) && s.idx == p) || (s.type_ == 4 && s.idx % 256 == p)

def Chip.hasProfile (c : Chip) (p : Nat) : Bool := (profileSects c.boot.img p).any fun s => s.type_ == 3

/-! ### Banks (R222, R227, R228) -/

/-- The per-job register ranges at their bank A addresses with the distance to bank B, in the block order of R230. -/
def bankRanges : List (Nat × Nat × Nat) :=
  ((List.range 8).map fun n => (0x200400 + n * 0x2000, 0x200, 0x200)) ++
    [(0x301000, 0x1000, 0x1000), (0x410000, 0x10000, 0x10000), (0x440000, 0x10000, 0x10000), (0x1A1000, 0x1000, 0x1000),
      (0x91000, 0x1000, 0x1000)]

/-- The bank of a per-job register and its bank A address. -/
def bankOf (a : Nat) : Option (Nat × Nat) :=
  (bankRanges.find? fun r => r.1 ≤ a && a < r.1 + r.2.1 + r.2.2).map fun r =>
    if a < r.1 + r.2.2 then (0, a) else (1, a - r.2.2)

/-- The address in a bank of a register given at its bank A address. -/
def bankAddr (b a : Nat) : Nat :=
  match bankRanges.find? fun r => r.1 ≤ a && a < r.1 + r.2.1 with
  | some r => a + b * r.2.2
  | none => a

/-- JOB staging registers (R225). -/
def stagingReg (a : Nat) : Bool :=
  [R.jobArm, R.jobLead, R.jobEncLo, R.jobEncHi, R.jobVcfg, R.jobRefCrc, R.jobRuleCrc].contains a
    || (decide (R.jobFeCrc 0 ≤ a) && decide (a ≤ R.jobFeCrc 7))

/-- An IE_REGW whose weights sum to more than 256, whichever way it is written (R198). -/
def regwBad (a : Nat) (v : Word) : Bool :=
  (a == R.ieRegw 0 || a == R.ieRegw 1)
    && decide (256 < getBits v 0 8 + getBits v 8 8 + getBits v 16 8 + getBits v 24 8)

/-- What a write of a staged register spoils (R228); `a` is the bank A address or a JOB register. -/
def Chip.spoils (c : Chip) (a : Nat) : Chip :=
  let c := if [R.ieRefBase 0, R.ieRefStride 0, R.ieRefW 0, R.ieRefH 0, R.jobRefCrc].contains a then c.verifySpoilt false else c
  if [R.ieRuleBase 0, R.ieRuleTy 0, R.stcWeb 0, R.jobRuleCrc].contains a then c.verifySpoilt true else c

/-! ### Planning sums (R37 to R41, R239) -/

/-- P0 rate in units of 1/16 bit/s (R40, R268). -/
def Chip.p0Rate16 (c : Chip) (b f : Nat) : Nat :=
  let bin := c.p0Bin b
  ((c.rois b).map fun r => r.2.1 * r.2.2.length).sum * depthBits (c.f (F.sspP0CfgDepth b)) * f * (16 / (bin * bin))

/-- The sums of R41 for a bank and a product selection: uplink and DDR5 in exact units, flock, and the failing ports. -/
structure Sums where
  ul16   : Nat
  ulMax  : Nat
  mem64  : Nat
  lim    : Nat
  clk    : Nat
  port   : Option Nat
  deriving DecidableEq, Repr

def Chip.sums (c : Chip) (b sel f : Nat) : Sums :=
  let w := c.stcWidth b
  let s := f * w * c.ieCref b
  let p0 := if sel.testBit 0 then c.p0Rate16 b f else 0
  let p1 := if sel.testBit 1 then c.f (F.sspP1CfgRes b) * 250000000 else 0
  let p2 := if sel.testBit 2 then f * w else 0
  let p3 := if sel.testBit 3 then 1000000000 else 0
  let p4 := if sel.testBit 4 then f * 512 else 0
  let nmc := c.win.chans.length
  let speed := [6400, 7200, 8000].getD c.win.speed 6400
  let red := if c.p0Plain b then 0 else p0 / depthBits (c.f (F.sspP0CfgDepth b))
  let crop := 16 * p1 / depthBits (c.f (F.sspP1CfgDepth b))
  let bad := (List.range 8).filter fun n => c.fb (F.feJcfgPortEn b n) &&
    (let smp := f * c.lineNpix n b * (c.f (F.feJcfgNch b n) + 1)
     let half := c.f (F.laneRateRate n) != 0
     decide (20000000000 < smp)
       || decide ((if half then 97000000000 else 194000000000) < smp * sizeBits (c.f (F.feJcfgSize b n))))
  { ul16 := p0 + 16 * (p1 + p2 + p3 + p4)
    ulMax := if c.fb F.ulCtrlRate then 380000000000 else 760000000000
    mem64 := 80 * s + 4 * (f * w) + p0 + 16 * p1 + 64 * 17000000000
    lim := 5312500 * nmc * speed
    -- cycles per second in units of 1/128
    clk := 64 * s + (if c.fb F.shpCtrlF1En then 8 * s else 0) + red + crop
    port := bad.head? }

/-- The failing sums as JOB_CHK marks them: clock, memory, uplink, port (R239). -/
def Sums.fails (s : Sums) : Nat :=
  (if 128 * 64 * 1250000000 < s.clk then 8 else 0) + (if 64 * s.lim < s.mem64 then 4 else 0)
    + (if 16 * s.ulMax < s.ul16 then 2 else 0) + (if s.port.isSome then 1 else 0)

/-- The record of a check of R41 (R239). -/
def Chip.showSums (c : Chip) (s : Sums) : Chip :=
  let c := c.wr R.jobLoadUl (BitVec.ofNat 32 (ceilDiv s.ul16 16000000))
  let c := c.wr R.jobLoadMem (BitVec.ofNat 32 (ceilDiv s.mem64 64000000))
  let c := c.wr R.jobLimMem (BitVec.ofNat 32 (s.lim / 1000000))
  c.setF F.jobLoadClkMhz (min 65535 (ceilDiv s.clk (128 * 64 * 1000000)))

/-- The outcome of an arming or JOB_PROD_OFF check in JOB_CHK (R229, R239). -/
def Chip.recordChk (c : Chip) (status step fails port : Nat) : Chip :=
  c.wr R.jobChk (BitVec.ofNat 32 (status * 2 ^ 24 + step * 2 ^ 20 + port * 2 ^ 8 + fails))

/-! ### Expected ports and NEED (R236, R243, R255) -/

def Chip.syncExpected (c : Chip) : Chip :=
  c.each (List.range 8) fun c n =>
    c.setFb (F.linkCtrlExpected n) (c.running && c.fb (F.feJcfgPortEn c.actBank n) && !c.job.offDone.contains n)

/-- The needs change (R243). -/
def Chip.needSet (c : Chip) (act stg : Nat) : Chip :=
  ((c.setF F.shpNeedNeedAct (min 65535 act)).setF F.shpNeedNeedStg (min 65535 stg)).capShow

/-- The needs change; the capacity rule runs at once when NEED rises (R243, R255). -/
def Chip.setNeed (c : Chip) (act stg : Nat) : Chip :=
  let old := c.need
  let c := c.needSet act stg
  if old < c.need then c.capacityNow else c

def Chip.stagedNeed (c : Chip) : Nat :=
  let b := c.staged
  if c.fb F.jobArmStop then 0 else jobNeed (c.fmax b) (c.stcWidth b) (c.ieCref b)

/-- Back to OPEN without a commit: DISARM, a failed agreement, a withdrawal (R225, R457). -/
def Chip.unlock (c : Chip) : Chip :=
  let c := (c.setF F.jobStatSst sstOpen).setNeed (c.f F.shpNeedNeedAct) 0
  (c.modJob fun j => { j with verdict := none, waiting := none }).modPair fun p => { p with resend := none }

/-! ### Loading a profile (R226, R424) -/

/-- A section that fails its hash is not applied (R424). -/
def Chip.sectBad (c : Chip) (k : Nat) : Chip := (c.ev F.secEvtSectBad).report 0x53 k

/-- One entry of a PROFILE section, written into the staged bank. -/
def Chip.profileEntry (c : Chip) (e : Nat × Word) : Chip :=
  let a := match bankOf e.1 with
    | some (0, a) => bankAddr c.staged a
    | _ => e.1
  match regAt a with
  | some (r, _) =>
    if ((bankOf e.1).map (·.1) == some 0 || stagingReg e.1) && r.legal e.2 && !regwBad a e.2 then (c.wr a (r.store (c.rd a) e.2)).spoils e.1
    else c
  | none => c

/-- The staged bank of a correction table is written whole; its check runs (R128, R141, R226). -/
def Chip.putTable (c : Chip) (n : Nat) (entry : Nat → Word) : Chip :=
  let b := c.staged
  let c := c.modFe n fun s => (List.range 65536).foldl (fun s i => s.tblPut b i (entry i)) s
  (((c.setF (F.feTblChkBank n) b).feChkWritten n (BitVec.ofNat 32 (2 ^ 31 + b * 2 ^ 28))).feChkDone n)

def Chip.loadTable (c : Chip) (n : Nat) (d : List Byte) : Chip :=
  c.putTable n fun i => BitVec.ofNat 32 (imgField d (4 * i) 4)

def Chip.resetTable (c : Chip) (n : Nat) : Chip := c.putTable n tblDefault

/-- A register that a section would have set takes its reset value again, and spoils what a write of it spoils. -/
def Chip.entryReset (c : Chip) (a : Nat) : Chip :=
  let x := if (bankOf a).map (·.1) = some 0 then bankAddr c.staged a else a
  (c.wr x (resetVal x)).spoils a

/-- The JOB staging registers. -/
def stagingRegs : List Nat :=
  [R.jobArm, R.jobLead, R.jobEncLo, R.jobEncHi, R.jobVcfg, R.jobRefCrc, R.jobRuleCrc] ++ (List.range 8).map R.jobFeCrc

/-- The registers and entries of a section that is not applied take their reset values (R424): of a PROFILE section the JOB staging
registers, which it holds, and the per-job registers that it names. -/
def Chip.sectReset (c : Chip) (s : Sect) (d : List Byte) : Chip :=
  match s.type_ with
  | 3 => c.each (stagingRegs ++ ((regEntries d).map (·.1)).filter fun a => (bankOf a).map (·.1) == some 0) Chip.entryReset
  | 4 => if s.idx / 256 % 256 < 8 then c.resetTable (s.idx / 256 % 256) else c
  | 5 => c.each (List.range 512) fun c j => c.wr (R.ieLut c.staged j) (resetVal (R.ieLut c.staged j))
  | _ => c

/-- A section of the profile is applied, or its registers and entries take their reset values (R424). -/
def Chip.applySect (c : Chip) (s : Sect) (d : List Byte) : Chip :=
  if s.hashOk d then
    match s.type_ with
    | 3 => c.each (regEntries d) Chip.profileEntry
    | 4 => if s.idx / 256 % 256 < 8 then c.loadTable (s.idx / 256 % 256) d else c
    | 5 => c.each (List.range 512) fun c j => c.wr (R.ieLut c.staged j) (BitVec.ofNat 32 (imgField d (4 * j) 4))
    | _ => c
  else (c.sectBad s.index).sectReset s d

/-- JOB_CMD LOAD: the staged bank takes its reset values and the RESIDENT sections of the profile (R226). -/
def Chip.jobLoad (c : Chip) (p : Nat) : Chip :=
  let b := c.staged
  let c := (c.setF F.jobStatSst sstLoading).each bankRanges fun c r =>
    c.resetRange (r.1 + b * r.2.2) (r.1 + b * r.2.2 + r.2.1)
  let c := (c.verifySpoilt false).verifySpoilt true
  let c := c.each ((profileSects c.boot.img p).filter Sect.resident) fun c s => c.applySect s (s.data c.boot.img)
  (((c.setF F.jobArmProf p).setF F.jobVstatRefOk 0).setF F.jobVstatRuleOk 0)

/-- Where a section that is not RESIDENT is read from after a push boot (R424). -/
def Chip.imgBase (c : Chip) : Nat := c.f F.secImgBaseHiBase * 2 ^ 32 + c.f F.secImgBaseLoBase

/-- JOB_LOAD_COMPLETE: the other sections are read, from flash as `data` gives them or from DDR5, and SST returns to OPEN. -/
def Chip.jobLoaded (c : Chip) (data : List (Nat × List Byte)) : Chip :=
  if c.sst = sstLoading then
    let p := c.f F.jobArmProf
    let c := c.each ((profileSects c.boot.img p).filter fun s => !s.resident) fun c s =>
      if c.fb F.glbBootStatPush then
        let (c, d, bad) := c.memGet (c.imgBase + s.off) s.len
        if bad then c.applySect s [] else c.applySect s d
      else c.applySect s (((data.find? fun x => x.1 == s.index).map (·.2)).getD [])
    (((c.setF F.jobArmProf p).setF F.jobVstatRefOk 0).setF F.jobVstatRuleOk 0 |>.setF F.jobStatSst sstOpen).ev F.jobEvtLoaded
  else c

/-! ### Verifying (R227, R228) -/

def Chip.verifyStart (c : Chip) (rule : Bool) : Chip :=
  let u := c.f F.jobVcfgCvu
  let c := c.setF (F.cvuStatOwner u) 3
  (((c.modJob fun j => { j with verBad := false }).setFb F.jobVstatBusy true).setFb F.jobVstatTgt rule).setF F.jobVstatPct 0

/-- The unit leased to the verify (R381). -/
def Chip.verifyUnit (c : Chip) : Option Nat := (List.range 8).find? fun n => c.f (F.cvuStatOwner n) == 3

/-- The leased unit becomes free. -/
def Chip.verifyFree (c : Chip) : Chip :=
  match c.verifyUnit with
  | some n => c.setF (F.cvuStatOwner n) 0
  | none => c

/-- The end of the lease: the unit shows the verify's CRC and becomes free (R381). -/
def Chip.verifyRelease (c : Chip) (crc : Word) : Chip :=
  match c.verifyUnit with
  | some n => (c.cvuShow n (crc.setWidth 64)).verifyFree
  | none => c

/-- JOB_VERIFY_COMPLETE: the region's CRC-32C is compared, unless an event of R228 spoilt the run. -/
def Chip.verifyDone (c : Chip) : Chip :=
  if c.fb F.jobVstatBusy then
    let b := c.staged
    let rule := c.fb F.jobVstatTgt
    let r := if rule then c.ruleRegion b else c.refRegion b
    let (c, crc) := c.verifyCrc r.1 r.2
    let ok := crc == c.rd (if rule then R.jobRuleCrc else R.jobRefCrc)
    let okv := ok && !c.job.verBad
    let bad := !ok && !c.job.verBad
    let c := if rule then (c.setFb F.jobVstatRuleOk okv).setFb F.jobVstatRuleFail bad
      else (c.setFb F.jobVstatRefOk okv).setFb F.jobVstatRefFail bad
    let c := (c.setFb F.jobVstatBusy false).setF F.jobVstatPct 100
    (c.verifyRelease crc).ev F.jobEvtVerifyDone
  else c

/-! ### Arming (R229, R230) -/

/-- Step 4 of R229, also a condition of R232. -/
def Chip.armStep4 (c : Chip) : Bool :=
  let b := c.staged
  c.fb F.jobVstatRefOk && c.fb F.jobVstatRuleOk && (List.range 8).all fun n => !c.fb (F.feJcfgPortEn b n) ||
    (c.fb (F.feTblChkDone n) && !c.fb (F.feTblChkStale n) && c.f (F.feTblChkBank n) == b
      && c.rd (R.feTblCrc n) == c.rd (R.jobFeCrc n))

def Chip.anyOldBusy (c : Chip) : Bool :=
  (List.range 8).any (fun n => c.fb (F.feStatOldBusy n)) || c.fb F.stcStatOldBusy || c.fb F.ieStatOldBusy
    || c.fb F.csStatOldBusy || c.fb F.sspStatOldBusy

/-- The Comet relations of step 2 (R330, R334, R338). -/
def Chip.cmtArmOk (c : Chip) (b : Nat) : Bool :=
  c.outsReach b
  && (c.f (F.cmtTcfgSrc b) != 1 || decide (c.tMin b ≤ c.f (F.cmtTimerPeriod b)))
  && (!c.pairMode || (decide (10000 ≤ c.f (F.cmtTdlyTrigDly b))
      && decide (1000 * (c.f F.cmtPairCfgTakeUs + 1) < c.f (F.cmtTdlyTrigDly b))))

/-- Step 2 of R229 (R8, R142, R152, R197, R288, R330, R334). -/
def Chip.armStep2 (c : Chip) : Bool :=
  let b := c.staged
  let lead := c.f F.jobLeadLead
  (List.range 8).all (c.feArmOk b) && c.stcArmOk b && c.ieArmOk b && c.sspArmOk b && c.cmtArmOk b
    && decide (16 ≤ lead) && decide (lead < c.f (F.ieRepLinesRepLines b))
    && (!c.pairMode || decide (200 * c.fmax b ≤ 1000000 * lead))

def Chip.armStep3 (c : Chip) : Bool :=
  (List.range 8).all fun n => !c.fb (F.feJcfgPortEn c.staged n) || Chip.wasUp (c.linkSt n)

/-- Steps 2 to 5 of R229: the failing step, its status, and the device with the sums recorded. -/
def Chip.armSteps25 (c : Chip) : Chip × Nat × Nat :=
  if !c.armStep2 then (c.recordChk 0x03 2 0 0, 2, 0x03)
  else if !c.armStep3 then (c.recordChk 0x04 3 0 0, 3, 0x04)
  else if !c.armStep4 then (c.recordChk 0x07 4 0 0, 4, 0x07)
  else
    let s := c.sums c.staged (c.f (F.sspPselProd c.staged)) (c.fmax c.staged)
    let c := c.showSums s
    if s.fails = 0 then (c.recordChk 0 0 0 0, 0, 0) else (c.recordChk 0x06 5 s.fails (s.port.getD 0), 5, 0x06)

/-- Step 1 of R229: its status, 0 where it passes. -/
def Chip.armStep1 (c : Chip) : Nat :=
  let tgt := c.f F.jobArmTarget
  let stop := c.fb F.jobArmStop
  if c.sst ≠ sstOpen ∨ (tgt = 2 ∧ c.running) ∨ (tgt ≠ 2 ∧ !c.running) ∨ (stop ∧ !c.running) then 0x04
  else if c.fb F.jobVstatBusy || c.anyOldBusy then 0x05 else 0

/-- The arming digest (R230). -/
def Chip.armDigest (c : Chip) : Word :=
  let b := c.staged
  let addrs := bankRanges.flatMap fun r => ((List.range (r.2.1 / 4)).map fun i => r.1 + b * r.2.2 + 4 * i).filter fun a => (regAt a).isSome
  let tail := [R.jobRefCrc, R.jobRuleCrc] ++ (List.range 8).map R.jobFeCrc ++ [R.jobArm, R.jobLead, R.jobEncLo, R.jobEncHi]
  crc32c ((addrs ++ tail).flatMap fun a => natBytesBE 4 (c.rd a).toNat)

/-! ### The commit point (R231 to R235) -/

/-- The pair exchanges PSEQ for the streams of a new bank (R278). -/
def Chip.pseqDue (c : Chip) : Chip :=
  if c.matePresent ∧ !c.fb F.jobStatSolo then
    if c.pairId = 0 then c.modSsp fun s => { s with oweSync := List.range 6, pseqAt := [] }
    else c.modSsp fun s => { s with waitSync := List.range 6 }
  else c

/-- What Comet keeps or starts at a commit (R322, R323, R325); `te` is the time at which T_c fell due. -/
def Chip.cometCommit (c : Chip) (start : Bool) (oldSrc te : Nat) : Chip :=
  let b := c.actBank
  let src := c.f (F.cmtTcfgSrc b)
  let here := c.webPos * 65536 + c.pitch16 b
  c.modCmt fun m =>
    { m with
      woken := false
      txPrev := if start then none else m.txPrev
      lastMark := if start then none else m.lastMark
      missCnt := if start then 0 else m.missCnt
      pnext := if src ≠ 0 then none
        else if start || oldSrc != 0 then some here else m.pnext.map (· + c.pitch16 b)
      due := if src ≠ 1 then none else if start then some te else some (te + c.f (F.cmtTimerPeriod b))
      ownDue := []
      fids := if start then [] else m.fids
      lastRec := if start then none else m.lastRec }

/-- The atomic swap of R234, at trigger T_c or for a START; a joiner takes the acquisition state of its server (R461). -/
def Chip.commit (c : Chip) (tc : Nat) (start join : Bool) (te : Nat) : Chip :=
  let old := c.actBank
  let new := 1 - old
  let oldSrc := c.f (F.cmtTcfgSrc old)
  let prof := c.f F.jobArmProf
  let stg := c.f F.shpNeedNeedStg
  let c := (((c.setF F.jobStatActBank new).setF F.jobStatRun 1).setF F.jobStatSst sstOpen).setF F.jobStatProfAct prof
  let c := c.each (List.range 8) fun c n => (c.setF (F.feStatBankAct n) new).setF (F.feStatOldBusy n) 1
  let c := ((c.setF F.stcStatBankAct new).setF F.ieStatBankAct new).setF F.csStatBankAct new |>.setF F.sspStatBankAct new
  let c := c.setF F.stcStatStoreKib (min 65535 (ceilDiv (c.storeDemand new) 1024))
  let c := ((c.setF F.stcStatOldBusy 1).setF F.ieStatOldBusy 1).setF F.csStatOldBusy 1 |>.setF F.sspStatOldBusy 1
  let c := (c.setF F.jobCommitTrigTrig tc).ev F.jobEvtCommit
  let c := (c.setF F.csDseqDseq 0).setF F.plActDigestDigest (c.f F.jobDigestDigest)
  let c := (c.setF F.jobPortOffPort 0).setF F.jobProdOffProd 0
  let c := c.modJob fun j => { j with
    tOff := List.replicate 8 none, offDone := [], ts := if start then none else some tc, verdict := none, waiting := none, prodSent := none
    masks := j.masks.filter fun m => m.1 != new, profs := j.profs.set new prof }
  let c := (c.modIe fun i => { i with acqReps := i.acqReps.set new 0 }).setAcq new acqIdle
  let c := if start then { (c.setAcq new acqWait) with stc := { c.stc with lostAt := none } }
    else if join then c else c.enterAcq new
  ((c.cometCommit start oldSrc te).syncExpected.setNeed stg 0).pseqDue

/-- An armed stop takes effect at the mark: T_c is not issued (R234). -/
def Chip.jobStop (c : Chip) (tc : Nat) : Chip :=
  let c := (c.setF F.jobStatRun 0).setF F.jobStatSst sstOpen
  let c := (c.setF F.jobCommitTrigTrig tc).setF F.jobPortOffPort 0 |>.setF F.jobProdOffProd 0
  let c := c.modJob fun j => { j with
    tOff := List.replicate 8 none, offDone := [], ts := none, verdict := none, waiting := none, prodSent := none, stopping := true }
  let c := { c with stc := { c.stc with cutAt := some ((tc + 2 ^ 32 - 1) % 2 ^ 32) } }
  let c := ((c.modCmt fun m => { m with pnext := none, due := none, fids := [] }).syncExpected.setNeed 0 0).outsUpdate
  { c with defers := c.defers ++ [Defer.stopCut, Defer.stopCheck] }

/-- ARMED is entered; a START commits at once (R225, R234). -/
def Chip.armed (c : Chip) : Chip :=
  let c := (c.setF F.jobStatSst sstArmed).ev F.jobEvtArmed
  let c := c.modPair fun p => { p with resend := none }
  if c.f F.jobArmTarget = 2 then c.commit (c.f F.cmtNextIdId) true false c.nowNs else c

/-- ARMED is entered, and the capacity rule runs (R225, R255). -/
def Chip.enterArmed (c : Chip) : Chip := c.capacityNow.armed

/-- The agreement fails (R225). -/
def Chip.pairFail (c : Chip) : Chip := ((c.recordChk 0x0A 6 0 0).ev F.jobEvtArmFail).unlock

/-- The mate's digest is compared in PAIRING (R225, R230). -/
def Chip.agree (c : Chip) (d : Nat) : Chip :=
  if c.sst = sstPairing then if d = c.f F.jobDigestDigest then c.enterArmed else c.pairFail else c

/-- The device serves a job of its mate's or is alone beside a mate that does (R451). -/
def Chip.besideServer (c : Chip) : Bool :=
  c.pairMode && c.f F.plStatSvc == 1 && c.matePresent && c.fb F.plStatMateRun

/-- Locking with the digest, towards ARMED or PAIRING (R225, R229, R230). The capacity rule runs once: NEED
rises as the bank is locked, and a digest of the mate that is there already makes PAIRING last no time (R255). -/
def Chip.lockArmed (c : Chip) : Chip :=
  let c := c.setF F.jobDigestDigest c.armDigest.toNat
  let solo := c.pairMode && !c.matePresent
  let c := (c.setFb F.jobStatSolo solo).needSet (c.f F.shpNeedNeedAct) c.stagedNeed
  if c.pairMode ∧ !solo then
    let c := (c.setF F.jobStatSst sstPairing).capacityNow
    let d := c.f F.jobDigestDigest
    let c := c.pairSend 0x03 (natBytesBE 4 d ++ natBytesBE 4 0)
    let c := c.modPair fun p => { p with resend := some (0x03, d) }
    match c.job.mateDig with
    | some (m, t) =>
      if c.nowNs < t + 1000000 * c.f F.jobPairCfgTmo then
        let c := c.modJob fun j => { j with mateDig := none }
        if m = d then c.armed else c.pairFail
      else c
    | none => c
  else c.enterArmed

/-- JOB_CMD ARM: the device after the checks and the status (R229). -/
def Chip.jobArm (c : Chip) : Chip × Nat :=
  if c.besideServer then (c, 0x04)
  else
    match c.armStep1 with
    | 0 =>
      let (c, _, st) := if c.fb F.jobArmStop then (c.recordChk 0 0 0 0, 0, 0) else c.armSteps25
      if st = 0 then (c.lockArmed, 0) else (c.ev F.jobEvtArmFail, st)
    | st => ((c.recordChk st 1 0 0).ev F.jobEvtArmFail, st)

/-- The conditions 0x1 and 0x2 of R232. -/
def Chip.holdCode (c : Chip) : Nat := if c.f F.jobWrPendCount ≠ 0 then 1 else if !c.armStep4 then 2 else 0

/-- The verdict takes effect: DECIDED, or ARMED with a reason (R225, R232). -/
def Chip.decideAs (c : Chip) (code : Nat) : Chip :=
  let c := (c.modJob fun j => { j with waiting := none, verdict := none }).setF F.jobStatHoldReason code
  if code = 0 then c.setF F.jobStatSst sstDecided
  else (c.ev F.jobEvtPostpone).inc F.jobPostponeCntCount

/-- Mate 0 combines both verdicts and sends DECIDE (R233). -/
def Chip.combine (c : Chip) (td own mate : Nat) : Chip :=
  let code := if own ≠ 0 then own else mate
  (c.decideAs code).pairSend 0x05 (natBytesBE 4 td ++ [if code = 0 then 0#8 else 1#8] ++ natBytesBE 1 code ++ natBytesBE 2 0)

/-- The decision trigger T_d is issued with the target met (R231 to R233). -/
def Chip.jobDecision (c : Chip) (td : Nat) (enc : Int) : Chip :=
  match c.job.ts with
  | none => c
  | some ts =>
    let b := c.actBank
    let at_ := (ts + c.f (F.ieRepLinesRepLines b) + 2 ^ 32 - c.f F.jobLeadLead) % 2 ^ 32
    let target := toSigned 64 (c.f F.jobEncHiEncHi * 2 ^ 32 + c.f F.jobEncLoEncLo)
    if c.sst = sstArmed ∧ td = at_ ∧ (c.f F.jobArmTarget ≠ 1 ∨ ge64 enc target) then
      let own := c.holdCode
      if !c.pairMode || c.fb F.jobStatSolo then c.decideAs own
      else if c.pairId = 1 then
        let c := c.pairSend 0x04 (natBytesBE 4 td ++ [if own = 0 then 0#8 else 1#8] ++ natBytesBE 1 own ++ natBytesBE 2 0)
        c.modJob fun j => { j with waiting := some (td, own) }
      else
        match c.job.verdict with
        | some (t, v) => if t = td then c.combine td own v else c.modJob fun j => { j with waiting := some (td, own) }
        | none => c.modJob fun j => { j with waiting := some (td, own) }
    else c

/-- A VERDICT of mate 1 reaches mate 0 (R233). -/
def Chip.verdictRx (c : Chip) (td : Nat) (hold : Bool) : Chip :=
  let v := if hold then 3 else 0
  match c.job.waiting with
  | some (t, own) => if t = td ∧ c.sst = sstArmed then c.combine td own v else c
  | none => c.modJob fun j => { j with verdict := some (td, v) }

/-- No verdict within 100 µs of T_d (R232, R233). -/
def Chip.verdictTimeout (c : Chip) : Chip :=
  match c.job.waiting with
  | some (t, own) => if c.pairId = 0 ∧ c.sst = sstArmed then c.combine t own 4 else c
  | none => c

/-- DECIDE reaches mate 1 (R233). -/
def Chip.decideRx (c : Chip) (td : Nat) (hold : Bool) (reason : Nat) : Chip :=
  match c.job.waiting with
  | some (t, own) =>
    if t = td ∧ c.sst = sstArmed then
      if hold then c.decideAs (if own ≠ 0 then own else max 1 reason) else c.decideAs 0
    else c
  | none => c

/-- Mate 1 issues the mark without a DECIDE (R233). -/
def Chip.noDecide (c : Chip) : Chip :=
  match c.job.waiting with
  | some (_, own) =>
    if c.sst = sstArmed ∧ c.pairId = 1 then
      ((c.decideAs (if own ≠ 0 then own else 5)).ev F.jobEvtPairSplit).report 0x80 1
    else c
  | none => c

/-- The last band of the stopped job has finished (R234). -/
def Chip.stopCheck (c : Chip) : Chip :=
  if c.job.stopping then
    let b := if c.running then 1 - c.actBank else c.actBank
    let busy := c.bankInStc b || c.ie.bands.any (fun fb => fb.band.bank == b && !(fb.merged && fb.out4))
      || c.ssp.units.any (·.bank == b) || c.ssp.ready.any (·.bank == b)
      || (List.range 8).any (fun n => (c.fe n).uses b)
    if busy then c else (c.modJob fun j => { j with stopping := false }).ev F.jobEvtStopped
  else c

/-! ### In-flight disables and products (R237, R238) -/

/-- The newest issued TRIG_ID. -/
def Chip.newestTrig (c : Chip) : Nat := (c.f F.cmtNextIdId + 2 ^ 32 - 1) % 2 ^ 32

/-- T_off of a port is set; a line already closed completes the disable (R237). -/
def Chip.setTOff (c : Chip) (n t : Nat) : Chip :=
  let c := (c.modJob fun j => { j with tOff := j.tOff.set n (some t) }).setF ⟨R.jobPortOff, n, 1⟩ 1
  match (c.fe n).lastClosed with
  | some l => if 0 ≤ sdiff32 l t then c.portOffClosed n t else c
  | none => c

/-- Step 1 of the in-flight disable. -/
def Chip.portOffStart (c : Chip) (n : Nat) : Chip :=
  if c.job.tOff.getD n none = none ∧ !c.job.offDone.contains n then
    let t := (c.newestTrig + 64) % 2 ^ 32
    (c.setTOff n t).pairSend 0x06 (natBytesBE 1 n ++ natBytesBE 3 0 ++ natBytesBE 4 t)
  else c

def Chip.jobPortOff (c : Chip) (v : Word) : Chip :=
  c.each ((List.range 8).filter fun n => bitAt v n) Chip.portOffStart

/-- OFF(n, T') of the mate (R237). -/
def Chip.portOffRx (c : Chip) (n t : Nat) : Chip :=
  if n < 8 ∧ c.running then
    let late := decide (0 ≤ sdiff32 c.newestTrig t)
    let t := if late then c.newestTrig else t
    let c := if late then c.report 0x80 2 else c
    match c.job.tOff.getD n none with
    | some own => if 0 < sdiff32 t own then c.setTOff n t else c
    | none => if c.job.offDone.contains n then c else c.setTOff n t
  else c

/-- The port takes no TRIG with this identifier (R237). -/
def Chip.portDisabled (c : Chip) (n trig : Nat) : Bool :=
  c.job.offDone.contains n || match c.job.tOff.getD n none with
    | some t => decide (0 < sdiff32 trig t)
    | none => false

/-- The BSEQ bound of a product change and the first TRIG_ID that band is to have (R238). -/
def Chip.prodBound (c : Chip) : Nat × Nat :=
  let last := (c.stc.bseq + 2 ^ 32 - 1) % 2 ^ 32
  let first := if c.stc.rows.isEmpty then c.f F.cmtNextIdId else c.stc.first
  ((last + 4) % 2 ^ 32, (first + 48) % 2 ^ 32)

def Chip.setMask (c : Chip) (mask bseq : Nat) : Chip :=
  (c.modJob fun j => { j with masks := j.masks ++ [(c.actBank, bseq, mask)] }).setF F.jobProdOffProd mask

def Chip.sendProdOff (c : Chip) (mask t : Nat) : Chip :=
  c.pairSend 0x07 (natBytesBE 1 mask ++ natBytesBE 3 0 ++ natBytesBE 4 t)

/-- An accepted write of JOB_PROD_OFF; a present mate is to answer with its own bound. -/
def Chip.prodOff (c : Chip) (mask : Nat) : Chip :=
  let (b, t) := c.prodBound
  let sent := if c.matePresent && !c.fb F.jobStatSolo then some (mask, b, t) else none
  ((c.setMask mask b).modJob fun j => { j with prodSent := sent }).sendProdOff mask t

/-- The bound `b` of the band that begins with TRIG_ID `own`, or the mate's band that begins with `t` where that is later. -/
def laterBound (b own t : Nat) : Nat :=
  let later := sdiff32 t own
  if 0 < later then (b + (later.toNat + 15) / 16) % 2 ^ 32 else b

/-- PRODOFF of the mate (R238): the answer to a mask sent raises its bound; otherwise the mask is taken with the larger bound,
and the own one goes back to the mate. -/
def Chip.prodOffRx (c : Chip) (mask t : Nat) : Chip :=
  let mask := mask % 32
  if c.running then
    match c.job.prodSent with
    | some (m, b, own) =>
      if m = mask then
        c.modJob fun j => { j with
          prodSent := none
          masks := j.masks.map fun e => if e = (c.actBank, b, m) then (c.actBank, laterBound b own t, m) else e }
      else
        let (b, own) := c.prodBound
        (c.setMask mask (laterBound b own t)).sendProdOff mask own
    | none =>
      let (b, own) := c.prodBound
      (c.setMask mask (laterBound b own t)).sendProdOff mask own
  else c

/-- A write of JOB_PROD_OFF: a cleared bit runs the checks of R41 (R238, R239). -/
def Chip.jobProdOff (c : Chip) (mask : Nat) : Chip × Nat :=
  let old := c.f F.jobProdOffProd
  if (List.range 5).any fun k => old.testBit k && !mask.testBit k then
    let b := c.actBank
    let sel := (List.range 5).foldl (fun a k => if (c.f (F.sspPselProd b)).testBit k && !mask.testBit k then a + 2 ^ k else a) 0
    let s := c.sums b sel (c.fmax b)
    let c := c.showSums s
    if s.fails = 0 then ((c.recordChk 0 0 0 0).prodOff mask, 0)
    else (c.recordChk 0x06 0 s.fails (s.port.getD 0), 0x06)
  else (c.prodOff mask, 0)

/-! ### JOB_CMD and the register rules (R225, R240) -/

/-- The rejecting rules of a JOB_CMD other than ARM. -/
def Chip.jobCmdChecks (c : Chip) (v : Word) : List Nat :=
  match getBits v 28 4 with
  | 1 => rej (!c.hasProfile (getBits v 0 5)) 0x03 ++ rej c.locked 0x09 ++ rej (c.sst == sstLoading || c.anyOldBusy) 0x05
  | 2 | 3 => rej c.locked 0x09 ++ rej (c.sst == sstLoading) 0x05
      ++ rej (c.fb F.jobVstatBusy || c.f (F.cvuStatOwner (c.f F.jobVcfgCvu)) != 0) 0x05
  | 4 => []
  | 5 => rej (c.sst != sstPairing && c.sst != sstArmed) 0x04 ++ rej (c.sst == sstLoading) 0x05
  | _ => [0x03]

/-- A JOB_CMD that no rule rejects: the device and the status. -/
def Chip.jobCmd (c : Chip) (v : Word) : Chip × Nat :=
  match getBits v 28 4 with
  | 1 => (c.jobLoad (getBits v 0 5), 0)
  | 2 => (c.verifyStart false, 0)
  | 3 => (c.verifyStart true, 0)
  | 4 => c.jobArm
  | 5 => (c.unlock, 0)
  | _ => (c, 0)

/-- The signed difference of a target from the current value lies strictly between -2^62 and 2^62 (R311). -/
def targetOk (target now : Int) : Bool :=
  let d := toSigned 64 (ofSigned 64 (target - now))
  decide (-(2 : Int) ^ 62 < d) && decide (d < (2 : Int) ^ 62)

/-- The encoder target that a write of JOB_ENC_LO or JOB_ENC_HI makes, against the web encoder's position (R231, R311). -/
def Chip.encTargetChecks (c : Chip) (a : Nat) (v : Word) : List Nat :=
  let hi := if a = R.jobEncHi then v.toNat else c.f F.jobEncHiEncHi
  let lo := if a = R.jobEncLo then v.toNat else c.f F.jobEncLoEncLo
  rej ((a == R.jobEncLo || a == R.jobEncHi) && !targetOk (toSigned 64 (hi * 2 ^ 32 + lo)) c.webPos) 0x03

/-- The rejecting rules of a write in the JOB block, but for JOB_CMD's own. -/
def Chip.jobChecks (c : Chip) (a : Nat) (v : Word) : List Nat :=
  (if stagingReg a then rej c.locked 0x09 ++ rej (c.sst == sstLoading) 0x05 else [])
    ++ (if a = R.jobCmd then c.jobCmdChecks v else [])
    ++ (if a = R.jobPortOff then
        rej (!c.running || (List.range 8).any fun n =>
          bitAt v n && !bitAt (c.rd R.jobPortOff) n && !c.fb (F.linkCtrlExpected n)) 0x04 else [])
    ++ rej (a == R.jobProdOff && !c.running) 0x04
    ++ c.encTargetChecks a v

/-- The rejecting rules of a write to a per-job register of the staged bank (R21, R225). -/
def Chip.bankChecks (c : Chip) (a : Nat) : List Nat :=
  match bankOf a with
  | some (b, _) =>
    if b = c.actBank then [0x04]
    else rej c.locked 0x09 ++ rej (c.sst == sstLoading) 0x05
  | none => []

end Sys2Proof.Machine
end

