-- ==== Sys2Proof/Machine/Comet.lean ====
section
/-! DEFINITION. Comet.lean: encoders, line triggers, the trigger log, repeat marks and the follower (12_comet_press.md, R320
to R331). -/

namespace Sys2Proof.Machine

/-! ### Encoders (R320, R321) -/

def Chip.encFilt (c : Chip) (e : Nat) : Nat := if e = 0 then c.f F.cmtEncCfgFilt0 else c.f F.cmtEncCfgFilt1

def Chip.encInv (c : Chip) (e : Nat) : Bool := if e = 0 then c.fb F.cmtEncCfgInv0 else c.fb F.cmtEncCfgInv1

/-- The count of an accepted change of A or B, before INV (R320); none where nothing or both change. -/
def quadrature (old new : Bool × Bool) : Option Int :=
  match old.1 != new.1, old.2 != new.2 with
  | true, false => some (if new.1 != new.2 then 1 else -1)
  | false, true => some (if new.1 == new.2 then 1 else -1)
  | _, _ => none

/-- CMT_VEL: the web encoder's counts accepted in the last 1 ms, a second (R321). -/
def Chip.velShow (c : Chip) : Chip :=
  let w := c.webEnc
  let sum := ((c.cmt.recent.filter fun r => r.1 == w && decide (c.nowNs < r.2.1 + 4 * (c.encFilt w + 1) + 1000000)).map (·.2.2)).sum
  c.setFs F.cmtVelVel (sum * 1000)

/-- The time stamp of a count (R321). -/
def Chip.countTime (c : Chip) (e : Nat) : Nat := c.nowNs - 4 * (c.encFilt e + 1)

def Chip.count (c : Chip) (e : Nat) (s : Int) : Chip :=
  let t := c.countTime e
  let c := c.modCmt fun m => { m with
    pos := m.pos.set e (toSigned 48 (ofSigned 48 (m.pos.getD e 0 + s)))
    recent := (m.recent.filter fun r => decide (c.nowNs < r.2.1 + 1002000)) ++ [(e, t, s)] }
  c.velShow.outsUpdate

/-- A and B change in one accepted sample (R320). -/
def Chip.encIllegal (c : Chip) (e : Nat) : Chip :=
  if e < 2 then
    let c := (c.inc (if e = 0 then F.cmtEncErr0Count else F.cmtEncErr1Count)).ev F.cmtEvtEncErr
    let l := ((c.cmt.illegal.getD e []).filter fun t => decide (c.nowNs < t + 1000000000)) ++ [c.nowNs]
    let c := c.modCmt fun m => { m with
      lvl := m.lvl.modify e fun p => (!p.1, !p.2)
      illegal := m.illegal.set e (if l.length < 16 then l else []) }
    if l.length < 16 then c else c.report 0x08 e
  else c

/-- A read of CMT_ENCe_LO latches bits 47:32 (R321, R338). -/
def Chip.encRead (c : Chip) (e : Nat) : Chip × Word :=
  let p := ofSigned 48 (c.encPos e)
  let c := (c.setF (F.cmtEncLoPosLo e) (p % 2 ^ 32)).setF (F.cmtEncHiPosHi e) (p / 2 ^ 32)
  (c, BitVec.ofNat 32 p)

/-! ### Issuing (R322 to R327) -/

/-- Comet issues triggers: RUN, trigger source with its role known, not withdrawn (R322, R328, R450, R457). -/
def Chip.issues (c : Chip) : Bool :=
  c.running && c.fb F.cmtStatSource && (!c.pairMode || c.pair.seen) && !c.fb F.fcStatWithdrawn

/-- This device is the follower of a pair (R328). -/
def Chip.follows (c : Chip) : Bool := c.pairMode && !c.fb F.cmtStatSource

/-- Expected ports that are idle are asked to exit (R325). -/
def Chip.wakePorts (c : Chip) : Chip :=
  if c.running ∧ !c.cmt.woken then
    (c.modCmt fun m => { m with woken := true }).each (List.range 8) fun c n =>
      if c.fb (F.linkCtrlExpected n) && (c.linkSt n == lkIdleF || c.linkSt n == lkIdleD) then
        (c.setF (F.linkCtrlIdleReq n) 0).linkIdleExit n
      else c
  else c

def Chip.putLog (c : Chip) (e : LogEntry) : Chip := { c with log := sins (e.id % 65536) e (sdel (e.id % 65536) c.log) }

/-- The ports that take the TRIG of a line (R323, R328). -/
def Chip.trigPorts (c : Chip) (trig off : Nat) : List Nat :=
  (List.range 8).filter fun n => c.fb (F.feJcfgPortEn c.actBank n) && !c.portDisabled n trig && !off.testBit n

/-- A logged trigger goes to the ports, the strobes and the stitcher (R121, R323, R335). -/
def Chip.handTrig (c : Chip) (e : LogEntry) (off : Nat) : Chip :=
  let b := c.actBank
  let ports := c.trigPorts e.id off
  let c := c.each ports fun c n => (c.feExpect n e.id e.time b).placeTrig n e.id e.time
  let c := c.strobeTrigger e.time
  { c with stc := { c.stc with webq := c.stc.webq ++
    [{ trig := e.id, bank := b, mark := e.mark, norep := c.cmt.lastMark.isNone, ridx := e.ridx, handed := ports }] } }

/-- The trigger record of R453, sent twice, in consecutive rounds (R454): the second copy waits for its round. -/
def Chip.sendTrec (c : Chip) (e : LogEntry) : Chip :=
  let off := ((List.range 8).map fun n => if c.portDisabled n e.id then 2 ^ n else 0).sum
  let bits := (if e.mark then 1 else 0) + 2 * e.bank + 4 * e.dly
  let body := natBytesBE 4 e.id ++ natBytesBE 8 (ofSigned 64 (toSigned 48 e.enc)) ++ timeBytes e.time
    ++ natBytesBE 1 bits ++ natBytesBE 1 off ++ natBytesBE 4 e.ridx
  if c.pairMode ∧ c.linkSt 8 = lkActive then
    let r := c.sendRoundOf 8 + 1
    (c.pairSend 0x02 body).modPair fun p => { p with again := p.again ++ [(r, body)] }
  else c

/-- The second copies whose round is the next to leave (R454). -/
def Chip.trecAgain (c : Chip) : Chip :=
  let due := fun (x : Nat × List Byte) => decide (x.1 ≤ (c.link 8).rounds)
  let l := c.pair.again.filter due
  if l.isEmpty then c
  else (c.modPair fun p => { p with again := p.again.filter fun x => !due x }).each l fun c x => c.pairSend 0x02 x.2

/-- The trigger of a mark begins a repeat, any other counts towards a miss (R326, R327). -/
def Chip.countMark (c : Chip) (id : Nat) (mark : Bool) : Chip :=
  if mark then
    (c.modJob fun j => { j with ts := some id }).modCmt fun m => { m with
      ridx := (m.ridx + 1) % 2 ^ 32, lastMark := some id, missCnt := 0, fids := m.fids.filter fun t => decide (0 < sdiff32 t id) }
  else c.modCmt fun m => { m with missCnt := m.missCnt + 1 }

/-- Missing marks of SHEET and Z (R327). -/
def Chip.missCheck (c : Chip) : Chip :=
  let b := c.actBank
  if c.f (F.cmtTcfgMarkSrc b) ≠ 0 ∧ !c.fb (F.ieJcfgFidEn b)
      ∧ c.f (F.ieRepLinesRepLines b) + c.f (F.cmtTcfgMissLines b) ≤ c.cmt.missCnt then
    ((c.inc F.cmtMarkMissCount).ev F.cmtEvtMarkMiss).modCmt fun m => { m with missCnt := 0 }
  else c

/-- The server issues the mark at which its mate joins: it is PAIRED and owes the joiner PSEQ, DSEQ and FIELD (R451,
R460). -/
def Chip.serveMark (c : Chip) (id : Nat) : Chip :=
  if c.pair.serveAck then
    let c := (c.setF F.plStatSvc 2).modPair fun p => { p with serveAck := false, serveRep := some id, serveDseq := true }
    c.modSsp fun s => { s with oweSync := List.range 6, pseqAt := [] }
  else c

/-- Issuing a trigger in the active bank: log, ports, record to the mate, decision (R231, R323, R326, R328). -/
def Chip.issue (c : Chip) (tx : Nat) (pos : Int) (mark : Bool) (lag tmin : Nat) : Chip :=
  let id := c.f F.cmtNextIdId
  let c := if lag = 0 then c else (c.inc F.cmtOvrDlyCount).ev F.cmtEvtOverspeed
  let c := ((c.setF F.cmtStatLag (lag / tmin)).setF F.cmtNextIdId (id + 1)).inc F.cmtTrigCntCount
  let c := (c.countMark id mark).modCmt fun m => { m with txPrev := some tx }
  let e : LogEntry := { id := id, enc := ofSigned 48 pos, time := tx, sent := 0, mark := mark, bank := c.actBank
                        dly := if lag = 0 then 0 else 1, ridx := c.cmt.ridx }
  let c := (((c.putLog e).handTrig e 0).sendTrec e).when mark (·.serveMark id)
  (c.jobDecision id pos).missCheck

/-- What a due trigger selects: the source events it reaches, and whether a mark falls on it (R165, R327). -/
def Chip.markAt (c : Chip) (id : Nat) (pos : Int) : List Int × Bool :=
  let b := c.actBank
  if c.fb (F.ieJcfgFidEn b) then ([], c.cmt.fids.contains id)
  else
    let hit := if c.f (F.cmtTcfgSrc b) = 0 then c.cmt.events.filter (ge64 pos) else c.cmt.events
    let far := match c.cmt.lastMark with
      | none => true
      | some l => decide (c.f (F.ieRepLinesRepLines b) ≤ 2 * ((id + 2 ^ 32 - l) % 2 ^ 32))
    (hit, !hit.isEmpty && far)

/-- A trigger falls due at `te` with the web encoder at `pos` (R323, R324, R234); the second answer is false where a commit has
already placed the next due point. -/
def Chip.dueTrigger (c : Chip) (te : Nat) (pos : Int) : Chip × Bool :=
  let b := c.actBank
  let id := c.f F.cmtNextIdId
  let (hit, mark) := c.markAt id pos
  let bound := mark && c.sst == sstDecided
  let swaps := bound && !c.fb F.jobArmStop
  let nb := if swaps then 1 - b else b
  let tmin := c.tMin nb
  let base := te + c.f (F.cmtTdlyTrigDly nb)
  let tx := match c.cmt.txPrev with
    | none => base
    | some p => max base (p + tmin)
  if 16 * tmin < tx - base then
    let c := if c.fb F.cmtEvtOvrDrop then c else c.report 0x50 0
    ((c.inc F.cmtOvrDropCount).ev F.cmtEvtOvrDrop, true)
  else
    let c := (c.modCmt fun m => { m with events := m.events.filter fun p => !hit.contains p }).add F.cmtMarkIgnCount
      (hit.length - (if mark then 1 else 0))
    if bound ∧ !swaps then (c.jobStop id, true)
    else
      let c := if swaps then c.commit id false false te else if mark then c.noDecide else c
      (c.issue tx pos mark (tx - base) tmin, !swaps)

/-- P_next or the next TIMER due time advances (R322). -/
def Chip.advance (c : Chip) (b : Nat) : Chip :=
  c.modCmt fun m => { m with
    pnext := m.pnext.map (· + c.pitch16 b)
    due := m.due.map (· + c.f (F.cmtTimerPeriod b)) }

/-- One due point: the source issues, the follower notes it (R322, R329). -/
def Chip.duePoint (c : Chip) (te : Nat) (pos : Int) : Chip :=
  let b := c.actBank
  if c.issues then
    let (c, adv) := c.dueTrigger te pos
    if adv then c.advance b else c
  else if c.follows && c.running then (c.modCmt fun m => { m with ownDue := m.ownDue ++ [(te, pos)] }).advance b
  else c

/-- The triggers that the web encoder has made due: (int64)(POS × 65,536 − P_next) ≥ 0 (R322). -/
def Chip.encDue (c : Chip) (te : Nat) : Nat → Chip
  | 0 => c
  | k + 1 =>
    match c.cmt.pnext with
    | some p =>
      if c.running && c.f (F.cmtTcfgSrc c.actBank) == 0 && ge64 (c.webPos * 65536) p && (c.issues || c.follows) then
        (c.duePoint te c.webPos).encDue te k
      else c
    | none => c

/-- How many triggers can be due at most: PITCH is at least one count, and the difference is a 64-bit one (R322, R338). -/
def Chip.dueCount (c : Chip) : Nat :=
  match c.cmt.pnext with
  | some p => (toSigned 64 (ofSigned 64 (c.webPos * 65536 - p)) / 65536 + 1).toNat
  | none => 0

/-- ENCODER_COUNT: the accepted levels of A and B change (R320). -/
def Chip.encCount (c : Chip) (e : Nat) (a b : Bool) : Chip :=
  if e < 2 then
    match quadrature (c.cmt.lvl.getD e (false, false)) (a, b) with
    | none => c
    | some q =>
      let s := if c.encInv e then -q else q
      let te := c.countTime e
      let c := (c.modCmt fun m => { m with lvl := m.lvl.set e (a, b) }).count e s
      if e = c.webEnc then
        let c := if s = 1 && c.f (F.cmtTcfgSrc c.actBank) == 0 then c.wakePorts else c
        c.encDue te c.dueCount
      else c
  else c

/-- TRIGGER_DUE_TIMER: a TIMER due time is reached (R322, R325). -/
def Chip.timerDue (c : Chip) : Chip :=
  match c.cmt.due with
  | some t =>
    if c.running && c.f (F.cmtTcfgSrc c.actBank) == 1 && reached64 c.nowNs t then c.wakePorts.duePoint t c.webPos else c
  | none => c

/-- A host trigger (R322). -/
def Chip.hostTrigger (c : Chip) : Chip := if c.issues then c.wakePorts.duePoint c.nowNs c.webPos else c

/-! ### Source events (R327) -/

/-- A source event of MARK_SRC `k` at web position `p`. -/
def Chip.sourceEvent (c : Chip) (k : Nat) (p : Int) : Chip :=
  let b := c.actBank
  if c.f (F.cmtTcfgMarkSrc b) = k ∧ !c.fb (F.ieJcfgFidEn b) ∧ !c.follows then
    c.modCmt fun m => { m with events := m.events ++ [p + c.f (F.cmtMarkOfsOfs b)] }
  else c

/-- SHEET_EDGE_ACCEPT: the candidate's level has stayed stable. -/
def Chip.sheetAccept (c : Chip) (i : Nat) : Chip :=
  match c.cmt.sheet.getD i none with
  | some p => (c.modCmt fun m => { m with sheet := m.sheet.set i none }).sourceEvent (i + 1) p
  | none => c

/-- SHEET_EDGE_CANDIDATE: an edge to the given level latches the web position if SPOL selects it. -/
def Chip.sheetEdge (c : Chip) (i : Nat) (level : Bool) : Chip :=
  if i < 2 ∧ level ≠ c.fb (if i = 0 then F.cmtSheetCfgSpol0 else F.cmtSheetCfgSpol1) then
    let c := c.modCmt fun m => { m with sheet := m.sheet.set i (some c.webPos) }
    if c.f (if i = 0 then F.cmtSheetCfgSfilt0 else F.cmtSheetCfgSfilt1) = 0 then c.sheetAccept i else c
  else c

def Chip.sheetDiscard (c : Chip) (i : Nat) : Chip := c.modCmt fun m => { m with sheet := m.sheet.set i none }

/-- ENCODER_Z_EDGE: an accepted rising edge of the web encoder's Z signal. -/
def Chip.zEdge (c : Chip) (e : Nat) : Chip := if e = c.webEnc then c.sourceEvent 3 c.webPos else c

/-! ### Fiducial marks (R165, R166) -/

/-- The last mark placed, issued or still to come. -/
def Chip.lastPlaced (c : Chip) : Option Nat :=
  match c.cmt.fids.getLast? with
  | some t => some t
  | none => c.cmt.lastMark

def Chip.placeFid (c : Chip) (t : Nat) : Chip := c.modCmt fun m => { m with fids := m.fids ++ [t] }

/-- A detection passes T_m to Comet (R165). A follower's Comet holds such a mark as placed and does not use it (R328). -/
def Chip.fidMarkAt (c : Chip) (t : Nat) : Chip :=
  if !c.running then c
  else if (c.lastPlaced.map fun l => decide (sdiff32 t l ≤ 0)).getD false then c
  else if sdiff32 t (c.f F.cmtNextIdId) < 0 then c.inc F.ieFidLateCount
  else ((c.inc F.ieFidHitCount).placeFid t).modIe fun i => { i with fidMiss := 0 }

/-- Line REP_LINES − 64 of the repeat that started at `start` without a later mark (R166). -/
def Chip.fidMissed (c : Chip) (start : Nat) : Chip :=
  let b := c.actBank
  let nxt := (start + c.f (F.ieRepLinesRepLines b)) % 2 ^ 32
  if !c.running then c
  else if (c.lastPlaced.map fun l => decide (0 < sdiff32 l start)).getD false then c
  else if c.f (F.ieFidCfgMissMax b) ≤ c.ie.fidMiss then
    { (c.ev F.ieEvtFidLost) with stc := { c.stc with lostAt := some nxt } }
  else
    (((c.inc F.ieFidMissCount).ev F.ieEvtFidMiss).placeFid nxt).modIe fun i => { i with fidMiss := i.fidMiss + 1 }

/-! ### The follower (R328, R329, R331) -/

/-- The follower becomes the trigger source (R329). -/
def Chip.takeOver (c : Chip) : Chip :=
  if c.follows then
    let c := ((c.setF F.cmtStatSource 1).ev F.cmtEvtTakeover).report 0x83 0
    let owed := c.cmt.ownDue
    let c := c.modCmt fun m => { m with ownDue := [] }
    if c.issues then c.each owed fun c d => if c.running then (c.dueTrigger d.1 d.2).1 else c else c
  else c

def Chip.takeoverTimeout (c : Chip) : Chip := if c.running ∧ !c.cmt.ownDue.isEmpty then c.takeOver else c

/-- The own position, a 48-bit number, at a time of the last millisecond (R321, R328). -/
def Chip.posAt (c : Chip) (t : Nat) : Int :=
  toSigned 48 (ofSigned 48 (c.webPos - ((c.cmt.recent.filter fun r => r.1 == c.webEnc && decide (t < r.2.1)).map (·.2.2)).sum))

/-- The bank of the trigger that a record names: a mark that commits uses the new one (R234, R460). -/
def Chip.followBank (c : Chip) (mark : Bool) : Nat :=
  if mark && ((c.sst == sstDecided && !c.fb F.jobArmStop) || (c.pair.joinAck && c.sst == sstArmed)) then c.staged
  else c.actBank

/-- A record's position against the own one, at the record's t_e with the TRIG_DLY of its bank (R323, R328). -/
def Chip.deviation (c : Chip) (enc : Int) (tx dly b : Nat) : Chip :=
  if c.cmt.synced then
    let (k, c) := if dly = 0 then (tx - c.f (F.cmtTdlyTrigDly b), c) else c.fresh 10
    if (c.f F.cmtPairCfgTol : Int) < ((toSigned 48 (ofSigned 48 (enc - c.posAt k))).natAbs : Int) then
      ((c.inc F.cmtPairDevCount).ev F.cmtEvtPairDev).report 0x84 0
    else c
  else c.modCmt fun m => { m with pos := m.pos.set c.webEnc enc, synced := true }

/-- The record's mark on the follower: stop, commit or a missed DECIDE (R233, R234, R460). -/
def Chip.followMark (c : Chip) (id te : Nat) : Chip :=
  if c.sst = sstDecided then if c.fb F.jobArmStop then c.jobStop id else c.commit id false false te
  else if c.pair.joinAck ∧ c.sst = sstArmed then
    let c := (c.commit id false true te).modPair fun p => { p with
      joinAck := false, joinRep := some id, joinFirst := true, joinDseq := true }
    let c := c.modSsp fun s => { s with oweSync := [], waitSync := List.range 6 }
    (c.setF F.plStatSvc 2).ev F.plEvtJoined
  else c.noDecide

/-- The own due triggers that a record with TRIG_ID `id`, due at `te`, leaves open, where `next` was expected: it covers one for every
TRIG_ID since the record before, or since the START, and all that fell due no later (R329). -/
def CmtS.dueAfter (m : CmtS) (next id te : Nat) : List (Nat × Int) :=
  (m.ownDue.drop ((id + 2 ^ 32 - next) % 2 ^ 32 + 1)).filter fun d => decide (te < d.1)

/-- A trigger record that the follower does not hold yet (R328, R454). A withdrawing device takes none (R457), and with a source other
than ENC the first one asks idle ports to exit (R325). -/
def Chip.followTrig (c : Chip) (id : Nat) (enc : Int) (tx : Nat) (mark : Bool) (bank dly off ridx : Nat) : Chip :=
  if !c.follows || (c.logEntry id).isSome || c.fb F.fcStatWithdrawn then c
  else
    let next := c.f F.cmtNextIdId
    let nb := c.followBank mark
    let te := tx - c.f (F.cmtTdlyTrigDly nb)
    let c := c.deviation enc tx dly nb
    let c := if mark then c.followMark id te else c
    let c := (c.setF F.cmtNextIdId (id + 1)).countMark id mark
    let e : LogEntry := { id := id, enc := ofSigned 48 enc, time := tx, sent := 0, mark := mark, bank := bank, dly := dly
                          ridx := ridx }
    let c := (c.modCmt fun m => { m with
      ridx := ridx, txPrev := some tx, lastRec := some (id, enc), ownDue := m.dueAfter next id te }).putLog e
    let b := c.actBank
    let c := c.modCmt fun m => { m with
      pnext := if c.f (F.cmtTcfgSrc b) = 0 then some (enc * 65536 + (m.ownDue.length + 1) * c.pitch16 b) else m.pnext }
    if c.running then ((c.when (c.f (F.cmtTcfgSrc b) != 0) Chip.wakePorts).handTrig e off).jobDecision id enc else c

/-- A TREC message (R328, R453). -/
def Chip.trecTake (c : Chip) (bs : List Byte) : Chip :=
  let fl := fieldBE bs 30 1
  c.followTrig (fieldBE bs 8 4) (toSigned 64 (fieldBE bs 12 8)) (timeOfBytes ((bs.drop 20).take 10)) (fl % 2 == 1)
    (fl / 2 % 2) (fl / 4 % 2) (fieldBE bs 31 1) (fieldBE bs 32 4)

end Sys2Proof.Machine
end

