-- ==== Sys2Proof/Machine/Reset.lean ====
section
/-! DEFINITION. Reset.lean: what the resets clear and keep (R241, R249, R411, R412, R413, R469) and which domains run
(R29, R35, R403, R405, R413, R479, R487). -/

namespace Sys2Proof.Machine

def Chip.modBoot (c : Chip) (g : BootS → BootS) : Chip := { c with boot := g c.boot }

def Chip.modScp (c : Chip) (g : ScpS → ScpS) : Chip := { c with scp := g c.scp }

def Chip.modClk (c : Chip) (g : ClkS → ClkS) : Chip := { c with clk := g c.clk }

def Chip.modFc (c : Chip) (g : FcS → FcS) : Chip := { c with fc := g c.fc }

/-- The boot step shown in GLB_BOOT_STAT (R417). -/
def Chip.phase (c : Chip) : Nat := c.f F.glbBootStatPhase

/-! ### Domains -/

/-- MGMT runs: boot step 4 is done, its PLL's output has not stopped, and neither a reset nor the expiry of holdover holds it
(R398, R403, R413, R417). -/
def Chip.mgmtRuns (c : Chip) : Bool :=
  decide (5 ≤ c.phase) && !c.boot.hold && !c.boot.testHi && !c.boot.aonLow && !c.clk.expired && !c.clk.stopped.contains 0

/-- The clock domains of R31: 0 AON, 1 MGMT, 2 TIME, 3 CORE, 4 HL TX, 5 UL TX, 6 MEMC. -/
def domainOf (a : Nat) : Nat :=
  if a < 0x10000 then 1
  else if a < 0x20000 then 0
  else if a < 0x30000 then 1
  else if a < 0x40000 then 0
  else if a < 0x80000 then 1
  else if a < 0xA0000 then 2
  else if a < 0xB0000 then 3
  else if 0x100000 ≤ a ∧ a < 0x190000 then 4
  else if 0x190000 ≤ a ∧ a < 0x1A0000 then 5
  else if a < 0x800000 then 3
  else if a < 0x860000 then 6
  else if a < 0x8000000000 then 3
  else 6

/-- The output of a PLL runs (R29, R398): 0 MGMT, 1 CORE 0, 2 CORE 1, 3 MEMC, 4 TIME. -/
def Chip.pllRuns (c : Chip) (p : Nat) : Bool := !c.clk.stopped.contains p

/-- A domain runs: its clock is there and no reset holds it. Accesses pass through MGMT, so none runs without it
(R27, R29). -/
def Chip.domainRuns (c : Chip) (d : Nat) : Bool :=
  c.mgmtRuns && match d with
    | 2 => !c.fb F.rstHoldTime && c.pllRuns 4
    | 3 => !c.fb F.rstHoldCore && c.pllRuns (1 + c.f F.clkStatCoreAct)
    | 4 => c.f F.clkStatStHl == 2
    | 5 => c.f F.clkStatStUl == 2
    | 6 => !c.fb F.rstHoldMemc && c.pllRuns 3
    | _ => true

/-! ### Blocks -/

/-- The engine map of the option store, TESTING held as SPARE (R241, R447). -/
def Chip.mapLoad (c : Chip) : Chip :=
  c.each (List.range 68) fun c e => c.setF (engField e) (getBits (c.optWord (0x1500 + e / 16)) (2 * (e % 16)) 2)

/-- The Shepherd's reset values with the budget the option store holds (R249, R430). -/
def Chip.shpBudget (c : Chip) : Chip :=
  let w := c.optWord 0x1400
  if bitAt w 31 then c.setF F.shpBudgetWWatts (getBits w 0 8) else c

/-- The Shepherd is cleared. The engine map of the option store stands, so that a RETIRED engine stays one (R443, log entry 36). -/
def Chip.resetShp (c : Chip) : Chip :=
  (({ (c.resetRange 0xA0000 0xB0000) with shp := { ShpS.reset with worn := c.shp.worn, part := c.shp.part } }).shpBudget.mapLoad).capShow

def Chip.resetFes (c : Chip) : Chip := { (c.resetRange 0x200000 0x210000) with fes := List.replicate 8 FeS.reset }

def Chip.sramZero (c : Chip) : Chip :=
  { c with
    mem := c.mem.filter fun p => decide (ddrBase ≤ p.1)
    ecc := c.ecc.filter fun p => decide (ddrBase ≤ 8 * p.1) }

/-- FE0 to FE7, STC, IE and JOB, SSP and SHP are cleared and SRAM is set to 0; a running job stops (R412). A running
verify leaves no result: its unit is free and keeps what it showed (log entry 45). -/
def Chip.resetCore (c : Chip) : Chip :=
  let c := c.when (c.fb F.jobVstatBusy) Chip.verifyFree
  let c := ((((c.resetFes.resetRange 0x300000 0x310000).resetRange 0x400000 0x800000).resetRange 0x1A0000 0x1B0000).resetShp).sramZero
  ({ c with
    stc := StcS.reset, ie := IeS.reset, ssp := SspS.reset, job := JobS.reset
    cmt := { c.cmt with pnext := none, due := none, ownDue := [], events := [], fids := [] } }).syncExpected.outsUpdate

/-- MC0 to MC5 are cleared; DDR5 contents, remap entries and training are lost, and no window is formed
any more (R412, R466, R469). -/
def Chip.resetMemc (c : Chip) : Chip := { (c.resetRange 0x800000 0x860000).ddrZero with mcs := List.replicate 6 McS.reset, win := DdrWin.reset }

/-- ORB and CMT are cleared (R412, R450); the ticks since power-on are the model's own measure of time. -/
def Chip.resetTime (c : Chip) : Chip :=
  { (c.resetRange 0x80000 0xA0000) with
    orb := { OrbS.reset with ticks := c.orb.ticks }, cmt := CmtS.reset, log := []
    pair := { c.pair with seen := false }, clk := { c.clk with time10 := false } }

def Chip.resetLanes (c : Chip) (n : Nat) : Chip :=
  (c.each (List.range 9) fun c m => c.modLane n m fun _ => LaneS.reset).modPort n fun _ => ⟨0, false⟩

/-- HPn or PL is cleared; its link leaves ACTIVE and goes to DISABLED (R412). -/
def Chip.resetLink (c : Chip) (n : Nat) : Chip :=
  let c := if c.linkSt n = lkDisabled then c else c.linkDown n false
  let c := ((c.resetRange (0x100000 + n * 0x10000) (0x110000 + n * 0x10000)).resetLanes n).modLink n fun _ => LinkS.reset
  c.syncExpected

/-- PL also loses the pair state: in pair mode the device is ALONE afterwards (R451, R464). Its Comet role stands, which only a reset of
CMT gives up (R450). -/
def Chip.resetPair (c : Chip) : Chip :=
  let c := { c.resetLink 8 with pair := { PairS.reset with seen := c.pair.seen } }
  c.setF F.plStatSvc (if c.pairMode then 1 else 0)

/-- UL is cleared and uplink sessions end (R412). -/
def Chip.resetUl (c : Chip) : Chip :=
  let c := c.ulDisable
  { (c.resetRange 0x190000 0x1A0000).resetLanes 9 with retrain := none }

def Chip.resetDma (c : Chip) : Chip :=
  { (c.resetRange 0x50000 0x60000) with dma := List.replicate 16 DmaS.reset }

/-- CVU and EQ are cleared; a verify that runs ends with its lease and has no result (R382, R412, log entry 45). -/
def Chip.resetCvuEq (c : Chip) : Chip :=
  let c := c.when (c.fb F.jobVstatBusy) (·.setFb F.jobVstatBusy false)
  { (c.resetRange 0x60000 0x80000) with cvus := List.replicate 8 CvuS.reset, eqs := List.replicate 4 EqS.reset }

/-! ### Identity and security words (log entry 22) -/

def optSerialLo : Nat := 0x0800
def optSerialHi : Nat := 0x0801
def optOwnerKey : Nat := 0x0C00
def optSvnMin : Nat := 0x0C10
def optAttIdx : Nat := 0x0C11
def optKeySet : Nat := 0x0C12
def optBootCnt : Nat := 0x1401

/-- The read-only registers that show words of the option store (R425, R431). -/
def Chip.optShow (c : Chip) : Chip :=
  let c := (c.wr R.glbSerialLo (c.optWord optSerialLo)).wr R.glbSerialHi (c.optWord optSerialHi)
  let c := (c.wr R.secSvnMin (c.optWord optSvnMin)).setF F.secAttIdxIndex (c.optWord optAttIdx).toNat
  let c := c.setF F.secStatDefaultKey (if c.optWord optKeySet = 0#32 then 1 else 0)
  c.setF F.optStatSpares c.boot.spares

/-! ### The whole device -/

/-- A reset lets the option store's pulse in progress end (R413, R425, R486); the writes behind it are not begun. -/
def Chip.optSettle (c : Chip) : Chip :=
  match c.boot.optw with
  | [] => c
  | w :: rest =>
    let c := if w.own then c else c.progWord w.word w.value
    c.each (rest.filter (·.own)).reverse fun c w => { c with opt := sput optDefault c.opt w.word w.old }

/-- A device reset: every block but CLK and RST, with SRAM and DDR5; the straps and the option store are kept. A pulse of
the option store in progress ends first, and reports the CLK block holds still reach the FC (R399, R411, R413). -/
def Chip.deviceReset (c : Chip) : Chip :=
  let c := c.optSettle
  let strap := c.rd R.glbStrap
  let d : Chip := { Chip.reset with
    regs := c.regs.filter fun p => decide (0x10000 ≤ p.1) && decide (p.1 < 0x20000)
    opt := c.opt, clk := { c.clk with time10 := false }, jtag := c.jtag, freeCtr := c.freeCtr, out := c.out
    orb := { OrbS.reset with ticks := c.orb.ticks }
    fc := { FcS.reset with waiting := c.fc.waiting.filter fun p => 0x30 ≤ p.1.src && decide (p.1.src < 0x40) }
    boot := { BootS.reset with
      pinLow := c.boot.pinLow, pwrLow := c.boot.pwrLow, aonLow := c.boot.aonLow, testHi := c.boot.testHi
      trip := c.boot.trip, straps := c.boot.straps, spares := c.boot.spares, repair := c.boot.repair, rows := c.boot.rows }
    shp := { ShpS.reset with part := c.shp.part } }
  let d := ((d.wr R.glbStrap strap).shpBudget).optShow
  d.setF F.plStatSvc (if d.pairMode then 1 else 0)

/-- Illegal straps hold the device, which only a power-on reset ends (R416). -/
def Chip.strapHold (c : Chip) : Bool := c.phase == 3 && c.f F.glbBootStatErr == 2

/-- A reset source: its cause bit, the count of device resets, and the sequence of R413 from its start; a device that illegal
straps hold takes the cause bit alone (R416, log entry 25). -/
def Chip.deviceResetBy (c : Chip) (cause : Nat) : Chip :=
  let d := if c.strapHold then c else c.deviceReset.inc F.rstCountCount
  d.setF ⟨R.rstCause, cause, 1⟩ 1

/-- A clock restart: as a device reset, boot restarting at step 4 (R403, R409, R411). -/
def Chip.clockRestart (c : Chip) : Chip := (c.deviceResetBy 6).modBoot fun b => { b with restart := true }

/-- A power-on reset: everything but the option store (R411). The level inputs are not the reset's. A pulse in progress has ended before
power is lost (R486). -/
def Chip.powerOnReset (c : Chip) : Chip :=
  let c := c.optSettle
  (({ Chip.reset with
    opt := c.opt, freeCtr := c.freeCtr, out := c.out
    boot := { BootS.reset with
      pinLow := c.boot.pinLow, pwrLow := c.boot.pwrLow, aonLow := c.boot.aonLow, testHi := c.boot.testHi
      spares := c.boot.spares }
    shp := { ShpS.reset with part := c.shp.part } }).shpBudget).optShow

/-- DOMAIN_RESET: the blocks a code names (R412). -/
def Chip.domainReset (c : Chip) (code : Nat) : Chip :=
  match code with
  | 0x00 => c.deviceResetBy 4
  | 0x01 => c.resetCore
  | 0x02 => c.resetMemc
  | 0x03 => c.resetTime
  | 0x18 => c.resetPair
  | 0x19 => c.resetUl
  | 0x20 => c.resetDma
  | 0x21 => c.resetCvuEq
  | _ => if 0x10 ≤ code ∧ code < 0x18 then c.resetLink (code - 0x10) else c

/-- The rejecting rules of a domain code (R412). -/
def Chip.resetChecks (c : Chip) (code : Nat) : List Nat :=
  if code = 0x02 ∨ code = 0x03 then rej c.running 0x04
  else if 0x10 ≤ code ∧ code < 0x18 then rej (c.running && c.fb (F.linkCtrlExpected (code - 0x10))) 0x04
  else rej (!([0x00, 0x01, 0x18, 0x19, 0x20, 0x21].contains code)) 0x03

end Sys2Proof.Machine
end

