-- ==== Sys2Proof/Machine/Clk.lean ====
section
/-! DEFINITION. Clk.lean: clock sources, monitors, holdover and the change of references, the CORE PLLs and the selectors
(16_clocks.md R393 to R410, 18_faults_pair.md R445). Sources: 0 REFA, 1 REFB, 2 HL_REFCLK, 3 UL_REFCLK, 4 the 10 MHz input.
PLLs: 0 MGMT, 1 CORE 0, 2 CORE 1, 3 MEMC, 4 TIME. -/

namespace Sys2Proof.Machine

def csOff : Nat := 0
def csStarting : Nat := 1
def csGood : Nat := 2
def csFailed : Nat := 3
def csReturning : Nat := 4

def Chip.clkSt (c : Chip) (i : Nat) : Nat := c.f (F.clkStatSt i)

def Chip.clkSrc (c : Chip) (i : Nat) : ClkSrc := (c.clk.srcs[i]?).getD ⟨0, 0, false, false, none, false⟩

def Chip.modSrc (c : Chip) (i : Nat) (g : ClkSrc → ClkSrc) : Chip := c.modClk fun k => { k with srcs := k.srcs.modify i g }

/-- The primary reference of CLKMODE (R394). -/
def Chip.clkPrimary (c : Chip) : Nat := c.f F.clkStrapClkmode % 2

/-- The fallback of CLKMODE, none in the codes without one (R394). -/
def Chip.clkFallback (c : Chip) : Option Nat := if c.f F.clkStrapClkmode < 2 then some (1 - c.clkPrimary) else none

/-- The reference in use (R400). -/
def Chip.clkInUse (c : Chip) : Nat := if c.fb F.clkStatRefAct then c.clkFallback.getD c.clkPrimary else c.clkPrimary

/-- The other reference, if the straps name one. -/
def Chip.clkOther (c : Chip) : Option Nat :=
  if c.fb F.clkStatRefAct then some c.clkPrimary else c.clkFallback

/-- Expected edges of a monitor window (R396). -/
def clkExpected (i : Nat) : Nat := if i < 2 then 3200 else if i < 4 then 20000 else 1280

/-- A count within 10 % of the expected value (R396, R397). -/
def clkPass (i n : Nat) : Bool := decide (10 * ((n : Int) - clkExpected i).natAbs ≤ clkExpected i)

/-- An oscillator or input is enabled (R395, R397). -/
def Chip.clkEnable (c : Chip) (i : Nat) : Chip :=
  if c.clkSt i = csOff then
    (c.setF (F.clkStatSt i) (if i < 2 then csStarting else csReturning)).modSrc i fun _ => ⟨0, 0, false, false, some 0, false⟩
  else c

def Chip.clkDisable (c : Chip) (i : Nat) : Chip :=
  (c.setF (F.clkStatSt i) csOff).modSrc i fun _ => ⟨0, 0, false, false, none, false⟩

/-- The record of a failure and its report (R399, R410): source 1 to 10, kind 1 to 5. -/
def Chip.clkFault (c : Chip) (src kind : Nat) : Chip :=
  ((c.setF F.clkFaultSrc src).setF F.clkFaultKind kind).report 0x30 src

/-- The PLLs enter holdover with the outputs forced low (steps 1 and 2 of R400). -/
def Chip.clkSafe (c : Chip) : Chip := ((c.setF F.clkStatSafe 1).setF F.clkStatHold 1).outsUpdate

/-- CLK_REF_FAIL: the reference in use has failed; `ended` names the sources whose windows end with the failure, while the windows of
the others run on, begun before it (R400, R401). -/
def Chip.clkRefFail (c : Chip) (ended : List Nat) : Chip :=
  let c := (c.ev F.clkEvtRefFail).clkSafe.modClk fun k => { k with
    refLost := true, revert := false, target := none
    srcs := k.srcs.zipIdx.map fun p => { p.1 with since := if ended.contains p.2 then some 0 else none } }
  match c.clkOther with
  | some o => if c.clk.fbOff then c else c.clkEnable o
  | none => c

/-- CLK_F10M_FAIL: with F10M = 1 the outputs are forced low and the TIME PLL changes to the reference in use (R404). -/
def Chip.clkF10mFail (c : Chip) : Chip :=
  let c := c.ev F.clkEvtF10mFail
  if c.fb F.orbCtrlF10m then c.clkSafe.modClk fun k => { k with time10 := false, f10Lost := true } else c

/-- CLK_LANE_REF_FAIL: the transmitters of a lane reference go idle, the lanes OFF, and the links leave ACTIVE or UP
(R405). -/
def Chip.clkLaneFail (c : Chip) (i : Nat) : Chip :=
  if i = 2 then
    (c.ev F.clkEvtHlFail).each (List.range 9) fun c n =>
      let c := if c.linkSt n = lkDisabled ∨ c.linkSt n = lkSeeking then c else c.seek n
      c.each (List.range (laneCount n)) fun c m => c.laneOff n m
  else
    let c := c.ev F.clkEvtUlFail
    let st := c.ulSt
    let c := c.each (List.range 9) fun c m => c.laneOff 9 m
    Chip.ulMapShow (if st = ulUp ∨ st = ulSpare then { c with retrain := none }.ulGoDown
      else if st = ulDisabled ∨ st = ulDown then c else c.ulGo ulDown)

/-- A fallback that fails while not in use is OFF for 1 ms (R397, R401). -/
def Chip.clkFallbackOff (c : Chip) (i : Nat) : Chip := (c.clkDisable i).modClk fun k => { k with fbOff := true, target := none }

/-- The source is a reference that is not in use and is the fallback of the straps. -/
def Chip.clkIdleFallback (c : Chip) (i : Nat) : Bool := c.clkFallback == some i && c.clkInUse != i

/-- A source that was GOOD fails (R397 to R399); kind 1 stop, 2 frequency; `ended` as at `clkRefFail`. -/
def Chip.clkFail (c : Chip) (i kind : Nat) (ended : List Nat) : Chip :=
  let c := ((c.setF (F.clkStatSt i) csFailed).modSrc i fun s => { s with pass := 0, failed := true }).clkFault (i + 1) kind
  if 2 ≤ i then if i = 4 then c.clkF10mFail else c.clkLaneFail i
  else if c.clkInUse = i then c.clkRefFail ended
  else
    let c := c.modClk fun k => if k.target = some i then { k with target := none, revert := false } else k
    if c.clkIdleFallback i then (c.ev F.clkEvtFbFail).clkFallbackOff i else c

/-- A source in RETURNING fails without a report (R397); a 10 MHz input that fails is taken only by a new write (R404); the PLLs that
run from a reference enter holdover whatever state it fails in (R400). -/
def Chip.clkFailQuiet (c : Chip) (i : Nat) (ended : List Nat) : Chip :=
  let c := if i = 4 then c.modClk fun k => { k with time10 := false } else c
  if c.clkIdleFallback i then c.clkFallbackOff i
  else
    let c := (c.setF (F.clkStatSt i) csFailed).modSrc i fun s => { s with pass := 0, failed := true }
    if i < 2 ∧ c.clkInUse = i ∧ c.mgmtRuns ∧ !c.clk.refLost then c.clkRefFail ended else c

/-- A reference that the PLLs can change to, while one is lost (step 3 of R400): the other one once GOOD with two passing
windows that began after the failure, or the failed one once it has returned. -/
def Chip.clkUsable (c : Chip) : Option Nat :=
  match c.clkOther.filter fun o => c.clkSt o == csGood && decide (2 ≤ (c.clkSrc o).since.getD 0) with
  | some o => some o
  | none => if c.clkSt c.clkInUse = csGood then some c.clkInUse else none

def Chip.clkTarget (c : Chip) : Chip :=
  if c.clk.refLost ∧ c.clk.target.isNone then c.modClk fun k => { k with target := c.clkUsable } else c

/-- The window of one source ends with a count (R396, R397); `held` where the fault is taken to be AON's, `ended` as at
`clkRefFail`. -/
def Chip.clkWindow (c : Chip) (i n : Nat) (held : Bool) (ended : List Nat) : Chip :=
  let st := c.clkSt i
  if st = csOff ∨ st = csStarting then c
  else
    let ok := clkPass i n && !(c.clkSrc i).stop
    let c := c.setF (F.clkCntCount i) (min n 65535)
    let c := c.modSrc i fun s => { s with
      pass := if ok then s.pass + 1 else 0
      fail := if ok then 0 else s.fail + 1
      stop := false
      high := decide (clkExpected i < n)
      since := match s.since with
        | none => some 0
        | some k => some (if ok then k + 1 else 0) }
    let s := c.clkSrc i
    if st = csReturning then
      if !ok && decide (2 ≤ s.fail) then if held then c else c.clkFailQuiet i ended
      else if ok && decide ((if s.failed then 8 else 2) ≤ s.pass) then c.setF (F.clkStatSt i) csGood
      else c
    else if st = csGood then if !ok && decide (2 ≤ s.fail) && !held then c.clkFail i 2 ended else c
    else if ok then (c.setF (F.clkStatSt i) csReturning).modSrc i fun s => { s with pass := 1, failed := true }
    else c

/-- A PLL output fails: its record, its event and its report (R398, R399); the CORE PLL in standby is none any more. -/
def Chip.clkPllBad (c : Chip) (p kind : Nat) : Chip :=
  (((c.setF (F.clkStatLockP p) 0).ev F.clkEvtPllUnlock).clkFault (p + 6) kind).modClk fun k => { k with
    standby := k.standby.filter (· + 1 != p) }

/-- CLK_MONITOR_WINDOW: windows end with the counts given, and `plls` name the PLLs whose output is found more than 16 %
from nominal (R396, R398). The reference in use comes last: the windows that end with its own began before its failure. -/
def Chip.clkMonitor (c : Chip) (counts : List (Option Nat)) (plls : List Nat) : Chip :=
  let good := (List.range 5).filter fun i => c.clkSt i == csGood
  let bad := good.filter fun i => match counts.getD i none with
    | some n => !clkPass i n && decide (1 ≤ (c.clkSrc i).fail)
    | none => false
  let high := bad.map fun i => decide (clkExpected i < (counts.getD i none).getD 0)
  let held := !good.isEmpty && bad == good && (high.all id || high.all (!·))
  let c := if held then (c.ev F.clkEvtAonSuspect).report 0x31 0 else c
  let ref := c.clkInUse
  let ended := (List.range 5).filter fun i => (counts.getD i none).isSome
  let c := c.each ((List.range 5).filter (· != ref) ++ [ref]) fun c i => match counts.getD i none with
    | some n => c.clkWindow i n held ended
    | none => c
  (c.each (plls.filter (· < 5)) fun c p => c.clkPllBad p 2).clkTarget

/-- CLK_SOURCE_STOP: a source, or from 5 on a PLL output, has had no edge for 16 AON cycles (R396, R398); a stopped output
stops its domain (R29). -/
def Chip.clkStop (c : Chip) (i : Nat) : Chip :=
  if 5 ≤ i then
    if i < 10 then (c.clkPllBad (i - 5) 1).modClk fun k => { k with
        stopped := (i - 5) :: (k.stopped.erase (i - 5)) } else c
  else
    let st := c.clkSt i
    let c := c.modSrc i fun s => { s with pass := 0, fail := 0, stop := true }
    if st = csGood then c.clkFail i 1 [] else if st = csReturning then c.clkFailQuiet i [] else c

/-- CLK_STARTUP_WAIT_END (R395, R397). -/
def Chip.clkWaitEnd (c : Chip) (i : Nat) : Chip :=
  if i < 2 ∧ c.clkSt i = csStarting then
    (c.setF (F.clkStatSt i) csReturning).modSrc i fun _ => ⟨0, 0, false, false, some 0, false⟩
  else c

/-- CLK_FALLBACK_REENABLE: 1 ms after an idle fallback was disabled (R401). -/
def Chip.clkReenable (c : Chip) : Chip :=
  if c.clk.fbOff then
    let c := c.modClk fun k => { k with fbOff := false }
    match c.clkFallback with
    | some i => if c.fb F.clkCfgFbEn || c.clk.refLost then c.clkEnable i else c
    | none => c
  else c

/-- The PLLs take a reference (steps 3 and 4 of R400); a fallback that leaves use goes OFF where FB_EN = 0 (R401). -/
def Chip.clkTake (c : Chip) (i : Nat) : Chip :=
  let c := if c.clkInUse = i then c else (c.setFb F.clkStatRefAct (i != c.clkPrimary)).ev F.clkEvtRefSw
  let c := match c.clkFallback with
    | some o => if i = c.clkPrimary ∧ !c.fb F.clkCfgFbEn then c.clkDisable o else c
    | none => c
  c.modClk fun k => { k with refLost := false, revert := false, target := none }

/-- These PLLs lock; holdover and SAFE end (step 4 of R400). -/
def Chip.pllsLocked (c : Chip) (ps : List Nat) : Chip :=
  let c := c.modClk fun k => { k with f10Lost := false, stopped := k.stopped.filter fun p => !ps.contains p }
  (((c.each ps fun c p => c.setF (F.clkStatLockP p) 1).setF F.clkStatHold 0).setF F.clkStatSafe 0).outsUpdate

/-- The PLLs that the reference feeds: the TIME PLL not while it runs from the 10 MHz input (R393, R404). -/
def Chip.refPlls (c : Chip) : List Nat := if c.clk.time10 then [0, 1, 2, 3] else [0, 1, 2, 3, 4]

/-- CLK_PLL_RELOCK: the PLLs of the reference lock again once a usable one is taken (R400, R402); else the TIME PLL that a failed 10 MHz
input left (R404); else the PLLs that have lost lock (R398). -/
def Chip.clkRelock (c : Chip) : Chip :=
  if c.clk.expired || !c.mgmtRuns then c
  else if c.clk.refLost || c.clk.revert then
    match c.clk.target with
    | none => c
    | some i => (c.clkTake i).pllsLocked c.refPlls
  else c.pllsLocked (if c.clk.f10Lost then [4] else (List.range 5).filter fun p => !c.fb (F.clkStatLockP p))

/-- CLK_HOLDOVER_EXPIRY: 150 ms of holdover stop the reference-fed domains; the restart follows once a reference is usable
(R403, R411). -/
def Chip.clkExpire (c : Chip) : Chip :=
  if c.clk.refLost ∧ !c.clk.expired then
    let c := (c.ev F.clkEvtHoldExp).clkFault (c.clkInUse + 1) 5
    let wait := c.reports.map fun r => (r, c.nowNs)
    let c := ({ c with reports := [], fc := { c.fc with waiting := c.fc.waiting ++ wait } }).clockRestart
    c.modClk fun k => { k with expired := true }
  else c

/-! ### The CORE PLLs and the selectors (R406 to R409, R445) -/

/-- The serving CORE PLL, 0 or 1. -/
def Chip.coreAct (c : Chip) : Nat := c.f F.clkStatCoreAct

/-- A CORE PLL that loses lock twice within 1 h is barred as standby (R445). -/
def Chip.coreLoss (c : Chip) (p : Nat) : Chip :=
  let l := (((c.clk.losses.getD p []).filter fun t => c.upNs < t + 3600000000000) ++ [c.upNs])
  c.modClk fun k => { k with
    losses := k.losses.set p l
    barred := if 2 ≤ l.length ∧ !k.barred.contains p then k.barred ++ [p] else k.barred }

/-- CORE_PLL_SWITCH to the standby, or 0x32 where there is none (R408, R445). -/
def Chip.coreLost (c : Chip) : Chip :=
  match c.clk.standby with
  | some s => ((c.setF F.clkStatCoreAct s).ev F.clkEvtCoreSw).modClk fun k => { k with standby := none }
  | none => c.report 0x32 c.coreAct

/-- CLK_PLL_LOCK_LOSS: a lock detector reports; in reference holdover lock loss is not evaluated (R398, R399, R406). -/
def Chip.clkLockLoss (c : Chip) (p : Nat) : Chip :=
  if c.clk.refLost ∨ c.clk.revert ∨ 5 ≤ p then c
  else
    let c := c.clkPllBad p 3
    if p = 1 ∨ p = 2 then
      let c := c.coreLoss (p - 1)
      if c.coreAct = p - 1 then c.coreLost else c
    else c

/-- CORE_PLL_STANDBY_RESTORE: the relocked CORE PLL has held lock for 1 s (R445). -/
def Chip.coreRestore (c : Chip) : Chip :=
  let p := 1 - c.coreAct
  if c.clk.barred.contains p then c
  else (c.setF (F.clkStatLockP (p + 1)) 1).modClk fun k => { k with standby := some p, stopped := k.stopped.erase (p + 1) }

/-- The CORE selector takes the clock it was to take: the PLL that CORE_ACT names, or the other one where the output of that PLL has
stopped (R409). -/
def Chip.coreForced (c : Chip) : Chip :=
  if c.clk.stopped.contains (c.coreAct + 1) then
    ((c.setF F.clkStatCoreAct (1 - c.coreAct)).ev F.clkEvtCoreSw).modClk fun k => { k with standby := none } else c

/-- The selector of cluster `k` hangs in a step change: the cluster restarts at the new step, and what its engines ran returns to its
queue (R407, R409, log entry 26). -/
def Chip.clusterHang (c : Chip) (k : Nat) : Chip :=
  if c.steady k then c else (((c.ev F.clkEvtMuxHang).clkFault (7 + c.coreAct) 4).clusterRestart k).stepDone k

/-- CLK_SELECTOR_HANG of a domain: 0 MGMT, 1 CORE, 2 MEMC, 3 TIME, 4 to 7 clusters 0 to 3; the selector is forced with the domain in
reset, and the domain restarts on a clock that runs (R409, R411). -/
def Chip.clkHang (c : Chip) (d : Nat) : Chip :=
  if 8 ≤ d then c
  else if 4 ≤ d then c.clusterHang (d - 4)
  else
    let src := match d with
      | 0 => 6
      | 1 => 7 + c.coreAct
      | 2 => 9
      | _ => 10
    let c := ((c.ev F.clkEvtMuxHang).clkFault src 4).modClk fun k => { k with
      stopped := if d = 1 then k.stopped else k.stopped.erase (if d = 0 then 0 else d + 1) }
    match d with
    | 0 =>
      let wait := c.reports.map fun r => (r, c.nowNs)
      ({ c with reports := [], fc := { c.fc with waiting := c.fc.waiting ++ wait } }).clockRestart
    | 1 => c.coreForced.resetCore
    | 2 => c.resetMemc
    | _ => c.resetTime.outsUpdate

/-! ### Register writes (R402, R404, R409, R410) -/

def Chip.clkChecks (c : Chip) (off : Nat) (v : Word) : List Nat :=
  match off with
  | 0x08 => rej (!bitAt v 31 && c.fb F.clkStatRefAct) 0x04
  | 0x0C => rej (bitAt v 31 && !(c.fb F.clkStatRefAct && c.clkSt c.clkPrimary == csGood)) 0x04
      ++ rej (bitAt v 30 && !c.fb F.rstHoldCore) 0x04
  | _ => []

/-- REVERT runs steps 1 to 4 of R400 with step 3 taking the primary (R402). -/
def Chip.clkRevert (c : Chip) : Chip :=
  c.clkSafe.modClk fun k => { k with revert := true, target := some c.clkPrimary }

/-- A forced select of the CORE selector (R409). -/
def Chip.clkForce (c : Chip) (sel : Nat) : Chip :=
  if c.coreAct = sel then c
  else
    let old := c.coreAct
    let c := (c.setF F.clkStatCoreAct sel).ev F.clkEvtCoreSw
    c.modClk fun k => { k with
      standby := if c.fb (F.clkStatLockP (old + 1)) && !k.barred.contains old then some old else none }

def Chip.clkWritten (c : Chip) (off : Nat) (v : Word) : Chip :=
  match off with
  | 0x08 =>
    match c.clkFallback with
    | none => c
    | some i =>
      if bitAt v 31 then if c.clk.fbOff then c else c.clkEnable i
      else if c.clk.refLost then c else c.clkDisable i
  | 0x0C =>
    let c := if bitAt v 31 then c.clkRevert else c
    if bitAt v 30 then c.clkForce (getBits v 29 1) else c
  | _ => c

/-- A write of ORB_CTRL: F10M = 1 after 0 takes a 10 MHz input that is GOOD, or will be for the first time; F10M = 0 leaves it
(R317, R404). -/
def Chip.clkF10mWritten (c : Chip) (old v : Word) : Chip :=
  if !bitAt v 23 then c.modClk fun k => { k with time10 := false }
  else if !bitAt old 23 && (c.clkSt 4 == csGood || (c.clkSt 4 != csFailed && !(c.clkSrc 4).failed)) then c.modClk fun k => { k with time10 := true }
  else c

end Sys2Proof.Machine
end

