-- ==== Sys2Proof/Machine/Pair.lean ====
section
/-! DEFINITION. Pair.lean: service states, the messages of the pair link, joining and the mate's loss
(18_faults_pair.md R450 to R456, R458, R460 to R462, R464). -/

namespace Sys2Proof.Machine

/-- The service states of R451. -/
def svcSingle : Nat := 0
def svcAlone : Nat := 1
def svcPaired : Nat := 2
def svcJoining : Nat := 3
def svcWithdrawn : Nat := 4

def Chip.svc (c : Chip) : Nat := c.f F.plStatSvc

/-- A PAIR packet of one MTYPE that passes the checks of R87; gaps in MSEQ are counted (R452). -/
def Chip.pairUse (c : Chip) (mtype : Nat) (pk : RxPkt) (g : Chip → List Byte → Chip) : Chip :=
  c.rxUse 8 8 pk fun c bs =>
    if !c.pairMode ∨ fieldBE bs 4 1 ≠ mtype then c
    else
      let m := fieldBE bs 6 2
      let gap := match c.pair.mateSeq with
        | some l => (m + 2 * 65536 - l - 1) % 65536
        | none => 0
      g ((c.add F.plMsgLostCount gap).modPair fun p => { p with mateSeq := some m }) bs

/-! ### STATE and the mate's loss (R450, R451, R453, R458) -/

/-- PAIR_STATE_SEND (R453). -/
def Chip.sendState (c : Chip) : Chip :=
  let bits := c.f F.jobStatRun + 2 * c.f F.cmtStatSource
  c.pairSend 0x01 (natBytesBE 1 c.svc ++ natBytesBE 1 bits ++ natBytesBE 1 (c.f F.jobStatProfAct)
    ++ natBytesBE 1 (c.f F.ieStatAcq) ++ natBytesBE 4 (c.f F.plActDigestDigest))

/-- The Comet role of a device whose mate is heard (R450). -/
def Chip.pairRole (c : Chip) : Chip :=
  c.setFb F.cmtStatSource !(c.fb F.plStatMateRun || (c.pairId == 1 && !c.running))

/-- A join that cannot end: the bank is OPEN and the device ALONE again (R451). -/
def Chip.joinFail (c : Chip) : Chip :=
  let c := (c.modPair fun p => { p with joinReq := false, joinAck := false, resend := none }).unlock
  (c.setF F.plStatSvc svcAlone).ev F.plEvtJoinFail

/-- The mate is lost from PAIRED (R329, R451, R462). -/
def Chip.mateLost (c : Chip) : Chip :=
  let c := ((c.setF F.plStatSvc svcAlone).ev F.plEvtMateLost).report 0x81 0
  c.takeOver.sspMateGone

/-- PAIR_STATE_RX (R450, R451). -/
def Chip.stateRx (c : Chip) (bs : List Byte) : Chip :=
  let b9 := fieldBE bs 9 1
  let c := ((c.setF F.plStatMateSvc (fieldBE bs 8 1)).setF F.plStatMateRun (b9 % 2)).setF F.plStatMateSource (b9 / 2 % 2)
  let known := c.pair.seen
  let c := c.modPair fun p => { p with mateDig := fieldBE bs 12 4, seen := true, gone := false }
  let c := if known then c else c.pairRole
  let c := if c.running && c.follows && c.sst == sstDecided && c.fb F.jobArmStop && b9 % 2 == 0
    then c.jobStop (c.f F.cmtNextIdId) else c
  let c := c.modPair fun p => { p with both := p.both && c.running && b9 % 2 == 1 }
  if c.svc ≠ svcAlone ∨ c.linkSt 8 ≠ lkActive then c
  else
    match c.running, b9 % 2 == 1 with
    | false, false => (c.pairRole.setF F.plStatSvc svcPaired).ev F.plEvtPaired
    | false, true => c.setF F.cmtStatSource 0
    | true, true =>
      if c.pair.both then c
      else ((c.modPair fun p => { p with both := true }).ev F.plEvtBothServe).report 0x80 3
    | true, false => c

/-- PAIR_STATE_TIMEOUT: no STATE for 3 ms (R451). -/
def Chip.stateTimeout (c : Chip) : Chip := if c.svc = svcPaired then c.mateLost else c

/-- The pair link has left ACTIVE: a follower takes over, and a JOIN that waits for its answer is not sent again (R329, R451, R454,
R462). -/
def Chip.pairDown (c : Chip) : Chip :=
  let c := (c.modPair fun p => { p with
      both := false, tOut := none, again := [], serveAck := false, joinReq := false, resend := if p.joinReq then none else p.resend }).modCmt fun m =>
    { m with synced := false }
  if c.svc = svcPaired then c.mateLost
  else
    let c := if c.svc = svcJoining then c.joinFail else c
    c.takeOver.sspMateGone

/-- PAIR_WITHDRAW_RX (R329, R451, R458). -/
def Chip.withdrawRx (c : Chip) (tw : Nat) : Chip :=
  let c := c.modPair fun p => { p with gone := true }
  if c.svc = svcPaired then
    let c := ((c.setF F.plStatSvc svcAlone).ev F.plEvtMateWd).report 0x82 0
    let c := if c.follows then (c.setF F.cmtNextIdId (tw + 1)).takeOver else c
    c.sspMateGone
  else (if c.svc = svcJoining then c.joinFail else c).takeOver.sspMateGone

/-! ### Joining (R460, R461) -/

/-- PL_CMD.JOIN: what rejects it with 0x04 (step 1 of R460). -/
def Chip.joinAllowed (c : Chip) : Bool :=
  c.svc == svcAlone && c.sst == sstOpen && !c.running && !c.fb F.cmtStatSource && c.matePresent && c.fb F.plStatMateRun

/-- PAIR_JOIN_CMD: the arming checks run, and JOIN is sent with the digest (R460). -/
def Chip.joinCmd (c : Chip) : Chip × Nat :=
  if !c.joinAllowed then (c, 0x04)
  else
    let (c, _, st) := c.armSteps25
    let c := c.setF F.plStatJoinStatus st
    if st ≠ 0 then (c, st)
    else
      let c := c.setF F.jobDigestDigest c.armDigest.toNat
      let d := c.f F.jobDigestDigest
      let c := c.pairSend 0x0E (natBytesBE 4 d ++ natBytesBE 4 0)
      (c.modPair fun p => { p with joinReq := true, resend := some (0x0E, d) }, 0)

/-- JOIN at the server (step 2 of R460). -/
def Chip.joinRx (c : Chip) (d : Nat) : Chip :=
  let ok := d == c.f F.plActDigestDigest
  let c := c.pairSend 0x0F ((if ok then [0#8] else [1#8]) ++ natBytesBE 7 0)
  if ok then c.modPair fun p => { p with serveAck := true } else c

/-- JOIN_ACK or JOIN_NAK at the joiner, which in JOINING a NAK alone ends (R451, step 3 of R460). -/
def Chip.joinAckRx (c : Chip) (nak : Bool) : Chip :=
  if !c.pair.joinReq then if nak && c.svc == svcJoining then c.joinFail.setF F.plStatJoinStatus 0x0A else c
  else if nak then ((c.modPair fun p => { p with joinReq := false, resend := none }).setF F.plStatJoinStatus 0x0A).ev F.plEvtJoinFail
  else
    let c := c.modPair fun p => { p with joinReq := false, joinAck := true, resend := none }
    let c := (c.setFb F.jobStatSolo false).needSet (c.f F.shpNeedNeedAct) c.stagedNeed
    (((c.setF F.jobStatSst sstArmed).setF F.plStatSvc svcJoining).ev F.jobEvtArmed).capacityNow

/-- The field store entries of a FIELD message are written, and the band's slices may start (steps 5 and 6 of R460); the
first message gives the acquisition state (R461). -/
def Chip.fieldTake (c : Chip) (fb : FBand) (bs : List Byte) : Chip :=
  let b := fb.band.bank
  let c := c.each (List.range (fieldBE bs 14 2)) fun c r =>
    if r < regionCount fb.band.width then
      let at_ := 16 + 8 * r
      c.memPut (fieldAddr c b fb.band.width fb.band.ty r) (natBytesLE 4 (fieldBE bs at_ 4) ++ natBytesLE 4 (fieldBE bs (at_ + 4) 4))
    else c
  let c := if c.pair.joinFirst then
      (c.setAcq b (fieldBE bs 12 1 % 4)).modPair fun p => { p with joinFirst := false }
    else c
  c.modFband fb.band.bseq fun x => { x with joinWait := false }

/-- PAIR_FIELD_RX: a message whose band is still to come is kept. -/
def Chip.fieldRx (c : Chip) (bs : List Byte) : Chip :=
  if c.pair.joinRep.isNone then c
  else
    let t := fieldBE bs 8 4
    match c.ie.bands.find? fun fb => fb.band.first == t && fb.joinWait with
    | some fb => c.fieldTake fb bs
    | none => c.modPair fun p => { p with fields := p.fields ++ [(t, bs)] }

/-- A band has entered the flock: on the joiner, one of T_J's repeat waits for its FIELD message (R460). -/
def Chip.joinBand (c : Chip) (bseq : Nat) : Chip :=
  match c.fband bseq, c.pair.joinRep with
  | some fb, some t =>
    if fb.rep ≠ t then { c with pair := { c.pair with joinRep := none, fields := [] } }
    else
      match c.pair.fields.find? fun p => p.1 == fb.band.first with
      | some (_, bs) => (c.modPair fun p => { p with fields := p.fields.filter fun q => q.1 != fb.band.first }).fieldTake fb bs
      | none => c.modFband bseq fun x => { x with joinWait := true }
  | _, _ => c

/-- FIELD for a band of T_J's repeat, with the entries the loader has read (step 5 of R460). -/
def Chip.sendField (c : Chip) (bseq : Nat) : Chip :=
  match c.fband bseq, c.pair.serveRep with
  | some fb, some t =>
    if fb.rep = t then
      let n := regionCount fb.band.width
      let words := (List.range n).flatMap fun r =>
        let a := fieldAddr c fb.band.bank fb.band.width fb.band.ty r
        natBytesBE 4 (c.memWord a).toNat ++ natBytesBE 4 (c.memWord (a + 4)).toNat
      c.pairSend 0x10 (natBytesBE 4 fb.band.first ++ natBytesBE 1 (c.f F.ieStatAcq) ++ natBytesBE 1 0 ++ natBytesBE 2 n ++ words)
    else c
  | _, _ => c

/-- DSEQ goes to the joiner once every record of bands before T_J is out (step 5 of R460). -/
def Chip.serveDseq (c : Chip) : Chip :=
  match c.pair.serveRep with
  | some t =>
    let before := fun (x : Nat) => decide (sdiff32 x t < 0)
    let wait := c.ie.bands.any (fun fb => !fb.merged && before fb.band.first) || c.stc.webq.any (fun w => before w.trig)
      || c.stc.fresh.any (fun b => before b.first) || (!c.stc.rows.isEmpty && before c.stc.first)
    if c.pair.serveDseq && !wait then
      (c.modPair fun p => { p with serveDseq := false }).pairSend 0x11 (natBytesBE 4 t ++ natBytesBE 4 (c.f F.csDseqDseq))
    else c
  | none => c

/-- PAIR_DSEQ_RX (R461). -/
def Chip.dseqRx (c : Chip) (d : Nat) : Chip :=
  if c.pair.joinDseq then (c.setF F.csDseqDseq d).modPair fun p => { p with joinDseq := false } else c

/-- PAIR_DIGEST_RESEND: DIGEST or JOIN until it is answered (R454). -/
def Chip.pairResend (c : Chip) : Chip :=
  match c.pair.resend with
  | some (t, d) => c.pairSend t (natBytesBE 4 d ++ natBytesBE 4 0)
  | none => c

/-- PAIR_DIGEST_RX: in PAIRING the digests are compared, otherwise the mate's is kept with its time (R225, R230). -/
def Chip.digestRx (c : Chip) (d : Nat) : Chip :=
  if c.sst = sstPairing then c.agree d else c.modJob fun j => { j with mateDig := some (d, c.nowNs) }

/-- JOB_PAIR_TIMEOUT (R225). -/
def Chip.pairTimeout (c : Chip) : Chip := if c.sst = sstPairing then c.pairFail else c

/-! ### Band digests and time (R455, R456) -/

/-- Two digests of one band differ or agree (R455). -/
def Chip.digCompare (c : Chip) (trig own mate : Nat) : Chip :=
  if own = mate then c
  else (((c.ev F.plEvtDiverge).inc F.plDivCntCount).setF F.plLastDivTrig trig).report 0x80 0

/-- The own digest of a compared band goes to the mate (R455). -/
def Chip.digestOut (c : Chip) (trig d : Nat) : Chip :=
  if c.svc ≠ svcPaired then c
  else
    let c := c.pairSend 0x0A (natBytesBE 4 trig ++ natBytesBE 4 d)
    match c.pair.mateDigs.find? fun p => p.1 == trig with
    | some (_, m) => (c.modPair fun p => { p with mateDigs := p.mateDigs.filter fun q => q.1 != trig }).digCompare trig d m
    | none => c.modPair fun p => { p with ownDigs := p.ownDigs ++ [(trig, d)] }

/-- PAIR_BDIG_RX. -/
def Chip.bdigRx (c : Chip) (trig d : Nat) : Chip :=
  if c.svc ≠ svcPaired then c
  else
    match c.pair.ownDigs.find? fun p => p.1 == trig with
    | some (_, o) => (c.modPair fun p => { p with ownDigs := p.ownDigs.filter fun q => q.1 != trig }).digCompare trig o d
    | none => c.modPair fun p => { p with mateDigs := (p.mateDigs ++ [(trig, d)]).drop (p.mateDigs.length + 1 - 64) }

/-- PAIR_BDIG_TIMEOUT: the oldest own digest has waited 10 ms (R455). -/
def Chip.bdigTimeout (c : Chip) : Chip :=
  match c.pair.ownDigs with
  | _ :: rest => (c.modPair fun p => { p with ownDigs := rest }).inc F.plDigMissCount
  | [] => c

/-- The Orbit time, in ns, at the end of the round that carries a packet now (R108, R456). -/
def Chip.roundEndNs (c : Chip) : Nat := (c.roundEnd 8 (c.sendRoundOf 8)).toNat / 80

/-- PAIR_TCHK_TIMER: a request leaves (R456). -/
def Chip.tchkSend (c : Chip) : Chip :=
  if c.pairMode ∧ c.linkSt 8 = lkActive then
    let q := (c.pair.tSeq + 1) % 256
    let t1 := c.roundEndNs
    (c.modPair fun p => { p with tSeq := q, tOut := some (q, t1) }).pairSend 0x0B
      (natBytesBE 1 0 ++ natBytesBE 1 q ++ natBytesBE 2 0 ++ timeBytes t1 ++ natBytesBE 10 0 ++ natBytesBE 10 0 ++ natBytesBE 2 0)
  else c

/-- PAIR_TCHK_RX: a request is answered; an answer gives the offset (R456). -/
def Chip.tchkRx (c : Chip) (bs : List Byte) : Chip :=
  if fieldBE bs 8 1 = 0 then
    c.pairSend 0x0B (natBytesBE 1 1 ++ natBytesBE 1 (fieldBE bs 9 1) ++ natBytesBE 2 0 ++ (bs.drop 12).take 10
      ++ timeBytes c.nowNs ++ timeBytes c.roundEndNs ++ natBytesBE 2 0)
  else
    match c.pair.tOut with
    | none => c
    | some (q, t1) =>
      if fieldBE bs 9 1 ≠ q then c
      else
        let t2 : Int := timeOfBytes ((bs.drop 22).take 10)
        let t3 : Int := timeOfBytes ((bs.drop 32).take 10)
        let off := ((t2 - t1) - ((c.nowNs : Int) - t3)) / 2
        let c := (c.modPair fun p => { p with tOut := none }).setFs F.plTofsOfs (satSigned 32 off)
        if (c.f F.plTcfgTol : Int) < (off.natAbs : Int) then ((c.ev F.plEvtTimeDiff).inc F.plTimeErrCount).report 0x86 0 else c

/-! ### Mate reset requests (R414) -/

/-- RST_MATE.REQ = 1. -/
def Chip.mateReset (c : Chip) : Chip := c.pairSend 0x0D (natBytesBE 8 0)

/-- MATE_RESET_REQUEST_RX. -/
def Chip.mateResetRx (c : Chip) : Chip := if c.fb F.rstCfgMateEn then c.deviceResetBy 5 else c.inc F.rstMateIgnCount

end Sys2Proof.Machine
end

