-- ==== Sys2Proof/Machine/Dma.lean ====
section
/-! DEFINITION. Dma.lean: the channels of the DMA engine, their states, doorbells and event lines
(14_dma.md R359 to R363, R369, R370, R374). What a channel executes is in DmaRun.lean. -/

namespace Sys2Proof.Machine

def dsIdle : Nat := 0
def dsRun : Nat := 1
def dsWait : Nat := 2
def dsPark : Nat := 3
def dsRetry : Nat := 4
def dsStopping : Nat := 5
def dsHalted : Nat := 6

def Chip.ch (c : Chip) (n : Nat) : DmaS := (c.dma[n]?).getD DmaS.reset

def Chip.modCh (c : Chip) (n : Nat) (g : DmaS → DmaS) : Chip := { c with dma := c.dma.modify n g }

def Chip.chSt (c : Chip) (n : Nat) : Nat := c.f (F.dmaChStatState n)

/-- The masks of DMA_STAT (R374). -/
def Chip.dmaShow (c : Chip) : Chip :=
  let mask := fun (g : Nat → Bool) => ((List.range 16).map fun n => if g (c.chSt n) then 2 ^ n else 0).sum
  (c.setF F.dmaStatHalted (mask (· == dsHalted))).setF F.dmaStatBusy (mask fun st => st != dsHalted && st != dsIdle)

def Chip.chGo (c : Chip) (n st : Nat) : Chip := (c.setF (F.dmaChStatState n) st).dmaShow

/-- The settings of the loop levels no LOOP has set (R359). -/
def dmaNoLoops : List (Nat × Int × Int) := List.replicate 3 (1, 0, 0)

/-- The slots of the shared buffer under lease (R373). -/
def Chip.dmaUsed (c : Chip) : Nat := (c.dma.map (·.slots.length)).sum

/-- A channel's slots change, and DMA_SLOTS with them (R373, R374). -/
def Chip.setSlots (c : Chip) (n : Nat) (l : List (List Word)) : Chip :=
  let c := c.modCh n fun d => { d with slots := l }
  c.setF F.dmaSlotsUsed c.dmaUsed

/-- Nothing is executed any more: loop levels at COUNT 1, no instruction, nothing read or outstanding, no slot (R359, R370,
R373). -/
def Chip.chClear (c : Chip) (n : Nat) : Chip := (c.setSlots n []).modCh n fun d => { d with
  cur := none, done := 0, loops := dmaNoLoops, rb := false, tries := 0 }

/-- A halt: 1 BUS, 2 DECODE, 3 ISOLATED; an error is reported (R370). -/
def Chip.chHalt (c : Chip) (n reason : Nat) : Chip :=
  let c := (((c.chClear n).chGo n dsHalted).setF (F.dmaChStatHaltReason n) reason).inc F.dmaHaltCntCount
  if reason = 3 then c else c.report 0x70 n

/-- DMA_ISOLATE (R370, R439): buffered data and leases are lost. -/
def Chip.chIsolate (c : Chip) (n : Nat) : Chip :=
  if c.chSt n = dsIdle then c else (c.eqIsolate n).chHalt n 3

/-- The instruction ends and the next one follows it (R364). -/
def Chip.chNext (c : Chip) (n : Nat) : Chip := (c.modCh n fun d => { d with pc := d.pc + 16, cur := none }).chGo n dsRun

/-- DMA_GO (R370). -/
def Chip.dmaGo (c : Chip) (n : Nat) : Chip :=
  if c.chSt n = dsIdle ∨ c.chSt n = dsHalted then
    let start := c.f (F.dmaChStartHiAddr n) * 2 ^ 32 + c.f (F.dmaChStartLoAddr n) * 16
    let c := (c.chClear n).modCh n fun d => { d with pc := start, last := none }
    let c := ((c.wr (R.dmaChEvseen n) 0#32).wr (R.dmaChErrLo n) 0#32).wr (R.dmaChErrHi n) 0#32
    ((c.wr (R.dmaChErrCode n) 0#32).setF (F.dmaChStatHaltReason n) 0).chGo n dsRun
  else c

/-- DMA_STOP (R370). -/
def Chip.dmaStop (c : Chip) (n : Nat) : Chip :=
  let st := c.chSt n
  if st = dsRun then c.chGo n dsStopping
  else if st = dsIdle ∨ st = dsStopping then c
  else (c.chClear n).chGo n dsIdle

/-- The WAIT a channel executes: MODE and the words it is read from (R356). -/
def Chip.chWaits (c : Chip) (n mode : Nat) : Option (Word × Word × Word × Word) :=
  match (c.ch n).cur with
  | some (w0, w1, w2, w3) =>
    if c.chSt n = dsWait ∧ getBits w3 28 4 = 3 ∧ getBits w2 0 2 = mode then some (w0, w1, w2, w3) else none
  | none => none

/-- DMA_DOORBELL (R362): a PARK takes one ring, a WAIT DOORBELL may be over. -/
def Chip.doorbell (c : Chip) (n k : Nat) : Chip :=
  let cnt := c.f (F.dmaChDbcntDbcnt n) + k
  if c.chSt n = dsPark ∧ 0 < cnt then (c.setF (F.dmaChDbcntDbcnt n) (cnt - 1)).chNext n
  else
    let c := c.setF (F.dmaChDbcntDbcnt n) cnt
    match c.chWaits n 1 with
    | some (w0, _, _, _) => if getBits w0 0 16 ≤ cnt then c.chNext n else c
    | none => c

/-- A pulse on an event line: EVSEEN of every channel that is not IDLE, the WAITs on the line, the check-value units
(R360, R361, R377). -/
def Chip.pulse (c : Chip) (line : Nat) : Chip :=
  let c := c.each (List.range 16) fun c n =>
    if c.chSt n = dsIdle then c
    else
      let c := c.setF ⟨R.dmaChEvseen n, line, 1⟩ 1
      match c.chWaits n 0 with
      | some (w0, _, _, _) =>
        if getBits w0 0 5 ≠ line then c
        else (if bitAt w0 8 then c.setF ⟨R.dmaChEvseen n, line, 1⟩ 0 else c).chNext n
      | none => c
  c.cvuLinePulse line

/-! ### Register writes -/

def Chip.dmaChecks (c : Chip) (off : Nat) (v : Word) : List Nat :=
  if 0x100 ≤ off ∧ off < 0x500 then
    let n := (off - 0x100) / 0x40
    let quiet := c.chSt n == dsIdle || c.chSt n == dsHalted
    match (off - 0x100) % 0x40 with
    | 0x00 => rej (bitAt v 31 && !quiet) 0x04
    | 0x04 => rej (!quiet) 0x04
    | 0x1C => rej (decide (2 ^ 24 ≤ c.f (F.dmaChDbcntDbcnt n) + getBits v 0 16)) 0x03
    | _ => []
  else []

def Chip.dmaWritten (c : Chip) (off : Nat) (v : Word) : Chip :=
  if 0x100 ≤ off ∧ off < 0x500 then
    let n := (off - 0x100) / 0x40
    match (off - 0x100) % 0x40 with
    | 0x00 =>
      let c := if bitAt v 31 then c.dmaGo n else c
      let c := if bitAt v 30 then c.dmaStop n else c
      if bitAt v 29 then c.setF (F.dmaChDbcntDbcnt n) 0 else c
    | 0x1C => c.doorbell n (getBits v 0 16)
    | _ => c
  else c

end Sys2Proof.Machine
end

