-- ==== Sys2Proof/Machine/Fc.lean ====
section
/-! DEFINITION. Fc.lean: the fault controller: levels, counting, escalation, repair, isolation, withdrawal and return
(18_faults_pair.md R432 to R438, R440, R446, R448, R457, R459, R463). -/

namespace Sys2Proof.Machine

/-- The entry level of a source and its level when lasting, none for a code absent from R432. -/
def srcLevels (src : Nat) (low : Bool) : Option (Nat × Option Nat) :=
  match src with
  | 0x01 | 0x02 | 0x03 => some (0, some 2)
  | 0x04 => some (1, some 3)
  | 0x05 | 0x10 | 0x20 | 0x60 | 0x84 => some (0, some 1)
  | 0x11 => some (1, some 2)
  | 0x12 | 0x32 => some (4, none)
  | 0x13 => some (if low then 0 else 1, some 1)
  | 0x21 | 0x23 => some (2, none)
  | 0x42 => some (5, none)
  | 0x06 | 0x07 | 0x08 | 0x14 | 0x22 | 0x30 | 0x31 | 0x40 | 0x41 | 0x50 | 0x51 | 0x52 | 0x53 | 0x70
  | 0x80 | 0x81 | 0x82 | 0x83 | 0x85 | 0x86 => some (1, none)
  | _ => none

/-- The repair a source names (R433, R441); none where it names none. -/
def Chip.repairOf (c : Chip) (src inst : Nat) : Option (Chip × Bool) :=
  let n := inst / 256
  let m := inst % 256
  let reason := match src with
    | 0x01 => 1
    | 0x02 => 4
    | _ => 5
  match src with
  | 0x01 | 0x02 | 0x03 =>
    if n < 9 then some (c.swapRepair n m reason) else if n = 9 then some (c.ulRepair m reason) else some (c, false)
  | 0x11 => some (if inst < 6 then c.mcRowRepair inst else (c, false))
  | 0x21 | 0x23 => some (if inst < 68 then c.substitute inst else (c, false))
  | _ => none

/-- The part that isolation acts on (R434). -/
inductive FcPart where
  | port (n : Nat)
  | pairLink
  | withdraw
  | engine (e : Nat)
  | channel (n : Nat)
  | nothing
  deriving DecidableEq, Repr

/-- The part of a LINK source by its block: a head port, the pair link or the uplink. -/
def lanePart (n : Nat) : FcPart := if n < 8 then .port n else if n = 8 then .pairLink else if n = 9 then .withdraw else .nothing

def isolated (src inst : Nat) : FcPart :=
  match src with
  | 0x01 | 0x02 | 0x03 | 0x06 => lanePart (inst / 256)
  | 0x04 | 0x05 => lanePart inst
  | 0x07 | 0x08 | 0x11 | 0x12 | 0x13 => .withdraw
  | 0x10 => if inst < 8 then .port inst else .nothing
  | 0x20 | 0x21 | 0x22 | 0x23 => if inst < 68 then .engine inst else .nothing
  | 0x70 => if inst < 16 then .channel inst else .nothing
  | _ => .nothing

/-- Isolation of a part at L3 (R434). -/
def Chip.isolatePart (c : Chip) (p : FcPart) : Chip :=
  match p with
  | .port n => (if c.running then c.portOffStart n else c).linkIsolate n
  | .pairLink => c.linkIsolate 8
  | .engine e => if c.engState e = engActive ∨ c.engState e = engTesting then c.isolateEngine e else c
  | .channel n => c.chIsolate n
  | _ => c

/-! ### Withdrawal (R457) -/

/-- Lines in flight are discarded (step 5 of R457). -/
def Chip.dropLines (c : Chip) : Chip :=
  let c := c.each (List.range 8) fun c n => c.modFe n fun s => { s with fifo := [], exp := [], closed := [] }
  { c with stc := { c.stc with lines := [], webq := [], rows := [], metas := [], bankmix := false, cutAt := none, lostAt := none } }

/-- L5: FC_FIRST is kept and the device is reset (R414, R433). -/
def Chip.levelFive (c : Chip) : Chip := (c.wr R.rstLastFault (c.rd R.fcFirst)).deviceResetBy 3

/-- WITHDRAW_TRIG_ROUND_LEFT: steps 4 and 5, and the reset of an L5 report. A bank in PAIRING stays in it, with its need (R243,
R457). -/
def Chip.withdrawEnd (c : Chip) : Chip :=
  match c.fc.tw with
  | none => c
  | some _ =>
    let c := (c.each (List.range 8) Chip.linkIsolate).dropLines
    let c := if c.sst = sstArmed ∨ c.sst = sstDecided then c.unlock else c
    let c := (c.setF F.jobStatRun 0).setF F.jobPortOffPort 0 |>.setF F.jobProdOffProd 0
    let c := c.modJob fun j => { j with
      tOff := List.replicate 8 none, offDone := [], ts := none, verdict := none, waiting := none, prodSent := none }
    let c := (c.modCmt fun m => { m with pnext := none, due := none, ownDue := [], fids := [] }).syncExpected.setNeed 0 (if c.sst = sstPairing then c.f F.shpNeedNeedStg else 0)
    let c := c.modPair fun p => { p with joinReq := false, joinAck := false, serveAck := false, resend := none }
    let l5 := c.fc.l5
    let c := c.modFc fun f => { f with tw := none, l5 := false }
    if l5 then c.levelFive else c

/-- Steps 1 and 2 of R457; steps 4 and 5 follow at once where TIME or the head transmitters cannot run, or for a thermal
trip. -/
def Chip.withdraw (c : Chip) (src : Nat) (trip : Bool) : Chip :=
  if c.fb F.fcStatWithdrawn then c
  else
    let tw := c.newestTrig
    let c := ((c.setF F.fcStatWithdrawn 1).setF F.plStatSvc svcWithdrawn).outsWithdraw
    let c := c.pairSend 0x0C (natBytesBE 4 tw ++ natBytesBE 1 src ++ natBytesBE 3 0)
    let c := c.modFc fun f => { f with tw := some tw }
    if trip || !c.domainRuns 2 || !c.domainRuns 4 then c.withdrawEnd else c

/-- The round that carries the TRIG of T_W has left: no TRIG waits any more (R110, R457). -/
def Chip.trigsGone (c : Chip) : Bool := c.fc.tw.isSome && (List.range 8).all fun n => (c.link n).trigs.isEmpty

/-- WITHDRAW_TRIG_ROUND_LEFT: steps 4 and 5 of R457. -/
def Chip.withdrawStep (c : Chip) : Chip := if c.trigsGone then c.withdrawEnd else c

/-! ### Reports (R432 to R437, R440, R446) -/

/-- A lasting 0x13 records its row (R446, R447). -/
def Chip.recordRow (c : Chip) (row : Nat) : Chip :=
  let w := BitVec.ofNat 32 (2 ^ 31 + row % 2 ^ 23)
  let addrs := (List.range 0x200).map (0x1600 + ·)
  if addrs.any fun a => c.optWord a == w then c
  else match addrs.find? fun a => !bitAt (c.optWord a) 31 with
    | some a => c.setOptWord a w
    | none => c

/-- The count of a source and instance with a report at `t`: the device, and whether it is lasting (R435). -/
def Chip.fcCount (c : Chip) (src inst t : Nat) : Chip × Bool :=
  let mine := fun (p : Nat × Nat × List Nat) => p.1 == src && p.2.1 == inst
  let old := ((c.fc.times.find? mine).map (·.2.2)).getD []
  let l := (old.filter fun x => t ≤ x + 1000000 * c.f F.fcTransWMs) ++ [t]
  let lasting := decide (c.f F.fcTransN ≤ l.length)
  let rest := c.fc.times.filter fun p => !mine p
  (c.modFc fun f => { f with times := if lasting then rest else rest ++ [(src, inst, l)] }, lasting)

/-- FC_LAST, and FC_FIRST when it is free (R433, R436). -/
def Chip.fcLog (c : Chip) (src inst level t : Nat) : Chip :=
  let w := BitVec.ofNat 32 (2 ^ 31 + level * 2 ^ 28 + src / 16 * 2 ^ 24 + src * 2 ^ 16 + inst % 2 ^ 16)
  let c := (c.inc (F.fcCntCount (src / 16))).wr R.fcLast w
  if c.fb F.fcFirstValid then c.setF F.fcStatOvf 1
  else ((c.wr R.fcFirst w).setF F.fcFirstNsNs (t % 1000000000)).setF F.fcFirstSloSLo (t / 1000000000)

/-- The level a report takes before repair and isolation are tried: entry or lasting, then escalation (R435, R437, R444). -/
def Chip.fcLevel (c : Chip) (src inst own : Nat) : Nat :=
  let k := src / 16
  if src = 0x23 ∧ (c.spareOf (inst / 17)).isNone then 1
  else if own = 0 ∨ !c.fb (F.fcPendC k) ∨ c.fc.holders.getD k none = some (src, inst) then own
  else max own (min (c.f (F.fcEsccapC k)) (c.f (F.fcLvlC k) + 1))

/-- FAULT_REPORT: one report, raised at `t`, is counted, repaired, logged and reacted to (R433). -/
def Chip.fcReport (c : Chip) (r : Report) (t : Nat) : Chip :=
  match srcLevels r.src r.low with
  | none => c
  | some (entry, last) =>
    let (c, lasting) := match last with
      | some _ => c.fcCount r.src r.inst t
      | none => (c, false)
    let own := if lasting then last.getD entry else entry
    let c := if lasting && r.src == 0x13 then c.recordRow r.inst else c
    let lv := c.fcLevel r.src r.inst own
    let (c, lv) := if lv ≠ 2 then (c, lv) else
      match c.repairOf r.src r.inst with
      | none => (c, 2)
      | some (c, true) => (c, 2)
      | some (c, false) => (c, 3)
    let part := isolated r.src r.inst
    let lv := if lv = 3 ∧ part = .withdraw then 4 else lv
    let c := c.fcLog r.src r.inst lv t
    let k := r.src / 16
    let c := if lv = 0 then c else
      ((c.setF (F.fcPendC k) 1).setF (F.fcLvlC k) lv).modFc fun f => { f with holders := f.holders.set k (some (r.src, r.inst)) }
    match lv with
    | 3 => c.isolatePart part
    | 4 => c.withdraw r.src false
    | 5 =>
      let c := if r.src = 0x42 then c else c.modFc fun f => { f with l5 := true }
      if c.fb F.fcStatWithdrawn then if c.fc.tw.isSome && r.src != 0x42 then c else c.levelFive
      else
        let c := c.withdraw r.src (r.src == 0x42)
        if r.src = 0x42 then c.levelFive else c
    | _ => c

/-- The reports raised so far reach the FC in order, those that waited for MGMT first (R399, R432). -/
def Chip.fcSettle : Nat → Chip → Chip
  | 0, c => c
  | k + 1, c =>
    if !c.mgmtRuns then
      let now := c.nowNs
      { c with reports := [], fc := { c.fc with waiting := c.fc.waiting ++ c.reports.map fun r => (r, now) } }
    else
      match c.fc.waiting, c.reports with
      | (r, t) :: rest, _ => Chip.fcSettle k ((c.modFc fun f => { f with waiting := rest }).fcReport r t)
      | [], r :: rest => Chip.fcSettle k ({ c with reports := rest }.fcReport r c.nowNs)
      | [], [] => c

/-! ### Register writes (R436, R438, R444, R459, R463) -/

def Chip.fcChecks (c : Chip) (off : Nat) (v : Word) : List Nat :=
  match off with
  | 0x08 => rej (bitAt v 30 && !(c.fb F.fcStatWithdrawn && c.f F.fcPendPend == 0)) 0x04
  | 0x24 => rej ((List.range 9).any fun k => getBits v (3 * k) 3 == 0 || decide (5 < getBits v (3 * k) 3)) 0x03
  | 0x2C => rej (bitAt v 31 && (srcLevels (getBits v 16 8) false).isNone) 0x03
  | _ => []

/-- RESUME returns a withdrawn device to service (R451, R459). -/
def Chip.fcResume (c : Chip) : Chip :=
  ((c.setF F.fcStatWithdrawn 0).setF F.plStatSvc (if c.pairMode then svcAlone else svcSingle)).outsUpdate

def Chip.fcWritten (c : Chip) (off : Nat) (v : Word) : Chip :=
  match off with
  | 0x04 => c.each ((List.range 9).filter fun k => bitAt v k) fun c k =>
      (c.setF (F.fcLvlC k) 0).modFc fun f => { f with holders := f.holders.set k none }
  | 0x08 =>
    let c := if bitAt v 31 then (c.setF F.fcFirstValid 0).setF F.fcStatOvf 0 else c
    let c := if bitAt v 30 then c.fcResume else c
    if bitAt v 29 then c.withdraw 0 false else c
  | 0x28 => c.modShp fun s => { s with worn := [] }
  | 0x2C => if bitAt v 31 then c.report (getBits v 16 8) (getBits v 0 16) else c
  | _ => c

end Sys2Proof.Machine
end

