-- ==== Sys2Proof/Machine/Hss.lean ====
section
/-! DEFINITION. Hss.lean: HSS and LMS signatures under RFC 8554, which the spec names (R350, R423, R427, R428,
17_reset_boot_security.md): LMS with SHA-256, m = 32, and LM-OTS with n = 32. -/

namespace Sys2Proof.Machine

/-- An LM-OTS parameter set: type code, Winternitz width, number of chains and checksum shift. -/
structure OtsParam where
  code : Nat
  w    : Nat
  p    : Nat
  ls   : Nat
  deriving DecidableEq, Repr

/-- The LM-OTS parameter sets of R423: n = 32 and w = 1, 2, 4 or 8; any other type code is none. -/
def otsParam (code : Nat) : Option OtsParam :=
  match code with
  | 1 => some ⟨1, 1, 265, 7⟩
  | 2 => some ⟨2, 2, 133, 6⟩
  | 3 => some ⟨3, 4, 67, 4⟩
  | 4 => some ⟨4, 8, 34, 0⟩
  | _ => none

/-- The tree heights of the LMS type codes of R423; any other type code is none. -/
def lmsHeight (code : Nat) : Option Nat := if 5 ≤ code ∧ code ≤ 9 then some (5 * (code - 4)) else none

/-- The i-th digit of `w` bits of a string, most significant first. -/
def digitOf (s : List Byte) (w i : Nat) : Nat := (s.getD (i * w / 8) 0#8).toNat / 2 ^ (8 - (w * (i % (8 / w)) + w)) % 2 ^ w

/-- The digits that sign a hash: those of the hash and of its checksum. -/
def otsDigits (o : OtsParam) (q : List Byte) : List Nat :=
  let top := 2 ^ o.w - 1
  let sum := ((List.range (256 / o.w)).map fun i => top - digitOf q o.w i).sum
  (List.range o.p).map (digitOf (q ++ natBytesBE 2 (sum * 2 ^ o.ls)) o.w)

/-- `n` steps of chain `i` of leaf `q`, from step `j` on. -/
def otsChain (id : List Byte) (q i : Nat) : Nat → Nat → List Byte → List Byte
  | 0, _, x => x
  | n + 1, j, x => otsChain id q i n (j + 1) (sha256 (id ++ natBytesBE 4 q ++ natBytesBE 2 i ++ natBytesBE 1 j ++ x))

/-- The hash of a message that a leaf signs, with the randomizer. -/
def otsHash (id : List Byte) (q : Nat) (rand msg : List Byte) : List Byte :=
  sha256 (id ++ natBytesBE 4 q ++ [0x81#8, 0x81#8] ++ rand ++ msg)

/-- The public key of a leaf from the ends of its chains. -/
def otsPublic (id : List Byte) (q : Nat) (ends : List (List Byte)) : List Byte :=
  sha256 (id ++ natBytesBE 4 q ++ [0x80#8, 0x80#8] ++ ends.flatten)

/-- The tree node over a leaf's public key. -/
def leafNode (id : List Byte) (node : Nat) (key : List Byte) : List Byte :=
  sha256 (id ++ natBytesBE 4 node ++ [0x82#8, 0x82#8] ++ key)

/-- The tree node over its two children. -/
def innerNode (id : List Byte) (node : Nat) (l r : List Byte) : List Byte :=
  sha256 (id ++ natBytesBE 4 node ++ [0x83#8, 0x83#8] ++ l ++ r)

/-- The `k`-th group of 32 bytes. -/
def group32 (bs : List Byte) (k : Nat) : List Byte := (bs.drop (32 * k)).take 32

/-- The root that a leaf's node reaches along a path of `h` siblings. -/
def rootOf (id : List Byte) : List (List Byte) → Nat → List Byte → List Byte
  | [], _, x => x
  | s :: rest, node, x =>
    rootOf id rest (node / 2) (if node % 2 = 1 then innerNode id (node / 2) s x else innerNode id (node / 2) x s)

/-- The length of an LMS signature: leaf number, LM-OTS signature, type code and path. -/
def lmsLength (o : OtsParam) (h : Nat) : Nat := 12 + 32 * (1 + o.p + h)

/-- The parameters that an LMS public key of 56 bytes names. -/
def keyParams (key : List Byte) : Option (OtsParam × Nat) :=
  if key.length ≠ 56 then none
  else match otsParam (fieldBE key 4 4), lmsHeight (fieldBE key 0 4) with
    | some o, some h => some (o, h)
    | _, _ => none

/-- An LMS signature at the start of `sig` verifies under a public key: what follows it (RFC 8554, section 5.4.2). -/
def lmsTake (key msg sig : List Byte) : Option (List Byte) :=
  match keyParams key with
  | none => none
  | some (o, h) =>
    let q := fieldBE sig 0 4
    let id := (key.drop 8).take 16
    let chains := sig.drop 40
    let tail := sig.drop (40 + 32 * o.p)
    if sig.length < lmsLength o h ∨ fieldBE sig 4 4 ≠ o.code ∨ fieldBE tail 0 4 ≠ fieldBE key 0 4 ∨ 2 ^ h ≤ q then none
    else
      let digits := otsDigits o (otsHash id q ((sig.drop 8).take 32) msg)
      let ends := digits.zipIdx.map fun d => otsChain id q d.2 (2 ^ o.w - 1 - d.1) d.1 (group32 chains d.2)
      let path := (List.range h).map (group32 (tail.drop 4))
      if rootOf id path (2 ^ h + q) (leafNode id (2 ^ h + q) (otsPublic id q ends)) = key.drop 24 then
        some (sig.drop (lmsLength o h))
      else none

/-- The levels of an HSS signature, from the one whose public key is given: each signs the public key of the next, the last one
the message (RFC 8554, section 6.3). -/
def hssTake : Nat → List Byte → List Byte → List Byte → Option (List Byte)
  | 0, key, msg, sig => lmsTake key msg sig
  | n + 1, key, msg, sig =>
    match keyParams key with
    | none => none
    | some (o, h) =>
      let next := (sig.drop (lmsLength o h)).take 56
      match lmsTake key next sig with
      | some rest => hssTake n next msg (rest.drop 56)
      | none => none

/-- An HSS signature over the message stands at the start of `sig`: what follows it (R423, R427). The public key has 60 bytes and
names 1 to 3 levels. -/
def hssRest (key msg sig : List Byte) : Option (List Byte) :=
  let levels := fieldBE key 0 4
  if key.length ≠ 60 ∨ levels = 0 ∨ 3 < levels ∨ sig.length < 4 ∨ fieldBE sig 0 4 + 1 ≠ levels then none
  else hssTake (levels - 1) (key.drop 4) msg (sig.drop 4)

/-- The bytes are an HSS signature over the message that verifies under the public key (R350, R423). -/
def hssVerify (key msg sig : List Byte) : Bool := hssRest key msg sig == some []

/-- The bytes begin with one (R427). -/
def hssHeld (key msg sig : List Byte) : Bool := (hssRest key msg sig).isSome

/-! ### The attestation key (R428)

Two levels, LMS H20 over LMS H10, each with LM-OTS w = 4. Its secrets are the private key state that R426 hides: they are constants
of Config with no body (log entry 17). A tree is named by its level, 0 upper and 1 lower, and its number. -/

/-- The LM-OTS parameters of the attestation key. -/
def attOts : OtsParam := ⟨3, 4, 67, 4⟩

/-- A string cut or filled to `n` bytes. -/
def fitBytes (n : Nat) (bs : List Byte) : List Byte := bs.take n ++ List.replicate (n - bs.length) 0#8

def attId (level tree : Nat) : List Byte := fitBytes 16 (Config.attTreeId level tree)

def attSecret (level tree leaf i : Nat) : List Byte := fitBytes 32 (Config.attOtsKey level tree leaf i)

/-- The node of a tree of height `h`, `k` levels above its leaves. -/
def attNode (level tree h : Nat) : Nat → Nat → List Byte
  | 0, node =>
    let id := attId level tree
    let q := node - 2 ^ h
    leafNode id node (otsPublic id q ((List.range 67).map fun i => otsChain id q i 15 0 (attSecret level tree q i)))
  | k + 1, node => innerNode (attId level tree) node (attNode level tree h k (2 * node)) (attNode level tree h k (2 * node + 1))

/-- The LMS public key of a tree; the type code is that of its height. -/
def attPublic (level tree h : Nat) : List Byte :=
  natBytesBE 4 (h / 5 + 4) ++ natBytesBE 4 3 ++ attId level tree ++ attNode level tree h h 1

/-- The LMS signature of leaf `q` of a tree over a message. -/
def attSign (level tree h q : Nat) (msg : List Byte) : List Byte :=
  let id := attId level tree
  let rand := fitBytes 32 (Config.attRandom level tree q)
  let digits := otsDigits attOts (otsHash id q rand msg)
  natBytesBE 4 q ++ natBytesBE 4 3 ++ rand
    ++ (digits.zipIdx.flatMap fun d => otsChain id q d.2 d.1 0 (attSecret level tree q d.2))
    ++ natBytesBE 4 (h / 5 + 4)
    ++ (List.range h).flatMap fun k =>
        let node := (2 ^ h + q) / 2 ^ k
        attNode level tree h k (if node % 2 = 1 then node - 1 else node + 1)

/-- The HSS signature with index `q`: the upper tree signs at q >> 10 the public key of the lower tree, which signs the message at
q mod 1,024 (R428). -/
def hssSign (q : Nat) (msg : List Byte) : List Byte :=
  let tree := q / 1024
  let lower := attPublic 1 tree 10
  natBytesBE 4 1 ++ attSign 0 0 20 tree lower ++ lower ++ attSign 1 tree 10 (q % 1024) msg

end Sys2Proof.Machine
end

