-- ==== Sys2Proof/Machine/Sec.lean ====
section
/-! DEFINITION. Sec.lean: the option store as the host reaches it, the security commands and the check of a configuration
image (R421 to R429, 17_reset_boot_security.md). -/

namespace Sys2Proof.Machine

/-! ### Option store (R425, R426) -/

/-- Words the host may write: the defaults but the boot count, and the owner data (R426). -/
def optWritable (w : Nat) : Bool :=
  (decide (0x1400 ≤ w) && decide (w < 0x1500) && w != optBootCnt) || (decide (0x4000 ≤ w) && decide (w < 0xF000))

/-- Words a read returns as 0: the hidden region and the spare sectors, which have no access (R426). -/
def optHidden (w : Nat) : Bool := (decide (0x1000 ≤ w) && decide (w < 0x1400)) || decide (0xF000 ≤ w)

/-- OPT_ADDR increments after each access of OPT_DATA. -/
def Chip.optNext (c : Chip) : Chip := c.setF F.optAddrWord ((c.f F.optAddrWord + 1) % 65536)

/-- A read of OPT_DATA; a word whose write still runs reads either its old or its new value (R425). -/
def Chip.optRead (c : Chip) : Chip × Word :=
  let i := c.f F.optAddrWord
  if optHidden i then (c.optNext, 0#32)
  else match (c.boot.optw.filter fun w => w.word == i).getLast? with
    | some w =>
      let (k, c') := c.fresh 15
      (c'.optNext, if k % 2 = 1 then w.value else if w.own then w.old else c.optWord i)
    | none => (c.optNext, c.optWord i)

/-- A performed write of OPT_DATA: a pulse of 200 ns and its read-back are due (R425). -/
def Chip.optWrite (c : Chip) (v : Word) : Chip :=
  let c' := c.modBoot fun b => { b with optw := b.optw ++ [⟨c.f F.optAddrWord, v, 0#32, false⟩] }
  (c'.setF F.optStatBusy 1).optNext

/-- A write of the device's own leaves its word at the old value, unless a later one of that word has followed. -/
def Chip.optRevert (c : Chip) (w : OptW) : Chip :=
  if w.own && !c.boot.optw.any (fun v => v.own && v.word == w.word) then { c with opt := sput optDefault c.opt w.word w.old } else c

/-- The pulse and read-back of the oldest write end; a word that fails moves to a spare sector, and
without one reads either its old or its new value (R425). -/
def Chip.optPulseDone (c : Chip) (ok : Bool) : Chip :=
  match c.boot.optw with
  | [] => c
  | w :: rest =>
    let c := (c.modBoot fun b => { b with optw := rest }).setF F.optStatBusy (if rest.isEmpty then 0 else 1)
    let landed := if w.own then c else c.progWord w.word w.value
    let c :=
      if ok then landed
      else if c.boot.spares < 16 then (landed.modBoot fun b => { b with spares := b.spares + 1 }).ev F.optEvtSectorSwap
      else
        let (k, c') := c.fresh 15
        ((if k % 2 = 1 then { landed with freeCtr := c'.freeCtr } else c'.optRevert w).ev F.optEvtWriteFail).report 0x14 0
    c.setF F.optStatSpares c.boot.spares

/-! ### Keys and commands (R427, R428, R429) -/

/-- The 60 bytes of the owner key (R427, log entry 22). -/
def Chip.ownerKey (c : Chip) : List Byte :=
  ((List.range 15).flatMap fun k => wordBytesLE (c.optWord (optOwnerKey + k))).take 60

/-- The serial number, most significant byte first, as in the token (R350). -/
def Chip.serialBytes (c : Chip) : List Byte :=
  natBytesBE 4 (c.rd R.glbSerialHi).toNat ++ natBytesBE 4 (c.rd R.glbSerialLo).toNat

/-- Bytes of SEC_BUF. -/
def Chip.secBuf (c : Chip) (lo n : Nat) : List Byte :=
  (((List.range 2048).flatMap fun k => wordBytesLE (c.rd (R.secBuf k))).drop lo).take n

/-- Storing bytes into SEC_BUF from its start, whole words. -/
def Chip.setSecBuf (c : Chip) (bs : List Byte) : Chip :=
  c.each (List.range (bs.length / 4)) fun c k => c.wr (R.secBuf k) (BitVec.ofNat 32 (natOfLE ((bs.drop (4 * k)).take 4)))

/-- OWN: the key in SEC_BUF is installed when the current owner key verifies the signature over it and the serial number;
otherwise 0x07 (R427). -/
def Chip.ownKey (c : Chip) : Chip × Nat :=
  let key := c.secBuf 0 60
  if hssHeld c.ownerKey (key ++ c.serialBytes) (c.secBuf 64 8128) then
    let c := c.each (List.range 15) fun c k =>
      c.setOptWord (optOwnerKey + k) (BitVec.ofNat 32 (natOfLE ((key.drop (4 * k)).take 4)))
    (((c.setOptWord optKeySet 1#32).ev F.secEvtOwnDone).optShow, 0)
  else (c, 0x07)

/-- SVN_COMMIT (R427). -/
def Chip.svnCommit (c : Chip) : Chip := (c.setOptWord optSvnMin (c.rd R.secSvnRun)).optShow

/-- ATTEST, steps 1 and 2: the index word is durable before anything is signed (R428). -/
def Chip.attest (c : Chip) : Chip :=
  let q := (c.optWord optAttIdx).toNat
  let c := ((c.setOptWord optAttIdx (BitVec.ofNat 32 (q + 1))).modBoot fun b => { b with att := some q }).optShow
  c.setF F.secStatAttBusy 1

/-- Bytes 0 to 95 of the attestation report with index `q` (R429). -/
def Chip.attReport (c : Chip) (q : Nat) : List Byte :=
  natBytesLE 4 1 ++ natBytesLE 4 5492 ++ wordBytesLE (c.rd R.glbSerialLo) ++ wordBytesLE (c.rd R.glbSerialHi)
    ++ ((List.range 8).flatMap fun i => wordBytesLE (c.rd (R.secChal i)))
    ++ wordBytesLE (c.rd R.scpEpoch) ++ wordBytesLE (c.rd R.secSvnRun)
    ++ ((List.range 8).flatMap fun i => wordBytesLE (c.rd (R.secDigest i)))
    ++ natBytesLE 4 q ++ wordBytesLE (c.rd R.rstCause)

/-- The index word of the attestation in progress is durable: its write has ended, and it holds the next index (R428). -/
def Chip.attDurable (c : Chip) (q : Nat) : Bool :=
  !c.boot.optw.any (·.word == optAttIdx) && (c.optWord optAttIdx).toNat == q + 1

/-- ATTEST, steps 3 and 4: once the index is durable, the signed report stands in SEC_BUF (R428). -/
def Chip.attestDone (c : Chip) : Chip :=
  match c.boot.att with
  | none => c
  | some q =>
    if !c.attDurable q then c
    else
    let head := c.attReport q
    let c := c.setSecBuf (head ++ fitBytes 5396 (hssSign q head))
    ((c.modBoot fun b => { b with att := none }).setF F.secStatAttBusy 0).ev F.secEvtAttDone

/-- The rejecting rules of a SEC_CMD but OWN's own (R428, R431). -/
def Chip.secChecks (c : Chip) (v : Word) : List Nat :=
  match getBits v 28 4 with
  | 1 => rej (decide (2 ^ 30 ≤ (c.optWord optAttIdx).toNat)) 0x04 ++ rej c.boot.att.isSome 0x05
  | 2 | 3 => []
  | _ => [0x03]

def Chip.secCmd (c : Chip) (v : Word) : Chip × Nat :=
  match getBits v 28 4 with
  | 1 => (c.attest, 0)
  | 2 => (c.svnCommit, 0)
  | 3 => c.ownKey
  | _ => (c, 0)

/-! ### Configuration image (R420 to R423) -/

/-- One section table entry whose fields lie in their ranges (R422). -/
def imgSectOk (img : List Byte) (k : Nat) : Bool :=
  let o := 64 + 56 * k
  let typ := imgField img o 2
  let flags := imgField img (o + 2) 2
  let idx := imgField img (o + 4) 4
  let len := imgField img (o + 16) 8
  decide (1 ≤ typ) && decide (typ ≤ 5) && decide (flags < 2) && match typ with
    | 1 => flags == 1 && len % 12 == 0
    | 2 => flags == 1 && len % 8 == 0 && decide (idx < 8)
    | 3 => len % 12 == 0 && decide (idx < 32)
    | 4 => decide (idx % 256 < 32) && decide (idx / 256 < 8) && len == 262144
    | _ => decide (idx < 32) && len == 2048

/-- Header and section table lie in their ranges, and the boot part in its 4 MiB (R421, R422). -/
def imgHeaderOk (img : List Byte) : Bool :=
  let n := imgField img 6 2
  decide (64 ≤ img.length) && imgField img 0 4 == 0x38385753 && imgField img 4 2 == 1 && decide (1 ≤ n) && decide (n ≤ 256)
    && imgField img 8 4 == 64 + 56 * n && decide (64 + 56 * n ≤ img.length) && imgField img 20 4 == 0
    && imgField img 32 32 == 0 && (List.range n).all (imgSectOk img)
    && decide (imgField img 8 4 + imgField img 12 4
        + ((imgSects img).map fun s => if s.resident then s.len else 0).sum ≤ 4194304)

/-- The signed part and the signature. -/
def imgSigned (img : List Byte) : List Byte := img.take (imgField img 8 4)

def imgSignature (img : List Byte) : List Byte := (img.drop (imgField img 8 4)).take (imgField img 12 4)

def imgSvn (img : List Byte) : Nat := imgField img 16 4

/-- How the check of a boot part ends: 0 passed, else how far it came (R423): 4 header, 5 signature, 6 SVN, 7 hash. -/
def Chip.imgCheck (c : Chip) (img : List Byte) : Nat :=
  if !imgHeaderOk img then 4
  else if !hssVerify c.ownerKey (imgSigned img) (imgSignature img) then 5
  else if imgSvn img < (c.optWord optSvnMin).toNat then 6
  else if (imgSects img).all fun s => !s.resident || s.hashOk (s.data img) then 0
  else 7

/-- The error code of R418 where no image passes. -/
def bootError (codes : List Nat) : Nat :=
  if codes.contains 7 then 5 else if codes.contains 6 then 6 else if codes.contains 5 then 5 else 4

/-- Of two passing slots the one with the higher SVN boots, then the one with the higher BUILD (R423). -/
def imgBetter (a b : List Byte) : Bool :=
  decide (imgSvn b < imgSvn a) || (imgSvn a == imgSvn b && decide (imgField b 24 8 ≤ imgField a 24 8))

/-- A push mode before boot step 6: BOOTSEL selects one, or a failed verification allows a recovery push. UL_BOOT holds its step
(R417, R418, R420). -/
def Chip.pushMode (c : Chip) : Bool :=
  let err := c.f F.glbBootStatErr
  c.phase == 5 && err != 8 && (bitAt (c.rd R.glbStrap) 1 || (decide (4 ≤ err) && decide (err ≤ 6)))

/-- GLB_BOOT_CMD.GO: the image in SRAM is to be verified (R420). -/
def Chip.pushGo (c : Chip) : Chip := c.modBoot fun b => { b with verify := true }

end Sys2Proof.Machine
end

