-- ==== Sys2Proof/Machine/Control.lean ====
section
/-! DEFINITION. Control.lean: one access to the control space: which rule rejects it, what it reads and what it does
(R14 to R21, R27 to R34, R343, R344, R347, R351, R371, R499). -/

namespace Sys2Proof.Machine

/-! ### Sessions (R350, R351) -/

def Chip.session (c : Chip) (p : Path) : Option Session :=
  match p with
  | .ul => c.scp.ulSess
  | .spi => c.scp.spiSess

def Chip.setSession (c : Chip) (p : Path) (s : Option Session) : Chip :=
  let scope := match s with
    | some x => x.scope
    | none => 0
  match p with
  | .ul => ((c.modScp fun x => { x with ulSess := s }).setFb F.scpSessionUlOpen s.isSome).setF F.scpSessionUlScope scope
  | .spi => ((c.modScp fun x => { x with spiSess := s }).setFb F.scpSessionSpiOpen s.isSome).setF F.scpSessionSpiScope scope

/-- The session a source acts under: its path's, and on the uplink only where it is bound to this source (R350). -/
def Chip.sessionOf (c : Chip) (p : Path) (key : List Byte) : Option Session :=
  match c.session p with
  | some s => if p = .spi ∨ s.key = key then some s else none
  | none => none

/-- The source may do what needs this SCOPE bit (R351). -/
def Chip.holdsScope (c : Chip) (p : Path) (key : List Byte) (bit : Nat) : Bool :=
  match c.sessionOf p key with
  | some s => s.scope.testBit bit
  | none => false

/-- A privileged command that succeeded uses one of USES; the last use ends the session (R351). -/
def Chip.useSession (c : Chip) (p : Path) (key : List Byte) : Chip :=
  match c.sessionOf p key with
  | some s =>
    match s.uses with
    | some n => c.setSession p (if n ≤ 1 then none else some { s with uses := some (n - 1) })
    | none => c
  | none => c

/-- The SCOPE bit a write to an address needs (R350, R351). -/
def scopeBit (a : Nat) : Option Nat :=
  if 0x10000 ≤ a ∧ a < 0x20000 then some 2
  else if 0x30000 ≤ a ∧ a < 0x40000 then some 0
  else if 0x40000 ≤ a ∧ a < 0x50000 then some 1
  else none

/-- A write without the authorization it needs; a DMA channel never has one (R351, R371). -/
def Chip.unauthorized (c : Chip) (src : Src) (a : Nat) : Bool :=
  match scopeBit a with
  | none => false
  | some bit =>
    match src with
    | .scp p key => !c.holdsScope p key bit
    | .dma _ => true
    | .boot => false

/-- What a push mode refuses (R420). -/
def Chip.pushRefuses (c : Chip) (src : Src) (a : Nat) (write : Bool) : Bool :=
  match src with
  | .scp _ _ => c.pushMode && !(if write then a == R.glbBootCmd || (decide (0x1000000 ≤ a) && decide (a < 0x1400000))
      else decide (a < 0x10000) || (decide (0x40000 ≤ a) && decide (a < 0x50000)))
  | _ => false

/-- A DMA channel reaches its own block (R371, log entry 30). -/
def dmaOwn (src : Src) (a : Nat) : Bool :=
  match src with
  | .dma _ => decide (0x50000 ≤ a) && decide (a < 0x60000)
  | _ => false

/-! ### What rejects an access -/

/-- OLD_BUSY of the block a per-job register belongs to, given its bank A address (R139, R156, R196, R220, R287). -/
def Chip.oldBusyAt (c : Chip) (a : Nat) : Bool :=
  if a < 0x1B0000 then 0x1A0000 ≤ a && c.fb F.sspStatOldBusy
  else if a < 0x300000 then c.fb (F.feStatOldBusy ((a - 0x200000) / 0x2000))
  else if a < 0x400000 then c.fb F.stcStatOldBusy
  else if a < 0x430000 then c.fb F.ieStatOldBusy
  else c.fb F.csStatOldBusy

/-- The rules on banks for a per-job register (R21, R225 and the OLD_BUSY rules). -/
def Chip.perJobChecks (c : Chip) (a : Nat) : List Nat :=
  c.bankChecks a ++ match bankOf a with
    | some (b, x) => rej (b != c.actBank && c.oldBusyAt x) 0x05
    | none => []

/-- FEn_TBL_DATA and FEn_TBL_CHK (R139, R140, R141). -/
def Chip.feChecks (c : Chip) (n off : Nat) (v : Word) : List Nat :=
  match off with
  | 0x08 =>
    if c.f (F.feTblAddrBank n) = c.actBank then [0x04]
    else rej c.locked 0x09 ++ rej (c.sst == sstLoading || c.fb (F.feStatOldBusy n)) 0x05
  | 0x0C =>
    if bitAt v 31 then
      let staged := getBits v 28 1 != c.actBank
      rej (staged && c.locked) 0x09 ++ rej ((staged && c.sst == sstLoading) || (c.fe n).chk.isSome) 0x05
    else []
  | _ => []

/-- A value an EtherType register refuses (R289, R318). -/
def etypeBad (et : Nat) : Bool := decide (et < 0x0600) || [0x0800, 0x86DD, 0x8100, 0x88F7, 0xF1C1].contains et

/-- The CMT block (R311, R322, R334, R336, R338). -/
def Chip.cmtChecks (c : Chip) (off : Nat) (v : Word) : List Nat :=
  if off = 0x02C then
    let op := getBits v 30 2
    let k := getBits v 24 5
    let len := getBits v 0 20
    let t := toSigned 64 (c.f F.cmtHostThiTgt * 2 ^ 32 + c.f F.cmtHostTloTgt)
    let now : Int := if bitAt v 29 then c.outPos k else (c.nowNs : Int)
    rej (op == 0 || op == 3 || decide (24 ≤ k)) 0x03
      ++ rej (decide (1000000 < len)) 0x03
      ++ (if op = 2 then rej (len == 0 || !targetOk t now) 0x03
            ++ rej (c.outMode k != 4) 0x04 else [])
      ++ rej (op == 1 && (c.f (F.cmtTcfgSrc c.actBank) != 2 || !c.running || c.follows)) 0x04
  else if 0x100 ≤ off ∧ off < 0x280 ∧ c.running then
    let k := (off - 0x100) / 0x10
    let pick := fun (o : Nat) (a : Nat) => if off % 0x10 = o then v else c.rd a
    rej (!c.outReach c.actBank (pick 0 (R.cmtOutCfg k)) (pick 4 (R.cmtOutDist k)) (pick 8 (R.cmtOutWin k))) 0x03
  else []

/-- The RST block (R414, R431). -/
def Chip.rstChecks (c : Chip) (off : Nat) (v : Word) : List Nat :=
  rej (off == 0x08 && v != 0xA5C3#32) 0x03 ++ rej (off == 0x0C && c.running) 0x04

/-- The rules of the block a register lies in. -/
def Chip.blockChecks (c : Chip) (src : Src) (a : Nat) (v : Word) : List Nat :=
  if a < 0x10000 then rej (a == R.glbBootCmd && bitAt v 31 && !c.pushMode) 0x04
  else if a < 0x18000 then c.clkChecks (a - 0x10000) v
  else if a < 0x20000 then c.rstChecks (a - 0x18000) v
  else if a < 0x30000 then c.fcChecks (a - 0x20000) v
  else if a < 0x40000 then rej (a == R.optData && !optWritable (c.f F.optAddrWord)) 0x04
  else if a < 0x50000 then if a = R.secCmd then c.secChecks v else []
  else if a < 0x60000 then c.dmaChecks (a - 0x50000) v
  else if a < 0x70000 then if a < 0x60100 then [] else c.cvuChecks ((a - 0x60100) / 0x40) ((a - 0x60100) % 0x40) v
  else if a < 0x80000 then if a < 0x70100 then [] else c.eqChecks src ((a - 0x70100) / 0x40) ((a - 0x70100) % 0x40) v
  else if a < 0x90000 then c.orbChecks (a - 0x80000) v
  else if a < 0xA0000 then c.cmtChecks (a - 0x90000) v
  else if a < 0x100000 then c.shpChecks (a - 0xA0000) v
  else if a < 0x1A0000 then
    let n := (a - 0x100000) / 0x10000
    let off := a % 0x10000
    if 0x8F00 ≤ off then c.portChecks n off v
    else if 0x8000 ≤ off then c.laneChecks n ((off - 0x8000) / 0x100) (off % 0x100) v
    else if n = 9 then c.ulChecks off v
        ++ rej (off == 0x02C && (etypeBad (getBits v 16 16) || getBits v 16 16 == c.f F.sspEtypeEtype)) 0x03
    else c.linkChecks n off v
  else if a < 0x200000 then c.sspChecks (a - 0x1A0000) v
  else if a < 0x300000 then c.feChecks ((a - 0x200000) / 0x2000) ((a - 0x200000) % 0x2000) v
  else if a < 0x400000 then []
  else if a < 0x500000 then
    rej (regwBad a v) 0x03
  else if a < 0x800000 then c.jobChecks a v
  else c.mcChecks ((a - 0x800000) / 0x10000) (a % 0x10000) v

/-- The front end still initializes its table: every access answers 0x05 (R130). -/
def Chip.feInitBusy (c : Chip) (a : Nat) : Bool :=
  decide (0x200000 ≤ a) && decide (a < 0x210000) && (c.fe ((a - 0x200000) / 0x2000)).initBusy

/-- Every rule that rejects a register access whatever its kind (R15, R29, R32, R130, R371, R420). -/
def Chip.accessChecks (c : Chip) (src : Src) (a : Nat) (write : Bool) : List Nat :=
  rej (regAt a).isNone 0x02 ++ rej (c.pushRefuses src a write || !c.domainRuns (domainOf a) || dmaOwn src a) 0x04
    ++ rej (c.feInitBusy a) 0x05

/-- Every rule that rejects a register write (R499 orders them). -/
def Chip.writeChecks (c : Chip) (src : Src) (a : Nat) (v : Word) : List Nat :=
  c.accessChecks src a true ++ rej (c.unauthorized src a) 0x08
    ++ (match regAt a with
      | some (r, _) => rej (!r.legal v) 0x03
      | none => [])
    ++ c.perJobChecks a ++ c.blockChecks src a v

/-! ### Register writes -/

/-- Registers that show something held elsewhere: a write stores nothing in them. -/
def windowReg (a : Nat) : Bool := a == R.optData || (List.range 8).any fun n => a == R.feTblData n

/-- The RST block's effects (R413, R414, R431): the watchdog period restarts, domains enter reset, the mate is asked. -/
def Chip.rstWritten (c : Chip) (off : Nat) (old v : Word) : Chip :=
  match off with
  | 0x0C =>
    let c := c.when (bitAt v 31 && !bitAt old 31) Chip.resetCore
    let c := c.when (bitAt v 30 && !bitAt old 30) Chip.resetMemc
    c.when (bitAt v 29 && !bitAt old 29) Chip.resetTime
  | 0x10 => c.when (bitAt v 31) Chip.mateReset
  | _ => c

/-- The CMT block's effects (R322, R332, R336). -/
def Chip.cmtWritten (c : Chip) (off : Nat) (old v : Word) : Chip :=
  if off = 0x02C then if getBits v 30 2 = 1 then c.hostTrigger else c.hostPulse v
  else if 0x100 ≤ off ∧ off < 0x280 ∧ off % 0x10 = 0 then c.outCfgWritten ((off - 0x100) / 0x10) old v
  else c

/-- What a performed write does beside storing its fields; a few answer a status of their own. What an image writes to the control
register of a link in boot step 6 acts at step 7 (R417). -/
def Chip.blockWritten (c : Chip) (src : Src) (a : Nat) (old v : Word) : Chip × Nat :=
  if a < 0x10000 then (c.when (a == R.glbBootCmd && bitAt v 31) Chip.pushGo, 0)
  else if a < 0x18000 then (c.clkWritten (a - 0x10000) v, 0)
  else if a < 0x20000 then (c.rstWritten (a - 0x18000) old v, 0)
  else if a < 0x30000 then (c.fcWritten (a - 0x20000) v, 0)
  else if a < 0x40000 then (c.when (a == R.optData) (·.optWrite v), 0)
  else if a < 0x50000 then if a = R.secCmd then c.secCmd v else (c, 0)
  else if a < 0x60000 then (c.dmaWritten (a - 0x50000) v, 0)
  else if a < 0x70000 then (if a < 0x60100 then c else c.cvuWritten ((a - 0x60100) / 0x40) ((a - 0x60100) % 0x40) v, 0)
  else if a < 0x80000 then (if a < 0x70100 then c else c.eqWritten src ((a - 0x70100) / 0x40) ((a - 0x70100) % 0x40) v, 0)
  else if a < 0x90000 then
    let c := c.orbWritten (a - 0x80000) old v
    (if a = 0x80000 then c.clkF10mWritten old v else c, 0)
  else if a < 0xA0000 then (c.cmtWritten (a - 0x90000) old v, 0)
  else if a < 0x100000 then (c, 0)
  else if a < 0x1A0000 then
    let n := (a - 0x100000) / 0x10000
    let off := a % 0x10000
    if 0x8F00 ≤ off then (let c := c.portWritten n off; if n = 9 then c.ulMapShow else c, 0)
    else if 0x8000 ≤ off then (c.laneWritten n ((off - 0x8000) / 0x100) (off % 0x100) old v, 0)
    else if off = 0x00 ∧ src = .boot ∧ c.phase = 6 then (c, 0)
    else if n = 9 then (c.ulWritten off old v, 0)
    else if a = R.plCmd then if bitAt v 31 then c.joinCmd else (c, 0)
    else (c.linkWritten n off v, 0)
  else if a < 0x200000 then (c, 0)
  else if a < 0x300000 then
    let n := (a - 0x200000) / 0x2000
    match (a - 0x200000) % 0x2000 with
    | 0x08 => (c.feTblWrite n v, 0)
    | 0x0C => (c.feChkWritten n v, 0)
    | _ => (c, 0)
  else if a < 0x500000 then (c, 0)
  else if a < 0x800000 then
    if a = R.jobCmd then c.jobCmd v
    else if a = R.jobPortOff then (c.jobPortOff v, 0)
    else if a = R.jobProdOff then c.jobProdOff (getBits v 0 5)
    else (c, 0)
  else (c.mcWritten ((a - 0x800000) / 0x10000) (a % 0x10000) v, 0)

/-- JOB_PORT_OFF and JOB_PROD_OFF keep what their rules make of them, not the written value (R237, R238). -/
def ruledReg (a : Nat) : Bool := a == R.jobPortOff || a == R.jobProdOff

/-- The bank A address of a per-job register, for the rules on what a write spoils (R228). -/
def spoilAddr (a : Nat) : Nat :=
  match bankOf a with
  | some (_, x) => x
  | none => a

/-- A register write that no rule rejects. -/
def Chip.regStore (c : Chip) (src : Src) (a : Nat) (v : Word) : Chip × Nat :=
  match regAt a with
  | none => (c, 0x02)
  | some (r, _) =>
    let old := c.rd a
    let c := if windowReg a || ruledReg a then c else c.wr a (r.store old v)
    let (c, st) := c.blockWritten src a old v
    (c.spoils (spoilAddr a), st)

/-- A register write: rejected with the first status of R499, or performed; a privileged one that succeeds uses its
session once. -/
def Chip.ctrlWrite (c : Chip) (src : Src) (a : Nat) (v : Word) : Chip × Nat :=
  let st := pickStatus (c.writeChecks src a v)
  if st ≠ 0 then (c, st)
  else
    let (c', st) := c.regStore src a v
    match src with
    | .scp p key => if st = 0 ∧ (scopeBit a).isSome then (c'.useSession p key, st) else (c', st)
    | _ => (c', st)

/-- A register write and the status it is answered with, as a source outside the queue of the control protocol sees it. -/
def Chip.writeOp (c : Chip) (src : Src) (a : Nat) (v : Word) : Chip :=
  let (c, st) := c.ctrlWrite src a v
  c.emit (.status st)

/-! ### Register reads -/

/-- The value a register shows, and what reading it does beside clearing RC fields. -/
def Chip.regView (c : Chip) (a : Nat) : Chip × Word :=
  if a = R.optData then c.optRead
  else if a = R.orbNowNs then c.orbNowRead
  else if a = R.cmtVel then let c := c.velShow; (c, c.rd a)
  else if a = R.cmtStat then let c := c.outsUpdate; (c, c.rd a)
  else if a = R.cmtEncLo 0 then c.encRead 0
  else if a = R.cmtEncLo 1 then c.encRead 1
  else if 0x108000 ≤ a ∧ a < 0x1A0000 ∧ a % 0x10000 < 0x8F00 ∧ (a % 0x100 = 0x3C ∨ a % 0x100 = 0x44) ∧ 0x8000 ≤ a % 0x10000 then
    c.prbsReadLo ((a - 0x100000) / 0x10000) ((a % 0x10000 - 0x8000) / 0x100) (a % 0x100 == 0x44)
  else if 0x200000 ≤ a ∧ a < 0x210000 ∧ a % 0x2000 = 0x08 then c.feTblRead ((a - 0x200000) / 0x2000)
  else if 0x800000 ≤ a ∧ a < 0x860000 ∧ a % 0x10000 = 0x20 then c.mcRmapRead ((a - 0x800000) / 0x10000)
  else
    let c := if 0x800000 ≤ a ∧ a < 0x860000 ∧ a % 0x10000 = 0x3C then c.rfmCounted ((a - 0x800000) / 0x10000) else c
    match regAt a with
    | some (r, _) => (c.wr a (r.afterRead (c.rd a)), r.view (c.rd a))
    | none => (c, 0#32)

/-- A register read: the value and the status; a rejected read returns 0 and changes nothing (R16, R29). -/
def Chip.ctrlRead (c : Chip) (src : Src) (a : Nat) : Chip × Word × Nat :=
  let st := pickStatus (c.accessChecks src a false)
  if st ≠ 0 then (c, 0#32, st) else let (c, v) := c.regView a; (c, v, 0)

def Chip.readOp (c : Chip) (src : Src) (a : Nat) : Chip :=
  let (c, v, st) := c.ctrlRead src a
  c.emit (.status (st * 2 ^ 32 + v.toNat))

/-- The DMA channel that makes an access, none for another source. -/
def dmaOf (src : Src) : Option Nat :=
  match src with
  | .dma n => some n
  | _ => none

/-! ### Memory accesses (R33, R34, R344, R446, R470) -/

/-- An address of a memory window. -/
def memAddr (a : Nat) : Bool := (decide (sramBase ≤ a) && decide (a < sramEnd)) || decide (ddrBase ≤ a)

/-- The rules that reject a memory access (R29, R33, R34, R224, R282, R420, R446, R473). -/
def Chip.windowChecks (c : Chip) (src : Src) (a n : Nat) (write : Bool) : List Nat :=
  c.memChecks a n write ++ rej (!c.domainRuns (domainOf a)) 0x04
    ++ rej (match src with
      | .scp _ _ => c.pushMode && !(write && decide (0x1000000 ≤ a) && decide (a + n ≤ 0x1400000))
      | _ => false) 0x04

/-- A memory write: nothing moves unless every check passes; a partial word of SRAM that cannot be corrected refuses it
with 0x07 (R344, R446). -/
def Chip.ctrlMemWrite (c : Chip) (src : Src) (a : Nat) (bs : List Byte) : Chip × Nat :=
  let st := pickStatus (c.windowChecks src a bs.length true)
  if st ≠ 0 then (c, st)
  else if c.sramPartialBad a bs.length then ((c.eccRead a bs.length).1, 0x07)
  else ((c.memPut a bs).landLater (dmaOf src) a bs.length, 0)

/-- A memory read: 0x07 and no data where an error cannot be corrected (R344). -/
def Chip.ctrlMemRead (c : Chip) (src : Src) (a n : Nat) : Chip × List Byte × Nat :=
  let st := pickStatus (c.windowChecks src a n false)
  if st ≠ 0 then (c, [], st)
  else
    let (c, bs, bad) := c.memGet a n
    if bad then (c, [], 0x07) else (c, bs, 0)

/-! ### Accesses of a DMA channel: one 32-bit word, or one aligned 8-byte word of memory (R358, R371, R470) -/

def Chip.dmaRead (c : Chip) (n a : Nat) : Chip × Word × Nat :=
  if memAddr a then
    let (c, bs, st) := c.ctrlMemRead (.dma n) a 4
    (c, BitVec.ofNat 32 (natOfLE bs), st)
  else if a % 4 ≠ 0 then (c, 0#32, 0x02)
  else c.ctrlRead (.dma n) a

/-- The words a burst moves at once: the two of an aligned 8-byte word of memory, else one (R358, R470). -/
def Chip.dmaUnit (c : Chip) (n a rest : Nat) (fixed write : Bool) : Nat :=
  if fixed = false ∧ memAddr a = true ∧ a % 8 = 0 ∧ 2 ≤ rest ∧ pickStatus (c.windowChecks (.dma n) a 8 write) = 0 then 2 else 1

/-- A read of one or two words. -/
def Chip.dmaReadUnit (c : Chip) (n a u : Nat) : Chip × List Word × Nat :=
  if u = 2 then
    let (c, bs, st) := c.ctrlMemRead (.dma n) a 8
    (c, [BitVec.ofNat 32 (natOfLE (bs.take 4)), BitVec.ofNat 32 (natOfLE (bs.drop 4))], st)
  else
    let (c, v, st) := c.dmaRead n a
    (c, [v], st)

def Chip.dmaWrite (c : Chip) (n a : Nat) (w : Word) : Chip × Nat :=
  if memAddr a then c.ctrlMemWrite (.dma n) a (wordBytesLE w)
  else c.ctrlWrite (.dma n) a w

/-- A write of one or two words; the two of an aligned 8-byte word are one whole-word write (R470). -/
def Chip.dmaWriteUnit (c : Chip) (n a : Nat) (ws : List Word) : Chip × Nat :=
  match ws with
  | [w] => c.dmaWrite n a w
  | _ => c.ctrlMemWrite (.dma n) a (ws.flatMap wordBytesLE)

end Sys2Proof.Machine
end

