-- ==== Sys2Proof/Machine/Boot.lean ====
section
/-! DEFINITION. Boot.lean: the reset sources, the reset sequence and the boot steps (R411, R413 to R424, R430, R442, R447,
R448, R479, R487). -/

namespace Sys2Proof.Machine

/-! ### Reset sources -/

/-- POWER_ON: power applied with PWRGD rising (R411, R413). -/
def Chip.powerOn (c : Chip) : Chip :=
  ({ c with jtag := { JtagS.reset with bsr := c.jtag.bsr } }.powerOnReset).modBoot fun b => { b with
    pwrLow := false, aonLow := false }

/-- PWRGD_LOW and RAIL_UNDERVOLTAGE: a power-on reset, held until PWRGD rises again (R411, R487). -/
def Chip.powerLow (c : Chip) : Chip := c.powerOnReset.modBoot fun b => { b with pwrLow := true }

/-- AON_UNDERVOLTAGE: the whole device is held in reset (R487). -/
def Chip.aonLow (c : Chip) : Chip := c.powerOnReset.modBoot fun b => { b with aonLow := true, pwrLow := true }

/-- RESET_N_ASSERT (R411). -/
def Chip.pinReset (c : Chip) : Chip := (c.deviceResetBy 1).modBoot fun b => { b with pinLow := true }

/-- WATCHDOG_EXPIRY: the watchdog runs on in AON whatever else does (R27, R414). -/
def Chip.watchdog (c : Chip) : Chip := if c.fb F.rstCfgWdtEn then c.deviceResetBy 2 else c

/-- TESTMODE: while it is high every domain except AON is held in reset (R479, log entry 34). -/
def Chip.testMode (c : Chip) (high : Bool) : Chip :=
  if high then (c.when (!c.strapHold) Chip.deviceReset).modBoot fun b => { b with testHi := true } else c.modBoot fun b => { b with testHi := false }

/-- THERMAL_TRIP: outputs low and transmitters idle within the reset that follows; 0x42 is reported at L5 (R448). Which cluster's
sensor trips, the INST of the report (R432), is a free value. -/
def Chip.thermalTrip (c : Chip) : Chip :=
  if c.boot.trip then c
  else
    let c := c.modBoot fun b => { b with trip := true }
    if c.mgmtRuns then let (k, c) := c.fresh 20; c.report 0x42 (k % 4) else c.levelFive

def Chip.tripRelease (c : Chip) : Chip := c.modBoot fun b => { b with trip := false }

/-- RESET_HOLD_END: boot starts at step 1, or at step 4 after a clock restart; after the expiry of holdover, once a
reference is usable (R397, R403, R413). -/
def Chip.holdEnd (c : Chip) : Chip :=
  let b := c.boot
  if !b.hold || b.trip || b.testHi || b.aonLow || b.pwrLow || (c.clk.expired && c.clk.target.isNone) then c
  else
    let c := c.each [2, 3, 4] fun c i => if c.clkSt i = csOff then c.clkEnable i else c
    let c := match c.clk.expired, c.clk.target with
      | true, some i => (c.clkTake i).modClk fun k => { k with expired := false }
      | _, _ => c
    let c := c.setF F.glbBootStatPhase (if b.restart && b.straps then 4 else 1)
    c.modBoot fun b => { b with hold := false, pinLow := false, restart := false }

/-! ### Steps 1 to 4 -/

/-- A boot step holds with its error code (R417, R418). -/
def Chip.bootFail (c : Chip) (code : Nat) : Chip := c.setF F.glbBootStatErr code

/-- A boot event acts in its step only, without a hold or an error. -/
def Chip.bootAt (c : Chip) (step : Nat) (g : Chip → Chip) : Chip :=
  if c.phase = step ∧ !c.boot.hold ∧ c.f F.glbBootStatErr = 0 then g c else c

def Chip.bootTo (c : Chip) (step : Nat) : Chip := c.setF F.glbBootStatPhase step

/-- A trim copy passes its CRC: 1,023 words and the CRC-32C over them (R419). -/
def Chip.trimOk (c : Chip) (base : Nat) : Bool :=
  crc32c ((List.range 1023).flatMap fun i => wordBytesLE (c.optWord (base + i))) == c.optWord (base + 1023)

/-- The SRAM rows that the records name and a spare row replaces: 16 of each MiB, the first recorded (R441, R446, R447; a row is a
64-bit word here, log entry 20). -/
def Chip.spareRows (c : Chip) : List Nat :=
  let rows := ((List.range 0x200).map fun i => c.optWord (0x1600 + i)).filterMap fun w =>
    if bitAt w 31 then some (getBits w 0 23) else none
  rows.zipIdx.filterMap fun p =>
    if ((rows.take p.2).filter fun r => r / 131072 == p.1 / 131072).length < 16 then some p.1 else none

/-- Spare rows come in as the trims are committed: what a replaced row held in error is gone (step 2 of R417, R446). -/
def Chip.rowsIn (c : Chip) : Chip :=
  let l := c.spareRows
  let c := { c with ecc := c.ecc.filter fun p => decide (ddrBase ≤ 8 * p.1) || !l.contains (p.1 - sramBase / 8) }
  c.modBoot fun b => { b with rows := l }

/-- BOOT_TRIM_LOAD_DONE: copy A, or else copy B, is committed; straps that stand are not sampled again (R417, R419). -/
def Chip.trimLoad (c : Chip) : Chip :=
  let next := if c.boot.straps then 4 else 3
  if c.trimOk 0 then ((c.modBoot fun b => { b with repair := false }).rowsIn).bootTo next
  else if c.trimOk 0x400 then (((c.setF F.optStatTrimB 1).modBoot fun b => { b with repair := true }).rowsIn).bootTo next
  else c.bootFail 1

/-- Straps no combination allows: one of the nine balls follows the pull, or PAIRID without PAIREN (R416); bit 2 has no ball. -/
def strapsBad (up down : Nat) : Bool := up &&& 0x3FB != down &&& 0x3FB || (!down.testBit 8 && down.testBit 9)

/-- BOOT_STRAP_SAMPLE: the levels seen with pull-ups and with pull-downs, bit by bit as GLB_STRAP places them (R416). -/
def Chip.strapSample (c : Chip) (up down : Nat) : Chip :=
  if strapsBad up down then c.bootFail 2
  else
    let c := (c.setF F.glbStrapStraps (down % 1024 &&& 0x3FB)).modBoot fun b => { b with straps := true }
    let c := (c.setF F.clkStrapClkmode (down / 8 % 4)).setF F.clkStrapOscwait (down / 32 % 8)
    let c := c.setF F.plStatSvc (if c.pairMode then svcAlone else svcSingle)
    let c := c.clkEnable c.clkPrimary
    let c := match c.clkFallback with
      | some i => if c.fb F.clkCfgFbEn then c.clkEnable i else c
      | none => c
    c.bootTo 4

/-- The uplink boot settings of a push over the uplink (R420, R430). -/
def Chip.uplinkBoot (c : Chip) : Chip :=
  let w := c.optWord 0x1403
  if !bitAt w 31 || getBits w 27 2 == 3 then c.bootFail 8
  else
    let c := (c.wr R.ulMacLo (c.optWord 0x1404)).setF F.ulMacHiMacHi (c.optWord 0x1405).toNat
    let c := c.wr R.ulIp4 (c.optWord 0x1406)
    (c.wr R.ulCtrl (bitMask 31 1 ||| (w &&& (bitMask 29 1 ||| bitMask 27 2)))).ulEnable

/-- BOOT_PLL_LOCK: the PLLs lock on a reference that is GOOD; MGMT starts, the boot count is incremented
and shown, and the nonce is random (R355, R395, R397, R417). -/
def Chip.pllLock (c : Chip) : Chip :=
  let c := match c.clk.refLost, c.clk.target with
    | true, some i => c.clkTake i
    | _, _ => c
  let st := c.clkSt c.clkInUse
  if st ≠ csGood then c
  else
    let c := ((((c.setF F.clkStatLock 31).setF F.clkStatHold 0).setF F.clkStatSafe 0).modClk fun k => { k with
      stopped := [], refLost := false, f10Lost := false, revert := false, target := none }).bootTo 5
    let c := c.setOptWord optBootCnt (c.optWord optBootCnt + 1#32)
    let (k, c) := (c.wr R.scpEpoch (c.optWord optBootCnt)).fresh 14
    let c := c.wr R.scpNonce (BitVec.ofNat 32 k)
    if getBits (c.rd R.glbStrap) 0 2 = 3 then c.uplinkBoot else c

/-! ### Step 5 -/

/-- An image that passed becomes the one in force (R421, R423, R424). -/
def Chip.imgTake (c : Chip) (img : List Byte) (base : Nat) : Chip :=
  let dig := sha256 (imgSigned img)
  let c := c.each (List.range 8) fun c i => c.wr (R.secDigest i) (BitVec.ofNat 32 (natOfLE ((dig.drop (4 * i)).take 4)))
  let c := (c.wr R.secSvnRun (BitVec.ofNat 32 (imgSvn img))).modBoot fun b => { b with img := img, verify := false }
  let c := (c.setF F.secImgBaseLoBase base).setF F.secImgBaseHiBase (base / 2 ^ 32)
  (c.setF F.glbBootStatErr 0).bootTo 6

/-- The flash offset of slot 1 (R420, R430). -/
def Chip.slotOne (c : Chip) : Nat :=
  let w := c.optWord 0x1402
  if w = 0#32 then 0x2000000 else w.toNat

/-- The boot part of slot `p.2` as step 5 reads it into SRAM (R423). DESIGN CHOICE: it lies 4 MiB times the slot above the start, and is
read as far as a push can write (log entry 23). -/
def Chip.slotRead (c : Chip) (p : List Byte × Nat) : Chip := c.memPut (sramBase + 4194304 * p.2) (p.1.take 4194304)

/-- BOOT_PART_VERIFIED of a flash boot: the boot part read from each slot, slot 0 first (R423). -/
def Chip.flashVerify (c : Chip) (imgs : List (List Byte)) : Chip :=
  let slots := (imgs.take 2).zipIdx
  let codes := imgs.map c.imgCheck
  let pass := slots.filter fun p => c.imgCheck p.1 == 0
  let c := c.each slots Chip.slotRead
  match pass with
  | [] => c.bootFail (bootError codes)
  | p :: rest =>
    let best := rest.foldl (fun a b => if imgBetter a.1 b.1 then a else b) p
    (c.setF F.glbBootStatSlot best.2).imgTake best.1 (if best.2 = 0 then 0 else c.slotOne)

/-- BOOT_PART_VERIFIED of a pushed image, in SRAM (R420). -/
def Chip.pushVerify (c : Chip) : Chip :=
  let img := c.bytes sramBase 4194304
  let code := c.imgCheck img
  if code = 0 then (c.setF F.glbBootStatPush 1).imgTake img 0
  else (c.modBoot fun b => { b with verify := false }).bootFail (bootError [code])

def Chip.bootVerify (c : Chip) (imgs : List (List Byte)) : Chip :=
  if c.phase ≠ 5 ∨ c.boot.hold then c
  else if c.boot.verify then c.pushVerify
  else if c.pushMode ∨ c.f F.glbBootStatErr ≠ 0 then c
  else c.flashVerify imgs

/-! ### Steps 6 to 8 -/

/-- The training that a write of MC0_CTRL.INIT starts, run to its end: `trained` are the channels that succeed (R468). -/
def Chip.bootTrain (c : Chip) (trained : List Nat) : Chip :=
  c.each (List.range 6) fun c n =>
    c.each (List.range 5) fun c _ => c.mcTrainStep n (trained.contains n)

/-- One entry of a REG section; a status other than 0x00 or a channel that fails holds step 6 (R418, R422, R468). -/
def Chip.bootEntry (trained : List Nat) (k : Nat) (c : Chip) (e : Nat × Word) : Chip :=
  if c.f F.glbBootStatErr ≠ 0 then c
  else
    let (c, st) := if memAddr e.1 then c.ctrlMemWrite .boot e.1 (wordBytesLE e.2) else c.ctrlWrite .boot e.1 e.2
    if st ≠ 0 then (c.report 0x53 k).bootFail 7
    else
      let c := if e.1 = R.mc0Ctrl ∧ bitAt e.2 31 then c.bootTrain trained else c
      if (List.range 6).any fun n => c.f (F.mcStatState n) == mcFailed then (c.report 0x53 k).bootFail 7 else c

/-- The head register writes an image lists for each port (R101, R422). -/
def headLists (img : List Byte) : List (List (Nat × Nat)) :=
  (List.range 8).map fun n => ((imgSects img).filter fun s => s.type_ == 2 && s.idx == n).flatMap fun s =>
    let d := s.data img
    (List.range (d.length / 8)).map fun i => (imgField d (8 * i) 4, imgField d (8 * i + 4) 4)

/-- LANE_MAP of a port is written so that its barred lane is the unmapped one (R442). -/
def Chip.bootLanes (c : Chip) : Chip :=
  Chip.ulMapShow <| c.each (List.range 10) fun c n =>
    let bars := (List.range (laneCount n)).filter fun m => c.laneBarred n m
    match bars.getLast? with
    | none => c
    | some m =>
      let c := if m < logicalCount n then c.remap n m (laneCount n - 1) else c
      if 1 < bars.length then c.report 0x06 (laneInst n m) else c

/-- Copy A of the trims is rewritten from copy B (R419). -/
def Chip.trimRepair (c : Chip) : Chip :=
  if c.boot.repair then
    let c := c.each (List.range 1024) fun c i =>
      if c.optWord i = c.optWord (0x400 + i) then c else c.setOptWord i (c.optWord (0x400 + i))
    (c.modBoot fun b => { b with repair := false }).ev F.optEvtTrimRepair
  else c

/-- Step 7: the links are enabled as the image has set them (R417). -/
def Chip.bootLinks (c : Chip) : Chip :=
  (c.each (List.range 9) fun c n => c.linkWritten n 0x00 (c.rd (R.linkCtrl n))).ulWritten 0x00 0#32 (c.rd R.ulCtrl)

/-- BOOT_REG_APPLIED: lane maps and the engine map first, then the REG sections in image order, SRAM set to 0; then the links are
enabled and the device runs (R417 steps 6 to 8, R442, R447). -/
def Chip.regApply (c : Chip) (trained : List Nat) : Chip :=
  let img := c.boot.img
  let c := (c.bootLanes.mapLoad).capShow
  let regs := (imgSects img).filter fun s => s.type_ == 1
  let c := c.each regs fun c s => (regEntries (s.data img)).foldl (Chip.bootEntry trained s.index) c
  let c := c.sramZero
  if c.f F.glbBootStatErr ≠ 0 then c
  else ((({ c with headWrites := headLists img }.bootTo 7).bootLinks.bootTests).trimRepair).bootTo 8

end Sys2Proof.Machine
end

