-- ==== Sys2Proof/Machine/DmaRun.lean ====
section
/-! DEFINITION. DmaRun.lean: what a DMA channel executes (R356 to R367, R370 to R372, 14_dma.md). -/

namespace Sys2Proof.Machine

/-- The four words of an instruction (R356). -/
abbrev DmaIns := Word × Word × Word × Word

def DmaIns.op (i : DmaIns) : Nat := getBits i.2.2.2 28 4

def DmaIns.mode (i : DmaIns) : Nat := getBits i.2.2.1 0 2

def DmaIns.src (i : DmaIns) : Nat := getBits i.2.2.1 24 8 * 2 ^ 32 + i.1.toNat

def DmaIns.dst (i : DmaIns) : Nat := getBits i.2.2.2 0 8 * 2 ^ 32 + i.2.1.toNat

/-- The words of one element: LEN4_M1 + 1. -/
def DmaIns.len (i : DmaIns) : Nat := getBits i.2.2.1 0 22 + 1

/-- W1:W0 of a WAIT TIME. -/
def DmaIns.time (i : DmaIns) : Nat := i.2.1.toNat * 2 ^ 32 + i.1.toNat

/-- Decode errors that show in the instruction alone (R357). -/
def DmaIns.bad (i : DmaIns) : Bool :=
  match i.op with
  | 1 => i.src % 4 != 0 || i.dst % 4 != 0
  | 2 => getBits i.2.2.1 24 2 == 3 || i.1.toNat % 4 != 0 || i.2.1.toNat % 4 != 0
  | 3 => i.mode == 3 || (i.mode == 1 && getBits i.1 0 16 == 0)
  | 4 | 5 | 6 | 7 => false
  | _ => true

/-- A WAIT TIME whose target lies outside the range of R311, given the linear time now (R357, R363). -/
def timeTarget (now t : Nat) (rel : Bool) : Nat := if rel then (now + t) % 2 ^ 64 else t

def timeFar (now t : Nat) : Bool :=
  let d := toSigned 64 (t + 2 ^ 64 - now % 2 ^ 64)
  decide (d ≤ -(2 ^ 62 : Int)) || decide ((2 ^ 62 : Int) ≤ d)

/-- L(now) of R311. -/
def Chip.linearNow (c : Chip) : Nat := c.nowNs % 2 ^ 64

/-- An access of a channel fails: it is recorded; the channel waits for its retry, or halts with the last one
(R370 to R372). KIND: 0 fetch, 1 read, 2 write, 3 read-back. -/
def Chip.chFail (c : Chip) (n kind a st : Nat) : Chip :=
  let tries := (c.ch n).tries + 1
  let c := c.modCh n fun d => { d with tries := tries }
  let c := (c.wr (R.dmaChErrLo n) (BitVec.ofNat 32 a)).setF (F.dmaChErrHiAddr n) (a / 2 ^ 32)
  let c := ((c.setF (F.dmaChErrCodeKind n) kind).setF (F.dmaChErrCodeAttempts n) tries).setF (F.dmaChErrCodeStatus n) st
  if c.chSt n = dsStopping then (c.chClear n).chGo n dsIdle
  else if c.f F.dmaRetryMaxMax < tries then c.chHalt n 1
  else c.chGo n dsRetry

/-- An access succeeded: the next one that fails starts a new count. -/
def Chip.chAccepted (c : Chip) (n : Nat) : Chip := c.modCh n fun d => { d with tries := 0 }

/-- The fetch of the instruction at the channel's address; fetches count as reads (R364, R371). -/
def Chip.chFetch (c : Chip) (n : Nat) : Chip × Option DmaIns :=
  let pc := (c.ch n).pc
  let (c, bs, st) := c.ctrlMemRead (.dma n) pc 16
  if st ≠ 0 then (c.chFail n 0 pc st, none)
  else
    let w := fun k => BitVec.ofNat 32 (natOfLE ((bs.drop (4 * k)).take 4))
    let i : DmaIns := (w 0, w 1, w 2, w 3)
    let c := (c.chAccepted n).modCh n fun d => { d with cur := some i, done := 0 }
    let c := (c.wr (R.dmaChPcLo n) (BitVec.ofNat 32 pc)).setF (F.dmaChPcHiPc n) (pc / 2 ^ 32)
    (c.setF (F.dmaChStatLastOp n) i.op, some i)

/-- The instruction a running channel has in hand, fetched where none is; nothing happens where it is not one the row
asked for executes. -/
def Chip.chExec (c : Chip) (n : Nat) (is : DmaIns → Bool) (g : Chip → DmaIns → Chip) : Chip :=
  if c.chSt n ≠ dsRun ∨ (c.ch n).rb then c
  else match (c.ch n).cur with
    | some i => if is i then g c i else c
    | none =>
      match c.chFetch n with
      | (c', none) => c'
      | (c', some i) => if is i then g c' i else c

/-- A decode error halts the channel without retry (R357). -/
def Chip.chDecode (c : Chip) (n : Nat) (i : DmaIns) (g : Chip → DmaIns → Chip) : Chip :=
  if i.bad then c.chHalt n 2 else g c i

/-- Where element `e` of a MOVE reads and writes, exactly (R359). -/
def DmaS.element (d : DmaS) (i : DmaIns) (e : Nat) : Int × Int :=
  let lv := fun k => d.loops.getD k (1, 0, 0)
  let n0 := (lv 0).1
  let n1 := (lv 1).1
  let i0 : Int := e % n0
  let i1 : Int := e / n0 % n1
  let i2 : Int := e / n0 / n1
  (i.src + i0 * (lv 0).2.1 + i1 * (lv 1).2.1 + i2 * (lv 2).2.1,
   i.dst + i0 * (lv 0).2.2 + i1 * (lv 1).2.2 + i2 * (lv 2).2.2)

/-- The elements of the MOVE: the product of the three COUNTs. -/
def DmaS.elements (d : DmaS) : Nat := (d.loops.map (·.1)).foldl (· * ·) 1

/-- The words of the next burst into a slot: up to 4 KiB of a memory window that do not cross a 4 KiB boundary; a register, or a
fixed source, is read word by word (R358, R373). -/
def burstLen (i : DmaIns) (a rest : Nat) : Nat :=
  if bitAt i.2.2.2 27 || !memAddr a then 1 else max 1 (min rest ((4096 - a % 4096) / 4))

/-- The address of word `w` of an element's source or destination that starts at `a`; `fixed` is SFIX or DFIX (R358). -/
def wordAt (fixed : Bool) (a w : Nat) : Nat := if fixed then a else a + 4 * w

/-- A running MOVE whose element has words that are not read wants a slot, while its channel may hold a further one (R373). -/
def Chip.chWants (c : Chip) (n : Nat) : Bool :=
  let d := c.ch n
  match d.cur with
  | some i => c.chSt n == dsRun && DmaIns.op i == 1 && !DmaIns.bad i && decide (d.slots.length < c.f (F.dmaChCfgSlots n))
      && decide (d.done % DmaIns.len i + (d.slots.map List.length).sum < DmaIns.len i)
  | none => false

/-- The channel whose burst the read engine read last; before the first, channel 15 (log entry 31). -/
def Chip.dmaTurn (c : Chip) : Nat := ((List.range 16).find? fun n => (c.ch n).served).getD 15

/-- A channel's place in the read engine's round: the one after the channel served last comes first (R373). -/
def Chip.dmaPlace (c : Chip) (n : Nat) : Nat := (n + 31 - c.dmaTurn) % 16

/-- The free slots that the round leaves to channel `n`: one goes to each channel before it that wants one (R373). -/
def Chip.slotsFor (c : Chip) (n : Nat) : Nat :=
  64 - c.dmaUsed - ((List.range 16).countP fun m => c.chWants m && decide (c.dmaPlace m < c.dmaPlace n))

/-- The read engine's turn was the channel's. -/
def Chip.chServed (c : Chip) (n : Nat) : Chip :=
  { c with dma := (c.dma.map fun d => { d with served := false }).modify n fun d => { d with served := true } }

/-- `b` words of an element from word `w` are read into the channel's last slot, in at most `k` accesses; the first that fails ends it
and is answered with its address and status (R358, R371). -/
def Chip.chBurst (c : Chip) (n : Nat) (i : DmaIns) (s w b : Nat) : Nat → Chip × Option (Nat × Nat)
  | 0 => (c, none)
  | k + 1 =>
    if b = 0 then (c, none)
    else
      let a := wordAt (bitAt i.2.2.2 27) s w
      let u := c.dmaUnit n a b (bitAt i.2.2.2 27) false
      let (c, v, st) := c.dmaReadUnit n a u
      if st ≠ 0 then (c, some (a, st))
      else
        let l := (c.ch n).slots
        Chip.chBurst ((c.chAccepted n).setSlots n (l.dropLast ++ [l.getLastD [] ++ v])) n i s (w + u) (b - u) k

/-- The read engine leases up to `k` slots for the bursts of an element from word `w`, one a turn, as long as its round leaves the
channel one (R373). -/
def Chip.chFill (c : Chip) (n : Nat) (i : DmaIns) (s w rest : Nat) : Nat → Chip × Option (Nat × Nat)
  | 0 => (c, none)
  | k + 1 =>
    if rest = 0 ∨ c.slotsFor n = 0 then (c, none)
    else
      let b := burstLen i (wordAt (bitAt i.2.2.2 27) s w) rest
      match Chip.chBurst ((c.setSlots n ((c.ch n).slots ++ [[]])).chServed n) n i s w b b with
      | (c, none) => Chip.chFill c n i s (w + b) (rest - b) k
      | (c, some e) => (c.setSlots n ((c.ch n).slots.filter fun l => !l.isEmpty), some e)

/-- The slots without the first `u` words held in them; an empty one is free. -/
def slotsDrop (u : Nat) : List (List Word) → List (List Word)
  | [] => []
  | l :: more => if l.length ≤ u then slotsDrop (u - l.length) more else l.drop u :: more

/-- The write engine empties the channel's slots in order, in at most `k` accesses; a slot is free when its last write is accepted,
and the Bool says that all were (R358, R372, R373). -/
def Chip.chDrain (c : Chip) (n : Nat) (i : DmaIns) (d : Nat) : Nat → Chip × Bool
  | 0 => (c, true)
  | k + 1 =>
    match (c.ch n).slots.flatten with
    | w :: ws =>
      let a := wordAt (bitAt i.2.2.2 26) d ((c.ch n).done % i.len)
      let u := c.dmaUnit n a (ws.length + 1) (bitAt i.2.2.2 26) true
      let (c, st) := c.dmaWriteUnit n a ((w :: ws).take u)
      if st ≠ 0 then (c.chFail n 2 a st, false)
      else
        let c := ((c.chAccepted n).setSlots n (slotsDrop u (c.ch n).slots)).modCh n fun x => { x with
          done := x.done + u, last := if memAddr a then some (a + 4 * (u - 1)) else x.last }
        Chip.chDrain (c.add (F.dmaChBytesCount n) (4 * u)) n i d k
    | [] => (c, true)

/-- The words of an element up to word `goal` of the MOVE: while no slot is held the read engine fills as many as
DMA_CHn_CFG.SLOTS and the free slots allow, then the write engine empties them. A channel that finds no free slot waits. A failed
read is recorded once every word read before it is written, so that the record names the first word not moved (R371 to R373). -/
def Chip.chWords (c : Chip) (n : Nat) (i : DmaIns) (s d goal : Nat) : Nat → Chip
  | 0 => c
  | k + 1 =>
    let ch := c.ch n
    if goal ≤ ch.done then c
    else
      let (c, err) := if ch.slots.isEmpty then
          c.chFill n i s (ch.done % i.len) (goal - ch.done) (c.f (F.dmaChCfgSlots n))
        else (c, none)
      match c.chDrain n i d (((c.ch n).slots.map List.length).sum), err with
      | (c, false), _ => c
      | (c, true), some (a, st) => c.chFail n 1 a st
      | (c, true), none => if (c.ch n).done = ch.done then c else Chip.chWords c n i s d goal k

/-- One element of a MOVE, from the first word of it that is not done (R357 to R359). -/
def Chip.chElement (c : Chip) (n : Nat) (i : DmaIns) : Chip :=
  let ch := c.ch n
  let e := ch.done / i.len
  let (s, d) := ch.element i e
  let far := fun (x : Int) => decide (x < 0) || decide ((2 ^ 40 : Int) ≤ x)
  if far s || far d then c.chHalt n 2
  else
    let c := c.chWords n i s.toNat d.toNat ((e + 1) * i.len) i.len
    if c.chSt n = dsRun ∧ (c.ch n).done = i.len * ch.elements then
      (c.modCh n fun x => { x with loops := dmaNoLoops, done := 0 }).chNext n
    else c

/-- DMA_STOPPING_COMPLETE: the element or the instruction in progress has ended (R370). -/
def Chip.dmaStopped (c : Chip) (n : Nat) : Chip :=
  if c.chSt n = dsStopping ∧ !(c.ch n).rb then
    let c := match (c.ch n).cur with
      | some i => if DmaIns.op i = 1 ∧ (c.ch n).done % DmaIns.len i ≠ 0 then c.chElement n i else c
      | none => c
    let midway := match (c.ch n).cur with
      | some i => DmaIns.op i == 1 && (c.ch n).done % DmaIns.len i != 0
      | none => false
    if c.chSt n = dsStopping ∧ !midway then (c.chClear n).chGo n dsIdle else c
  else c

/-- DMA_MOVE. -/
def Chip.dmaMove (c : Chip) (n : Nat) : Chip :=
  c.chExec n (·.op == 1) fun c i => c.chDecode n i fun c i => c.chElement n i

/-- DMA_LOOP (R359). -/
def Chip.dmaLoop (c : Chip) (n : Nat) : Chip :=
  c.chExec n (·.op == 2) fun c i => c.chDecode n i fun c i =>
    let lv := (getBits i.2.2.1 0 24 + 1, toSigned 32 i.1.toNat, toSigned 32 i.2.1.toNat)
    (c.modCh n fun d => { d with loops := d.loops.set (getBits i.2.2.1 24 2) lv }).chNext n

/-- DMA_WAIT_EVENT (R361). -/
def Chip.dmaWaitEvent (c : Chip) (n : Nat) : Chip :=
  c.chExec n (fun i => i.op == 3 && i.mode == 0) fun c i =>
    let seen : Fld := ⟨R.dmaChEvseen n, getBits i.1 0 5, 1⟩
    if bitAt i.1 8 && c.fb seen then (c.setF seen 0).chNext n
    else (if bitAt i.1 8 then c else c.setF seen 0).chGo n dsWait

/-- DMA_WAIT_DOORBELL (R362). -/
def Chip.dmaWaitDoorbell (c : Chip) (n : Nat) : Chip :=
  c.chExec n (fun i => i.op == 3 && i.mode == 1) fun c i => c.chDecode n i fun c i =>
    if getBits i.1 0 16 ≤ c.f (F.dmaChDbcntDbcnt n) then c.chNext n else c.chGo n dsWait

/-- DMA_WAIT_TIME (R363). -/
def Chip.dmaWaitTime (c : Chip) (n : Nat) : Chip :=
  c.chExec n (fun i => i.op == 3 && i.mode == 2) fun c i =>
    let t := timeTarget c.linearNow i.time (bitAt i.2.2.1 3)
    if timeFar c.linearNow t then c.chHalt n 2
    else if reached64 c.linearNow t then c.chNext n
    else (c.modCh n fun d => { d with until_ := t }).chGo n dsWait

/-- DMA_WAIT_TIME_REACHED (R363). -/
def Chip.dmaTimeReached (c : Chip) (n : Nat) : Chip :=
  match c.chWaits n 2 with
  | some _ => if reached64 c.linearNow (c.ch n).until_.toNat then c.chNext n else c
  | none => c

/-- A SIGNAL pulses its line, an END finishes the program (R360, R366, R367). -/
def Chip.chComplete (c : Chip) (n : Nat) (i : DmaIns) : Chip :=
  let stop := c.chSt n == dsStopping
  let c := c.modCh n fun d => { d with rb := false, last := none }
  if i.op = 4 then
    let c := c.pulse (getBits i.1 0 5)
    if stop then (c.chClear n).chGo n dsIdle else c.chNext n
  else (c.chClear n).chGo n dsIdle

/-- SIGNAL or END after memory writes: the read-back of the last written word is due first (R367). -/
def Chip.chFinish (c : Chip) (n : Nat) (i : DmaIns) : Chip :=
  if (c.ch n).last.isSome then c.modCh n fun d => { d with rb := true } else c.chComplete n i

def Chip.dmaSignal (c : Chip) (n : Nat) : Chip := c.chExec n (·.op == 4) fun c i => c.chFinish n i

def Chip.dmaEnd (c : Chip) (n : Nat) : Chip := c.chExec n (·.op == 7) fun c i => c.chFinish n i

/-- The read-back: 4 bytes at the last word written; an error it meets is a bus error; its return shows that every write of the
channel has landed (R367). -/
def Chip.chReadBack (c : Chip) (n : Nat) : Chip :=
  match (c.ch n).cur, (c.ch n).last with
  | some i, some a =>
    let (c, _, st) := c.ctrlMemRead (.dma n) a 4
    if st ≠ 0 then c.chFail n 3 a st else ((c.chAccepted n).channelLanded n).chComplete n i
  | _, _ => c

/-- DMA_READBACK_RETURN. -/
def Chip.dmaReadBack (c : Chip) (n : Nat) : Chip :=
  if (c.ch n).rb ∧ (c.chSt n = dsRun ∨ c.chSt n = dsStopping) then c.chReadBack n else c

/-- DMA_JUMP: the fetch goes to the JUMP's own address + 16 × OFFSET (R364). -/
def Chip.dmaJump (c : Chip) (n : Nat) : Chip :=
  c.chExec n (·.op == 5) fun c i =>
    c.modCh n fun d => { d with pc := ofSigned 40 ((d.pc : Int) + 16 * toSigned 32 i.1.toNat), cur := none }

/-- DMA_PARK (R362). -/
def Chip.dmaPark (c : Chip) (n : Nat) : Chip :=
  c.chExec n (·.op == 6) fun c _ =>
    let k := c.f (F.dmaChDbcntDbcnt n)
    if 1 ≤ k then (c.setF (F.dmaChDbcntDbcnt n) (k - 1)).chNext n else c.chGo n dsPark

/-- DMA_DECODE_ERROR (R357). -/
def Chip.dmaDecodeError (c : Chip) (n : Nat) : Chip := c.chExec n DmaIns.bad fun c _ => c.chHalt n 2

/-- DMA_RETRY_GAP: the failed access alone is reissued and the channel goes on from it (R370, R372). -/
def Chip.dmaRetry (c : Chip) (n : Nat) : Chip :=
  if c.chSt n ≠ dsRetry then c
  else
    let c := c.chGo n dsRun
    match (c.ch n).cur with
    | none => (c.chFetch n).1
    | some i => if (c.ch n).rb then c.chReadBack n else if DmaIns.op i = 1 then c.chElement n i else c

end Sys2Proof.Machine
end

