-- ==== Sys2Proof/Machine/Scp.lean ====
section
/-! DEFINITION. Scp.lean: the control protocol: packets, execution, responses, replay, sessions and events
(R339 to R353, R499, 13_control_protocol.md). -/

namespace Sys2Proof.Machine

/-! ### Packets (R340, R341) -/

end Sys2Proof.Machine

namespace Sys2Proof

open Sys2Proof.Machine

/-- The source of a command (R339): who sent it on the uplink, nothing on the SPI path. -/
def ScpCmd.key (m : ScpCmd) : List Byte :=
  match m.path with
  | .ul => netKey m.net
  | .spi => []

def ScpCmd.len (m : ScpCmd) : Nat := fieldBE m.bytes 2 2
def ScpCmd.op (m : ScpCmd) : Nat := fieldBE m.bytes 1 1
def ScpCmd.tag (m : ScpCmd) : Nat := fieldBE m.bytes 4 4
def ScpCmd.addr (m : ScpCmd) : Nat := fieldBE m.bytes 8 8
def ScpCmd.count (m : ScpCmd) : Nat := fieldBE m.bytes 16 4
def ScpCmd.data (m : ScpCmd) : List Byte := (m.bytes.drop 20).take (m.len - 24)
def ScpCmd.crc (m : ScpCmd) : Nat := fieldBE m.bytes (m.len - 4) 4

/-- A command that is discarded: LEN, VER or CRC does not fit (R340). -/
def ScpCmd.broken (m : ScpCmd) : Bool :=
  decide (m.bytes.length < 24) || fieldBE m.bytes 0 1 / 16 != 1 || decide (m.len < 24) || decide (m.bytes.length < m.len)
    || (crc32c (m.bytes.take (m.len - 4))).toNat != m.crc

end Sys2Proof

namespace Sys2Proof.Machine

/-- The DATA limit of a path (R340). -/
def dataLimit (p : Path) : Nat :=
  match p with
  | .ul => 8192
  | .spi => 4096

/-- A packet closed with its CRC. -/
def scpSeal (bs : List Byte) : List Byte := bs ++ natBytesBE 4 (crc32c bs).toNat

/-- The response to a command (R341). -/
def Chip.scpResponse (c : Chip) (m : ScpCmd) (st : Nat) (data : List Byte) : List Byte :=
  scpSeal (natBytesBE 1 0x10 ++ natBytesBE 1 (m.op + 0x80) ++ natBytesBE 2 (24 + data.length) ++ natBytesBE 4 m.tag
    ++ natBytesBE 1 st ++ natBytesBE 3 0 ++ natBytesBE 4 (c.f F.scpEpochEpoch) ++ natBytesBE 4 data.length ++ data)

/-- A response leaves: on the uplink in a frame to the command's sender, only while the link is UP (R295, R339). -/
def Chip.scpSend (c : Chip) (m : ScpCmd) (bs : List Byte) : Chip :=
  match m.path with
  | .spi => c.emit (.spi bs)
  | .ul => if c.ulIsUp then c.sendFrame (c.frameTo m.key bs) else c

/-- The response to the command being executed: the SPI path shows it at once; on the uplink it waits until it leaves (R339,
R346). -/
def Chip.scpAnswer (c : Chip) (m : ScpCmd) (bs : List Byte) : Chip :=
  match m.path with
  | .spi => c.scpSend m bs
  | .ul => c.modScp fun s => { s with ulResp := some bs }

/-! ### Replay (R349) -/

end Sys2Proof.Machine

namespace Sys2Proof

open Sys2Proof.Machine

/-- Every OP except READ and PING changes state. -/
def ScpCmd.changes (m : ScpCmd) : Bool := m.op != 0x01 && m.op != 0x04

end Sys2Proof

namespace Sys2Proof.Machine

def Chip.scpKept (c : Chip) (m : ScpCmd) : Option Replay :=
  if m.changes then
    c.scp.kept.find? fun r => r.path == m.path && r.key == m.key && r.tag == m.tag && r.crc == m.crc
  else none

/-- Keeping a response: the last 64 of each path. -/
def Chip.scpKeep (c : Chip) (m : ScpCmd) (resp : List Byte) : Chip :=
  if m.changes then
    let own := (c.scp.kept.filter fun r => r.path == m.path) ++ [⟨m.path, m.key, m.tag, m.crc, resp⟩]
    let other := c.scp.kept.filter fun r => r.path != m.path
    c.modScp fun s => { s with kept := other ++ own.drop (own.length - 64) }
  else c

/-! ### Access opcodes (R342 to R344) -/

end Sys2Proof.Machine

namespace Sys2Proof

open Sys2Proof.Machine

/-- ADDR bits 63:40 set. -/
def ScpCmd.highAddr (m : ScpCmd) : Bool := decide (2 ^ 40 ≤ m.addr)

/-- COUNT against LEN (R342). -/
def ScpCmd.countBad (m : ScpCmd) : Bool :=
  match m.op with
  | 0x01 => m.len != 24
  | 0x02 | 0x10 => m.count != m.len - 24
  | 0x03 => m.count != 8 || m.len != 32
  | _ => m.len != 24

def ScpCmd.src (m : ScpCmd) : Src := .scp m.path m.key

end Sys2Proof

namespace Sys2Proof.Machine

/-- What a rejected READ carries: zeros where the clock domain stands, else nothing (R29). -/
def Chip.readRest (c : Chip) (m : ScpCmd) (st n : Nat) : List Byte :=
  if st = 0x04 ∧ c.domainRuns (domainOf m.addr) = false then List.replicate n 0#8 else []

/-- READ; of a place whose clock domain stands, 0 (R29, R342). -/
def Chip.scpRead (c : Chip) (m : ScpCmd) : Chip × Nat × List Byte :=
  let bad := rej m.highAddr 0x02 ++ rej m.countBad 0x03
  if memAddr m.addr then
    let st := pickStatus (bad ++ c.windowChecks m.src m.addr m.count false)
    if st ≠ 0 then (c, st, c.readRest m st m.count)
    else let (c, bs, st) := c.ctrlMemRead m.src m.addr m.count; (c, st, bs)
  else
    let st := pickStatus (bad ++ rej (m.count != 4) 0x02 ++ c.accessChecks m.src m.addr false)
    if st ≠ 0 then (c, st, c.readRest m st 4)
    else let (c, v, st) := c.ctrlRead m.src m.addr; (c, st, wordBytesLE v)

def Chip.scpWrite (c : Chip) (m : ScpCmd) : Chip × Nat × List Byte :=
  let bad := rej m.highAddr 0x02 ++ rej m.countBad 0x03
  if memAddr m.addr then
    let st := pickStatus (bad ++ c.windowChecks m.src m.addr m.count true)
    if st ≠ 0 then (c, st, []) else let (c, st) := c.ctrlMemWrite m.src m.addr m.data; (c, st, [])
  else
    let v := BitVec.ofNat 32 (natOfLE m.data)
    let st := pickStatus (bad ++ rej (m.count != 4) 0x02 ++ c.writeChecks m.src m.addr v)
    if st ≠ 0 then (c, st, []) else let (c, st) := c.ctrlWrite m.src m.addr v; (c, st, [])

/-- The register's current value for WRITE_MASK, W1C, W1S, WO and RC fields taken as 0 (R343). -/
def Chip.maskBase (c : Chip) (a : Nat) : Word :=
  match regAt a with
  | none => 0#32
  | some (r, _) =>
    let cur := if a = R.optData then (if optHidden (c.f F.optAddrWord) then 0#32 else c.optWord (c.f F.optAddrWord))
      else match (List.range 8).find? fun n => a == R.feTblData n with
        | some n => (c.fe n).tblGet (c.f (F.feTblAddrBank n)) (c.f (F.feTblAddrIndex n))
        | none => c.rd a
    cur &&& (r.mask .ro ||| r.mask .rw)

/-- WRITE_MASK; a push mode takes none, GLB_BOOT_CMD included (R343, R420). -/
def Chip.scpMask (c : Chip) (m : ScpCmd) : Chip × Nat × List Byte :=
  let value := BitVec.ofNat 32 (natOfLE (m.data.take 4))
  let mask := BitVec.ofNat 32 (natOfLE ((m.data.drop 4).take 4))
  let v := (c.maskBase m.addr &&& ~~~ mask) ||| (value &&& mask)
  let bad := rej (m.highAddr || memAddr m.addr) 0x02 ++ rej m.countBad 0x03
  let st := pickStatus (bad ++ c.writeChecks m.src m.addr v ++ rej c.pushMode 0x04)
  if st ≠ 0 then (c, st, []) else let (c, st) := c.ctrlWrite m.src m.addr v; (c, st, [])

/-! ### The other opcodes (R342, R345, R350, R351, R353) -/

/-- What rejects a command without a control-space address; `count` says that COUNT must be 0. -/
def Chip.plainChecks (c : Chip) (m : ScpCmd) (count : Bool) : List Nat :=
  rej (m.addr != 0 || (count && m.count != 0) || m.countBad) 0x03 ++ rej c.pushMode 0x04

def Chip.scpPing (c : Chip) (m : ScpCmd) : Chip × Nat × List Byte := (c, pickStatus (c.plainChecks m true), [])

def Chip.scpSubscribe (c : Chip) (m : ScpCmd) : Chip × Nat × List Byte :=
  let st := pickStatus (c.plainChecks m true ++ rej (m.path == .spi) 0x04)
  if st ≠ 0 then (c, st, [])
  else ((c.modScp fun s => { s with sub := some m.key }).setF F.scpSessionSubscr 1, 0, [])

/-- The token of AUTH passes (R350, R427). -/
def Chip.tokenOk (c : Chip) (t : List Byte) : Bool :=
  decide (24 ≤ t.length) && hssVerify c.ownerKey (t.take 24) (t.drop 24) && fieldBE t 0 2 == 1
    && (t.drop 4).take 8 == c.serialBytes && fieldBE t 12 4 == c.f F.scpNonceNonce && decide (fieldBE t 2 2 < 16)
    && decide (1 ≤ fieldBE t 20 4) && decide (fieldBE t 20 4 ≤ 86400000)

/-- AUTH opens or replaces the session of its path and takes a new nonce, or fails with 0x07 and report 0x60 (R350). -/
def Chip.scpAuth (c : Chip) (m : ScpCmd) : Chip × Nat × List Byte :=
  let st := pickStatus (c.plainChecks m false)
  if st ≠ 0 then (c, st, [])
  else
    let t := m.data
    if c.tokenOk t then
      let uses := fieldBE t 16 4
      let c := c.setSession m.path (some ⟨fieldBE t 2 2, if uses = 0 then none else some uses, m.key⟩)
      let (k, c) := c.fresh 14
      (c.wr R.scpNonce (BitVec.ofNat 32 k), 0, [])
    else (c.report 0x60 0, 0x07, [])

def Chip.scpDeauth (c : Chip) (m : ScpCmd) : Chip × Nat × List Byte :=
  let st := pickStatus (c.plainChecks m true)
  if st ≠ 0 then (c, st, []) else (c.setSession m.path none, 0, [])

/-- RESET: the response is sent first; the reset follows it (R345, R351, R412). -/
def Chip.scpReset (c : Chip) (m : ScpCmd) : Chip × Nat × List Byte :=
  let st := pickStatus (rej (decide (256 ≤ m.addr) || m.count != 0 || m.countBad) 0x03
    ++ rej (!c.holdsScope m.path m.key 3) 0x08 ++ c.resetChecks (m.addr % 256) ++ rej c.pushMode 0x04)
  if st ≠ 0 then (c, st, [])
  else ((c.useSession m.path m.key).modScp fun s => { s with resets := s.resets ++ [(m.path, m.addr, false)] }, 0, [])

/-! ### Execution -/

/-- An OP of R342. -/
def opKnown (op : Nat) : Bool := [0x01, 0x02, 0x03, 0x04, 0x05, 0x10, 0x11, 0x20].contains op

end Sys2Proof.Machine

namespace Sys2Proof

open Sys2Proof.Machine

/-- A command beyond the length limits of its path (R340). -/
def ScpCmd.tooLong (m : ScpCmd) : Bool :=
  decide (dataLimit m.path + 24 < m.len) || (m.op == 0x01 && decide (dataLimit m.path < m.count))

end Sys2Proof

namespace Sys2Proof.Machine

/-- The command's effect, its status and the DATA of its response (R342, R499). -/
def Chip.scpRun (c : Chip) (m : ScpCmd) : Chip × Nat × List Byte :=
  if m.tooLong then (c, 0x03, [])
  else match m.op with
    | 0x01 => c.scpRead m
    | 0x02 => c.scpWrite m
    | 0x03 => c.scpMask m
    | 0x04 => c.scpPing m
    | 0x05 => c.scpSubscribe m
    | 0x10 => c.scpAuth m
    | 0x11 => c.scpDeauth m
    | 0x20 => c.scpReset m
    | _ => (c, 0x01, [])

/-- Executing a command, or answering a retry from its kept response (R348, R349). A command that is rejected counts in SCP_REJ alone,
the one count that R348 lets it change (log entry 27). -/
def Chip.scpExec (c : Chip) (m : ScpCmd) : Chip :=
  match c.scpKept m with
  | some r => (c.inc F.scpReplayCount).scpAnswer m r.resp
  | none =>
    let (c, st, data) := c.scpRun m
    let c := c.inc (if st = 0 then F.scpRxCmdCount else F.scpRejCount)
    let resp := c.scpResponse m st data
    (c.scpKeep m resp).scpAnswer m resp

/-- A command that a full path answers at once: with 0x05, or with what rejects it before a busy path does (R339, R348, R499). -/
def Chip.scpBusy (c : Chip) (m : ScpCmd) : Chip :=
  let (_, own, data) := c.scpRun m
  let st := pickStatus [own, 0x05]
  (c.inc F.scpRejCount).scpSend m (c.scpResponse m st (if st = own then data else []))

/-- A reset requested over a path is still to come: what arrives behind it is discarded (R345). -/
def Chip.resetPending (c : Chip) (p : Path) : Bool := c.scp.resets.any fun r => r.1 == p && r.2.2

/-- The path reaches SCP: MGMT runs, and an uplink frame is one that R299 takes to SCP (R295, R339). -/
def Chip.pathUp (c : Chip) (m : ScpCmd) : Bool := c.mgmtRuns && (m.path == .spi || c.netTaken m.net 2)

/-- The frame of a command on the uplink is counted as every received frame is (R299). -/
def Chip.scpCount (c : Chip) (m : ScpCmd) : Chip :=
  match m.path with
  | .spi => c
  | .ul => c.netCount m.net (c.netTaken m.net 2)

/-- SCP_BAD_COMMAND (R340). -/
def Chip.scpBad (c : Chip) (m : ScpCmd) : Chip :=
  if !m.broken then c else if c.pathUp m then (c.scpCount m).inc F.scpRxBadCount else c.scpCount m

/-- A command arrives on its path: it is executed at once where the path is free, queued, or refused (R339, R348). -/
def Chip.scpArrive (c : Chip) (m : ScpCmd) (is : Nat → Bool) : Chip :=
  if m.broken || !is m.op then c
  else if !c.pathUp m then c.scpCount m
  else
    let c := c.scpCount m
    if c.resetPending m.path then c
    else match m.path with
      | .ul =>
        if 16 ≤ c.scp.ulq.length then c.scpBusy m
        else
          let idle := c.scp.ulq.isEmpty
          let c := c.modScp fun s => { s with ulq := s.ulq ++ [m] }
          if idle then c.scpExec m else c
      | .spi =>
        if c.scp.spi.isSome then c.scpBusy m else (c.modScp fun s => { s with spi := some m }).scpExec m

/-- The response of a RESET has left: its delay runs from now, and nothing queued behind it is executed (R345). -/
def Chip.resetLeft (c : Chip) (p : Path) : Chip :=
  c.modScp fun s => { s with resets := s.resets.map fun r => if r.1 = p then (r.1, r.2.1, true) else r }

/-- SCP_RESPONSE_LEAVES: the head's response leaves and frees its entry (R339). -/
def Chip.responseLeaves (c : Chip) : Chip :=
  match c.scp.ulq with
  | [] => c
  | h :: rest =>
    let c := match c.scp.ulResp with
      | some bs => c.scpSend h bs
      | none => c
    let c := (c.modScp fun s => { s with ulq := rest, ulResp := none }).resetLeft .ul
    if c.resetPending .ul then c.modScp fun s => { s with ulq := [] }
    else match rest with
      | m :: _ => c.scpExec m
      | [] => c

/-- SPI_RESPONSE_READ_OUT (R339). -/
def Chip.spiReadOut (c : Chip) : Chip :=
  if c.scp.spi.isSome then (c.modScp fun s => { s with spi := none }).resetLeft .spi else c

/-- SCP_RESET_DELAY_EXPIRY (R345). -/
def Chip.resetBegins (c : Chip) (p : Path) : Chip :=
  match c.scp.resets.find? fun r => r.1 == p && r.2.2 with
  | none => c
  | some r => (c.modScp fun s => { s with resets := s.resets.filter fun x => x != r }).domainReset r.2.1

/-- SCP_REPLAY_ENTRY_EXPIRY: the oldest kept response with this TAG on this path (R349). -/
def Chip.replayExpire (c : Chip) (p : Path) (tag : Nat) : Chip :=
  match c.scp.kept.find? fun r => r.path == p && r.tag == tag with
  | none => c
  | some r => c.modScp fun s => { s with kept := s.kept.erase r }

/-- The uplink leaves UP: its session ends; commands already queued still execute, their responses and the one waiting to leave
are discarded (R295, R349, R351). -/
def Chip.scpLinkDown (c : Chip) : Chip :=
  let rest := c.scp.ulq.drop 1
  let c := ((c.setSession .ul none).modScp fun s => { s with ulResp := none }).resetLeft .ul
  let c := if c.resetPending .ul then c else c.each rest fun c m => if c.resetPending .ul then c else (c.scpExec m).resetLeft .ul
  c.modScp fun s => { s with ulq := [], ulResp := none }

/-! ### Summary and events (R352, R353) -/

/-- The summary bits (R352). -/
def Chip.summary (c : Chip) : Nat :=
  let evs := ((List.range 9).map R.linkEvt) ++
    [R.ulEvt, R.orbEvt, R.cmtEvt, R.shpEvt, R.ieEvt, R.jobEvt, R.sspEvt, R.fcPend, R.eqEvt]
  (evs.zipIdx.map fun p => if c.rd p.1 = 0#32 then 0 else 2 ^ p.2).sum

/-- The enabled summary, what events and INT_N follow. -/
def Chip.enabledSum (c : Chip) : Nat := c.f F.scpSumSum &&& c.f F.scpIntEnEn

/-- Events can be formed: enabled, with a subscriber, the uplink UP (R353). -/
def Chip.eventsOn (c : Chip) : Bool := c.fb F.scpEvtCfgEn && c.scp.sub.isSome && c.ulIsUp

/-- SCP_SUM follows the event registers; a bit of the enabled summary that rises calls for an event packet (R352, R353). -/
def Chip.sumUpdate (c : Chip) : Chip :=
  let c := c.setF F.scpSumSum c.summary
  let now := c.enabledSum
  let up := (List.range 18).any fun k => now.testBit k && !c.scp.seen.testBit k
  let rose := c.eventsOn && (c.scp.rose || up)
  c.modScp fun s => { s with seen := now, rose := rose }

/-- The uplink is UP again with a non-zero value: a packet is due as for a change (R353). -/
def Chip.eventLinkUp (c : Chip) : Chip :=
  if c.eventsOn ∧ c.enabledSum ≠ 0 then c.modScp fun s => { s with rose := true } else c

/-- HOLDOFF_US since the last packet has passed. -/
def Chip.holdoffOver (c : Chip) : Bool :=
  match c.scp.evTime with
  | none => true
  | some t => decide (t + 1000 * c.f F.scpEvtCfgHoldoffUs ≤ c.upNs)

/-- One event packet (R341, R353). -/
def Chip.eventForm (c : Chip) : Chip :=
  match c.scp.sub with
  | none => c
  | some key =>
    let bs := scpSeal (natBytesBE 1 0x10 ++ natBytesBE 1 0xC0 ++ natBytesBE 2 32 ++ natBytesBE 4 0 ++ natBytesBE 4 0
      ++ natBytesBE 4 (c.f F.scpEpochEpoch) ++ natBytesBE 4 8 ++ natBytesBE 4 c.scp.evSeq ++ natBytesBE 4 c.enabledSum)
    let c := (c.sendFrame (c.frameTo key bs)).inc F.scpEvtTxCount
    c.modScp fun s => { s with evSeq := (s.evSeq + 1) % 2 ^ 32, rose := false, evTime := some c.upNs }

/-- A response or an event packet waits to leave, which goes before SSP frames (R300). -/
def Chip.scpFirst (c : Chip) : Bool := c.ulIsUp && (c.scp.ulResp.isSome || (c.eventsOn && c.scp.rose && c.holdoffOver))

/-- EVENT_PACKET_SEND. -/
def Chip.eventSend (c : Chip) : Chip := if c.eventsOn && c.scp.rose && c.holdoffOver then c.eventForm else c

/-- EVENT_REPEAT_TIMER. -/
def Chip.eventRepeat (c : Chip) : Chip :=
  if c.eventsOn && c.enabledSum != 0 && c.f F.scpEvtCfgRepeatMs != 0 && c.holdoffOver then c.eventForm else c

end Sys2Proof.Machine
end

