-- ==== Sys2Proof/Machine/Settle.lean ====
section
/-! DEFINITION. Machine/Settle.lean: what follows a command before the next one: reports reach the FC and draw its
reactions, work owed by another block is done, released banks say so, and the summary follows the event registers. -/

namespace Sys2Proof.Machine

/-- After a step of Orbit every time target that now lies in the past is reached at once: WAITs of DMA channels, press outputs and
the deadlines of expected lines (R124, R311, R333, R363). -/
def Chip.targetsReached (c : Chip) : Chip :=
  ((c.each (List.range 16) Chip.dmaTimeReached).each (List.range 8) Chip.feDeadline).outsUpdate

/-- Work one block owes another (R196, R230, R279, R328, R353, R455, R460). -/
def Chip.doDefer (c : Chip) : Defer → Chip
  | .pairDown => c.pairDown
  | .ulDown => c.scpLinkDown
  | .ulUp => c.eventLinkUp
  | .bandNew b => c.joinBand b
  | .bandLoaded b => c.sendField b
  | .bandDigest t d => c.digestOut t d
  | .colourStatus t dropped => c.pairSend 0x09 (natBytesBE 4 t ++ natBytesBE 1 (if dropped then 1 else 0) ++ natBytesBE 3 0)
  | .fidMark t => c.fidMarkAt t
  | .fidMissing s => c.fidMissed s
  | .stopCut => c.stopCut
  | .stopCheck => c.stopCheck
  | .stepped => c.targetsReached

/-- How many reports can wait for the FC, with room for those that its reactions raise. -/
def Chip.fcFuel (c : Chip) : Nat := c.reports.length + c.fc.waiting.length + 100

/-- Reports first, then the oldest piece of work owed, until neither is left. -/
def Chip.settleLoop : Nat → Chip → Chip
  | 0, c => c
  | k + 1, c =>
    let c := Chip.fcSettle c.fcFuel c
    match c.defers with
    | [] => c
    | d :: rest => Chip.settleLoop k ({ c with defers := rest }.doDefer d)

/-- Every block that has let go of the old bank clears its OLD_BUSY (R139, R156, R196, R220, R287). -/
def Chip.releases (c : Chip) : Chip :=
  (((((c.each (List.range 8) Chip.feRelease).stcRelease).ieRelease).csRelease).sspRelease).stopCheck

/-- What every command ends with. -/
def Chip.settle (c : Chip) : Chip :=
  let c := Chip.settleLoop (c.defers.length + 100) c
  ((c.releases).serveDseq).sumUpdate

/-- A meaning: the outputs of the command before are gone, the command has its effect, and the device settles. -/
def run (s : State) (f : Chip → Chip) : Host.Outcome State Fault Refusal :=
  .next { s with chip := (f { s.chip with out := [] }).settle }

/-- A command with an operand that must name something the device has: it acts only where that holds. -/
def runIf (s : State) (ok : Bool) (f : Chip → Chip) : Host.Outcome State Fault Refusal :=
  run s fun c => if ok then f c else c

/-- An event of a block: it acts only while the block's clock domain runs (R27, R29, R403, R411). -/
def runIn (s : State) (d : Nat) (ok : Bool) (f : Chip → Chip) : Host.Outcome State Fault Refusal :=
  run s fun c => if ok && c.domainRuns d then f c else c

/-- The clock domain of the lanes of a block: HL for head ports and the pair link, UL for the uplink (R31). -/
def laneDomain (n : Nat) : Nat := if n = 9 then 5 else 4

/-- What the device does while no command waits: one period of the TIME clock, which moves Orbit where TIME runs (R305, R307), and
in which lanes and links send what falls due (R62, R77, R98; log entry 1). -/
def Chip.tick (c : Chip) : Chip :=
  let c := { c with out := [] }
  let c := if c.domainRuns 2 then c.orbTick else c.modOrb fun o => { o with ticks := o.ticks + 1 }
  let c := if c.domainRuns 4 then c.trecAgain.each (List.range 9) fun c n => (c.linkTick n).testTick n else c
  (if c.domainRuns 5 then c.testTick 9 else c).settle

end Sys2Proof.Machine
end

