-- ==== Sys2Proof/Machine/ExecBoot.lean ====
section
/-! DEFINITION. ExecBoot.lean: the meanings of the commands of reset, boot, the option store, security and supplies
(17_reset_boot_security.md, 20_pins_electrical.md), one each. -/

namespace Sys2Proof.Machine

/-- POWER_ON (R413). -/
def execPowerOn (s : State) : Host.Outcome State Fault Refusal :=
  run s fun c => c.powerOn

/-- PWRGD_LOW (R411). -/
def execPwrgdLow (s : State) : Host.Outcome State Fault Refusal :=
  run s fun c => c.powerLow

/-- RESET_N_ASSERT (R413). -/
def execResetNAssert (s : State) : Host.Outcome State Fault Refusal :=
  run s fun c => c.pinReset

/-- RESET_HOLD_END (R413). -/
def execResetHoldEnd (s : State) : Host.Outcome State Fault Refusal :=
  run s fun c => c.holdEnd

/-- WATCHDOG_KICK (R414). -/
def execWatchdogKick (src : Src) (s : State) : Host.Outcome State Fault Refusal :=
  run s fun c => c.writeOp src R.rstWdtKick 0x0000A5C3#32

/-- WATCHDOG_EXPIRY (R414). -/
def execWatchdogExpiry (s : State) : Host.Outcome State Fault Refusal :=
  run s fun c => c.watchdog

/-- RST_MATE_REQ (R414). -/
def execRstMateReq (src : Src) (v : Word) (s : State) : Host.Outcome State Fault Refusal :=
  run s fun c => c.writeOp src R.rstMate (force F.rstMateReq 1 v)

/-- MATE_RESET_REQUEST_RX (R414). -/
def execMateResetRequestRx (pk : RxPkt) (s : State) : Host.Outcome State Fault Refusal :=
  runIn s 4 true fun c => c.pairUse 0x0D pk fun c _ => c.mateResetRx

/-- BOOT_AON_START (R417). -/
def execBootAonStart (s : State) : Host.Outcome State Fault Refusal :=
  run s fun c => c.bootAt 1 (·.bootTo 2)

/-- BOOT_TRIM_LOAD_DONE (R419). -/
def execBootTrimLoadDone (s : State) : Host.Outcome State Fault Refusal :=
  run s fun c => c.bootAt 2 (·.trimLoad)

/-- BOOT_STRAP_SAMPLE (R416). -/
def execBootStrapSample (up : Nat) (down : Nat) (s : State) : Host.Outcome State Fault Refusal :=
  runIf s (up < 1024 && down < 1024) fun c => c.bootAt 3 (·.strapSample up down)

/-- BOOT_PLL_LOCK (R417). -/
def execBootPllLock (s : State) : Host.Outcome State Fault Refusal :=
  run s fun c => c.bootAt 4 (·.pllLock)

/-- BOOT_PLL_TIMEOUT (R418). -/
def execBootPllTimeout (s : State) : Host.Outcome State Fault Refusal :=
  run s fun c => c.bootAt 4 (·.bootFail 3)

/-- BOOT_PART_VERIFIED (R423). -/
def execBootPartVerified (imgs : List (List Byte)) (s : State) : Host.Outcome State Fault Refusal :=
  runIf s (imgs.length ≤ 2) fun c => c.bootVerify imgs

/-- BOOT_PUSH_GO (R420). -/
def execBootPushGo (src : Src) (v : Word) (s : State) : Host.Outcome State Fault Refusal :=
  run s fun c => c.writeOp src R.glbBootCmd (force F.glbBootCmdGo 1 v)

/-- BOOT_REG_APPLIED (R417). -/
def execBootRegApplied (trained : List Nat) (s : State) : Host.Outcome State Fault Refusal :=
  runIf s (trained.all (· < 6)) fun c => c.bootAt 6 (·.regApply trained)

/-- OPT_DATA_WRITE (R425). -/
def execOptDataWrite (src : Src) (v : Word) (s : State) : Host.Outcome State Fault Refusal :=
  run s fun c => c.writeOp src R.optData v

/-- OPT_DATA_READ (R426). -/
def execOptDataRead (src : Src) (s : State) : Host.Outcome State Fault Refusal :=
  run s fun c => c.readOp src R.optData

/-- OPT_WRITE_PULSE_DONE (R425). -/
def execOptWritePulseDone (ok : Bool) (s : State) : Host.Outcome State Fault Refusal :=
  run s fun c => c.optPulseDone ok

/-- SEC_ATTEST (R428). -/
def execSecAttest (src : Src) (v : Word) (s : State) : Host.Outcome State Fault Refusal :=
  run s fun c => c.writeOp src R.secCmd (force F.secCmdOp 1 v)

/-- SEC_ATTEST_DONE (R428). -/
def execSecAttestDone (s : State) : Host.Outcome State Fault Refusal :=
  runIn s 1 true fun c => c.attestDone

/-- SEC_SVN_COMMIT (R427). -/
def execSecSvnCommit (src : Src) (v : Word) (s : State) : Host.Outcome State Fault Refusal :=
  run s fun c => c.writeOp src R.secCmd (force F.secCmdOp 2 v)

/-- SEC_OWN (R427). -/
def execSecOwn (src : Src) (v : Word) (s : State) : Host.Outcome State Fault Refusal :=
  run s fun c => c.writeOp src R.secCmd (force F.secCmdOp 3 v)

/-- THERMAL_TRIP (R448). -/
def execThermalTrip (s : State) : Host.Outcome State Fault Refusal :=
  run s fun c => c.thermalTrip

/-- THERMAL_TRIP_RELEASE (R448). -/
def execThermalTripRelease (s : State) : Host.Outcome State Fault Refusal :=
  run s fun c => c.tripRelease

/-- RAIL_UNDERVOLTAGE (R487). -/
def execRailUndervoltage (s : State) : Host.Outcome State Fault Refusal :=
  run s fun c => c.powerLow

/-- AON_UNDERVOLTAGE (R487). -/
def execAonUndervoltage (s : State) : Host.Outcome State Fault Refusal :=
  run s fun c => c.aonLow

/-- TESTMODE_HIGH (R479). -/
def execTestmodeHigh (high : Bool) (s : State) : Host.Outcome State Fault Refusal :=
  run s fun c => c.testMode high

end Sys2Proof.Machine
end

