-- ==== Sys2Proof/Machine/ExecClk.lean ====
section
/-! DEFINITION. ExecClk.lean: the meanings of the commands of clocks (16_clocks.md), one each. -/

namespace Sys2Proof.Machine

/-- CLK_MONITOR_WINDOW (R396). -/
def execClkMonitorWindow (counts : List (Option Nat)) (plls : List Nat)
    (s : State) : Host.Outcome State Fault Refusal :=
  runIf s (counts.length == 5 && plls.all (· < 5)) fun c => c.clkMonitor counts plls

/-- CLK_SOURCE_STOP (R396). -/
def execClkSourceStop (j : Nat) (s : State) : Host.Outcome State Fault Refusal :=
  runIf s (j < 10) fun c => c.clkStop j

/-- CLK_STARTUP_WAIT_END (R395). -/
def execClkStartupWaitEnd (j : Nat) (s : State) : Host.Outcome State Fault Refusal :=
  runIf s (j < 2) fun c => c.clkWaitEnd j

/-- CLK_PLL_RELOCK (R400). -/
def execClkPllRelock (s : State) : Host.Outcome State Fault Refusal :=
  run s fun c => c.clkRelock

/-- CLK_HOLDOVER_EXPIRY (R403). -/
def execClkHoldoverExpiry (s : State) : Host.Outcome State Fault Refusal :=
  run s fun c => c.clkExpire

/-- CLK_FALLBACK_REENABLE (R401). -/
def execClkFallbackReenable (s : State) : Host.Outcome State Fault Refusal :=
  run s fun c => c.clkReenable

/-- CLK_PLL_LOCK_LOSS (R398). -/
def execClkPllLockLoss (p : Nat) (s : State) : Host.Outcome State Fault Refusal :=
  runIf s (p < 5) fun c => c.clkLockLoss p

/-- CORE_PLL_STANDBY_RESTORE (R445). -/
def execCorePllStandbyRestore (s : State) : Host.Outcome State Fault Refusal :=
  run s fun c => c.coreRestore

/-- CLK_SELECTOR_HANG (R409). -/
def execClkSelectorHang (d : Nat) (s : State) : Host.Outcome State Fault Refusal :=
  runIf s (d < 4) fun c => c.clkHang d

/-- CLK_REVERT (R402). -/
def execClkRevert (src : Src) (v : Word) (s : State) : Host.Outcome State Fault Refusal :=
  run s fun c => c.writeOp src R.clkCmd (force F.clkCmdRevert 1 v)

/-- CLK_FORCE (R409). -/
def execClkForce (src : Src) (v : Word) (s : State) : Host.Outcome State Fault Refusal :=
  run s fun c => c.writeOp src R.clkCmd (force F.clkCmdForce 1 v)

end Sys2Proof.Machine
end

