-- ==== Sys2Proof/Machine/ExecComet.lean ====
section
/-! DEFINITION. ExecComet.lean: the meanings of the commands of Comet, its encoders, triggers and outputs
(12_comet_press.md), one each. -/

namespace Sys2Proof.Machine

/-- ENCODER_COUNT (R320). -/
def execEncoderCount (e : Nat) (a : Bool) (b : Bool) (s : State) : Host.Outcome State Fault Refusal :=
  runIn s 2 (e < 2) fun c => c.encCount e a b

/-- ENCODER_ILLEGAL (R320). -/
def execEncoderIllegal (e : Nat) (s : State) : Host.Outcome State Fault Refusal :=
  runIn s 2 (e < 2) fun c => c.encIllegal e

/-- ENC_POSITION_READ (R321). -/
def execEncPositionRead (src : Src) (e : Nat) (s : State) : Host.Outcome State Fault Refusal :=
  runIf s (e < 2) fun c => c.readOp src (R.cmtEncLo e)

/-- TRIGGER_DUE_TIMER (R322). -/
def execTriggerDueTimer (s : State) : Host.Outcome State Fault Refusal :=
  runIn s 2 true fun c => c.timerDue

/-- CMT_HOST_TRIGGER (R322). -/
def execCmtHostTrigger (src : Src) (v : Word) (s : State) : Host.Outcome State Fault Refusal :=
  run s fun c => c.writeOp src R.cmtHost (force F.cmtHostOp 1 v)

/-- CMT_HOST_PULSE (R336). -/
def execCmtHostPulse (src : Src) (v : Word) (s : State) : Host.Outcome State Fault Refusal :=
  run s fun c => c.writeOp src R.cmtHost (force F.cmtHostOp 2 v)

/-- SHEET_EDGE_CANDIDATE (R327). -/
def execSheetEdgeCandidate (j : Nat) (level : Bool) (s : State) : Host.Outcome State Fault Refusal :=
  runIn s 2 (j < 2) fun c => c.sheetEdge j level

/-- SHEET_EDGE_ACCEPT (R327). -/
def execSheetEdgeAccept (j : Nat) (s : State) : Host.Outcome State Fault Refusal :=
  runIn s 2 (j < 2) fun c => c.sheetAccept j

/-- ENCODER_Z_EDGE (R327). -/
def execEncoderZEdge (e : Nat) (s : State) : Host.Outcome State Fault Refusal :=
  runIn s 2 (e < 2) fun c => c.zEdge e

/-- TREC_RX (R328). -/
def execTrecRx (pk : RxPkt) (s : State) : Host.Outcome State Fault Refusal :=
  runIn s 4 true fun c => c.pairUse 0x02 pk fun c bs => c.trecTake bs

/-- TAKEOVER_TIMEOUT (R329). -/
def execTakeoverTimeout (s : State) : Host.Outcome State Fault Refusal :=
  runIn s 2 true fun c => c.takeoverTimeout

/-- HOST_PULSE_TIME_EDGE (R336). -/
def execHostPulseTimeEdge (k : Nat) (s : State) : Host.Outcome State Fault Refusal :=
  runIn s 2 (k < 24) fun c => c.pulseEdge k

/-- STROBE_EDGE (R335). -/
def execStrobeEdge (k : Nat) (s : State) : Host.Outcome State Fault Refusal :=
  runIn s 2 (k < 24) fun c => c.strobeEdge k

/-- CMT_OUT_CFG_WRITE (R332). -/
def execCmtOutCfgWrite (src : Src) (k : Nat) (v : Word) (s : State) : Host.Outcome State Fault Refusal :=
  runIf s (k < 24) fun c => c.writeOp src (R.cmtOutCfg k) v

/-- SHEET_CANDIDATE_DISCARD (R327). -/
def execSheetCandidateDiscard (j : Nat) (s : State) : Host.Outcome State Fault Refusal :=
  runIn s 2 (j < 2) fun c => c.sheetDiscard j

end Sys2Proof.Machine
end

