-- ==== Sys2Proof/Machine/ExecControl.lean ====
section
/-! DEFINITION. ExecControl.lean: the meanings of the commands of register accesses, SCP commands and events
(13_control_protocol.md), one each. -/

namespace Sys2Proof.Machine

/-- REGISTER_WRITE (R16). -/
def execRegisterWrite (src : Src) (a : Nat) (v : Word) (s : State) : Host.Outcome State Fault Refusal :=
  run s fun c => c.writeOp src a v

/-- RC_REGISTER_READ (R16). -/
def execRcRegisterRead (src : Src) (a : Nat) (s : State) : Host.Outcome State Fault Refusal :=
  run s fun c => c.readOp src a

/-- SCP_BAD_COMMAND (R340). -/
def execScpBadCommand (m : ScpCmd) (s : State) : Host.Outcome State Fault Refusal :=
  run s fun c => c.scpBad m

/-- SCP_UNKNOWN_OPCODE (R342). -/
def execScpUnknownOpcode (m : ScpCmd) (s : State) : Host.Outcome State Fault Refusal :=
  run s fun c => c.scpArrive m fun op => !opKnown op

/-- SCP_READ (R342). -/
def execScpRead (m : ScpCmd) (flips : List (Nat × Bool)) (s : State) : Host.Outcome State Fault Refusal :=
  run s fun c => (c.flip flips).scpArrive m (· == 0x01)

/-- SCP_WRITE (R344). -/
def execScpWrite (m : ScpCmd) (flips : List (Nat × Bool)) (s : State) : Host.Outcome State Fault Refusal :=
  run s fun c => (c.flip flips).scpArrive m (· == 0x02)

/-- SCP_WRITE_MASK (R343). -/
def execScpWriteMask (m : ScpCmd) (s : State) : Host.Outcome State Fault Refusal :=
  run s fun c => c.scpArrive m (· == 0x03)

/-- SCP_PING (R342). -/
def execScpPing (m : ScpCmd) (s : State) : Host.Outcome State Fault Refusal :=
  run s fun c => c.scpArrive m (· == 0x04)

/-- SCP_SUBSCRIBE (R353). -/
def execScpSubscribe (m : ScpCmd) (s : State) : Host.Outcome State Fault Refusal :=
  run s fun c => c.scpArrive m (· == 0x05)

/-- SCP_AUTH (R350). -/
def execScpAuth (m : ScpCmd) (s : State) : Host.Outcome State Fault Refusal :=
  run s fun c => c.scpArrive m (· == 0x10)

/-- SCP_DEAUTH (R351). -/
def execScpDeauth (m : ScpCmd) (s : State) : Host.Outcome State Fault Refusal :=
  run s fun c => c.scpArrive m (· == 0x11)

/-- SCP_RESET (R345). -/
def execScpReset (m : ScpCmd) (s : State) : Host.Outcome State Fault Refusal :=
  run s fun c => c.scpArrive m (· == 0x20)

/-- SCP_RESET_DELAY_EXPIRY (R345). -/
def execScpResetDelayExpiry (p : Path) (s : State) : Host.Outcome State Fault Refusal :=
  runIn s 1 true fun c => c.resetBegins p

/-- SESSION_LIFE_EXPIRY (R351). -/
def execSessionLifeExpiry (p : Path) (s : State) : Host.Outcome State Fault Refusal :=
  runIn s 1 true fun c => c.setSession p none

/-- SCP_REPLAY_ENTRY_EXPIRY (R349). -/
def execScpReplayEntryExpiry (p : Path) (tag : Nat) (s : State) : Host.Outcome State Fault Refusal :=
  runIn s 1 true fun c => c.replayExpire p tag

/-- EVENT_PACKET_SEND (R353). -/
def execEventPacketSend (s : State) : Host.Outcome State Fault Refusal :=
  runIn s 1 true fun c => c.eventSend

/-- EVENT_REPEAT_TIMER (R353). -/
def execEventRepeatTimer (s : State) : Host.Outcome State Fault Refusal :=
  runIn s 1 true fun c => c.eventRepeat

/-- SPI_RESPONSE_READ_OUT (R339). -/
def execSpiResponseReadOut (s : State) : Host.Outcome State Fault Refusal :=
  runIn s 1 true fun c => c.spiReadOut

/-- SCP_RESPONSE_LEAVES (R339). -/
def execScpResponseLeaves (s : State) : Host.Outcome State Fault Refusal :=
  runIn s 1 true fun c => c.responseLeaves

end Sys2Proof.Machine
end

