-- ==== Sys2Proof/Machine/ExecDma.lean ====
section
/-! DEFINITION. ExecDma.lean: the meanings of the commands of DMA channels, check-value units and event queues
(14_dma.md, 15_checks_queues.md), one each. -/

namespace Sys2Proof.Machine

/-- DMA_GO (R370). -/
def execDmaGo (src : Src) (n : Nat) (v : Word) (s : State) : Host.Outcome State Fault Refusal :=
  runIf s (n < 16) fun c => c.writeOp src (R.dmaChCtrl n) (force (F.dmaChCtrlGo n) 1 v)

/-- DMA_STOP (R370). -/
def execDmaStop (src : Src) (n : Nat) (v : Word) (s : State) : Host.Outcome State Fault Refusal :=
  runIf s (n < 16) fun c => c.writeOp src (R.dmaChCtrl n) (force (F.dmaChCtrlStop n) 1 v)

/-- DMA_STOPPING_COMPLETE (R370). -/
def execDmaStoppingComplete (n : Nat) (s : State) : Host.Outcome State Fault Refusal :=
  runIn s 1 (n < 16) fun c => c.dmaStopped n

/-- DMA_DBCLR (R362). -/
def execDmaDbclr (src : Src) (n : Nat) (v : Word) (s : State) : Host.Outcome State Fault Refusal :=
  runIf s (n < 16) fun c => c.writeOp src (R.dmaChCtrl n) (force (F.dmaChCtrlDbclr n) 1 v)

/-- DMA_DOORBELL (R362). -/
def execDmaDoorbell (src : Src) (n : Nat) (v : Word) (s : State) : Host.Outcome State Fault Refusal :=
  runIf s (n < 16) fun c => c.writeOp src (R.dmaChDoorbell n) v

/-- DMA_MOVE (R358). -/
def execDmaMove (n : Nat) (flips : List (Nat × Bool)) (s : State) : Host.Outcome State Fault Refusal :=
  runIn s 1 (n < 16) fun c => (c.flip flips).dmaMove n

/-- DMA_LOOP (R359). -/
def execDmaLoop (n : Nat) (s : State) : Host.Outcome State Fault Refusal :=
  runIn s 1 (n < 16) fun c => c.dmaLoop n

/-- DMA_WAIT_EVENT (R361). -/
def execDmaWaitEvent (n : Nat) (s : State) : Host.Outcome State Fault Refusal :=
  runIn s 1 (n < 16) fun c => c.dmaWaitEvent n

/-- DMA_WAIT_DOORBELL (R362). -/
def execDmaWaitDoorbell (n : Nat) (s : State) : Host.Outcome State Fault Refusal :=
  runIn s 1 (n < 16) fun c => c.dmaWaitDoorbell n

/-- DMA_WAIT_TIME (R363). -/
def execDmaWaitTime (n : Nat) (s : State) : Host.Outcome State Fault Refusal :=
  runIn s 1 (n < 16) fun c => c.dmaWaitTime n

/-- DMA_WAIT_TIME_REACHED (R363). -/
def execDmaWaitTimeReached (n : Nat) (s : State) : Host.Outcome State Fault Refusal :=
  runIn s 1 (n < 16) fun c => c.dmaTimeReached n

/-- DMA_SIGNAL (R360). -/
def execDmaSignal (n : Nat) (s : State) : Host.Outcome State Fault Refusal :=
  runIn s 1 (n < 16) fun c => c.dmaSignal n

/-- DMA_JUMP (R364). -/
def execDmaJump (n : Nat) (s : State) : Host.Outcome State Fault Refusal :=
  runIn s 1 (n < 16) fun c => c.dmaJump n

/-- DMA_PARK (R362). -/
def execDmaPark (n : Nat) (s : State) : Host.Outcome State Fault Refusal :=
  runIn s 1 (n < 16) fun c => c.dmaPark n

/-- DMA_END (R366). -/
def execDmaEnd (n : Nat) (s : State) : Host.Outcome State Fault Refusal :=
  runIn s 1 (n < 16) fun c => c.dmaEnd n

/-- DMA_DECODE_ERROR (R357). -/
def execDmaDecodeError (n : Nat) (s : State) : Host.Outcome State Fault Refusal :=
  runIn s 1 (n < 16) fun c => c.dmaDecodeError n

/-- DMA_READBACK_RETURN (R367). -/
def execDmaReadbackReturn (n : Nat) (flips : List (Nat × Bool)) (s : State) : Host.Outcome State Fault Refusal :=
  runIn s 1 (n < 16) fun c => (c.flip flips).dmaReadBack n

/-- DMA_RETRY_GAP (R372). -/
def execDmaRetryGap (n : Nat) (s : State) : Host.Outcome State Fault Refusal :=
  runIn s 1 (n < 16) fun c => c.dmaRetry n

/-- CVU_DATA_WRITE (R376). -/
def execCvuDataWrite (src : Src) (n : Nat) (v : Word) (s : State) : Host.Outcome State Fault Refusal :=
  runIf s (n < 8) fun c => c.writeOp src (R.cvuData n) v

/-- CVU_CLOSE (R377). -/
def execCvuClose (src : Src) (n : Nat) (v : Word) (s : State) : Host.Outcome State Fault Refusal :=
  runIf s (n < 8) fun c => c.writeOp src (R.cvuCtrl n) (force (F.cvuCtrlClose n) 1 v)

/-- CVU_GO (R376). -/
def execCvuGo (src : Src) (n : Nat) (v : Word) (s : State) : Host.Outcome State Fault Refusal :=
  runIf s (n < 8) fun c => c.writeOp src (R.cvuCtrl n) (force (F.cvuCtrlGo n) 1 v)

/-- CVU_ABORT (R380). -/
def execCvuAbort (src : Src) (n : Nat) (v : Word) (s : State) : Host.Outcome State Fault Refusal :=
  runIf s (n < 8) fun c => c.writeOp src (R.cvuCtrl n) (force (F.cvuCtrlAbort n) 1 v)

/-- CVU_READ_RUN_COMPLETE (R377). -/
def execCvuReadRunComplete (n : Nat) (s : State) : Host.Outcome State Fault Refusal :=
  runIn s 1 (n < 8) fun c => c.cvuRunDone n

/-- CVU_READ_ECC_ERROR (R382). -/
def execCvuReadEccError (n : Nat) (word : Nat) (s : State) : Host.Outcome State Fault Refusal :=
  runIn s 1 (n < 8) fun c => c.cvuEccError n word

/-- EQ_OPEN (R387). -/
def execEqOpen (src : Src) (n : Nat) (v : Word) (s : State) : Host.Outcome State Fault Refusal :=
  runIf s (n < 4) fun c => c.writeOp src (R.eqWcmd n) (force (F.eqWcmdOp n) 1 v)

/-- EQ_WDATA (R387). -/
def execEqWdata (src : Src) (n : Nat) (v : Word) (s : State) : Host.Outcome State Fault Refusal :=
  runIf s (n < 4) fun c => c.writeOp src (R.eqWdata n) v

/-- EQ_CLOSE (R387). -/
def execEqClose (src : Src) (n : Nat) (v : Word) (s : State) : Host.Outcome State Fault Refusal :=
  runIf s (n < 4) fun c => c.writeOp src (R.eqWcmd n) (force (F.eqWcmdOp n) 2 v)

/-- EQ_ABORT (R387). -/
def execEqAbort (src : Src) (n : Nat) (v : Word) (s : State) : Host.Outcome State Fault Refusal :=
  runIf s (n < 4) fun c => c.writeOp src (R.eqWcmd n) (force (F.eqWcmdOp n) 3 v)

/-- EQ_POP (R389). -/
def execEqPop (src : Src) (n : Nat) (v : Word) (s : State) : Host.Outcome State Fault Refusal :=
  runIf s (n < 4) fun c => c.writeOp src (R.eqPop n) v

end Sys2Proof.Machine
end

