-- ==== Sys2Proof/Machine/ExecFault.lean ====
section
/-! DEFINITION. ExecFault.lean: the meanings of the commands of the fault controller and the pair block
(18_faults_pair.md), one each. -/

namespace Sys2Proof.Machine

/-- FC_INJECT_GO (R463). -/
def execFcInjectGo (src : Src) (v : Word) (s : State) : Host.Outcome State Fault Refusal :=
  run s fun c => c.writeOp src R.fcInject (force F.fcInjectGo 1 v)

/-- FC_PEND_ACK (R438). -/
def execFcPendAck (src : Src) (v : Word) (s : State) : Host.Outcome State Fault Refusal :=
  run s fun c => c.writeOp src R.fcPend v

/-- FC_FIRST_CLR (R436). -/
def execFcFirstClr (src : Src) (v : Word) (s : State) : Host.Outcome State Fault Refusal :=
  run s fun c => c.writeOp src R.fcCtrl (force F.fcCtrlFirstClr 1 v)

/-- FC_WITHDRAW (R457). -/
def execFcWithdraw (src : Src) (v : Word) (s : State) : Host.Outcome State Fault Refusal :=
  run s fun c => c.writeOp src R.fcCtrl (force F.fcCtrlWithdraw 1 v)

/-- WITHDRAW_TRIG_ROUND_LEFT (R457). -/
def execWithdrawTrigRoundLeft (s : State) : Host.Outcome State Fault Refusal :=
  runIn s 1 true fun c => c.withdrawStep

/-- FC_RESUME (R459). -/
def execFcResume (src : Src) (v : Word) (s : State) : Host.Outcome State Fault Refusal :=
  run s fun c => c.writeOp src R.fcCtrl (force F.fcCtrlResume 1 v)

/-- WEAR_HOURLY (R444). -/
def execWearHourly (s : State) : Host.Outcome State Fault Refusal :=
  runIn s 1 true fun c => c.wearHourly

/-- FC_WEAR_LIM_WRITE (R444). -/
def execFcWearLimWrite (src : Src) (v : Word) (s : State) : Host.Outcome State Fault Refusal :=
  run s fun c => c.writeOp src R.fcWearLim v

/-- PAIR_STATE_SEND (R453). -/
def execPairStateSend (s : State) : Host.Outcome State Fault Refusal :=
  runIn s 4 true fun c => c.sendState

/-- PAIR_STATE_RX (R451). -/
def execPairStateRx (pk : RxPkt) (s : State) : Host.Outcome State Fault Refusal :=
  runIn s 4 true fun c => c.pairUse 0x01 pk fun c bs => c.stateRx bs

/-- PAIR_STATE_TIMEOUT (R451). -/
def execPairStateTimeout (s : State) : Host.Outcome State Fault Refusal :=
  runIn s 4 true fun c => c.stateTimeout

/-- PAIR_WITHDRAW_RX (R451). -/
def execPairWithdrawRx (pk : RxPkt) (s : State) : Host.Outcome State Fault Refusal :=
  runIn s 4 true fun c => c.pairUse 0x0C pk fun c bs => c.withdrawRx (fieldBE bs 8 4)

/-- PAIR_JOIN_CMD (R460). -/
def execPairJoinCmd (src : Src) (v : Word) (s : State) : Host.Outcome State Fault Refusal :=
  run s fun c => c.writeOp src R.plCmd (force F.plCmdJoin 1 v)

/-- PAIR_JOIN_RX (R460). -/
def execPairJoinRx (pk : RxPkt) (s : State) : Host.Outcome State Fault Refusal :=
  runIn s 4 true fun c => c.pairUse 0x0E pk fun c bs => c.joinRx (fieldBE bs 8 4)

/-- PAIR_JOIN_ACK_RX (R460). -/
def execPairJoinAckRx (pk : RxPkt) (s : State) : Host.Outcome State Fault Refusal :=
  runIn s 4 true fun c => c.pairUse 0x0F pk fun c bs => c.joinAckRx (fieldBE bs 8 1 != 0)

/-- PAIR_FIELD_RX (R460). -/
def execPairFieldRx (pk : RxPkt) (s : State) : Host.Outcome State Fault Refusal :=
  runIn s 4 true fun c => c.pairUse 0x10 pk fun c bs => c.fieldRx bs

/-- PAIR_DSEQ_RX (R461). -/
def execPairDseqRx (pk : RxPkt) (s : State) : Host.Outcome State Fault Refusal :=
  runIn s 4 true fun c => c.pairUse 0x11 pk fun c bs => c.dseqRx (fieldBE bs 12 4)

/-- PAIR_BDIG_RX (R455). -/
def execPairBdigRx (pk : RxPkt) (s : State) : Host.Outcome State Fault Refusal :=
  runIn s 4 true fun c => c.pairUse 0x0A pk fun c bs => c.bdigRx (fieldBE bs 8 4) (fieldBE bs 12 4)

/-- PAIR_BDIG_TIMEOUT (R455). -/
def execPairBdigTimeout (s : State) : Host.Outcome State Fault Refusal :=
  runIn s 4 true fun c => c.bdigTimeout

/-- PAIR_TCHK_TIMER (R456). -/
def execPairTchkTimer (s : State) : Host.Outcome State Fault Refusal :=
  runIn s 4 true fun c => c.tchkSend

/-- PAIR_TCHK_RX (R456). -/
def execPairTchkRx (pk : RxPkt) (s : State) : Host.Outcome State Fault Refusal :=
  runIn s 4 true fun c => c.pairUse 0x0B pk fun c bs => c.tchkRx bs

end Sys2Proof.Machine
end

