-- ==== Sys2Proof/Machine/ExecFlow.lean ====
section
/-! DEFINITION. ExecFlow.lean: the meanings of the commands of port front ends, stitcher, comparison, colour, products
and streams (04 to 07, 10), one each. -/

namespace Sys2Proof.Machine

/-- FE_SEGMENT_RX (R123). -/
def execFeSegmentRx (n : Nat) (s : State) : Host.Outcome State Fault Refusal :=
  runIn s 3 (n < 8) fun c => c.feSegment n

/-- FE_LINE_DEADLINE (R124). -/
def execFeLineDeadline (n : Nat) (s : State) : Host.Outcome State Fault Refusal :=
  runIn s 3 (n < 8) fun c => c.feDeadline n

/-- FE_LINE_CLOSE_NOT_SENT (R124). -/
def execFeLineCloseNotSent (n : Nat) (s : State) : Host.Outcome State Fault Refusal :=
  runIn s 3 (n < 8) fun c => c.feCloseNotSent n

/-- FE_LINE_HANDOVER (R137). -/
def execFeLineHandover (u : UnitFlips) (s : State) : Host.Outcome State Fault Refusal :=
  runIn s 3 (u.unit < 8) fun c => (c.feFlip u.unit u.flips).feHandover u.unit

/-- FE_TABLE_INIT_DONE (R130). -/
def execFeTableInitDone (n : Nat) (s : State) : Host.Outcome State Fault Refusal :=
  runIn s 3 (n < 8) fun c => c.feInitDone n

/-- FE_TBL_DATA_WRITE (R140). -/
def execFeTblDataWrite (src : Src) (n : Nat) (v : Word) (s : State) : Host.Outcome State Fault Refusal :=
  runIf s (n < 8) fun c => c.writeOp src (R.feTblData n) v

/-- FE_TBL_DATA_READ (R140). -/
def execFeTblDataRead (src : Src) (u : UnitFlips) (s : State) : Host.Outcome State Fault Refusal :=
  runIf s (u.unit < 8) fun c => (c.feFlip u.unit u.flips).readOp src (R.feTblData u.unit)

/-- FE_TBL_CHK_GO (R141). -/
def execFeTblChkGo (src : Src) (n : Nat) (v : Word) (s : State) : Host.Outcome State Fault Refusal :=
  runIf s (n < 8) fun c => c.writeOp src (R.feTblChk n) (force (F.feTblChkGo n) 1 v)

/-- FE_TBL_CHK_DONE (R141). -/
def execFeTblChkDone (n : Nat) (s : State) : Host.Outcome State Fault Refusal :=
  runIn s 3 (n < 8) fun c => c.feChkDone n

/-- STC_WEB_LINE_COMPLETE (R147). -/
def execStcWebLineComplete (s : State) : Host.Outcome State Fault Refusal :=
  runIn s 3 true fun c => c.webLine

/-- RING_BAND_LOADED (R171). -/
def execRingBandLoaded (flips : List (Nat × Bool)) (s : State) : Host.Outcome State Fault Refusal :=
  runIn s 3 true fun c => c.ringBand flips

/-- BAND_SLICE_COMPLETE (R162). -/
def execBandSliceComplete (e : Nat) (flips : List (Nat × Bool)) (s : State) : Host.Outcome State Fault Refusal :=
  runIn s 3 (e < 68) fun c => c.sliceDone e flips

/-- BLOB_MERGER_BAND (R187). -/
def execBlobMergerBand (s : State) : Host.Outcome State Fault Refusal :=
  runIn s 3 true fun c => c.mergeBand

/-- COLOUR_PIECE_COMPLETE (R200). -/
def execColourPieceComplete (e : Nat) (s : State) : Host.Outcome State Fault Refusal :=
  runIn s 3 (e < 68) fun c => c.colourPieceDone e

/-- PRODUCT_PIECE_COMPLETE (R270). -/
def execProductPieceComplete (u : UnitFlips) (s : State) : Host.Outcome State Fault Refusal :=
  runIn s 3 (u.unit < 68) fun c => c.productDone u.unit u.flips

/-- SSP_UNIT_FORM (R261). -/
def execSspUnitForm (k : Nat) (s : State) : Host.Outcome State Fault Refusal :=
  runIn s 3 (k < 6) fun c => c.sspForm k

/-- SSP_FRAME_SEND: an SSP frame goes last (R284, R300). -/
def execSspFrameSend (s : State) : Host.Outcome State Fault Refusal :=
  runIn s 3 true fun c => if c.scpFirst then c else c.sspSend

/-- SSP_PSEQ_RX (R278). -/
def execSspPseqRx (pk : RxPkt) (s : State) : Host.Outcome State Fault Refusal :=
  runIn s 4 true fun c =>
    c.pairUse 0x08 pk fun c bs => c.pseqTake (fieldBE bs 8 4) ((List.range 6).map fun k => fieldBE bs (12 + 4 * k) 4)

/-- SSP_PSEQ_WAIT_TIMEOUT (R278). -/
def execSspPseqWaitTimeout (s : State) : Host.Outcome State Fault Refusal :=
  runIn s 3 true fun c => c.pseqTimeout

/-- PAIR_CSTAT_RX (R279). -/
def execPairCstatRx (pk : RxPkt) (s : State) : Host.Outcome State Fault Refusal :=
  runIn s 4 true fun c => c.pairUse 0x09 pk fun c bs => c.cstatTake (fieldBE bs 8 4) (fieldBE bs 12 1 == 1)

/-- CSTAT_WAIT_TIMEOUT (R279). -/
def execCstatWaitTimeout (s : State) : Host.Outcome State Fault Refusal :=
  runIn s 3 true fun c => c.cstatTimeout

end Sys2Proof.Machine
end

