-- ==== Sys2Proof/Machine/ExecJob.lean ====
section
/-! DEFINITION. ExecJob.lean: the meanings of the commands of jobs, the pair messages of their agreement, and the
Shepherd (08_jobs.md, 09_shepherd.md), one each. -/

namespace Sys2Proof.Machine

/-- JOB_LOAD (R226). -/
def execJobLoad (src : Src) (v : Word) (s : State) : Host.Outcome State Fault Refusal :=
  run s fun c => c.writeOp src R.jobCmd (force F.jobCmdOp 1 v)

/-- JOB_LOAD_COMPLETE (R226). -/
def execJobLoadComplete (data : List (Nat × List Byte)) (s : State) : Host.Outcome State Fault Refusal :=
  runIn s 3 true fun c => c.jobLoaded data

/-- JOB_VERIFY_REF (R227). -/
def execJobVerifyRef (src : Src) (v : Word) (s : State) : Host.Outcome State Fault Refusal :=
  run s fun c => c.writeOp src R.jobCmd (force F.jobCmdOp 2 v)

/-- JOB_VERIFY_RULE (R227). -/
def execJobVerifyRule (src : Src) (v : Word) (s : State) : Host.Outcome State Fault Refusal :=
  run s fun c => c.writeOp src R.jobCmd (force F.jobCmdOp 3 v)

/-- JOB_VERIFY_COMPLETE (R227). -/
def execJobVerifyComplete (s : State) : Host.Outcome State Fault Refusal :=
  runIn s 3 true fun c => c.verifyDone

/-- JOB_ARM (R229). -/
def execJobArm (src : Src) (v : Word) (s : State) : Host.Outcome State Fault Refusal :=
  run s fun c => c.writeOp src R.jobCmd (force F.jobCmdOp 4 v)

/-- JOB_DISARM (R225). -/
def execJobDisarm (src : Src) (v : Word) (s : State) : Host.Outcome State Fault Refusal :=
  run s fun c => c.writeOp src R.jobCmd (force F.jobCmdOp 5 v)

/-- JOB_WRITE_LANDED (R228). -/
def execJobWriteLanded (s : State) : Host.Outcome State Fault Refusal :=
  runIn s 3 true fun c => c.writeLanded

/-- PAIR_DIGEST_RX (R230). -/
def execPairDigestRx (pk : RxPkt) (s : State) : Host.Outcome State Fault Refusal :=
  runIn s 4 true fun c => c.pairUse 0x03 pk fun c bs => c.digestRx (fieldBE bs 8 4)

/-- PAIR_DIGEST_RESEND (R454). -/
def execPairDigestResend (s : State) : Host.Outcome State Fault Refusal :=
  runIn s 4 true fun c => c.pairResend

/-- JOB_PAIR_TIMEOUT (R225). -/
def execJobPairTimeout (s : State) : Host.Outcome State Fault Refusal :=
  runIn s 3 true fun c => c.pairTimeout

/-- PAIR_VERDICT_RX (R233). -/
def execPairVerdictRx (pk : RxPkt) (s : State) : Host.Outcome State Fault Refusal :=
  runIn s 4 true fun c => c.pairUse 0x04 pk fun c bs => c.verdictRx (fieldBE bs 8 4) (fieldBE bs 12 1 != 0)

/-- PAIR_VERDICT_TIMEOUT (R232). -/
def execPairVerdictTimeout (s : State) : Host.Outcome State Fault Refusal :=
  runIn s 3 true fun c => c.verdictTimeout

/-- PAIR_DECIDE_RX (R233). -/
def execPairDecideRx (pk : RxPkt) (s : State) : Host.Outcome State Fault Refusal :=
  runIn s 4 true fun c =>
    c.pairUse 0x05 pk fun c bs => c.decideRx (fieldBE bs 8 4) (fieldBE bs 12 1 != 0) (fieldBE bs 13 1)

/-- JOB_STOP_COMPLETE (R234). -/
def execJobStopComplete (s : State) : Host.Outcome State Fault Refusal :=
  runIn s 3 true fun c => c.stopCheck

/-- JOB_PORT_OFF_WRITE (R237). -/
def execJobPortOffWrite (src : Src) (v : Word) (s : State) : Host.Outcome State Fault Refusal :=
  run s fun c => c.writeOp src R.jobPortOff v

/-- PAIR_PORTOFF_RX (R237). -/
def execPairPortoffRx (pk : RxPkt) (s : State) : Host.Outcome State Fault Refusal :=
  runIn s 4 true fun c => c.pairUse 0x06 pk fun c bs => c.portOffRx (fieldBE bs 8 1) (fieldBE bs 12 4)

/-- JOB_PROD_OFF_WRITE (R238). -/
def execJobProdOffWrite (src : Src) (v : Word) (s : State) : Host.Outcome State Fault Refusal :=
  run s fun c => c.writeOp src R.jobProdOff v

/-- PAIR_PRODOFF_RX (R238). -/
def execPairProdoffRx (pk : RxPkt) (s : State) : Host.Outcome State Fault Refusal :=
  runIn s 4 true fun c => c.pairUse 0x07 pk fun c bs => c.prodOffRx (fieldBE bs 8 1) (fieldBE bs 12 4)

/-- SHP_EPOCH (R254). -/
def execShpEpoch (s : State) : Host.Outcome State Fault Refusal :=
  runIn s 3 true fun c => c.shpEpoch

/-- CLUSTER_STEP_COMPLETE (R242). -/
def execClusterStepComplete (k : Nat) (s : State) : Host.Outcome State Fault Refusal :=
  runIn s 3 (k < 4) fun c => c.stepDone k

/-- SHP_SENSOR_READING (R247). -/
def execShpSensorReading (k : Nat) (j : Nat) (r : Option Int) (s : State) : Host.Outcome State Fault Refusal :=
  runIn s 3 (k < 4 && j < 4) fun c => c.sensorReading k j r

/-- SHP_POWER_READING (R248). -/
def execShpPowerReading (k : Nat) (mw : Int) (s : State) : Host.Outcome State Fault Refusal :=
  runIn s 3 (k < 4) fun c => c.powerReading k mw

/-- SHP_DISPATCH (R251). -/
def execShpDispatch (s : State) : Host.Outcome State Fault Refusal :=
  runIn s 3 true fun c => c.dispatch

/-- SHP_ITEM_DEADLINE_DROP (R252). -/
def execShpItemDeadlineDrop (f : Nat) (s : State) : Host.Outcome State Fault Refusal :=
  runIn s 3 (f == 1 || f == 2) fun c => c.deadlineDrop f

/-- SHP_LIMIT_WRITE (R257). -/
def execShpLimitWrite (src : Src) (k : Nat) (v : Word) (s : State) : Host.Outcome State Fault Refusal :=
  runIf s (k < 4) fun c => c.writeOp src (R.shpCLimit k) v

/-- SPARE_TEST_COMPLETE (R259). -/
def execSpareTestComplete (e : Nat) (pass : Bool) (s : State) : Host.Outcome State Fault Refusal :=
  runIn s 3 (e < 68) fun c => c.testDone e pass

/-- BACKGROUND_PIECE_COMPLETE (R244). -/
def execBackgroundPieceComplete (e : Nat) (ok : Bool) (s : State) : Host.Outcome State Fault Refusal :=
  runIn s 3 (e < 68) fun c => c.backgroundDone e ok

/-- ENGINE_PARITY_ERROR (R443). -/
def execEngineParityError (e : Nat) (s : State) : Host.Outcome State Fault Refusal :=
  runIn s 3 (e < 68) fun c => c.engineParity e

end Sys2Proof.Machine
end

