-- ==== Sys2Proof/Machine/Jtag.lean ====
section
/-! DEFINITION. Jtag.lean: the levels of the output balls and the test access port (R332, R352, R415, R416, R482, R496,
R497). -/

namespace Sys2Proof.Machine

/-! ### Output balls -/

/-- The cells of the boundary register that belong to outputs; a ball is driven low or high, or high-impedance. They are numbered (log
entry 32): 0 to 15 PO0 to PO15, 16 to 23 LIGHT0 to LIGHT7, 24 PPS_OUT, 25 RSTOUT_N, 26 INT_N, 27 to 30 UL_MAP[3:0], 31 to 36 MC0_RESET_N
to MC5_RESET_N, 37 FL_CS_N, 38 FL_RESET_N, 39 UART_TX, 40 and 41 I2C_SCL and I2C_SDA, 42 FL_SCK, 43 to 50 FL_IO[7:0], 51 FL_DQS,
52 SPI_MISO; from 53 on 124 for each of MC0 to MC5, 62 for each of its subchannels: DQ[39:0], DQS[4:0], CA[13:0], CS_N[1:0], CK; from 797
on one for each transmit pair: HP0 to HP7, PL, UL. TDO has no cell; between scans nothing drives it. -/
def outputCells : Nat := 849

/-- The cells of R496: the outputs, then one for each input: ENC0_A to ENC1_Z, SHEET0, SHEET1, PPS_IN, CLK10M_IN, REFB_IN, SPI_SCK,
SPI_CS_N, SPI_MOSI, I2C_ALERT_N, UART_RX, RESET_N, PWRGD, nine straps, TESTMODE, MC0_ALERT_N to MC5_ALERT_N and the receive pairs. -/
def boundaryCells : Nat := outputCells + 86

/-- The level of a ball that toggles, or that the spec does not fix. -/
def Chip.pinOpen (c : Chip) (k : Nat) : Option Bool := Config.pinLevel k c.freeCtr c.orb.ticks

/-- INT_N is driven low while an enabled summary bit is set, else released (R352). -/
def Chip.intActive (c : Chip) : Bool := c.f F.scpSumSum &&& c.f F.scpIntEnEn != 0

/-- DDR5 RESET_n is released when step 1 of the initialization is done, and held low by a reset of the channel (R415, R468,
R469). -/
def Chip.ddrReleased (c : Chip) (n : Nat) : Bool := decide (c.f (F.mcStatState n) ≠ mcReset) && decide (2 ≤ (c.mc n).step)

/-- A flash boot reads the flash in step 5, until it ends or fails (R415, R417, R420). -/
def Chip.flashReads (c : Chip) : Bool :=
  decide (c.phase = 5) && decide (getBits (c.rd R.glbStrap) 0 2 < 2) && decide (c.f F.glbBootStatErr = 0)

/-- The outputs that are released, or high-impedance, until MGMT runs (R415, R482). -/
def Chip.ballMgmt (c : Chip) (k : Nat) : Option Bool :=
  if !c.mgmtRuns then none
  else if k < 24 then some (decide (7 ≤ c.phase) && c.outLevel k)
  else if k = 24 then some (decide (7 ≤ c.phase) && c.orb.ppsOut && !c.fb F.clkStatSafe)
  else if k = 25 then some (decide (7 ≤ c.phase))
  else if k = 26 then if c.intActive then some false else none
  else some ((c.f F.ulStatMap).testBit (k - 27))

/-- Initialization commands drive the channel's balls (R468, R482). -/
def Chip.ddrCommands (c : Chip) (n : Nat) : Bool := c.mgmtRuns && decide (c.f (F.mcStatState n) ≠ mcReset)

/-- Ball `j` of a channel's 124: until its initialization CA and CK are low and CS_N is high; the data balls are open (R482). -/
def Chip.ballDdr (c : Chip) (n j : Nat) : Option Bool :=
  if j % 62 < 45 ∨ c.ddrCommands n = true then c.pinOpen (53 + 124 * n + j) else some (decide (j % 62 = 59 ∨ j % 62 = 60))

/-- The block and the lane of a transmit pair. -/
def pairLane (j : Nat) : Nat × Nat := if j < 40 then (j / 5, j % 5) else if j < 43 then (8, j - 40) else (9, j - 43)

/-- A transmit pair: electrical idle, which is high-impedance, while its lane is OFF, and what is sent else (R48, R415). -/
def Chip.ballLane (c : Chip) (j : Nat) : Option Bool :=
  if c.laneState (pairLane j).1 (pairLane j).2 = lsOff then none else c.pinOpen (797 + j)

/-- What the device itself drives, boundary scan apart (R415, R482): UART_TX is high but for the boot messages, the I2C lines are
released but for the low bits of a temperature read, the flash balls move only in a flash read, and SPI_MISO only under SPI_CS_N. -/
def Chip.ballDrive (c : Chip) (k : Nat) : Option Bool :=
  if k < 31 then c.ballMgmt k
  else if k < 37 then some (c.mgmtRuns && c.ddrReleased (k - 31))
  else if k = 37 then some (!c.flashReads)
  else if k = 38 then some c.mgmtRuns
  else if k = 39 then if c.mgmtRuns && decide (c.phase < 8) then c.pinOpen k else some true
  else if k < 42 then if c.mgmtRuns then (c.pinOpen k).filter (· == false) else none
  else if k = 42 then if c.flashReads then c.pinOpen k else some false
  else if k < 52 then if c.flashReads then c.pinOpen k else none
  else if k = 52 then if c.mgmtRuns then c.pinOpen k else none
  else if k < 797 then c.ballDdr ((k - 53) / 124) ((k - 53) % 124)
  else if k < outputCells then c.ballLane (k - 797)
  else none

/-- EXTEST, EXTEST_PULSE, EXTEST_TRAIN and CLAMP give the outputs to the boundary register (R497). -/
def scanDrives (ir : Nat) : Bool := [0x00, 0x06, 0x08, 0x09].contains ir

/-- The level of an output ball (R496, R497). While VDD_AON is low no driver works and the device is held in reset (R483, R487). -/
def Chip.ball (c : Chip) (k : Nat) : Option Bool :=
  if c.boot.aonLow then none
  else if scanDrives c.jtag.ir then some (c.jtag.bsr.testBit k)
  else if c.jtag.ir = 0x05 then none
  else c.ballDrive k

/-- What the device sends over its balls other than TDO. -/
def Out.overBalls (o : Out) : Bool :=
  match o with
  | .tdo _ | .status _ | .acTest _ _ => false
  | _ => true

/-- What leaves the device: while boundary scan holds the outputs, nothing that its blocks hand to their balls (R496, R497). -/
def Chip.leaves (c : Chip) : List Out :=
  if c.boot.aonLow then [] else if scanDrives c.jtag.ir || c.jtag.ir == 0x05 then c.out.filter fun o => !o.overBalls else c.out

/-! ### The test access port -/

def jtagIdcode : Nat := 0x10880A95

/-- The codes of R496; every other code selects BYPASS. -/
def jtagListed (code : Nat) : Bool := [0x00, 0x01, 0x02, 0x05, 0x06, 0x08, 0x09, 0x20].contains code

def Chip.modJtag (c : Chip) (g : JtagS → JtagS) : Chip := { c with jtag := g c.jtag }

/-- A ball nothing drives shows its pull: PO, LIGHT, PPS_OUT and RSTOUT_N low, INT_N, UL_MAP and the I2C lines high (R415, R482). -/
def ballPull (k : Nat) : Option Bool :=
  if k < 26 then some false else if k < 31 ∨ k = 40 ∨ k = 41 then some true else none

/-- What Capture-DR takes from the balls once the instruction is selected; the level of an input, and of a ball that nothing drives or
pulls, is a free value. -/
def Chip.boundaryCapture (c : Chip) (code : Nat) : Nat :=
  let c := c.modJtag fun j => { j with ir := code }
  let open_ := Config.freeNat 23 c.freeCtr
  ((List.range boundaryCells).map fun k =>
    if ((c.ball k).or (ballPull k)).getD (open_.testBit k) then 2 ^ k else 0).sum

/-- JTAG_TRST: Test-Logic-Reset with IDCODE selected. -/
def Chip.jtagTrst (c : Chip) : Chip := c.modJtag fun j => { j with ir := 0x01, dr := jtagIdcode, tlr := true }

/-- A scan of the port; while VDD_AON is low the port is held in reset (R487). -/
def Chip.jtagScan (c : Chip) (g : JtagS → JtagS) (out : List Out) : Chip :=
  if c.boot.aonLow then c else { c.modJtag fun j => { g j with tlr := false } with out := c.out ++ out }

/-- An instruction over the boundary register: the balls are captured and shifted out, and `v` is shifted in and updated; `test` is what
the lanes send of it (IEEE 1149.6). -/
def Chip.jtagBoundary (c : Chip) (code v : Nat) (test : List Out) : Chip :=
  let cap := c.boundaryCapture code
  (c.fresh 23).2.jtagScan (fun j => { j with ir := code, dr := cap, bsr := v % 2 ^ boundaryCells }) (.tdo cap :: test)

/-- The cells of the transmit pairs. -/
def lanePairs (v : Nat) : Nat := v / 2 ^ 797 % 2 ^ 52

/-- An instruction over the bypass register, which captures 0. -/
def Chip.jtagBypassReg (c : Chip) (code : Nat) : Chip := c.jtagScan (fun j => { j with ir := code, dr := 0 }) [.tdo 0]

/-- An instruction over a 32-bit register that shows a value. -/
def Chip.jtagShow (c : Chip) (code v : Nat) : Chip := c.jtagScan (fun j => { j with ir := code, dr := v }) [.tdo v]

/-- BYPASS, or any code the table does not list. -/
def Chip.jtagBypass (c : Chip) (code : Nat) : Chip :=
  if jtagListed (code % 256) then c else c.jtagBypassReg (code % 256)

end Sys2Proof.Machine
end

