-- ==== Sys2Proof/Machine/ExecJtag.lean ====
section
/-! DEFINITION. ExecJtag.lean: the meanings of the commands of the test access port (20_pins_electrical.md), one each.
-/

namespace Sys2Proof.Machine

/-- JTAG_TRST (R496). -/
def execJtagTrst (s : State) : Host.Outcome State Fault Refusal :=
  run s fun c => c.jtagTrst

/-- JTAG_EXTEST (R497). -/
def execJtagExtest (v : Nat) (s : State) : Host.Outcome State Fault Refusal :=
  runIf s (v < 2 ^ boundaryCells) fun c => c.jtagBoundary 0x00 v []

/-- JTAG_IDCODE (R496). -/
def execJtagIdcode (s : State) : Host.Outcome State Fault Refusal :=
  run s fun c => c.jtagShow 0x01 jtagIdcode

/-- JTAG_SAMPLE_PRELOAD (R496). -/
def execJtagSamplePreload (v : Nat) (s : State) : Host.Outcome State Fault Refusal :=
  runIf s (v < 2 ^ boundaryCells) fun c => c.jtagBoundary 0x02 v []

/-- JTAG_HIGHZ (R496). -/
def execJtagHighz (s : State) : Host.Outcome State Fault Refusal :=
  run s fun c => c.jtagBypassReg 0x05

/-- JTAG_CLAMP (R497). -/
def execJtagClamp (s : State) : Host.Outcome State Fault Refusal :=
  run s fun c => c.jtagBypassReg 0x06

/-- JTAG_EXTEST_PULSE (R496). -/
def execJtagExtestPulse (v : Nat) (s : State) : Host.Outcome State Fault Refusal :=
  runIf s (v < 2 ^ boundaryCells) fun c => c.jtagBoundary 0x08 v [.acTest false (lanePairs v)]

/-- JTAG_EXTEST_TRAIN (R496). -/
def execJtagExtestTrain (v : Nat) (s : State) : Host.Outcome State Fault Refusal :=
  runIf s (v < 2 ^ boundaryCells) fun c => c.jtagBoundary 0x09 v [.acTest true (lanePairs v)]

/-- JTAG_BOOTSTAT (R496). -/
def execJtagBootstat (s : State) : Host.Outcome State Fault Refusal :=
  run s fun c => c.jtagShow 0x20 (c.rd R.glbBootStat).toNat

/-- JTAG_BYPASS (R496). -/
def execJtagBypass (code : Nat) (s : State) : Host.Outcome State Fault Refusal :=
  runIf s (code < 256) fun c => c.jtagBypass code

end Sys2Proof.Machine
end

