-- ==== Sys2Proof/Machine/ExecLane.lean ====
section
/-! DEFINITION. ExecLane.lean: the meanings of the commands of lanes, their tests and spares (02_serial_lanes.md), one
each. -/

namespace Sys2Proof.Machine

/-- LANE_POWER_UP (R48). -/
def execLanePowerUp (n : Nat) (m : Nat) (s : State) : Host.Outcome State Fault Refusal :=
  runIn s 4 (n < 9 && m < laneCount n) fun c => c.lanePowerUp n m

/-- LANE_TRAIN_REQUEST_UL (R48). -/
def execLaneTrainRequestUl (m : Nat) (s : State) : Host.Outcome State Fault Refusal :=
  runIn s 5 (m < 9) fun c => c.laneTrainUl m

/-- LANE_WAKE_FOR_TRAINING (R48). -/
def execLaneWakeForTraining (n : Nat) (m : Nat) (s : State) : Host.Outcome State Fault Refusal :=
  runIn s 4 (n < 9 && m < laneCount n) fun c => c.laneWakeTrain n m

/-- LANE_WAKE_FOR_DATA (R48). -/
def execLaneWakeForData (n : Nat) (m : Nat) (s : State) : Host.Outcome State Fault Refusal :=
  runIn s 4 (n < 9 && m < laneCount n) fun c => c.laneWakeData n m

/-- LANE_POWER_DOWN (R48). -/
def execLanePowerDown (n : Nat) (m : Nat) (s : State) : Host.Outcome State Fault Refusal :=
  runIn s (laneDomain n) (m < laneCount n && n < 10) fun c => c.lanePowerDown n m

/-- LANE_IDLE_FAST_EXIT (R49). -/
def execLaneIdleFastExit (n : Nat) (m : Nat) (s : State) : Host.Outcome State Fault Refusal :=
  runIn s 4 (n < 9 && m < laneCount n) fun c => c.laneExit n m

/-- LANE_IDLE_DEEP_REQUEST (R48). -/
def execLaneIdleDeepRequest (n : Nat) (m : Nat) (s : State) : Host.Outcome State Fault Refusal :=
  runIn s 4 (n < 9 && m < laneCount n) fun c => c.laneDeep n m

/-- LANE_IDLE_FAST_REQUEST (R48). -/
def execLaneIdleFastRequest (n : Nat) (m : Nat) (s : State) : Host.Outcome State Fault Refusal :=
  runIn s 4 (n < 9 && m < laneCount n) fun c => c.laneFast n m

/-- LANE_TRAINING_COMPLETE (R48). -/
def execLaneTrainingComplete (n : Nat) (m : Nat) (x : LaneSet) (s : State) : Host.Outcome State Fault Refusal :=
  runIn s (laneDomain n) (m < laneCount n && n < 10) fun c => c.laneTrained n m x

/-- LANE_TRAINING_ABANDONED (R48). -/
def execLaneTrainingAbandoned (n : Nat) (m : Nat) (x : LaneSet) (s : State) : Host.Outcome State Fault Refusal :=
  runIn s (laneDomain n) (m < laneCount n && n < 10) fun c => c.laneTrainAbandoned n m x

/-- LANE_RETRAIN_REQUEST (R48). -/
def execLaneRetrainRequest (n : Nat) (m : Nat) (s : State) : Host.Outcome State Fault Refusal :=
  runIn s (laneDomain n) (m < laneCount n && n < 10) fun c => (c.laneCondAbort n m).laneRetrain n m

/-- LN_TEST_EN_SET (R48). -/
def execLnTestEnSet (src : Src) (n : Nat) (m : Nat) (v : Word) (s : State) : Host.Outcome State Fault Refusal :=
  runIf s (m < laneCount n && n < 10) fun c => c.writeOp src (R.lnCtrl n m) (force (F.lnCtrlTestEn n m) 1 v)

/-- LN_TEST_EN_CLEAR (R48). -/
def execLnTestEnClear (src : Src) (n : Nat) (m : Nat) (v : Word) (s : State) : Host.Outcome State Fault Refusal :=
  runIf s (m < laneCount n && n < 10) fun c => c.writeOp src (R.lnCtrl n m) (force (F.lnCtrlTestEn n m) 0 v)

/-- LANE_SIGNAL_DETECT_CHANGE (R50). -/
def execLaneSignalDetectChange (n : Nat) (m : Nat) (mv : Nat) (s : State) : Host.Outcome State Fault Refusal :=
  runIn s (laneDomain n) (m < laneCount n && n < 10) fun c => c.signalDetect n m mv

/-- LANE_LOS (R51). -/
def execLaneLos (n : Nat) (m : Nat) (s : State) : Host.Outcome State Fault Refusal :=
  runIn s (laneDomain n) (m < laneCount n && n < 10) fun c => c.laneFails n m false

/-- LANE_CDR_LOL (R51). -/
def execLaneCdrLol (n : Nat) (m : Nat) (s : State) : Host.Outcome State Fault Refusal :=
  runIn s (laneDomain n) (m < laneCount n && n < 10) fun c => c.laneFails n m true

/-- ADAPT_WINDOW_END (R56). -/
def execAdaptWindowEnd (n : Nat) (m : Nat) (edges : Nat) (x : LaneSet)
    (s : State) : Host.Outcome State Fault Refusal :=
  runIn s (laneDomain n) (m < laneCount n && n < 10) fun c => c.adaptWindow n m edges x

/-- GUARD_INTERVAL_END (R58). -/
def execGuardIntervalEnd (n : Nat) (m : Nat) (eye : Nat) (s : State) : Host.Outcome State Fault Refusal :=
  runIn s (laneDomain n) (m < laneCount n && n < 10) fun c => c.guardInterval n m eye

/-- LN_ADAPT_EN_WRITE (R60). -/
def execLnAdaptEnWrite (src : Src) (n : Nat) (m : Nat) (v : Word) (s : State) : Host.Outcome State Fault Refusal :=
  runIf s (m < laneCount n && n < 10) fun c => c.writeOp src (R.lnAdapt n m) v

/-- LANE_MAP_WRITE (R67). -/
def execLaneMapWrite (src : Src) (n : Nat) (v : Word) (s : State) : Host.Outcome State Fault Refusal :=
  runIf s (n < 10) fun c => c.writeOp src (R.laneMap n) v

/-- LANE_RATE_WRITE (R43). -/
def execLaneRateWrite (src : Src) (n : Nat) (v : Word) (s : State) : Host.Outcome State Fault Refusal :=
  runIf s (n < 8) fun c => c.writeOp src (R.laneRate n) v

/-- PRBS_CHECKER_LOCK (R64). -/
def execPrbsCheckerLock (n : Nat) (rx : LaneLevels) (s : State) : Host.Outcome State Fault Refusal :=
  runIn s (laneDomain n) (rx.lane < laneCount n && n < 10 && rx.levels.all (· < 4)) fun c =>
    c.testRx n rx.lane rx.levels

/-- PRBS_CHECKER_LOSS (R64). -/
def execPrbsCheckerLoss (n : Nat) (m : Nat) (before : List Nat) (after : List Nat)
    (s : State) : Host.Outcome State Fault Refusal :=
  runIn s (laneDomain n) (m < laneCount n && n < 10 && (before ++ after).all (· < 4)) fun c =>
    c.testRx n m (before ++ after)

/-- PRBS_COUNT_CLEAR (R64). -/
def execPrbsCountClear (src : Src) (n : Nat) (m : Nat) (v : Word) (s : State) : Host.Outcome State Fault Refusal :=
  runIf s (m < laneCount n && n < 10) fun c => c.writeOp src (R.lnPrbsCtrl n m) (force (F.lnPrbsCtrlClr n m) 1 v)

/-- PRBS_COUNT_LO_READ (R64). -/
def execPrbsCountLoRead (src : Src) (n : Nat) (m : Nat) (bitsCount : Bool) (before : List Nat)
    (after : List Nat) (s : State) : Host.Outcome State Fault Refusal :=
  runIf s (m < laneCount n && n < 10 && (before ++ after).all (· < 4)) fun c =>
    ((c.testRx n m before).readOp src (if bitsCount then R.lnPrbsBitsLo n m else R.lnPrbsErrLo n m)).testRx n m after

/-- LN_INJ_SINGLE (R65). -/
def execLnInjSingle (src : Src) (n : Nat) (m : Nat) (v : Word) (s : State) : Host.Outcome State Fault Refusal :=
  runIf s (m < laneCount n && n < 10) fun c => c.writeOp src (R.lnInj n m) (force (F.lnInjMode n m) 1 v)

/-- LN_INJ_PERIODIC (R65). -/
def execLnInjPeriodic (src : Src) (n : Nat) (m : Nat) (v : Word) (s : State) : Host.Outcome State Fault Refusal :=
  runIf s (m < laneCount n && n < 10) fun c => c.writeOp src (R.lnInj n m) (force (F.lnInjMode n m) 2 v)

/-- LN_INJ_PERIODIC_ERROR (R65). -/
def execLnInjPeriodicError (n : Nat) (m : Nat) (s : State) : Host.Outcome State Fault Refusal :=
  runIn s (laneDomain n) (m < laneCount n && n < 10) fun c => c.injPeriodic n m

/-- LN_INJ_BURST (R65). -/
def execLnInjBurst (src : Src) (n : Nat) (m : Nat) (v : Word) (s : State) : Host.Outcome State Fault Refusal :=
  runIf s (m < laneCount n && n < 10) fun c => c.writeOp src (R.lnInj n m) (force (F.lnInjMode n m) 3 v)

/-- LN_INJ_OFF (R65). -/
def execLnInjOff (src : Src) (n : Nat) (m : Nat) (v : Word) (s : State) : Host.Outcome State Fault Refusal :=
  runIf s (m < laneCount n && n < 10) fun c => c.writeOp src (R.lnInj n m) (force (F.lnInjMode n m) 0 v)

/-- SPARE_COND_DUE (R69). -/
def execSpareCondDue (n : Nat) (s : State) : Host.Outcome State Fault Refusal :=
  runIn s (laneDomain n) (n < 10) fun c => c.condDue n

/-- SPARE_COND_LOCK_TIMEOUT (R69). -/
def execSpareCondLockTimeout (n : Nat) (s : State) : Host.Outcome State Fault Refusal :=
  runIn s (laneDomain n) (n < 10) fun c => c.condEnd n false

/-- SPARE_COND_RUN_COMPLETE (R69). -/
def execSpareCondRunComplete (n : Nat) (errs : Nat) (s : State) : Host.Outcome State Fault Refusal :=
  runIn s (laneDomain n) (n < 10) fun c => c.condEnd n (errs == 0)

/-- SPARE_COND_RETRY (R69). -/
def execSpareCondRetry (n : Nat) (s : State) : Host.Outcome State Fault Refusal :=
  runIn s (laneDomain n) (n < 10) fun c => c.condRepeat n

/-- TRAINING_FRAME_RX (R98). -/
def execTrainingFrameRx (n : Nat) (m : Nat) (w : Word) (crc : Word) (s : State) : Host.Outcome State Fault Refusal :=
  runIn s 4 (n < 9 && m < laneCount n) fun c => c.trainFrame n m w crc

end Sys2Proof.Machine
end

