-- ==== Sys2Proof/Machine/ExecLink.lean ====
section
/-! DEFINITION. ExecLink.lean: the meanings of the commands of DrauxLink, head registers and SWAP (03_drauxlink.md),
one each. -/

namespace Sys2Proof.Machine

/-- LINK_EN_SET (R102). -/
def execLinkEnSet (src : Src) (n : Nat) (v : Word) (s : State) : Host.Outcome State Fault Refusal :=
  runIf s (n < 9) fun c => c.writeOp src (R.linkCtrl n) (force (F.linkCtrlEn n) 1 v)

/-- LINK_EN_CLEAR (R102). -/
def execLinkEnClear (src : Src) (n : Nat) (v : Word) (s : State) : Host.Outcome State Fault Refusal :=
  runIf s (n < 9) fun c => c.writeOp src (R.linkCtrl n) (force (F.linkCtrlEn n) 0 v)

/-- LINK_DRAIN_END (R102). -/
def execLinkDrainEnd (n : Nat) (s : State) : Host.Outcome State Fault Refusal :=
  runIn s 4 (n < 9) fun c => c.drainEnd n

/-- LINK_RETRY_NOW (R102). -/
def execLinkRetryNow (src : Src) (n : Nat) (v : Word) (s : State) : Host.Outcome State Fault Refusal :=
  runIf s (n < 9) fun c => c.writeOp src (R.linkCtrl n) (force (F.linkCtrlRetryNow n) 1 v)

/-- LINK_IDLE_REQ_FAST (R106). -/
def execLinkIdleReqFast (src : Src) (n : Nat) (v : Word) (s : State) : Host.Outcome State Fault Refusal :=
  runIf s (n < 9) fun c => c.writeOp src (R.linkCtrl n) (force (F.linkCtrlIdleReq n) 1 v)

/-- LINK_IDLE_REQ_DEEP (R106). -/
def execLinkIdleReqDeep (src : Src) (n : Nat) (v : Word) (s : State) : Host.Outcome State Fault Refusal :=
  runIf s (n < 9) fun c => c.writeOp src (R.linkCtrl n) (force (F.linkCtrlIdleReq n) 2 v)

/-- LINK_IDLE_REQ_ACTIVE (R107). -/
def execLinkIdleReqActive (src : Src) (n : Nat) (v : Word) (s : State) : Host.Outcome State Fault Refusal :=
  runIf s (n < 9) fun c => c.writeOp src (R.linkCtrl n) (force (F.linkCtrlIdleReq n) 0 v)

/-- LINK_IDLE_EXIT_TIMEOUT (R107). -/
def execLinkIdleExitTimeout (n : Nat) (s : State) : Host.Outcome State Fault Refusal :=
  runIn s 4 (n < 9) fun c => c.idleExitTimeout n

/-- LINK_DETECT_SIGNAL (R102). -/
def execLinkDetectSignal (n : Nat) (s : State) : Host.Outcome State Fault Refusal :=
  runIn s 4 (n < 9) fun c => c.detectSignal n

/-- LINK_DETECT_TIMEOUT (R102). -/
def execLinkDetectTimeout (n : Nat) (s : State) : Host.Outcome State Fault Refusal :=
  runIn s 4 (n < 9) fun c => c.phaseTimeout n lkDetect 1

/-- LINK_WAKE_TIMEOUT (R102). -/
def execLinkWakeTimeout (n : Nat) (s : State) : Host.Outcome State Fault Refusal :=
  runIn s 4 (n < 9) fun c => c.phaseTimeout n lkWake 2

/-- LINK_EQUALIZE_TIMEOUT (R102). -/
def execLinkEqualizeTimeout (n : Nat) (s : State) : Host.Outcome State Fault Refusal :=
  runIn s 4 (n < 9) fun c => c.phaseTimeout n lkEqualize 3

/-- LINK_ALIGN_TIMEOUT (R102). -/
def execLinkAlignTimeout (n : Nat) (s : State) : Host.Outcome State Fault Refusal :=
  runIn s 4 (n < 9) fun c => c.phaseTimeout n lkAlign 4

/-- LINK_CONFIGURE_TIMEOUT (R102). -/
def execLinkConfigureTimeout (n : Nat) (s : State) : Host.Outcome State Fault Refusal :=
  runIn s 4 (n < 9) fun c => c.phaseTimeout n lkConfigure 5

/-- LINK_HB_TIMEOUT (R95). -/
def execLinkHbTimeout (n : Nat) (s : State) : Host.Outcome State Fault Refusal :=
  runIn s 4 (n < 9) fun c => c.hbTimeout n

/-- LINK_UNPLUG (R102). -/
def execLinkUnplug (n : Nat) (s : State) : Host.Outcome State Fault Refusal :=
  runIn s 4 (n < 9) fun c => c.unplug n

/-- LINK_BACKOFF_EXPIRY (R103). -/
def execLinkBackoffExpiry (n : Nat) (s : State) : Host.Outcome State Fault Refusal :=
  runIn s 4 (n < 9) fun c => c.retry n

/-- CODEWORD_RX (R79). -/
def execCodewordRx (n : Nat) (k : Nat) (onNew : Bool) (sym : List Nat)
    (s : State) : Host.Outcome State Fault Refusal :=
  runIn s 4 (n < 9 && sym.length == 2720 && sym.all (· < 4)) fun c => c.codeword n k onNew sym

/-- AM_POSITION (R79). -/
def execAmPosition (n : Nat) (k : Nat) (onNew : Bool) (block : List Byte) (late : Nat)
    (s : State) : Host.Outcome State Fault Refusal :=
  runIn s 4 (n < 9 && block.length == 32) fun c => c.amPosition n k onNew block late

/-- LINE_PACKET_RX (R87). -/
def execLinePacketRx (n : Nat) (pk : RxPkt) (s : State) : Host.Outcome State Fault Refusal :=
  runIn s 4 (n < 8) fun c => c.lineRx n pk

/-- HB_RX (R95). -/
def execHbRx (n : Nat) (pk : RxPkt) (s : State) : Host.Outcome State Fault Refusal :=
  runIn s 4 (n < 9) fun c => c.hbRx n pk

/-- HB_SEND_TIMER (R95). -/
def execHbSendTimer (n : Nat) (s : State) : Host.Outcome State Fault Refusal :=
  runIn s 4 (n < 9) fun c => c.hbTimer n

/-- TIME_SEND_TIMER (R97). -/
def execTimeSendTimer (n : Nat) (s : State) : Host.Outcome State Fault Refusal :=
  runIn s 4 (n < 9) fun c => c.timeTimer n

/-- CAP_RX (R101). -/
def execCapRx (n : Nat) (pk : RxPkt) (s : State) : Host.Outcome State Fault Refusal :=
  runIn s 4 (n < 9) fun c => c.capRx n pk

/-- CAP_RESEND_TIMER (R101). -/
def execCapResendTimer (n : Nat) (s : State) : Host.Outcome State Fault Refusal :=
  runIn s 4 (n < 9) fun c => c.capResend n

/-- PROBE_SEND (R109). -/
def execProbeSend (n : Nat) (s : State) : Host.Outcome State Fault Refusal :=
  runIn s 4 (n < 8) fun c => c.probeSend n

/-- ECHO_RX (R109). -/
def execEchoRx (n : Nat) (block : List Byte) (rtt : Nat) (s : State) : Host.Outcome State Fault Refusal :=
  runIn s 4 (n < 8) fun c => c.echoRx n block rtt

/-- LATENCY_PROBE_PERIOD (R109). -/
def execLatencyProbePeriod (n : Nat) (s : State) : Host.Outcome State Fault Refusal :=
  runIn s 4 (n < 8) fun c => c.latPeriod n

/-- CTRL_RESPONSE_RX (R96). -/
def execCtrlResponseRx (n : Nat) (pk : RxPkt) (s : State) : Host.Outcome State Fault Refusal :=
  runIn s 4 (n < 8) fun c => c.ctrlRx n pk

/-- CTRL_REQUEST_TIMEOUT (R96). -/
def execCtrlRequestTimeout (n : Nat) (s : State) : Host.Outcome State Fault Refusal :=
  runIn s 4 (n < 8) fun c => c.ctrlTimeout n

/-- HREG_READ (R117). -/
def execHregRead (src : Src) (n : Nat) (v : Word) (s : State) : Host.Outcome State Fault Refusal :=
  runIf s (n < 8) fun c => c.writeOp src (R.hregCmd n) (force (F.hregCmdOp n) 1 v)

/-- HREG_WRITE (R117). -/
def execHregWrite (src : Src) (n : Nat) (v : Word) (s : State) : Host.Outcome State Fault Refusal :=
  runIf s (n < 8) fun c => c.writeOp src (R.hregCmd n) (force (F.hregCmdOp n) 2 v)

/-- TRIG_ROUND_DEPARTURE (R110). -/
def execTrigRoundDeparture (n : Nat) (s : State) : Host.Outcome State Fault Refusal :=
  runIn s 4 (n < 8) fun c => c.trigDeparts n

/-- SWAP_GO (R114). -/
def execSwapGo (src : Src) (n : Nat) (v : Word) (s : State) : Host.Outcome State Fault Refusal :=
  runIf s (n < 9) fun c => c.writeOp src (R.swapCmd n) (force (F.swapCmdGo n) 1 v)

/-- SWAP_PREPARE_ACK_RX (R115). -/
def execSwapPrepareAckRx (n : Nat) (pk : RxPkt) (s : State) : Host.Outcome State Fault Refusal :=
  runIn s 4 (n < 9) fun c => c.swapPrepareAck n pk

/-- SWAP_READY_RX (R115). -/
def execSwapReadyRx (n : Nat) (pk : RxPkt) (s : State) : Host.Outcome State Fault Refusal :=
  runIn s 4 (n < 9) fun c => c.swapReadyRx n pk

/-- SWAP_COMMIT_ACK_RX (R115). -/
def execSwapCommitAckRx (n : Nat) (pk : RxPkt) (s : State) : Host.Outcome State Fault Refusal :=
  runIn s 4 (n < 9) fun c => c.swapCommitAck n pk

/-- SWAP_DONE_RX (R115). -/
def execSwapDoneRx (n : Nat) (pk : RxPkt) (s : State) : Host.Outcome State Fault Refusal :=
  runIn s 4 (n < 9) fun c => c.swapDoneRx n pk

/-- SWAP_STEP_TIMEOUT (R116). -/
def execSwapStepTimeout (n : Nat) (s : State) : Host.Outcome State Fault Refusal :=
  runIn s 4 (n < 9) fun c => c.swapTimeout n

/-- SWAP_ABORT_RX (R116). -/
def execSwapAbortRx (n : Nat) (pk : RxPkt) (s : State) : Host.Outcome State Fault Refusal :=
  runIn s 4 (n < 9) fun c => c.swapAbortRx n pk

/-- SWAP_REQUEST_RX (R114). -/
def execSwapRequestRx (n : Nat) (pk : RxPkt) (s : State) : Host.Outcome State Fault Refusal :=
  runIn s 4 (n < 9) fun c => c.swapRequestRx n pk

/-- SWAP_RESEND_TIMER (R97). -/
def execSwapResendTimer (n : Nat) (s : State) : Host.Outcome State Fault Refusal :=
  runIn s 4 (n < 9) fun c => c.swapResend n

/-- SWAP_PREPARE_RX (R115). -/
def execSwapPrepareRx (pk : RxPkt) (s : State) : Host.Outcome State Fault Refusal :=
  runIn s 4 true fun c => c.swapPrepareRx pk

/-- SWAP_COMMIT_RX (R115). -/
def execSwapCommitRx (pk : RxPkt) (s : State) : Host.Outcome State Fault Refusal :=
  runIn s 4 true fun c => c.swapCommitRx pk

/-- DEVICE_CAP_RX (R101). -/
def execDeviceCapRx (pk : RxPkt) (s : State) : Host.Outcome State Fault Refusal :=
  runIn s 4 true fun c => c.deviceCapRx pk

end Sys2Proof.Machine
end

