-- ==== Sys2Proof/Machine/ExecMem.lean ====
section
/-! DEFINITION. ExecMem.lean: the meanings of the commands of the DDR5 controllers (19_memory.md), one each. -/

namespace Sys2Proof.Machine

/-- MC_INIT (R468). -/
def execMcInit (src : Src) (v : Word) (s : State) : Host.Outcome State Fault Refusal :=
  run s fun c => c.writeOp src R.mc0Ctrl (force F.mc0CtrlInit 1 v)

/-- MC_TRAIN_STEP_DONE (R468). -/
def execMcTrainStepDone (n : Nat) (ok : Bool) (s : State) : Host.Outcome State Fault Refusal :=
  runIn s 6 (n < 6) fun c => c.mcTrainStep n ok

/-- MC_SCRUB_PIECE (R471). -/
def execMcScrubPiece (n : Nat) (hits : List (Nat × Bool)) (pass : Bool)
    (s : State) : Host.Outcome State Fault Refusal :=
  runIn s 6 (n < 6) fun c => c.scrubDue n hits pass

/-- MC_ROW_REPAIR_DONE (R472). -/
def execMcRowRepairDone (n : Nat) (s : State) : Host.Outcome State Fault Refusal :=
  runIn s 6 (n < 6) fun c => c.mcRowDone n

/-- MC_HPPR (R473). -/
def execMcHppr (src : Src) (n : Nat) (v : Word) (s : State) : Host.Outcome State Fault Refusal :=
  runIf s (n < 6) fun c => c.writeOp src (R.mcCmd n) (force (F.mcCmdOp n) 1 v)

/-- MC_SPPR (R473). -/
def execMcSppr (src : Src) (n : Nat) (v : Word) (s : State) : Host.Outcome State Fault Refusal :=
  runIf s (n < 6) fun c => c.writeOp src (R.mcCmd n) (force (F.mcCmdOp n) 2 v)

/-- MC_PPR_DONE (R473). -/
def execMcPprDone (n : Nat) (ok : Bool) (s : State) : Host.Outcome State Fault Refusal :=
  runIn s 6 (n < 6) fun c => c.mcPprDone n ok

/-- MC_TEMP_READ (R474). -/
def execMcTempRead (n : Nat) (t0 : Option Int) (t1 : Option Int) (mr4Hot : Bool)
    (s : State) : Host.Outcome State Fault Refusal :=
  runIn s 6 (n < 6) fun c => c.mcTemp n t0 t1 mr4Hot

/-- MC_I2C_READ_TIMEOUT (R492). -/
def execMcI2cReadTimeout (n : Nat) (second : Bool) (t : Option Int) (mr4Hot : Bool)
    (s : State) : Host.Outcome State Fault Refusal :=
  runIn s 6 (n < 6) fun c => c.mcI2cTimeout n second t mr4Hot

/-- MC_RMAP_DATA_READ (R475). -/
def execMcRmapDataRead (src : Src) (n : Nat) (s : State) : Host.Outcome State Fault Refusal :=
  runIf s (n < 6) fun c => c.readOp src (R.mcRmapData n)

end Sys2Proof.Machine
end

