-- ==== Sys2Proof/Machine/ExecUl.lean ====
section
/-! DEFINITION. ExecUl.lean: the meanings of the commands of the uplink, PTP and Orbit (11_uplink_time.md), one each.
-/

namespace Sys2Proof.Machine

/-- UL_EN_SET (R293). -/
def execUlEnSet (src : Src) (v : Word) (s : State) : Host.Outcome State Fault Refusal :=
  run s fun c => c.writeOp src R.ulCtrl (force F.ulCtrlEn 1 v)

/-- UL_EN_CLEAR (R293). -/
def execUlEnClear (src : Src) (v : Word) (s : State) : Host.Outcome State Fault Refusal :=
  run s fun c => c.writeOp src R.ulCtrl (force F.ulCtrlEn 0 v)

/-- UL_AN_AGREE (R293). -/
def execUlAnAgree (s : State) : Host.Outcome State Fault Refusal :=
  runIn s 5 true fun c => c.ulAnAgree

/-- UL_AN_TIMEOUT (R293). -/
def execUlAnTimeout (s : State) : Host.Outcome State Fault Refusal :=
  runIn s 5 true fun c => c.ulTimeout ulAn true

/-- UL_TRAIN_COMPLETE (R293). -/
def execUlTrainComplete (s : State) : Host.Outcome State Fault Refusal :=
  runIn s 5 true fun c => c.ulTrained

/-- UL_TRAIN_TIMEOUT (R293). -/
def execUlTrainTimeout (s : State) : Host.Outcome State Fault Refusal :=
  runIn s 5 true fun c => c.ulTimeout ulTrain true

/-- UL_ALIGN_LOCK (R293). -/
def execUlAlignLock (s : State) : Host.Outcome State Fault Refusal :=
  runIn s 5 true fun c => c.ulAlignLock

/-- UL_ALIGN_TIMEOUT (R293). -/
def execUlAlignTimeout (s : State) : Host.Outcome State Fault Refusal :=
  runIn s 5 true fun c => c.ulTimeout ulAlign false

/-- UL_ALIGN_LOST (R293). -/
def execUlAlignLost (s : State) : Host.Outcome State Fault Refusal :=
  runIn s 5 true fun c => c.ulAlignLost

/-- UL_LANE_FAIL_SPARE (R293). -/
def execUlLaneFailSpare (m : Nat) (cdr : Bool) (s : State) : Host.Outcome State Fault Refusal :=
  runIn s 5 (m < 9) fun c => c.laneFails 9 m cdr

/-- UL_RETRAIN (R297). -/
def execUlRetrain (src : Src) (v : Word) (s : State) : Host.Outcome State Fault Refusal :=
  run s fun c => c.writeOp src R.ulCtrl (force F.ulCtrlRetrain 1 v)

/-- UL_SPARE_LANE_LOCK (R297). -/
def execUlSpareLaneLock (s : State) : Host.Outcome State Fault Refusal :=
  runIn s 5 true fun c => c.retrainLock

/-- UL_SPARE_RETRAIN_COMPLETE (R297). -/
def execUlSpareRetrainComplete (s : State) : Host.Outcome State Fault Refusal :=
  runIn s 5 true fun c => c.retrainDone

/-- UL_SPARE_RETRAIN_TIMEOUT (R293). -/
def execUlSpareRetrainTimeout (s : State) : Host.Outcome State Fault Refusal :=
  runIn s 5 true fun c => c.retrainFail

/-- UL_DOWN_RETRY (R293). -/
def execUlDownRetry (s : State) : Host.Outcome State Fault Refusal :=
  runIn s 5 true fun c => c.ulRetry

/-- UL_LANE_DEGRADE (R294). -/
def execUlLaneDegrade (m : Nat) (errs : Nat × Nat) (s : State) : Host.Outcome State Fault Refusal :=
  runIn s 5 (m < 9) fun c => c.ulDegrade m errs.1 errs.2

/-- UL_FRAME_DROP (R299). -/
def execUlFrameDrop (fr : UlFrame) (s : State) : Host.Outcome State Fault Refusal :=
  runIn s 5 true fun c => c.frameDrop fr

/-- ARP_REQUEST_RX (R299). -/
def execArpRequestRx (fr : UlFrame) (s : State) : Host.Outcome State Fault Refusal :=
  runIn s 5 true fun c => c.arpAnswer fr

/-- ND_SOLICITATION_RX (R299). -/
def execNdSolicitationRx (fr : UlFrame) (s : State) : Host.Outcome State Fault Refusal :=
  runIn s 5 true fun c => c.ndAnswer fr

/-- PTP_SYNC_RX (R301). -/
def execPtpSyncRx (m : PtpMsg) (s : State) : Host.Outcome State Fault Refusal :=
  runIn s 2 true fun c => c.ptpRx m fun c => c.ptpSync m

/-- PTP_FOLLOW_UP_RX (R301). -/
def execPtpFollowUpRx (m : PtpMsg) (s : State) : Host.Outcome State Fault Refusal :=
  runIn s 2 true fun c => c.ptpRx m fun c => c.ptpFollowUp m

/-- PTP_ANNOUNCE_RX (R301). -/
def execPtpAnnounceRx (m : PtpMsg) (s : State) : Host.Outcome State Fault Refusal :=
  runIn s 2 true fun c => c.ptpRx m fun c => c.ptpAnnounce m

/-- PTP_DELAY_REQ_SEND (R301). -/
def execPtpDelayReqSend (s : State) : Host.Outcome State Fault Refusal :=
  runIn s 2 true fun c => c.ptpDelayReq

/-- PTP_DELAY_RESP_RX (R312). -/
def execPtpDelayRespRx (m : PtpMsg) (s : State) : Host.Outcome State Fault Refusal :=
  runIn s 2 true fun c => c.ptpRx m fun c => c.ptpDelayResp m

/-- PTP_PDELAY_REQ_SEND (R302). -/
def execPtpPdelayReqSend (s : State) : Host.Outcome State Fault Refusal :=
  runIn s 2 true fun c => c.ptpPdelayReq

/-- PTP_PDELAY_RESP_RX (R312). -/
def execPtpPdelayRespRx (m : PtpMsg) (s : State) : Host.Outcome State Fault Refusal :=
  runIn s 2 true fun c => c.ptpRx m fun c => c.ptpPdelayResp m

/-- PTP_PDELAY_REQ_RX (R301). -/
def execPtpPdelayReqRx (m : PtpMsg) (s : State) : Host.Outcome State Fault Refusal :=
  runIn s 2 true fun c => c.ptpRx m fun c => c.ptpPdelayAnswer m

/-- PTP_DELAY_REQ_RX (R304). -/
def execPtpDelayReqRx (m : PtpMsg) (s : State) : Host.Outcome State Fault Refusal :=
  runIn s 2 true fun c => c.ptpRx m fun c => c.ptpDelayAnswer m

/-- PTP_ANNOUNCE_TIMEOUT (R302). -/
def execPtpAnnounceTimeout (s : State) : Host.Outcome State Fault Refusal :=
  runIn s 2 true fun c => c.ptpAnnounceLost

/-- PTP_SYNC_TIMEOUT (R314). -/
def execPtpSyncTimeout (s : State) : Host.Outcome State Fault Refusal :=
  runIn s 2 true fun c => c.ptpSyncLost

/-- TEST_TT_SYNC_SEND (R304). -/
def execTestTtSyncSend (s : State) : Host.Outcome State Fault Refusal :=
  runIn s 2 true fun c => c.testSync

/-- ORB_SLEW_DONE (R307). -/
def execOrbSlewDone (s : State) : Host.Outcome State Fault Refusal :=
  runIn s 2 true fun c => c.slewDone

/-- ORB_SECOND_BOUNDARY (R315). -/
def execOrbSecondBoundary (s : State) : Host.Outcome State Fault Refusal :=
  runIn s 2 true fun c => c.ppsRise

/-- PPS_OUT_PULSE_END (R315). -/
def execPpsOutPulseEnd (s : State) : Host.Outcome State Fault Refusal :=
  runIn s 2 true fun c => c.ppsFall

/-- PPS_IN_EDGE (R316). -/
def execPpsInEdge (s : State) : Host.Outcome State Fault Refusal :=
  runIn s 2 true fun c => c.ppsIn

/-- PPS_HOLDOVER_TIMEOUT (R314). -/
def execPpsHoldoverTimeout (s : State) : Host.Outcome State Fault Refusal :=
  runIn s 2 true fun c => c.ppsLost

/-- ORB_SET (R308). -/
def execOrbSet (src : Src) (v : Word) (s : State) : Host.Outcome State Fault Refusal :=
  run s fun c => c.writeOp src R.orbCmd (force F.orbCmdSet 1 v)

/-- ORB_NOM_NS_WRITE (R306). -/
def execOrbNomNsWrite (src : Src) (v : Word) (s : State) : Host.Outcome State Fault Refusal :=
  run s fun c => c.writeOp src R.orbNomNs v

/-- ORB_NOM_FRAC_WRITE (R306). -/
def execOrbNomFracWrite (src : Src) (v : Word) (s : State) : Host.Outcome State Fault Refusal :=
  run s fun c => c.writeOp src R.orbNomFrac v

/-- ORB_NOW_NS_READ (R310). -/
def execOrbNowNsRead (src : Src) (s : State) : Host.Outcome State Fault Refusal :=
  run s fun c => c.readOp src R.orbNowNs

end Sys2Proof.Machine
end

