-- ==== Sys2Proof/Machine/Dispatch.lean ====
section
/-! DEFINITION. Dispatch.lean: one arm for each command. -/

namespace Sys2Proof.Machine

/-- The effect of a command on everything but the queue. -/
def exec (i : Instr) (s : State) : Host.Outcome State Fault Refusal :=
  match i with
  | .registerWrite src a v => Sys2Proof.Machine.execRegisterWrite src a v s
  | .rcRegisterRead src a => Sys2Proof.Machine.execRcRegisterRead src a s
  | .scpBadCommand m => Sys2Proof.Machine.execScpBadCommand m s
  | .scpUnknownOpcode m => Sys2Proof.Machine.execScpUnknownOpcode m s
  | .scpRead m flips => Sys2Proof.Machine.execScpRead m flips s
  | .scpWrite m flips => Sys2Proof.Machine.execScpWrite m flips s
  | .scpWriteMask m => Sys2Proof.Machine.execScpWriteMask m s
  | .scpPing m => Sys2Proof.Machine.execScpPing m s
  | .scpSubscribe m => Sys2Proof.Machine.execScpSubscribe m s
  | .scpAuth m => Sys2Proof.Machine.execScpAuth m s
  | .scpDeauth m => Sys2Proof.Machine.execScpDeauth m s
  | .scpReset m => Sys2Proof.Machine.execScpReset m s
  | .scpResetDelayExpiry p => Sys2Proof.Machine.execScpResetDelayExpiry p s
  | .sessionLifeExpiry p => Sys2Proof.Machine.execSessionLifeExpiry p s
  | .scpReplayEntryExpiry p tag => Sys2Proof.Machine.execScpReplayEntryExpiry p tag s
  | .eventPacketSend => Sys2Proof.Machine.execEventPacketSend s
  | .eventRepeatTimer => Sys2Proof.Machine.execEventRepeatTimer s
  | .lanePowerUp n m => Sys2Proof.Machine.execLanePowerUp n m s
  | .laneTrainRequestUl m => Sys2Proof.Machine.execLaneTrainRequestUl m s
  | .laneWakeForTraining n m => Sys2Proof.Machine.execLaneWakeForTraining n m s
  | .laneWakeForData n m => Sys2Proof.Machine.execLaneWakeForData n m s
  | .lanePowerDown n m => Sys2Proof.Machine.execLanePowerDown n m s
  | .laneIdleFastExit n m => Sys2Proof.Machine.execLaneIdleFastExit n m s
  | .laneIdleDeepRequest n m => Sys2Proof.Machine.execLaneIdleDeepRequest n m s
  | .laneIdleFastRequest n m => Sys2Proof.Machine.execLaneIdleFastRequest n m s
  | .laneTrainingComplete n m x => Sys2Proof.Machine.execLaneTrainingComplete n m x s
  | .laneTrainingAbandoned n m x => Sys2Proof.Machine.execLaneTrainingAbandoned n m x s
  | .laneRetrainRequest n m => Sys2Proof.Machine.execLaneRetrainRequest n m s
  | .lnTestEnSet src n m v => Sys2Proof.Machine.execLnTestEnSet src n m v s
  | .lnTestEnClear src n m v => Sys2Proof.Machine.execLnTestEnClear src n m v s
  | .laneSignalDetectChange n m mv => Sys2Proof.Machine.execLaneSignalDetectChange n m mv s
  | .laneLos n m => Sys2Proof.Machine.execLaneLos n m s
  | .laneCdrLol n m => Sys2Proof.Machine.execLaneCdrLol n m s
  | .adaptWindowEnd n m edges x => Sys2Proof.Machine.execAdaptWindowEnd n m edges x s
  | .guardIntervalEnd n m eye => Sys2Proof.Machine.execGuardIntervalEnd n m eye s
  | .lnAdaptEnWrite src n m v => Sys2Proof.Machine.execLnAdaptEnWrite src n m v s
  | .laneMapWrite src n v => Sys2Proof.Machine.execLaneMapWrite src n v s
  | .laneRateWrite src n v => Sys2Proof.Machine.execLaneRateWrite src n v s
  | .prbsCheckerLock n rx => Sys2Proof.Machine.execPrbsCheckerLock n rx s
  | .prbsCheckerLoss n m before after => Sys2Proof.Machine.execPrbsCheckerLoss n m before after s
  | .prbsCountClear src n m v => Sys2Proof.Machine.execPrbsCountClear src n m v s
  | .prbsCountLoRead src n m bitsCount before after => Sys2Proof.Machine.execPrbsCountLoRead src n m bitsCount before after s
  | .lnInjSingle src n m v => Sys2Proof.Machine.execLnInjSingle src n m v s
  | .lnInjPeriodic src n m v => Sys2Proof.Machine.execLnInjPeriodic src n m v s
  | .lnInjPeriodicError n m => Sys2Proof.Machine.execLnInjPeriodicError n m s
  | .lnInjBurst src n m v => Sys2Proof.Machine.execLnInjBurst src n m v s
  | .lnInjOff src n m v => Sys2Proof.Machine.execLnInjOff src n m v s
  | .spareCondDue n => Sys2Proof.Machine.execSpareCondDue n s
  | .spareCondLockTimeout n => Sys2Proof.Machine.execSpareCondLockTimeout n s
  | .spareCondRunComplete n errs => Sys2Proof.Machine.execSpareCondRunComplete n errs s
  | .spareCondRetry n => Sys2Proof.Machine.execSpareCondRetry n s
  | .trainingFrameRx n m w crc => Sys2Proof.Machine.execTrainingFrameRx n m w crc s
  | .linkEnSet src n v => Sys2Proof.Machine.execLinkEnSet src n v s
  | .linkEnClear src n v => Sys2Proof.Machine.execLinkEnClear src n v s
  | .linkDrainEnd n => Sys2Proof.Machine.execLinkDrainEnd n s
  | .linkRetryNow src n v => Sys2Proof.Machine.execLinkRetryNow src n v s
  | .linkIdleReqFast src n v => Sys2Proof.Machine.execLinkIdleReqFast src n v s
  | .linkIdleReqDeep src n v => Sys2Proof.Machine.execLinkIdleReqDeep src n v s
  | .linkIdleReqActive src n v => Sys2Proof.Machine.execLinkIdleReqActive src n v s
  | .linkIdleExitTimeout n => Sys2Proof.Machine.execLinkIdleExitTimeout n s
  | .linkDetectSignal n => Sys2Proof.Machine.execLinkDetectSignal n s
  | .linkDetectTimeout n => Sys2Proof.Machine.execLinkDetectTimeout n s
  | .linkWakeTimeout n => Sys2Proof.Machine.execLinkWakeTimeout n s
  | .linkEqualizeTimeout n => Sys2Proof.Machine.execLinkEqualizeTimeout n s
  | .linkAlignTimeout n => Sys2Proof.Machine.execLinkAlignTimeout n s
  | .linkConfigureTimeout n => Sys2Proof.Machine.execLinkConfigureTimeout n s
  | .linkHbTimeout n => Sys2Proof.Machine.execLinkHbTimeout n s
  | .linkUnplug n => Sys2Proof.Machine.execLinkUnplug n s
  | .linkBackoffExpiry n => Sys2Proof.Machine.execLinkBackoffExpiry n s
  | .codewordRx n k onNew word => Sys2Proof.Machine.execCodewordRx n k onNew word s
  | .amPosition n k onNew block late => Sys2Proof.Machine.execAmPosition n k onNew block late s
  | .linePacketRx n pk => Sys2Proof.Machine.execLinePacketRx n pk s
  | .hbRx n pk => Sys2Proof.Machine.execHbRx n pk s
  | .hbSendTimer n => Sys2Proof.Machine.execHbSendTimer n s
  | .timeSendTimer n => Sys2Proof.Machine.execTimeSendTimer n s
  | .capRx n pk => Sys2Proof.Machine.execCapRx n pk s
  | .capResendTimer n => Sys2Proof.Machine.execCapResendTimer n s
  | .probeSend n => Sys2Proof.Machine.execProbeSend n s
  | .echoRx n block rtt => Sys2Proof.Machine.execEchoRx n block rtt s
  | .latencyProbePeriod n => Sys2Proof.Machine.execLatencyProbePeriod n s
  | .ctrlResponseRx n pk => Sys2Proof.Machine.execCtrlResponseRx n pk s
  | .ctrlRequestTimeout n => Sys2Proof.Machine.execCtrlRequestTimeout n s
  | .hregRead src n v => Sys2Proof.Machine.execHregRead src n v s
  | .hregWrite src n v => Sys2Proof.Machine.execHregWrite src n v s
  | .trigRoundDeparture n => Sys2Proof.Machine.execTrigRoundDeparture n s
  | .swapGo src n v => Sys2Proof.Machine.execSwapGo src n v s
  | .swapPrepareAckRx n pk => Sys2Proof.Machine.execSwapPrepareAckRx n pk s
  | .swapReadyRx n pk => Sys2Proof.Machine.execSwapReadyRx n pk s
  | .swapCommitAckRx n pk => Sys2Proof.Machine.execSwapCommitAckRx n pk s
  | .swapDoneRx n pk => Sys2Proof.Machine.execSwapDoneRx n pk s
  | .swapStepTimeout n => Sys2Proof.Machine.execSwapStepTimeout n s
  | .swapAbortRx n pk => Sys2Proof.Machine.execSwapAbortRx n pk s
  | .swapRequestRx n pk => Sys2Proof.Machine.execSwapRequestRx n pk s
  | .swapResendTimer n => Sys2Proof.Machine.execSwapResendTimer n s
  | .feSegmentRx n => Sys2Proof.Machine.execFeSegmentRx n s
  | .feLineDeadline n => Sys2Proof.Machine.execFeLineDeadline n s
  | .feLineCloseNotSent n => Sys2Proof.Machine.execFeLineCloseNotSent n s
  | .feLineHandover u => Sys2Proof.Machine.execFeLineHandover u s
  | .feTableInitDone n => Sys2Proof.Machine.execFeTableInitDone n s
  | .feTblDataWrite src n v => Sys2Proof.Machine.execFeTblDataWrite src n v s
  | .feTblDataRead src u => Sys2Proof.Machine.execFeTblDataRead src u s
  | .feTblChkGo src n v => Sys2Proof.Machine.execFeTblChkGo src n v s
  | .feTblChkDone n => Sys2Proof.Machine.execFeTblChkDone n s
  | .stcWebLineComplete => Sys2Proof.Machine.execStcWebLineComplete s
  | .ringBandLoaded flips => Sys2Proof.Machine.execRingBandLoaded flips s
  | .bandSliceComplete e flips => Sys2Proof.Machine.execBandSliceComplete e flips s
  | .blobMergerBand => Sys2Proof.Machine.execBlobMergerBand s
  | .colourPieceComplete e => Sys2Proof.Machine.execColourPieceComplete e s
  | .jobLoad src v => Sys2Proof.Machine.execJobLoad src v s
  | .jobLoadComplete data => Sys2Proof.Machine.execJobLoadComplete data s
  | .jobVerifyRef src v => Sys2Proof.Machine.execJobVerifyRef src v s
  | .jobVerifyRule src v => Sys2Proof.Machine.execJobVerifyRule src v s
  | .jobVerifyComplete => Sys2Proof.Machine.execJobVerifyComplete s
  | .jobArm src v => Sys2Proof.Machine.execJobArm src v s
  | .jobDisarm src v => Sys2Proof.Machine.execJobDisarm src v s
  | .jobWriteLanded => Sys2Proof.Machine.execJobWriteLanded s
  | .pairDigestRx pk => Sys2Proof.Machine.execPairDigestRx pk s
  | .pairDigestResend => Sys2Proof.Machine.execPairDigestResend s
  | .jobPairTimeout => Sys2Proof.Machine.execJobPairTimeout s
  | .pairVerdictRx pk => Sys2Proof.Machine.execPairVerdictRx pk s
  | .pairVerdictTimeout => Sys2Proof.Machine.execPairVerdictTimeout s
  | .pairDecideRx pk => Sys2Proof.Machine.execPairDecideRx pk s
  | .jobStopComplete => Sys2Proof.Machine.execJobStopComplete s
  | .jobPortOffWrite src v => Sys2Proof.Machine.execJobPortOffWrite src v s
  | .pairPortoffRx pk => Sys2Proof.Machine.execPairPortoffRx pk s
  | .jobProdOffWrite src v => Sys2Proof.Machine.execJobProdOffWrite src v s
  | .pairProdoffRx pk => Sys2Proof.Machine.execPairProdoffRx pk s
  | .shpEpoch => Sys2Proof.Machine.execShpEpoch s
  | .clusterStepComplete k => Sys2Proof.Machine.execClusterStepComplete k s
  | .shpSensorReading k j r => Sys2Proof.Machine.execShpSensorReading k j r s
  | .shpPowerReading k mw => Sys2Proof.Machine.execShpPowerReading k mw s
  | .shpDispatch => Sys2Proof.Machine.execShpDispatch s
  | .shpItemDeadlineDrop f => Sys2Proof.Machine.execShpItemDeadlineDrop f s
  | .shpLimitWrite src k v => Sys2Proof.Machine.execShpLimitWrite src k v s
  | .spareTestComplete e pass => Sys2Proof.Machine.execSpareTestComplete e pass s
  | .productPieceComplete u => Sys2Proof.Machine.execProductPieceComplete u s
  | .backgroundPieceComplete e ok => Sys2Proof.Machine.execBackgroundPieceComplete e ok s
  | .sspUnitForm k => Sys2Proof.Machine.execSspUnitForm k s
  | .sspFrameSend => Sys2Proof.Machine.execSspFrameSend s
  | .sspPseqRx pk => Sys2Proof.Machine.execSspPseqRx pk s
  | .sspPseqWaitTimeout => Sys2Proof.Machine.execSspPseqWaitTimeout s
  | .pairCstatRx pk => Sys2Proof.Machine.execPairCstatRx pk s
  | .cstatWaitTimeout => Sys2Proof.Machine.execCstatWaitTimeout s
  | .ulEnSet src v => Sys2Proof.Machine.execUlEnSet src v s
  | .ulEnClear src v => Sys2Proof.Machine.execUlEnClear src v s
  | .ulAnAgree => Sys2Proof.Machine.execUlAnAgree s
  | .ulAnTimeout => Sys2Proof.Machine.execUlAnTimeout s
  | .ulTrainComplete => Sys2Proof.Machine.execUlTrainComplete s
  | .ulTrainTimeout => Sys2Proof.Machine.execUlTrainTimeout s
  | .ulAlignLock => Sys2Proof.Machine.execUlAlignLock s
  | .ulAlignTimeout => Sys2Proof.Machine.execUlAlignTimeout s
  | .ulAlignLost => Sys2Proof.Machine.execUlAlignLost s
  | .ulLaneFailSpare m cdr => Sys2Proof.Machine.execUlLaneFailSpare m cdr s
  | .ulRetrain src v => Sys2Proof.Machine.execUlRetrain src v s
  | .ulSpareLaneLock => Sys2Proof.Machine.execUlSpareLaneLock s
  | .ulSpareRetrainComplete => Sys2Proof.Machine.execUlSpareRetrainComplete s
  | .ulSpareRetrainTimeout => Sys2Proof.Machine.execUlSpareRetrainTimeout s
  | .ulDownRetry => Sys2Proof.Machine.execUlDownRetry s
  | .ulLaneDegrade m errs => Sys2Proof.Machine.execUlLaneDegrade m errs s
  | .ulFrameDrop fr => Sys2Proof.Machine.execUlFrameDrop fr s
  | .arpRequestRx fr => Sys2Proof.Machine.execArpRequestRx fr s
  | .ndSolicitationRx fr => Sys2Proof.Machine.execNdSolicitationRx fr s
  | .ptpSyncRx m => Sys2Proof.Machine.execPtpSyncRx m s
  | .ptpFollowUpRx m => Sys2Proof.Machine.execPtpFollowUpRx m s
  | .ptpAnnounceRx m => Sys2Proof.Machine.execPtpAnnounceRx m s
  | .ptpDelayReqSend => Sys2Proof.Machine.execPtpDelayReqSend s
  | .ptpDelayRespRx m => Sys2Proof.Machine.execPtpDelayRespRx m s
  | .ptpPdelayReqSend => Sys2Proof.Machine.execPtpPdelayReqSend s
  | .ptpPdelayRespRx m => Sys2Proof.Machine.execPtpPdelayRespRx m s
  | .ptpPdelayReqRx m => Sys2Proof.Machine.execPtpPdelayReqRx m s
  | .ptpDelayReqRx m => Sys2Proof.Machine.execPtpDelayReqRx m s
  | .ptpAnnounceTimeout => Sys2Proof.Machine.execPtpAnnounceTimeout s
  | .ptpSyncTimeout => Sys2Proof.Machine.execPtpSyncTimeout s
  | .testTtSyncSend => Sys2Proof.Machine.execTestTtSyncSend s
  | .orbSlewDone => Sys2Proof.Machine.execOrbSlewDone s
  | .orbSecondBoundary => Sys2Proof.Machine.execOrbSecondBoundary s
  | .ppsOutPulseEnd => Sys2Proof.Machine.execPpsOutPulseEnd s
  | .ppsInEdge => Sys2Proof.Machine.execPpsInEdge s
  | .ppsHoldoverTimeout => Sys2Proof.Machine.execPpsHoldoverTimeout s
  | .orbSet src v => Sys2Proof.Machine.execOrbSet src v s
  | .orbNomNsWrite src v => Sys2Proof.Machine.execOrbNomNsWrite src v s
  | .orbNomFracWrite src v => Sys2Proof.Machine.execOrbNomFracWrite src v s
  | .orbNowNsRead src => Sys2Proof.Machine.execOrbNowNsRead src s
  | .encoderCount e a b => Sys2Proof.Machine.execEncoderCount e a b s
  | .encoderIllegal e => Sys2Proof.Machine.execEncoderIllegal e s
  | .encPositionRead src e => Sys2Proof.Machine.execEncPositionRead src e s
  | .triggerDueTimer => Sys2Proof.Machine.execTriggerDueTimer s
  | .cmtHostTrigger src v => Sys2Proof.Machine.execCmtHostTrigger src v s
  | .cmtHostPulse src v => Sys2Proof.Machine.execCmtHostPulse src v s
  | .sheetEdgeCandidate j level => Sys2Proof.Machine.execSheetEdgeCandidate j level s
  | .sheetEdgeAccept j => Sys2Proof.Machine.execSheetEdgeAccept j s
  | .encoderZEdge e => Sys2Proof.Machine.execEncoderZEdge e s
  | .trecRx pk => Sys2Proof.Machine.execTrecRx pk s
  | .takeoverTimeout => Sys2Proof.Machine.execTakeoverTimeout s
  | .hostPulseTimeEdge k => Sys2Proof.Machine.execHostPulseTimeEdge k s
  | .strobeEdge k => Sys2Proof.Machine.execStrobeEdge k s
  | .cmtOutCfgWrite src k v => Sys2Proof.Machine.execCmtOutCfgWrite src k v s
  | .dmaGo src n v => Sys2Proof.Machine.execDmaGo src n v s
  | .dmaStop src n v => Sys2Proof.Machine.execDmaStop src n v s
  | .dmaStoppingComplete n => Sys2Proof.Machine.execDmaStoppingComplete n s
  | .dmaDbclr src n v => Sys2Proof.Machine.execDmaDbclr src n v s
  | .dmaDoorbell src n v => Sys2Proof.Machine.execDmaDoorbell src n v s
  | .dmaMove n flips => Sys2Proof.Machine.execDmaMove n flips s
  | .dmaLoop n => Sys2Proof.Machine.execDmaLoop n s
  | .dmaWaitEvent n => Sys2Proof.Machine.execDmaWaitEvent n s
  | .dmaWaitDoorbell n => Sys2Proof.Machine.execDmaWaitDoorbell n s
  | .dmaWaitTime n => Sys2Proof.Machine.execDmaWaitTime n s
  | .dmaWaitTimeReached n => Sys2Proof.Machine.execDmaWaitTimeReached n s
  | .dmaSignal n => Sys2Proof.Machine.execDmaSignal n s
  | .dmaJump n => Sys2Proof.Machine.execDmaJump n s
  | .dmaPark n => Sys2Proof.Machine.execDmaPark n s
  | .dmaEnd n => Sys2Proof.Machine.execDmaEnd n s
  | .dmaDecodeError n => Sys2Proof.Machine.execDmaDecodeError n s
  | .dmaReadbackReturn n flips => Sys2Proof.Machine.execDmaReadbackReturn n flips s
  | .dmaRetryGap n => Sys2Proof.Machine.execDmaRetryGap n s
  | .cvuDataWrite src n v => Sys2Proof.Machine.execCvuDataWrite src n v s
  | .cvuClose src n v => Sys2Proof.Machine.execCvuClose src n v s
  | .cvuGo src n v => Sys2Proof.Machine.execCvuGo src n v s
  | .cvuAbort src n v => Sys2Proof.Machine.execCvuAbort src n v s
  | .cvuReadRunComplete n => Sys2Proof.Machine.execCvuReadRunComplete n s
  | .cvuReadEccError n word => Sys2Proof.Machine.execCvuReadEccError n word s
  | .eqOpen src n v => Sys2Proof.Machine.execEqOpen src n v s
  | .eqWdata src n v => Sys2Proof.Machine.execEqWdata src n v s
  | .eqClose src n v => Sys2Proof.Machine.execEqClose src n v s
  | .eqAbort src n v => Sys2Proof.Machine.execEqAbort src n v s
  | .eqPop src n v => Sys2Proof.Machine.execEqPop src n v s
  | .clkMonitorWindow counts plls => Sys2Proof.Machine.execClkMonitorWindow counts plls s
  | .clkSourceStop j => Sys2Proof.Machine.execClkSourceStop j s
  | .clkStartupWaitEnd j => Sys2Proof.Machine.execClkStartupWaitEnd j s
  | .clkPllRelock => Sys2Proof.Machine.execClkPllRelock s
  | .clkHoldoverExpiry => Sys2Proof.Machine.execClkHoldoverExpiry s
  | .clkFallbackReenable => Sys2Proof.Machine.execClkFallbackReenable s
  | .clkPllLockLoss p => Sys2Proof.Machine.execClkPllLockLoss p s
  | .corePllStandbyRestore => Sys2Proof.Machine.execCorePllStandbyRestore s
  | .clkSelectorHang d => Sys2Proof.Machine.execClkSelectorHang d s
  | .clkRevert src v => Sys2Proof.Machine.execClkRevert src v s
  | .clkForce src v => Sys2Proof.Machine.execClkForce src v s
  | .powerOn => Sys2Proof.Machine.execPowerOn s
  | .pwrgdLow => Sys2Proof.Machine.execPwrgdLow s
  | .resetNAssert => Sys2Proof.Machine.execResetNAssert s
  | .resetHoldEnd => Sys2Proof.Machine.execResetHoldEnd s
  | .watchdogKick src => Sys2Proof.Machine.execWatchdogKick src s
  | .watchdogExpiry => Sys2Proof.Machine.execWatchdogExpiry s
  | .rstMateReq src v => Sys2Proof.Machine.execRstMateReq src v s
  | .mateResetRequestRx pk => Sys2Proof.Machine.execMateResetRequestRx pk s
  | .bootAonStart => Sys2Proof.Machine.execBootAonStart s
  | .bootTrimLoadDone => Sys2Proof.Machine.execBootTrimLoadDone s
  | .bootStrapSample up down => Sys2Proof.Machine.execBootStrapSample up down s
  | .bootPllLock => Sys2Proof.Machine.execBootPllLock s
  | .bootPllTimeout => Sys2Proof.Machine.execBootPllTimeout s
  | .bootPartVerified imgs => Sys2Proof.Machine.execBootPartVerified imgs s
  | .bootPushGo src v => Sys2Proof.Machine.execBootPushGo src v s
  | .bootRegApplied trained => Sys2Proof.Machine.execBootRegApplied trained s
  | .optDataWrite src v => Sys2Proof.Machine.execOptDataWrite src v s
  | .optDataRead src => Sys2Proof.Machine.execOptDataRead src s
  | .optWritePulseDone ok => Sys2Proof.Machine.execOptWritePulseDone ok s
  | .secAttest src v => Sys2Proof.Machine.execSecAttest src v s
  | .secAttestDone => Sys2Proof.Machine.execSecAttestDone s
  | .secSvnCommit src v => Sys2Proof.Machine.execSecSvnCommit src v s
  | .secOwn src v => Sys2Proof.Machine.execSecOwn src v s
  | .fcInjectGo src v => Sys2Proof.Machine.execFcInjectGo src v s
  | .fcPendAck src v => Sys2Proof.Machine.execFcPendAck src v s
  | .fcFirstClr src v => Sys2Proof.Machine.execFcFirstClr src v s
  | .fcWithdraw src v => Sys2Proof.Machine.execFcWithdraw src v s
  | .withdrawTrigRoundLeft => Sys2Proof.Machine.execWithdrawTrigRoundLeft s
  | .fcResume src v => Sys2Proof.Machine.execFcResume src v s
  | .thermalTrip => Sys2Proof.Machine.execThermalTrip s
  | .thermalTripRelease => Sys2Proof.Machine.execThermalTripRelease s
  | .wearHourly => Sys2Proof.Machine.execWearHourly s
  | .fcWearLimWrite src v => Sys2Proof.Machine.execFcWearLimWrite src v s
  | .pairStateSend => Sys2Proof.Machine.execPairStateSend s
  | .pairStateRx pk => Sys2Proof.Machine.execPairStateRx pk s
  | .pairStateTimeout => Sys2Proof.Machine.execPairStateTimeout s
  | .pairWithdrawRx pk => Sys2Proof.Machine.execPairWithdrawRx pk s
  | .pairJoinCmd src v => Sys2Proof.Machine.execPairJoinCmd src v s
  | .pairJoinRx pk => Sys2Proof.Machine.execPairJoinRx pk s
  | .pairJoinAckRx pk => Sys2Proof.Machine.execPairJoinAckRx pk s
  | .pairFieldRx pk => Sys2Proof.Machine.execPairFieldRx pk s
  | .pairDseqRx pk => Sys2Proof.Machine.execPairDseqRx pk s
  | .pairBdigRx pk => Sys2Proof.Machine.execPairBdigRx pk s
  | .pairBdigTimeout => Sys2Proof.Machine.execPairBdigTimeout s
  | .pairTchkTimer => Sys2Proof.Machine.execPairTchkTimer s
  | .pairTchkRx pk => Sys2Proof.Machine.execPairTchkRx pk s
  | .mcInit src v => Sys2Proof.Machine.execMcInit src v s
  | .mcTrainStepDone n ok => Sys2Proof.Machine.execMcTrainStepDone n ok s
  | .mcScrubPiece n hits pass => Sys2Proof.Machine.execMcScrubPiece n hits pass s
  | .mcRowRepairDone n => Sys2Proof.Machine.execMcRowRepairDone n s
  | .mcHppr src n v => Sys2Proof.Machine.execMcHppr src n v s
  | .mcSppr src n v => Sys2Proof.Machine.execMcSppr src n v s
  | .mcPprDone n ok => Sys2Proof.Machine.execMcPprDone n ok s
  | .mcTempRead n t0 t1 mr4Hot => Sys2Proof.Machine.execMcTempRead n t0 t1 mr4Hot s
  | .mcI2cReadTimeout n second t mr4Hot => Sys2Proof.Machine.execMcI2cReadTimeout n second t mr4Hot s
  | .mcRmapDataRead src n => Sys2Proof.Machine.execMcRmapDataRead src n s
  | .railUndervoltage => Sys2Proof.Machine.execRailUndervoltage s
  | .aonUndervoltage => Sys2Proof.Machine.execAonUndervoltage s
  | .testmodeHigh high => Sys2Proof.Machine.execTestmodeHigh high s
  | .jtagTrst => Sys2Proof.Machine.execJtagTrst s
  | .jtagExtest v => Sys2Proof.Machine.execJtagExtest v s
  | .jtagIdcode => Sys2Proof.Machine.execJtagIdcode s
  | .jtagSamplePreload v => Sys2Proof.Machine.execJtagSamplePreload v s
  | .jtagHighz => Sys2Proof.Machine.execJtagHighz s
  | .jtagClamp => Sys2Proof.Machine.execJtagClamp s
  | .jtagExtestPulse v => Sys2Proof.Machine.execJtagExtestPulse v s
  | .jtagExtestTrain v => Sys2Proof.Machine.execJtagExtestTrain v s
  | .jtagBootstat => Sys2Proof.Machine.execJtagBootstat s
  | .jtagBypass code => Sys2Proof.Machine.execJtagBypass code s
  | .swapPrepareRx pk => Sys2Proof.Machine.execSwapPrepareRx pk s
  | .swapCommitRx pk => Sys2Proof.Machine.execSwapCommitRx pk s
  | .deviceCapRx pk => Sys2Proof.Machine.execDeviceCapRx pk s
  | .sheetCandidateDiscard j => Sys2Proof.Machine.execSheetCandidateDiscard j s
  | .spiResponseReadOut => Sys2Proof.Machine.execSpiResponseReadOut s
  | .scpResponseLeaves => Sys2Proof.Machine.execScpResponseLeaves s
  | .engineParityError e => Sys2Proof.Machine.execEngineParityError e s

end Sys2Proof.Machine
end

