-- ==== Sys2Proof/WellFormed.lean ====
section
/-! DEFINITION. WellFormed.lean: which commands name something the device has (R7 to R9, R241, R450): the units, lanes,
channels and lengths of their operands. A command that is not well formed has no effect of its own. -/

namespace Sys2Proof

open Machine

/-- The operands of a command are within the device. -/
def Instr.wf : Instr → Bool
  | .registerWrite _ _ _ => true
  | .rcRegisterRead _ _ => true
  | .scpBadCommand _ => true
  | .scpUnknownOpcode _ => true
  | .scpRead _ _ => true
  | .scpWrite _ _ => true
  | .scpWriteMask _ => true
  | .scpPing _ => true
  | .scpSubscribe _ => true
  | .scpAuth _ => true
  | .scpDeauth _ => true
  | .scpReset _ => true
  | .scpResetDelayExpiry _ => true
  | .sessionLifeExpiry _ => true
  | .scpReplayEntryExpiry _ _ => true
  | .eventPacketSend => true
  | .eventRepeatTimer => true
  | .lanePowerUp n m => n < 9 && m < laneCount n
  | .laneTrainRequestUl m => m < 9
  | .laneWakeForTraining n m => n < 9 && m < laneCount n
  | .laneWakeForData n m => n < 9 && m < laneCount n
  | .lanePowerDown n m => m < laneCount n && n < 10
  | .laneIdleFastExit n m => n < 9 && m < laneCount n
  | .laneIdleDeepRequest n m => n < 9 && m < laneCount n
  | .laneIdleFastRequest n m => n < 9 && m < laneCount n
  | .laneTrainingComplete n m _ => m < laneCount n && n < 10
  | .laneTrainingAbandoned n m _ => m < laneCount n && n < 10
  | .laneRetrainRequest n m => m < laneCount n && n < 10
  | .lnTestEnSet _ n m _ => m < laneCount n && n < 10
  | .lnTestEnClear _ n m _ => m < laneCount n && n < 10
  | .laneSignalDetectChange n m _ => m < laneCount n && n < 10
  | .laneLos n m => m < laneCount n && n < 10
  | .laneCdrLol n m => m < laneCount n && n < 10
  | .adaptWindowEnd n m _ _ => m < laneCount n && n < 10
  | .guardIntervalEnd n m _ => m < laneCount n && n < 10
  | .lnAdaptEnWrite _ n m _ => m < laneCount n && n < 10
  | .laneMapWrite _ n _ => n < 10
  | .laneRateWrite _ n _ => n < 8
  | .prbsCheckerLock n rx => rx.lane < laneCount n && n < 10 && rx.levels.all (· < 4)
  | .prbsCheckerLoss n m l k => m < laneCount n && n < 10 && (l ++ k).all (· < 4)
  | .prbsCountClear _ n m _ => m < laneCount n && n < 10
  | .prbsCountLoRead _ n m _ l k => m < laneCount n && n < 10 && (l ++ k).all (· < 4)
  | .lnInjSingle _ n m _ => m < laneCount n && n < 10
  | .lnInjPeriodic _ n m _ => m < laneCount n && n < 10
  | .lnInjPeriodicError n m => m < laneCount n && n < 10
  | .lnInjBurst _ n m _ => m < laneCount n && n < 10
  | .lnInjOff _ n m _ => m < laneCount n && n < 10
  | .spareCondDue n => n < 10
  | .spareCondLockTimeout n => n < 10
  | .spareCondRunComplete n _ => n < 10
  | .spareCondRetry n => n < 10
  | .trainingFrameRx n m _ _ => n < 9 && m < laneCount n
  | .linkEnSet _ n _ => n < 9
  | .linkEnClear _ n _ => n < 9
  | .linkDrainEnd n => n < 9
  | .linkRetryNow _ n _ => n < 9
  | .linkIdleReqFast _ n _ => n < 9
  | .linkIdleReqDeep _ n _ => n < 9
  | .linkIdleReqActive _ n _ => n < 9
  | .linkIdleExitTimeout n => n < 9
  | .linkDetectSignal n => n < 9
  | .linkDetectTimeout n => n < 9
  | .linkWakeTimeout n => n < 9
  | .linkEqualizeTimeout n => n < 9
  | .linkAlignTimeout n => n < 9
  | .linkConfigureTimeout n => n < 9
  | .linkHbTimeout n => n < 9
  | .linkUnplug n => n < 9
  | .linkBackoffExpiry n => n < 9
  | .codewordRx n _ _ sym => n < 9 && sym.length == 2720 && sym.all (· < 4)
  | .amPosition n _ _ block _ => n < 9 && block.length == 32
  | .linePacketRx n _ => n < 8
  | .hbRx n _ => n < 9
  | .hbSendTimer n => n < 9
  | .timeSendTimer n => n < 9
  | .capRx n _ => n < 9
  | .capResendTimer n => n < 9
  | .probeSend n => n < 8
  | .echoRx n _ _ => n < 8
  | .latencyProbePeriod n => n < 8
  | .ctrlResponseRx n _ => n < 8
  | .ctrlRequestTimeout n => n < 8
  | .hregRead _ n _ => n < 8
  | .hregWrite _ n _ => n < 8
  | .trigRoundDeparture n => n < 8
  | .swapGo _ n _ => n < 9
  | .swapPrepareAckRx n _ => n < 9
  | .swapReadyRx n _ => n < 9
  | .swapCommitAckRx n _ => n < 9
  | .swapDoneRx n _ => n < 9
  | .swapStepTimeout n => n < 9
  | .swapAbortRx n _ => n < 9
  | .swapRequestRx n _ => n < 9
  | .swapResendTimer n => n < 9
  | .feSegmentRx n => n < 8
  | .feLineDeadline n => n < 8
  | .feLineCloseNotSent n => n < 8
  | .feLineHandover u => u.unit < 8
  | .feTableInitDone n => n < 8
  | .feTblDataWrite _ n _ => n < 8
  | .feTblDataRead _ u => u.unit < 8
  | .feTblChkGo _ n _ => n < 8
  | .feTblChkDone n => n < 8
  | .stcWebLineComplete => true
  | .ringBandLoaded _ => true
  | .bandSliceComplete e _ => e < 68
  | .blobMergerBand => true
  | .colourPieceComplete e => e < 68
  | .jobLoad _ _ => true
  | .jobLoadComplete _ => true
  | .jobVerifyRef _ _ => true
  | .jobVerifyRule _ _ => true
  | .jobVerifyComplete => true
  | .jobArm _ _ => true
  | .jobDisarm _ _ => true
  | .jobWriteLanded => true
  | .pairDigestRx _ => true
  | .pairDigestResend => true
  | .jobPairTimeout => true
  | .pairVerdictRx _ => true
  | .pairVerdictTimeout => true
  | .pairDecideRx _ => true
  | .jobStopComplete => true
  | .jobPortOffWrite _ _ => true
  | .pairPortoffRx _ => true
  | .jobProdOffWrite _ _ => true
  | .pairProdoffRx _ => true
  | .shpEpoch => true
  | .clusterStepComplete k => k < 4
  | .shpSensorReading k j _ => k < 4 && j < 4
  | .shpPowerReading k _ => k < 4
  | .shpDispatch => true
  | .shpItemDeadlineDrop f => f == 1 || f == 2
  | .shpLimitWrite _ k _ => k < 4
  | .spareTestComplete e _ => e < 68
  | .productPieceComplete u => u.unit < 68
  | .backgroundPieceComplete e _ => e < 68
  | .sspUnitForm k => k < 6
  | .sspFrameSend => true
  | .sspPseqRx _ => true
  | .sspPseqWaitTimeout => true
  | .pairCstatRx _ => true
  | .cstatWaitTimeout => true
  | .ulEnSet _ _ => true
  | .ulEnClear _ _ => true
  | .ulAnAgree => true
  | .ulAnTimeout => true
  | .ulTrainComplete => true
  | .ulTrainTimeout => true
  | .ulAlignLock => true
  | .ulAlignTimeout => true
  | .ulAlignLost => true
  | .ulLaneFailSpare m _ => m < 9
  | .ulRetrain _ _ => true
  | .ulSpareLaneLock => true
  | .ulSpareRetrainComplete => true
  | .ulSpareRetrainTimeout => true
  | .ulDownRetry => true
  | .ulLaneDegrade m _ => m < 9
  | .ulFrameDrop _ => true
  | .arpRequestRx _ => true
  | .ndSolicitationRx _ => true
  | .ptpSyncRx _ => true
  | .ptpFollowUpRx _ => true
  | .ptpAnnounceRx _ => true
  | .ptpDelayReqSend => true
  | .ptpDelayRespRx _ => true
  | .ptpPdelayReqSend => true
  | .ptpPdelayRespRx _ => true
  | .ptpPdelayReqRx _ => true
  | .ptpDelayReqRx _ => true
  | .ptpAnnounceTimeout => true
  | .ptpSyncTimeout => true
  | .testTtSyncSend => true
  | .orbSlewDone => true
  | .orbSecondBoundary => true
  | .ppsOutPulseEnd => true
  | .ppsInEdge => true
  | .ppsHoldoverTimeout => true
  | .orbSet _ _ => true
  | .orbNomNsWrite _ _ => true
  | .orbNomFracWrite _ _ => true
  | .orbNowNsRead _ => true
  | .encoderCount e _ _ => e < 2
  | .encoderIllegal e => e < 2
  | .encPositionRead _ e => e < 2
  | .triggerDueTimer => true
  | .cmtHostTrigger _ _ => true
  | .cmtHostPulse _ _ => true
  | .sheetEdgeCandidate j _ => j < 2
  | .sheetEdgeAccept j => j < 2
  | .encoderZEdge e => e < 2
  | .trecRx _ => true
  | .takeoverTimeout => true
  | .hostPulseTimeEdge k => k < 24
  | .strobeEdge k => k < 24
  | .cmtOutCfgWrite _ k _ => k < 24
  | .dmaGo _ n _ => n < 16
  | .dmaStop _ n _ => n < 16
  | .dmaStoppingComplete n => n < 16
  | .dmaDbclr _ n _ => n < 16
  | .dmaDoorbell _ n _ => n < 16
  | .dmaMove n _ => n < 16
  | .dmaLoop n => n < 16
  | .dmaWaitEvent n => n < 16
  | .dmaWaitDoorbell n => n < 16
  | .dmaWaitTime n => n < 16
  | .dmaWaitTimeReached n => n < 16
  | .dmaSignal n => n < 16
  | .dmaJump n => n < 16
  | .dmaPark n => n < 16
  | .dmaEnd n => n < 16
  | .dmaDecodeError n => n < 16
  | .dmaReadbackReturn n _ => n < 16
  | .dmaRetryGap n => n < 16
  | .cvuDataWrite _ n _ => n < 8
  | .cvuClose _ n _ => n < 8
  | .cvuGo _ n _ => n < 8
  | .cvuAbort _ n _ => n < 8
  | .cvuReadRunComplete n => n < 8
  | .cvuReadEccError n _ => n < 8
  | .eqOpen _ n _ => n < 4
  | .eqWdata _ n _ => n < 4
  | .eqClose _ n _ => n < 4
  | .eqAbort _ n _ => n < 4
  | .eqPop _ n _ => n < 4
  | .clkMonitorWindow counts plls => counts.length == 5 && plls.all (· < 5)
  | .clkSourceStop j => j < 10
  | .clkStartupWaitEnd j => j < 2
  | .clkPllRelock => true
  | .clkHoldoverExpiry => true
  | .clkFallbackReenable => true
  | .clkPllLockLoss p => p < 5
  | .corePllStandbyRestore => true
  | .clkSelectorHang d => d < 4
  | .clkRevert _ _ => true
  | .clkForce _ _ => true
  | .powerOn => true
  | .pwrgdLow => true
  | .resetNAssert => true
  | .resetHoldEnd => true
  | .watchdogKick _ => true
  | .watchdogExpiry => true
  | .rstMateReq _ _ => true
  | .mateResetRequestRx _ => true
  | .bootAonStart => true
  | .bootTrimLoadDone => true
  | .bootStrapSample up down => up < 1024 && down < 1024
  | .bootPllLock => true
  | .bootPllTimeout => true
  | .bootPartVerified imgs => imgs.length ≤ 2
  | .bootPushGo _ _ => true
  | .bootRegApplied trained => trained.all (· < 6)
  | .optDataWrite _ _ => true
  | .optDataRead _ => true
  | .optWritePulseDone _ => true
  | .secAttest _ _ => true
  | .secAttestDone => true
  | .secSvnCommit _ _ => true
  | .secOwn _ _ => true
  | .fcInjectGo _ _ => true
  | .fcPendAck _ _ => true
  | .fcFirstClr _ _ => true
  | .fcWithdraw _ _ => true
  | .withdrawTrigRoundLeft => true
  | .fcResume _ _ => true
  | .thermalTrip => true
  | .thermalTripRelease => true
  | .wearHourly => true
  | .fcWearLimWrite _ _ => true
  | .pairStateSend => true
  | .pairStateRx _ => true
  | .pairStateTimeout => true
  | .pairWithdrawRx _ => true
  | .pairJoinCmd _ _ => true
  | .pairJoinRx _ => true
  | .pairJoinAckRx _ => true
  | .pairFieldRx _ => true
  | .pairDseqRx _ => true
  | .pairBdigRx _ => true
  | .pairBdigTimeout => true
  | .pairTchkTimer => true
  | .pairTchkRx _ => true
  | .mcInit _ _ => true
  | .mcTrainStepDone n _ => n < 6
  | .mcScrubPiece n _ _ => n < 6
  | .mcRowRepairDone n => n < 6
  | .mcHppr _ n _ => n < 6
  | .mcSppr _ n _ => n < 6
  | .mcPprDone n _ => n < 6
  | .mcTempRead n _ _ _ => n < 6
  | .mcI2cReadTimeout n _ _ _ => n < 6
  | .mcRmapDataRead _ n => n < 6
  | .railUndervoltage => true
  | .aonUndervoltage => true
  | .testmodeHigh _ => true
  | .jtagTrst => true
  | .jtagExtest v => v < 2 ^ boundaryCells
  | .jtagIdcode => true
  | .jtagSamplePreload v => v < 2 ^ boundaryCells
  | .jtagHighz => true
  | .jtagClamp => true
  | .jtagExtestPulse v => v < 2 ^ boundaryCells
  | .jtagExtestTrain v => v < 2 ^ boundaryCells
  | .jtagBootstat => true
  | .jtagBypass code => code < 256
  | .swapPrepareRx _ => true
  | .swapCommitRx _ => true
  | .deviceCapRx _ => true
  | .sheetCandidateDiscard j => j < 2
  | .spiResponseReadOut => true
  | .scpResponseLeaves => true
  | .engineParityError e => e < 68

end Sys2Proof
end

