-- ==== Sys2Proof/Safety.lean ====
section
/-! DEFINITION. Safety.lean: what statements mean by a state in order, and by one in which a command shows its own effect
alone. -/

namespace Sys2Proof.Machine

/-- Registers and memories are in canonical form: addresses rise strictly and no entry repeats what an unlisted one reads
as. Equal contents are then equal data. -/
def Chip.Canonical (c : Chip) : Prop :=
  swf resetVal c.regs ∧ swf memDefault c.mem

/-- A run is in order where registers and memories are canonical. -/
def State.Inv (s : State) : Prop := s.chip.Canonical

/-- SCP_SUM shows the event registers: one bit each, set while the register is not 0 (R352). -/
def Chip.SumShown (c : Chip) : Prop := c.f F.scpSumSum = c.summary

/-- Nothing is left over from the command before: no report on its way to the fault controller, no work owed, no old bank
and no stop that could end now. What a command then does is its own effect and the summary's. -/
def Chip.Quiet (c : Chip) : Prop :=
  c.reports = [] ∧ c.defers = [] ∧ c.fc.waiting = [] ∧ c.job.stopping = false ∧ c.pair.serveDseq = false
    ∧ (∀ n < 8, c.fb (F.feStatOldBusy n) = false) ∧ c.fb F.stcStatOldBusy = false ∧ c.fb F.ieStatOldBusy = false
    ∧ c.fb F.csStatOldBusy = false ∧ c.fb F.sspStatOldBusy = false

/-- Every register but those listed and the summary SCP_SUM, and every byte of the memories, reads as before. -/
def Chip.Keeps (c t : Chip) (l : List Nat) : Prop :=
  (∀ a, a ∉ l → a ≠ R.scpSum → t.rd a = c.rd a) ∧ ∀ a, t.byte a = c.byte a

/-- The command completes with an effect of its own that `P` describes. It answers the next state in which the queue is as
it was and the device has settled after that effect; where the effect leaves nothing to settle, `P` describes the next
state itself. -/
def Does (i : Instr) (s : State) (P : Chip → Prop) : Prop :=
  ∃ c : Chip, exec i s = .next { s with chip := c.settle } ∧ P c ∧ (c.Quiet → P c.settle)

/-- What a power-on reset leaves (R411, R413): the reset hold, registers at their reset values but for those that show
words of the option store, memories of zeros, and an option store that keeps every word whose write was not still to end. -/
def Chip.PowerReset (c t : Chip) : Prop :=
  t.boot.hold = true ∧ t.boot.straps = false ∧ (∀ a, t.byte a = 0#8)
    ∧ (∀ a, a ∉ [R.shpBudgetW, R.glbSerialLo, R.glbSerialHi, R.secSvnMin, R.secAttIdx, R.secStat, R.optStat] →
        a ≠ R.scpSum → t.rd a = resetVal a)
    ∧ ∀ i, (∀ w ∈ c.boot.optw, w.word ≠ i) → t.optWord i = c.optWord i

/-- What a device reset leaves (R411, R413): the reset hold, the registers of CLK and RST as they were but for RST_CAUSE
and RST_COUNT, the straps, every other register at its reset value but for those that show words of the option store and
PL_STAT, memories of zeros, and an option store that keeps every word whose write was not still to end. -/
def Chip.DeviceReset (c t : Chip) : Prop :=
  t.boot.hold = true ∧ t.boot.straps = c.boot.straps ∧ (∀ a, t.byte a = 0#8)
    ∧ (∀ a, 0x10000 ≤ a → a < 0x20000 → a ≠ R.rstCause → a ≠ R.rstCount → t.rd a = c.rd a)
    ∧ t.rd R.glbStrap = c.rd R.glbStrap
    ∧ (∀ a, ¬(0x10000 ≤ a ∧ a < 0x20000) → a ∉ [R.shpBudgetW, R.glbSerialLo, R.glbSerialHi, R.secSvnMin, R.secAttIdx,
        R.secStat, R.optStat, R.glbStrap, R.plStat] → a ≠ R.scpSum → t.rd a = resetVal a)
    ∧ ∀ i, (∀ w ∈ c.boot.optw, w.word ≠ i) → t.optWord i = c.optWord i

/-- The registers of a lane that its changes of state touch; LN_TXEQ is not among them. -/
def laneRegs (n m : Nat) : List Nat :=
  [R.lnState n m, R.lnRxeq n m, R.lnFfe0 n m, R.lnEye n m, R.lnPrbsCtrl n m, R.lnPrbsStat n m]
    ++ if n = 9 then [R.lnFfe1 m, R.lnFfe2 m, R.lnDfe m] else []

/-- No rule rejects a register write (R499). -/
def Chip.Allows (c : Chip) (src : Src) (a : Nat) (v : Word) : Prop := pickStatus (c.writeChecks src a v) = 0

/-- No rule rejects a register read (R15, R29). -/
def Chip.AllowsRead (c : Chip) (src : Src) (a : Nat) : Prop := pickStatus (c.accessChecks src a false) = 0

/-- A packet of a type that the receiver of a link takes: the PCS runs and the packet passes checks 1 to 4 of R87. -/
def Chip.Takes (c : Chip) (n typ : Nat) (pk : RxPkt) : Prop :=
  c.pcsRuns n = true ∧ (c.rxCheck n pk).2 = true ∧ fieldBE pk.bytes 0 1 / 16 = typ

/-- A PAIR message of a type that the device takes (R452). -/
def Chip.Hears (c : Chip) (mtype : Nat) (pk : RxPkt) : Prop :=
  c.Takes 8 8 pk ∧ c.pairMode = true ∧ fieldBE pk.bytes 4 1 = mtype

/-- A register whose write acts beside storing its fields: each has a rule, and most a row of the table, of its own. -/
def actingReg (a : Nat) : Bool :=
  [R.glbBootCmd, 0x10008, 0x1000C, 0x1800C, 0x18010, 0x20004, 0x20008, 0x20028, 0x2002C, R.optData, R.secCmd, 0x80000, 0x8001C,
    0x80020, 0x80054, 0x80058, 0x9002C, R.plCmd, R.jobCmd, R.jobPortOff, R.jobProdOff].contains a
  || (decide (0x50100 ≤ a) && decide (a < 0x50500) && [0x00, 0x1C].contains (a % 0x40))
  || (decide (0x60100 ≤ a) && decide (a < 0x70000) && [0x00, 0x04, 0x0C].contains (a % 0x40))
  || (decide (0x70100 ≤ a) && decide (a < 0x80000) && [0x14, 0x18, 0x1C].contains (a % 0x40))
  || (decide (0x90100 ≤ a) && decide (a < 0x90280) && a % 0x10 == 0)
  || (decide (0x100000 ≤ a) && decide (a < 0x1A0000) &&
      (if 0x8F00 ≤ a % 0x10000 then decide (0x190000 ≤ a) || a % 0x10000 == 0x8F00
       else if 0x8000 ≤ a % 0x10000 then [0x00, 0x20, 0x34, 0x4C].contains (a % 0x100)
       else [0x00, 0x18, 0x28].contains (a % 0x10000)))
  || (decide (0x200000 ≤ a) && decide (a < 0x300000) && [0x08, 0x0C].contains (a % 0x2000))
  || (decide (0x800000 ≤ a) && [0x04, 0x18].contains (a % 0x10000))

/-- A register, of whatever block, whose write stores and does nothing else, but that a staged one may spoil a verify and that
a privileged one uses the session. -/
def plainReg (a : Nat) : Prop := actingReg a = false

/-- A register whose read returns what it holds: it has no window, no capture and no count that is made on reading. -/
def plainRead (a : Nat) : Prop :=
  a ∉ [R.optData, R.orbNowNs, R.cmtVel, R.cmtStat, R.cmtEncLo 0, R.cmtEncLo 1]
    ∧ ¬(0x100000 ≤ a ∧ a < 0x1A0000 ∧ 0x8000 ≤ a % 0x10000 ∧ a % 0x10000 < 0x8F00 ∧ (a % 0x100 = 0x3C ∨ a % 0x100 = 0x44))
    ∧ ¬(0x200000 ≤ a ∧ a < 0x300000 ∧ a % 0x2000 = 0x08)
    ∧ ¬(0x800000 ≤ a ∧ (a % 0x10000 = 0x20 ∨ a % 0x10000 = 0x3C))

/-- A well-formed SCP command arrives on a path that can execute it at once, and it is no retry (R339, R340, R345, R349). -/
def Chip.Ready (c : Chip) (m : ScpCmd) : Prop :=
  c.pathUp m = true ∧ m.broken = false ∧ m.tooLong = false ∧ c.resetPending m.path = false ∧ c.scpKept m = none
    ∧ (m.path = .ul → c.scp.ulq = []) ∧ (m.path = .spi → c.scp.spi = none)

/-- The response to a command: the SPI path shows it at once, on the uplink it waits to leave (R339, R341, R346). -/
def Chip.Responds (c t : Chip) (m : ScpCmd) (st : Nat) (data : List Byte) : Prop :=
  match m.path with
  | .spi => Out.spi (c.scpResponse m st data) ∈ t.out
  | .ul => t.scp.ulResp = some (c.scpResponse m st data)

/-- The command was answered with a status and data; one that was executed is counted (R339, R341, R348). -/
def Chip.Answered (c t : Chip) (m : ScpCmd) (st : Nat) (data : List Byte) : Prop :=
  c.Responds t m st data
    ∧ t.f F.scpRxCmdCount = (if st = 0 then satAdd F.scpRxCmdCount.width (c.f F.scpRxCmdCount) 1 else c.f F.scpRxCmdCount)

end Sys2Proof.Machine
end

