-- ==== Sys2Proof/Certificates/Slice0/Obligations.lean ====
section
/-! DEFINITION. Certificates/Slice0/Obligations.lean: the statements for the provers, in terms of `Does` and of the
properties of Safety.lean. -/

open Sys2Proof Sys2Proof.Machine

/-- POWER_ON, PWRGD_LOW, RAIL_UNDERVOLTAGE and AON_UNDERVOLTAGE reset everything but the option store (R411, R487);
the two undervoltages and a low PWRGD hold the device. The model's choice: the memories read as zeros afterwards (log
entry 3). RESET_N_ASSERT, WATCHDOG_EXPIRY and TESTMODE reset the device; the first two record their cause and count
(R411, R414, R479). A device that illegal straps hold stays as it is but for the cause (R416; that the cause is
recorded is the model's choice, log entry 25). The model's choices too: the memories read as zeros after a reset (log
entry 3), and TESTMODE that falls lets the device go (log entry 34). -/
def Obligations.Resets : Prop :=
  (∀ s : State,
    Does .powerOn s (fun t => s.chip.PowerReset t ∧ t.boot.pwrLow = false ∧ t.boot.aonLow = false)
    ∧ Does .pwrgdLow s (fun t => s.chip.PowerReset t ∧ t.boot.pwrLow = true ∧ t.boot.aonLow = s.chip.boot.aonLow)
    ∧ Does .railUndervoltage s (fun t => s.chip.PowerReset t ∧ t.boot.pwrLow = true ∧ t.boot.aonLow = s.chip.boot.aonLow)
    ∧ Does .aonUndervoltage s (fun t => s.chip.PowerReset t ∧ t.boot.pwrLow = true ∧ t.boot.aonLow = true))
  ∧ ∀ s : State,
    (s.chip.strapHold = false → Does .resetNAssert s (fun t => s.chip.DeviceReset t ∧ t.boot.pinLow = true
      ∧ t.rd R.rstCause = putBits (s.chip.rd R.rstCause) 1 1 1
      ∧ t.f F.rstCountCount = satAdd F.rstCountCount.width (s.chip.f F.rstCountCount) 1))
    ∧ (s.chip.strapHold = true → Does .resetNAssert s (fun t => t.rd R.rstCause = putBits (s.chip.rd R.rstCause) 1 1 1
      ∧ t.boot = { s.chip.boot with pinLow := true } ∧ s.chip.Keeps t [R.rstCause])
      ∧ Does (.testmodeHigh true) s (fun t => t.boot = { s.chip.boot with testHi := true } ∧ s.chip.Keeps t []))
    ∧ (s.chip.strapHold = false → s.chip.fb F.rstCfgWdtEn = true →
      Does .watchdogExpiry s fun t => s.chip.DeviceReset t
        ∧ t.rd R.rstCause = putBits (s.chip.rd R.rstCause) 2 1 1
        ∧ t.f F.rstCountCount = satAdd F.rstCountCount.width (s.chip.f F.rstCountCount) 1)
    ∧ (s.chip.strapHold = false → Does (.testmodeHigh true) s (fun t => s.chip.DeviceReset t ∧ t.boot.testHi = true
      ∧ t.rd R.rstCause = s.chip.rd R.rstCause ∧ t.rd R.rstCount = s.chip.rd R.rstCount))
    ∧ Does (.testmodeHigh false) s (fun t => t.boot = { s.chip.boot with testHi := false } ∧ s.chip.Keeps t [])

/-- The state changes of R48 that leave a lane's coefficients alone: the lane enters the state the table of R48 gives,
and no register but LN_STATE changes. IDLE_FAST to ACTIVE sends the burst and the alignment pattern of R49 and may end
an injection of R65. The state changes of R48 that load coefficients: power-up from OFF, training of an uplink lane
from OFF, and power removal from IDLE_DEEP, ACTIVE or TRAIN. The receiver takes the reset values; that LN_TXEQ, the
host's setting, stays is the model's choice (log entry 53). -/
def Obligations.LaneChanges : Prop :=
  (∀ (s : State) (n m : Nat), n < 9 → m < laneCount n → s.chip.domainRuns 4 = true →
    (s.chip.laneState n m = lsDeep →
      Does (.laneWakeForTraining n m) s (fun t => t.laneState n m = lsTrain ∧ s.chip.Keeps t [R.lnState n m])
      ∧ Does (.laneWakeForData n m) s fun t => t.laneState n m = lsActive ∧ s.chip.Keeps t [R.lnState n m])
    ∧ (s.chip.laneState n m = lsFast ∨ s.chip.laneState n m = lsActive →
      Does (.laneIdleDeepRequest n m) s fun t => t.laneState n m = lsDeep ∧ s.chip.Keeps t [R.lnState n m])
    ∧ (s.chip.laneState n m = lsActive →
      Does (.laneIdleFastRequest n m) s (fun t => t.laneState n m = lsFast ∧ s.chip.Keeps t [R.lnState n m])
      ∧ Does (.laneRetrainRequest n m) s fun t => t.laneState n m = lsTrain ∧ s.chip.Keeps t [R.lnState n m])
    ∧ (s.chip.laneState n m = lsFast →
      Does (.laneIdleFastExit n m) s fun t => t.laneState n m = lsActive
        ∧ (∃ l, .levels n m l ∈ t.out ∧ l.length = 320 ∧ ∀ g ∈ l, g < 4)
        ∧ s.chip.Keeps t [R.lnState n m, R.lnInj n m]))
  ∧ ∀ (s : State) (n m : Nat), m < laneCount n →
    (n < 9 → s.chip.domainRuns 4 = true → s.chip.laneState n m = lsOff →
      Does (.lanePowerUp n m) s fun t => t.laneState n m = lsDeep ∧ t.rd (R.lnRxeq n m) = resetVal (R.lnRxeq n m)
        ∧ s.chip.Keeps t (laneRegs n m))
    ∧ (n = 9 → s.chip.domainRuns 5 = true → s.chip.laneState 9 m = lsOff →
      Does (.laneTrainRequestUl m) s fun t => t.laneState 9 m = lsTrain ∧ s.chip.Keeps t (laneRegs 9 m))
    ∧ (n < 10 → s.chip.domainRuns (laneDomain n) = true →
        s.chip.laneState n m = lsDeep ∨ s.chip.laneState n m = lsActive ∨ s.chip.laneState n m = lsTrain →
      Does (.lanePowerDown n m) s fun t => t.laneState n m = lsOff ∧ t.f (F.lnStateSigDet n m) = 0
        ∧ t.f (F.lnStateCdrLock n m) = 0 ∧ t.rd (R.lnRxeq n m) = resetVal (R.lnRxeq n m)
        ∧ s.chip.Keeps t (laneRegs n m))

/-- Training ends: the lane is ACTIVE with EYE_SAVED 0 (R48, R59), or training is given up, IDLE_DEEP on DrauxLink and
OFF on the uplink (R48). Signal detection with its hysteresis (R50), and loss of signal and loss of CDR lock in ACTIVE
(R51), on the uplink while it is not UP: each changes the registers named. A PRBS checker takes the symbols that reach
its lane in TEST: its lock and loss of lock show, and both counts grow by what it compared (R62, R64). -/
def Obligations.LaneEvents : Prop :=
  (∀ (s : State) (n m : Nat) (x : LaneSet), m < laneCount n → n < 10 → s.chip.domainRuns (laneDomain n) = true →
    s.chip.laneState n m = lsTrain →
      Does (.laneTrainingComplete n m x) s (fun t => t.laneState n m = lsActive ∧ t.f (F.lnEyeEyeSaved n m) = 0
        ∧ t.f (F.lnStateCdrLock n m) = 1 ∧ t.f (F.lnStateFrozen n m) = 0 ∧ s.chip.Keeps t (laneRegs n m))
      ∧ Does (.laneTrainingAbandoned n m x) s fun t => t.laneState n m = (if n = 9 then lsOff else lsDeep)
        ∧ s.chip.Keeps t (laneRegs n m))
  ∧ ∀ (s : State) (n m : Nat), m < laneCount n → n < 10 → s.chip.domainRuns (laneDomain n) = true →
    (∀ mv, s.chip.laneState n m ≠ lsOff → s.chip.laneState n m ≠ lsCond →
      Does (.laneSignalDetectChange n m mv) s fun t =>
        t.f (F.lnStateSigDet n m) = (if 80 < mv then 1 else if mv < 40 then 0 else s.chip.f (F.lnStateSigDet n m))
        ∧ s.chip.Keeps t [R.lnState n m])
    ∧ (s.chip.laneState n m = lsActive → (n = 9 → s.chip.ulSt ≠ ulUp) →
      Does (.laneLos n m) s (fun t => t.f (F.lnEvtLos n m) = 1 ∧ s.chip.Keeps t [R.lnEvt n m])
      ∧ Does (.laneCdrLol n m) s fun t => t.f (F.lnEvtCdrLol n m) = 1 ∧ t.f (F.lnStateCdrLock n m) = 0
        ∧ s.chip.Keeps t [R.lnEvt n m, R.lnState n m])
    ∧ (∀ l : List Nat, l.all (· < 4) = true → s.chip.laneState n m = lsTest → s.chip.fb (F.lnPrbsCtrlChkEn n m) = true →
        s.chip.f (F.lnCtrlLoopback n m) = 0 → n * 9 + m < s.chip.lanes.length →
      let code := s.chip.f (F.lnPrbsCtrlChkPat n m)
      let k := (s.chip.lane n m).chk.take code (patUnmap code (s.chip.rxSyms n m (!patBinary code) l).2)
      let P : Chip → Prop := fun t => t.fb (F.lnPrbsStatLock n m) = k.locked
        ∧ t.f (F.lnEvtPrbsLol n m) = (if k.lost then 1 else s.chip.f (F.lnEvtPrbsLol n m))
        ∧ (t.lane n m).bitCnt = satAdd 48 (s.chip.lane n m).bitCnt k.bits
        ∧ (t.lane n m).errCnt = satAdd 48 (s.chip.lane n m).errCnt k.errs
        ∧ s.chip.Keeps t [R.lnPrbsStat n m, R.lnEvt n m, R.lnState n m]
      Does (.prbsCheckerLock n ⟨m, l⟩) s P ∧ ∀ before after, l = before ++ after → Does (.prbsCheckerLoss n m before after) s P)

/-- A window without enough transitions freezes adaptation once FREEZE_WIN of them have passed, and RESUME_WIN busy ones
end the freeze (R56, R57). That the gate does so with ADAPT_EN = 0 too is the model's choice (log entry 53). -/
def Obligations.LaneWindows : Prop :=
  ∀ (s : State) (n m edges : Nat) (x : LaneSet), m < laneCount n → n < 10 → s.chip.domainRuns (laneDomain n) = true →
    s.chip.laneState n m = lsTrain ∨ s.chip.laneState n m = lsActive →
    (edges < s.chip.f (F.lnAdaptTdMin n m) → s.chip.fb (F.lnStateFrozen n m) = false →
        s.chip.f (F.lnAdaptFreezeWin n m) ≤ (s.chip.lane n m).idleRun + 1 →
      Does (.adaptWindowEnd n m edges x) s fun t => t.f (F.lnStateFrozen n m) = 1 ∧ t.f (F.lnEvtFreeze n m) = 1
        ∧ s.chip.Keeps t [R.lnState n m, R.lnEvt n m])
    ∧ (s.chip.f (F.lnAdaptTdMin n m) ≤ edges → s.chip.fb (F.lnStateFrozen n m) = true →
        s.chip.f (F.lnAdaptResumeWin n m) ≤ (s.chip.lane n m).busyRun + 1 →
      Does (.adaptWindowEnd n m edges x) s fun t => t.f (F.lnStateFrozen n m) = 0 ∧ s.chip.Keeps t [R.lnState n m])

/-- A guard interval of 1,024 windows with enough busy ones writes EYE_LAST (R58). In ACTIVE with adaptation on, a good eye stores the
set that the lane holds, CTLE, VGA, FFE and DFE, as the last good set; a bad one loads the last good set, clears the freeze counters
and is reported; one between does neither (R58, R60). An interval with fewer busy windows is skipped. That TRAIN neither saves nor
snaps is the model's choice (log entry 53); there the interval counts towards READY (R100). -/
def Obligations.LaneGuard : Prop :=
  ∀ (s : State) (n m eye : Nat), m < laneCount n → n < 10 → s.chip.domainRuns (laneDomain n) = true →
    n * 9 + m < s.chip.lanes.length → eye < 256 → (s.chip.lane n m).gWin = 1024 →
    let l := s.chip.lane n m
    let after := { l with gWin := 0, gBusy := 0 }
    (s.chip.laneState n m = lsTrain ∨ s.chip.laneState n m = lsActive → l.gBusy < 512 →
      Does (.guardIntervalEnd n m eye) s fun t => t.lane n m = after ∧ s.chip.Keeps t [])
    ∧ (s.chip.laneState n m = lsActive → 512 ≤ l.gBusy → (n < 9 → s.chip.linkSt n ≠ lkEqualize ∧ (s.chip.link n).swap = none) →
      (s.chip.fb (F.lnAdaptAdaptEn n m) = true → s.chip.f (F.lnGuardEyeGood n m) ≤ eye →
        Does (.guardIntervalEnd n m eye) s fun t => t.f (F.lnEyeEyeLast n m) = eye ∧ t.f (F.lnEyeEyeSaved n m) = eye
          ∧ t.lane n m = { after with good := s.chip.laneSet n m } ∧ s.chip.Keeps t [R.lnEye n m])
      ∧ (s.chip.fb (F.lnAdaptAdaptEn n m) = true → eye < s.chip.f (F.lnGuardEyeGood n m) → eye < s.chip.f (F.lnGuardEyeSnap n m) →
        Does (.guardIntervalEnd n m eye) s fun t => t.f (F.lnEyeEyeLast n m) = eye ∧ t.rd (R.lnRxeq n m) = l.good.rxeq
          ∧ t.rd (R.lnFfe0 n m) = l.good.ffe0
          ∧ (n = 9 → t.rd (R.lnFfe1 m) = l.good.ffe1 ∧ t.rd (R.lnFfe2 m) = l.good.ffe2 ∧ t.rd (R.lnDfe m) = l.good.dfe)
          ∧ t.lane n m = { after with idleRun := 0, busyRun := 0 } ∧ t.f (F.lnStateFrozen n m) = 0
          ∧ t.f (F.lnEyeEyeSaved n m) = s.chip.f (F.lnEyeEyeSaved n m) ∧ t.f (F.lnEvtSnap n m) = 1
          ∧ t.f (F.lnSnapCntCount n m) = satAdd 16 (s.chip.f (F.lnSnapCntCount n m)) 1
          ∧ t.reports = s.chip.reports ++ [⟨0x02, laneInst n m, false⟩]
          ∧ s.chip.Keeps t (R.lnEvt n m :: R.lnSnapCnt n m :: laneRegs n m))
      ∧ (s.chip.fb (F.lnAdaptAdaptEn n m) = false
            ∨ s.chip.f (F.lnGuardEyeSnap n m) ≤ eye ∧ eye < s.chip.f (F.lnGuardEyeGood n m) →
        Does (.guardIntervalEnd n m eye) s fun t => t.f (F.lnEyeEyeLast n m) = eye ∧ t.lane n m = after
          ∧ t.f (F.lnEyeEyeSaved n m) = s.chip.f (F.lnEyeEyeSaved n m) ∧ s.chip.Keeps t [R.lnEye n m]))
    ∧ (s.chip.laneState n m = lsTrain → 512 ≤ l.gBusy →
      Does (.guardIntervalEnd n m eye) s fun t => t.f (F.lnEyeEyeLast n m) = eye
        ∧ t.f (F.lnEyeEyeSaved n m) = s.chip.f (F.lnEyeEyeSaved n m) ∧ t.laneSet n m = s.chip.laneSet n m)
    ∧ (s.chip.laneState n m = lsTrain → 512 ≤ l.gBusy → n < 9 → s.chip.linkSt n = lkEqualize → (s.chip.mapped n).contains m = true →
        (s.chip.link n).swap = none → n < s.chip.links.length → m < (s.chip.link n).train.length →
      Does (.guardIntervalEnd n m eye) s fun t => (t.laneTr n m).goodRun
        = if s.chip.f (F.lnGuardEyeGood n m) ≤ eye then (s.chip.laneTr n m).goodRun + 1 else 0)

/-- Writes of the lane registers: entering and leaving TEST (R48), adaptation (R60), clearing the PRBS counts (R64), the
lane map (R67) and the lane rate (R43). -/
def Obligations.LaneWrites : Prop :=
  ∀ (s : State) (src : Src) (n m : Nat) (v : Word), m < laneCount n → n < 10 →
    (s.chip.Allows src (R.lnCtrl n m) (force (F.lnCtrlTestEn n m) 1 v) → s.chip.laneState n m = lsOff →
      Does (.lnTestEnSet src n m v) s fun t => t.laneState n m = lsTest ∧ t.out = [.status 0])
    ∧ (s.chip.Allows src (R.lnCtrl n m) (force (F.lnCtrlTestEn n m) 0 v) → s.chip.laneState n m = lsTest →
      Does (.lnTestEnClear src n m v) s fun t => t.laneState n m = lsOff ∧ t.f (F.lnPrbsStatLock n m) = 0
        ∧ t.out = [.status 0])
    ∧ (s.chip.Allows src (R.lnAdapt n m) v →
      Does (.lnAdaptEnWrite src n m v) s fun t => t.fb (F.lnAdaptAdaptEn n m) = bitAt v 31 ∧ t.out = [.status 0]
        ∧ s.chip.Keeps t [R.lnAdapt n m, R.lnState n m, R.scpSession])
    ∧ (s.chip.Allows src (R.lnPrbsCtrl n m) (force (F.lnPrbsCtrlClr n m) 1 v) →
      Does (.prbsCountClear src n m v) s fun t => (t.lane n m).bitCnt = 0 ∧ (t.lane n m).errCnt = 0
        ∧ .status 0 ∈ t.out)
    ∧ (s.chip.Allows src (R.laneMap n) v →
      Does (.laneMapWrite src n v) s fun t => t.out = [.status 0] ∧ ∀ k < logicalCount n, t.mapOf n k = getBits v (4 * k) 4)
    ∧ (n < 8 → s.chip.Allows src (R.laneRate n) v →
      Does (.laneRateWrite src n v) s fun t => t.f (F.laneRateRate n) = getBits v 0 2 ∧ t.out = [.status 0]
        ∧ s.chip.Keeps t [R.laneRate n, R.scpSession])

/-- A read of PRBS_ERR_LO or PRBS_BITS_LO returns the low 32 bits of the count, in which the symbols that have reached
the lane so far are counted and those behind it are not, and latches the upper 16 (R64). Injection (R65) on a lane
that sends: a single error and a burst leave at once and MODE then reads 00; the periodic mode stays, and each of its
errors leaves as one. So many of the next bits that leave are inverted; on an uplink lane in ACTIVE, which sends
without a break, they have left with the command. -/
def Obligations.LaneTests : Prop :=
  (∀ (s : State) (src : Src) (n m : Nat) (b : Bool) (l k : List Nat), m < laneCount n → n < 10 → (l ++ k).all (· < 4) = true →
    s.chip.AllowsRead src (if b then R.lnPrbsBitsLo n m else R.lnPrbsErrLo n m) →
    let c := ({ s.chip with out := [] } : Chip).testRx n m l
    let v := if b then (c.lane n m).bitCnt else (c.lane n m).errCnt
    Does (.prbsCountLoRead src n m b l k) s fun t =>
      (∃ more, t.out = c.out ++ .status (v % 2 ^ 32) :: more ∧ (k = [] → more = []))
      ∧ t.f (if b then F.lnPrbsBitsHiCountHi n m else F.lnPrbsErrHiCountHi n m) = v / 2 ^ 32 % 2 ^ 16)
  ∧ ∀ (s : State) (src : Src) (n m : Nat) (v : Word), m < laneCount n → n < 10 → n * 9 + m < s.chip.lanes.length →
    s.chip.laneSends n m = true →
    let stays := fun (k : Nat) => if n = 9 ∧ s.chip.laneState n m = lsActive then 0 else k
    (s.chip.Allows src (R.lnInj n m) (force (F.lnInjMode n m) 1 v) →
      Does (.lnInjSingle src n m v) s fun t => t.out = [.bitErrors n m 1, .status 0] ∧ t.f (F.lnInjMode n m) = 0
        ∧ (t.lane n m).flip = (s.chip.lane n m).flip + stays 1)
    ∧ (s.chip.Allows src (R.lnInj n m) (force (F.lnInjMode n m) 3 v) →
      Does (.lnInjBurst src n m v) s fun t => t.out = [.bitErrors n m (getBits v 16 8 + 1), .status 0]
        ∧ t.f (F.lnInjMode n m) = 0 ∧ (t.lane n m).flip = (s.chip.lane n m).flip + stays (getBits v 16 8 + 1))
    ∧ (s.chip.Allows src (R.lnInj n m) (force (F.lnInjMode n m) 2 v) →
      Does (.lnInjPeriodic src n m v) s fun t => t.out = [.status 0] ∧ t.f (F.lnInjMode n m) = 2)
    ∧ (s.chip.Allows src (R.lnInj n m) (force (F.lnInjMode n m) 0 v) →
      Does (.lnInjOff src n m v) s fun t => t.out = [.status 0] ∧ t.f (F.lnInjMode n m) = 0)
    ∧ (s.chip.domainRuns (laneDomain n) = true → s.chip.f (F.lnInjMode n m) = 2 →
      Does (.lnInjPeriodicError n m) s fun t => t.out = [.bitErrors n m 1]
        ∧ (t.lane n m).flip = (s.chip.lane n m).flip + stays 1 ∧ s.chip.Keeps t [])

/-- Spare conditioning (R69): a run that falls due, the first or the one after a failure, waits in Fold 3 while that fold is off
(R246), and starts on an unused spare where a cluster below the ceiling has a free engine and the account covers the largest
estimate (R245, R250, R251); it ends with its result and the lane OFF. -/
def Obligations.SpareConditioning : Prop :=
  ∀ (s : State) (n : Nat), n < 10 → s.chip.domainRuns (laneDomain n) = true →
    let m := s.chip.spareLane n
    (s.chip.fb (F.spareCondEn n) = true → s.chip.fb (F.spareStatUnusable n) = false → s.chip.shp.queue = [] →
      (s.chip.fb F.shpCtrlF3En = false →
        Does (.spareCondDue n) s (fun t => t.condQueued n = true ∧ s.chip.Keeps t [])
        ∧ ((s.chip.port n).condRetry = true →
          Does (.spareCondRetry n) s fun t => t.condQueued n = true ∧ s.chip.Keeps t []))
      ∧ (s.chip.fb F.shpCtrlF3En = true → s.chip.laneState n m = lsOff →
          (∃ k < 4, (s.chip.freeEngine k).isSome = true ∧ s.chip.tempOf k < s.chip.ceil16) →
          (∀ k < 4, (ceilDiv (20480 * s.chip.ecyc (s.chip.stepOf k)) 1000 : Int) ≤ s.chip.shp.rem) →
        let P : Chip → Prop := fun t => t.laneState n m = lsCond ∧ t.f (F.lnCtrlLoopback n m) = 1
          ∧ t.rd (R.lnRxeq n m) = resetVal (R.lnRxeq n m)
          ∧ s.chip.Keeps t (R.lnCtrl n m :: R.shpRem :: (F.shpStartCount 3).addr :: laneRegs n m)
        Does (.spareCondDue n) s P ∧ ((s.chip.port n).condRetry = true → Does (.spareCondRetry n) s P)))
    ∧ (s.chip.laneState n m = lsCond →
      (∀ errs, Does (.spareCondRunComplete n errs) s fun t => t.laneState n m = lsOff
        ∧ t.f (F.spareStatLastPass n) = (if errs = 0 then 1 else 0)
        ∧ t.f (F.spareStatLastFail n) = (if errs = 0 then 0 else 1)
        ∧ t.f (F.spareStatRuns n) = satAdd 16 (s.chip.f (F.spareStatRuns n)) 1)
      ∧ Does (.spareCondLockTimeout n) s fun t => t.laneState n m = lsOff ∧ t.f (F.spareStatLastPass n) = 0
        ∧ t.f (F.spareStatLastFail n) = 1 ∧ t.f (F.spareStatRuns n) = satAdd 16 (s.chip.f (F.spareStatRuns n)) 1
        ∧ ((s.chip.port n).condFails ≠ 0 → t.f (F.spareStatUnusable n) = 1
          ∧ t.reports = s.chip.reports ++ [⟨0x06, laneInst n m, false⟩]))

/-- Writes of HPn_LINK_CTRL and PL_LINK_CTRL: EN starts and ends a link, RETRY_NOW ends the wait in SEEKING, IDLE_REQ enters
and leaves the idle states (R102, R103, R105 to R107). That the link is ACTIVE from the request to leave idle on is the model's choice
(log entry 43). -/
def Obligations.LinkControl : Prop :=
  ∀ (s : State) (src : Src) (n : Nat) (v : Word), n < 9 → s.chip.domainRuns 4 = true →
    (s.chip.Allows src (R.linkCtrl n) (force (F.linkCtrlEn n) 1 v) →
        s.chip.linkSt n = lkDisabled → n < 8 ∨ s.chip.pairMode = true →
      Does (.linkEnSet src n v) s fun t => t.linkSt n = lkDetect ∧ .status 0 ∈ t.out)
    ∧ (s.chip.Allows src (R.linkCtrl n) (force (F.linkCtrlEn n) 0 v) → s.chip.linkSt n ≠ lkDisabled →
        ¬(s.chip.linkSt n = lkActive ∧ (s.chip.link n).lineOpen = true) →
      Does (.linkEnClear src n v) s fun t => t.linkSt n = lkDisabled ∧ .block n (mkBlock 0x6A false []) ∈ t.out
        ∧ .status 0 ∈ t.out)
    ∧ ((s.chip.link n).draining = true →
      Does (.linkDrainEnd n) s fun t => t.linkSt n = lkDisabled ∧ .block n (mkBlock 0x6A false []) ∈ t.out)
    ∧ (s.chip.Allows src (R.linkCtrl n) (force (F.linkCtrlRetryNow n) 1 v) → bitAt v 31 = true →
        s.chip.linkSt n = lkSeeking →
      Does (.linkRetryNow src n v) s fun t => t.linkSt n = lkDetect
        ∧ t.f (F.linkStateAttempts n) = satAdd (F.linkStateAttempts n).width (s.chip.f (F.linkStateAttempts n)) 1
        ∧ .status 0 ∈ t.out)
    ∧ (s.chip.Allows src (R.linkCtrl n) (force (F.linkCtrlIdleReq n) 1 v) → bitAt v 31 = true →
        s.chip.linkSt n = lkActive → (s.chip.link n).draining = false →
      Does (.linkIdleReqFast src n v) s fun t => t.linkSt n = lkIdleF ∧ .block n (mkBlock 0x66 false []) ∈ t.out)
    ∧ (s.chip.Allows src (R.linkCtrl n) (force (F.linkCtrlIdleReq n) 2 v) → bitAt v 31 = true →
        s.chip.linkSt n = lkActive → (s.chip.link n).draining = false →
      Does (.linkIdleReqDeep src n v) s fun t => t.linkSt n = lkIdleD ∧ .block n (mkBlock 0x6A false []) ∈ t.out)
    ∧ (s.chip.Allows src (R.linkCtrl n) (force (F.linkCtrlIdleReq n) 0 v) → bitAt v 31 = true →
        s.chip.linkSt n = lkIdleF ∨ s.chip.linkSt n = lkIdleD → (s.chip.link n).draining = false →
      Does (.linkIdleReqActive src n v) s fun t => t.linkSt n = lkActive ∧ ∃ b, .packet n (mkPacket 4 b) ∈ t.out)

/-- Training phases and their time-outs, the loss of the partner, and the retry (R102, R103, R107). A link that drains for EN = 0 goes to
DISABLED where it would go to SEEKING (R102). -/
def Obligations.LinkTraining : Prop :=
  ∀ (s : State) (n : Nat), n < 9 → s.chip.domainRuns 4 = true →
    let stays := (s.chip.link n).draining = false
    (s.chip.linkSt n = lkDetect → (s.chip.allMapped n fun m => s.chip.fb (F.lnStateSigDet n m)) = true →
      Does (.linkDetectSignal n) s fun t => t.linkSt n = lkWake
        ∧ (∀ m ∈ s.chip.mapped n, ∃ x, .trainFrame n m x ∈ t.out) ∧ s.chip.Keeps t [R.linkState n])
    ∧ (s.chip.linkSt n = lkDetect → stays → Does (.linkDetectTimeout n) s fun t => t.linkSt n = lkSeeking
        ∧ t.f (F.linkStateLastFailPhase n) = 1 ∧ t.f (F.linkEvtTrainTo n) = 1)
    ∧ (s.chip.linkSt n = lkWake → stays → Does (.linkWakeTimeout n) s fun t => t.linkSt n = lkSeeking
        ∧ t.f (F.linkStateLastFailPhase n) = 2 ∧ t.f (F.linkEvtTrainTo n) = 1)
    ∧ (s.chip.linkSt n = lkEqualize → stays → Does (.linkEqualizeTimeout n) s fun t => t.linkSt n = lkSeeking
        ∧ t.f (F.linkStateLastFailPhase n) = 3 ∧ t.f (F.linkEvtTrainTo n) = 1)
    ∧ (s.chip.linkSt n = lkAlign → stays → Does (.linkAlignTimeout n) s fun t => t.linkSt n = lkSeeking
        ∧ t.f (F.linkStateLastFailPhase n) = 4 ∧ t.f (F.linkEvtTrainTo n) = 1)
    ∧ (s.chip.linkSt n = lkConfigure → stays → Does (.linkConfigureTimeout n) s fun t => t.linkSt n = lkSeeking
        ∧ t.f (F.linkStateLastFailPhase n) = 5 ∧ t.f (F.linkEvtTrainTo n) = 1)
    ∧ (s.chip.linkSt n = lkActive → stays → Does (.linkHbTimeout n) s fun t => t.linkSt n = lkSeeking
        ∧ t.f (F.linkEvtHbLost n) = 1)
    ∧ (lkDetect ≤ s.chip.linkSt n → s.chip.linkSt n ≤ lkActive →
        (s.chip.allMapped n fun m => !s.chip.fb (F.lnStateSigDet n m)) = true → stays →
      Does (.linkUnplug n) s fun t => t.linkSt n = lkSeeking ∧ t.f (F.linkEvtUnplug n) = 1)
    ∧ ((s.chip.link n).exiting = true → stays → Does (.linkIdleExitTimeout n) s fun t => t.linkSt n = lkSeeking
        ∧ t.f (F.linkEvtUnplug n) = 1)
    ∧ (s.chip.linkSt n = lkSeeking → Does (.linkBackoffExpiry n) s fun t => t.linkSt n = lkDetect
        ∧ t.f (F.linkStateAttempts n) = satAdd (F.linkStateAttempts n).width (s.chip.f (F.linkStateAttempts n)) 1)
    ∧ ((s.chip.link n).draining = true → s.chip.linkSt n = lkActive →
      Does (.linkHbTimeout n) s fun t => t.linkSt n = lkDisabled ∧ t.f (F.linkEvtHbLost n) = 1
        ∧ .block n (mkBlock 0x6A false []) ∈ t.out)

/-- The 2,720 symbols of a codeword, read with the polarity and the precoding of their lane (R45, R46, R54), are 544
ten-bit symbols (R77): one that decodes adds its corrected symbols to both counts, one that does not counts as
uncorrectable (R79), and a third AM position in a row without a valid AM block ends the lock and is reported (R79,
R432); no SWAP runs. A training frame with a known phase, on a lane in training, is answered by one of the device's
own (R98). -/
def Obligations.PcsAndFrames : Prop :=
  (∀ (s : State) (n k : Nat), n < 9 → s.chip.domainRuns 4 = true → s.chip.pcsRuns n = true → k < logicalCount n →
    (s.chip.link n).swap = none →
    (∀ sym : List Nat, sym.length = 2720 → sym.all (· < 4) = true →
      let word := symbolsOfBits 544 (s.chip.laneRxBits n (s.chip.mapOf n k) sym).2
      (∀ w e, rsDecode word = some (w, e) →
        Does (.codewordRx n k false sym) s fun t =>
          t.f (F.fecCorrCount n) = satAdd (F.fecCorrCount n).width (s.chip.f (F.fecCorrCount n)) e
          ∧ t.f (F.lsymCount n k) = satAdd (F.lsymCount n k).width (s.chip.f (F.lsymCount n k)) e)
      ∧ (rsDecode word = none →
        Does (.codewordRx n k false sym) s fun t =>
          t.f (F.fecUncorrCount n) = satAdd (F.fecUncorrCount n).width (s.chip.f (F.fecUncorrCount n)) 1))
    ∧ (∀ block late, block.length = 32 → amValid k block = false → (s.chip.laneRx n k).locked = true →
        (s.chip.laneRx n k).fRun = 2 →
      Does (.amPosition n k false block late) s fun t => t.f (F.linkEvtAmLoss n) = 1
        ∧ ⟨0x03, laneInst n (s.chip.mapOf n k), false⟩ ∈ t.reports))
  ∧ ∀ (s : State) (n m : Nat) (w crc : Word), m < laneCount n → n < 9 → s.chip.domainRuns 4 = true →
    s.chip.inTraining n m = true → getBits w 28 4 < 4 →
    Does (.trainingFrameRx n m w crc) s fun t => ∃ x, .trainFrame n m x ∈ t.out

/-- The checks of R87 on a LINE packet, in order: a frame that is not whole, an uncorrectable block, the CRC, the type and
length, each with its own count, and nothing else of the packet is used. -/
def Obligations.PacketChecks : Prop :=
  ∀ (s : State) (n : Nat) (pk : RxPkt), n < 8 → s.chip.domainRuns 4 = true → s.chip.pcsRuns n = true →
    let len := fieldBE pk.bytes 2 2
    let whole := pk.framed = true ∧ 16 ≤ len ∧ len ≤ 8226 ∧ pk.bytes.length = len
    let sound := (crc32c (pk.bytes.take (len - 4))).toNat = fieldBE pk.bytes (len - 4) 4
    (¬whole → Does (.linePacketRx n pk) s fun t =>
      t.f (F.frameErrCount n) = satAdd (F.frameErrCount n).width (s.chip.f (F.frameErrCount n)) 1
        ∧ s.chip.Keeps t [R.frameErr n])
    ∧ (whole → pk.errored = true → Does (.linePacketRx n pk) s fun t =>
      t.f (F.fecDropCount n) = satAdd (F.fecDropCount n).width (s.chip.f (F.fecDropCount n)) 1
        ∧ s.chip.Keeps t [R.fecDrop n])
    ∧ (whole → pk.errored = false → ¬sound → Does (.linePacketRx n pk) s fun t =>
      t.f (F.crcErrCount n) = satAdd (F.crcErrCount n).width (s.chip.f (F.crcErrCount n)) 1
        ∧ s.chip.Keeps t [R.crcErr n])
    ∧ (whole → pk.errored = false → sound → fieldBE pk.bytes 0 1 % 16 ≠ 1 ∨ lenOk n pk.bytes = false →
      Does (.linePacketRx n pk) s fun t =>
        t.f (F.typeErrCount n) = satAdd (F.typeErrCount n).width (s.chip.f (F.typeErrCount n)) 1
          ∧ s.chip.Keeps t [R.typeErr n])

/-- A LINE packet that passes them is discarded outside ACTIVE, for a foreign HEAD_ID, for a format other than the job's and
for a repeated ALIVE, each counted, and is otherwise counted as a line (R87, R91 to R93); reading the trigger log for it may set
CMT_EVT.LOG_STALE (R326). -/
def Obligations.LinePackets : Prop :=
  ∀ (s : State) (n : Nat) (pk : RxPkt), n < 8 → s.chip.domainRuns 4 = true → s.chip.Takes n 1 pk →
    let id := fieldBE pk.bytes 4 1 = s.chip.f (F.linkCfgHeadId n)
    let rep := (s.chip.link n).alive = some (fieldBE pk.bytes 5 1)
    (s.chip.linkSt n ≠ lkActive → Does (.linePacketRx n pk) s fun t =>
      t.f (F.frameErrCount n) = satAdd (F.frameErrCount n).width (s.chip.f (F.frameErrCount n)) 1
        ∧ s.chip.Keeps t [R.frameErr n])
    ∧ (s.chip.linkSt n = lkActive → ¬id → Does (.linePacketRx n pk) s fun t =>
      t.f (F.idErrCount n) = satAdd (F.idErrCount n).width (s.chip.f (F.idErrCount n)) 1 ∧ s.chip.Keeps t [R.idErr n])
    ∧ (s.chip.linkSt n = lkActive → id → s.chip.lineFormatOk n pk.bytes = false → Does (.linePacketRx n pk) s fun t =>
      t.f (F.fmtErrCount n) = satAdd (F.fmtErrCount n).width (s.chip.f (F.fmtErrCount n)) 1
        ∧ s.chip.Keeps t [R.fmtErr n, R.cmtEvt])
    ∧ (s.chip.linkSt n = lkActive → id → s.chip.lineFormatOk n pk.bytes = true → rep → Does (.linePacketRx n pk) s fun t =>
      t.f (F.aliveRepCount n) = satAdd (F.aliveRepCount n).width (s.chip.f (F.aliveRepCount n)) 1
        ∧ s.chip.Keeps t [R.aliveRep n, R.cmtEvt])
    ∧ (s.chip.linkSt n = lkActive → id → s.chip.lineFormatOk n pk.bytes = true → ¬rep → Does (.linePacketRx n pk) s fun t =>
      t.f (F.lineCntCount n) = satAdd (F.lineCntCount n).width (s.chip.f (F.lineCntCount n)) 1)

/-- What a link sends on its timers: HB in CONFIGURE and ACTIVE, TIME in ACTIVE, CAP while it configures, the next probe, the
TRIG whose round departs, and a CTRL request again (R95 to R97, R101, R109, R110). -/
def Obligations.LinkTimers : Prop :=
  ∀ (s : State) (n : Nat), n < 9 → s.chip.domainRuns 4 = true →
    (s.chip.linkSt n = lkConfigure ∨ s.chip.linkSt n = lkActive →
      Does (.hbSendTimer n) s fun t => (∃ b, t.out = [.packet n (mkPacket 4 b)]) ∧ s.chip.Keeps t [])
    ∧ (n < 8 → s.chip.linkSt n = lkActive →
      Does (.timeSendTimer n) s fun t => (∃ b, t.out = [.packet n (mkPacket 3 b)]) ∧ s.chip.Keeps t [])
    ∧ (s.chip.linkSt n = lkConfigure → (s.chip.link n).cfgStep = 1 → s.chip.headRole n = false →
      Does (.capResendTimer n) s fun t => (∃ b, t.out = [.packet n (mkPacket 6 b)]) ∧ s.chip.Keeps t [])
    ∧ (n < 8 → s.chip.latMeasuring n = true → (s.chip.link n).sent < 16 →
      Does (.probeSend n) s fun t => t.out = [.block n (mkBlock 0x33 true (natBytesBE 1 (s.chip.link n).pid))]
        ∧ s.chip.Keeps t [])
    ∧ (n < 8 → ∀ g rest, (s.chip.link n).trigs = g :: rest → s.chip.linkSt n = lkActive →
      Does (.trigRoundDeparture n) s fun t => t.out = [.block n (mkBlock 0x2D true
          (natBytesBE 4 g.trig ++ natBytesBE 2 g.delay ++ natBytesBE 1 0 ++ timeBytes g.tx))] ∧ s.chip.Keeps t [])
    ∧ (n < 8 → ∀ g rest, (s.chip.link n).trigs = g :: rest → s.chip.linkSt n ≠ lkActive →
      Does (.trigRoundDeparture n) s fun t =>
        t.f (F.trigLateCount n) = satAdd (F.trigLateCount n).width (s.chip.f (F.trigLateCount n)) 1)
    ∧ (n < 8 → ∀ r, (s.chip.link n).ctrl = some r → r.resends < 3 →
      Does (.ctrlRequestTimeout n) s fun t => t.out = [.packet n (mkPacket 2 (ctrlBody r))] ∧ s.chip.Keeps t [])
    ∧ (n < 8 → ∀ r, (s.chip.link n).ctrl = some r → 3 ≤ r.resends → r.image = false →
      Does (.ctrlRequestTimeout n) s fun t => t.f (F.hregStatBusy n) = 0 ∧ t.f (F.hregStatDone n) = 1
        ∧ t.f (F.hregStatCode n) = 5)
    ∧ (n < 8 → s.chip.linkSt n = lkActive → (s.chip.link n).latRun = false → n < s.chip.links.length →
      Does (.latencyProbePeriod n) s fun t => (t.link n).latRun = true ∧ (t.link n).sent = 0 ∧ s.chip.Keeps t [])

/-- Packets and blocks that a link takes: the HB that completes the configuration, CAP with its copy, ECHO with its check,
and the CTRL response (R81, R95, R96, R101, R117, R118). That CONFIGURE on the pair link ends with the exchange of CAP is the model's
choice (log entry 43). -/
def Obligations.LinkReceives : Prop :=
  ∀ (s : State) (n : Nat) (pk : RxPkt), n < 9 → s.chip.domainRuns 4 = true →
    (s.chip.Takes n 4 pk → s.chip.linkSt n = lkConfigure → (s.chip.link n).cfgStep = 6 → fieldBE pk.bytes 5 1 % 2 = 1 →
      Does (.hbRx n pk) s fun t => t.linkSt n = lkActive ∧ t.f (F.linkEvtUp n) = 1)
    ∧ (s.chip.Takes n 6 pk → s.chip.headRole n = false →
      Does (.capRx n pk) s fun t => ∀ k < 10, t.f (F.capBytes n k) = fieldBE pk.bytes (4 * k) 4)
    ∧ (n = 8 → s.chip.headRole 8 = true → s.chip.Takes 8 6 pk →
      Does (.deviceCapRx pk) s fun t => (∀ k < 10, t.f (F.capBytes 8 k) = fieldBE pk.bytes (4 * k) 4)
        ∧ (∃ b, .packet 8 (mkPacket 6 b) ∈ t.out) ∧ (s.chip.linkSt 8 = lkConfigure → t.linkSt 8 = lkActive))
    ∧ (∀ block rtt, n < 8 → s.chip.pcsRuns n = true → fieldBE block 0 1 = 0x4B → blockOk block 6 = false →
      Does (.echoRx n block rtt) s fun t =>
        t.f (F.osErrCount n) = satAdd (F.osErrCount n).width (s.chip.f (F.osErrCount n)) 1 ∧ s.chip.Keeps t [R.osErr n])
    ∧ (∀ r, n < 8 → s.chip.Takes n 2 pk → (s.chip.link n).ctrl = some r → r.image = false →
        fieldBE pk.bytes 5 1 = r.tag → fieldBE pk.bytes 4 1 = (if r.write then 0x82 else 0x81) →
      Does (.ctrlResponseRx n pk) s fun t => t.f (F.hregStatBusy n) = 0 ∧ t.f (F.hregStatDone n) = 1
        ∧ t.f (F.hregStatCode n) = fieldBE pk.bytes 7 1)

/-- The mailbox of R117: a command sets BUSY, clears DONE and, where no access is outstanding, is sent. -/
def Obligations.HeadMailbox : Prop :=
  ∀ (s : State) (src : Src) (n : Nat) (v : Word), n < 8 → (s.chip.link n).ctrl = none →
    (s.chip.Allows src (R.hregCmd n) (force (F.hregCmdOp n) 1 v) →
      Does (.hregRead src n v) s fun t => t.f (F.hregStatBusy n) = 1 ∧ t.f (F.hregStatDone n) = 0
        ∧ t.out = [.packet n (mkPacket 2 (ctrlBody ⟨(s.chip.link n).tag, false, s.chip.f (F.hregAddrAddr n),
          s.chip.f (F.hregDataData n), 0, false⟩)), .status 0])
    ∧ (s.chip.Allows src (R.hregCmd n) (force (F.hregCmdOp n) 2 v) →
      Does (.hregWrite src n v) s fun t => t.f (F.hregStatBusy n) = 1 ∧ t.f (F.hregStatDone n) = 0
        ∧ t.out = [.packet n (mkPacket 2 (ctrlBody ⟨(s.chip.link n).tag, true, s.chip.f (F.hregAddrAddr n),
          s.chip.f (F.hregDataData n), 0, false⟩)), .status 0])

/-- A SWAP from its start to its end in the device role, and what it sends again (R97, R114 to R116). A REQUEST of the
partner is an event and a report (R114), and mate 1 answers PREPARE and COMMIT in the head role (R72, R115), and a
PREPARE of the SWAP that ended last again (R97). -/
def Obligations.SwapExchange : Prop :=
  (∀ (s : State) (n : Nat) (pk : RxPkt), n < 9 → s.chip.domainRuns 4 = true →
    (∀ src v, s.chip.Allows src (R.swapCmd n) (force (F.swapCmdGo n) 1 v) →
      Does (.swapGo src n v) s fun t => t.f (F.swapStatBusy n) = 1 ∧ t.f (F.swapStatStep n) = 1
        ∧ ∃ b, .packet n (mkPacket 5 b) ∈ t.out)
    ∧ ∀ w, (s.chip.link n).swap = some w → fieldBE pk.bytes 5 1 = w.xid →
      (s.chip.Takes n 5 pk → fieldBE pk.bytes 4 1 = 2 → w.step = 1 ∨ w.step = 2 →
        Does (.swapPrepareAckRx n pk) s fun t => t.f (F.swapStatStep n) = 3)
      ∧ (s.chip.Takes n 5 pk → fieldBE pk.bytes 4 1 = 3 → w.step = 5 → w.ownReady = true → s.chip.headRole n = false →
          n < s.chip.links.length →
        Does (.swapReadyRx n pk) s fun t => t.f (F.swapStatStep n) = 6 ∧ ∃ b, t.out = [.packet n (mkPacket 5 b)])
      ∧ (s.chip.Takes n 5 pk → fieldBE pk.bytes 4 1 = 3 → 6 ≤ w.step → s.chip.headRole n = false →
        Does (.swapReadyRx n pk) s fun t => (∃ b, t.out = [.packet n (mkPacket 5 b)]) ∧ s.chip.Keeps t [])
      ∧ (s.chip.Takes n 5 pk → fieldBE pk.bytes 4 1 = 5 → w.step = 6 →
        Does (.swapCommitAckRx n pk) s fun t => t.f (F.swapStatStep n) = 7 ∧ s.chip.Keeps t [R.swapStat n])
      ∧ (s.chip.Takes n 5 pk → fieldBE pk.bytes 4 1 = 6 → 7 ≤ w.step → w.ownDone = true → n < s.chip.links.length →
          w.log < logicalCount n →
        Does (.swapDoneRx n pk) s fun t => t.f (F.swapStatBusy n) = 0 ∧ t.f (F.swapStatResult n) = 1
          ∧ t.mapOf n w.log = w.new % 16 ∧ t.f (F.linkEvtSwapDone n) = 1)
      ∧ (s.chip.Takes n 5 pk → fieldBE pk.bytes 4 1 = 7 →
        Does (.swapAbortRx n pk) s fun t => t.f (F.swapStatBusy n) = 0 ∧ t.f (F.swapStatResult n) = 4
          ∧ t.f (F.linkEvtSwapFail n) = 1 ∧ ⟨0x06, laneInst n w.new, false⟩ ∈ t.reports)
      ∧ (Does (.swapStepTimeout n) s fun t => t.f (F.swapStatBusy n) = 0 ∧ t.f (F.swapStatResult n) = 2
          ∧ t.f (F.linkEvtSwapFail n) = 1 ∧ (∃ b, t.out = [.packet n (mkPacket 5 b)])
          ∧ ⟨0x06, laneInst n w.new, false⟩ ∈ t.reports)
      ∧ (w.step = 1 ∨ w.step = 2 ∨ w.step = 6 →
        Does (.swapResendTimer n) s fun t => (∃ b, t.out = [.packet n (mkPacket 5 b)]) ∧ s.chip.Keeps t []))
  ∧ ∀ (s : State) (n : Nat) (pk : RxPkt), n < 9 → s.chip.domainRuns 4 = true →
    (s.chip.Takes n 5 pk → fieldBE pk.bytes 4 1 = 8 →
      Does (.swapRequestRx n pk) s fun t => t.f (F.linkEvtSwapReq n) = 1
        ∧ ⟨if fieldBE pk.bytes 9 1 = 4 then 0x02 else if fieldBE pk.bytes 9 1 = 5 then 0x03 else 0x01,
            laneInst n (fieldBE pk.bytes 7 1), false⟩ ∈ t.reports)
    ∧ (s.chip.headRole 8 = true → s.chip.Takes 8 5 pk → s.chip.linkSt 8 = lkActive →
      (fieldBE pk.bytes 4 1 = 1 → (s.chip.link 8).swap = none →
        ((∀ w, (s.chip.link 8).lastSwap = some w → w.xid ≠ fieldBE pk.bytes 5 1) →
          Does (.swapPrepareRx pk) s fun t => t.f (F.swapStatBusy 8) = 1 ∧ t.f (F.swapStatStep 8) = 3
            ∧ ∃ b, .packet 8 (mkPacket 5 b) ∈ t.out)
        ∧ ∀ w, (s.chip.link 8).lastSwap = some w → w.xid = fieldBE pk.bytes 5 1 →
          Does (.swapPrepareRx pk) s fun t => (∃ b, t.out = [.packet 8 (mkPacket 5 b)]) ∧ s.chip.Keeps t [])
      ∧ ∀ w, (s.chip.link 8).swap = some w → fieldBE pk.bytes 4 1 = 4 → fieldBE pk.bytes 5 1 = w.xid → w.step = 5 →
        Does (.swapCommitRx pk) s fun t => t.f (F.swapStatStep 8) = 7 ∧ ∃ b, t.out = [.packet 8 (mkPacket 5 b)])

/-- Boot from the end of the reset hold to the start of MGMT: steps 1 to 4, each with its failure (R413, R416 to R419,
R355); a boot over the uplink has UL_BOOT's settings first and is not stated here. Boot steps 5 to 8: an image that
passes becomes the one in force, of two the better, the boot parts of the slots standing in SRAM; a flash boot without
one and a push that fails hold step 5 with their code. In step 6 the entries of its REG sections are written in order
(R422): where all are accepted the device starts with SRAM zero, and the first that is not holds the step with CONFIG
and a report (R417, R418, R420 to R424). The model's choices: that an entry may also write a word of memory (log entry
11), where in SRAM a boot part stands, the split of GO and BOOT_PART_VERIFIED, and steps 6 to 8 in one command (log
entry 23). -/
def Obligations.BootRun : Prop :=
  (∀ s : State,
    let b := s.chip.boot
    let ready := fun step => s.chip.phase = step ∧ b.hold = false ∧ s.chip.f F.glbBootStatErr = 0
    let next := if b.straps then 4 else 3
    (b.hold = true → b.trip = false → b.testHi = false → b.aonLow = false → b.pwrLow = false → s.chip.clk.expired = false →
      Does .resetHoldEnd s fun t => t.boot.hold = false ∧ t.boot.pinLow = false
        ∧ t.phase = if b.restart && b.straps then 4 else 1)
    ∧ (ready 1 → Does .bootAonStart s fun t => t.phase = 2 ∧ s.chip.Keeps t [R.glbBootStat])
    ∧ (ready 2 → s.chip.trimOk 0 = true →
      Does .bootTrimLoadDone s fun t => t.phase = next ∧ s.chip.Keeps t [R.glbBootStat])
    ∧ (ready 2 → s.chip.trimOk 0 = false → s.chip.trimOk 0x400 = true →
      Does .bootTrimLoadDone s fun t => t.phase = next ∧ t.f F.optStatTrimB = 1 ∧ t.boot.repair = true
        ∧ s.chip.Keeps t [R.glbBootStat, R.optStat])
    ∧ (ready 2 → s.chip.trimOk 0 = false → s.chip.trimOk 0x400 = false →
      Does .bootTrimLoadDone s fun t => t.phase = 2 ∧ t.f F.glbBootStatErr = 1 ∧ s.chip.Keeps t [R.glbBootStat])
    ∧ (∀ up down, up < 1024 → down < 1024 → ready 3 →
      (strapsBad up down = true → Does (.bootStrapSample up down) s fun t =>
        t.phase = 3 ∧ t.f F.glbBootStatErr = 2 ∧ s.chip.Keeps t [R.glbBootStat])
      ∧ (strapsBad up down = false → Does (.bootStrapSample up down) s fun t => t.phase = 4 ∧ t.boot.straps = true
        ∧ t.f F.glbStrapStraps = down &&& 0x3FB ∧ t.f F.clkStrapClkmode = down / 8 % 4
        ∧ t.f F.clkStrapOscwait = down / 32 % 8))
    ∧ (ready 4 → s.chip.clk.refLost = false → s.chip.clkSt s.chip.clkInUse = csGood →
        getBits (s.chip.rd R.glbStrap) 0 2 ≠ 3 →
      Does .bootPllLock s fun t => t.phase = 5 ∧ t.f F.clkStatLock = 31 ∧ t.f F.clkStatHold = 0 ∧ t.f F.clkStatSafe = 0
        ∧ t.optWord optBootCnt = s.chip.optWord optBootCnt + 1#32
        ∧ t.rd R.scpEpoch = s.chip.optWord optBootCnt + 1#32)
    ∧ (ready 4 → Does .bootPllTimeout s fun t => t.phase = 4 ∧ t.f F.glbBootStatErr = 3
        ∧ s.chip.Keeps t [R.glbBootStat]))
  ∧ ∀ s : State, s.chip.boot.hold = false →
    let place := fun (k : Nat) (img : List Byte) (a : Nat) => (sramBase + 4194304 * k ≤ a
      ∧ a < sramBase + 4194304 * k + min img.length 4194304 : Prop)
    let read := fun (imgs : List (List Byte)) (t : Chip) => (
      (∀ k img a, imgs[k]? = some img → place k img a → t.byte a = img.getD (a - (sramBase + 4194304 * k)) 0#8)
      ∧ ∀ a, (∀ k img, imgs[k]? = some img → ¬place k img a) → t.byte a = s.chip.byte a : Prop)
    (s.chip.phase = 5 → s.chip.boot.verify = false → s.chip.pushMode = false → s.chip.f F.glbBootStatErr = 0 →
      (∀ imgs, imgs.length ≤ 2 → (∀ img ∈ imgs, s.chip.imgCheck img ≠ 0) →
        Does (.bootPartVerified imgs) s fun t => t.phase = 5
          ∧ t.f F.glbBootStatErr = bootError (imgs.map s.chip.imgCheck) ∧ read imgs t
          ∧ ∀ a, a ≠ R.glbBootStat → a ≠ R.scpSum → t.rd a = s.chip.rd a)
      ∧ (∀ img, s.chip.imgCheck img = 0 →
        Does (.bootPartVerified [img]) s fun t => t.phase = 6 ∧ t.boot.img = img ∧ t.f F.glbBootStatSlot = 0
          ∧ t.rd R.secSvnRun = BitVec.ofNat 32 (imgSvn img) ∧ read [img] t)
      ∧ ∀ x y, s.chip.imgCheck x = 0 → s.chip.imgCheck y = 0 →
        Does (.bootPartVerified [x, y]) s fun t => t.phase = 6 ∧ t.boot.img = (if imgBetter x y then x else y)
          ∧ t.f F.glbBootStatSlot = (if imgBetter x y then 0 else 1) ∧ read [x, y] t)
    ∧ (∀ src v, s.chip.Allows src R.glbBootCmd (force F.glbBootCmdGo 1 v) →
      Does (.bootPushGo src v) s fun t => t.boot.verify = true ∧ t.out = [.status 0])
    ∧ (∀ imgs, imgs.length ≤ 2 → s.chip.phase = 5 → s.chip.boot.verify = true →
      let img := s.chip.bytes sramBase 4194304
      (s.chip.imgCheck img = 0 → Does (.bootPartVerified imgs) s fun t => t.phase = 6 ∧ t.boot.img = img
        ∧ t.boot.verify = false ∧ t.f F.glbBootStatPush = 1)
      ∧ (s.chip.imgCheck img ≠ 0 → Does (.bootPartVerified imgs) s fun t => t.phase = 5 ∧ t.boot.verify = false
        ∧ t.f F.glbBootStatErr = bootError [s.chip.imgCheck img]))
    ∧ (∀ trained, (∀ n ∈ trained, n < 6) → s.chip.phase = 6 → s.chip.f F.glbBootStatErr = 0 →
      let regs := (imgSects s.chip.boot.img).filter fun x => x.type_ == 1
      let entries := regs.flatMap fun x => (regEntries (x.data s.chip.boot.img)).map fun e => (x.index, e)
      let after := fun (l : List (Nat × Nat × Word)) => l.foldl (fun c p => Chip.bootEntry trained p.1 c p.2)
        (({ s.chip with out := [] } : Chip).bootLanes.mapLoad).capShow
      ((after entries).f F.glbBootStatErr = 0 →
        Does (.bootRegApplied trained) s fun t => t.phase = 8 ∧ ∀ a, a < sramEnd → t.byte a = 0#8)
      ∧ ∀ before k e behind, entries = before ++ (k, e) :: behind → (after before).f F.glbBootStatErr = 0 →
        (if memAddr e.1 then ((after before).ctrlMemWrite .boot e.1 (wordBytesLE e.2)).2
          else ((after before).ctrlWrite .boot e.1 e.2).2) ≠ 0 →
        Does (.bootRegApplied trained) s fun t => t.phase = 6 ∧ t.f F.glbBootStatErr = 7 ∧ ⟨0x53, k, false⟩ ∈ t.reports
          ∧ ∀ a, a < sramEnd → t.byte a = 0#8)

/-- The option store (R425, R426): an access of OPT_DATA moves OPT_ADDR on; a write starts a pulse that programs the
word later, alone; a hidden word reads 0; a pulse that fails takes a spare sector, or is reported where none is left,
and the word then reads its old or its new value. That a write of the device's own shows its value from the start of
its pulse is the model's choice (log entry 11). The commands of SEC_CMD (R427 to R429): ATTEST counts its index, and
once the word is durable the report and its signature stand in SEC_BUF; SVN_COMMIT takes the running SVN; OWN installs
the key only under the current owner's signature. The mark of an owner key in word 0x0C12 is the model's choice (log
entry 22). -/
def Obligations.SecurityStore : Prop :=
  (∀ (s : State) (src : Src),
    let i := s.chip.f F.optAddrWord
    (∀ v, s.chip.Allows src R.optData v →
      Does (.optDataWrite src v) s fun t => t.boot.optw = s.chip.boot.optw ++ [⟨i, v, 0#32, false⟩] ∧ t.f F.optStatBusy = 1
        ∧ t.f F.optAddrWord = (i + 1) % 65536 ∧ (∀ k, t.optWord k = s.chip.optWord k) ∧ t.out = [.status 0])
    ∧ (s.chip.AllowsRead src R.optData → (s.chip.boot.optw.filter fun w => w.word == i) = [] →
      Does (.optDataRead src) s fun t => t.f F.optAddrWord = (i + 1) % 65536
        ∧ t.out = [.status (if optHidden i then 0 else (s.chip.optWord i).toNat)])
    ∧ ∀ w rest, s.chip.boot.optw = w :: rest →
      let new := if w.own then s.chip.optWord w.word else w.value
      let old := if w.own then w.old else s.chip.optWord w.word
      Does (.optWritePulseDone true) s (fun t => t.boot.optw = rest ∧ t.optWord w.word = new
        ∧ (∀ k, k ≠ w.word → t.optWord k = s.chip.optWord k) ∧ t.f F.optStatBusy = if rest = [] then 0 else 1)
      ∧ (s.chip.boot.spares < 16 → Does (.optWritePulseDone false) s fun t => t.boot.spares = s.chip.boot.spares + 1
        ∧ t.f F.optEvtSectorSwap = 1 ∧ t.optWord w.word = new ∧ ∀ k, k ≠ w.word → t.optWord k = s.chip.optWord k)
      ∧ (16 ≤ s.chip.boot.spares → Does (.optWritePulseDone false) s fun t => t.f F.optEvtWriteFail = 1
        ∧ ⟨0x14, 0, false⟩ ∈ t.reports ∧ (t.optWord w.word = old ∨ t.optWord w.word = new)
        ∧ ∀ k, k ≠ w.word → t.optWord k = s.chip.optWord k))
  ∧ ∀ (s : State) (src : Src) (v : Word),
    (s.chip.Allows src R.secCmd (force F.secCmdOp 1 v) →
      Does (.secAttest src v) s fun t => t.optWord optAttIdx = s.chip.optWord optAttIdx + 1#32
        ∧ t.boot.att = some (s.chip.optWord optAttIdx).toNat ∧ t.f F.secStatAttBusy = 1 ∧ t.out = [.status 0])
    ∧ (∀ q, s.chip.boot.att = some q → s.chip.domainRuns 1 = true →
      let report := s.chip.attReport q ++ fitBytes 5396 (hssSign q (s.chip.attReport q))
      (s.chip.attDurable q = true → Does .secAttestDone s fun t => t.f F.secStatAttBusy = 0 ∧ t.f F.secEvtAttDone = 1
        ∧ t.boot.att = none ∧ ∀ k < 1373, t.rd (R.secBuf k) = BitVec.ofNat 32 (natOfLE ((report.drop (4 * k)).take 4)))
      ∧ (s.chip.attDurable q = false → Does .secAttestDone s fun t => t.boot.att = some q ∧ s.chip.Keeps t []))
    ∧ (s.chip.Allows src R.secCmd (force F.secCmdOp 2 v) →
      Does (.secSvnCommit src v) s fun t => t.optWord optSvnMin = s.chip.rd R.secSvnRun
        ∧ t.rd R.secSvnMin = s.chip.rd R.secSvnRun ∧ t.out = [.status 0])
    ∧ (s.chip.Allows src R.secCmd (force F.secCmdOp 3 v) →
      let signed := hssHeld s.chip.ownerKey (s.chip.secBuf 0 60 ++ s.chip.serialBytes) (s.chip.secBuf 64 8128)
      (signed = true → Does (.secOwn src v) s fun t => t.optWord optKeySet = 1#32 ∧ t.f F.secEvtOwnDone = 1
        ∧ (∀ k < 15, t.optWord (optOwnerKey + k) = s.chip.rd (R.secBuf k)) ∧ t.out = [.status 0])
      ∧ (signed = false → Does (.secOwn src v) s fun t => (∀ k, t.optWord k = s.chip.optWord k)
        ∧ s.chip.Keeps t [R.secCmd, R.scpSession] ∧ t.out = [.status 7]))

/-- The watchdog's kick, the reset requests between the mates (R414) and the thermal trip (R448): a trip is reported where
MGMT runs, and else resets the device with FC_FIRST kept and cause 3, which is the model's choice (log entry 26), as are the zeros the
memories then read as (log entry 3). -/
def Obligations.Supervision : Prop :=
  ∀ (s : State) (src : Src),
    (s.chip.Allows src R.rstWdtKick 0xA5C3#32 →
      Does (.watchdogKick src) s fun t => t.out = [.status 0] ∧ s.chip.Keeps t [R.rstWdtKick, R.scpSession])
    ∧ (∀ v, s.chip.Allows src R.rstMate (force F.rstMateReq 1 v) → s.chip.pairMode = true → s.chip.linkSt 8 = lkActive →
      Does (.rstMateReq src v) s fun t => t.out = [.packet 8 (mkPacket 8 (natBytesBE 1 0x0D ++ natBytesBE 1 0
        ++ natBytesBE 2 s.chip.pair.mseq ++ natBytesBE 8 0)), .status 0])
    ∧ (∀ pk, s.chip.domainRuns 4 = true → s.chip.Hears 0x0D pk →
      (s.chip.fb F.rstCfgMateEn = true → Does (.mateResetRequestRx pk) s fun t => t.boot.hold = true
        ∧ (∀ a, t.byte a = 0#8) ∧ t.rd R.rstCause = putBits (s.chip.rd R.rstCause) 5 1 1
        ∧ t.f F.rstCountCount = satAdd F.rstCountCount.width (s.chip.f F.rstCountCount) 1)
      ∧ (s.chip.fb F.rstCfgMateEn = false → Does (.mateResetRequestRx pk) s fun t =>
        t.f F.rstMateIgnCount = satAdd F.rstMateIgnCount.width (s.chip.f F.rstMateIgnCount) 1
          ∧ s.chip.Keeps t [R.rstMateIgn, R.plMsgLost]))
    ∧ (s.chip.boot.trip = false →
      (s.chip.mgmtRuns = true → Does .thermalTrip s fun t => t.boot.trip = true
        ∧ ∃ k < 4, t.reports = s.chip.reports ++ [⟨0x42, k, false⟩])
      ∧ (s.chip.mgmtRuns = false → s.chip.strapHold = false → Does .thermalTrip s fun t => t.boot.trip = true ∧ t.boot.hold = true
        ∧ t.rd R.rstLastFault = s.chip.rd R.fcFirst ∧ t.rd R.rstCause = putBits (s.chip.rd R.rstCause) 3 1 1))
    ∧ Does .thermalTripRelease s fun t => t.boot = { s.chip.boot with trip := false } ∧ s.chip.Keeps t []

/-- An ECHO that answers a probe adds a sample of twice the latency; the last of a set gives HPn_LAT.L_DOWN, the mean without the
largest and the smallest sample where those left lie within 1 ns, and TIME is sent (R101, R108, R109). The watchdog's kick is
taken (R414), a mate reset request leaves and, with MATE_EN, resets the device that receives it (R414), and a thermal trip is
reported or, with MGMT at rest, resets the device and holds it until its release (R448). Each answers a next state for every
state that meets the conditions; on a device with nothing left over that state is as said. The model's choices: the reset by a trip with
MGMT at rest (log entry 26), and that L_DOWN keeps its value or takes the new one by the 1 ns rule (log entry 43). -/
def Obligations.Interventions : Prop :=
  ∀ s : State,
    (∀ (n : Nat) (block : List Byte) (rtt : Nat), n < 8 → n < s.chip.links.length → s.chip.domainRuns 4 = true →
        s.chip.pcsRuns n = true →
        fieldBE block 0 1 = 0x4B → blockOk block 6 = true → s.chip.latMeasuring n = true →
        (s.chip.link n).probes.any (fun p => p.1 == fieldBE block 1 1) = true →
      let left := (s.chip.link n).probes.filter fun p => p.1 != fieldBE block 1 1
      let samples := (s.chip.link n).samples ++ [(rtt : Int) - (fieldBE block 2 4 : Int)]
      (¬((s.chip.link n).sent = 16 ∧ left = []) →
        ∃ t, exec (.echoRx n block rtt) s = .next { s with chip := t }
          ∧ (s.chip.Quiet → (t.link n).samples = samples ∧ (t.link n).probes = left ∧ s.chip.Keeps t []))
      ∧ ((s.chip.link n).sent = 16 → left = [] → s.chip.linkSt n = lkConfigure →
        ∀ hi lo, hi ∈ samples → lo ∈ samples → (∀ x ∈ samples, lo ≤ x ∧ x ≤ hi) →
        let kept := (samples.erase hi).erase lo
        kept ≠ [] → (∀ x ∈ kept, ∀ y ∈ kept, x - y ≤ 32) →
        ∃ t, exec (.echoRx n block rtt) s = .next { s with chip := t }
          ∧ (s.chip.Quiet → t.f (F.latLDown n) = (kept.sum / (2 * kept.length : Nat)).toNat % 2 ^ 24
            ∧ ∃ b, .packet n (mkPacket 3 b) ∈ t.out)))
    ∧ (∀ src, s.chip.Allows src R.rstWdtKick 0xA5C3#32 →
      ∃ t, exec (.watchdogKick src) s = .next { s with chip := t }
        ∧ (s.chip.Quiet → t.out = [.status 0] ∧ s.chip.Keeps t [R.rstWdtKick, R.scpSession]))
    ∧ (∀ src v, s.chip.Allows src R.rstMate (force F.rstMateReq 1 v) → s.chip.pairMode = true →
        s.chip.linkSt 8 = lkActive →
      ∃ t, exec (.rstMateReq src v) s = .next { s with chip := t }
        ∧ (s.chip.Quiet → t.out = [.packet 8 (mkPacket 8 (natBytesBE 1 0x0D ++ natBytesBE 1 0
          ++ natBytesBE 2 s.chip.pair.mseq ++ natBytesBE 8 0)), .status 0]))
    ∧ (∀ pk, s.chip.domainRuns 4 = true → s.chip.Hears 0x0D pk → s.chip.fb F.rstCfgMateEn = true →
      ∃ t, exec (.mateResetRequestRx pk) s = .next { s with chip := t }
        ∧ (s.chip.Quiet → t.boot.hold = true ∧ t.rd R.rstCause = putBits (s.chip.rd R.rstCause) 5 1 1
          ∧ t.f F.rstCountCount = satAdd F.rstCountCount.width (s.chip.f F.rstCountCount) 1))
    ∧ (s.chip.boot.trip = false →
      (s.chip.mgmtRuns = true → ∃ c : Chip, exec .thermalTrip s = .next { s with chip := c.settle } ∧ c.boot.trip = true
        ∧ ∃ k < 4, c.reports = s.chip.reports ++ [⟨0x42, k, false⟩])
      ∧ (s.chip.mgmtRuns = false → s.chip.strapHold = false → ∃ t, exec .thermalTrip s = .next { s with chip := t }
        ∧ (s.chip.Quiet → t.boot.trip = true ∧ t.boot.hold = true ∧ t.rd R.rstLastFault = s.chip.rd R.fcFirst
          ∧ t.rd R.rstCause = putBits (s.chip.rd R.rstCause) 3 1 1)))
    ∧ ∃ t, exec .thermalTripRelease s = .next { s with chip := t }
      ∧ (s.chip.Quiet → t.boot = { s.chip.boot with trip := false } ∧ s.chip.Keeps t [])

/-- The monitors (R395 to R399, R401, R406, R408, R445): a window's count is shown, good windows in a row make a RETURNING
source GOOD, the second bad one in a row or a stop fails a GOOD one with its record and report, and PLL outputs likewise, a stopped one stopping its
domain (R29); a CORE PLL that loses lock is replaced by the standby, or reported where there is none; in reference holdover lock loss is not evaluated. With
F10M = 1 a failure of the 10 MHz input forces the outputs safe (R404). That INST of 0x32 is the CORE PLL is the model's choice (log
entry 19). -/
def Obligations.ClockMonitors : Prop :=
  ∀ s : State,
    (∀ i n, i < 5 → s.chip.clkSt i = csGood → clkPass i n = true → (s.chip.clkSrc i).stop = false →
      Does (.clkMonitorWindow ((List.replicate 5 none).set i (some n)) []) s fun t =>
        t.f (F.clkCntCount i) = min n 65535 ∧ s.chip.Keeps t [R.clkCnt i])
    ∧ (∀ i n, i < 5 → s.chip.clkSt i = csReturning → clkPass i n = true → (s.chip.clkSrc i).stop = false →
        (if (s.chip.clkSrc i).failed then 7 else 1) ≤ (s.chip.clkSrc i).pass →
      Does (.clkMonitorWindow ((List.replicate 5 none).set i (some n)) []) s fun t => t.clkSt i = csGood
        ∧ s.chip.Keeps t [R.clkCnt i, R.clkStat])
    ∧ (∀ i j n, i < 5 → j < 5 → i ≠ j → s.chip.clkSt i = csGood → s.chip.clkSt j = csGood → clkPass i n = false →
        1 ≤ (s.chip.clkSrc i).fail →
      Does (.clkMonitorWindow ((List.replicate 5 none).set i (some n)) []) s fun t => t.f F.clkFaultSrc = i + 1
        ∧ t.f F.clkFaultKind = 2 ∧ ⟨0x30, i + 1, false⟩ ∈ t.reports
        ∧ (i = s.chip.clkInUse → t.f F.clkEvtRefFail = 1 ∧ t.f F.clkStatSafe = 1 ∧ t.f F.clkStatHold = 1))
    ∧ (∀ p < 5, Does (.clkMonitorWindow (List.replicate 5 none) [p]) s fun t => t.f (F.clkStatLockP p) = 0
        ∧ t.f F.clkEvtPllUnlock = 1 ∧ t.f F.clkFaultSrc = p + 6 ∧ t.f F.clkFaultKind = 2)
    ∧ (∀ i < 5, s.chip.clkSt i = csGood → Does (.clkSourceStop i) s fun t => t.f F.clkFaultSrc = i + 1
        ∧ t.f F.clkFaultKind = 1 ∧ ⟨0x30, i + 1, false⟩ ∈ t.reports)
    ∧ (∀ p < 5, Does (.clkSourceStop (p + 5)) s fun t => t.f (F.clkStatLockP p) = 0 ∧ t.f F.clkFaultSrc = p + 6
        ∧ t.f F.clkFaultKind = 1 ∧ t.pllRuns p = false)
    ∧ (∀ i < 2, s.chip.clkSt i = csStarting → Does (.clkStartupWaitEnd i) s fun t => t.clkSt i = csReturning
        ∧ s.chip.Keeps t [R.clkStat])
    ∧ (∀ i, s.chip.clk.fbOff = true → s.chip.clkFallback = some i → s.chip.fb F.clkCfgFbEn = true → s.chip.clkSt i = csOff →
      Does .clkFallbackReenable s fun t => t.clkSt i = csStarting ∧ t.clk.fbOff = false ∧ s.chip.Keeps t [R.clkStat])
    ∧ (∀ p < 5, s.chip.clk.refLost = false → s.chip.clk.revert = false → Does (.clkPllLockLoss p) s fun t => t.f (F.clkStatLockP p) = 0
        ∧ t.f F.clkEvtPllUnlock = 1 ∧ t.f F.clkFaultSrc = p + 6 ∧ t.f F.clkFaultKind = 3
        ∧ (p = s.chip.coreAct + 1 → (∀ x < 2, s.chip.clk.standby = some x → t.coreAct = x ∧ t.f F.clkEvtCoreSw = 1)
          ∧ (s.chip.clk.standby = none → ⟨0x32, s.chip.coreAct, false⟩ ∈ t.reports)))
    ∧ (∀ p, s.chip.clk.refLost = true → Does (.clkPllLockLoss p) s fun t => s.chip.Keeps t [])
    ∧ (s.chip.clkSt 4 = csGood → s.chip.fb F.orbCtrlF10m = true → Does (.clkSourceStop 4) s fun t => t.clkSt 4 = csFailed
        ∧ t.f F.clkEvtF10mFail = 1 ∧ t.f F.clkStatSafe = 1 ∧ t.f F.clkStatHold = 1 ∧ t.clk.time10 = false)
    ∧ (s.chip.clk.barred.contains (1 - s.chip.coreAct) = false →
      Does .corePllStandbyRestore s fun t => t.clk.standby = some (1 - s.chip.coreAct)
        ∧ t.f (F.clkStatLockP (1 - s.chip.coreAct + 1)) = 1 ∧ s.chip.Keeps t [R.clkStat])

/-- Changes of clocks (R400, R402, R403, R406, R409, R410): relock ends holdover on the reference taken, its expiry restarts
the device, a selector hang resets its domain, REVERT starts a change to the primary and FORCE selects the CORE PLL. The model's
choices: the zeros that cleared memories read as (log entry 3), and that what the engines of a cluster ran returns to its queue when
the cluster's selector hangs (log entry 26). -/
def Obligations.ClockChanges : Prop :=
  ∀ (s : State) (src : Src) (v : Word),
    (∀ i, s.chip.mgmtRuns = true → s.chip.clk.expired = false → s.chip.clk.refLost = true ∨ s.chip.clk.revert = true → s.chip.clk.target = some i →
        i = s.chip.clkPrimary ∨ s.chip.clkFallback = some i →
      Does .clkPllRelock s fun t => t.clkInUse = i ∧ t.clk.refLost = false ∧ (∀ p < 4, t.f (F.clkStatLockP p) = 1)
        ∧ t.f (F.clkStatLockP 4) = (if s.chip.clk.time10 = true then s.chip.f (F.clkStatLockP 4) else 1)
        ∧ t.f F.clkStatHold = 0 ∧ t.f F.clkStatSafe = 0)
    ∧ (s.chip.mgmtRuns = true → s.chip.clk.expired = false → s.chip.clk.refLost = false → s.chip.clk.revert = false →
      Does .clkPllRelock s fun t => t.f F.clkStatHold = 0 ∧ t.f F.clkStatSafe = 0
        ∧ (∀ p < 5, t.f (F.clkStatLockP p)
          = if s.chip.clk.f10Lost = true ∧ p ≠ 4 then s.chip.f (F.clkStatLockP p) else 1)
        ∧ s.chip.Keeps t [R.clkStat, R.cmtStat])
    ∧ (s.chip.clk.refLost = true → s.chip.clk.expired = false → s.chip.strapHold = false →
      Does .clkHoldoverExpiry s fun t => t.clk.expired = true ∧ t.boot.hold = true ∧ t.boot.restart = true
        ∧ t.f F.clkEvtHoldExp = 1 ∧ t.f F.clkFaultKind = 5 ∧ t.rd R.rstCause = putBits (s.chip.rd R.rstCause) 6 1 1)
    ∧ (∀ d < 4, Does (.clkSelectorHang d) s fun t => t.f F.clkEvtMuxHang = 1 ∧ t.f F.clkFaultKind = 4
        ∧ (d = 0 → s.chip.strapHold = false → t.boot.hold = true ∧ t.boot.restart = true)
        ∧ (d = 1 → t.coreAct = (if s.chip.pllRuns (s.chip.coreAct + 1) = true then s.chip.coreAct else 1 - s.chip.coreAct)
          ∧ ∀ a < sramEnd, t.byte a = 0#8)
        ∧ (d = 2 → ∀ a, ddrBase ≤ a → t.byte a = 0#8) ∧ (d = 3 → t.nowNs = 0 ∧ t.log = []))
    ∧ (∀ k < 4, s.chip.steady k = false → Does (.clkSelectorHang (k + 4)) s fun t => t.f F.clkEvtMuxHang = 1 ∧ t.f F.clkFaultKind = 4
        ∧ t.f F.clkFaultSrc = 7 + s.chip.coreAct ∧ ∀ e ∈ clusterEngines k, t.running? e = none)
    ∧ (s.chip.Allows src R.clkCmd (force F.clkCmdRevert 1 v) →
      Does (.clkRevert src v) s fun t => t.f F.clkStatSafe = 1 ∧ t.f F.clkStatHold = 1 ∧ t.clk.revert = true
        ∧ t.clk.target = some s.chip.clkPrimary ∧ t.out = [.status 0])
    ∧ (s.chip.Allows src R.clkCmd (force F.clkCmdForce 1 v) →
      Does (.clkForce src v) s fun t => t.coreAct = getBits v 29 1 ∧ t.out = [.status 0])

/-- Register accesses (R16, R17, R499): a write that a rule rejects changes nothing and answers its status; a performed write of
a plain register of any block stores the written fields and, where it needs a session, uses that; a read returns what the
register shows and leaves its RC fields 0. What MCn_RFM_CNT has counted is a free value (log entry 5), and a read clears it. -/
def Obligations.RegisterAccesses : Prop :=
  ∀ (s : State) (src : Src) (a : Nat) (v : Word),
    (¬s.chip.Allows src a v → Does (.registerWrite src a v) s fun t =>
      t.out = [.status (pickStatus (s.chip.writeChecks src a v))] ∧ s.chip.Keeps t [])
    ∧ (∀ r ix, regAt a = some (r, ix) →
      (s.chip.Allows src a v → plainReg a → a ≠ R.scpSum →
        Does (.registerWrite src a v) s fun t => t.out = [.status 0] ∧ t.rd a = r.store (s.chip.rd a) v
          ∧ s.chip.Keeps t ([a, R.jobVstat] ++ if (scopeBit a).isSome then [R.scpSession] else []))
      ∧ (s.chip.AllowsRead src a → plainRead a → a ≠ R.scpSum →
        Does (.rcRegisterRead src a) s fun t => t.out = [.status (r.view (s.chip.rd a)).toNat]
          ∧ t.rd a = r.afterRead (s.chip.rd a) ∧ s.chip.Keeps t [a]))
    ∧ (∀ n < 6, s.chip.AllowsRead src (R.mcRfmCnt n) → s.chip.f (F.mcStatState n) = mcReady →
        Does (.rcRegisterRead src (R.mcRfmCnt n)) s fun t => (∃ k : Nat, t.out = [.status k]) ∧ t.f (F.mcRfmCntCount n) = 0
          ∧ s.chip.Keeps t [R.mcRfmCnt n])
    ∧ (¬s.chip.AllowsRead src a → Does (.rcRegisterRead src a) s fun t =>
        t.out = [.status (pickStatus (s.chip.accessChecks src a false) * 2 ^ 32)] ∧ s.chip.Keeps t [])

/-- SCP commands (R339 to R344, R347, R420): a broken one is counted and not answered; an unknown OP is answered 0x01; READ
returns the register or the bytes, and 0 with 0x04 where the clock domain stands (R29), WRITE and WRITE_MASK store, a push mode
takes no WRITE_MASK, PING answers. -/
def Obligations.ScpCommands : Prop :=
  ∀ (s : State) (m : ScpCmd),
    (s.chip.pathUp m = true → m.broken = true →
      Does (.scpBadCommand m) s fun t => t.out = [] ∧ s.chip.Keeps t [R.scpRxBad, R.ulRxFrm]
        ∧ t.f F.scpRxBadCount = satAdd F.scpRxBadCount.width (s.chip.f F.scpRxBadCount) 1)
    ∧ (s.chip.Ready m →
      (opKnown m.op = false → Does (.scpUnknownOpcode m) s fun t => s.chip.Answered t m 0x01 []
        ∧ t.f F.scpRejCount = satAdd F.scpRejCount.width (s.chip.f F.scpRejCount) 1)
      ∧ (m.op = 0x01 → m.len = 24 → m.count = 4 → plainRead m.addr → m.addr ∉ [R.scpSum, R.ulRxFrm] →
          s.chip.AllowsRead m.src m.addr → ∀ r ix, regAt m.addr = some (r, ix) →
          Does (.scpRead m []) s fun t => s.chip.Responds t m 0 (wordBytesLE (r.view (s.chip.rd m.addr))))
      ∧ (m.op = 0x01 → m.len = 24 → m.count = 4 → memAddr m.addr = false → m.addr < 2 ^ 40 →
          s.chip.domainRuns (domainOf m.addr) = false → pickStatus (s.chip.accessChecks m.src m.addr false) = 0x04 →
        Does (.scpRead m []) s fun t => s.chip.Answered t m 0x04 (wordBytesLE 0#32))
      ∧ (m.op = 0x01 → m.len = 24 → memAddr m.addr = true → m.addr < 2 ^ 40 →
          s.chip.domainRuns (domainOf m.addr) = false →
          pickStatus (s.chip.windowChecks m.src m.addr m.count false) = 0x04 →
        Does (.scpRead m []) s fun t => s.chip.Answered t m 0x04 (List.replicate m.count 0#8))
      ∧ (m.op = 0x01 → m.len = 24 → memAddr m.addr = true → m.addr < 2 ^ 40 → s.chip.ecc = [] →
          pickStatus (s.chip.windowChecks m.src m.addr m.count false) = 0 →
        Does (.scpRead m []) s fun t => s.chip.Answered t m 0 (s.chip.bytes m.addr m.count) ∧ ∀ a, t.byte a = s.chip.byte a)
      ∧ (m.op = 0x02 → m.len = 28 → m.count = 4 → plainReg m.addr → m.addr / 0x1000 ≠ 8 → m.addr ≠ R.ulRxFrm →
        let v := BitVec.ofNat 32 (natOfLE m.data)
        s.chip.Allows m.src m.addr v → ∀ r ix, regAt m.addr = some (r, ix) →
          Does (.scpWrite m []) s fun t => s.chip.Answered t m 0 [] ∧ t.rd m.addr = r.store (s.chip.rd m.addr) v)
      ∧ (m.op = 0x02 → m.count = m.len - 24 → m.data.length = m.count → memAddr m.addr = true → m.addr < 2 ^ 40 →
          s.chip.ecc = [] → pickStatus (s.chip.windowChecks m.src m.addr m.count true) = 0 →
        Does (.scpWrite m []) s fun t => s.chip.Answered t m 0 [] ∧ (∀ i < m.count, t.byte (m.addr + i) = m.data.getD i 0#8)
          ∧ ∀ a, ¬(m.addr ≤ a ∧ a < m.addr + m.count) → t.byte a = s.chip.byte a)
      ∧ (m.op = 0x03 → m.len = 32 → m.count = 8 → m.addr / 0x1000 ≠ 8 → m.addr ≠ R.ulRxFrm → memAddr m.addr = false →
          m.addr < 2 ^ 40 →
        let mask := BitVec.ofNat 32 (natOfLE ((m.data.drop 4).take 4))
        let v := (s.chip.maskBase m.addr &&& ~~~mask) ||| (BitVec.ofNat 32 (natOfLE (m.data.take 4)) &&& mask)
        s.chip.Allows m.src m.addr v →
          (s.chip.pushMode = true → Does (.scpWriteMask m) s fun t => s.chip.Answered t m 0x04 [])
          ∧ (s.chip.pushMode = false → plainReg m.addr → ∀ r ix, regAt m.addr = some (r, ix) →
            Does (.scpWriteMask m) s fun t => s.chip.Answered t m 0 [] ∧ t.rd m.addr = r.store (s.chip.rd m.addr) v))
      ∧ (m.op = 0x04 → m.len = 24 → m.addr = 0 → m.count = 0 → s.chip.pushMode = false →
        Does (.scpPing m) s fun t => s.chip.Answered t m 0 []
          ∧ s.chip.Keeps t [R.scpRxCmd, R.ulRxFrm]))
    ∧ (s.chip.pathUp m = true → m.broken = false → m.tooLong = false → s.chip.resetPending m.path = false →
        s.chip.scpKept m = none → m.path = .spi → s.chip.scp.spi ≠ none → m.op = 0x04 → m.len = 24 → m.addr = 0 → m.count = 0 →
        s.chip.pushMode = false →
      Does (.scpPing m) s fun t => t.out = [.spi (s.chip.scpResponse m 0x05 [])] ∧ s.chip.Keeps t [R.scpRej])

/-- Subscription, sessions and resets over a path (R345, R349 to R351, R353, R412): AUTH with a valid token opens a session and
with another fails with 0x07 and report 0x60; DEAUTH and the end of LIFE close it; RESET waits for its response and its
delay. -/
def Obligations.ScpSessions : Prop :=
  ∀ (s : State) (m : ScpCmd),
    (s.chip.pushMode = false → s.chip.Ready m →
      (m.op = 0x05 → m.len = 24 → m.addr = 0 → m.count = 0 → m.path = .ul →
        Does (.scpSubscribe m) s fun t => s.chip.Answered t m 0 [] ∧ t.scp.sub = some m.key ∧ t.f F.scpSessionSubscr = 1)
      ∧ (m.op = 0x10 → m.count = m.len - 24 → m.addr = 0 →
        (s.chip.tokenOk m.data = true → Does (.scpAuth m) s fun t => s.chip.Answered t m 0 []
          ∧ t.session m.path = some ⟨fieldBE m.data 2 2, if fieldBE m.data 16 4 = 0 then none else some (fieldBE m.data 16 4),
              m.key⟩ ∧ t.f (if m.path = .ul then F.scpSessionUlOpen else F.scpSessionSpiOpen) = 1)
        ∧ (s.chip.tokenOk m.data = false → Does (.scpAuth m) s fun t => s.chip.Answered t m 0x07 []
          ∧ t.session m.path = s.chip.session m.path ∧ t.reports = s.chip.reports ++ [⟨0x60, 0, false⟩]))
      ∧ (m.op = 0x11 → m.len = 24 → m.addr = 0 → m.count = 0 →
        Does (.scpDeauth m) s fun t => s.chip.Answered t m 0 [] ∧ t.session m.path = none
          ∧ t.f (if m.path = .ul then F.scpSessionUlOpen else F.scpSessionSpiOpen) = 0)
      ∧ (m.op = 0x20 → m.len = 24 → m.count = 0 → m.addr < 256 → s.chip.holdsScope m.path m.key 3 = true →
          s.chip.resetChecks m.addr = [] →
        Does (.scpReset m) s fun t => s.chip.Answered t m 0 []
          ∧ t.scp.resets = s.chip.scp.resets ++ [(m.path, m.addr, false)]))
    ∧ ∀ p : Path, s.chip.domainRuns 1 = true →
      Does (.sessionLifeExpiry p) s (fun t => t.session p = none ∧ s.chip.Keeps t [R.scpSession])
      ∧ (∀ tag r, s.chip.scp.kept.find? (fun x => x.path == p && x.tag == tag) = some r →
        Does (.scpReplayEntryExpiry p tag) s fun t => t.scp.kept = s.chip.scp.kept.erase r ∧ s.chip.Keeps t [])
      ∧ (s.chip.scp.resets = [(p, 0x00, true)] → Does (.scpResetDelayExpiry p) s fun t => t.boot.hold = true
        ∧ t.rd R.rstCause = putBits (s.chip.rd R.rstCause) 4 1 1)
      ∧ (s.chip.scp.resets = [(p, 0x01, true)] → Does (.scpResetDelayExpiry p) s fun t => t.scp.resets = []
        ∧ t.running = false ∧ ∀ a < sramEnd, t.byte a = 0#8)
      ∧ (s.chip.scp.resets = [(p, 0x20, true)] → Does (.scpResetDelayExpiry p) s fun t => t.scp.resets = []
        ∧ ∀ n < 16, t.f (F.dmaChStatState n) = 0)

/-- Event packets and the ends of responses (R339, R341, R348, R353): a due packet carries EVSEQ and the enabled summary to the
subscriber; a response leaves in a frame to the command's sender (R298, R339) and frees its place for the next command. The
layout of the frame around it (its header fields and its check sequence) is the model's choice (log entry 14). -/
def Obligations.ScpEvents : Prop :=
  ∀ s : State, s.chip.domainRuns 1 = true →
    let packet := scpSeal (natBytesBE 1 0x10 ++ natBytesBE 1 0xC0 ++ natBytesBE 2 32 ++ natBytesBE 4 0
      ++ natBytesBE 4 0 ++ natBytesBE 4 (s.chip.f F.scpEpochEpoch) ++ natBytesBE 4 8 ++ natBytesBE 4 s.chip.scp.evSeq
      ++ natBytesBE 4 s.chip.enabledSum)
    let sends := fun (t : Chip) => (∀ key, s.chip.scp.sub = some key → t.out = [.ulFrame (sealFrame (s.chip.frameTo key packet))])
      ∧ t.scp.evSeq = (s.chip.scp.evSeq + 1) % 2 ^ 32
      ∧ t.f F.scpEvtTxCount = satAdd F.scpEvtTxCount.width (s.chip.f F.scpEvtTxCount) 1
      ∧ s.chip.Keeps t [R.scpEvtTx, R.ulTxFrm]
    (s.chip.eventsOn = true → s.chip.holdoffOver = true →
      (s.chip.scp.rose = true → Does .eventPacketSend s sends)
      ∧ (s.chip.enabledSum ≠ 0 → s.chip.f F.scpEvtCfgRepeatMs ≠ 0 → Does .eventRepeatTimer s sends))
    ∧ (∀ m, s.chip.scp.spi = some m → Does .spiResponseReadOut s fun t => t.scp.spi = none ∧ s.chip.Keeps t [])
    ∧ (∀ m, s.chip.scp.ulq = [m] →
      (∀ bs, s.chip.scp.ulResp = some bs → m.path = .ul → s.chip.ulIsUp = true →
        Does .scpResponseLeaves s fun t => t.scp.ulq = [] ∧ t.out = [.ulFrame (sealFrame (s.chip.frameTo m.key bs))]
          ∧ s.chip.Keeps t [R.ulTxFrm])
      ∧ (s.chip.scp.ulResp = none → Does .scpResponseLeaves s fun t => t.scp.ulq = [] ∧ t.out = [] ∧ s.chip.Keeps t []))
    ∧ (∀ m k rest, s.chip.scp.ulq = m :: k :: rest → s.chip.scp.resets = [] → k.path = .ul → k.op = 0x04 → k.len = 24 →
        k.addr = 0 → k.count = 0 → s.chip.pushMode = false → s.chip.ulIsUp = true →
      Does .scpResponseLeaves s fun t => t.scp.ulq = k :: rest ∧ s.chip.Answered t k 0 [])

/-- Segments, deadlines and hand-over of head lines (R120 to R125, R137): a segment of no expected line, of a line already
closed and of a covered stretch is discarded and counted; one that completes its line closes it; a line without segments
closes missing at its deadline or where its TRIG was not sent; the oldest closed line goes to the stitcher corrected,
cropped and binned, once no older line is open, with the errors of its table entries counted (R131). -/
def Obligations.FrontEnd : Prop :=
  ∀ (s : State) (n : Nat), n < 8 → n < s.chip.fes.length → s.chip.domainRuns 3 = true →
    let f := s.chip.fe n
    (∀ bytes rest, f.fifo = bytes :: rest →
      let trig := fieldBE bytes 12 4
      ((f.exp.findIdx? fun l => l.trig == trig) = none → (∀ u, f.lastClosed = some u → 0 < sdiff32 trig u) →
        Does (.feSegmentRx n) s fun t => (t.fe n).fifo = rest ∧ (t.fe n).exp = f.exp
          ∧ t.f (F.feUnexpCntCount n) = satAdd (F.feUnexpCntCount n).width (s.chip.f (F.feUnexpCntCount n)) 1
          ∧ s.chip.Keeps t [R.feUnexpCnt n])
      ∧ (∀ u, (f.exp.findIdx? fun l => l.trig == trig) = none → f.lastClosed = some u → sdiff32 trig u ≤ 0 →
        Does (.feSegmentRx n) s fun t => (t.fe n).fifo = rest ∧ (t.fe n).exp = f.exp
          ∧ t.f (F.feLateCntCount n) = satAdd (F.feLateCntCount n).width (s.chip.f (F.feLateCntCount n)) 1
          ∧ s.chip.Keeps t [R.feLateCnt n])
      ∧ ∀ l ls, f.exp = l :: ls → l.trig = trig → (∀ u, f.lastClosed = some u → 0 < sdiff32 trig u) →
        ((l.segs.any fun g => g.overlaps (segOf bytes)) = true →
          Does (.feSegmentRx n) s fun t => (t.fe n).fifo = rest ∧ (t.fe n).exp = f.exp
            ∧ t.f (F.feDupCntCount n) = satAdd (F.feDupCntCount n).width (s.chip.f (F.feDupCntCount n)) 1
            ∧ s.chip.Keeps t [R.feDupCnt n])
        ∧ ((l.segs.any fun g => g.overlaps (segOf bytes)) = false →
          let now := l.covered + (segOf bytes).px.length
          (now ≠ s.chip.lineNpix n l.bank →
            Does (.feSegmentRx n) s fun t => (t.fe n).exp = { l with segs := l.segs ++ [segOf bytes] } :: ls
              ∧ s.chip.Keeps t [])
          ∧ (now = s.chip.lineNpix n l.bank → 0 < now →
            Does (.feSegmentRx n) s fun t => (t.fe n).exp = ls ∧ (t.fe n).lastClosed = some trig
              ∧ ∃ no, (t.fe n).closed = closedIn ⟨{ l with segs := l.segs ++ [segOf bytes] }, false, false, no⟩ f.closed)))
    ∧ (∀ l ls, f.exp = l :: ls → l.segs = [] →
      let closes := fun (t : Chip) => (t.fe n).exp = ls ∧ (t.fe n).closed = closedIn ⟨l, true, false, 0⟩ f.closed
        ∧ t.f (F.feMissCntCount n) = satAdd (F.feMissCntCount n).width (s.chip.f (F.feMissCntCount n)) 1
        ∧ (s.chip.fb (F.linkCtrlExpected n) = true → ⟨0x05, n, false⟩ ∈ t.reports)
      (s.chip.lineExpired n l = true → (∀ k ∈ ls, s.chip.lineExpired n k = false) →
        Does (.feLineDeadline n) s closes)
      ∧ (l.notSent = true → Does (.feLineCloseNotSent n) s closes))
    ∧ (∀ flips l rest, f.closed = l :: rest →
      let c := s.chip.feFlip n flips
      let b := l.line.bank
      let fixed := c.feCorrect n l.line
      let bin := 2 ^ s.chip.f (F.feBinTmoBin b n)
      let start := s.chip.f (F.feCropStart b n)
      let len := s.chip.f (F.feCropLen b n)
      let crop := (fixed.1.drop start).take len
      let out := binLine bin (crop.length / bin) crop
      (f.waits l = true → Does (.feLineHandover ⟨n, flips⟩) s fun t => (t.fe n).closed = f.closed
        ∧ t.stc.lines = s.chip.stc.lines ∧ s.chip.Keeps t [])
      ∧ (f.waits l = false → Does (.feLineHandover ⟨n, flips⟩) s fun t => (t.fe n).closed = rest ∧ (t.fe n).prev = fixed.1
        ∧ t.stc.lines = s.chip.stc.lines
          ++ [⟨n, l.line.trig, l.lineNo, b, l.missing, l.partial_, (out.filter (·.nd)).length, start, len, bin, out⟩]
        ∧ t.f (F.feLineOutCount n) = satAdd (F.feLineOutCount n).width (s.chip.f (F.feLineOutCount n)) 1
        ∧ t.f (F.feEccCorrCount n) = satAdd (F.feEccCorrCount n).width (s.chip.f (F.feEccCorrCount n)) fixed.2.1
        ∧ t.f (F.feEccUncCount n) = satAdd (F.feEccUncCount n).width (s.chip.f (F.feEccUncCount n)) fixed.2.2.1
        ∧ t.f (F.feSatCntCount n) = satAdd (F.feSatCntCount n).width (s.chip.f (F.feSatCntCount n)) fixed.2.2.2))

/-- The correction table (R130, R140, R141): its setting after reset ends; a write stores the entry at INDEX and a read
returns it, both moving INDEX on; a check computes the CRC-32C of a bank's entries in order, most significant byte first. -/
def Obligations.CorrectionTable : Prop :=
  ∀ (s : State) (src : Src) (n : Nat) (v : Word), n < 8 → n < s.chip.fes.length →
    let b := s.chip.f (F.feTblAddrBank n)
    let i := s.chip.f (F.feTblAddrIndex n)
    (s.chip.domainRuns 3 = true →
      Does (.feTableInitDone n) s fun t => (t.fe n).initBusy = false ∧ s.chip.Keeps t [])
    ∧ (s.chip.Allows src (R.feTblData n) v →
      Does (.feTblDataWrite src n v) s fun t => (t.fe n).tblGet b i = v ∧ t.f (F.feTblAddrIndex n) = (i + 1) % 65536
        ∧ ((s.chip.fe n).chkOf = some b → t.f (F.feTblChkStale n) = 1)
        ∧ (∀ d j, j < 65536 → ¬(d = b ∧ j = i) → (t.fe n).tblGet d j = (s.chip.fe n).tblGet d j) ∧ t.out = [.status 0]
        ∧ s.chip.Keeps t [R.feTblAddr n, R.feTblChk n, R.scpSession])
    ∧ (∀ flips, s.chip.AllowsRead src (R.feTblData n) →
      Does (.feTblDataRead src ⟨n, flips⟩) s fun t => t.f (F.feTblAddrIndex n) = (i + 1) % 65536
        ∧ t.out = [.status (if ((s.chip.feFlip n flips).fe n).tblEcc b i = some true then 0xFFFFFFFF else ((s.chip.fe n).tblGet b i).toNat)]
        ∧ s.chip.Keeps t [R.feTblAddr n])
    ∧ (s.chip.Allows src (R.feTblChk n) (force (F.feTblChkGo n) 1 v) →
      Does (.feTblChkGo src n v) s fun t => (t.fe n).chk = some (getBits v 28 1) ∧ t.f (F.feTblChkDone n) = 0
        ∧ t.f (F.feTblChkStale n) = 0 ∧ t.out = [.status 0])
    ∧ (∀ d, s.chip.domainRuns 3 = true → (s.chip.fe n).chk = some d →
      Does (.feTblChkDone n) s fun t => (t.fe n).chk = none ∧ t.f (F.feTblChkDone n) = 1
        ∧ t.rd (R.feTblCrc n)
          = crc32c ((List.range 65536).flatMap fun k => natBytesBE 4 ((s.chip.fe n).tblGet d k).toNat)
        ∧ s.chip.Keeps t [R.feTblCrc n, R.feTblChk n])

/-- The next web line (R147, R151, R153), whatever bands the inspection engines hold: it leaves the queue and is counted; within a band its stitched row joins the band,
and as the sixteenth it completes the band under its BSEQ. -/
def Obligations.WebLines : Prop :=
  ∀ (s : State) (w : WebTrig) (brings : List (Nat × (StcLine ⊕ Nat))), s.chip.domainRuns 3 = true →
    s.chip.nextWebLine = some (w, brings) →
    let k := s.chip.stc
    let row := (List.range (s.chip.stcWidth w.bank)).map (s.chip.webPixel w.bank brings)
    Does .stcWebLineComplete s (fun t => t.stc.webq = k.webq.drop 1
      ∧ t.f F.stcWlineCntCount = satAdd F.stcWlineCntCount.width (s.chip.f F.stcWlineCntCount) 1)
    ∧ (w.mark = false → k.lostAt = none → w.norep = k.norep → w.bank = k.bank → k.rows ≠ [] → k.cutAt ≠ some w.trig →
      (k.rows.length < 15 → Does .stcWebLineComplete s fun t => t.stc.rows = k.rows ++ [row] ∧ t.stc.bseq = k.bseq
        ∧ t.f F.stcBandCntCount = s.chip.f F.stcBandCntCount)
      ∧ (k.rows.length = 15 → Does .stcWebLineComplete s fun t => t.stc.rows = [] ∧ t.stc.bseq = (k.bseq + 1) % 2 ^ 32
        ∧ t.f F.stcBseqBseq = k.bseq % 2 ^ 32
        ∧ t.f F.stcBandCntCount = satAdd F.stcBandCntCount.width (s.chip.f F.stcBandCntCount) 1
        ∧ ∃ fb ∈ t.ie.bands, fb.band.bseq = k.bseq ∧ fb.band.rows = k.rows ++ [row] ∧ fb.band.nlines = 16))

/-- The stages of a band in the flock (R162, R170, R171, R187, R200, R270): the ring loads its reference lines, of which it
holds 64, or waits for the band before; an engine delivers a band slice and is free; the merger takes the next band; the
last colour piece completes the colour item; a capture lands. That HOLD_CNT and REGLOST_CNT count once per band slice is the
model's choice (log entry 37). -/
def Obligations.BandStages : Prop :=
  ∀ (s : State), s.chip.domainRuns 3 = true →
    let c : Chip := { s.chip with out := [] }
    (∀ flips fb, (s.chip.ie.bands.find? fun x => x.compared && !x.loaded && !x.joinWait
        && x.slices.any fun y => y.st == .waiting) = some fb →
      (s.chip.fband ((fb.band.bseq + 2 ^ 32 - 1) % 2 ^ 32) = none →
        Does (.ringBandLoaded flips) s fun t => t.ie.ring.length ≤ 64
          ∧ ∃ x ∈ t.ie.bands, x.band.bseq = fb.band.bseq ∧ x.loaded = true)
      ∧ ∀ prev, s.chip.fband ((fb.band.bseq + 2 ^ 32 - 1) % 2 ^ 32) = some prev → prev.rep = fb.rep → prev.loaded = true →
          8 < (c.flip flips).bandCentre fb.band.bank fb.band.width fb.band.ty - prev.pc → fb.waited = false →
          (prev.slices.any fun y => y.st == .waiting || y.st == .running) = true →
        Does (.ringBandLoaded flips) s fun t => t.ie.ring = s.chip.ie.ring
          ∧ t.f F.ieRingWaitCount = satAdd F.ieRingWaitCount.width (s.chip.f F.ieRingWaitCount) 1
          ∧ s.chip.Keeps t [R.ieRingWait])
    ∧ (∀ e flips w fb, e < 68 → s.chip.running? e = some w → w.fold = 0 → s.chip.fband w.bseq = some fb →
        w.strip < fb.slices.length →
      let r := ((c.flip flips).readRules fb w.strip).runSlice fb w.strip (s.chip.acqOf fb.band.bank == acqLocked)
      Does (.bandSliceComplete e flips) s fun t => t.running? e = none
        ∧ (∃ x, t.fband w.bseq = some x ∧ x.slices[w.strip]? = some r)
        ∧ t.f F.ieHoldCntCount = satAdd F.ieHoldCntCount.width (s.chip.f F.ieHoldCntCount)
          (r.regions.filter fun q => q.state == 2).length
        ∧ t.f F.ieReglostCntCount = satAdd F.ieReglostCntCount.width (s.chip.f F.ieReglostCntCount)
          (r.regions.filter fun q => q.state == 0).length)
    ∧ (∀ fb, s.chip.ie.bands = [fb] → fb.merged = false → fb.dig = none → fb.emitted = false → fb.colour = 0 →
      (s.chip.pair.joinDseq = false → (∀ y ∈ fb.slices, y.st = .done) →
        Does .blobMergerBand s fun t => t.f F.ieBandCntCount = satAdd F.ieBandCntCount.width (s.chip.f F.ieBandCntCount) 1
          ∧ t.f F.ieTileCntCount = satAdd F.ieTileCntCount.width (s.chip.f F.ieTileCntCount)
            (fb.slices.flatMap (·.tiles)).length
          ∧ ∃ x ∈ t.ie.bands, x.band.bseq = fb.band.bseq ∧ x.merged = true)
      ∧ ∀ e w, e < 68 → s.chip.running? e = some w → w.fold = 1 → w.bseq = fb.band.bseq →
        let last := fb.pieces.length + 1 = fb.slices.length
        (last → Does (.colourPieceComplete e) s fun t => t.running? e = none
          ∧ t.ie.bands = [{ fb with pieces := fb.pieces ++ [w.strip], colour := 1 }])
        ∧ (¬last → Does (.colourPieceComplete e) s fun t => t.running? e = none
          ∧ t.ie.bands = [{ fb with pieces := fb.pieces ++ [w.strip] }]))
    ∧ ∀ e w fb, e < 68 → s.chip.running? e = some w → w.fold = 2 → s.chip.fband w.bseq = some fb →
      (∀ flips, w.kind = 0 → Does (.productPieceComplete ⟨e, flips⟩) s fun t => t.running? e = none
        ∧ t.ssp.caps = s.chip.ssp.caps)
      ∧ (∀ flips, w.kind = 1 → Does (.productPieceComplete ⟨e, flips⟩) s fun t => t.running? e = none
        ∧ t.ssp.caps = s.chip.ssp.caps ++ w.tiles.map fun tx =>
          ⟨w.bseq, w.strip, fb.band.ty, tx, false, tileImage fb.band.rows tx⟩)
      ∧ (w.kind = 2 → s.chip.ecc = [] → Does (.productPieceComplete ⟨e, []⟩) s fun t => t.running? e = none
        ∧ t.ssp.caps = s.chip.ssp.caps ++ w.tiles.map fun tx =>
          ⟨w.bseq, w.strip, fb.band.ty, tx, true, s.chip.tileReference fb.band.bank fb.bad (s.chip.tilePos fb.band tx)⟩)

/-- Units and frames (R266, R277, R278, R279, R283 to R285): a unit of streams 2 to 5 takes one PSEQ a packet, sent or
dropped; the first ready packet in the order of the streams leaves, behind PTP and SCP, where SSP_PACE lets it, padded and closed with its
FCS (R263, R300); the mate's PSEQ message is kept, and the first unit of a new bank takes its value from the message for its band, or
waits no longer; the mate's colour status sends or withholds what was held. The model's choices: the layout of the frame (log
entry 14), what fills a buffer, how SSP_PACE averages and that a dropped packet takes its number (log entry 41), and which
message answers for a band and whose wait ends (log entry 56). -/
def Obligations.StreamOutput : Prop :=
  ∀ s : State,
    (∀ k u, s.chip.domainRuns 3 = true → 1 < k → k < 6 → (s.chip.ssp.units.find? fun x => x.stream == k) = some u →
        s.chip.ssp.waitSync.contains k = false → s.chip.ssp.oweSync.contains k = false → s.chip.pair.joinDseq = false →
        u.held = false →
      let n := u.pkts.length
      let pseq := s.chip.f (F.sspPseqPseq k)
      let live := (u.pkts.map fun p => p.data.length).sum
      (s.chip.sspRoom k live = true → Does (.sspUnitForm k) s fun t => t.f (F.sspPseqPseq k) = (pseq + n) % 2 ^ 32
        ∧ t.ssp.units = s.chip.ssp.units.erase u
        ∧ t.ssp.ready = s.chip.ssp.ready ++ u.pkts.zipIdx.map fun p =>
          ⟨k, u.bank, s.chip.sspPacket u p.1 ((pseq + p.2) % 2 ^ 32) (p.2 == 0) (p.2 + 1 == n), false, none⟩)
      ∧ (s.chip.sspRoom k live = false → 0 < n → Does (.sspUnitForm k) s fun t =>
        t.f (F.sspPseqPseq k) = (pseq + n) % 2 ^ 32 ∧ t.ssp.ready = s.chip.ssp.ready ∧ t.f F.sspEvtObufFull = 1
          ∧ t.f F.sspEvtDrop = 1
          ∧ t.f (F.sspDropCount k) = satAdd (F.sspDropCount k).width (s.chip.f (F.sspDropCount k)) n))
    ∧ (∀ p, s.chip.domainRuns 3 = true → s.chip.scpFirst = false → s.chip.ulIsUp = true → s.chip.fb F.fcStatWithdrawn = false →
        ([3, 5, 4, 2, 1, 0].filterMap fun k => s.chip.ssp.ready.find? fun x => x.stream == k).find? s.chip.pktReady = some p →
        s.chip.paceOk (s.chip.sspFrame p) = true →
      Does .sspFrameSend s fun t => t.out = [.ulFrame (sealFrame (s.chip.sspFrame p))] ∧ t.ssp.ready = s.chip.ssp.ready.erase p
        ∧ t.f (F.sspTxCount p.stream) = satAdd (F.sspTxCount p.stream).width (s.chip.f (F.sspTxCount p.stream)) 1)
    ∧ (∀ pk, s.chip.domainRuns 4 = true → s.chip.Hears 0x08 pk →
      Does (.sspPseqRx pk) s fun t => t.ssp.pseqMsgs = (s.chip.ssp.pseqMsgs ++ [(fieldBE pk.bytes 8 4,
          (List.range 6).map fun k => fieldBE pk.bytes (12 + 4 * k) 4)]).drop (s.chip.ssp.pseqMsgs.length + 1 - 12)
        ∧ t.ssp.waitSync = s.chip.ssp.waitSync ∧ s.chip.Keeps t [R.plMsgLost])
    ∧ (∀ k u, s.chip.domainRuns 3 = true → 1 < k → k < 6 → (s.chip.ssp.units.find? fun x => x.stream == k) = some u →
        s.chip.ssp.waitSync = [k] → u.bank = s.chip.actBank → s.chip.ssp.oweSync.contains k = false →
        s.chip.pair.joinDseq = false → u.held = false →
        s.chip.sspRoom k (u.pkts.map fun p => p.data.length).sum = true →
      let found := (s.chip.ssp.pseqMsgs.filter fun p => p.1 == u.first).getLast?
      (found = none → Does (.sspUnitForm k) s fun t => t.ssp = s.chip.ssp ∧ s.chip.Keeps t [])
      ∧ ∀ m vals, found = some (m, vals) → vals.getD k 0 < 2 ^ 32 →
        Does (.sspUnitForm k) s fun t => t.ssp.waitSync = []
          ∧ t.f (F.sspPseqPseq k) = (vals.getD k 0 + u.pkts.length) % 2 ^ 32
          ∧ (vals.getD k 0 ≠ s.chip.f (F.sspPseqPseq k) → t.f F.sspEvtSync = 1 ∧ ⟨0x85, k, false⟩ ∈ t.reports
            ∧ t.f F.sspSyncCntCount = satAdd F.sspSyncCntCount.width (s.chip.f F.sspSyncCntCount) 1))
    ∧ (∀ u, s.chip.domainRuns 3 = true →
        (s.chip.ssp.units.find? fun x => x.bank == s.chip.actBank && s.chip.ssp.waitSync.contains x.stream) = some u →
      Does .sspPseqWaitTimeout s fun t => t.ssp.waitSync = s.chip.ssp.waitSync.filter (· != u.stream) ∧ s.chip.Keeps t [])
    ∧ (∀ pk, s.chip.domainRuns 4 = true → s.chip.Hears 0x09 pk →
      let trig := fieldBE pk.bytes 8 4
      (fieldBE pk.bytes 12 1 = 1 → Does (.pairCstatRx pk) s fun t => t.ssp.ready = (s.chip.ssp.ready.map fun p =>
          if p.hold = some trig then { p with hold := none } else p) ∧ s.chip.Keeps t [R.plMsgLost])
      ∧ (fieldBE pk.bytes 12 1 ≠ 1 → Does (.pairCstatRx pk) s fun t =>
        t.ssp.ready = (s.chip.ssp.ready.filter fun p => p.hold != some trig)
          ∧ t.f F.sspWithheldCount = satAdd F.sspWithheldCount.width (s.chip.f F.sspWithheldCount)
            (s.chip.ssp.ready.filter fun p => p.hold == some trig).length))
    ∧ ∀ q, s.chip.domainRuns 3 = true → (s.chip.ssp.ready.find? fun p => p.hold.isSome) = some q →
      Does .cstatWaitTimeout s fun t => (t.ssp.ready = s.chip.ssp.ready.map fun p =>
        if p.hold = q.hold then { p with hold := none } else p) ∧ s.chip.Keeps t []

/-- Staging a job (R225 to R228): LOAD takes SST to LOADING with the staged bank at its reset values where the profile has no
RESIDENT section, and its end takes SST back to OPEN; a verify takes a unit, compares the CRC-32C of the region unless an
event has spoilt it, and frees the unit; a write that lands spoils the results of the regions it lies in and lets a
post-package repair that waited for its channel start. -/
def Obligations.JobStaging : Prop :=
  ∀ (s : State) (src : Src) (v : Word),
    let c : Chip := { s.chip with out := [] }
    let u := s.chip.f F.jobVcfgCvu
    (s.chip.Allows src R.jobCmd (force F.jobCmdOp 1 v) →
      Does (.jobLoad src v) s fun t => t.f F.jobStatSst = sstLoading ∧ t.f F.jobArmProf = getBits v 0 5
        ∧ t.f F.jobVstatRefOk = 0 ∧ t.f F.jobVstatRuleOk = 0 ∧ t.out = [.status 0]
        ∧ ((profileSects s.chip.boot.img (getBits v 0 5)).filter Sect.resident = [] →
          ∀ a x, bankOf a = some (s.chip.staged, x) → t.rd a = resetVal a))
    ∧ (∀ data, s.chip.domainRuns 3 = true → s.chip.sst = sstLoading →
      Does (.jobLoadComplete data) s fun t => t.f F.jobStatSst = sstOpen ∧ t.f F.jobEvtLoaded = 1
        ∧ t.f F.jobArmProf = s.chip.f F.jobArmProf ∧ t.f F.jobVstatRefOk = 0 ∧ t.f F.jobVstatRuleOk = 0)
    ∧ (s.chip.Allows src R.jobCmd (force F.jobCmdOp 2 v) →
      Does (.jobVerifyRef src v) s fun t => t.f F.jobVstatBusy = 1 ∧ t.f F.jobVstatTgt = 0 ∧ t.f F.jobVstatPct = 0
        ∧ t.f (F.cvuStatOwner u) = 3 ∧ t.job.verBad = false ∧ t.out = [.status 0])
    ∧ (s.chip.Allows src R.jobCmd (force F.jobCmdOp 3 v) →
      Does (.jobVerifyRule src v) s fun t => t.f F.jobVstatBusy = 1 ∧ t.f F.jobVstatTgt = 1 ∧ t.f F.jobVstatPct = 0
        ∧ t.f (F.cvuStatOwner u) = 3 ∧ t.job.verBad = false ∧ t.out = [.status 0])
    ∧ (s.chip.domainRuns 3 = true → s.chip.fb F.jobVstatBusy = true →
      (s.chip.fb F.jobVstatTgt = false →
        let r := s.chip.refRegion s.chip.staged
        let ok := (c.verifyCrc r.1 r.2).2 = s.chip.rd R.jobRefCrc
        Does .jobVerifyComplete s fun t => t.f F.jobVstatBusy = 0 ∧ t.f F.jobVstatPct = 100 ∧ t.f F.jobEvtVerifyDone = 1
          ∧ (t.f F.jobVstatRefOk = 1 ↔ ok ∧ s.chip.job.verBad = false)
          ∧ (t.f F.jobVstatRefFail = 1 ↔ ¬ok ∧ s.chip.job.verBad = false))
      ∧ (s.chip.fb F.jobVstatTgt = true →
        let r := s.chip.ruleRegion s.chip.staged
        let ok := (c.verifyCrc r.1 r.2).2 = s.chip.rd R.jobRuleCrc
        Does .jobVerifyComplete s fun t => t.f F.jobVstatBusy = 0 ∧ t.f F.jobVstatPct = 100 ∧ t.f F.jobEvtVerifyDone = 1
          ∧ (t.f F.jobVstatRuleOk = 1 ↔ ok ∧ s.chip.job.verBad = false)
          ∧ (t.f F.jobVstatRuleFail = 1 ↔ ¬ok ∧ s.chip.job.verBad = false)))
    ∧ ∀ ref rule chans by_ rest, s.chip.domainRuns 3 = true → s.chip.job.pend = ⟨ref, rule, chans, by_⟩ :: rest →
      Does .jobWriteLanded s fun t => t.job.pend = rest ∧ t.f F.jobWrPendCount = min rest.length 65535
        ∧ (ref = true → t.f F.jobVstatRefOk = 0 ∧ t.f F.jobVstatRefFail = 0)
        ∧ (rule = true → t.f F.jobVstatRuleOk = 0 ∧ t.f F.jobVstatRuleFail = 0)
        ∧ (∀ n < 6, (s.chip.mc n).pprWait ≠ 0 → (∀ p ∈ rest, p.chans.contains n = false) → n < s.chip.mcs.length →
          (t.mc n).ppr = (s.chip.mc n).pprWait ∧ (t.mc n).pprWait = 0)
        ∧ s.chip.Keeps t [R.jobWrPend, R.jobVstat]

/-- Arming and the commit (R225, R229 to R231, R234): ARM answers the status of the first step that fails, with the step in
JOB_CHK; where all pass it forms the arming digest and enters ARMED, in single mode or without a mate that is present, and a
START commits at once; beside a mate it enters PAIRING and sends the digest, and a digest of the mate's that has come before
decides at once; DISARM opens the bank. The host trigger that is a repeat mark in DECIDED commits: the other bank is active,
every block keeps the old one busy, and the trigger is the first of the new job; a decided stop takes effect there instead. The
model's choices: ARM outside OPEN fails step 1 with 0x04 (log entry 40). -/
def Obligations.JobArming : Prop :=
  ∀ (s : State) (src : Src) (v : Word),
    let steps := s.chip.armStep2 = true ∧ s.chip.armStep3 = true ∧ s.chip.armStep4 = true
      ∧ (s.chip.sums s.chip.staged (s.chip.f (F.sspPselProd s.chip.staged)) (s.chip.fmax s.chip.staged)).fails = 0
    let fails := fun (status step : Nat) (t : Chip) => t.out = [.status status] ∧ t.f F.jobEvtArmFail = 1
      ∧ t.rd R.jobChk = BitVec.ofNat 32 (status * 2 ^ 24 + step * 2 ^ 20) ∧ t.rd R.jobStat = s.chip.rd R.jobStat
    (s.chip.Allows src R.jobCmd (force F.jobCmdOp 4 v) → s.chip.besideServer = false →
      (s.chip.armStep1 ≠ 0 → Does (.jobArm src v) s (fails s.chip.armStep1 1))
      ∧ (s.chip.armStep1 = 0 → s.chip.fb F.jobArmStop = false →
        (s.chip.armStep2 = false → Does (.jobArm src v) s (fails 0x03 2))
        ∧ (s.chip.armStep2 = true → s.chip.armStep3 = false → Does (.jobArm src v) s (fails 0x04 3))
        ∧ (s.chip.armStep2 = true → s.chip.armStep3 = true → s.chip.armStep4 = false →
          Does (.jobArm src v) s (fails 0x07 4)))
      ∧ (s.chip.armStep1 = 0 → s.chip.pairMode = false → s.chip.fb F.jobArmStop = true ∨ steps →
        (s.chip.f F.jobArmTarget ≠ 2 → Does (.jobArm src v) s fun t => t.f F.jobStatSst = sstArmed
          ∧ t.f F.jobEvtArmed = 1 ∧ t.rd R.jobDigest = s.chip.armDigest ∧ t.rd R.jobChk = 0#32 ∧ t.out = [.status 0])
        ∧ (s.chip.f F.jobArmTarget = 2 → Does (.jobArm src v) s fun t => t.f F.jobStatSst = sstOpen
          ∧ t.f F.jobStatRun = 1 ∧ t.f F.jobStatActBank = s.chip.staged ∧ t.f F.jobEvtCommit = 1
          ∧ t.f F.jobStatProfAct = s.chip.f F.jobArmProf ∧ t.f F.csDseqDseq = 0 ∧ t.out = [.status 0]))
      ∧ (s.chip.armStep1 = 0 → s.chip.pairMode = true → s.chip.fb F.jobArmStop = true ∨ steps →
        (s.chip.matePresent = false → s.chip.f F.jobArmTarget ≠ 2 → Does (.jobArm src v) s fun t =>
          t.f F.jobStatSst = sstArmed ∧ t.f F.jobStatSolo = 1 ∧ t.f F.jobEvtArmed = 1 ∧ t.rd R.jobDigest = s.chip.armDigest
            ∧ .status 0 ∈ t.out)
        ∧ (s.chip.matePresent = true →
          let d := s.chip.armDigest.toNat
          (s.chip.job.mateDig = none → Does (.jobArm src v) s fun t => t.f F.jobStatSst = sstPairing ∧ t.f F.jobStatSolo = 0
            ∧ t.rd R.jobDigest = s.chip.armDigest ∧ t.pair.resend = some (0x03, d)
            ∧ t.out = [.packet 8 (mkPacket 8 (natBytesBE 1 3 ++ natBytesBE 1 0 ++ natBytesBE 2 s.chip.pair.mseq
                ++ (natBytesBE 4 d ++ natBytesBE 4 0))), .status 0])
          ∧ ∀ m at_, s.chip.job.mateDig = some (m, at_) → s.chip.nowNs < at_ + 1000000 * s.chip.f F.jobPairCfgTmo →
            (m = d → s.chip.f F.jobArmTarget ≠ 2 → Does (.jobArm src v) s fun t => t.f F.jobStatSst = sstArmed
              ∧ t.f F.jobEvtArmed = 1 ∧ t.job.mateDig = none ∧ .status 0 ∈ t.out)
            ∧ (m ≠ d → Does (.jobArm src v) s fun t => t.f F.jobStatSst = sstOpen ∧ t.f F.jobEvtArmFail = 1
              ∧ t.rd R.jobChk = BitVec.ofNat 32 (0x0A * 2 ^ 24 + 6 * 2 ^ 20) ∧ t.job.mateDig = none ∧ .status 0 ∈ t.out))))
    ∧ (s.chip.Allows src R.cmtHost (force F.cmtHostOp 1 v) → s.chip.domainRuns 2 = true → s.chip.issues = true →
        s.chip.sst = sstDecided → s.chip.fb (F.ieJcfgFidEn s.chip.actBank) = false → s.chip.cmt.events ≠ [] →
        s.chip.f (F.cmtTcfgSrc s.chip.actBank) ≠ 0 →
        (∀ l, s.chip.cmt.lastMark = some l → s.chip.f (F.ieRepLinesRepLines s.chip.actBank)
          ≤ 2 * ((s.chip.f F.cmtNextIdId + 2 ^ 32 - l) % 2 ^ 32)) →
      let id := s.chip.f F.cmtNextIdId
      let onTime := fun (b : Nat) => ∀ p, s.chip.cmt.txPrev = some p →
        p + s.chip.tMin b ≤ s.chip.nowNs + s.chip.f (F.cmtTdlyTrigDly b)
      (s.chip.fb F.jobArmStop = false → onTime s.chip.staged → Does (.cmtHostTrigger src v) s fun t =>
        t.f F.jobStatActBank = s.chip.staged ∧ t.f F.jobStatRun = 1 ∧ t.f F.jobStatSst = sstOpen
          ∧ t.f F.jobStatProfAct = s.chip.f F.jobArmProf ∧ t.f F.jobEvtCommit = 1 ∧ t.f F.jobCommitTrigTrig = id
          ∧ t.f F.plActDigestDigest = s.chip.f F.jobDigestDigest ∧ t.f F.csDseqDseq = 0
          ∧ (∀ n < 8, t.f (F.feStatOldBusy n) = 1 ∧ t.f (F.feStatBankAct n) = s.chip.staged)
          ∧ t.f F.stcStatOldBusy = 1 ∧ t.f F.ieStatOldBusy = 1 ∧ t.f F.csStatOldBusy = 1 ∧ t.f F.sspStatOldBusy = 1
          ∧ t.f F.stcStatBankAct = s.chip.staged ∧ t.f F.ieStatBankAct = s.chip.staged ∧ t.f F.csStatBankAct = s.chip.staged
          ∧ t.f F.sspStatBankAct = s.chip.staged ∧ t.job.ts = some id ∧ t.f F.cmtNextIdId = (id + 1) % 2 ^ 32
          ∧ (∃ e, t.logEntry id = some e ∧ e.mark = true ∧ e.bank = s.chip.staged))
      ∧ (s.chip.fb F.jobArmStop = true → onTime s.chip.actBank → Does (.cmtHostTrigger src v) s fun t =>
        t.f F.jobStatRun = 0 ∧ t.f F.jobStatSst = sstOpen ∧ t.f F.jobStatActBank = s.chip.actBank ∧ t.job.stopping = true
          ∧ t.f F.jobCommitTrigTrig = id ∧ t.f F.cmtNextIdId = id ∧ t.log = s.chip.log
          ∧ (∀ n < 8, t.f (F.linkCtrlExpected n) = 0)))
    ∧ (s.chip.Allows src R.jobCmd (force F.jobCmdOp 5 v) →
      Does (.jobDisarm src v) s fun t => t.f F.jobStatSst = sstOpen ∧ t.f F.shpNeedNeedStg = 0 ∧ t.out = [.status 0]
        ∧ t.f F.jobStatActBank = s.chip.f F.jobStatActBank ∧ t.f F.jobStatRun = s.chip.f F.jobStatRun)

/-- The agreement of the mates and the decision (R225, R230, R232, R233, R454) and the end of a stop (R234). That a DECIDE with HOLD
and HOLD_REASON 0 leaves code 1 is the model's choice (log entry 40). -/
def Obligations.JobAgreement : Prop :=
  ∀ (s : State) (pk : RxPkt), s.chip.domainRuns 4 = true →
    let fails := fun (t : Chip) => t.f F.jobStatSst = sstOpen ∧ t.f F.jobEvtArmFail = 1
      ∧ t.rd R.jobChk = BitVec.ofNat 32 (0x0A * 2 ^ 24 + 6 * 2 ^ 20)
    let holds := fun (code : Nat) (t : Chip) => t.f F.jobStatHoldReason = code ∧ t.f F.jobStatSst = s.chip.sst
      ∧ t.f F.jobEvtPostpone = 1
      ∧ t.f F.jobPostponeCntCount = satAdd F.jobPostponeCntCount.width (s.chip.f F.jobPostponeCntCount) 1
    let goes := fun (t : Chip) => t.f F.jobStatHoldReason = 0 ∧ t.f F.jobStatSst = sstDecided
    (s.chip.Hears 0x03 pk →
      let d := fieldBE pk.bytes 8 4
      (s.chip.sst ≠ sstPairing → Does (.pairDigestRx pk) s fun t => t.job.mateDig = some (d, s.chip.nowNs)
        ∧ s.chip.Keeps t [R.plMsgLost])
      ∧ (s.chip.sst = sstPairing → d = s.chip.f F.jobDigestDigest → s.chip.f F.jobArmTarget ≠ 2 →
        Does (.pairDigestRx pk) s fun t => t.f F.jobStatSst = sstArmed ∧ t.f F.jobEvtArmed = 1)
      ∧ (s.chip.sst = sstPairing → d ≠ s.chip.f F.jobDigestDigest → Does (.pairDigestRx pk) s fails))
    ∧ (∀ k d, s.chip.pair.resend = some (k, d) → s.chip.pairMode = true → s.chip.linkSt 8 = lkActive →
      Does .pairDigestResend s fun t => t.out = [.packet 8 (mkPacket 8 (natBytesBE 1 k ++ natBytesBE 1 0
        ++ natBytesBE 2 s.chip.pair.mseq ++ (natBytesBE 4 d ++ natBytesBE 4 0)))] ∧ s.chip.Keeps t [])
    ∧ (s.chip.domainRuns 3 = true → s.chip.sst = sstPairing → Does .jobPairTimeout s fails)
    ∧ (s.chip.Hears 0x04 pk →
      let td := fieldBE pk.bytes 8 4
      (s.chip.job.waiting = none → Does (.pairVerdictRx pk) s fun t =>
        t.job.verdict = some (td, if fieldBE pk.bytes 12 1 = 0 then 0 else 3) ∧ s.chip.Keeps t [R.plMsgLost])
      ∧ ∀ own, s.chip.job.waiting = some (td, own) → own < 16 → s.chip.sst = sstArmed →
        (own = 0 → fieldBE pk.bytes 12 1 = 0 → Does (.pairVerdictRx pk) s goes)
        ∧ (own = 0 → fieldBE pk.bytes 12 1 ≠ 0 → Does (.pairVerdictRx pk) s (holds 3))
        ∧ (own ≠ 0 → Does (.pairVerdictRx pk) s (holds own)))
    ∧ (∀ td own, s.chip.domainRuns 3 = true → s.chip.job.waiting = some (td, own) → own < 16 → s.chip.pairId = 0 →
        s.chip.sst = sstArmed → Does .pairVerdictTimeout s (holds (if own ≠ 0 then own else 4)))
    ∧ (∀ own, s.chip.Hears 0x05 pk → s.chip.job.waiting = some (fieldBE pk.bytes 8 4, own) → own < 16 →
        s.chip.sst = sstArmed →
      (fieldBE pk.bytes 12 1 = 0 → Does (.pairDecideRx pk) s goes)
      ∧ (fieldBE pk.bytes 12 1 ≠ 0 → fieldBE pk.bytes 13 1 < 16 →
        Does (.pairDecideRx pk) s (holds (if own ≠ 0 then own else max 1 (fieldBE pk.bytes 13 1)))))
    ∧ ∀ b, b = (if s.chip.running then s.chip.staged else s.chip.actBank) →
         s.chip.domainRuns 3 = true → s.chip.job.stopping = true → s.chip.bankInStc b = false →
           (∀ fb ∈ s.chip.ie.bands, fb.band.bank = b → fb.merged = true ∧ fb.out4 = true) →
           (∀ x ∈ s.chip.ssp.units, x.bank ≠ b) → (∀ x ∈ s.chip.ssp.ready, x.bank ≠ b) →
           (∀ n < 8, (s.chip.fe n).uses b = false) →
         Does .jobStopComplete s fun t => t.job.stopping = false ∧ t.f F.jobEvtStopped = 1 ∧ s.chip.Keeps t [R.jobEvt]

/-- In-flight disables and products (R237 to R239): a port disabled in flight gets T_off, 64 triggers past the newest; the
mate's T_off is taken, or the newest trigger where it has passed; a mask of products takes effect at a band, a bit cleared
runs the checks of R41 first, and both mates use the larger bound. -/
def Obligations.FlightChanges : Prop :=
  ∀ (s : State) (src : Src) (pk : RxPkt),
    let newest := s.chip.newestTrig
    (∀ n, n < 8 → n < s.chip.job.tOff.length → s.chip.Allows src R.jobPortOff (BitVec.ofNat 32 (2 ^ n)) →
        s.chip.job.tOff.getD n none = none → s.chip.job.offDone.contains n = false →
        (∀ l, (s.chip.fe n).lastClosed = some l → sdiff32 l ((newest + 64) % 2 ^ 32) < 0) →
      Does (.jobPortOffWrite src (BitVec.ofNat 32 (2 ^ n))) s fun t =>
        t.job.tOff.getD n none = some ((newest + 64) % 2 ^ 32) ∧ t.f ⟨R.jobPortOff, n, 1⟩ = 1 ∧ .status 0 ∈ t.out)
    ∧ (s.chip.domainRuns 4 = true → s.chip.Hears 0x06 pk → s.chip.running = true →
      let n := fieldBE pk.bytes 8 1
      let mate := fieldBE pk.bytes 12 4
      n < 8 → n < s.chip.job.tOff.length → s.chip.job.tOff.getD n none = none → s.chip.job.offDone.contains n = false →
        (s.chip.fe n).lastClosed = none →
      (sdiff32 newest mate < 0 → Does (.pairPortoffRx pk) s fun t => t.job.tOff.getD n none = some mate
        ∧ t.f ⟨R.jobPortOff, n, 1⟩ = 1 ∧ s.chip.Keeps t [R.jobPortOff, R.plMsgLost])
      ∧ (0 ≤ sdiff32 newest mate → Does (.pairPortoffRx pk) s fun t => t.job.tOff.getD n none = some newest
        ∧ t.f ⟨R.jobPortOff, n, 1⟩ = 1 ∧ ⟨0x80, 2, false⟩ ∈ t.reports))
    ∧ (∀ v, s.chip.Allows src R.jobProdOff v →
      let mask := getBits v 0 5
      let kept := ∀ k < 5, (s.chip.f F.jobProdOffProd).testBit k = true → mask.testBit k = true
      let sel := (List.range 5).foldl (fun a k =>
        if (s.chip.f (F.sspPselProd s.chip.actBank)).testBit k && !mask.testBit k then a + 2 ^ k else a) 0
      let sums := s.chip.sums s.chip.actBank sel (s.chip.fmax s.chip.actBank)
      (kept ∨ sums.fails = 0 → Does (.jobProdOffWrite src v) s fun t => t.f F.jobProdOffProd = mask
        ∧ t.job.masks = s.chip.job.masks ++ [(s.chip.actBank, s.chip.prodBound.1, mask)] ∧ .status 0 ∈ t.out)
      ∧ (¬kept → sums.fails ≠ 0 → Does (.jobProdOffWrite src v) s fun t => t.f F.jobProdOffProd = s.chip.f F.jobProdOffProd
        ∧ t.job.masks = s.chip.job.masks ∧ t.out = [.status 0x06] ∧ t.f F.jobChkStatus = 0x06))
    ∧ (s.chip.domainRuns 4 = true → s.chip.Hears 0x07 pk → s.chip.running = true →
      let mask := fieldBE pk.bytes 8 1 % 32
      let bound := fun (b own : Nat) =>
        let later := sdiff32 (fieldBE pk.bytes 12 4) own
        if 0 < later then (b + (later.toNat + 15) / 16) % 2 ^ 32 else b
      ((∀ x, s.chip.job.prodSent = some x → x.1 ≠ mask) →
        Does (.pairProdoffRx pk) s fun t => t.f F.jobProdOffProd = mask
          ∧ t.job.masks = s.chip.job.masks
              ++ [(s.chip.actBank, bound s.chip.prodBound.1 s.chip.prodBound.2, mask)])
      ∧ ∀ b own, s.chip.job.prodSent = some (mask, b, own) →
        Does (.pairProdoffRx pk) s fun t => t.job.prodSent = none
          ∧ t.job.masks = s.chip.job.masks.map (fun e =>
              if e = (s.chip.actBank, b, mask) then (s.chip.actBank, bound b own, mask) else e)
          ∧ s.chip.Keeps t [R.plMsgLost])

/-- The Shepherd (R242, R247, R248, R250 to R252, R254, R257, R259, R443, R444): the epoch refills the account and begins new
power sums; a step change ends; readings are taken, or the sensor fails; an item starts on its engine and is charged; an
item past its deadline drops; limits; and tests, pieces and parity errors of engines. Ties, floored averages and the windows by
which Fold 2 items drop are the model's choices (log entry 36). -/
def Obligations.Shepherd : Prop :=
  ∀ s : State, s.chip.domainRuns 3 = true → s.chip.shp.clusters.length = 4 →
    (∀ a : Int, a = ((s.chip.f F.shpBudgetWWatts - s.chip.f F.shpBaseWWatts : Nat) : Int) * 100000 →
      Does .shpEpoch s fun t => t.shp.rem = min (s.chip.shp.rem + a) (2 * a)
        ∧ ∀ k < 4, (t.cluster k).pwCnt = 0 ∧ (t.cluster k).pwSum = 0 ∧ (t.cluster k).charged = 0)
    ∧ (∀ k < 4, (s.chip.cluster k).fromStep ≠ none →
        s.chip.enough (s.chip.stepsWith k (s.chip.stepOf k)) = true →
      Does (.clusterStepComplete k) s fun t => (t.cluster k).fromStep = none
        ∧ s.chip.Keeps t (R.shpCap :: (List.range 4).map R.shpCStat))
    ∧ (∀ k < 4, ∀ j < 4, (s.chip.cluster k).badRun.length = 4 → (s.chip.cluster k).seen.length = 4 →
        (s.chip.cluster k).badRun.getD j none = none →
      (∀ x : Int, -880 ≤ x → x ≤ 2800 → Does (.shpSensorReading k j (some x)) s fun t => t.fs (tempField k j) = x
        ∧ (t.f (F.shpCStatValid k)).testBit j = true)
      ∧ Does (.shpSensorReading k j none) s fun t => t.f (tempField k j) = 0x8000
        ∧ (t.f (F.shpCStatValid k)).testBit j = false ∧ t.f F.shpEvtSensorFail = 1
        ∧ t.reports = s.chip.reports ++ [⟨0x40, k, false⟩])
    ∧ (∀ k < 4, ∀ mw : Int, (0 ≤ mw → mw ≤ 80000 → Does (.shpPowerReading k mw) s fun t =>
        (t.cluster k).pwSum = (s.chip.cluster k).pwSum + mw.toNat ∧ (t.cluster k).pwCnt = (s.chip.cluster k).pwCnt + 1
          ∧ s.chip.Keeps t [])
      ∧ (mw < 0 ∨ 80000 < mw → (s.chip.cluster k).reported = false → Does (.shpPowerReading k mw) s fun t =>
        (t.cluster k).pwBad = true ∧ t.f F.shpEvtSensorFail = 1 ∧ t.reports = s.chip.reports ++ [⟨0x40, k, false⟩]))
    ∧ ((∀ w ∈ s.chip.shp.queue, s.chip.eligible w = false) → Does .shpDispatch s fun t => t.shp = s.chip.shp
        ∧ s.chip.Keeps t [])
    ∧ (∀ w e, s.chip.shp.queue = [w] → w.fold = 0 → s.chip.eligible w = true → s.chip.placeFor w = some e →
      Does .shpDispatch s fun t => t.shp.queue = [] ∧ t.shp.run = s.chip.shp.run ++ [(e, w)]
        ∧ t.shp.rem = s.chip.shp.rem - (s.chip.itemCost w (e / 17) : Int)
        ∧ t.f (F.shpStartCount 0) = satAdd (F.shpStartCount 0).width (s.chip.f (F.shpStartCount 0)) 1)
    ∧ (∀ f w, f = 1 ∨ f = 2 → (s.chip.shp.queue.find? fun x => x.fold == f && s.chip.pastDeadline x) = some w →
      Does (.shpItemDeadlineDrop f) s fun t => t.shp.queue = s.chip.shp.queue.erase w
        ∧ t.f (F.shpDropCount (f - 1)) = satAdd (F.shpDropCount (f - 1)).width (s.chip.f (F.shpDropCount (f - 1))) 1
        ∧ s.chip.Keeps t [R.shpDrop (f - 1)])
    ∧ (∀ src v, ∀ k < 4, s.chip.Allows src (R.shpCLimit k) v →
      Does (.shpLimitWrite src k v) s fun t => t.f (F.shpCLimitLimit k) = getBits v 0 2 ∧ t.out = [.status 0]
        ∧ s.chip.Keeps t [R.shpCLimit k, R.scpSession])
    ∧ (∀ e < 68,
      ((s.chip.shp.tests.find? fun p => p.1 == e) = some (e, true) →
        Does (.spareTestComplete e true) s (fun t => t.engState e = engActive ∧ t.f F.shpEvtSpareIn = 1)
        ∧ Does (.spareTestComplete e false) s fun t => t.engState e = engRetired ∧ ⟨0x22, e, false⟩ ∈ t.reports)
      ∧ ((s.chip.shp.tests.find? fun p => p.1 == e) = some (e, false) →
        Does (.spareTestComplete e true) s (fun t => t.engState e = engSpare)
        ∧ Does (.spareTestComplete e false) s fun t => t.engState e = engRetired ∧ ⟨0x22, e, false⟩ ∈ t.reports)
      ∧ (∀ w, s.chip.running? e = some w → w.fold = 3 → w.kind = 0 → s.chip.shp.retiring.contains e = false →
        Does (.backgroundPieceComplete e false) s (fun t => t.running? e = none
          ∧ t.reports = s.chip.reports ++ [⟨0x21, e, false⟩] ∧ s.chip.Keeps t [])
        ∧ (1 < w.strip → s.chip.engState e = engActive →
          Does (.backgroundPieceComplete e true) s fun t => t.running? e = none
            ∧ t.shp.queue = s.chip.shp.queue ++ [{ w with strip := w.strip - 1, deferred := false }]
            ∧ s.chip.Keeps t []))
      ∧ (∀ w ok, s.chip.running? e = some w → w.fold = 3 → 1 < w.kind ∨ w.kind = 1 ∧ s.chip.scrubbable w.bseq = false →
          s.chip.shp.retiring.contains e = false →
        Does (.backgroundPieceComplete e ok) s fun t => t.running? e = none ∧ t.shp.queue = s.chip.shp.queue
          ∧ s.chip.Keeps t [])
      ∧ (s.chip.engState e = engActive ∨ s.chip.engState e = engTesting →
        Does (.engineParityError e) s fun t => t.reports = s.chip.reports ++ [⟨0x21, e, false⟩] ∧ s.chip.Keeps t []))

/-- The uplink's states (R293, R294, R295, R296, R297): EN starts and ends the link; agreement, training and alignment with their
time-outs; the loss of alignment; a spare retrain from its start or refusal to its end; the retry; and lane degradation. -/
def Obligations.UplinkStates : Prop :=
  ∀ (s : State) (src : Src) (v : Word), s.chip.domainRuns 5 = true →
    let an := if s.chip.fb F.ulCtrlAnEn then 1 else 3
    (s.chip.Allows src R.ulCtrl (force F.ulCtrlEn 1 v) → s.chip.fb F.ulCtrlEn = false → s.chip.ulSt = 0 →
      Does (.ulEnSet src v) s fun t => t.ulSt = (if bitAt v 26 then 1 else 3) ∧ .status 0 ∈ t.out
        ∧ (bitAt v 26 = true → .advertise (bitAt v 29) (getBits v 27 2) ∈ t.out))
    ∧ (s.chip.Allows src R.ulCtrl (force F.ulCtrlEn 0 v) → s.chip.ulSt ≠ 0 →
      Does (.ulEnClear src v) s fun t => t.ulSt = 0 ∧ t.retrain = none ∧ .status 0 ∈ t.out
        ∧ ∀ m < 9, s.chip.laneState 9 m ≠ lsTest → s.chip.laneState 9 m ≠ lsCond → t.laneState 9 m = lsOff)
    ∧ (s.chip.ulSt = 1 → Does .ulAnAgree s fun t => t.ulSt = 2 ∧ s.chip.Keeps t [R.ulStat])
    ∧ (s.chip.ulSt = 1 → Does .ulAnTimeout s fun t => t.ulSt = 6 ∧ t.f F.ulEvtAnFail = 1
        ∧ s.chip.Keeps t [R.ulStat, R.ulEvt])
    ∧ (s.chip.ulSt = 2 → Does .ulTrainComplete s fun t => t.ulSt = 3
        ∧ (∀ m < 9, t.f (F.lnTxeqAmp 9 m) = s.chip.f (F.lnTxeqAmp 9 m))
        ∧ s.chip.Keeps t (R.ulStat :: s.chip.ulLanes.flatMap fun m => [R.lnCtrl 9 m, R.lnTxeq 9 m]))
    ∧ (s.chip.ulSt = 2 → Does .ulTrainTimeout s fun t => t.ulSt = 6 ∧ t.f F.ulEvtAnFail = 1
        ∧ s.chip.Keeps t [R.ulStat, R.ulEvt])
    ∧ (s.chip.ulSt = 3 → Does .ulAlignLock s fun t => t.ulSt = 4 ∧ t.f F.ulEvtUp = 1
        ∧ (∀ m ∈ s.chip.ulLanes, m < 9 → s.chip.laneState 9 m = lsTrain → t.f (F.lnStateCdrLock 9 m) = 1)
        ∧ s.chip.Keeps t ([R.ulStat, R.ulEvt] ++ s.chip.ulLanes.map (R.lnState 9)))
    ∧ (s.chip.ulSt = 3 → Does .ulAlignTimeout s fun t => t.ulSt = 6 ∧ s.chip.Keeps t [R.ulStat])
    ∧ (s.chip.ulSt = 4 → Does .ulAlignLost s fun t => t.ulSt = 6 ∧ t.f F.ulEvtDown = 1 ∧ ⟨0x07, 0, false⟩ ∈ t.reports
        ∧ s.chip.Keeps t [R.ulStat, R.ulEvt, R.orbStat, R.orbEvt])
    ∧ (∀ m k cdr, s.chip.ulSt = 4 → m < 9 → s.chip.laneState 9 m = lsActive → s.chip.ulLanes.contains m = true → k < 8 → s.chip.mapOf 9 k = m →
        (∀ j < k, s.chip.mapOf 9 j ≠ m) →
      (s.chip.retrainPossible = true → s.chip.retrainAllowed k = true →
        Does (.ulLaneFailSpare m cdr) s fun t => t.ulSt = 5 ∧ t.f F.ulStatMap = k
          ∧ t.retrain = some ⟨k, m, if cdr then 3 else 2, 3⟩ ∧ t.rd (R.lnTxeq 9 8) = s.chip.rd (R.lnTxeq 9 m)
          ∧ t.fb (F.lnCtrlPrecodeTx 9 8) = s.chip.fb (F.lnCtrlPrecodeTx 9 m)
          ∧ t.fb (F.lnCtrlPrecodeRx 9 8) = s.chip.fb (F.lnCtrlPrecodeRx 9 m)
          ∧ t.f (if cdr then F.lnEvtCdrLol 9 m else F.lnEvtLos 9 m) = 1)
      ∧ (s.chip.retrainPossible = false ∨ s.chip.retrainAllowed k = false →
        Does (.ulLaneFailSpare m cdr) s fun t => t.ulSt = 6 ∧ t.f F.ulEvtDown = 1 ∧ ⟨0x07, 0, false⟩ ∈ t.reports
          ∧ t.f (if cdr then F.lnEvtCdrLol 9 m else F.lnEvtLos 9 m) = 1
          ∧ s.chip.Keeps t [R.ulStat, R.ulEvt, R.orbStat, R.orbEvt, R.lnEvt 9 m, R.lnState 9 m]))
    ∧ (s.chip.Allows src R.ulCtrl (force F.ulCtrlRetrain 1 v) → bitAt v 31 = true → s.chip.ulSt = 4 →
        s.chip.retrainPossible = true →
      (s.chip.retrainAllowed (getBits v 0 3) = true → Does (.ulRetrain src v) s fun t => t.ulSt = 5
        ∧ t.f F.ulStatMap = getBits v 0 3 ∧ t.retrain = some ⟨getBits v 0 3, s.chip.mapOf 9 (getBits v 0 3), 0, 3⟩)
      ∧ (s.chip.retrainAllowed (getBits v 0 3) = false → Does (.ulRetrain src v) s fun t => t.ulSt = 6
        ∧ t.f F.ulEvtDown = 1 ∧ ⟨0x07, 0, false⟩ ∈ t.reports))
    ∧ (∀ r, s.chip.retrain = some r → r.step = 3 →
      Does .ulSpareLaneLock s fun t => t.retrain = some { r with step := 4 } ∧ s.chip.Keeps t [])
    ∧ (∀ r, s.chip.retrain = some r → r.step = 4 → r.log < 8 → r.old < 9 → s.chip.ulSt = 5 →
      Does .ulSpareRetrainComplete s fun t => t.ulSt = 4 ∧ t.f F.ulEvtSpareDone = 1 ∧ t.mapOf 9 r.log = 8
        ∧ t.laneState 9 r.old = lsOff ∧ t.f (F.spareStatUnusable 9) = 1 ∧ t.retrain = none
        ∧ t.orb.retest = true)
    ∧ (∀ r, s.chip.retrain = some r → s.chip.ulSt = 5 →
      Does .ulSpareRetrainTimeout s fun t => t.ulSt = 6 ∧ t.f F.ulEvtSpareFail = 1
        ∧ ((∀ k < 8, s.chip.mapOf 9 k ≠ 8) → t.f F.ulStatMap = 0xF) ∧ t.retrain = none ∧ ∀ k < 8, t.mapOf 9 k = s.chip.mapOf 9 k)
    ∧ (s.chip.ulSt = 6 → Does .ulDownRetry s fun t => t.ulSt = an
        ∧ t.f F.ulDownCntCount = satAdd 32 (s.chip.f F.ulDownCntCount) 1
        ∧ ∀ m ∈ s.chip.ulLanes, m < 9 → s.chip.laneState 9 m = lsOff → t.laneState 9 m = lsTrain)
    ∧ ∀ m corr uncorr, m < 9 →
      let thr := s.chip.f F.ulLaneThrSymThr
      (thr = 0 ∨ corr ≤ thr → Does (.ulLaneDegrade m (corr, uncorr)) s fun t =>
        t.f F.ulFecCorrCount = satAdd 32 (s.chip.f F.ulFecCorrCount) corr
          ∧ t.f F.ulFecUncorrCount = satAdd 32 (s.chip.f F.ulFecUncorrCount) uncorr ∧ t.reports = s.chip.reports
          ∧ s.chip.Keeps t [R.ulFecCorr, R.ulFecUncorr])
      ∧ (thr ≠ 0 → thr < corr → s.chip.ulLanes.contains m = true → Does (.ulLaneDegrade m (corr, uncorr)) s fun t =>
        t.f F.ulFecCorrCount = satAdd 32 (s.chip.f F.ulFecCorrCount) corr
          ∧ t.f F.ulFecUncorrCount = satAdd 32 (s.chip.f F.ulFecUncorrCount) uncorr ∧ ⟨0x01, laneInst 9 m, false⟩ ∈ t.reports
          ∧ s.chip.Keeps t [R.ulFecCorr, R.ulFecUncorr])

/-- Received frames of the uplink (R290, R298, R299): a frame of the wrong FCS, a PAUSE frame and one of no class are each
counted apart and change nothing else; an ARP request and a Neighbor Solicitation for the device are answered with its MAC
address, in frames with the padding and check sequence, and the latter with the checksum over its message and the pseudo-header of
IPv6 (`inetSum`), of log entry 14. -/
def Obligations.UplinkFrames : Prop :=
  ∀ (s : State) (fr : UlFrame), s.chip.domainRuns 5 = true → s.chip.ulSt = 4 →
    let n := netOf fr
    let p := framePayload fr.bytes
    let advert := fun (sum : Nat) => natBytesBE 2 0x8800 ++ natBytesBE 2 sum ++ natBytesBE 4 0x60000000 ++ s.chip.ip6Bytes
      ++ natBytesBE 2 0x0201 ++ s.chip.macBytes
    (fr.fcsOk = false → Does (.ulFrameDrop fr) s fun t =>
      t.f F.ulRxFcsCount = satAdd 32 (s.chip.f F.ulRxFcsCount) 1 ∧ s.chip.Keeps t [R.ulRxFcs])
    ∧ (fr.fcsOk = true → n.etype = 0x8808 → Does (.ulFrameDrop fr) s fun t =>
      t.f F.ulRxPauseCount = satAdd 32 (s.chip.f F.ulRxPauseCount) 1 ∧ s.chip.Keeps t [R.ulRxPause])
    ∧ (fr.fcsOk = true → n.etype ≠ 0x8808 → 9212 < fr.bytes.length ∨ s.chip.frameClass fr = none →
      Does (.ulFrameDrop fr) s fun t =>
        t.f F.ulRxDropCount = satAdd 32 (s.chip.f F.ulRxDropCount) 1 ∧ s.chip.Keeps t [R.ulRxDrop])
    ∧ (fr.fcsOk = true → fr.bytes.length ≤ 9212 → s.chip.frameClass fr = some 3 →
      (n.etype = 0x0806 → Does (.arpRequestRx fr) s fun t =>
        t.out = [.ulFrame (sealFrame (s.chip.etherHead ((p.drop 8).take 6) ++ natBytesBE 2 0x0806 ++ natBytesBE 2 1
          ++ natBytesBE 2 0x0800 ++ natBytesBE 1 6 ++ natBytesBE 1 4 ++ natBytesBE 2 2 ++ s.chip.macBytes ++ s.chip.ip4Bytes
          ++ (p.drop 8).take 6 ++ (p.drop 14).take 4))]
        ∧ t.f F.ulRxFrmCount = satAdd 32 (s.chip.f F.ulRxFrmCount) 1
        ∧ t.f F.ulTxFrmCount = satAdd 32 (s.chip.f F.ulTxFrmCount) 1 ∧ s.chip.Keeps t [R.ulRxFrm, R.ulTxFrm])
      ∧ (n.etype = 0x86DD → Does (.ndSolicitationRx fr) s fun t =>
        t.out = [.ulFrame (sealFrame (s.chip.etherHead ((fr.bytes.drop 6).take 6) ++ natBytesBE 2 0x86DD
          ++ natBytesBE 4 0x60000000 ++ natBytesBE 2 32 ++ natBytesBE 2 0x3AFF ++ s.chip.ip6Bytes ++ (p.drop 8).take 16
          ++ advert (inetSum (s.chip.ip6Bytes ++ (p.drop 8).take 16 ++ natBytesBE 4 32 ++ natBytesBE 4 58 ++ advert 0))))]
        ∧ t.f F.ulRxFrmCount = satAdd 32 (s.chip.f F.ulRxFrmCount) 1
        ∧ t.f F.ulTxFrmCount = satAdd 32 (s.chip.f F.ulTxFrmCount) 1 ∧ s.chip.Keeps t [R.ulRxFrm, R.ulTxFrm]))

/-- Offset samples of PTP (R301, R308, R312, R314): a Sync, or a Follow_Up, gives t2 - t1 - correctionField - ORB_MPD -
ORB_ASYM; a small offset is slewed, a large one steps Orbit while no job runs and is slewed with SLEW_LONG while one does; a
time transmitter is entered in the list of those known; and a lost one brings holdover. The jump test of the first sample after
a spare retrain is the model's reading of R314 (log entry 55). -/
def Obligations.PtpOffsets : Prop :=
  ∀ (s : State) (m : PtpMsg), s.chip.domainRuns 2 = true →
    let theta := fun (corr t2 : Int) => t2 - ((m.ts : Int) * 2 ^ 32 + corr * 2 ^ 16) - s.chip.orb.mean
      - s.chip.fs F.orbAsymAsym * 2 ^ 28
    let thr := (s.chip.f F.orbStepStepThr : Int) * 2 ^ 32
    let slews := fun (th : Int) (t : Chip) => t.orb.sr = -th ∧ t.f F.orbStatHold = 0 ∧ t.fs F.orbOffsetTheta = satNs th
    let small := fun (th : Int) (t : Chip) => slews th t ∧ t.f F.orbStatValid = 1
    (s.chip.fromMaster m = true → s.chip.orbSrc = 0 → s.chip.orb.jump = none → s.chip.orb.retest = false →
      (m.twoStep = false → ∀ th, th = theta m.corr s.chip.rxStamp →
        ((th.natAbs : Int) ≤ thr → Does (.ptpSyncRx m) s fun t => small th t
          ∧ t.f F.orbSyncCntCount = satAdd 32 (s.chip.f F.orbSyncCntCount) 1 ∧ t.orb.syncLost = false)
        ∧ (thr < (th.natAbs : Int) → s.chip.running = true → Does (.ptpSyncRx m) s fun t => slews th t
          ∧ t.f F.orbEvtSlewLong = 1)
        ∧ (thr < (th.natAbs : Int) → s.chip.running = false → Does (.ptpSyncRx m) s fun t =>
          t.orbTime = (s.chip.orbTime - th) % (2 ^ 48 * 1000000000 * 2 ^ 32) ∧ t.orb.sr = 0 ∧ t.f F.orbStatValid = 1
            ∧ t.f F.orbEvtStepped = 1 ∧ t.f F.orbSlewRemSr = 0 ∧ ∀ l ∈ t.links, l.stepped = true))
      ∧ (m.twoStep = true → Does (.ptpSyncRx m) s fun t => t.orb.sync = some (m.seq, s.chip.rxStamp, m.corr)
          ∧ t.f F.ulRxFrmCount = satAdd 32 (s.chip.f F.ulRxFrmCount) 1 ∧ s.chip.Keeps t [R.ulRxFrm])
      ∧ ∀ t2 corr th, s.chip.orb.sync = some (m.seq, t2, corr) → s.chip.orb.syncLost = false →
          th = theta (corr + m.corr) t2 → (th.natAbs : Int) ≤ thr →
        Does (.ptpFollowUpRx m) s fun t => small th t ∧ t.orb.sync = none
          ∧ t.f F.orbSyncCntCount = satAdd 32 (s.chip.f F.orbSyncCntCount) 1)
    ∧ (s.chip.fromMaster m = true → s.chip.orbSrc = 0 → s.chip.orb.jump = none → s.chip.orb.retest = true →
        m.twoStep = false → s.chip.jumpThr < ((theta m.corr s.chip.rxStamp).natAbs : Int) →
      Does (.ptpSyncRx m) s fun t => t.orb.retest = false ∧ t.f F.orbEvtJump = 1 ∧ t.f F.orbStatHold = 1
        ∧ t.orbTime = s.chip.orbTime ∧ t.orb.sr = s.chip.orb.sr
        ∧ s.chip.Keeps t [R.ulRxFrm, R.orbEvt, R.orbStat, R.orbJumpCnt])
    ∧ (s.chip.ptpHeard m = true → s.chip.testTt = false → Does (.ptpAnnounceRx m) s fun t =>
        t.orb.masters = (s.chip.orb.masters.filter (·.1 != m.source)) ++ [(m.source, m.rank)]
          ∧ s.chip.Keeps t [R.ulRxFrm])
    ∧ (s.chip.orbSrc = 0 → s.chip.testTt = false →
      Does .ptpAnnounceTimeout s (fun t => t.orb.masters = [] ∧ t.f F.orbStatHold = 1
        ∧ (s.chip.f F.orbStatHold = 0 → t.f F.orbEvtHoldover = 1) ∧ s.chip.Keeps t [R.orbStat, R.orbEvt])
      ∧ Does .ptpSyncTimeout s (fun t => t.orb.syncLost = true ∧ t.f F.orbStatHold = 1
        ∧ (s.chip.f F.orbStatHold = 0 → t.f F.orbEvtHoldover = 1) ∧ s.chip.Keeps t [R.orbStat, R.orbEvt]))

/-- Path delay (R302, R312, R313) and the messages the device sends (R301, R304): a request carries the transmit stamp; an
answer gives a sample, which joins the last 8 or opens a jump run with holdover; requests of others are answered, the
turnaround time of log entry 13 being free; the test mode sends Sync and Announce; and with SRC = free no sample is taken. The
bytes of a message are those of log entry 15. -/
def Obligations.PtpDelays : Prop :=
  ∀ (s : State) (m : PtpMsg), s.chip.domainRuns 2 = true →
    let q := s.chip.orb.seq
    let thr := (s.chip.f F.orbJumpPtpJumpThr : Int) * 2 ^ 32
    let frame := fun (mt seq : Nat) (corr ts : Int) (req : Nat) =>
      Out.ulFrame (sealFrame (s.chip.ptpFrame mt seq corr (ts / 2 ^ 32).toNat req))
    let tx := fun (n : Nat) (t : Chip) => t.f F.ulTxFrmCount = satAdd 32 (s.chip.f F.ulTxFrmCount) n
      ∧ s.chip.Keeps t [R.ulTxFrm]
    let both := fun (t : Chip) => t.f F.ulTxFrmCount = satAdd 32 (s.chip.f F.ulTxFrmCount) 1
      ∧ t.f F.ulRxFrmCount = satAdd 32 (s.chip.f F.ulRxFrmCount) 1 ∧ s.chip.Keeps t [R.ulTxFrm, R.ulRxFrm]
    let sampled := fun (i : Instr) (p : Int) (gone : Chip → Prop) => s.chip.orb.jump = none →
      (((p - s.chip.orb.mean).natAbs : Int) ≤ thr → s.chip.orbSrc ≠ 2 → ∀ l,
          l = (s.chip.orb.mpd ++ [p]).drop (s.chip.orb.mpd.length - 7) →
        Does i s fun t => t.orb.mpd = l ∧ t.orb.mean = l.sum / (l.length : Int) ∧ gone t
          ∧ s.chip.Keeps t [R.orbMpd, R.ulRxFrm])
      ∧ (thr < ((p - s.chip.orb.mean).natAbs : Int) → s.chip.orbSrc = 0 → s.chip.testTt = false →
        Does i s fun t => t.orb.jump = some ⟨p, [p]⟩ ∧ t.f F.orbEvtJump = 1 ∧ t.f F.orbStatHold = 1
          ∧ t.f F.orbJumpCntCount = satAdd 32 (s.chip.f F.orbJumpCntCount) 1 ∧ t.orb.mpd = s.chip.orb.mpd ∧ gone t
          ∧ s.chip.Keeps t [R.orbEvt, R.orbStat, R.orbJumpCnt, R.ulRxFrm])
      ∧ (s.chip.orbSrc = 2 → Does i s fun t => t.orb.mpd = s.chip.orb.mpd ∧ gone t ∧ s.chip.Keeps t [R.ulRxFrm])
    (s.chip.ulSt = 4 → s.chip.testTt = false → s.chip.ptpP2p = false → s.chip.master.isSome = true →
      Does .ptpDelayReqSend s fun t => t.out = [frame 1 q 0 s.chip.txStamp 0]
        ∧ t.orb.delayReq = some (q, s.chip.txStamp) ∧ t.orb.seq = (q + 1) % 65536 ∧ tx 1 t)
    ∧ (∀ t1 t2 t3, s.chip.orb.delayReq = some (m.seq, t3) → s.chip.orb.lastSync = some (t1, t2) →
        s.chip.fromMaster m = true → m.request = s.chip.ptpSelf →
      sampled (.ptpDelayRespRx m) (((t2 - t1) + ((m.ts : Int) * 2 ^ 32 - t3 - m.corr * 2 ^ 16)) / 2)
        fun t => t.orb.delayReq = none ∧ t.orb.reqLog = m.log)
    ∧ (s.chip.ulSt = 4 → s.chip.testTt = false → s.chip.ptpP2p = true →
      Does .ptpPdelayReqSend s fun t => t.out = [frame 2 q 0 s.chip.txStamp 0]
        ∧ t.orb.pdelay = some (q, s.chip.txStamp) ∧ t.orb.seq = (q + 1) % 65536 ∧ tx 1 t)
    ∧ (∀ t1, s.chip.orb.pdelay = some (m.seq, t1) → s.chip.ptpHeard m = true → m.request = s.chip.ptpSelf →
        m.twoStep = false → s.chip.testTt = false →
      sampled (.ptpPdelayRespRx m) ((s.chip.rxStamp - t1 - m.corr * 2 ^ 16) / 2) fun t => t.orb.pdelay = none)
    ∧ (s.chip.ptpHeard m = true → s.chip.ptpP2p = true ∨ s.chip.testTt = true → Does (.ptpPdelayReqRx m) s fun t =>
        (∃ k : Nat, t.out = [frame 3 m.seq (m.corr + k) 0 m.source]) ∧ both t)
    ∧ (s.chip.ptpHeard m = true → s.chip.testTt = true → Does (.ptpDelayReqRx m) s fun t =>
        t.out = [frame 9 m.seq m.corr s.chip.rxStamp m.source] ∧ both t)
    ∧ (s.chip.ulSt = 4 → s.chip.testTt = true → Does .testTtSyncSend s fun t =>
        t.out = [frame 0 q 0 s.chip.txStamp 0, frame 11 q 0 0 0] ∧ t.orb.seq = (q + 1) % 65536 ∧ tx 2 t)

/-- Orbit's own events and writes (R306, R307, R308, R314, R315, R316): the end of a slew, the second boundary and the pulse of
PPS_OUT, an edge at PPS_IN with its offset, the loss of the edges, a host set, and the two writes of ORB_NOM, of which that of
the fraction counts from the next write of ORB_NOM_NS on. When the edges, the boundary and the timers come is the environment's
choice (log entry 6). -/
def Obligations.OrbitTime : Prop :=
  ∀ (s : State) (src : Src) (v : Word), s.chip.domainRuns 2 = true →
    let span : Int := 2 ^ 48 * 1000000000 * 2 ^ 32
    let n := s.chip.orb.n
    let nom : Int := s.chip.orbNom
    let sr := s.chip.orb.sr
    let sig := slewStep (s.chip.f F.orbSlewSlewMax)
    (sr ≠ 0 → (sr.natAbs : Int) ≤ sig → n < 1000000000 → s.chip.orb.s < 2 ^ 48 → s.chip.orb.f < 2 ^ 32 → nom < 2 ^ 36 →
        0 ≤ nom + sr →
      Does .orbSlewDone s fun t => t.orbTime = (s.chip.orbTime + nom + sr) % span ∧ t.orb.sr = 0
        ∧ t.f F.orbStatSlewing = 0 ∧ t.f F.orbSlewRemSr = 0)
    ∧ (sr = 0 ∨ sig < (sr.natAbs : Int) → Does .orbSlewDone s fun t => t.orb = s.chip.orb ∧ s.chip.Keeps t [])
    ∧ (s.chip.fb F.orbPpsOutEn = true → s.chip.fb F.orbStatValid = true →
      Does .orbSecondBoundary s fun t => t.orb.ppsOut = true ∧ s.chip.Keeps t [])
    ∧ Does .ppsOutPulseEnd s (fun t => t.orb.ppsOut = false ∧ s.chip.Keeps t [])
    ∧ (n < 1000000000 → s.chip.orb.s < 2 ^ 48 →
      Does .ppsInEdge s (fun t => t.f F.orbPpsinNsNs = n ∧ t.f F.orbPpsinSloSLo = s.chip.orb.s % 2 ^ 32
        ∧ t.f F.orbPpsinShiSHi = s.chip.orb.s / 2 ^ 32 ∧ t.f F.orbEvtPpsIn = 1 ∧ t.orb.ppsLost = false)
      ∧ ∀ th : Int, th = (if 500000000 ≤ n then (n : Int) - 1000000000 else (n : Int)) * 2 ^ 32 →
        s.chip.orbSrc = 1 → s.chip.testTt = false → (th.natAbs : Int) ≤ (s.chip.f F.orbStepStepThr : Int) * 2 ^ 32 →
        Does .ppsInEdge s fun t => t.orb.sr = -th ∧ t.f F.orbStatHold = 0 ∧ t.f F.orbStatValid = 1)
    ∧ (s.chip.orbSrc = 1 → s.chip.testTt = false →
      Does .ppsHoldoverTimeout s fun t => t.orb.ppsLost = true ∧ t.f F.orbStatHold = 1
        ∧ s.chip.Keeps t [R.orbStat, R.orbEvt])
    ∧ (s.chip.Allows src R.orbCmd (force F.orbCmdSet 1 v) →
      Does (.orbSet src v) s fun t =>
        t.orbTime = ((s.chip.f F.orbSetSloSLo + s.chip.f F.orbSetShiSHi * 2 ^ 32 : Nat) * 1000000000
          + (s.chip.f F.orbSetNsNs : Int)) * 2 ^ 32 % span
        ∧ t.orb.sr = 0 ∧ t.f F.orbEvtStepped = 1 ∧ t.f F.orbStatValid = 1 ∧ (∀ l ∈ t.links, l.stepped = true)
        ∧ .status 0 ∈ t.out)
    ∧ (∀ fr, fr = s.chip.orb.held.getD s.chip.orb.frac → fr < 2 ^ 32 → s.chip.Allows src R.orbNomNs v →
      Does (.orbNomNsWrite src v) s fun t => t.f F.orbNomNsNs = getBits v 0 4 ∧ t.f F.orbNomFracFrac = fr
        ∧ t.orb.held = none ∧ t.orbNom = getBits v 0 4 * 2 ^ 32 + fr
        ∧ t.f F.orbIncrNsNs = getBits v 0 4 ∧ t.f F.orbIncrFracFrac = fr ∧ .status 0 ∈ t.out)
    ∧ (s.chip.Allows src R.orbNomFrac v →
      Does (.orbNomFracWrite src v) s fun t => t.rd R.orbNomFrac = v ∧ t.orb.held = some v.toNat ∧ t.orbNom = s.chip.orbNom
        ∧ t.rd R.orbNomNs = s.chip.rd R.orbNomNs ∧ t.rd R.orbIncrFrac = s.chip.rd R.orbIncrFrac ∧ .status 0 ∈ t.out)

/-- A read of ORB_NOW_NS answers N and latches S and F, so that the four registers show the instant of the read (R310). -/
def Obligations.OrbitReads : Prop :=
  ∀ (s : State) (src : Src), s.chip.AllowsRead src R.orbNowNs →
    Does (.orbNowNsRead src) s fun t =>
      .status (BitVec.ofNat 32 s.chip.orb.n).toNat ∈ t.out
      ∧ t.f F.orbNowNsNs = s.chip.orb.n % 2 ^ 30 ∧ t.f F.orbNowSloSLo = s.chip.orb.s % 2 ^ 32
      ∧ t.f F.orbNowShiSHi = s.chip.orb.s / 2 ^ 32 % 2 ^ 16 ∧ t.f F.orbNowFracFrac = s.chip.orb.f % 2 ^ 32

/-- Encoders, sheet edges and Z edges (R320, R321, R327): a change of A or B counts by the quadrature rule; an illegal
transition counts as an error, the sixteenth within 1 s is reported; a read latches the upper bits; edges become source
events MARK_OFS further on. The web encoder counts so while a job runs too, whatever triggers fall due. -/
def Obligations.CometInputs : Prop :=
  ∀ (s : State) (e j : Nat), s.chip.domainRuns 2 = true → e < 2 → j < 2 → s.chip.cmt.pos.length = 2 →
    s.chip.cmt.lvl.length = 2 → s.chip.cmt.illegal.length = 2 → s.chip.cmt.sheet.length = 2 →
    let err := if e = 0 then F.cmtEncErr0Count else F.cmtEncErr1Count
    let inv := s.chip.fb (if e = 0 then F.cmtEncCfgInv0 else F.cmtEncCfgInv1)
    let recent := (s.chip.cmt.illegal.getD e []).filter fun t => decide (s.chip.nowNs < t + 1000000000)
    let events := fun (k : Nat) (p : Int) => s.chip.f (F.cmtTcfgMarkSrc s.chip.actBank) = k →
      s.chip.fb (F.ieJcfgFidEn s.chip.actBank) = false → s.chip.follows = false →
      ∀ l, l = s.chip.cmt.events ++ [p + s.chip.f (F.cmtMarkOfsOfs s.chip.actBank)] →
        (p = s.chip.webPos → k = 3 → e = s.chip.webEnc →
          Does (.encoderZEdge e) s fun t => t.cmt.events = l ∧ s.chip.Keeps t [])
        ∧ (s.chip.cmt.sheet.getD j none = some p → k = j + 1 →
          Does (.sheetEdgeAccept j) s fun t => t.cmt.events = l ∧ t.cmt.sheet.getD j none = none ∧ s.chip.Keeps t [])
    (∀ a b a0 b0 d, s.chip.cmt.lvl.getD e (false, false) = (a0, b0) → (a = a0) ≠ (b = b0) →
        d = (if a = a0 then (if a = b then (1 : Int) else -1) else if a = b then -1 else 1) →
      Does (.encoderCount e a b) s fun t =>
        t.encPos e = toSigned 48 (ofSigned 48 (s.chip.encPos e + if inv then -d else d))
        ∧ t.encPos (1 - e) = s.chip.encPos (1 - e) ∧ t.cmt.lvl.getD e (false, false) = (a, b)
        ∧ (e ≠ s.chip.webEnc ∨ s.chip.running = false ∨ s.chip.f (F.cmtTcfgSrc s.chip.actBank) ≠ 0 →
          s.chip.Keeps t [R.cmtVel, R.cmtStat]))
    ∧ (Does (.encoderIllegal e) s fun t => t.f err = satAdd 32 (s.chip.f err) 1 ∧ t.f F.cmtEvtEncErr = 1
        ∧ t.encPos e = s.chip.encPos e ∧ (recent.length = 15 → ⟨0x08, e, false⟩ ∈ t.reports)
        ∧ s.chip.Keeps t [err.addr, F.cmtEvtEncErr.addr])
    ∧ (∀ src p, s.chip.AllowsRead src (R.cmtEncLo e) → p = ofSigned 48 (s.chip.encPos e) →
      Does (.encPositionRead src e) s fun t => .status (p % 2 ^ 32) ∈ t.out ∧ t.f (F.cmtEncHiPosHi e) = p / 2 ^ 32)
    ∧ (∀ k p, events k p)
    ∧ (∀ level, (s.chip.fb (if j = 0 then F.cmtSheetCfgSpol0 else F.cmtSheetCfgSpol1) = !level) →
        s.chip.f (if j = 0 then F.cmtSheetCfgSfilt0 else F.cmtSheetCfgSfilt1) ≠ 0 →
      Does (.sheetEdgeCandidate j level) s fun t => t.cmt.sheet.getD j none = some s.chip.webPos
        ∧ t.cmt.events = s.chip.cmt.events ∧ s.chip.Keeps t [])
    ∧ Does (.sheetCandidateDiscard j) s fun t => t.cmt.sheet.getD j none = none
        ∧ t.cmt.events = s.chip.cmt.events ∧ s.chip.Keeps t []

/-- Line triggers (R322, R323, R324, R326 to R329): a trigger of any source, with a repeat mark or without one, is issued, delayed
by FMAX or dropped; the source events it reaches are spent, and a mark, which falls where one is reached at least half a repeat past
the last mark, begins a repeat (what a mark does in ARMED and DECIDED is stated with the jobs); the follower logs a trigger record,
which covers the own due triggers up to it; and a record that does not come makes the follower the source. That a takeover issues what
its own decoder found due is the model's choice (log entry 29). -/
def Obligations.LineTriggers : Prop :=
  ∀ (s : State), s.chip.domainRuns 2 = true →
    let b := s.chip.actBank
    let id := s.chip.f F.cmtNextIdId
    let tmin := s.chip.tMin b
    let far := s.chip.cmt.lastMark.all fun l =>
      decide (s.chip.f (F.ieRepLinesRepLines b) ≤ 2 * ((id + 2 ^ 32 - l) % 2 ^ 32))
    let places := fun (i : Instr) (te : Nat) (pos : Int) (hit : List Int) (more : Chip → Prop) =>
      s.chip.issues = true → s.chip.fb (F.ieJcfgFidEn b) = false →
      ∀ mark, mark = (!hit.isEmpty && far) → (mark = true → s.chip.sst ≠ sstArmed ∧ s.chip.sst ≠ sstDecided) →
      ∀ base, base = te + s.chip.f (F.cmtTdlyTrigDly b) →
      let issued := fun (tx dly : Nat) (t : Chip) => t.f F.cmtNextIdId = (id + 1) % 2 ^ 32
        ∧ t.f F.cmtTrigCntCount = satAdd 32 (s.chip.f F.cmtTrigCntCount) 1 ∧ t.cmt.txPrev = some tx
        ∧ (∃ e, t.logEntry id = some e ∧ e.time = tx ∧ e.enc = ofSigned 48 pos ∧ e.mark = mark ∧ e.bank = b
          ∧ e.dly = dly ∧ e.ridx = if mark then (s.chip.cmt.ridx + 1) % 2 ^ 32 else s.chip.cmt.ridx)
        ∧ (∃ w, t.stc.webq = s.chip.stc.webq ++ [w] ∧ w.trig = id ∧ w.bank = b ∧ w.mark = mark)
        ∧ t.cmt.events = s.chip.cmt.events.filter (fun p => !hit.contains p)
        ∧ t.f F.cmtMarkIgnCount = satAdd 32 (s.chip.f F.cmtMarkIgnCount) (hit.length - if mark then 1 else 0)
        ∧ (mark = true → t.job.ts = some id ∧ t.cmt.lastMark = some id)
        ∧ (mark = false → t.job.ts = s.chip.job.ts ∧ t.cmt.lastMark = s.chip.cmt.lastMark) ∧ more t
      ((∀ p, s.chip.cmt.txPrev = some p → p + tmin ≤ base) → Does i s fun t => issued base 0 t
        ∧ t.f F.cmtOvrDlyCount = s.chip.f F.cmtOvrDlyCount)
      ∧ ∀ p, s.chip.cmt.txPrev = some p → base < p + tmin →
        (p + tmin - base ≤ 16 * tmin → Does i s fun t => issued (p + tmin) 1 t ∧ t.f F.cmtEvtOverspeed = 1
          ∧ t.f F.cmtOvrDlyCount = satAdd 32 (s.chip.f F.cmtOvrDlyCount) 1
          ∧ t.f F.cmtStatLag = (p + tmin - base) / tmin)
        ∧ (16 * tmin < p + tmin - base → Does i s fun t => t.f F.cmtNextIdId = id ∧ t.log = s.chip.log
          ∧ t.cmt.events = s.chip.cmt.events ∧ t.f F.cmtOvrDropCount = satAdd 32 (s.chip.f F.cmtOvrDropCount) 1 ∧ t.f F.cmtEvtOvrDrop = 1
          ∧ (s.chip.f F.cmtEvtOvrDrop = 0 → ⟨0x50, 0, false⟩ ∈ t.reports) ∧ more t)
    (∀ t0, s.chip.cmt.due = some t0 → s.chip.running = true → s.chip.f (F.cmtTcfgSrc b) = 1 →
        reached64 s.chip.nowNs t0 = true →
      places .triggerDueTimer t0 s.chip.webPos s.chip.cmt.events fun t => t.cmt.due = some (t0 + s.chip.f (F.cmtTimerPeriod b)))
    ∧ (∀ src v, s.chip.Allows src R.cmtHost (force F.cmtHostOp 1 v) →
        s.chip.f (F.cmtTcfgSrc b) ≠ 0 →
      places (.cmtHostTrigger src v) s.chip.nowNs s.chip.webPos s.chip.cmt.events fun t => .status 0 ∈ t.out)
    ∧ (∀ e a bb q p, e < 2 → s.chip.cmt.pos.length = 2 → s.chip.cmt.lvl.length = 2 → e = s.chip.webEnc →
        s.chip.running = true → s.chip.f (F.cmtTcfgSrc b) = 0 →
        quadrature (s.chip.cmt.lvl.getD e (false, false)) (a, bb) = some q → (if s.chip.encInv e then -q else q) = 1 →
      ∀ pos : Int, pos = toSigned 48 (ofSigned 48 (s.chip.webPos + 1)) → s.chip.cmt.pnext = some p →
        ge64 (pos * 65536) p = true → ge64 (pos * 65536) (p + s.chip.pitch16 b) = false →
      places (.encoderCount e a bb) (s.chip.countTime e) pos (s.chip.cmt.events.filter (ge64 pos)) fun t =>
        t.cmt.pnext = some (p + s.chip.pitch16 b) ∧ t.encPos e = pos)
    ∧ (∀ pk, s.chip.domainRuns 4 = true → s.chip.Hears 0x02 pk → s.chip.follows = true → s.chip.fb F.fcStatWithdrawn = false →
      ∀ n, n = fieldBE pk.bytes 8 4 → s.chip.logEntry n = none → fieldBE pk.bytes 30 1 % 2 = 0 →
      Does (.trecRx pk) s fun t => t.f F.cmtNextIdId = (n + 1) % 2 ^ 32
        ∧ t.cmt.txPrev = some (timeOfBytes ((pk.bytes.drop 20).take 10)) 
        ∧ t.cmt.ownDue = (s.chip.cmt.ownDue.drop ((n + 2 ^ 32 - id) % 2 ^ 32 + 1)).filter (fun d => decide
            (timeOfBytes ((pk.bytes.drop 20).take 10) - s.chip.f (F.cmtTdlyTrigDly b) < d.1))
        ∧ t.f F.cmtTrigCntCount = s.chip.f F.cmtTrigCntCount
        ∧ ∃ e, t.logEntry n = some e ∧ e.time = timeOfBytes ((pk.bytes.drop 20).take 10) ∧ e.mark = false
          ∧ e.bank = fieldBE pk.bytes 30 1 / 2 % 2 ∧ e.ridx = fieldBE pk.bytes 32 4)
    ∧ (s.chip.running = true → s.chip.follows = true → s.chip.cmt.ownDue ≠ [] →
      Does .takeoverTimeout s fun t => t.f F.cmtStatSource = 1 ∧ t.f F.cmtEvtTakeover = 1 ∧ ⟨0x83, 0, false⟩ ∈ t.reports
        ∧ t.cmt.ownDue = [])

/-- Press outputs (R332, R333, R335, R336): a host pulse is a window of its output; at an edge every window whose OFF is
reached is retired and every output takes the level of its windows; a change of MODE or ENC discards them. -/
def Obligations.PressOutputs : Prop :=
  ∀ (s : State) (src : Src) (k : Nat) (v : Word), s.chip.domainRuns 2 = true → k < 24 → s.chip.cmt.outs.length = 24 →
    let keep := fun (i : Nat) (l : List OutWin) => l.filter fun w => !ge64 (s.chip.outNow i w.time) w.off
    let levels := fun (t : Chip) => (∀ i < 24, (t.f F.cmtStatOut).testBit i = t.outLevel i
        ∧ (t.outS i).wins = keep i (s.chip.outS i).wins ∧ (t.outS i).strobes = keep i (s.chip.outS i).strobes)
      ∧ s.chip.Keeps t [R.cmtStat]
    (∀ t0 len w, s.chip.Allows src R.cmtHost (force F.cmtHostOp 2 v) → s.chip.fb F.fcStatWithdrawn = false →
        getBits v 24 5 = k → (s.chip.outS k).wins = [] →
        t0 = toSigned 64 (s.chip.f F.cmtHostThiTgt * 2 ^ 32 + s.chip.f F.cmtHostTloTgt) →
        len = (getBits v 0 20 : Int) → w = (⟨!bitAt v 29, t0, t0 + if bitAt v 29 then len else len * 1000⟩ : OutWin) →
        ge64 (s.chip.outNow k w.time) w.off = false →
      Does (.cmtHostPulse src v) s fun t => (t.outS k).wins = [w] ∧ .status 0 ∈ t.out
        ∧ (t.f F.cmtStatOut).testBit k = (!s.chip.fb F.clkStatSafe && ge64 (s.chip.outNow k w.time) w.on))
    ∧ ((∃ w ∈ (s.chip.outS k).wins, w.time = true) → Does (.hostPulseTimeEdge k) s levels)
    ∧ ((s.chip.outS k).strobes ≠ [] → Does (.strobeEdge k) s levels)
    ∧ (s.chip.Allows src (R.cmtOutCfg k) v →
      Does (.cmtOutCfgWrite src k v) s fun t => t.outMode k = getBits v 29 3 ∧ .status 0 ∈ t.out
        ∧ (getBits (s.chip.rd (R.cmtOutCfg k)) 28 4 ≠ getBits v 28 4 → t.outS k = ⟨[], []⟩
          ∧ (t.f F.cmtStatOut).testBit k = false))

/-- DMA channels as software drives them (R357, R362, R363, R369, R370): GO starts an IDLE or HALTED channel at its start address; STOP
stops one, a running one at the end of its element; doorbells count, release a PARK and end a WAIT DOORBELL; a WAIT TIME
ends when its target is reached; a decode error halts; and after the retry gap the failed access is made again. -/
def Obligations.DmaChannels : Prop :=
  ∀ (s : State) (src : Src) (n : Nat) (v : Word), n < 16 → s.chip.dma.length = 16 → s.chip.domainRuns 1 = true →
    let d := s.chip.ch n
    let cnt := s.chip.f (F.dmaChDbcntDbcnt n)
    let idle := fun (t : Chip) => t.chSt n = dsIdle ∧ (t.ch n).cur = none ∧ (t.ch n).loops = List.replicate 3 (1, 0, 0)
    (s.chip.Allows src (R.dmaChCtrl n) (force (F.dmaChCtrlGo n) 1 v) → bitAt v 30 = false →
      Does (.dmaGo src n v) s fun t => t.chSt n = dsRun ∧ .status 0 ∈ t.out
        ∧ (t.ch n).pc = s.chip.f (F.dmaChStartHiAddr n) * 2 ^ 32 + s.chip.f (F.dmaChStartLoAddr n) * 16
        ∧ (t.ch n).cur = none ∧ (t.ch n).loops = List.replicate 3 (1, 0, 0) ∧ t.rd (R.dmaChEvseen n) = 0#32
        ∧ t.rd (R.dmaChErrLo n) = 0#32 ∧ t.rd (R.dmaChErrHi n) = 0#32 ∧ t.rd (R.dmaChErrCode n) = 0#32
        ∧ t.f (F.dmaChStatHaltReason n) = 0)
    ∧ (s.chip.Allows src (R.dmaChCtrl n) (force (F.dmaChCtrlStop n) 1 v) → bitAt v 31 = false →
      (s.chip.chSt n = dsRun → Does (.dmaStop src n v) s fun t => t.chSt n = dsStopping ∧ .status 0 ∈ t.out)
      ∧ (s.chip.chSt n = dsWait ∨ s.chip.chSt n = dsPark ∨ s.chip.chSt n = dsRetry →
        Does (.dmaStop src n v) s fun t => idle t ∧ .status 0 ∈ t.out))
    ∧ (s.chip.chSt n = dsStopping → d.rb = false → (∀ i, d.cur = some i → DmaIns.op i = 1 → d.done % DmaIns.len i = 0) →
      Does (.dmaStoppingComplete n) s fun t => idle t ∧ (t.ch n).slots = [] ∧ t.f F.dmaSlotsUsed = t.dmaUsed % 2 ^ F.dmaSlotsUsed.width
        ∧ s.chip.Keeps t [R.dmaChStat n, R.dmaStat, F.dmaSlotsUsed.addr])
    ∧ (s.chip.Allows src (R.dmaChCtrl n) (force (F.dmaChCtrlDbclr n) 1 v) → bitAt v 31 = false → bitAt v 30 = false →
      Does (.dmaDbclr src n v) s fun t => t.f (F.dmaChDbcntDbcnt n) = 0 ∧ t.chSt n = s.chip.chSt n ∧ .status 0 ∈ t.out)
    ∧ (s.chip.Allows src (R.dmaChDoorbell n) v →
      let sum := cnt + getBits v 0 16
      (s.chip.chSt n = dsPark → 0 < sum → Does (.dmaDoorbell src n v) s fun t => t.f (F.dmaChDbcntDbcnt n) = sum - 1
        ∧ t.chSt n = dsRun ∧ (t.ch n).pc = d.pc + 16 ∧ (t.ch n).cur = none)
      ∧ (s.chip.chSt n ≠ dsPark → s.chip.chWaits n 1 = none → Does (.dmaDoorbell src n v) s fun t =>
        t.f (F.dmaChDbcntDbcnt n) = sum ∧ t.chSt n = s.chip.chSt n ∧ .status 0 ∈ t.out)
      ∧ ∀ i, s.chip.chWaits n 1 = some i → getBits i.1 0 16 ≤ sum → Does (.dmaDoorbell src n v) s fun t =>
        t.f (F.dmaChDbcntDbcnt n) = sum ∧ t.chSt n = dsRun ∧ (t.ch n).pc = d.pc + 16)
    ∧ ((s.chip.chWaits n 2).isSome = true → reached64 s.chip.linearNow d.until_.toNat = true →
      Does (.dmaWaitTimeReached n) s fun t => t.chSt n = dsRun ∧ (t.ch n).pc = d.pc + 16 ∧ (t.ch n).cur = none
        ∧ s.chip.Keeps t [R.dmaChStat n, R.dmaStat])
    ∧ (∀ i, s.chip.chSt n = dsRun → d.rb = false → d.cur = some i → DmaIns.bad i = true →
      Does (.dmaDecodeError n) s fun t => t.chSt n = dsHalted ∧ t.f (F.dmaChStatHaltReason n) = 2
        ∧ t.f F.dmaHaltCntCount = satAdd F.dmaHaltCntCount.width (s.chip.f F.dmaHaltCntCount) 1
        ∧ ⟨0x70, n, false⟩ ∈ t.reports)
    ∧ (∀ i a, s.chip.chSt n = dsRetry → d.cur = some i → DmaIns.op i = 7 → d.rb = true → d.last = some a →
        pickStatus (s.chip.windowChecks (.dma n) a 4 false) = 0 → s.chip.ecc = [] →
      Does (.dmaRetryGap n) s fun t => idle t ∧ (t.ch n).tries = 0)

/-- What a DMA channel executes (R358 to R364, R366, R367, R370, R371, R373), with the instruction in hand: a MOVE whose
turn no other channel takes copies the words of its next element, whose place the three loop levels give, between the memory windows, from
a fixed source or to a fixed destination too, or a word from or to a register; it waits while no slot is free; a LOOP sets a level; the
WAITs with and without their condition; a SIGNAL pulses its line; JUMP, PARK and END; and the read-back that a SIGNAL or an END
after memory writes waits for, whose return shows that the channel's writes have landed. The model's choices: there is no prefetch, and
the target of a JUMP wraps at 40 bits (log entry 31). -/
def Obligations.DmaPrograms : Prop :=
  ∀ (s : State) (n : Nat) (i : DmaIns), n < 16 → s.chip.dma.length = 16 → s.chip.domainRuns 1 = true →
    s.chip.chSt n = dsRun → (s.chip.ch n).cur = some i →
    let d := s.chip.ch n
    let next := fun (t : Chip) => t.chSt n = dsRun ∧ (t.ch n).pc = d.pc + 16 ∧ (t.ch n).cur = none
    let waits := fun (t : Chip) => t.chSt n = dsWait ∧ (t.ch n).pc = d.pc ∧ (t.ch n).cur = some i
    let st := [R.dmaChStat n, R.dmaStat]
    let seen : Fld := ⟨R.dmaChEvseen n, getBits i.1 0 5, 1⟩
    let lin := s.chip.linearNow
    let goal := timeTarget lin (DmaIns.time i) (bitAt i.2.2.1 3)
    let cnt := s.chip.f (F.dmaChDbcntDbcnt n)
    (d.rb = false →
      (DmaIns.op i = 1 → DmaIns.bad i = false → d.slots = [] → d.done = 0 → d.loops = List.replicate 3 (1, 0, 0) →
          64 ≤ s.chip.dmaUsed →
        Does (.dmaMove n []) s fun t => t.ch n = d ∧ t.chSt n = dsRun ∧ s.chip.Keeps t [])
      ∧ (DmaIns.op i = 1 → DmaIns.bad i = false → d.slots = [] → 1 ≤ s.chip.f (F.dmaChCfgSlots n) → s.chip.dmaUsed < 64 →
          (∀ m < 16, m ≠ n → s.chip.chWants m = false) → s.chip.ecc = [] →
          ∀ n0 n1 n2 : Nat, ∀ s0 d0 s1 d1 s2 d2 : Int, d.loops = [(n0, s0, d0), (n1, s1, d1), (n2, s2, d2)] →
          ∀ e len, len = DmaIns.len i → d.done = e * len → e < n0 * n1 * n2 → ∀ a b : Nat, a < 2 ^ 40 → b < 2 ^ 40 →
          (a : Int) = DmaIns.src i + (e % n0 : Nat) * s0 + (e / n0 % n1 : Nat) * s1 + (e / n0 / n1 : Nat) * s2 →
          (b : Int) = DmaIns.dst i + (e % n0 : Nat) * d0 + (e / n0 % n1 : Nat) * d1 + (e / n0 / n1 : Nat) * d2 →
        let done := fun (t : Chip) => (t.ch n).slots = []
          ∧ t.f (F.dmaChBytesCount n) = satAdd (F.dmaChBytesCount n).width (s.chip.f (F.dmaChBytesCount n)) (4 * len)
          ∧ (e + 1 = n0 * n1 * n2 → next t ∧ (t.ch n).loops = List.replicate 3 (1, 0, 0))
          ∧ (e + 1 < n0 * n1 * n2 → t.chSt n = dsRun ∧ (t.ch n).pc = d.pc ∧ (t.ch n).cur = some i ∧ (t.ch n).loops = d.loops
            ∧ (t.ch n).done = (e + 1) * len)
        let from_ := fun k => if bitAt i.2.2.2 27 then a else a + 4 * k
        let to_ := fun k => if bitAt i.2.2.2 26 then b else b + 4 * k
        let spanA := if bitAt i.2.2.2 27 then 4 else 4 * len
        let spanB := if bitAt i.2.2.2 26 then 4 else 4 * len
        (a + spanA ≤ b ∨ b + spanB ≤ a →
          (∀ k < len, memAddr (from_ k) = true ∧ memAddr (to_ k) = true
            ∧ pickStatus (s.chip.windowChecks (.dma n) (from_ k) 4 false) = 0
            ∧ pickStatus (s.chip.windowChecks (.dma n) (to_ k) 4 true) = 0) →
          Does (.dmaMove n []) s fun t => done t ∧ (t.ch n).last = some (to_ (len - 1))
            ∧ (∀ k < len, bitAt i.2.2.2 26 = false ∨ k + 1 = len → ∀ j < 4, t.byte (to_ k + j) = s.chip.byte (from_ k + j))
            ∧ (∀ x, ¬(b ≤ x ∧ x < b + spanB) → t.byte x = s.chip.byte x))
        ∧ (len = 1 → memAddr a = true → memAddr b = false → ¬(0x50000 ≤ b ∧ b < 0x60000) → b ≠ R.scpSum → b % 4 = 0 →
            plainReg b → pickStatus (s.chip.windowChecks (.dma n) a 4 false) = 0 →
            ∀ v r ix, v = BitVec.ofNat 32 (natOfLE (s.chip.bytes a 4)) → s.chip.Allows (.dma n) b v → regAt b = some (r, ix) →
          Does (.dmaMove n []) s fun t => done t ∧ (t.ch n).last = d.last ∧ t.rd b = r.store (s.chip.rd b) v
            ∧ ∀ x, t.byte x = s.chip.byte x)
        ∧ (len = 1 → memAddr a = false → memAddr b = true → ¬(0x50000 ≤ a ∧ a < 0x60000) → a ≠ R.scpSum → a % 4 = 0 →
            plainRead a → pickStatus (s.chip.windowChecks (.dma n) b 4 true) = 0 → s.chip.AllowsRead (.dma n) a →
            ∀ r ix, regAt a = some (r, ix) →
          Does (.dmaMove n []) s fun t => done t ∧ (t.ch n).last = some b ∧ t.rd a = r.afterRead (s.chip.rd a)
            ∧ t.bytes b 4 = wordBytesLE (r.view (s.chip.rd a)) ∧ ∀ x, ¬(b ≤ x ∧ x < b + 4) → t.byte x = s.chip.byte x))
      ∧ (DmaIns.op i = 2 → DmaIns.bad i = false → Does (.dmaLoop n) s fun t => next t
          ∧ (t.ch n).loops = d.loops.set (getBits i.2.2.1 24 2)
            (getBits i.2.2.1 0 24 + 1, toSigned 32 i.1.toNat, toSigned 32 i.2.1.toNat) ∧ s.chip.Keeps t st)
      ∧ (DmaIns.op i = 3 → DmaIns.mode i = 0 →
        (bitAt i.1 8 = true → s.chip.fb seen = true → Does (.dmaWaitEvent n) s fun t => next t ∧ t.f seen = 0)
        ∧ (bitAt i.1 8 = true → s.chip.fb seen = false → Does (.dmaWaitEvent n) s fun t => waits t ∧ s.chip.Keeps t st)
        ∧ (bitAt i.1 8 = false → Does (.dmaWaitEvent n) s fun t => waits t ∧ t.f seen = 0))
      ∧ (DmaIns.op i = 3 → DmaIns.mode i = 1 → getBits i.1 0 16 ≠ 0 →
        (getBits i.1 0 16 ≤ cnt → Does (.dmaWaitDoorbell n) s fun t => next t ∧ s.chip.Keeps t st)
        ∧ (cnt < getBits i.1 0 16 → Does (.dmaWaitDoorbell n) s fun t => waits t ∧ s.chip.Keeps t st))
      ∧ (DmaIns.op i = 3 → DmaIns.mode i = 2 →
        (timeFar lin goal = true → Does (.dmaWaitTime n) s fun t => t.chSt n = dsHalted
          ∧ t.f (F.dmaChStatHaltReason n) = 2 ∧ ⟨0x70, n, false⟩ ∈ t.reports)
        ∧ (timeFar lin goal = false → reached64 lin goal = true → Does (.dmaWaitTime n) s fun t => next t)
        ∧ (timeFar lin goal = false → reached64 lin goal = false → Does (.dmaWaitTime n) s fun t => waits t
          ∧ (t.ch n).until_ = goal))
      ∧ (DmaIns.op i = 4 → d.last = none → Does (.dmaSignal n) s fun t => next t
          ∧ ∀ m < 16, s.chip.chSt m ≠ dsIdle → s.chip.chWaits m 0 = none →
            t.f ⟨R.dmaChEvseen m, getBits i.1 0 5, 1⟩ = 1)
      ∧ (DmaIns.op i = 5 → Does (.dmaJump n) s fun t =>
          (t.ch n).pc = ofSigned 40 ((d.pc : Int) + 16 * toSigned 32 i.1.toNat) ∧ (t.ch n).cur = none
          ∧ t.chSt n = dsRun ∧ s.chip.Keeps t [])
      ∧ (DmaIns.op i = 6 → (1 ≤ cnt → Does (.dmaPark n) s fun t => next t ∧ t.f (F.dmaChDbcntDbcnt n) = cnt - 1)
          ∧ (cnt = 0 → Does (.dmaPark n) s fun t => t.chSt n = dsPark ∧ s.chip.Keeps t st))
      ∧ (DmaIns.op i = 7 → (d.last = none → Does (.dmaEnd n) s fun t => t.chSt n = dsIdle ∧ (t.ch n).cur = none
            ∧ (t.ch n).slots = [] ∧ s.chip.Keeps t (F.dmaSlotsUsed.addr :: st))
          ∧ (d.last ≠ none → Does (.dmaEnd n) s fun t => (t.ch n).rb = true ∧ t.chSt n = dsRun ∧ s.chip.Keeps t [])))
    ∧ (∀ a x, d.rb = true → d.last = some a → s.chip.ecc = [] →
        x = pickStatus (s.chip.windowChecks (.dma n) a 4 false) →
      let landed := fun (t : Chip) => t.job.pend = s.chip.job.pend.filter (fun p => !(p.dma == some n))
        ∧ (t.job.pend ≠ s.chip.job.pend → t.f F.jobWrPendCount = min t.job.pend.length 65535)
      (x = 0 → DmaIns.op i = 7 → Does (.dmaReadbackReturn n []) s fun t => t.chSt n = dsIdle ∧ (t.ch n).rb = false ∧ landed t)
      ∧ (x = 0 → DmaIns.op i = 4 → Does (.dmaReadbackReturn n []) s fun t => next t ∧ (t.ch n).rb = false ∧ landed t)
      ∧ (x ≠ 0 → x < 256 → d.tries < s.chip.f F.dmaRetryMaxMax → a < 2 ^ 40 → d.tries < 15 →
        Does (.dmaReadbackReturn n []) s fun t =>
        t.chSt n = dsRetry ∧ t.f (F.dmaChErrCodeKind n) = 3 ∧ t.f (F.dmaChErrCodeStatus n) = x
          ∧ t.f (F.dmaChErrCodeAttempts n) = d.tries + 1 ∧ t.rd (R.dmaChErrLo n) = BitVec.ofNat 32 a
          ∧ t.f (F.dmaChErrHiAddr n) = a / 2 ^ 32))

/-- Check-value units (R375 to R380, R382): a PUSH word enters the CRC; a close shows the result, counts the frame and
reports a mismatch; a READ run covers its region in memory; ABORT and an uncorrectable word discard the frame with no
check. Event queues (R383, R384, R385, R387, R389, R390): OPEN takes the port and writes a header that is not closed;
payload words follow in the ring; CLOSE leaves the payload there without the dropped bytes, fills its last read word
with zeros, and writes the header, the QSEQ and the new WPTR; ABORT gives up the packet; POP lets the oldest one go. -/
def Obligations.UnitsAndQueues : Prop :=
  (∀ (s : State) (src : Src) (n : Nat) (v : Word), n < 8 → s.chip.cvus.length = 8 → s.chip.domainRuns 1 = true →
    let u := s.chip.cvu n
    let alg := s.chip.f (F.cvuCfgAlg n)
    let shows := fun (r : BitVec 64) (t : Chip) => t.f (F.cvuResultLoResult n) = r.toNat % 2 ^ 32
      ∧ t.f (F.cvuResultHiResult n) = r.toNat / 2 ^ 32 ∧ t.f (F.cvuStatValid n) = 1
      ∧ t.f (F.cvuFramesCount n) = satAdd (F.cvuFramesCount n).width (s.chip.f (F.cvuFramesCount n)) 1
      ∧ (t.cvu n).words = 0 ∧ (t.cvu n).crc = BitVec.allOnes 64
    let drops := fun (t : Chip) => t.f (F.cvuStatOwner n) = 0 ∧ t.f (F.cvuStatValid n) = 0 ∧ (t.cvu n).words = 0
      ∧ (t.cvu n).crc = BitVec.allOnes 64 ∧ t.f (F.cvuFramesCount n) = s.chip.f (F.cvuFramesCount n)
    let differs := fun (r : BitVec 64) => s.chip.fb (F.cvuCfgCmpEn n) = true
      ∧ (r.toNat % 2 ^ 32 ≠ s.chip.f (F.cvuExpLoExp n) ∨ r.toNat / 2 ^ 32 ≠ s.chip.f (F.cvuExpHiExp n))
    (s.chip.Allows src (R.cvuData n) v → Does (.cvuDataWrite src n v) s fun t => t.f (F.cvuStatOwner n) = 1
        ∧ (t.cvu n).words = u.words + 1 ∧ (u.words = 0 → (t.cvu n).first = v)
        ∧ (t.cvu n).crc = cvuCrc alg u.crc (if s.chip.fb (F.cvuCfgOrder n) then (wordBytesLE v).reverse else wordBytesLE v)
        ∧ .status 0 ∈ t.out)
    ∧ (s.chip.Allows src (R.cvuCtrl n) (force (F.cvuCtrlClose n) 1 v) → bitAt v 31 = false → bitAt v 29 = false →
        s.chip.f (F.cvuStatOwner n) ≠ 2 → u.words ≠ 0 → ∀ r, r = cvuResult alg u.crc →
      (Does (.cvuClose src n v) s fun t => shows r t ∧ t.f (F.cvuStatOwner n) = 0)
      ∧ (differs r → Does (.cvuClose src n v) s fun t => t.f (F.cvuEvtCrcMis n) = 1 ∧ ⟨0x52, n, false⟩ ∈ t.reports
        ∧ t.f (F.cvuMisCntCount n) = satAdd (F.cvuMisCntCount n).width (s.chip.f (F.cvuMisCntCount n)) 1)
      ∧ (¬differs r → s.chip.f (F.cvuCfgAlvW n) = 0 → Does (.cvuClose src n v) s fun t => t.reports = s.chip.reports
        ∧ t.f (F.cvuMisCntCount n) = s.chip.f (F.cvuMisCntCount n)))
    ∧ (s.chip.Allows src (R.cvuCtrl n) (force (F.cvuCtrlGo n) 1 v) → bitAt v 30 = false → bitAt v 29 = false →
        s.chip.fb (F.cvuCfgMode n) = true →
      Does (.cvuGo src n v) s fun t => t.f (F.cvuStatOwner n) = 2 ∧ (t.cvu n).done = 0 ∧ .status 0 ∈ t.out)
    ∧ (s.chip.Allows src (R.cvuCtrl n) (force (F.cvuCtrlAbort n) 1 v) → bitAt v 31 = false → bitAt v 30 = false →
      Does (.cvuAbort src n v) s fun t => drops t ∧ t.reports = s.chip.reports ∧ .status 0 ∈ t.out)
    ∧ (s.chip.f (F.cvuStatOwner n) = 2 → ∀ a k, a = s.chip.f (F.cvuAddrHiAddr n) * 2 ^ 32 + s.chip.f (F.cvuAddrLoAddr n) * 4 →
        k = s.chip.f (F.cvuLen4Words n) →
      (0 < k → u.done = 0 → u.words = 0 → u.crc = BitVec.allOnes 64 → s.chip.ecc = [] →
        Does (.cvuReadRunComplete n) s fun t =>
          shows (cvuResult alg (cvuCrc alg (BitVec.allOnes 64) (s.chip.bytes a (4 * k)))) t ∧ t.f (F.cvuStatOwner n) = 0)
      ∧ ∀ word, meets (8 * word) 8 a (4 * k) = true →
        Does (.cvuReadEccError n word) s fun t => drops t ∧ t.f (F.cvuEvtEcc n) = 1))
  ∧ ∀ (s : State) (src : Src) (n : Nat) (v : Word), n < 4 → s.chip.eqs.length = 4 →
    let q := s.chip.eq n
    let w := s.chip.f (F.eqWptrIndex n)
    let a := 0x1500000 + n * 0x40000 + 32 * w % 0x40000
    let len := q.data.length - getBits v 0 2
    let nw := (8 + len + 31) / 32
    let same := fun (t : Chip) => (t.eq n).pkts = q.pkts ∧ (t.eq n).qseq = q.qseq ∧ t.f (F.eqWptrIndex n) = w
      ∧ t.f (F.eqRptrIndex n) = s.chip.f (F.eqRptrIndex n) ∧ .status 0 ∈ t.out
    (s.chip.Allows src (R.eqWcmd n) (force (F.eqWcmdOp n) 1 v) → q.pkts.sum + 1 ≤ 8191 →
      Does (.eqOpen src n v) s fun t => same t ∧ t.f (F.eqStatOwner n) = srcTag src % 256 ∧ (t.eq n).data = []
        ∧ (t.memWord a).getLsbD 31 = false)
    ∧ (s.chip.Allows src (R.eqWdata n) v → q.pkts.sum + (8 + (q.data.length + 4) + 31) / 32 ≤ 8191 →
      Does (.eqWdata src n v) s fun t => same t ∧ (t.eq n).data = q.data ++ wordBytesLE v
        ∧ t.f (F.eqStatOwner n) = s.chip.f (F.eqStatOwner n)
        ∧ (∀ j < 4, t.byte (eqAddr n w (8 + q.data.length + j)) = (wordBytesLE v).getD j 0#8)
        ∧ (∀ x, (∀ j < 4, x ≠ eqAddr n w (8 + q.data.length + j)) → t.byte x = s.chip.byte x))
    ∧ (s.chip.Allows src (R.eqWcmd n) (force (F.eqWcmdOp n) 2 v) → q.data.length ≤ 2040 →
      Does (.eqClose src n v) s fun t => (t.eq n).pkts = q.pkts ++ [nw] ∧ (t.eq n).qseq = (q.qseq + 1) % 2 ^ 32
        ∧ t.f (F.eqWptrIndex n) = (w + nw) % 8192 ∧ t.f (F.eqStatOwner n) = 0 ∧ (t.eq n).data = []
        ∧ t.memWord a = BitVec.ofNat 32 (2 ^ 31 + (8 + len - 32 * (nw - 1)) * 2 ^ 25 + nw * 2 ^ 12
          + s.chip.f (F.eqStatOwner n))
        ∧ t.memWord (a + 4) = BitVec.ofNat 32 q.qseq ∧ .status 0 ∈ t.out
        ∧ ((∀ j < q.data.length, s.chip.byte (eqAddr n w (8 + j)) = q.data.getD j 0#8) →
          ∀ j < len, t.byte (eqAddr n w (8 + j)) = q.data.getD j 0#8)
        ∧ (∀ j, 8 + len ≤ j → j < 32 * nw → t.byte (eqAddr n w j) = 0#8)
        ∧ (∀ x, (∀ j < max (32 * nw) (8 + q.data.length), x ≠ eqAddr n w j) → t.byte x = s.chip.byte x)
        ∧ (q.pkts.length + 1 = s.chip.f (F.eqCfgThr n) → t.f (F.eqEvtData n) = 1))
    ∧ (s.chip.Allows src (R.eqWcmd n) (force (F.eqWcmdOp n) 3 v) →
      Does (.eqAbort src n v) s fun t => same t ∧ t.f (F.eqStatOwner n) = 0 ∧ (t.eq n).data = [])
    ∧ ∀ k rest, s.chip.Allows src (R.eqPop n) v → q.pkts = k :: rest →
      Does (.eqPop src n v) s fun t => (t.eq n).pkts = rest
        ∧ t.f (F.eqRptrIndex n) = (s.chip.f (F.eqRptrIndex n) + k) % 8192 ∧ t.f (F.eqWptrIndex n) = w
        ∧ (t.eq n).data = q.data ∧ .status 0 ∈ t.out

/-- A write of 1 to FC_PEND bit k acknowledges class k: the bit and LVLk clear and the class has no holder; no other class and
nothing of an action under way changes (R438). -/
def Obligations.PendingFaults : Prop :=
  ∀ (s : State) (src : Src) (v : Word), s.chip.Allows src R.fcPend v → s.chip.fc.holders.length = 9 →
    Does (.fcPendAck src v) s fun t =>
      (∀ k < 9, bitAt v k = true → t.f (F.fcPendC k) = 0 ∧ t.f (F.fcLvlC k) = 0 ∧ t.fc.holders.getD k none = none)
      ∧ (∀ k < 9, bitAt v k = false → t.f (F.fcPendC k) = s.chip.f (F.fcPendC k)
        ∧ t.f (F.fcLvlC k) = s.chip.f (F.fcLvlC k) ∧ t.fc.holders.getD k none = s.chip.fc.holders.getD k none)
      ∧ { t.fc with holders := [] } = { s.chip.fc with holders := [] } ∧ .status 0 ∈ t.out
      ∧ s.chip.Keeps t [R.fcPend, R.fcLvl, R.scpSession]

/-- The fault controller (R432, R433, R436, R437, R438, R451, R457, R459): an injected report of an L1 source is
logged, counted and pends; FIRST_CLR frees FC_FIRST; a withdrawal makes the outputs safe at once and ends the job when
the round of T_W has left; RESUME returns the device to service. Engine wear (R444): each hour the weighted hours of
its cluster are added to the wear word of an ACTIVE engine, and wear at the limit is reported; a write of the limit
lets every engine be reported again. -/
def Obligations.FaultsAndWear : Prop :=
  (∀ (s : State) (src : Src) (v : Word), s.chip.domainRuns 1 = true →
    let code := getBits v 16 8
    let inst := getBits v 0 16
    let w : Word := BitVec.ofNat 32 (2 ^ 31 + 2 ^ 28 + code / 16 * 2 ^ 24 + code * 2 ^ 16 + inst)
    (s.chip.Allows src R.fcInject (force F.fcInjectGo 1 v) → s.chip.Quiet → s.chip.mgmtRuns = true →
        srcLevels code false = some (1, none) → s.chip.fb (F.fcPendC (code / 16)) = false →
      ∃ t, exec (.fcInjectGo src v) s = .next t ∧ .status 0 ∈ t.chip.out ∧ t.chip.rd R.fcLast = w
        ∧ t.chip.f (F.fcCntCount (code / 16)) = satAdd 32 (s.chip.f (F.fcCntCount (code / 16))) 1
        ∧ t.chip.f (F.fcPendC (code / 16)) = 1 ∧ t.chip.f (F.fcLvlC (code / 16)) = 1
        ∧ (s.chip.fb F.fcFirstValid = false → t.chip.rd R.fcFirst = w)
        ∧ (s.chip.fb F.fcFirstValid = true → t.chip.rd R.fcFirst = s.chip.rd R.fcFirst ∧ t.chip.f F.fcStatOvf = 1))
    ∧ (s.chip.Allows src R.fcCtrl (force F.fcCtrlFirstClr 1 v) → bitAt v 30 = false → bitAt v 29 = false →
      Does (.fcFirstClr src v) s fun t => t.f F.fcFirstValid = 0 ∧ t.f F.fcStatOvf = 0 ∧ .status 0 ∈ t.out
        ∧ s.chip.Keeps t [R.fcFirst, R.fcStat, R.fcCtrl, R.scpSession])
    ∧ (s.chip.Allows src R.fcCtrl (force F.fcCtrlWithdraw 1 v) → bitAt v 30 = false →
        s.chip.fb F.fcStatWithdrawn = false → s.chip.domainRuns 2 = true → s.chip.domainRuns 4 = true →
        s.chip.cmt.outs.length = 24 →
      Does (.fcWithdraw src v) s fun t => t.f F.fcStatWithdrawn = 1 ∧ t.svc = svcWithdrawn
        ∧ t.fc.tw = some s.chip.newestTrig ∧ t.f F.cmtStatOut = 0 ∧ (∀ k < 24, t.outS k = ⟨[], []⟩)
        ∧ t.f F.jobStatRun = s.chip.f F.jobStatRun ∧ .status 0 ∈ t.out)
    ∧ (∀ tw, s.chip.fc.tw = some tw → s.chip.fc.l5 = false → (∀ n < 8, (s.chip.link n).trigs = []) →
      Does .withdrawTrigRoundLeft s fun t => t.f F.jobStatRun = 0 ∧ t.fc.tw = none ∧ t.stc.lines = [] ∧ t.stc.webq = []
        ∧ (∀ n < 8, t.f (F.linkCtrlEn n) = 0) ∧ t.cmt.pnext = none ∧ t.cmt.due = none
        ∧ (s.chip.sst = sstArmed ∨ s.chip.sst = sstDecided → t.sst = sstOpen))
    ∧ (s.chip.Allows src R.fcCtrl (force F.fcCtrlResume 1 v) → bitAt v 29 = false →
      Does (.fcResume src v) s fun t => t.f F.fcStatWithdrawn = 0
        ∧ t.svc = (if s.chip.pairMode then svcAlone else svcSingle) ∧ .status 0 ∈ t.out))
  ∧ ∀ (s : State) (src : Src) (v : Word) (e : Nat), e < 68 → s.chip.domainRuns 1 = true →
    let hours := ((List.range 5).map fun b => binWeight b * s.chip.tallyHours (e / 17) b).sum
    let wear := min ((s.chip.optWord (0x1510 + e)).toNat + hours) (2 ^ 32 - 1)
    (s.chip.engState e = engActive → Does .wearHourly s fun t => (t.optWord (0x1510 + e)).toNat = wear
      ∧ (s.chip.f F.fcWearLimLim ≤ wear → (s.chip.spareOf (e / 17)).isSome = true ∨ s.chip.shp.worn.contains e = false →
        ⟨0x23, e, false⟩ ∈ t.reports))
    ∧ (s.chip.engState e ≠ engActive → Does .wearHourly s fun t => t.optWord (0x1510 + e) = s.chip.optWord (0x1510 + e))
    ∧ (s.chip.Allows src R.fcWearLim v → Does (.fcWearLimWrite src v) s fun t => t.f F.fcWearLimLim = v.toNat
      ∧ t.shp.worn = [] ∧ .status 0 ∈ t.out ∧ s.chip.Keeps t [R.fcWearLim, R.scpSession])

/-- Service of the pair (R450, R451, R453, R458, R460, R461): STATE is sent and taken; the mate's loss and its withdrawal; the join
from its command to the field and digest sequence the joiner takes. The model's choices (log entry 29): the bank is locked by JOIN_ACK
alone, a NAK sets JOIN_FAIL, and rows 1 and 2 of R451 apply word for word. -/
def Obligations.PairService : Prop :=
  ∀ (s : State) (src : Src) (v : Word) (pk : RxPkt), s.chip.domainRuns 4 = true →
    let b := fun (lo n : Nat) => fieldBE pk.bytes lo n
    let active := s.chip.pairMode = true ∧ s.chip.linkSt 8 = lkActive
    let sent := fun (k : Nat) (body : List Byte) (t : Chip) => t.out = [.packet 8 (mkPacket 8
      (natBytesBE 1 k ++ natBytesBE 1 0 ++ natBytesBE 2 s.chip.pair.mseq ++ body))]
    (active → Does .pairStateSend s fun t => sent 0x01 (natBytesBE 1 s.chip.svc
        ++ natBytesBE 1 (s.chip.f F.jobStatRun + 2 * s.chip.f F.cmtStatSource) ++ natBytesBE 1 (s.chip.f F.jobStatProfAct)
        ++ natBytesBE 1 (s.chip.f F.ieStatAcq) ++ natBytesBE 4 (s.chip.f F.plActDigestDigest)) t ∧ s.chip.Keeps t [])
    ∧ (s.chip.Hears 0x01 pk → s.chip.svc = svcAlone → s.chip.linkSt 8 = lkActive →
      (s.chip.running = false → b 9 1 % 2 = 0 → Does (.pairStateRx pk) s fun t => t.svc = svcPaired
        ∧ t.f F.plEvtPaired = 1 ∧ t.f F.plStatMateRun = 0 ∧ t.f F.plStatMateSvc = b 8 1 % 8
        ∧ t.pair.mateDig = b 12 4 ∧ t.pair.seen = true)
      ∧ (s.chip.running = true → b 9 1 % 2 = 1 → s.chip.pair.both = false →
        Does (.pairStateRx pk) s fun t => t.svc = svcAlone ∧ t.f F.plEvtBothServe = 1 ∧ t.pair.both = true
          ∧ ⟨0x80, 3, false⟩ ∈ t.reports))
    ∧ (s.chip.svc = svcPaired → s.chip.pair.serveAck = false →
      (Does .pairStateTimeout s fun t => t.svc = svcAlone ∧ t.f F.plEvtMateLost = 1 ∧ ⟨0x81, 0, false⟩ ∈ t.reports)
      ∧ (s.chip.Hears 0x0C pk → Does (.pairWithdrawRx pk) s fun t => t.svc = svcAlone ∧ t.f F.plEvtMateWd = 1
        ∧ ⟨0x82, 0, false⟩ ∈ t.reports ∧ t.pair.gone = true))
    ∧ (s.chip.Allows src R.plCmd (force F.plCmdJoin 1 v) → s.chip.joinAllowed = true →
      let sums := s.chip.sums s.chip.staged (s.chip.f (F.sspPselProd s.chip.staged)) (s.chip.fmax s.chip.staged)
      (s.chip.armStep2 = true → s.chip.armStep3 = true → s.chip.armStep4 = true → sums.fails = 0 →
        Does (.pairJoinCmd src v) s fun t => t.pair.joinReq = true ∧ t.rd R.jobDigest = s.chip.armDigest
          ∧ t.pair.resend = some (0x0E, s.chip.armDigest.toNat) ∧ t.f F.plStatJoinStatus = 0 ∧ .status 0 ∈ t.out)
      ∧ (s.chip.armStep2 = false → Does (.pairJoinCmd src v) s fun t => t.f F.plStatJoinStatus = 0x03
        ∧ t.pair.joinReq = s.chip.pair.joinReq ∧ t.out = [.status 0x03]))
    ∧ (s.chip.Hears 0x0E pk → s.chip.linkSt 8 = lkActive →
      (b 8 4 = s.chip.f F.plActDigestDigest → Does (.pairJoinRx pk) s fun t => sent 0x0F (0#8 :: natBytesBE 7 0) t
        ∧ t.pair.serveAck = true ∧ s.chip.Keeps t [R.plMsgLost])
      ∧ (b 8 4 ≠ s.chip.f F.plActDigestDigest → Does (.pairJoinRx pk) s fun t => sent 0x0F (1#8 :: natBytesBE 7 0) t
        ∧ t.pair.serveAck = s.chip.pair.serveAck ∧ s.chip.Keeps t [R.plMsgLost]))
    ∧ (s.chip.Hears 0x0F pk → s.chip.pair.joinReq = true →
      (b 8 1 = 0 → Does (.pairJoinAckRx pk) s fun t => t.svc = svcJoining ∧ t.sst = sstArmed ∧ t.f F.jobEvtArmed = 1
        ∧ t.pair.joinAck = true ∧ t.pair.joinReq = false)
      ∧ (b 8 1 ≠ 0 → Does (.pairJoinAckRx pk) s fun t => t.pair.joinReq = false ∧ t.f F.plStatJoinStatus = 0x0A
        ∧ t.f F.plEvtJoinFail = 1 ∧ s.chip.Keeps t [R.plMsgLost, R.plStat, R.plEvt]))
    ∧ (s.chip.Hears 0x0F pk → s.chip.pair.joinReq = false → s.chip.svc = svcJoining → b 8 1 ≠ 0 →
      Does (.pairJoinAckRx pk) s fun t => t.svc = svcAlone ∧ t.sst = sstOpen ∧ t.f F.plStatJoinStatus = 0x0A
        ∧ t.f F.plEvtJoinFail = 1 ∧ t.pair.joinAck = false)
    ∧ (∀ r, s.chip.Hears 0x10 pk → s.chip.pair.joinRep = some r →
        (∀ fb ∈ s.chip.ie.bands, fb.band.first = b 8 4 → fb.joinWait = false) →
      Does (.pairFieldRx pk) s fun t => t.pair.fields = s.chip.pair.fields ++ [(b 8 4, pk.bytes)]
        ∧ s.chip.Keeps t [R.plMsgLost])
    ∧ (s.chip.Hears 0x11 pk → s.chip.pair.joinDseq = true →
      Does (.pairDseqRx pk) s fun t => t.f F.csDseqDseq = b 12 4 ∧ t.pair.joinDseq = false
        ∧ s.chip.Keeps t [R.plMsgLost, F.csDseqDseq.addr])

/-- Comparison with the mate (R455, R456): band digests agree, differ or are missed; a time check request leaves with the time of
its round, is answered with the mate's times, and its answer gives the offset. That the offset is floored to whole ns and the first request carries SEQ 1 is the
model's choice (log entry 29). -/
def Obligations.PairChecks : Prop :=
  ∀ (s : State) (pk : RxPkt), s.chip.domainRuns 4 = true →
    let b := fun (lo n : Nat) => fieldBE pk.bytes lo n
    let sent := fun (body : List Byte) (t : Chip) => t.out = [.packet 8 (mkPacket 8
      (natBytesBE 1 0x0B ++ natBytesBE 1 0 ++ natBytesBE 2 s.chip.pair.mseq ++ body))]
    (s.chip.Hears 0x0A pk → s.chip.svc = svcPaired →
      (∀ o, s.chip.pair.ownDigs.find? (fun p => p.1 == b 8 4) = some (b 8 4, o) →
        (o = b 12 4 → Does (.pairBdigRx pk) s fun t => t.f F.plDivCntCount = s.chip.f F.plDivCntCount
          ∧ t.pair.ownDigs = s.chip.pair.ownDigs.filter (fun q => q.1 != b 8 4) ∧ s.chip.Keeps t [R.plMsgLost])
        ∧ (o ≠ b 12 4 → Does (.pairBdigRx pk) s fun t => t.f F.plEvtDiverge = 1 ∧ t.f F.plLastDivTrig = b 8 4
          ∧ t.f F.plDivCntCount = satAdd 32 (s.chip.f F.plDivCntCount) 1 ∧ ⟨0x80, 0, false⟩ ∈ t.reports))
      ∧ (s.chip.pair.ownDigs.find? (fun p => p.1 == b 8 4) = none → s.chip.pair.mateDigs.length < 64 →
        Does (.pairBdigRx pk) s fun t => t.pair.mateDigs = s.chip.pair.mateDigs ++ [(b 8 4, b 12 4)]
          ∧ s.chip.Keeps t [R.plMsgLost]))
    ∧ (∀ x rest, s.chip.pair.ownDigs = x :: rest → Does .pairBdigTimeout s fun t => t.pair.ownDigs = rest
        ∧ t.f F.plDigMissCount = satAdd 32 (s.chip.f F.plDigMissCount) 1 ∧ s.chip.Keeps t [R.plDigMiss])
    ∧ (s.chip.pairMode = true → s.chip.linkSt 8 = lkActive → ∀ q, q = (s.chip.pair.tSeq + 1) % 256 →
      Does .pairTchkTimer s fun t => t.pair.tSeq = q ∧ t.pair.tOut = some (q, (s.chip.roundEndNs : Int))
        ∧ sent (natBytesBE 1 0 ++ natBytesBE 1 q ++ natBytesBE 2 0 ++ timeBytes s.chip.roundEndNs ++ natBytesBE 10 0
          ++ natBytesBE 10 0 ++ natBytesBE 2 0) t ∧ s.chip.Keeps t [])
    ∧ (s.chip.Hears 0x0B pk → s.chip.linkSt 8 = lkActive → b 8 1 = 0 →
      Does (.pairTchkRx pk) s fun t => sent (natBytesBE 1 1 ++ natBytesBE 1 (b 9 1) ++ natBytesBE 2 0
        ++ (pk.bytes.drop 12).take 10 ++ timeBytes s.chip.nowNs ++ timeBytes s.chip.roundEndNs ++ natBytesBE 2 0) t
        ∧ s.chip.Keeps t [R.plMsgLost])
    ∧ ∀ t1 off, s.chip.Hears 0x0B pk → b 8 1 ≠ 0 → s.chip.pair.tOut = some (b 9 1, t1) →
        off = (((timeOfBytes ((pk.bytes.drop 22).take 10) : Int) - t1)
          - ((s.chip.nowNs : Int) - timeOfBytes ((pk.bytes.drop 32).take 10))) / 2 →
      ((off.natAbs : Int) ≤ s.chip.f F.plTcfgTol → Does (.pairTchkRx pk) s fun t => t.fs F.plTofsOfs = satSigned 32 off
        ∧ t.pair.tOut = none ∧ s.chip.Keeps t [R.plMsgLost, R.plTofs])
      ∧ ((s.chip.f F.plTcfgTol : Int) < (off.natAbs : Int) → Does (.pairTchkRx pk) s fun t =>
        t.fs F.plTofsOfs = satSigned 32 off ∧ t.f F.plEvtTimeDiff = 1 ∧ ⟨0x86, 0, false⟩ ∈ t.reports
          ∧ t.f F.plTimeErrCount = satAdd 32 (s.chip.f F.plTimeErrCount) 1)

/-- The DDR5 controllers (R468, R470 to R475): initialization step by step; a scrub piece waits as a Fold 3 item, its cost
a free value (log entry 33), starts on an engine, and as it ends corrects and reports what it met; row copies, which correct their
row (which place holds an address is left open, and which words a pass meets, log entry 21); post-package repair of remap entries, which
waits for accepted writes to land; temperatures with the limit that makes a channel unusable; and the remap list read
entry by entry. A failed reading keeps the run of hot ones (log entry 35), and when a command comes is the environment's choice
(log entry 6). -/
def Obligations.MemoryChannels : Prop :=
  ∀ (s : State) (src : Src) (n : Nat) (v : Word), n < 6 → s.chip.mcs.length = 6 → s.chip.domainRuns 6 = true →
    let m := s.chip.mc n
    let st := s.chip.f (F.mcStatState n)
    (s.chip.Allows src R.mc0Ctrl (force F.mc0CtrlInit 1 v) → s.chip.fb (F.mcCfgPop n) = true →
      Does (.mcInit src v) s fun t => t.f (F.mcStatState n) = mcTraining ∧ (t.mc n).step = 1 ∧ .status 0 ∈ t.out)
    ∧ (st = mcTraining →
      (m.step < 5 → Does (.mcTrainStepDone n true) s fun t => (t.mc n).step = m.step + 1 ∧ s.chip.Keeps t [])
      ∧ (5 ≤ m.step → Does (.mcTrainStepDone n true) s fun t => t.f (F.mcStatState n) = mcReady
        ∧ (∀ a, ddrBase ≤ a → t.byte a = 0#8) ∧ (∀ a < ddrBase, t.byte a = s.chip.byte a)
        ∧ ((∀ k < 6, k ≠ n → s.chip.fb (F.mcCfgPop k) = true → s.chip.f (F.mcStatState k) = mcReady) →
          t.f (F.mcStatInitDone 0) = 1))
      ∧ Does (.mcTrainStepDone n false) s fun t => t.f (F.mcStatState n) = mcFailed ∧ ⟨0x12, n, false⟩ ∈ t.reports)
    ∧ (∀ hits pass, s.chip.shp.queue = [] →
      (s.chip.fb F.shpCtrlF3En = false ∨ s.chip.scrubbable n = false →
        Does (.mcScrubPiece n hits pass) s fun t => (∃ w : WorkItem, t.shp.queue = [w] ∧ w.fold = 3 ∧ w.kind = 1 ∧ w.bseq = n
          ∧ w.hits = hits ∧ w.pass = pass ∧ w.cycles16 ≤ 327680) ∧ t.shp.run = s.chip.shp.run ∧ s.chip.Keeps t [])
      ∧ ∀ e, s.chip.scrubbable n = true → s.chip.fb F.shpCtrlF3En = true →
          (∀ w : WorkItem, w.fold = 3 → w.kind = 1 → s.chip.placeFor w = some e) →
          (∀ w : WorkItem, w.cycles16 ≤ 327680 → (s.chip.itemCost w (e / 17) : Int) ≤ s.chip.shp.rem) →
        Does (.mcScrubPiece n hits pass) s fun t => t.shp.queue = []
          ∧ (∃ w : WorkItem, t.shp.run = s.chip.shp.run ++ [(e, w)] ∧ w.fold = 3 ∧ w.kind = 1 ∧ w.bseq = n ∧ w.hits = hits
            ∧ w.pass = pass ∧ t.shp.rem = s.chip.shp.rem - (s.chip.itemCost w (e / 17) : Int))
          ∧ t.f (F.shpStartCount 3) = satAdd (F.shpStartCount 3).width (s.chip.f (F.shpStartCount 3)) 1 ∧ t.ecc = s.chip.ecc
          ∧ s.chip.Keeps t [(F.shpStartCount 3).addr, F.shpRemRem.addr])
    ∧ (∀ e ok w, e < 68 → s.chip.domainRuns 3 = true → s.chip.running? e = some w → w.fold = 3 → w.kind = 1 → w.bseq = n →
        s.chip.shp.retiring.contains e = false → s.chip.scrubbable n = true →
      let ends := fun (P : Chip → Prop) (l : List Nat) => Does (.backgroundPieceComplete e ok) s fun t => P t
        ∧ t.running? e = none ∧ t.shp.queue = s.chip.shp.queue ∧ s.chip.Keeps t l
      (w.hits = [] → w.pass = false → ends (fun t => t.ecc = s.chip.ecc) [])
      ∧ (w.hits = [] → w.pass = true → s.chip.ecc = [] → ends (fun t => (t.mc n).scrubbed = []
          ∧ t.f (F.mcScrubPassCount n) = satAdd (F.mcScrubPassCount n).width (s.chip.f (F.mcScrubPassCount n)) 1)
        [(F.mcScrubPassCount n).addr])
      ∧ ∀ x, s.chip.inChannel n x = true → s.chip.ecc = [] →
        (w.hits = [(x, false)] → w.pass = false → ends (fun t => t.ecc = []
            ∧ t.f (F.mcCorrCount n) = satAdd (F.mcCorrCount n).width (s.chip.f (F.mcCorrCount n)) 1) [(F.mcCorrCount n).addr])
        ∧ (w.hits = [(x, true)] → w.pass = false → 8 * x < s.chip.ddrTop → 8 * x < 2 ^ 40 → ends (fun t => t.ecc = [(x, true)]
            ∧ t.f (F.mcUncorrCount n) = satAdd (F.mcUncorrCount n).width (s.chip.f (F.mcUncorrCount n)) 1
            ∧ t.f (F.mcUeLoAddr n) = 8 * x % 2 ^ 32 ∧ t.f (F.mcUeHiAddr n) = 8 * x / 2 ^ 32 ∧ ⟨0x11, n, false⟩ ∈ t.reports)
          [(F.mcUncorrCount n).addr, (F.mcUeLoAddr n).addr, (F.mcUeHiAddr n).addr]))
    ∧ (∀ i w rest, m.copying = (i, w) :: rest → Does (.mcRowRepairDone n) s fun t => (t.mc n).copying = rest
        ∧ (t.mc n).rmap = sins i w m.rmap
        ∧ (∀ p, p ∈ t.ecc ↔ p ∈ s.chip.ecc ∧ ¬(p.2 = false ∧ s.chip.inChannel n p.1 = true
            ∧ s.chip.dramRow n (8 * p.1) = w.toNat % 2 ^ 24))
        ∧ s.chip.Keeps t [R.mcStat n, (F.mcCorrCount n).addr])
    ∧ (m.copying = [] → Does (.mcRowRepairDone n) s fun t => t.mc n = m ∧ s.chip.Keeps t [])
    ∧ ((∃ p ∈ m.rmap, bitAt p.2 30 = true) →
      let starts := fun (op : Nat) (t : Chip) => (t.mc n).rmap = m.rmap ∧ .status 0 ∈ t.out
        ∧ (s.chip.landsIn n = false → (t.mc n).ppr = op ∧ (t.mc n).pprWait = 0)
        ∧ (s.chip.landsIn n = true → (t.mc n).ppr = m.ppr ∧ (t.mc n).pprWait = op)
      (s.chip.Allows src (R.mcCmd n) (force (F.mcCmdOp n) 1 v) → Does (.mcHppr src n v) s (starts 1))
      ∧ (s.chip.Allows src (R.mcCmd n) (force (F.mcCmdOp n) 2 v) → Does (.mcSppr src n v) s (starts 2)))
    ∧ (∀ i w, m.ppr ≠ 0 → m.rmap.find? (fun p => bitAt p.2 30) = some (i, w) →
      (Does (.mcPprDone n true) s fun t => (∀ p ∈ (t.mc n).rmap, p.1 ≠ i)
        ∧ (t.mc n).rmap = m.rmap.filter (fun p => p.1 != i))
      ∧ Does (.mcPprDone n false) s fun t => t.f (F.mcStatPprFail n) = 1
        ∧ sget (fun _ => 0#32) (t.mc n).rmap i = w &&& ~~~(1#32 <<< 30))
    ∧ (∀ (hot : Bool) (a : Int), s.chip.fb (F.mcCfgPop n) = true → s.chip.f (F.mcTsAddr0 n) ≠ 0 → -32768 ≤ a → a < 32768 →
      let lim : Int := 16 * s.chip.f (F.mcThermTmax n)
      let reads := fun (i : Instr) => (a ≤ lim → Does i s fun t => t.fs (F.mcTempTemp n) = a
          ∧ (t.f (F.mcStatHot n) = 1 ↔ hot = true ∨ 1360 ≤ a) ∧ (t.mc n).hotRun = 0 ∧ t.f (F.mcStatState n) = st)
        ∧ (lim < a → 2 ≤ m.hotRun → st ≠ mcUnusable → Does i s fun t => t.f (F.mcStatState n) = mcUnusable
          ∧ ⟨0x12, n, false⟩ ∈ t.reports)
      reads (.mcI2cReadTimeout n true (some a) hot)
      ∧ ∀ a' : Int, a' ≤ a → reads (.mcTempRead n (some a) (some a') hot))
    ∧ (s.chip.AllowsRead src (R.mcRmapData n) →
      Does (.mcRmapDataRead src n) s fun t =>
        .status (sget (fun _ => 0#32) m.rmap (s.chip.f (F.mcRmapIdxIdx n))).toNat ∈ t.out
        ∧ t.f (F.mcRmapIdxIdx n) = (s.chip.f (F.mcRmapIdxIdx n) + 1) % 256)

/-- The test access port (R483, R487, R496, R497): each instruction with what it shifts out, and who drives the output balls while it is
selected: the boundary register, nobody or the device; what the blocks hand to the balls does not leave while scan holds them; PULSE and
TRAIN send the cells of the lane pairs as test patterns; while VDD_AON is low no scan acts and no ball is driven. Registers and memories
are never touched. The order of the cells and that the levels under a new instruction are captured is the model's choice (log entry
32). -/
def Obligations.TestPort : Prop :=
  ∀ (s : State) (v : Nat), v < 2 ^ boundaryCells →
    let shifts := fun (ir out : Nat) (more : List Out) (t : Chip) => t.jtag.ir = ir ∧ t.jtag.dr = out ∧ t.jtag.tlr = false
      ∧ t.out = .tdo out :: more ∧ s.chip.Keeps t []
    let held := fun (t : Chip) => ∀ l, ({ t with out := l } : Chip).leaves = l.filter fun o => !o.overBalls
    let scans := fun (ir : Nat) (more : List Out) (t : Chip) => shifts ir (s.chip.boundaryCapture ir) more t ∧ t.jtag.bsr = v
      ∧ (∀ k < outputCells, t.ball k = some (v.testBit k)) ∧ held t
    let device := fun (t : Chip) => (∀ k < outputCells, t.ball k = t.ballDrive k) ∧ (∀ l, ({ t with out := l } : Chip).leaves = l)
      ∧ ∀ k < 39, k ≠ 26 → t.ball k = s.chip.ballDrive k
    (Does .jtagTrst s fun t => t.jtag.ir = 0x01 ∧ t.jtag.dr = 0x10880A95 ∧ t.jtag.tlr = true ∧ s.chip.Keeps t []
      ∧ (s.chip.boot.aonLow = false → device t))
    ∧ (s.chip.boot.aonLow = false →
      Does (.jtagExtest v) s (scans 0x00 [])
      ∧ Does (.jtagExtestPulse v) s (scans 0x08 [.acTest false (v / 2 ^ 797 % 2 ^ 52)])
      ∧ Does (.jtagExtestTrain v) s (scans 0x09 [.acTest true (v / 2 ^ 797 % 2 ^ 52)])
      ∧ (Does (.jtagSamplePreload v) s fun t => shifts 0x02 (s.chip.boundaryCapture 0x02) [] t ∧ t.jtag.bsr = v ∧ device t)
      ∧ (Does .jtagIdcode s fun t => shifts 0x01 0x10880A95 [] t ∧ device t)
      ∧ (Does .jtagHighz s fun t => shifts 0x05 0 [] t ∧ (∀ k < outputCells, t.ball k = none) ∧ held t)
      ∧ (Does .jtagClamp s fun t => shifts 0x06 0 [] t
          ∧ (∀ k < outputCells, t.ball k = some (s.chip.jtag.bsr.testBit k)) ∧ held t)
      ∧ (Does .jtagBootstat s fun t => shifts 0x20 (s.chip.rd R.glbBootStat).toNat [] t ∧ device t)
      ∧ ∀ code < 256, code ∉ [0x00, 0x01, 0x02, 0x05, 0x06, 0x08, 0x09, 0x20] →
        Does (.jtagBypass code) s fun t => shifts code 0 [] t ∧ device t)
    ∧ (s.chip.boot.aonLow = true →
      ∀ i ∈ [Instr.jtagExtest v, .jtagExtestPulse v, .jtagExtestTrain v, .jtagSamplePreload v, .jtagIdcode, .jtagHighz, .jtagClamp,
          .jtagBootstat],
        Does i s fun t => t.jtag = s.chip.jtag ∧ t.out = [] ∧ t.leaves = [] ∧ (∀ k, t.ball k = none) ∧ s.chip.Keeps t [])

/-- A step takes the command in front of the queue and runs it on the rest; with no command waiting the device runs one
period of the TIME clock (the model's choice, log entry 1). -/
def Obligations.StepRunsFront : Prop :=
  (∀ (s : State) (i : Instr) (rest : List Instr),
    step { s with pending := i :: rest } = exec i { s with pending := rest })
  ∧ ∀ s : State, s.pending = [] → step s = .next { s with chip := s.chip.tick }

/-- The machine right after reset: no command waits, the device is in its reset hold, every register holds its reset value
and every byte of the memories reads 0 (R411, R413); what the spec gives no value for is the model's choice (log entries 2 to
4). -/
def Obligations.ResetValues : Prop :=
  State.reset.pending = [] ∧ State.reset.chip.boot.hold = true ∧ (∀ a, State.reset.chip.rd a = resetVal a)
    ∧ (∀ a, State.reset.chip.byte a = 0#8) ∧ State.reset.Inv ∧ State.reset.chip.SumShown ∧ State.reset.chip.Quiet

/-- Every command answers a next state, and none of them touches the queue. -/
def Obligations.CommandsComplete : Prop :=
  ∀ (i : Instr) (s : State), ∃ t, exec i s = .next t ∧ t.pending = s.pending

/-- Every step keeps registers and memories in canonical form. -/
def Obligations.CanonicalKept : Prop := ∀ s t : State, s.Inv → step s = .next t → t.Inv

/-- Where SCP_SUM shows the event registers as R352 says, it shows them after every step too, whatever the command. -/
def Obligations.SummaryKept : Prop := ∀ s t : State, s.chip.SumShown → step s = .next t → t.chip.SumShown
end

