-- ==== Sys2Proof/Laws/Bits.lean ====
section
/-! SUPPORT. Laws/Bits.lean: bit fields of a word: reading back what was put, and what putting leaves alone. -/

namespace Sys2Proof.Machine

theorem getLsbD_bitMask (lo width i : Nat) :
    (bitMask lo width).getLsbD i = (decide (i < 32) && decide (lo ≤ i) && decide (i < lo + width)) := by
  unfold bitMask
  rw [BitVec.getLsbD_shiftLeft, BitVec.getLsbD_ofNat, Nat.testBit_two_pow_sub_one]
  rcases Nat.lt_or_ge i lo with h | h
  · simp [h, Nat.not_le.mpr h]
  · have h1 : i < 32 → i - lo < 32 := by omega
    have h2 : i - lo < width ↔ i < lo + width := by omega
    by_cases h3 : i < 32 <;> simp [h, h2, h3, h1, Nat.not_lt.mpr h]

theorem getLsbD_putBits (w : Word) (lo width v i : Nat) :
    (putBits w lo width v).getLsbD i
      = if i < 32 ∧ lo ≤ i ∧ i < lo + width then v.testBit (i - lo) else w.getLsbD i := by
  unfold putBits
  rw [BitVec.getLsbD_or, BitVec.getLsbD_and, BitVec.getLsbD_not, getLsbD_bitMask, BitVec.getLsbD_shiftLeft,
    BitVec.getLsbD_and, BitVec.getLsbD_ofNat, BitVec.getLsbD_ofNat, Nat.testBit_two_pow_sub_one]
  by_cases h1 : i < 32
  · rcases Nat.lt_or_ge i lo with h | h
    · simp [h1, h, Nat.not_le.mpr h]
    · have h2 : i - lo < 32 := by omega
      have h3 : i - lo < width ↔ i < lo + width := by omega
      by_cases h4 : i < lo + width <;> simp [h1, h, h2, h3, h4, Nat.not_lt.mpr h]
  · have : w.getLsbD i = false := BitVec.getLsbD_of_ge _ _ (by omega)
    simp [h1, this]

theorem testBit_getBits (w : Word) (lo width i : Nat) :
    (getBits w lo width).testBit i = (decide (i < width) && w.getLsbD (lo + i)) := by
  unfold getBits
  rw [BitVec.testBit_toNat, BitVec.getLsbD_and, BitVec.getLsbD_ushiftRight, BitVec.getLsbD_ofNat,
    Nat.testBit_two_pow_sub_one]
  by_cases h1 : i < 32
  · by_cases h2 : i < width <;> simp [h1, h2]
  · have : w.getLsbD (lo + i) = false := BitVec.getLsbD_of_ge _ _ (by omega)
    simp [this]

theorem getBits_lt (w : Word) (lo width : Nat) : getBits w lo width < 2 ^ width := by
  apply Nat.lt_pow_two_of_testBit
  intro i hi
  rw [testBit_getBits]
  simp; omega

/-- A field reads as what was put there, modulo its width. -/
theorem getBits_putBits (w : Word) {lo width : Nat} (v : Nat) (h : lo + width ≤ 32) :
    getBits (putBits w lo width v) lo width = v % 2 ^ width := by
  apply Nat.eq_of_testBit_eq
  intro i
  rw [testBit_getBits, getLsbD_putBits, Nat.testBit_mod_two_pow]
  by_cases h1 : i < width
  · rw [if_pos (by omega)]; simp [h1]
  · simp [h1]

/-- Putting a field leaves every disjoint field alone. -/
theorem getBits_putBits_disjoint (w : Word) {lo width lo' width' : Nat} (v : Nat)
    (h : lo + width ≤ lo' ∨ lo' + width' ≤ lo) :
    getBits (putBits w lo width v) lo' width' = getBits w lo' width' := by
  apply Nat.eq_of_testBit_eq
  intro i
  rw [testBit_getBits, testBit_getBits, getLsbD_putBits]
  by_cases h1 : i < width'
  · rw [if_neg (by omega)]
  · simp [h1]

theorem putBits_getBits (w : Word) (lo width : Nat) : putBits w lo width (getBits w lo width) = w := by
  apply BitVec.eq_of_getLsbD_eq
  intro i hi
  rw [getLsbD_putBits, testBit_getBits]
  split
  · rename_i h
    have h1 : i - lo < width := by omega
    have h2 : lo + (i - lo) = i := by omega
    simp [h1, h2]
  · rfl

end Sys2Proof.Machine
end

