-- ==== Sys2Proof/Laws/State.lean ====
section
/-! SUPPORT. Laws/State.lean: one lemma for each field and each plain update of the device, true by unfolding, so that no
proof unfolds a record update; and what an update that is no register write leaves of every register. -/

namespace Sys2Proof.Machine

variable (c : Chip)

@[simp] theorem Chip.wr_mem (a : Nat) (v : Word) : (c.wr a v).mem = c.mem := rfl
@[simp] theorem Chip.wr_ecc (a : Nat) (v : Word) : (c.wr a v).ecc = c.ecc := rfl
@[simp] theorem Chip.wr_opt (a : Nat) (v : Word) : (c.wr a v).opt = c.opt := rfl
@[simp] theorem Chip.wr_win (a : Nat) (v : Word) : (c.wr a v).win = c.win := rfl
@[simp] theorem Chip.wr_mcs (a : Nat) (v : Word) : (c.wr a v).mcs = c.mcs := rfl
@[simp] theorem Chip.wr_cvus (a : Nat) (v : Word) : (c.wr a v).cvus = c.cvus := rfl
@[simp] theorem Chip.wr_eqs (a : Nat) (v : Word) : (c.wr a v).eqs = c.eqs := rfl
@[simp] theorem Chip.wr_cmt (a : Nat) (v : Word) : (c.wr a v).cmt = c.cmt := rfl
@[simp] theorem Chip.wr_lanes (a : Nat) (v : Word) : (c.wr a v).lanes = c.lanes := rfl
@[simp] theorem Chip.wr_ports (a : Nat) (v : Word) : (c.wr a v).ports = c.ports := rfl
@[simp] theorem Chip.wr_links (a : Nat) (v : Word) : (c.wr a v).links = c.links := rfl
@[simp] theorem Chip.wr_fes (a : Nat) (v : Word) : (c.wr a v).fes = c.fes := rfl
@[simp] theorem Chip.wr_stc (a : Nat) (v : Word) : (c.wr a v).stc = c.stc := rfl
@[simp] theorem Chip.wr_ie (a : Nat) (v : Word) : (c.wr a v).ie = c.ie := rfl
@[simp] theorem Chip.wr_shp (a : Nat) (v : Word) : (c.wr a v).shp = c.shp := rfl
@[simp] theorem Chip.wr_ssp (a : Nat) (v : Word) : (c.wr a v).ssp = c.ssp := rfl
@[simp] theorem Chip.wr_job (a : Nat) (v : Word) : (c.wr a v).job = c.job := rfl
@[simp] theorem Chip.wr_orb (a : Nat) (v : Word) : (c.wr a v).orb = c.orb := rfl
@[simp] theorem Chip.wr_fc (a : Nat) (v : Word) : (c.wr a v).fc = c.fc := rfl
@[simp] theorem Chip.wr_pair (a : Nat) (v : Word) : (c.wr a v).pair = c.pair := rfl
@[simp] theorem Chip.wr_dma (a : Nat) (v : Word) : (c.wr a v).dma = c.dma := rfl
@[simp] theorem Chip.wr_clk (a : Nat) (v : Word) : (c.wr a v).clk = c.clk := rfl
@[simp] theorem Chip.wr_boot (a : Nat) (v : Word) : (c.wr a v).boot = c.boot := rfl
@[simp] theorem Chip.wr_scp (a : Nat) (v : Word) : (c.wr a v).scp = c.scp := rfl
@[simp] theorem Chip.wr_jtag (a : Nat) (v : Word) : (c.wr a v).jtag = c.jtag := rfl
@[simp] theorem Chip.wr_retrain (a : Nat) (v : Word) : (c.wr a v).retrain = c.retrain := rfl
@[simp] theorem Chip.wr_log (a : Nat) (v : Word) : (c.wr a v).log = c.log := rfl
@[simp] theorem Chip.wr_headWrites (a : Nat) (v : Word) : (c.wr a v).headWrites = c.headWrites := rfl
@[simp] theorem Chip.wr_reports (a : Nat) (v : Word) : (c.wr a v).reports = c.reports := rfl
@[simp] theorem Chip.wr_defers (a : Nat) (v : Word) : (c.wr a v).defers = c.defers := rfl
@[simp] theorem Chip.wr_out (a : Nat) (v : Word) : (c.wr a v).out = c.out := rfl
@[simp] theorem Chip.wr_freeCtr (a : Nat) (v : Word) : (c.wr a v).freeCtr = c.freeCtr := rfl

@[simp] theorem Chip.setF_mem (x : Fld) (v : Nat) : (c.setF x v).mem = c.mem := rfl
@[simp] theorem Chip.setF_ecc (x : Fld) (v : Nat) : (c.setF x v).ecc = c.ecc := rfl
@[simp] theorem Chip.setF_opt (x : Fld) (v : Nat) : (c.setF x v).opt = c.opt := rfl
@[simp] theorem Chip.setF_win (x : Fld) (v : Nat) : (c.setF x v).win = c.win := rfl
@[simp] theorem Chip.setF_mcs (x : Fld) (v : Nat) : (c.setF x v).mcs = c.mcs := rfl
@[simp] theorem Chip.setF_cvus (x : Fld) (v : Nat) : (c.setF x v).cvus = c.cvus := rfl
@[simp] theorem Chip.setF_eqs (x : Fld) (v : Nat) : (c.setF x v).eqs = c.eqs := rfl
@[simp] theorem Chip.setF_cmt (x : Fld) (v : Nat) : (c.setF x v).cmt = c.cmt := rfl
@[simp] theorem Chip.setF_lanes (x : Fld) (v : Nat) : (c.setF x v).lanes = c.lanes := rfl
@[simp] theorem Chip.setF_ports (x : Fld) (v : Nat) : (c.setF x v).ports = c.ports := rfl
@[simp] theorem Chip.setF_links (x : Fld) (v : Nat) : (c.setF x v).links = c.links := rfl
@[simp] theorem Chip.setF_fes (x : Fld) (v : Nat) : (c.setF x v).fes = c.fes := rfl
@[simp] theorem Chip.setF_stc (x : Fld) (v : Nat) : (c.setF x v).stc = c.stc := rfl
@[simp] theorem Chip.setF_ie (x : Fld) (v : Nat) : (c.setF x v).ie = c.ie := rfl
@[simp] theorem Chip.setF_shp (x : Fld) (v : Nat) : (c.setF x v).shp = c.shp := rfl
@[simp] theorem Chip.setF_ssp (x : Fld) (v : Nat) : (c.setF x v).ssp = c.ssp := rfl
@[simp] theorem Chip.setF_job (x : Fld) (v : Nat) : (c.setF x v).job = c.job := rfl
@[simp] theorem Chip.setF_orb (x : Fld) (v : Nat) : (c.setF x v).orb = c.orb := rfl
@[simp] theorem Chip.setF_fc (x : Fld) (v : Nat) : (c.setF x v).fc = c.fc := rfl
@[simp] theorem Chip.setF_pair (x : Fld) (v : Nat) : (c.setF x v).pair = c.pair := rfl
@[simp] theorem Chip.setF_dma (x : Fld) (v : Nat) : (c.setF x v).dma = c.dma := rfl
@[simp] theorem Chip.setF_clk (x : Fld) (v : Nat) : (c.setF x v).clk = c.clk := rfl
@[simp] theorem Chip.setF_boot (x : Fld) (v : Nat) : (c.setF x v).boot = c.boot := rfl
@[simp] theorem Chip.setF_scp (x : Fld) (v : Nat) : (c.setF x v).scp = c.scp := rfl
@[simp] theorem Chip.setF_jtag (x : Fld) (v : Nat) : (c.setF x v).jtag = c.jtag := rfl
@[simp] theorem Chip.setF_retrain (x : Fld) (v : Nat) : (c.setF x v).retrain = c.retrain := rfl
@[simp] theorem Chip.setF_log (x : Fld) (v : Nat) : (c.setF x v).log = c.log := rfl
@[simp] theorem Chip.setF_headWrites (x : Fld) (v : Nat) : (c.setF x v).headWrites = c.headWrites := rfl
@[simp] theorem Chip.setF_reports (x : Fld) (v : Nat) : (c.setF x v).reports = c.reports := rfl
@[simp] theorem Chip.setF_defers (x : Fld) (v : Nat) : (c.setF x v).defers = c.defers := rfl
@[simp] theorem Chip.setF_out (x : Fld) (v : Nat) : (c.setF x v).out = c.out := rfl
@[simp] theorem Chip.setF_freeCtr (x : Fld) (v : Nat) : (c.setF x v).freeCtr = c.freeCtr := rfl

@[simp] theorem Chip.setFs_mem (x : Fld) (i : Int) : (c.setFs x i).mem = c.mem := rfl
@[simp] theorem Chip.setFs_ecc (x : Fld) (i : Int) : (c.setFs x i).ecc = c.ecc := rfl
@[simp] theorem Chip.setFs_opt (x : Fld) (i : Int) : (c.setFs x i).opt = c.opt := rfl
@[simp] theorem Chip.setFs_win (x : Fld) (i : Int) : (c.setFs x i).win = c.win := rfl
@[simp] theorem Chip.setFs_mcs (x : Fld) (i : Int) : (c.setFs x i).mcs = c.mcs := rfl
@[simp] theorem Chip.setFs_cvus (x : Fld) (i : Int) : (c.setFs x i).cvus = c.cvus := rfl
@[simp] theorem Chip.setFs_eqs (x : Fld) (i : Int) : (c.setFs x i).eqs = c.eqs := rfl
@[simp] theorem Chip.setFs_cmt (x : Fld) (i : Int) : (c.setFs x i).cmt = c.cmt := rfl
@[simp] theorem Chip.setFs_lanes (x : Fld) (i : Int) : (c.setFs x i).lanes = c.lanes := rfl
@[simp] theorem Chip.setFs_ports (x : Fld) (i : Int) : (c.setFs x i).ports = c.ports := rfl
@[simp] theorem Chip.setFs_links (x : Fld) (i : Int) : (c.setFs x i).links = c.links := rfl
@[simp] theorem Chip.setFs_fes (x : Fld) (i : Int) : (c.setFs x i).fes = c.fes := rfl
@[simp] theorem Chip.setFs_stc (x : Fld) (i : Int) : (c.setFs x i).stc = c.stc := rfl
@[simp] theorem Chip.setFs_ie (x : Fld) (i : Int) : (c.setFs x i).ie = c.ie := rfl
@[simp] theorem Chip.setFs_shp (x : Fld) (i : Int) : (c.setFs x i).shp = c.shp := rfl
@[simp] theorem Chip.setFs_ssp (x : Fld) (i : Int) : (c.setFs x i).ssp = c.ssp := rfl
@[simp] theorem Chip.setFs_job (x : Fld) (i : Int) : (c.setFs x i).job = c.job := rfl
@[simp] theorem Chip.setFs_orb (x : Fld) (i : Int) : (c.setFs x i).orb = c.orb := rfl
@[simp] theorem Chip.setFs_fc (x : Fld) (i : Int) : (c.setFs x i).fc = c.fc := rfl
@[simp] theorem Chip.setFs_pair (x : Fld) (i : Int) : (c.setFs x i).pair = c.pair := rfl
@[simp] theorem Chip.setFs_dma (x : Fld) (i : Int) : (c.setFs x i).dma = c.dma := rfl
@[simp] theorem Chip.setFs_clk (x : Fld) (i : Int) : (c.setFs x i).clk = c.clk := rfl
@[simp] theorem Chip.setFs_boot (x : Fld) (i : Int) : (c.setFs x i).boot = c.boot := rfl
@[simp] theorem Chip.setFs_scp (x : Fld) (i : Int) : (c.setFs x i).scp = c.scp := rfl
@[simp] theorem Chip.setFs_jtag (x : Fld) (i : Int) : (c.setFs x i).jtag = c.jtag := rfl
@[simp] theorem Chip.setFs_retrain (x : Fld) (i : Int) : (c.setFs x i).retrain = c.retrain := rfl
@[simp] theorem Chip.setFs_log (x : Fld) (i : Int) : (c.setFs x i).log = c.log := rfl
@[simp] theorem Chip.setFs_headWrites (x : Fld) (i : Int) : (c.setFs x i).headWrites = c.headWrites := rfl
@[simp] theorem Chip.setFs_reports (x : Fld) (i : Int) : (c.setFs x i).reports = c.reports := rfl
@[simp] theorem Chip.setFs_defers (x : Fld) (i : Int) : (c.setFs x i).defers = c.defers := rfl
@[simp] theorem Chip.setFs_out (x : Fld) (i : Int) : (c.setFs x i).out = c.out := rfl
@[simp] theorem Chip.setFs_freeCtr (x : Fld) (i : Int) : (c.setFs x i).freeCtr = c.freeCtr := rfl

@[simp] theorem Chip.setFb_mem (x : Fld) (b : Bool) : (c.setFb x b).mem = c.mem := rfl
@[simp] theorem Chip.setFb_ecc (x : Fld) (b : Bool) : (c.setFb x b).ecc = c.ecc := rfl
@[simp] theorem Chip.setFb_opt (x : Fld) (b : Bool) : (c.setFb x b).opt = c.opt := rfl
@[simp] theorem Chip.setFb_win (x : Fld) (b : Bool) : (c.setFb x b).win = c.win := rfl
@[simp] theorem Chip.setFb_mcs (x : Fld) (b : Bool) : (c.setFb x b).mcs = c.mcs := rfl
@[simp] theorem Chip.setFb_cvus (x : Fld) (b : Bool) : (c.setFb x b).cvus = c.cvus := rfl
@[simp] theorem Chip.setFb_eqs (x : Fld) (b : Bool) : (c.setFb x b).eqs = c.eqs := rfl
@[simp] theorem Chip.setFb_cmt (x : Fld) (b : Bool) : (c.setFb x b).cmt = c.cmt := rfl
@[simp] theorem Chip.setFb_lanes (x : Fld) (b : Bool) : (c.setFb x b).lanes = c.lanes := rfl
@[simp] theorem Chip.setFb_ports (x : Fld) (b : Bool) : (c.setFb x b).ports = c.ports := rfl
@[simp] theorem Chip.setFb_links (x : Fld) (b : Bool) : (c.setFb x b).links = c.links := rfl
@[simp] theorem Chip.setFb_fes (x : Fld) (b : Bool) : (c.setFb x b).fes = c.fes := rfl
@[simp] theorem Chip.setFb_stc (x : Fld) (b : Bool) : (c.setFb x b).stc = c.stc := rfl
@[simp] theorem Chip.setFb_ie (x : Fld) (b : Bool) : (c.setFb x b).ie = c.ie := rfl
@[simp] theorem Chip.setFb_shp (x : Fld) (b : Bool) : (c.setFb x b).shp = c.shp := rfl
@[simp] theorem Chip.setFb_ssp (x : Fld) (b : Bool) : (c.setFb x b).ssp = c.ssp := rfl
@[simp] theorem Chip.setFb_job (x : Fld) (b : Bool) : (c.setFb x b).job = c.job := rfl
@[simp] theorem Chip.setFb_orb (x : Fld) (b : Bool) : (c.setFb x b).orb = c.orb := rfl
@[simp] theorem Chip.setFb_fc (x : Fld) (b : Bool) : (c.setFb x b).fc = c.fc := rfl
@[simp] theorem Chip.setFb_pair (x : Fld) (b : Bool) : (c.setFb x b).pair = c.pair := rfl
@[simp] theorem Chip.setFb_dma (x : Fld) (b : Bool) : (c.setFb x b).dma = c.dma := rfl
@[simp] theorem Chip.setFb_clk (x : Fld) (b : Bool) : (c.setFb x b).clk = c.clk := rfl
@[simp] theorem Chip.setFb_boot (x : Fld) (b : Bool) : (c.setFb x b).boot = c.boot := rfl
@[simp] theorem Chip.setFb_scp (x : Fld) (b : Bool) : (c.setFb x b).scp = c.scp := rfl
@[simp] theorem Chip.setFb_jtag (x : Fld) (b : Bool) : (c.setFb x b).jtag = c.jtag := rfl
@[simp] theorem Chip.setFb_retrain (x : Fld) (b : Bool) : (c.setFb x b).retrain = c.retrain := rfl
@[simp] theorem Chip.setFb_log (x : Fld) (b : Bool) : (c.setFb x b).log = c.log := rfl
@[simp] theorem Chip.setFb_headWrites (x : Fld) (b : Bool) : (c.setFb x b).headWrites = c.headWrites := rfl
@[simp] theorem Chip.setFb_reports (x : Fld) (b : Bool) : (c.setFb x b).reports = c.reports := rfl
@[simp] theorem Chip.setFb_defers (x : Fld) (b : Bool) : (c.setFb x b).defers = c.defers := rfl
@[simp] theorem Chip.setFb_out (x : Fld) (b : Bool) : (c.setFb x b).out = c.out := rfl
@[simp] theorem Chip.setFb_freeCtr (x : Fld) (b : Bool) : (c.setFb x b).freeCtr = c.freeCtr := rfl

@[simp] theorem Chip.ev_mem (x : Fld) : (c.ev x).mem = c.mem := rfl
@[simp] theorem Chip.ev_ecc (x : Fld) : (c.ev x).ecc = c.ecc := rfl
@[simp] theorem Chip.ev_opt (x : Fld) : (c.ev x).opt = c.opt := rfl
@[simp] theorem Chip.ev_win (x : Fld) : (c.ev x).win = c.win := rfl
@[simp] theorem Chip.ev_mcs (x : Fld) : (c.ev x).mcs = c.mcs := rfl
@[simp] theorem Chip.ev_cvus (x : Fld) : (c.ev x).cvus = c.cvus := rfl
@[simp] theorem Chip.ev_eqs (x : Fld) : (c.ev x).eqs = c.eqs := rfl
@[simp] theorem Chip.ev_cmt (x : Fld) : (c.ev x).cmt = c.cmt := rfl
@[simp] theorem Chip.ev_lanes (x : Fld) : (c.ev x).lanes = c.lanes := rfl
@[simp] theorem Chip.ev_ports (x : Fld) : (c.ev x).ports = c.ports := rfl
@[simp] theorem Chip.ev_links (x : Fld) : (c.ev x).links = c.links := rfl
@[simp] theorem Chip.ev_fes (x : Fld) : (c.ev x).fes = c.fes := rfl
@[simp] theorem Chip.ev_stc (x : Fld) : (c.ev x).stc = c.stc := rfl
@[simp] theorem Chip.ev_ie (x : Fld) : (c.ev x).ie = c.ie := rfl
@[simp] theorem Chip.ev_shp (x : Fld) : (c.ev x).shp = c.shp := rfl
@[simp] theorem Chip.ev_ssp (x : Fld) : (c.ev x).ssp = c.ssp := rfl
@[simp] theorem Chip.ev_job (x : Fld) : (c.ev x).job = c.job := rfl
@[simp] theorem Chip.ev_orb (x : Fld) : (c.ev x).orb = c.orb := rfl
@[simp] theorem Chip.ev_fc (x : Fld) : (c.ev x).fc = c.fc := rfl
@[simp] theorem Chip.ev_pair (x : Fld) : (c.ev x).pair = c.pair := rfl
@[simp] theorem Chip.ev_dma (x : Fld) : (c.ev x).dma = c.dma := rfl
@[simp] theorem Chip.ev_clk (x : Fld) : (c.ev x).clk = c.clk := rfl
@[simp] theorem Chip.ev_boot (x : Fld) : (c.ev x).boot = c.boot := rfl
@[simp] theorem Chip.ev_scp (x : Fld) : (c.ev x).scp = c.scp := rfl
@[simp] theorem Chip.ev_jtag (x : Fld) : (c.ev x).jtag = c.jtag := rfl
@[simp] theorem Chip.ev_retrain (x : Fld) : (c.ev x).retrain = c.retrain := rfl
@[simp] theorem Chip.ev_log (x : Fld) : (c.ev x).log = c.log := rfl
@[simp] theorem Chip.ev_headWrites (x : Fld) : (c.ev x).headWrites = c.headWrites := rfl
@[simp] theorem Chip.ev_reports (x : Fld) : (c.ev x).reports = c.reports := rfl
@[simp] theorem Chip.ev_defers (x : Fld) : (c.ev x).defers = c.defers := rfl
@[simp] theorem Chip.ev_out (x : Fld) : (c.ev x).out = c.out := rfl
@[simp] theorem Chip.ev_freeCtr (x : Fld) : (c.ev x).freeCtr = c.freeCtr := rfl

@[simp] theorem Chip.add_mem (x : Fld) (n : Nat) : (c.add x n).mem = c.mem := rfl
@[simp] theorem Chip.add_ecc (x : Fld) (n : Nat) : (c.add x n).ecc = c.ecc := rfl
@[simp] theorem Chip.add_opt (x : Fld) (n : Nat) : (c.add x n).opt = c.opt := rfl
@[simp] theorem Chip.add_win (x : Fld) (n : Nat) : (c.add x n).win = c.win := rfl
@[simp] theorem Chip.add_mcs (x : Fld) (n : Nat) : (c.add x n).mcs = c.mcs := rfl
@[simp] theorem Chip.add_cvus (x : Fld) (n : Nat) : (c.add x n).cvus = c.cvus := rfl
@[simp] theorem Chip.add_eqs (x : Fld) (n : Nat) : (c.add x n).eqs = c.eqs := rfl
@[simp] theorem Chip.add_cmt (x : Fld) (n : Nat) : (c.add x n).cmt = c.cmt := rfl
@[simp] theorem Chip.add_lanes (x : Fld) (n : Nat) : (c.add x n).lanes = c.lanes := rfl
@[simp] theorem Chip.add_ports (x : Fld) (n : Nat) : (c.add x n).ports = c.ports := rfl
@[simp] theorem Chip.add_links (x : Fld) (n : Nat) : (c.add x n).links = c.links := rfl
@[simp] theorem Chip.add_fes (x : Fld) (n : Nat) : (c.add x n).fes = c.fes := rfl
@[simp] theorem Chip.add_stc (x : Fld) (n : Nat) : (c.add x n).stc = c.stc := rfl
@[simp] theorem Chip.add_ie (x : Fld) (n : Nat) : (c.add x n).ie = c.ie := rfl
@[simp] theorem Chip.add_shp (x : Fld) (n : Nat) : (c.add x n).shp = c.shp := rfl
@[simp] theorem Chip.add_ssp (x : Fld) (n : Nat) : (c.add x n).ssp = c.ssp := rfl
@[simp] theorem Chip.add_job (x : Fld) (n : Nat) : (c.add x n).job = c.job := rfl
@[simp] theorem Chip.add_orb (x : Fld) (n : Nat) : (c.add x n).orb = c.orb := rfl
@[simp] theorem Chip.add_fc (x : Fld) (n : Nat) : (c.add x n).fc = c.fc := rfl
@[simp] theorem Chip.add_pair (x : Fld) (n : Nat) : (c.add x n).pair = c.pair := rfl
@[simp] theorem Chip.add_dma (x : Fld) (n : Nat) : (c.add x n).dma = c.dma := rfl
@[simp] theorem Chip.add_clk (x : Fld) (n : Nat) : (c.add x n).clk = c.clk := rfl
@[simp] theorem Chip.add_boot (x : Fld) (n : Nat) : (c.add x n).boot = c.boot := rfl
@[simp] theorem Chip.add_scp (x : Fld) (n : Nat) : (c.add x n).scp = c.scp := rfl
@[simp] theorem Chip.add_jtag (x : Fld) (n : Nat) : (c.add x n).jtag = c.jtag := rfl
@[simp] theorem Chip.add_retrain (x : Fld) (n : Nat) : (c.add x n).retrain = c.retrain := rfl
@[simp] theorem Chip.add_log (x : Fld) (n : Nat) : (c.add x n).log = c.log := rfl
@[simp] theorem Chip.add_headWrites (x : Fld) (n : Nat) : (c.add x n).headWrites = c.headWrites := rfl
@[simp] theorem Chip.add_reports (x : Fld) (n : Nat) : (c.add x n).reports = c.reports := rfl
@[simp] theorem Chip.add_defers (x : Fld) (n : Nat) : (c.add x n).defers = c.defers := rfl
@[simp] theorem Chip.add_out (x : Fld) (n : Nat) : (c.add x n).out = c.out := rfl
@[simp] theorem Chip.add_freeCtr (x : Fld) (n : Nat) : (c.add x n).freeCtr = c.freeCtr := rfl

@[simp] theorem Chip.inc_mem (x : Fld) : (c.inc x).mem = c.mem := rfl
@[simp] theorem Chip.inc_ecc (x : Fld) : (c.inc x).ecc = c.ecc := rfl
@[simp] theorem Chip.inc_opt (x : Fld) : (c.inc x).opt = c.opt := rfl
@[simp] theorem Chip.inc_win (x : Fld) : (c.inc x).win = c.win := rfl
@[simp] theorem Chip.inc_mcs (x : Fld) : (c.inc x).mcs = c.mcs := rfl
@[simp] theorem Chip.inc_cvus (x : Fld) : (c.inc x).cvus = c.cvus := rfl
@[simp] theorem Chip.inc_eqs (x : Fld) : (c.inc x).eqs = c.eqs := rfl
@[simp] theorem Chip.inc_cmt (x : Fld) : (c.inc x).cmt = c.cmt := rfl
@[simp] theorem Chip.inc_lanes (x : Fld) : (c.inc x).lanes = c.lanes := rfl
@[simp] theorem Chip.inc_ports (x : Fld) : (c.inc x).ports = c.ports := rfl
@[simp] theorem Chip.inc_links (x : Fld) : (c.inc x).links = c.links := rfl
@[simp] theorem Chip.inc_fes (x : Fld) : (c.inc x).fes = c.fes := rfl
@[simp] theorem Chip.inc_stc (x : Fld) : (c.inc x).stc = c.stc := rfl
@[simp] theorem Chip.inc_ie (x : Fld) : (c.inc x).ie = c.ie := rfl
@[simp] theorem Chip.inc_shp (x : Fld) : (c.inc x).shp = c.shp := rfl
@[simp] theorem Chip.inc_ssp (x : Fld) : (c.inc x).ssp = c.ssp := rfl
@[simp] theorem Chip.inc_job (x : Fld) : (c.inc x).job = c.job := rfl
@[simp] theorem Chip.inc_orb (x : Fld) : (c.inc x).orb = c.orb := rfl
@[simp] theorem Chip.inc_fc (x : Fld) : (c.inc x).fc = c.fc := rfl
@[simp] theorem Chip.inc_pair (x : Fld) : (c.inc x).pair = c.pair := rfl
@[simp] theorem Chip.inc_dma (x : Fld) : (c.inc x).dma = c.dma := rfl
@[simp] theorem Chip.inc_clk (x : Fld) : (c.inc x).clk = c.clk := rfl
@[simp] theorem Chip.inc_boot (x : Fld) : (c.inc x).boot = c.boot := rfl
@[simp] theorem Chip.inc_scp (x : Fld) : (c.inc x).scp = c.scp := rfl
@[simp] theorem Chip.inc_jtag (x : Fld) : (c.inc x).jtag = c.jtag := rfl
@[simp] theorem Chip.inc_retrain (x : Fld) : (c.inc x).retrain = c.retrain := rfl
@[simp] theorem Chip.inc_log (x : Fld) : (c.inc x).log = c.log := rfl
@[simp] theorem Chip.inc_headWrites (x : Fld) : (c.inc x).headWrites = c.headWrites := rfl
@[simp] theorem Chip.inc_reports (x : Fld) : (c.inc x).reports = c.reports := rfl
@[simp] theorem Chip.inc_defers (x : Fld) : (c.inc x).defers = c.defers := rfl
@[simp] theorem Chip.inc_out (x : Fld) : (c.inc x).out = c.out := rfl
@[simp] theorem Chip.inc_freeCtr (x : Fld) : (c.inc x).freeCtr = c.freeCtr := rfl

@[simp] theorem Chip.resetRange_mem (lo hi : Nat) : (c.resetRange lo hi).mem = c.mem := rfl
@[simp] theorem Chip.resetRange_ecc (lo hi : Nat) : (c.resetRange lo hi).ecc = c.ecc := rfl
@[simp] theorem Chip.resetRange_opt (lo hi : Nat) : (c.resetRange lo hi).opt = c.opt := rfl
@[simp] theorem Chip.resetRange_win (lo hi : Nat) : (c.resetRange lo hi).win = c.win := rfl
@[simp] theorem Chip.resetRange_mcs (lo hi : Nat) : (c.resetRange lo hi).mcs = c.mcs := rfl
@[simp] theorem Chip.resetRange_cvus (lo hi : Nat) : (c.resetRange lo hi).cvus = c.cvus := rfl
@[simp] theorem Chip.resetRange_eqs (lo hi : Nat) : (c.resetRange lo hi).eqs = c.eqs := rfl
@[simp] theorem Chip.resetRange_cmt (lo hi : Nat) : (c.resetRange lo hi).cmt = c.cmt := rfl
@[simp] theorem Chip.resetRange_lanes (lo hi : Nat) : (c.resetRange lo hi).lanes = c.lanes := rfl
@[simp] theorem Chip.resetRange_ports (lo hi : Nat) : (c.resetRange lo hi).ports = c.ports := rfl
@[simp] theorem Chip.resetRange_links (lo hi : Nat) : (c.resetRange lo hi).links = c.links := rfl
@[simp] theorem Chip.resetRange_fes (lo hi : Nat) : (c.resetRange lo hi).fes = c.fes := rfl
@[simp] theorem Chip.resetRange_stc (lo hi : Nat) : (c.resetRange lo hi).stc = c.stc := rfl
@[simp] theorem Chip.resetRange_ie (lo hi : Nat) : (c.resetRange lo hi).ie = c.ie := rfl
@[simp] theorem Chip.resetRange_shp (lo hi : Nat) : (c.resetRange lo hi).shp = c.shp := rfl
@[simp] theorem Chip.resetRange_ssp (lo hi : Nat) : (c.resetRange lo hi).ssp = c.ssp := rfl
@[simp] theorem Chip.resetRange_job (lo hi : Nat) : (c.resetRange lo hi).job = c.job := rfl
@[simp] theorem Chip.resetRange_orb (lo hi : Nat) : (c.resetRange lo hi).orb = c.orb := rfl
@[simp] theorem Chip.resetRange_fc (lo hi : Nat) : (c.resetRange lo hi).fc = c.fc := rfl
@[simp] theorem Chip.resetRange_pair (lo hi : Nat) : (c.resetRange lo hi).pair = c.pair := rfl
@[simp] theorem Chip.resetRange_dma (lo hi : Nat) : (c.resetRange lo hi).dma = c.dma := rfl
@[simp] theorem Chip.resetRange_clk (lo hi : Nat) : (c.resetRange lo hi).clk = c.clk := rfl
@[simp] theorem Chip.resetRange_boot (lo hi : Nat) : (c.resetRange lo hi).boot = c.boot := rfl
@[simp] theorem Chip.resetRange_scp (lo hi : Nat) : (c.resetRange lo hi).scp = c.scp := rfl
@[simp] theorem Chip.resetRange_jtag (lo hi : Nat) : (c.resetRange lo hi).jtag = c.jtag := rfl
@[simp] theorem Chip.resetRange_retrain (lo hi : Nat) : (c.resetRange lo hi).retrain = c.retrain := rfl
@[simp] theorem Chip.resetRange_log (lo hi : Nat) : (c.resetRange lo hi).log = c.log := rfl
@[simp] theorem Chip.resetRange_headWrites (lo hi : Nat) : (c.resetRange lo hi).headWrites = c.headWrites := rfl
@[simp] theorem Chip.resetRange_reports (lo hi : Nat) : (c.resetRange lo hi).reports = c.reports := rfl
@[simp] theorem Chip.resetRange_defers (lo hi : Nat) : (c.resetRange lo hi).defers = c.defers := rfl
@[simp] theorem Chip.resetRange_out (lo hi : Nat) : (c.resetRange lo hi).out = c.out := rfl
@[simp] theorem Chip.resetRange_freeCtr (lo hi : Nat) : (c.resetRange lo hi).freeCtr = c.freeCtr := rfl

@[simp] theorem Chip.report_regs (src inst : Nat) : (c.report src inst).regs = c.regs := rfl
@[simp] theorem Chip.report_mem (src inst : Nat) : (c.report src inst).mem = c.mem := rfl
@[simp] theorem Chip.report_ecc (src inst : Nat) : (c.report src inst).ecc = c.ecc := rfl
@[simp] theorem Chip.report_opt (src inst : Nat) : (c.report src inst).opt = c.opt := rfl
@[simp] theorem Chip.report_win (src inst : Nat) : (c.report src inst).win = c.win := rfl
@[simp] theorem Chip.report_mcs (src inst : Nat) : (c.report src inst).mcs = c.mcs := rfl
@[simp] theorem Chip.report_cvus (src inst : Nat) : (c.report src inst).cvus = c.cvus := rfl
@[simp] theorem Chip.report_eqs (src inst : Nat) : (c.report src inst).eqs = c.eqs := rfl
@[simp] theorem Chip.report_cmt (src inst : Nat) : (c.report src inst).cmt = c.cmt := rfl
@[simp] theorem Chip.report_lanes (src inst : Nat) : (c.report src inst).lanes = c.lanes := rfl
@[simp] theorem Chip.report_ports (src inst : Nat) : (c.report src inst).ports = c.ports := rfl
@[simp] theorem Chip.report_links (src inst : Nat) : (c.report src inst).links = c.links := rfl
@[simp] theorem Chip.report_fes (src inst : Nat) : (c.report src inst).fes = c.fes := rfl
@[simp] theorem Chip.report_stc (src inst : Nat) : (c.report src inst).stc = c.stc := rfl
@[simp] theorem Chip.report_ie (src inst : Nat) : (c.report src inst).ie = c.ie := rfl
@[simp] theorem Chip.report_shp (src inst : Nat) : (c.report src inst).shp = c.shp := rfl
@[simp] theorem Chip.report_ssp (src inst : Nat) : (c.report src inst).ssp = c.ssp := rfl
@[simp] theorem Chip.report_job (src inst : Nat) : (c.report src inst).job = c.job := rfl
@[simp] theorem Chip.report_orb (src inst : Nat) : (c.report src inst).orb = c.orb := rfl
@[simp] theorem Chip.report_fc (src inst : Nat) : (c.report src inst).fc = c.fc := rfl
@[simp] theorem Chip.report_pair (src inst : Nat) : (c.report src inst).pair = c.pair := rfl
@[simp] theorem Chip.report_dma (src inst : Nat) : (c.report src inst).dma = c.dma := rfl
@[simp] theorem Chip.report_clk (src inst : Nat) : (c.report src inst).clk = c.clk := rfl
@[simp] theorem Chip.report_boot (src inst : Nat) : (c.report src inst).boot = c.boot := rfl
@[simp] theorem Chip.report_scp (src inst : Nat) : (c.report src inst).scp = c.scp := rfl
@[simp] theorem Chip.report_jtag (src inst : Nat) : (c.report src inst).jtag = c.jtag := rfl
@[simp] theorem Chip.report_retrain (src inst : Nat) : (c.report src inst).retrain = c.retrain := rfl
@[simp] theorem Chip.report_log (src inst : Nat) : (c.report src inst).log = c.log := rfl
@[simp] theorem Chip.report_headWrites (src inst : Nat) : (c.report src inst).headWrites = c.headWrites := rfl
@[simp] theorem Chip.report_reports (src inst : Nat) : (c.report src inst).reports = c.reports ++ [⟨src, inst, false⟩] := rfl
@[simp] theorem Chip.report_defers (src inst : Nat) : (c.report src inst).defers = c.defers := rfl
@[simp] theorem Chip.report_out (src inst : Nat) : (c.report src inst).out = c.out := rfl
@[simp] theorem Chip.report_freeCtr (src inst : Nat) : (c.report src inst).freeCtr = c.freeCtr := rfl
@[simp] theorem Chip.report_rd (src inst : Nat) (r : Nat) : (c.report src inst).rd r = c.rd r := rfl
@[simp] theorem Chip.report_f (src inst : Nat) (y : Fld) : (c.report src inst).f y = c.f y := rfl
@[simp] theorem Chip.report_fb (src inst : Nat) (y : Fld) : (c.report src inst).fb y = c.fb y := rfl
@[simp] theorem Chip.report_fs (src inst : Nat) (y : Fld) : (c.report src inst).fs y = c.fs y := rfl

@[simp] theorem Chip.reportLow_regs (src inst : Nat) : (c.reportLow src inst).regs = c.regs := rfl
@[simp] theorem Chip.reportLow_mem (src inst : Nat) : (c.reportLow src inst).mem = c.mem := rfl
@[simp] theorem Chip.reportLow_ecc (src inst : Nat) : (c.reportLow src inst).ecc = c.ecc := rfl
@[simp] theorem Chip.reportLow_opt (src inst : Nat) : (c.reportLow src inst).opt = c.opt := rfl
@[simp] theorem Chip.reportLow_win (src inst : Nat) : (c.reportLow src inst).win = c.win := rfl
@[simp] theorem Chip.reportLow_mcs (src inst : Nat) : (c.reportLow src inst).mcs = c.mcs := rfl
@[simp] theorem Chip.reportLow_cvus (src inst : Nat) : (c.reportLow src inst).cvus = c.cvus := rfl
@[simp] theorem Chip.reportLow_eqs (src inst : Nat) : (c.reportLow src inst).eqs = c.eqs := rfl
@[simp] theorem Chip.reportLow_cmt (src inst : Nat) : (c.reportLow src inst).cmt = c.cmt := rfl
@[simp] theorem Chip.reportLow_lanes (src inst : Nat) : (c.reportLow src inst).lanes = c.lanes := rfl
@[simp] theorem Chip.reportLow_ports (src inst : Nat) : (c.reportLow src inst).ports = c.ports := rfl
@[simp] theorem Chip.reportLow_links (src inst : Nat) : (c.reportLow src inst).links = c.links := rfl
@[simp] theorem Chip.reportLow_fes (src inst : Nat) : (c.reportLow src inst).fes = c.fes := rfl
@[simp] theorem Chip.reportLow_stc (src inst : Nat) : (c.reportLow src inst).stc = c.stc := rfl
@[simp] theorem Chip.reportLow_ie (src inst : Nat) : (c.reportLow src inst).ie = c.ie := rfl
@[simp] theorem Chip.reportLow_shp (src inst : Nat) : (c.reportLow src inst).shp = c.shp := rfl
@[simp] theorem Chip.reportLow_ssp (src inst : Nat) : (c.reportLow src inst).ssp = c.ssp := rfl
@[simp] theorem Chip.reportLow_job (src inst : Nat) : (c.reportLow src inst).job = c.job := rfl
@[simp] theorem Chip.reportLow_orb (src inst : Nat) : (c.reportLow src inst).orb = c.orb := rfl
@[simp] theorem Chip.reportLow_fc (src inst : Nat) : (c.reportLow src inst).fc = c.fc := rfl
@[simp] theorem Chip.reportLow_pair (src inst : Nat) : (c.reportLow src inst).pair = c.pair := rfl
@[simp] theorem Chip.reportLow_dma (src inst : Nat) : (c.reportLow src inst).dma = c.dma := rfl
@[simp] theorem Chip.reportLow_clk (src inst : Nat) : (c.reportLow src inst).clk = c.clk := rfl
@[simp] theorem Chip.reportLow_boot (src inst : Nat) : (c.reportLow src inst).boot = c.boot := rfl
@[simp] theorem Chip.reportLow_scp (src inst : Nat) : (c.reportLow src inst).scp = c.scp := rfl
@[simp] theorem Chip.reportLow_jtag (src inst : Nat) : (c.reportLow src inst).jtag = c.jtag := rfl
@[simp] theorem Chip.reportLow_retrain (src inst : Nat) : (c.reportLow src inst).retrain = c.retrain := rfl
@[simp] theorem Chip.reportLow_log (src inst : Nat) : (c.reportLow src inst).log = c.log := rfl
@[simp] theorem Chip.reportLow_headWrites (src inst : Nat) : (c.reportLow src inst).headWrites = c.headWrites := rfl
@[simp] theorem Chip.reportLow_reports (src inst : Nat) : (c.reportLow src inst).reports = c.reports ++ [⟨src, inst, true⟩] := rfl
@[simp] theorem Chip.reportLow_defers (src inst : Nat) : (c.reportLow src inst).defers = c.defers := rfl
@[simp] theorem Chip.reportLow_out (src inst : Nat) : (c.reportLow src inst).out = c.out := rfl
@[simp] theorem Chip.reportLow_freeCtr (src inst : Nat) : (c.reportLow src inst).freeCtr = c.freeCtr := rfl
@[simp] theorem Chip.reportLow_rd (src inst : Nat) (r : Nat) : (c.reportLow src inst).rd r = c.rd r := rfl
@[simp] theorem Chip.reportLow_f (src inst : Nat) (y : Fld) : (c.reportLow src inst).f y = c.f y := rfl
@[simp] theorem Chip.reportLow_fb (src inst : Nat) (y : Fld) : (c.reportLow src inst).fb y = c.fb y := rfl
@[simp] theorem Chip.reportLow_fs (src inst : Nat) (y : Fld) : (c.reportLow src inst).fs y = c.fs y := rfl

@[simp] theorem Chip.emit_regs (o : Out) : (c.emit o).regs = c.regs := rfl
@[simp] theorem Chip.emit_mem (o : Out) : (c.emit o).mem = c.mem := rfl
@[simp] theorem Chip.emit_ecc (o : Out) : (c.emit o).ecc = c.ecc := rfl
@[simp] theorem Chip.emit_opt (o : Out) : (c.emit o).opt = c.opt := rfl
@[simp] theorem Chip.emit_win (o : Out) : (c.emit o).win = c.win := rfl
@[simp] theorem Chip.emit_mcs (o : Out) : (c.emit o).mcs = c.mcs := rfl
@[simp] theorem Chip.emit_cvus (o : Out) : (c.emit o).cvus = c.cvus := rfl
@[simp] theorem Chip.emit_eqs (o : Out) : (c.emit o).eqs = c.eqs := rfl
@[simp] theorem Chip.emit_cmt (o : Out) : (c.emit o).cmt = c.cmt := rfl
@[simp] theorem Chip.emit_lanes (o : Out) : (c.emit o).lanes = c.lanes := rfl
@[simp] theorem Chip.emit_ports (o : Out) : (c.emit o).ports = c.ports := rfl
@[simp] theorem Chip.emit_links (o : Out) : (c.emit o).links = c.links := rfl
@[simp] theorem Chip.emit_fes (o : Out) : (c.emit o).fes = c.fes := rfl
@[simp] theorem Chip.emit_stc (o : Out) : (c.emit o).stc = c.stc := rfl
@[simp] theorem Chip.emit_ie (o : Out) : (c.emit o).ie = c.ie := rfl
@[simp] theorem Chip.emit_shp (o : Out) : (c.emit o).shp = c.shp := rfl
@[simp] theorem Chip.emit_ssp (o : Out) : (c.emit o).ssp = c.ssp := rfl
@[simp] theorem Chip.emit_job (o : Out) : (c.emit o).job = c.job := rfl
@[simp] theorem Chip.emit_orb (o : Out) : (c.emit o).orb = c.orb := rfl
@[simp] theorem Chip.emit_fc (o : Out) : (c.emit o).fc = c.fc := rfl
@[simp] theorem Chip.emit_pair (o : Out) : (c.emit o).pair = c.pair := rfl
@[simp] theorem Chip.emit_dma (o : Out) : (c.emit o).dma = c.dma := rfl
@[simp] theorem Chip.emit_clk (o : Out) : (c.emit o).clk = c.clk := rfl
@[simp] theorem Chip.emit_boot (o : Out) : (c.emit o).boot = c.boot := rfl
@[simp] theorem Chip.emit_scp (o : Out) : (c.emit o).scp = c.scp := rfl
@[simp] theorem Chip.emit_jtag (o : Out) : (c.emit o).jtag = c.jtag := rfl
@[simp] theorem Chip.emit_retrain (o : Out) : (c.emit o).retrain = c.retrain := rfl
@[simp] theorem Chip.emit_log (o : Out) : (c.emit o).log = c.log := rfl
@[simp] theorem Chip.emit_headWrites (o : Out) : (c.emit o).headWrites = c.headWrites := rfl
@[simp] theorem Chip.emit_reports (o : Out) : (c.emit o).reports = c.reports := rfl
@[simp] theorem Chip.emit_defers (o : Out) : (c.emit o).defers = c.defers := rfl
@[simp] theorem Chip.emit_out (o : Out) : (c.emit o).out = c.out ++ [o] := rfl
@[simp] theorem Chip.emit_freeCtr (o : Out) : (c.emit o).freeCtr = c.freeCtr := rfl
@[simp] theorem Chip.emit_rd (o : Out) (r : Nat) : (c.emit o).rd r = c.rd r := rfl
@[simp] theorem Chip.emit_f (o : Out) (y : Fld) : (c.emit o).f y = c.f y := rfl
@[simp] theorem Chip.emit_fb (o : Out) (y : Fld) : (c.emit o).fb y = c.fb y := rfl
@[simp] theorem Chip.emit_fs (o : Out) (y : Fld) : (c.emit o).fs y = c.fs y := rfl

@[simp] theorem Chip.setByte_regs (a : Nat) (b : Byte) : (c.setByte a b).regs = c.regs := rfl
@[simp] theorem Chip.setByte_mem (a : Nat) (b : Byte) : (c.setByte a b).mem = sput memDefault c.mem a b := rfl
@[simp] theorem Chip.setByte_ecc (a : Nat) (b : Byte) : (c.setByte a b).ecc = c.ecc := rfl
@[simp] theorem Chip.setByte_opt (a : Nat) (b : Byte) : (c.setByte a b).opt = c.opt := rfl
@[simp] theorem Chip.setByte_win (a : Nat) (b : Byte) : (c.setByte a b).win = c.win := rfl
@[simp] theorem Chip.setByte_mcs (a : Nat) (b : Byte) : (c.setByte a b).mcs = c.mcs := rfl
@[simp] theorem Chip.setByte_cvus (a : Nat) (b : Byte) : (c.setByte a b).cvus = c.cvus := rfl
@[simp] theorem Chip.setByte_eqs (a : Nat) (b : Byte) : (c.setByte a b).eqs = c.eqs := rfl
@[simp] theorem Chip.setByte_cmt (a : Nat) (b : Byte) : (c.setByte a b).cmt = c.cmt := rfl
@[simp] theorem Chip.setByte_lanes (a : Nat) (b : Byte) : (c.setByte a b).lanes = c.lanes := rfl
@[simp] theorem Chip.setByte_ports (a : Nat) (b : Byte) : (c.setByte a b).ports = c.ports := rfl
@[simp] theorem Chip.setByte_links (a : Nat) (b : Byte) : (c.setByte a b).links = c.links := rfl
@[simp] theorem Chip.setByte_fes (a : Nat) (b : Byte) : (c.setByte a b).fes = c.fes := rfl
@[simp] theorem Chip.setByte_stc (a : Nat) (b : Byte) : (c.setByte a b).stc = c.stc := rfl
@[simp] theorem Chip.setByte_ie (a : Nat) (b : Byte) : (c.setByte a b).ie = c.ie := rfl
@[simp] theorem Chip.setByte_shp (a : Nat) (b : Byte) : (c.setByte a b).shp = c.shp := rfl
@[simp] theorem Chip.setByte_ssp (a : Nat) (b : Byte) : (c.setByte a b).ssp = c.ssp := rfl
@[simp] theorem Chip.setByte_job (a : Nat) (b : Byte) : (c.setByte a b).job = c.job := rfl
@[simp] theorem Chip.setByte_orb (a : Nat) (b : Byte) : (c.setByte a b).orb = c.orb := rfl
@[simp] theorem Chip.setByte_fc (a : Nat) (b : Byte) : (c.setByte a b).fc = c.fc := rfl
@[simp] theorem Chip.setByte_pair (a : Nat) (b : Byte) : (c.setByte a b).pair = c.pair := rfl
@[simp] theorem Chip.setByte_dma (a : Nat) (b : Byte) : (c.setByte a b).dma = c.dma := rfl
@[simp] theorem Chip.setByte_clk (a : Nat) (b : Byte) : (c.setByte a b).clk = c.clk := rfl
@[simp] theorem Chip.setByte_boot (a : Nat) (b : Byte) : (c.setByte a b).boot = c.boot := rfl
@[simp] theorem Chip.setByte_scp (a : Nat) (b : Byte) : (c.setByte a b).scp = c.scp := rfl
@[simp] theorem Chip.setByte_jtag (a : Nat) (b : Byte) : (c.setByte a b).jtag = c.jtag := rfl
@[simp] theorem Chip.setByte_retrain (a : Nat) (b : Byte) : (c.setByte a b).retrain = c.retrain := rfl
@[simp] theorem Chip.setByte_log (a : Nat) (b : Byte) : (c.setByte a b).log = c.log := rfl
@[simp] theorem Chip.setByte_headWrites (a : Nat) (b : Byte) : (c.setByte a b).headWrites = c.headWrites := rfl
@[simp] theorem Chip.setByte_reports (a : Nat) (b : Byte) : (c.setByte a b).reports = c.reports := rfl
@[simp] theorem Chip.setByte_defers (a : Nat) (b : Byte) : (c.setByte a b).defers = c.defers := rfl
@[simp] theorem Chip.setByte_out (a : Nat) (b : Byte) : (c.setByte a b).out = c.out := rfl
@[simp] theorem Chip.setByte_freeCtr (a : Nat) (b : Byte) : (c.setByte a b).freeCtr = c.freeCtr := rfl
@[simp] theorem Chip.setByte_rd (a : Nat) (b : Byte) (r : Nat) : (c.setByte a b).rd r = c.rd r := rfl
@[simp] theorem Chip.setByte_f (a : Nat) (b : Byte) (y : Fld) : (c.setByte a b).f y = c.f y := rfl
@[simp] theorem Chip.setByte_fb (a : Nat) (b : Byte) (y : Fld) : (c.setByte a b).fb y = c.fb y := rfl
@[simp] theorem Chip.setByte_fs (a : Nat) (b : Byte) (y : Fld) : (c.setByte a b).fs y = c.fs y := rfl

@[simp] theorem Chip.modBoot_regs (g : BootS → BootS) : (c.modBoot g).regs = c.regs := rfl
@[simp] theorem Chip.modBoot_mem (g : BootS → BootS) : (c.modBoot g).mem = c.mem := rfl
@[simp] theorem Chip.modBoot_ecc (g : BootS → BootS) : (c.modBoot g).ecc = c.ecc := rfl
@[simp] theorem Chip.modBoot_opt (g : BootS → BootS) : (c.modBoot g).opt = c.opt := rfl
@[simp] theorem Chip.modBoot_win (g : BootS → BootS) : (c.modBoot g).win = c.win := rfl
@[simp] theorem Chip.modBoot_mcs (g : BootS → BootS) : (c.modBoot g).mcs = c.mcs := rfl
@[simp] theorem Chip.modBoot_cvus (g : BootS → BootS) : (c.modBoot g).cvus = c.cvus := rfl
@[simp] theorem Chip.modBoot_eqs (g : BootS → BootS) : (c.modBoot g).eqs = c.eqs := rfl
@[simp] theorem Chip.modBoot_cmt (g : BootS → BootS) : (c.modBoot g).cmt = c.cmt := rfl
@[simp] theorem Chip.modBoot_lanes (g : BootS → BootS) : (c.modBoot g).lanes = c.lanes := rfl
@[simp] theorem Chip.modBoot_ports (g : BootS → BootS) : (c.modBoot g).ports = c.ports := rfl
@[simp] theorem Chip.modBoot_links (g : BootS → BootS) : (c.modBoot g).links = c.links := rfl
@[simp] theorem Chip.modBoot_fes (g : BootS → BootS) : (c.modBoot g).fes = c.fes := rfl
@[simp] theorem Chip.modBoot_stc (g : BootS → BootS) : (c.modBoot g).stc = c.stc := rfl
@[simp] theorem Chip.modBoot_ie (g : BootS → BootS) : (c.modBoot g).ie = c.ie := rfl
@[simp] theorem Chip.modBoot_shp (g : BootS → BootS) : (c.modBoot g).shp = c.shp := rfl
@[simp] theorem Chip.modBoot_ssp (g : BootS → BootS) : (c.modBoot g).ssp = c.ssp := rfl
@[simp] theorem Chip.modBoot_job (g : BootS → BootS) : (c.modBoot g).job = c.job := rfl
@[simp] theorem Chip.modBoot_orb (g : BootS → BootS) : (c.modBoot g).orb = c.orb := rfl
@[simp] theorem Chip.modBoot_fc (g : BootS → BootS) : (c.modBoot g).fc = c.fc := rfl
@[simp] theorem Chip.modBoot_pair (g : BootS → BootS) : (c.modBoot g).pair = c.pair := rfl
@[simp] theorem Chip.modBoot_dma (g : BootS → BootS) : (c.modBoot g).dma = c.dma := rfl
@[simp] theorem Chip.modBoot_clk (g : BootS → BootS) : (c.modBoot g).clk = c.clk := rfl
@[simp] theorem Chip.modBoot_boot (g : BootS → BootS) : (c.modBoot g).boot = g c.boot := rfl
@[simp] theorem Chip.modBoot_scp (g : BootS → BootS) : (c.modBoot g).scp = c.scp := rfl
@[simp] theorem Chip.modBoot_jtag (g : BootS → BootS) : (c.modBoot g).jtag = c.jtag := rfl
@[simp] theorem Chip.modBoot_retrain (g : BootS → BootS) : (c.modBoot g).retrain = c.retrain := rfl
@[simp] theorem Chip.modBoot_log (g : BootS → BootS) : (c.modBoot g).log = c.log := rfl
@[simp] theorem Chip.modBoot_headWrites (g : BootS → BootS) : (c.modBoot g).headWrites = c.headWrites := rfl
@[simp] theorem Chip.modBoot_reports (g : BootS → BootS) : (c.modBoot g).reports = c.reports := rfl
@[simp] theorem Chip.modBoot_defers (g : BootS → BootS) : (c.modBoot g).defers = c.defers := rfl
@[simp] theorem Chip.modBoot_out (g : BootS → BootS) : (c.modBoot g).out = c.out := rfl
@[simp] theorem Chip.modBoot_freeCtr (g : BootS → BootS) : (c.modBoot g).freeCtr = c.freeCtr := rfl
@[simp] theorem Chip.modBoot_rd (g : BootS → BootS) (r : Nat) : (c.modBoot g).rd r = c.rd r := rfl
@[simp] theorem Chip.modBoot_f (g : BootS → BootS) (y : Fld) : (c.modBoot g).f y = c.f y := rfl
@[simp] theorem Chip.modBoot_fb (g : BootS → BootS) (y : Fld) : (c.modBoot g).fb y = c.fb y := rfl
@[simp] theorem Chip.modBoot_fs (g : BootS → BootS) (y : Fld) : (c.modBoot g).fs y = c.fs y := rfl

@[simp] theorem Chip.modScp_regs (g : ScpS → ScpS) : (c.modScp g).regs = c.regs := rfl
@[simp] theorem Chip.modScp_mem (g : ScpS → ScpS) : (c.modScp g).mem = c.mem := rfl
@[simp] theorem Chip.modScp_ecc (g : ScpS → ScpS) : (c.modScp g).ecc = c.ecc := rfl
@[simp] theorem Chip.modScp_opt (g : ScpS → ScpS) : (c.modScp g).opt = c.opt := rfl
@[simp] theorem Chip.modScp_win (g : ScpS → ScpS) : (c.modScp g).win = c.win := rfl
@[simp] theorem Chip.modScp_mcs (g : ScpS → ScpS) : (c.modScp g).mcs = c.mcs := rfl
@[simp] theorem Chip.modScp_cvus (g : ScpS → ScpS) : (c.modScp g).cvus = c.cvus := rfl
@[simp] theorem Chip.modScp_eqs (g : ScpS → ScpS) : (c.modScp g).eqs = c.eqs := rfl
@[simp] theorem Chip.modScp_cmt (g : ScpS → ScpS) : (c.modScp g).cmt = c.cmt := rfl
@[simp] theorem Chip.modScp_lanes (g : ScpS → ScpS) : (c.modScp g).lanes = c.lanes := rfl
@[simp] theorem Chip.modScp_ports (g : ScpS → ScpS) : (c.modScp g).ports = c.ports := rfl
@[simp] theorem Chip.modScp_links (g : ScpS → ScpS) : (c.modScp g).links = c.links := rfl
@[simp] theorem Chip.modScp_fes (g : ScpS → ScpS) : (c.modScp g).fes = c.fes := rfl
@[simp] theorem Chip.modScp_stc (g : ScpS → ScpS) : (c.modScp g).stc = c.stc := rfl
@[simp] theorem Chip.modScp_ie (g : ScpS → ScpS) : (c.modScp g).ie = c.ie := rfl
@[simp] theorem Chip.modScp_shp (g : ScpS → ScpS) : (c.modScp g).shp = c.shp := rfl
@[simp] theorem Chip.modScp_ssp (g : ScpS → ScpS) : (c.modScp g).ssp = c.ssp := rfl
@[simp] theorem Chip.modScp_job (g : ScpS → ScpS) : (c.modScp g).job = c.job := rfl
@[simp] theorem Chip.modScp_orb (g : ScpS → ScpS) : (c.modScp g).orb = c.orb := rfl
@[simp] theorem Chip.modScp_fc (g : ScpS → ScpS) : (c.modScp g).fc = c.fc := rfl
@[simp] theorem Chip.modScp_pair (g : ScpS → ScpS) : (c.modScp g).pair = c.pair := rfl
@[simp] theorem Chip.modScp_dma (g : ScpS → ScpS) : (c.modScp g).dma = c.dma := rfl
@[simp] theorem Chip.modScp_clk (g : ScpS → ScpS) : (c.modScp g).clk = c.clk := rfl
@[simp] theorem Chip.modScp_boot (g : ScpS → ScpS) : (c.modScp g).boot = c.boot := rfl
@[simp] theorem Chip.modScp_scp (g : ScpS → ScpS) : (c.modScp g).scp = g c.scp := rfl
@[simp] theorem Chip.modScp_jtag (g : ScpS → ScpS) : (c.modScp g).jtag = c.jtag := rfl
@[simp] theorem Chip.modScp_retrain (g : ScpS → ScpS) : (c.modScp g).retrain = c.retrain := rfl
@[simp] theorem Chip.modScp_log (g : ScpS → ScpS) : (c.modScp g).log = c.log := rfl
@[simp] theorem Chip.modScp_headWrites (g : ScpS → ScpS) : (c.modScp g).headWrites = c.headWrites := rfl
@[simp] theorem Chip.modScp_reports (g : ScpS → ScpS) : (c.modScp g).reports = c.reports := rfl
@[simp] theorem Chip.modScp_defers (g : ScpS → ScpS) : (c.modScp g).defers = c.defers := rfl
@[simp] theorem Chip.modScp_out (g : ScpS → ScpS) : (c.modScp g).out = c.out := rfl
@[simp] theorem Chip.modScp_freeCtr (g : ScpS → ScpS) : (c.modScp g).freeCtr = c.freeCtr := rfl
@[simp] theorem Chip.modScp_rd (g : ScpS → ScpS) (r : Nat) : (c.modScp g).rd r = c.rd r := rfl
@[simp] theorem Chip.modScp_f (g : ScpS → ScpS) (y : Fld) : (c.modScp g).f y = c.f y := rfl
@[simp] theorem Chip.modScp_fb (g : ScpS → ScpS) (y : Fld) : (c.modScp g).fb y = c.fb y := rfl
@[simp] theorem Chip.modScp_fs (g : ScpS → ScpS) (y : Fld) : (c.modScp g).fs y = c.fs y := rfl

@[simp] theorem Chip.modClk_regs (g : ClkS → ClkS) : (c.modClk g).regs = c.regs := rfl
@[simp] theorem Chip.modClk_mem (g : ClkS → ClkS) : (c.modClk g).mem = c.mem := rfl
@[simp] theorem Chip.modClk_ecc (g : ClkS → ClkS) : (c.modClk g).ecc = c.ecc := rfl
@[simp] theorem Chip.modClk_opt (g : ClkS → ClkS) : (c.modClk g).opt = c.opt := rfl
@[simp] theorem Chip.modClk_win (g : ClkS → ClkS) : (c.modClk g).win = c.win := rfl
@[simp] theorem Chip.modClk_mcs (g : ClkS → ClkS) : (c.modClk g).mcs = c.mcs := rfl
@[simp] theorem Chip.modClk_cvus (g : ClkS → ClkS) : (c.modClk g).cvus = c.cvus := rfl
@[simp] theorem Chip.modClk_eqs (g : ClkS → ClkS) : (c.modClk g).eqs = c.eqs := rfl
@[simp] theorem Chip.modClk_cmt (g : ClkS → ClkS) : (c.modClk g).cmt = c.cmt := rfl
@[simp] theorem Chip.modClk_lanes (g : ClkS → ClkS) : (c.modClk g).lanes = c.lanes := rfl
@[simp] theorem Chip.modClk_ports (g : ClkS → ClkS) : (c.modClk g).ports = c.ports := rfl
@[simp] theorem Chip.modClk_links (g : ClkS → ClkS) : (c.modClk g).links = c.links := rfl
@[simp] theorem Chip.modClk_fes (g : ClkS → ClkS) : (c.modClk g).fes = c.fes := rfl
@[simp] theorem Chip.modClk_stc (g : ClkS → ClkS) : (c.modClk g).stc = c.stc := rfl
@[simp] theorem Chip.modClk_ie (g : ClkS → ClkS) : (c.modClk g).ie = c.ie := rfl
@[simp] theorem Chip.modClk_shp (g : ClkS → ClkS) : (c.modClk g).shp = c.shp := rfl
@[simp] theorem Chip.modClk_ssp (g : ClkS → ClkS) : (c.modClk g).ssp = c.ssp := rfl
@[simp] theorem Chip.modClk_job (g : ClkS → ClkS) : (c.modClk g).job = c.job := rfl
@[simp] theorem Chip.modClk_orb (g : ClkS → ClkS) : (c.modClk g).orb = c.orb := rfl
@[simp] theorem Chip.modClk_fc (g : ClkS → ClkS) : (c.modClk g).fc = c.fc := rfl
@[simp] theorem Chip.modClk_pair (g : ClkS → ClkS) : (c.modClk g).pair = c.pair := rfl
@[simp] theorem Chip.modClk_dma (g : ClkS → ClkS) : (c.modClk g).dma = c.dma := rfl
@[simp] theorem Chip.modClk_clk (g : ClkS → ClkS) : (c.modClk g).clk = g c.clk := rfl
@[simp] theorem Chip.modClk_boot (g : ClkS → ClkS) : (c.modClk g).boot = c.boot := rfl
@[simp] theorem Chip.modClk_scp (g : ClkS → ClkS) : (c.modClk g).scp = c.scp := rfl
@[simp] theorem Chip.modClk_jtag (g : ClkS → ClkS) : (c.modClk g).jtag = c.jtag := rfl
@[simp] theorem Chip.modClk_retrain (g : ClkS → ClkS) : (c.modClk g).retrain = c.retrain := rfl
@[simp] theorem Chip.modClk_log (g : ClkS → ClkS) : (c.modClk g).log = c.log := rfl
@[simp] theorem Chip.modClk_headWrites (g : ClkS → ClkS) : (c.modClk g).headWrites = c.headWrites := rfl
@[simp] theorem Chip.modClk_reports (g : ClkS → ClkS) : (c.modClk g).reports = c.reports := rfl
@[simp] theorem Chip.modClk_defers (g : ClkS → ClkS) : (c.modClk g).defers = c.defers := rfl
@[simp] theorem Chip.modClk_out (g : ClkS → ClkS) : (c.modClk g).out = c.out := rfl
@[simp] theorem Chip.modClk_freeCtr (g : ClkS → ClkS) : (c.modClk g).freeCtr = c.freeCtr := rfl
@[simp] theorem Chip.modClk_rd (g : ClkS → ClkS) (r : Nat) : (c.modClk g).rd r = c.rd r := rfl
@[simp] theorem Chip.modClk_f (g : ClkS → ClkS) (y : Fld) : (c.modClk g).f y = c.f y := rfl
@[simp] theorem Chip.modClk_fb (g : ClkS → ClkS) (y : Fld) : (c.modClk g).fb y = c.fb y := rfl
@[simp] theorem Chip.modClk_fs (g : ClkS → ClkS) (y : Fld) : (c.modClk g).fs y = c.fs y := rfl

@[simp] theorem Chip.modFc_regs (g : FcS → FcS) : (c.modFc g).regs = c.regs := rfl
@[simp] theorem Chip.modFc_mem (g : FcS → FcS) : (c.modFc g).mem = c.mem := rfl
@[simp] theorem Chip.modFc_ecc (g : FcS → FcS) : (c.modFc g).ecc = c.ecc := rfl
@[simp] theorem Chip.modFc_opt (g : FcS → FcS) : (c.modFc g).opt = c.opt := rfl
@[simp] theorem Chip.modFc_win (g : FcS → FcS) : (c.modFc g).win = c.win := rfl
@[simp] theorem Chip.modFc_mcs (g : FcS → FcS) : (c.modFc g).mcs = c.mcs := rfl
@[simp] theorem Chip.modFc_cvus (g : FcS → FcS) : (c.modFc g).cvus = c.cvus := rfl
@[simp] theorem Chip.modFc_eqs (g : FcS → FcS) : (c.modFc g).eqs = c.eqs := rfl
@[simp] theorem Chip.modFc_cmt (g : FcS → FcS) : (c.modFc g).cmt = c.cmt := rfl
@[simp] theorem Chip.modFc_lanes (g : FcS → FcS) : (c.modFc g).lanes = c.lanes := rfl
@[simp] theorem Chip.modFc_ports (g : FcS → FcS) : (c.modFc g).ports = c.ports := rfl
@[simp] theorem Chip.modFc_links (g : FcS → FcS) : (c.modFc g).links = c.links := rfl
@[simp] theorem Chip.modFc_fes (g : FcS → FcS) : (c.modFc g).fes = c.fes := rfl
@[simp] theorem Chip.modFc_stc (g : FcS → FcS) : (c.modFc g).stc = c.stc := rfl
@[simp] theorem Chip.modFc_ie (g : FcS → FcS) : (c.modFc g).ie = c.ie := rfl
@[simp] theorem Chip.modFc_shp (g : FcS → FcS) : (c.modFc g).shp = c.shp := rfl
@[simp] theorem Chip.modFc_ssp (g : FcS → FcS) : (c.modFc g).ssp = c.ssp := rfl
@[simp] theorem Chip.modFc_job (g : FcS → FcS) : (c.modFc g).job = c.job := rfl
@[simp] theorem Chip.modFc_orb (g : FcS → FcS) : (c.modFc g).orb = c.orb := rfl
@[simp] theorem Chip.modFc_fc (g : FcS → FcS) : (c.modFc g).fc = g c.fc := rfl
@[simp] theorem Chip.modFc_pair (g : FcS → FcS) : (c.modFc g).pair = c.pair := rfl
@[simp] theorem Chip.modFc_dma (g : FcS → FcS) : (c.modFc g).dma = c.dma := rfl
@[simp] theorem Chip.modFc_clk (g : FcS → FcS) : (c.modFc g).clk = c.clk := rfl
@[simp] theorem Chip.modFc_boot (g : FcS → FcS) : (c.modFc g).boot = c.boot := rfl
@[simp] theorem Chip.modFc_scp (g : FcS → FcS) : (c.modFc g).scp = c.scp := rfl
@[simp] theorem Chip.modFc_jtag (g : FcS → FcS) : (c.modFc g).jtag = c.jtag := rfl
@[simp] theorem Chip.modFc_retrain (g : FcS → FcS) : (c.modFc g).retrain = c.retrain := rfl
@[simp] theorem Chip.modFc_log (g : FcS → FcS) : (c.modFc g).log = c.log := rfl
@[simp] theorem Chip.modFc_headWrites (g : FcS → FcS) : (c.modFc g).headWrites = c.headWrites := rfl
@[simp] theorem Chip.modFc_reports (g : FcS → FcS) : (c.modFc g).reports = c.reports := rfl
@[simp] theorem Chip.modFc_defers (g : FcS → FcS) : (c.modFc g).defers = c.defers := rfl
@[simp] theorem Chip.modFc_out (g : FcS → FcS) : (c.modFc g).out = c.out := rfl
@[simp] theorem Chip.modFc_freeCtr (g : FcS → FcS) : (c.modFc g).freeCtr = c.freeCtr := rfl
@[simp] theorem Chip.modFc_rd (g : FcS → FcS) (r : Nat) : (c.modFc g).rd r = c.rd r := rfl
@[simp] theorem Chip.modFc_f (g : FcS → FcS) (y : Fld) : (c.modFc g).f y = c.f y := rfl
@[simp] theorem Chip.modFc_fb (g : FcS → FcS) (y : Fld) : (c.modFc g).fb y = c.fb y := rfl
@[simp] theorem Chip.modFc_fs (g : FcS → FcS) (y : Fld) : (c.modFc g).fs y = c.fs y := rfl

@[simp] theorem Chip.modOrb_regs (g : OrbS → OrbS) : (c.modOrb g).regs = c.regs := rfl
@[simp] theorem Chip.modOrb_mem (g : OrbS → OrbS) : (c.modOrb g).mem = c.mem := rfl
@[simp] theorem Chip.modOrb_ecc (g : OrbS → OrbS) : (c.modOrb g).ecc = c.ecc := rfl
@[simp] theorem Chip.modOrb_opt (g : OrbS → OrbS) : (c.modOrb g).opt = c.opt := rfl
@[simp] theorem Chip.modOrb_win (g : OrbS → OrbS) : (c.modOrb g).win = c.win := rfl
@[simp] theorem Chip.modOrb_mcs (g : OrbS → OrbS) : (c.modOrb g).mcs = c.mcs := rfl
@[simp] theorem Chip.modOrb_cvus (g : OrbS → OrbS) : (c.modOrb g).cvus = c.cvus := rfl
@[simp] theorem Chip.modOrb_eqs (g : OrbS → OrbS) : (c.modOrb g).eqs = c.eqs := rfl
@[simp] theorem Chip.modOrb_cmt (g : OrbS → OrbS) : (c.modOrb g).cmt = c.cmt := rfl
@[simp] theorem Chip.modOrb_lanes (g : OrbS → OrbS) : (c.modOrb g).lanes = c.lanes := rfl
@[simp] theorem Chip.modOrb_ports (g : OrbS → OrbS) : (c.modOrb g).ports = c.ports := rfl
@[simp] theorem Chip.modOrb_links (g : OrbS → OrbS) : (c.modOrb g).links = c.links := rfl
@[simp] theorem Chip.modOrb_fes (g : OrbS → OrbS) : (c.modOrb g).fes = c.fes := rfl
@[simp] theorem Chip.modOrb_stc (g : OrbS → OrbS) : (c.modOrb g).stc = c.stc := rfl
@[simp] theorem Chip.modOrb_ie (g : OrbS → OrbS) : (c.modOrb g).ie = c.ie := rfl
@[simp] theorem Chip.modOrb_shp (g : OrbS → OrbS) : (c.modOrb g).shp = c.shp := rfl
@[simp] theorem Chip.modOrb_ssp (g : OrbS → OrbS) : (c.modOrb g).ssp = c.ssp := rfl
@[simp] theorem Chip.modOrb_job (g : OrbS → OrbS) : (c.modOrb g).job = c.job := rfl
@[simp] theorem Chip.modOrb_orb (g : OrbS → OrbS) : (c.modOrb g).orb = g c.orb := rfl
@[simp] theorem Chip.modOrb_fc (g : OrbS → OrbS) : (c.modOrb g).fc = c.fc := rfl
@[simp] theorem Chip.modOrb_pair (g : OrbS → OrbS) : (c.modOrb g).pair = c.pair := rfl
@[simp] theorem Chip.modOrb_dma (g : OrbS → OrbS) : (c.modOrb g).dma = c.dma := rfl
@[simp] theorem Chip.modOrb_clk (g : OrbS → OrbS) : (c.modOrb g).clk = c.clk := rfl
@[simp] theorem Chip.modOrb_boot (g : OrbS → OrbS) : (c.modOrb g).boot = c.boot := rfl
@[simp] theorem Chip.modOrb_scp (g : OrbS → OrbS) : (c.modOrb g).scp = c.scp := rfl
@[simp] theorem Chip.modOrb_jtag (g : OrbS → OrbS) : (c.modOrb g).jtag = c.jtag := rfl
@[simp] theorem Chip.modOrb_retrain (g : OrbS → OrbS) : (c.modOrb g).retrain = c.retrain := rfl
@[simp] theorem Chip.modOrb_log (g : OrbS → OrbS) : (c.modOrb g).log = c.log := rfl
@[simp] theorem Chip.modOrb_headWrites (g : OrbS → OrbS) : (c.modOrb g).headWrites = c.headWrites := rfl
@[simp] theorem Chip.modOrb_reports (g : OrbS → OrbS) : (c.modOrb g).reports = c.reports := rfl
@[simp] theorem Chip.modOrb_defers (g : OrbS → OrbS) : (c.modOrb g).defers = c.defers := rfl
@[simp] theorem Chip.modOrb_out (g : OrbS → OrbS) : (c.modOrb g).out = c.out := rfl
@[simp] theorem Chip.modOrb_freeCtr (g : OrbS → OrbS) : (c.modOrb g).freeCtr = c.freeCtr := rfl
@[simp] theorem Chip.modOrb_rd (g : OrbS → OrbS) (r : Nat) : (c.modOrb g).rd r = c.rd r := rfl
@[simp] theorem Chip.modOrb_f (g : OrbS → OrbS) (y : Fld) : (c.modOrb g).f y = c.f y := rfl
@[simp] theorem Chip.modOrb_fb (g : OrbS → OrbS) (y : Fld) : (c.modOrb g).fb y = c.fb y := rfl
@[simp] theorem Chip.modOrb_fs (g : OrbS → OrbS) (y : Fld) : (c.modOrb g).fs y = c.fs y := rfl

@[simp] theorem Chip.modShp_regs (g : ShpS → ShpS) : (c.modShp g).regs = c.regs := rfl
@[simp] theorem Chip.modShp_mem (g : ShpS → ShpS) : (c.modShp g).mem = c.mem := rfl
@[simp] theorem Chip.modShp_ecc (g : ShpS → ShpS) : (c.modShp g).ecc = c.ecc := rfl
@[simp] theorem Chip.modShp_opt (g : ShpS → ShpS) : (c.modShp g).opt = c.opt := rfl
@[simp] theorem Chip.modShp_win (g : ShpS → ShpS) : (c.modShp g).win = c.win := rfl
@[simp] theorem Chip.modShp_mcs (g : ShpS → ShpS) : (c.modShp g).mcs = c.mcs := rfl
@[simp] theorem Chip.modShp_cvus (g : ShpS → ShpS) : (c.modShp g).cvus = c.cvus := rfl
@[simp] theorem Chip.modShp_eqs (g : ShpS → ShpS) : (c.modShp g).eqs = c.eqs := rfl
@[simp] theorem Chip.modShp_cmt (g : ShpS → ShpS) : (c.modShp g).cmt = c.cmt := rfl
@[simp] theorem Chip.modShp_lanes (g : ShpS → ShpS) : (c.modShp g).lanes = c.lanes := rfl
@[simp] theorem Chip.modShp_ports (g : ShpS → ShpS) : (c.modShp g).ports = c.ports := rfl
@[simp] theorem Chip.modShp_links (g : ShpS → ShpS) : (c.modShp g).links = c.links := rfl
@[simp] theorem Chip.modShp_fes (g : ShpS → ShpS) : (c.modShp g).fes = c.fes := rfl
@[simp] theorem Chip.modShp_stc (g : ShpS → ShpS) : (c.modShp g).stc = c.stc := rfl
@[simp] theorem Chip.modShp_ie (g : ShpS → ShpS) : (c.modShp g).ie = c.ie := rfl
@[simp] theorem Chip.modShp_shp (g : ShpS → ShpS) : (c.modShp g).shp = g c.shp := rfl
@[simp] theorem Chip.modShp_ssp (g : ShpS → ShpS) : (c.modShp g).ssp = c.ssp := rfl
@[simp] theorem Chip.modShp_job (g : ShpS → ShpS) : (c.modShp g).job = c.job := rfl
@[simp] theorem Chip.modShp_orb (g : ShpS → ShpS) : (c.modShp g).orb = c.orb := rfl
@[simp] theorem Chip.modShp_fc (g : ShpS → ShpS) : (c.modShp g).fc = c.fc := rfl
@[simp] theorem Chip.modShp_pair (g : ShpS → ShpS) : (c.modShp g).pair = c.pair := rfl
@[simp] theorem Chip.modShp_dma (g : ShpS → ShpS) : (c.modShp g).dma = c.dma := rfl
@[simp] theorem Chip.modShp_clk (g : ShpS → ShpS) : (c.modShp g).clk = c.clk := rfl
@[simp] theorem Chip.modShp_boot (g : ShpS → ShpS) : (c.modShp g).boot = c.boot := rfl
@[simp] theorem Chip.modShp_scp (g : ShpS → ShpS) : (c.modShp g).scp = c.scp := rfl
@[simp] theorem Chip.modShp_jtag (g : ShpS → ShpS) : (c.modShp g).jtag = c.jtag := rfl
@[simp] theorem Chip.modShp_retrain (g : ShpS → ShpS) : (c.modShp g).retrain = c.retrain := rfl
@[simp] theorem Chip.modShp_log (g : ShpS → ShpS) : (c.modShp g).log = c.log := rfl
@[simp] theorem Chip.modShp_headWrites (g : ShpS → ShpS) : (c.modShp g).headWrites = c.headWrites := rfl
@[simp] theorem Chip.modShp_reports (g : ShpS → ShpS) : (c.modShp g).reports = c.reports := rfl
@[simp] theorem Chip.modShp_defers (g : ShpS → ShpS) : (c.modShp g).defers = c.defers := rfl
@[simp] theorem Chip.modShp_out (g : ShpS → ShpS) : (c.modShp g).out = c.out := rfl
@[simp] theorem Chip.modShp_freeCtr (g : ShpS → ShpS) : (c.modShp g).freeCtr = c.freeCtr := rfl
@[simp] theorem Chip.modShp_rd (g : ShpS → ShpS) (r : Nat) : (c.modShp g).rd r = c.rd r := rfl
@[simp] theorem Chip.modShp_f (g : ShpS → ShpS) (y : Fld) : (c.modShp g).f y = c.f y := rfl
@[simp] theorem Chip.modShp_fb (g : ShpS → ShpS) (y : Fld) : (c.modShp g).fb y = c.fb y := rfl
@[simp] theorem Chip.modShp_fs (g : ShpS → ShpS) (y : Fld) : (c.modShp g).fs y = c.fs y := rfl

@[simp] theorem Chip.modCmt_regs (g : CmtS → CmtS) : (c.modCmt g).regs = c.regs := rfl
@[simp] theorem Chip.modCmt_mem (g : CmtS → CmtS) : (c.modCmt g).mem = c.mem := rfl
@[simp] theorem Chip.modCmt_ecc (g : CmtS → CmtS) : (c.modCmt g).ecc = c.ecc := rfl
@[simp] theorem Chip.modCmt_opt (g : CmtS → CmtS) : (c.modCmt g).opt = c.opt := rfl
@[simp] theorem Chip.modCmt_win (g : CmtS → CmtS) : (c.modCmt g).win = c.win := rfl
@[simp] theorem Chip.modCmt_mcs (g : CmtS → CmtS) : (c.modCmt g).mcs = c.mcs := rfl
@[simp] theorem Chip.modCmt_cvus (g : CmtS → CmtS) : (c.modCmt g).cvus = c.cvus := rfl
@[simp] theorem Chip.modCmt_eqs (g : CmtS → CmtS) : (c.modCmt g).eqs = c.eqs := rfl
@[simp] theorem Chip.modCmt_cmt (g : CmtS → CmtS) : (c.modCmt g).cmt = g c.cmt := rfl
@[simp] theorem Chip.modCmt_lanes (g : CmtS → CmtS) : (c.modCmt g).lanes = c.lanes := rfl
@[simp] theorem Chip.modCmt_ports (g : CmtS → CmtS) : (c.modCmt g).ports = c.ports := rfl
@[simp] theorem Chip.modCmt_links (g : CmtS → CmtS) : (c.modCmt g).links = c.links := rfl
@[simp] theorem Chip.modCmt_fes (g : CmtS → CmtS) : (c.modCmt g).fes = c.fes := rfl
@[simp] theorem Chip.modCmt_stc (g : CmtS → CmtS) : (c.modCmt g).stc = c.stc := rfl
@[simp] theorem Chip.modCmt_ie (g : CmtS → CmtS) : (c.modCmt g).ie = c.ie := rfl
@[simp] theorem Chip.modCmt_shp (g : CmtS → CmtS) : (c.modCmt g).shp = c.shp := rfl
@[simp] theorem Chip.modCmt_ssp (g : CmtS → CmtS) : (c.modCmt g).ssp = c.ssp := rfl
@[simp] theorem Chip.modCmt_job (g : CmtS → CmtS) : (c.modCmt g).job = c.job := rfl
@[simp] theorem Chip.modCmt_orb (g : CmtS → CmtS) : (c.modCmt g).orb = c.orb := rfl
@[simp] theorem Chip.modCmt_fc (g : CmtS → CmtS) : (c.modCmt g).fc = c.fc := rfl
@[simp] theorem Chip.modCmt_pair (g : CmtS → CmtS) : (c.modCmt g).pair = c.pair := rfl
@[simp] theorem Chip.modCmt_dma (g : CmtS → CmtS) : (c.modCmt g).dma = c.dma := rfl
@[simp] theorem Chip.modCmt_clk (g : CmtS → CmtS) : (c.modCmt g).clk = c.clk := rfl
@[simp] theorem Chip.modCmt_boot (g : CmtS → CmtS) : (c.modCmt g).boot = c.boot := rfl
@[simp] theorem Chip.modCmt_scp (g : CmtS → CmtS) : (c.modCmt g).scp = c.scp := rfl
@[simp] theorem Chip.modCmt_jtag (g : CmtS → CmtS) : (c.modCmt g).jtag = c.jtag := rfl
@[simp] theorem Chip.modCmt_retrain (g : CmtS → CmtS) : (c.modCmt g).retrain = c.retrain := rfl
@[simp] theorem Chip.modCmt_log (g : CmtS → CmtS) : (c.modCmt g).log = c.log := rfl
@[simp] theorem Chip.modCmt_headWrites (g : CmtS → CmtS) : (c.modCmt g).headWrites = c.headWrites := rfl
@[simp] theorem Chip.modCmt_reports (g : CmtS → CmtS) : (c.modCmt g).reports = c.reports := rfl
@[simp] theorem Chip.modCmt_defers (g : CmtS → CmtS) : (c.modCmt g).defers = c.defers := rfl
@[simp] theorem Chip.modCmt_out (g : CmtS → CmtS) : (c.modCmt g).out = c.out := rfl
@[simp] theorem Chip.modCmt_freeCtr (g : CmtS → CmtS) : (c.modCmt g).freeCtr = c.freeCtr := rfl
@[simp] theorem Chip.modCmt_rd (g : CmtS → CmtS) (r : Nat) : (c.modCmt g).rd r = c.rd r := rfl
@[simp] theorem Chip.modCmt_f (g : CmtS → CmtS) (y : Fld) : (c.modCmt g).f y = c.f y := rfl
@[simp] theorem Chip.modCmt_fb (g : CmtS → CmtS) (y : Fld) : (c.modCmt g).fb y = c.fb y := rfl
@[simp] theorem Chip.modCmt_fs (g : CmtS → CmtS) (y : Fld) : (c.modCmt g).fs y = c.fs y := rfl

@[simp] theorem Chip.modJob_regs (g : JobS → JobS) : (c.modJob g).regs = c.regs := rfl
@[simp] theorem Chip.modJob_mem (g : JobS → JobS) : (c.modJob g).mem = c.mem := rfl
@[simp] theorem Chip.modJob_ecc (g : JobS → JobS) : (c.modJob g).ecc = c.ecc := rfl
@[simp] theorem Chip.modJob_opt (g : JobS → JobS) : (c.modJob g).opt = c.opt := rfl
@[simp] theorem Chip.modJob_win (g : JobS → JobS) : (c.modJob g).win = c.win := rfl
@[simp] theorem Chip.modJob_mcs (g : JobS → JobS) : (c.modJob g).mcs = c.mcs := rfl
@[simp] theorem Chip.modJob_cvus (g : JobS → JobS) : (c.modJob g).cvus = c.cvus := rfl
@[simp] theorem Chip.modJob_eqs (g : JobS → JobS) : (c.modJob g).eqs = c.eqs := rfl
@[simp] theorem Chip.modJob_cmt (g : JobS → JobS) : (c.modJob g).cmt = c.cmt := rfl
@[simp] theorem Chip.modJob_lanes (g : JobS → JobS) : (c.modJob g).lanes = c.lanes := rfl
@[simp] theorem Chip.modJob_ports (g : JobS → JobS) : (c.modJob g).ports = c.ports := rfl
@[simp] theorem Chip.modJob_links (g : JobS → JobS) : (c.modJob g).links = c.links := rfl
@[simp] theorem Chip.modJob_fes (g : JobS → JobS) : (c.modJob g).fes = c.fes := rfl
@[simp] theorem Chip.modJob_stc (g : JobS → JobS) : (c.modJob g).stc = c.stc := rfl
@[simp] theorem Chip.modJob_ie (g : JobS → JobS) : (c.modJob g).ie = c.ie := rfl
@[simp] theorem Chip.modJob_shp (g : JobS → JobS) : (c.modJob g).shp = c.shp := rfl
@[simp] theorem Chip.modJob_ssp (g : JobS → JobS) : (c.modJob g).ssp = c.ssp := rfl
@[simp] theorem Chip.modJob_job (g : JobS → JobS) : (c.modJob g).job = g c.job := rfl
@[simp] theorem Chip.modJob_orb (g : JobS → JobS) : (c.modJob g).orb = c.orb := rfl
@[simp] theorem Chip.modJob_fc (g : JobS → JobS) : (c.modJob g).fc = c.fc := rfl
@[simp] theorem Chip.modJob_pair (g : JobS → JobS) : (c.modJob g).pair = c.pair := rfl
@[simp] theorem Chip.modJob_dma (g : JobS → JobS) : (c.modJob g).dma = c.dma := rfl
@[simp] theorem Chip.modJob_clk (g : JobS → JobS) : (c.modJob g).clk = c.clk := rfl
@[simp] theorem Chip.modJob_boot (g : JobS → JobS) : (c.modJob g).boot = c.boot := rfl
@[simp] theorem Chip.modJob_scp (g : JobS → JobS) : (c.modJob g).scp = c.scp := rfl
@[simp] theorem Chip.modJob_jtag (g : JobS → JobS) : (c.modJob g).jtag = c.jtag := rfl
@[simp] theorem Chip.modJob_retrain (g : JobS → JobS) : (c.modJob g).retrain = c.retrain := rfl
@[simp] theorem Chip.modJob_log (g : JobS → JobS) : (c.modJob g).log = c.log := rfl
@[simp] theorem Chip.modJob_headWrites (g : JobS → JobS) : (c.modJob g).headWrites = c.headWrites := rfl
@[simp] theorem Chip.modJob_reports (g : JobS → JobS) : (c.modJob g).reports = c.reports := rfl
@[simp] theorem Chip.modJob_defers (g : JobS → JobS) : (c.modJob g).defers = c.defers := rfl
@[simp] theorem Chip.modJob_out (g : JobS → JobS) : (c.modJob g).out = c.out := rfl
@[simp] theorem Chip.modJob_freeCtr (g : JobS → JobS) : (c.modJob g).freeCtr = c.freeCtr := rfl
@[simp] theorem Chip.modJob_rd (g : JobS → JobS) (r : Nat) : (c.modJob g).rd r = c.rd r := rfl
@[simp] theorem Chip.modJob_f (g : JobS → JobS) (y : Fld) : (c.modJob g).f y = c.f y := rfl
@[simp] theorem Chip.modJob_fb (g : JobS → JobS) (y : Fld) : (c.modJob g).fb y = c.fb y := rfl
@[simp] theorem Chip.modJob_fs (g : JobS → JobS) (y : Fld) : (c.modJob g).fs y = c.fs y := rfl

@[simp] theorem Chip.modPair_regs (g : PairS → PairS) : (c.modPair g).regs = c.regs := rfl
@[simp] theorem Chip.modPair_mem (g : PairS → PairS) : (c.modPair g).mem = c.mem := rfl
@[simp] theorem Chip.modPair_ecc (g : PairS → PairS) : (c.modPair g).ecc = c.ecc := rfl
@[simp] theorem Chip.modPair_opt (g : PairS → PairS) : (c.modPair g).opt = c.opt := rfl
@[simp] theorem Chip.modPair_win (g : PairS → PairS) : (c.modPair g).win = c.win := rfl
@[simp] theorem Chip.modPair_mcs (g : PairS → PairS) : (c.modPair g).mcs = c.mcs := rfl
@[simp] theorem Chip.modPair_cvus (g : PairS → PairS) : (c.modPair g).cvus = c.cvus := rfl
@[simp] theorem Chip.modPair_eqs (g : PairS → PairS) : (c.modPair g).eqs = c.eqs := rfl
@[simp] theorem Chip.modPair_cmt (g : PairS → PairS) : (c.modPair g).cmt = c.cmt := rfl
@[simp] theorem Chip.modPair_lanes (g : PairS → PairS) : (c.modPair g).lanes = c.lanes := rfl
@[simp] theorem Chip.modPair_ports (g : PairS → PairS) : (c.modPair g).ports = c.ports := rfl
@[simp] theorem Chip.modPair_links (g : PairS → PairS) : (c.modPair g).links = c.links := rfl
@[simp] theorem Chip.modPair_fes (g : PairS → PairS) : (c.modPair g).fes = c.fes := rfl
@[simp] theorem Chip.modPair_stc (g : PairS → PairS) : (c.modPair g).stc = c.stc := rfl
@[simp] theorem Chip.modPair_ie (g : PairS → PairS) : (c.modPair g).ie = c.ie := rfl
@[simp] theorem Chip.modPair_shp (g : PairS → PairS) : (c.modPair g).shp = c.shp := rfl
@[simp] theorem Chip.modPair_ssp (g : PairS → PairS) : (c.modPair g).ssp = c.ssp := rfl
@[simp] theorem Chip.modPair_job (g : PairS → PairS) : (c.modPair g).job = c.job := rfl
@[simp] theorem Chip.modPair_orb (g : PairS → PairS) : (c.modPair g).orb = c.orb := rfl
@[simp] theorem Chip.modPair_fc (g : PairS → PairS) : (c.modPair g).fc = c.fc := rfl
@[simp] theorem Chip.modPair_pair (g : PairS → PairS) : (c.modPair g).pair = g c.pair := rfl
@[simp] theorem Chip.modPair_dma (g : PairS → PairS) : (c.modPair g).dma = c.dma := rfl
@[simp] theorem Chip.modPair_clk (g : PairS → PairS) : (c.modPair g).clk = c.clk := rfl
@[simp] theorem Chip.modPair_boot (g : PairS → PairS) : (c.modPair g).boot = c.boot := rfl
@[simp] theorem Chip.modPair_scp (g : PairS → PairS) : (c.modPair g).scp = c.scp := rfl
@[simp] theorem Chip.modPair_jtag (g : PairS → PairS) : (c.modPair g).jtag = c.jtag := rfl
@[simp] theorem Chip.modPair_retrain (g : PairS → PairS) : (c.modPair g).retrain = c.retrain := rfl
@[simp] theorem Chip.modPair_log (g : PairS → PairS) : (c.modPair g).log = c.log := rfl
@[simp] theorem Chip.modPair_headWrites (g : PairS → PairS) : (c.modPair g).headWrites = c.headWrites := rfl
@[simp] theorem Chip.modPair_reports (g : PairS → PairS) : (c.modPair g).reports = c.reports := rfl
@[simp] theorem Chip.modPair_defers (g : PairS → PairS) : (c.modPair g).defers = c.defers := rfl
@[simp] theorem Chip.modPair_out (g : PairS → PairS) : (c.modPair g).out = c.out := rfl
@[simp] theorem Chip.modPair_freeCtr (g : PairS → PairS) : (c.modPair g).freeCtr = c.freeCtr := rfl
@[simp] theorem Chip.modPair_rd (g : PairS → PairS) (r : Nat) : (c.modPair g).rd r = c.rd r := rfl
@[simp] theorem Chip.modPair_f (g : PairS → PairS) (y : Fld) : (c.modPair g).f y = c.f y := rfl
@[simp] theorem Chip.modPair_fb (g : PairS → PairS) (y : Fld) : (c.modPair g).fb y = c.fb y := rfl
@[simp] theorem Chip.modPair_fs (g : PairS → PairS) (y : Fld) : (c.modPair g).fs y = c.fs y := rfl

@[simp] theorem Chip.modSsp_regs (g : SspS → SspS) : (c.modSsp g).regs = c.regs := rfl
@[simp] theorem Chip.modSsp_mem (g : SspS → SspS) : (c.modSsp g).mem = c.mem := rfl
@[simp] theorem Chip.modSsp_ecc (g : SspS → SspS) : (c.modSsp g).ecc = c.ecc := rfl
@[simp] theorem Chip.modSsp_opt (g : SspS → SspS) : (c.modSsp g).opt = c.opt := rfl
@[simp] theorem Chip.modSsp_win (g : SspS → SspS) : (c.modSsp g).win = c.win := rfl
@[simp] theorem Chip.modSsp_mcs (g : SspS → SspS) : (c.modSsp g).mcs = c.mcs := rfl
@[simp] theorem Chip.modSsp_cvus (g : SspS → SspS) : (c.modSsp g).cvus = c.cvus := rfl
@[simp] theorem Chip.modSsp_eqs (g : SspS → SspS) : (c.modSsp g).eqs = c.eqs := rfl
@[simp] theorem Chip.modSsp_cmt (g : SspS → SspS) : (c.modSsp g).cmt = c.cmt := rfl
@[simp] theorem Chip.modSsp_lanes (g : SspS → SspS) : (c.modSsp g).lanes = c.lanes := rfl
@[simp] theorem Chip.modSsp_ports (g : SspS → SspS) : (c.modSsp g).ports = c.ports := rfl
@[simp] theorem Chip.modSsp_links (g : SspS → SspS) : (c.modSsp g).links = c.links := rfl
@[simp] theorem Chip.modSsp_fes (g : SspS → SspS) : (c.modSsp g).fes = c.fes := rfl
@[simp] theorem Chip.modSsp_stc (g : SspS → SspS) : (c.modSsp g).stc = c.stc := rfl
@[simp] theorem Chip.modSsp_ie (g : SspS → SspS) : (c.modSsp g).ie = c.ie := rfl
@[simp] theorem Chip.modSsp_shp (g : SspS → SspS) : (c.modSsp g).shp = c.shp := rfl
@[simp] theorem Chip.modSsp_ssp (g : SspS → SspS) : (c.modSsp g).ssp = g c.ssp := rfl
@[simp] theorem Chip.modSsp_job (g : SspS → SspS) : (c.modSsp g).job = c.job := rfl
@[simp] theorem Chip.modSsp_orb (g : SspS → SspS) : (c.modSsp g).orb = c.orb := rfl
@[simp] theorem Chip.modSsp_fc (g : SspS → SspS) : (c.modSsp g).fc = c.fc := rfl
@[simp] theorem Chip.modSsp_pair (g : SspS → SspS) : (c.modSsp g).pair = c.pair := rfl
@[simp] theorem Chip.modSsp_dma (g : SspS → SspS) : (c.modSsp g).dma = c.dma := rfl
@[simp] theorem Chip.modSsp_clk (g : SspS → SspS) : (c.modSsp g).clk = c.clk := rfl
@[simp] theorem Chip.modSsp_boot (g : SspS → SspS) : (c.modSsp g).boot = c.boot := rfl
@[simp] theorem Chip.modSsp_scp (g : SspS → SspS) : (c.modSsp g).scp = c.scp := rfl
@[simp] theorem Chip.modSsp_jtag (g : SspS → SspS) : (c.modSsp g).jtag = c.jtag := rfl
@[simp] theorem Chip.modSsp_retrain (g : SspS → SspS) : (c.modSsp g).retrain = c.retrain := rfl
@[simp] theorem Chip.modSsp_log (g : SspS → SspS) : (c.modSsp g).log = c.log := rfl
@[simp] theorem Chip.modSsp_headWrites (g : SspS → SspS) : (c.modSsp g).headWrites = c.headWrites := rfl
@[simp] theorem Chip.modSsp_reports (g : SspS → SspS) : (c.modSsp g).reports = c.reports := rfl
@[simp] theorem Chip.modSsp_defers (g : SspS → SspS) : (c.modSsp g).defers = c.defers := rfl
@[simp] theorem Chip.modSsp_out (g : SspS → SspS) : (c.modSsp g).out = c.out := rfl
@[simp] theorem Chip.modSsp_freeCtr (g : SspS → SspS) : (c.modSsp g).freeCtr = c.freeCtr := rfl
@[simp] theorem Chip.modSsp_rd (g : SspS → SspS) (r : Nat) : (c.modSsp g).rd r = c.rd r := rfl
@[simp] theorem Chip.modSsp_f (g : SspS → SspS) (y : Fld) : (c.modSsp g).f y = c.f y := rfl
@[simp] theorem Chip.modSsp_fb (g : SspS → SspS) (y : Fld) : (c.modSsp g).fb y = c.fb y := rfl
@[simp] theorem Chip.modSsp_fs (g : SspS → SspS) (y : Fld) : (c.modSsp g).fs y = c.fs y := rfl

@[simp] theorem Chip.modIe_regs (g : IeS → IeS) : (c.modIe g).regs = c.regs := rfl
@[simp] theorem Chip.modIe_mem (g : IeS → IeS) : (c.modIe g).mem = c.mem := rfl
@[simp] theorem Chip.modIe_ecc (g : IeS → IeS) : (c.modIe g).ecc = c.ecc := rfl
@[simp] theorem Chip.modIe_opt (g : IeS → IeS) : (c.modIe g).opt = c.opt := rfl
@[simp] theorem Chip.modIe_win (g : IeS → IeS) : (c.modIe g).win = c.win := rfl
@[simp] theorem Chip.modIe_mcs (g : IeS → IeS) : (c.modIe g).mcs = c.mcs := rfl
@[simp] theorem Chip.modIe_cvus (g : IeS → IeS) : (c.modIe g).cvus = c.cvus := rfl
@[simp] theorem Chip.modIe_eqs (g : IeS → IeS) : (c.modIe g).eqs = c.eqs := rfl
@[simp] theorem Chip.modIe_cmt (g : IeS → IeS) : (c.modIe g).cmt = c.cmt := rfl
@[simp] theorem Chip.modIe_lanes (g : IeS → IeS) : (c.modIe g).lanes = c.lanes := rfl
@[simp] theorem Chip.modIe_ports (g : IeS → IeS) : (c.modIe g).ports = c.ports := rfl
@[simp] theorem Chip.modIe_links (g : IeS → IeS) : (c.modIe g).links = c.links := rfl
@[simp] theorem Chip.modIe_fes (g : IeS → IeS) : (c.modIe g).fes = c.fes := rfl
@[simp] theorem Chip.modIe_stc (g : IeS → IeS) : (c.modIe g).stc = c.stc := rfl
@[simp] theorem Chip.modIe_ie (g : IeS → IeS) : (c.modIe g).ie = g c.ie := rfl
@[simp] theorem Chip.modIe_shp (g : IeS → IeS) : (c.modIe g).shp = c.shp := rfl
@[simp] theorem Chip.modIe_ssp (g : IeS → IeS) : (c.modIe g).ssp = c.ssp := rfl
@[simp] theorem Chip.modIe_job (g : IeS → IeS) : (c.modIe g).job = c.job := rfl
@[simp] theorem Chip.modIe_orb (g : IeS → IeS) : (c.modIe g).orb = c.orb := rfl
@[simp] theorem Chip.modIe_fc (g : IeS → IeS) : (c.modIe g).fc = c.fc := rfl
@[simp] theorem Chip.modIe_pair (g : IeS → IeS) : (c.modIe g).pair = c.pair := rfl
@[simp] theorem Chip.modIe_dma (g : IeS → IeS) : (c.modIe g).dma = c.dma := rfl
@[simp] theorem Chip.modIe_clk (g : IeS → IeS) : (c.modIe g).clk = c.clk := rfl
@[simp] theorem Chip.modIe_boot (g : IeS → IeS) : (c.modIe g).boot = c.boot := rfl
@[simp] theorem Chip.modIe_scp (g : IeS → IeS) : (c.modIe g).scp = c.scp := rfl
@[simp] theorem Chip.modIe_jtag (g : IeS → IeS) : (c.modIe g).jtag = c.jtag := rfl
@[simp] theorem Chip.modIe_retrain (g : IeS → IeS) : (c.modIe g).retrain = c.retrain := rfl
@[simp] theorem Chip.modIe_log (g : IeS → IeS) : (c.modIe g).log = c.log := rfl
@[simp] theorem Chip.modIe_headWrites (g : IeS → IeS) : (c.modIe g).headWrites = c.headWrites := rfl
@[simp] theorem Chip.modIe_reports (g : IeS → IeS) : (c.modIe g).reports = c.reports := rfl
@[simp] theorem Chip.modIe_defers (g : IeS → IeS) : (c.modIe g).defers = c.defers := rfl
@[simp] theorem Chip.modIe_out (g : IeS → IeS) : (c.modIe g).out = c.out := rfl
@[simp] theorem Chip.modIe_freeCtr (g : IeS → IeS) : (c.modIe g).freeCtr = c.freeCtr := rfl
@[simp] theorem Chip.modIe_rd (g : IeS → IeS) (r : Nat) : (c.modIe g).rd r = c.rd r := rfl
@[simp] theorem Chip.modIe_f (g : IeS → IeS) (y : Fld) : (c.modIe g).f y = c.f y := rfl
@[simp] theorem Chip.modIe_fb (g : IeS → IeS) (y : Fld) : (c.modIe g).fb y = c.fb y := rfl
@[simp] theorem Chip.modIe_fs (g : IeS → IeS) (y : Fld) : (c.modIe g).fs y = c.fs y := rfl

@[simp] theorem Chip.modJtag_regs (g : JtagS → JtagS) : (c.modJtag g).regs = c.regs := rfl
@[simp] theorem Chip.modJtag_mem (g : JtagS → JtagS) : (c.modJtag g).mem = c.mem := rfl
@[simp] theorem Chip.modJtag_ecc (g : JtagS → JtagS) : (c.modJtag g).ecc = c.ecc := rfl
@[simp] theorem Chip.modJtag_opt (g : JtagS → JtagS) : (c.modJtag g).opt = c.opt := rfl
@[simp] theorem Chip.modJtag_win (g : JtagS → JtagS) : (c.modJtag g).win = c.win := rfl
@[simp] theorem Chip.modJtag_mcs (g : JtagS → JtagS) : (c.modJtag g).mcs = c.mcs := rfl
@[simp] theorem Chip.modJtag_cvus (g : JtagS → JtagS) : (c.modJtag g).cvus = c.cvus := rfl
@[simp] theorem Chip.modJtag_eqs (g : JtagS → JtagS) : (c.modJtag g).eqs = c.eqs := rfl
@[simp] theorem Chip.modJtag_cmt (g : JtagS → JtagS) : (c.modJtag g).cmt = c.cmt := rfl
@[simp] theorem Chip.modJtag_lanes (g : JtagS → JtagS) : (c.modJtag g).lanes = c.lanes := rfl
@[simp] theorem Chip.modJtag_ports (g : JtagS → JtagS) : (c.modJtag g).ports = c.ports := rfl
@[simp] theorem Chip.modJtag_links (g : JtagS → JtagS) : (c.modJtag g).links = c.links := rfl
@[simp] theorem Chip.modJtag_fes (g : JtagS → JtagS) : (c.modJtag g).fes = c.fes := rfl
@[simp] theorem Chip.modJtag_stc (g : JtagS → JtagS) : (c.modJtag g).stc = c.stc := rfl
@[simp] theorem Chip.modJtag_ie (g : JtagS → JtagS) : (c.modJtag g).ie = c.ie := rfl
@[simp] theorem Chip.modJtag_shp (g : JtagS → JtagS) : (c.modJtag g).shp = c.shp := rfl
@[simp] theorem Chip.modJtag_ssp (g : JtagS → JtagS) : (c.modJtag g).ssp = c.ssp := rfl
@[simp] theorem Chip.modJtag_job (g : JtagS → JtagS) : (c.modJtag g).job = c.job := rfl
@[simp] theorem Chip.modJtag_orb (g : JtagS → JtagS) : (c.modJtag g).orb = c.orb := rfl
@[simp] theorem Chip.modJtag_fc (g : JtagS → JtagS) : (c.modJtag g).fc = c.fc := rfl
@[simp] theorem Chip.modJtag_pair (g : JtagS → JtagS) : (c.modJtag g).pair = c.pair := rfl
@[simp] theorem Chip.modJtag_dma (g : JtagS → JtagS) : (c.modJtag g).dma = c.dma := rfl
@[simp] theorem Chip.modJtag_clk (g : JtagS → JtagS) : (c.modJtag g).clk = c.clk := rfl
@[simp] theorem Chip.modJtag_boot (g : JtagS → JtagS) : (c.modJtag g).boot = c.boot := rfl
@[simp] theorem Chip.modJtag_scp (g : JtagS → JtagS) : (c.modJtag g).scp = c.scp := rfl
@[simp] theorem Chip.modJtag_jtag (g : JtagS → JtagS) : (c.modJtag g).jtag = g c.jtag := rfl
@[simp] theorem Chip.modJtag_retrain (g : JtagS → JtagS) : (c.modJtag g).retrain = c.retrain := rfl
@[simp] theorem Chip.modJtag_log (g : JtagS → JtagS) : (c.modJtag g).log = c.log := rfl
@[simp] theorem Chip.modJtag_headWrites (g : JtagS → JtagS) : (c.modJtag g).headWrites = c.headWrites := rfl
@[simp] theorem Chip.modJtag_reports (g : JtagS → JtagS) : (c.modJtag g).reports = c.reports := rfl
@[simp] theorem Chip.modJtag_defers (g : JtagS → JtagS) : (c.modJtag g).defers = c.defers := rfl
@[simp] theorem Chip.modJtag_out (g : JtagS → JtagS) : (c.modJtag g).out = c.out := rfl
@[simp] theorem Chip.modJtag_freeCtr (g : JtagS → JtagS) : (c.modJtag g).freeCtr = c.freeCtr := rfl
@[simp] theorem Chip.modJtag_rd (g : JtagS → JtagS) (r : Nat) : (c.modJtag g).rd r = c.rd r := rfl
@[simp] theorem Chip.modJtag_f (g : JtagS → JtagS) (y : Fld) : (c.modJtag g).f y = c.f y := rfl
@[simp] theorem Chip.modJtag_fb (g : JtagS → JtagS) (y : Fld) : (c.modJtag g).fb y = c.fb y := rfl
@[simp] theorem Chip.modJtag_fs (g : JtagS → JtagS) (y : Fld) : (c.modJtag g).fs y = c.fs y := rfl

@[simp] theorem Chip.modCh_regs (n : Nat) (g : DmaS → DmaS) : (c.modCh n g).regs = c.regs := rfl
@[simp] theorem Chip.modCh_mem (n : Nat) (g : DmaS → DmaS) : (c.modCh n g).mem = c.mem := rfl
@[simp] theorem Chip.modCh_ecc (n : Nat) (g : DmaS → DmaS) : (c.modCh n g).ecc = c.ecc := rfl
@[simp] theorem Chip.modCh_opt (n : Nat) (g : DmaS → DmaS) : (c.modCh n g).opt = c.opt := rfl
@[simp] theorem Chip.modCh_win (n : Nat) (g : DmaS → DmaS) : (c.modCh n g).win = c.win := rfl
@[simp] theorem Chip.modCh_mcs (n : Nat) (g : DmaS → DmaS) : (c.modCh n g).mcs = c.mcs := rfl
@[simp] theorem Chip.modCh_cvus (n : Nat) (g : DmaS → DmaS) : (c.modCh n g).cvus = c.cvus := rfl
@[simp] theorem Chip.modCh_eqs (n : Nat) (g : DmaS → DmaS) : (c.modCh n g).eqs = c.eqs := rfl
@[simp] theorem Chip.modCh_cmt (n : Nat) (g : DmaS → DmaS) : (c.modCh n g).cmt = c.cmt := rfl
@[simp] theorem Chip.modCh_lanes (n : Nat) (g : DmaS → DmaS) : (c.modCh n g).lanes = c.lanes := rfl
@[simp] theorem Chip.modCh_ports (n : Nat) (g : DmaS → DmaS) : (c.modCh n g).ports = c.ports := rfl
@[simp] theorem Chip.modCh_links (n : Nat) (g : DmaS → DmaS) : (c.modCh n g).links = c.links := rfl
@[simp] theorem Chip.modCh_fes (n : Nat) (g : DmaS → DmaS) : (c.modCh n g).fes = c.fes := rfl
@[simp] theorem Chip.modCh_stc (n : Nat) (g : DmaS → DmaS) : (c.modCh n g).stc = c.stc := rfl
@[simp] theorem Chip.modCh_ie (n : Nat) (g : DmaS → DmaS) : (c.modCh n g).ie = c.ie := rfl
@[simp] theorem Chip.modCh_shp (n : Nat) (g : DmaS → DmaS) : (c.modCh n g).shp = c.shp := rfl
@[simp] theorem Chip.modCh_ssp (n : Nat) (g : DmaS → DmaS) : (c.modCh n g).ssp = c.ssp := rfl
@[simp] theorem Chip.modCh_job (n : Nat) (g : DmaS → DmaS) : (c.modCh n g).job = c.job := rfl
@[simp] theorem Chip.modCh_orb (n : Nat) (g : DmaS → DmaS) : (c.modCh n g).orb = c.orb := rfl
@[simp] theorem Chip.modCh_fc (n : Nat) (g : DmaS → DmaS) : (c.modCh n g).fc = c.fc := rfl
@[simp] theorem Chip.modCh_pair (n : Nat) (g : DmaS → DmaS) : (c.modCh n g).pair = c.pair := rfl
@[simp] theorem Chip.modCh_dma (n : Nat) (g : DmaS → DmaS) : (c.modCh n g).dma = c.dma.modify n g := rfl
@[simp] theorem Chip.modCh_clk (n : Nat) (g : DmaS → DmaS) : (c.modCh n g).clk = c.clk := rfl
@[simp] theorem Chip.modCh_boot (n : Nat) (g : DmaS → DmaS) : (c.modCh n g).boot = c.boot := rfl
@[simp] theorem Chip.modCh_scp (n : Nat) (g : DmaS → DmaS) : (c.modCh n g).scp = c.scp := rfl
@[simp] theorem Chip.modCh_jtag (n : Nat) (g : DmaS → DmaS) : (c.modCh n g).jtag = c.jtag := rfl
@[simp] theorem Chip.modCh_retrain (n : Nat) (g : DmaS → DmaS) : (c.modCh n g).retrain = c.retrain := rfl
@[simp] theorem Chip.modCh_log (n : Nat) (g : DmaS → DmaS) : (c.modCh n g).log = c.log := rfl
@[simp] theorem Chip.modCh_headWrites (n : Nat) (g : DmaS → DmaS) : (c.modCh n g).headWrites = c.headWrites := rfl
@[simp] theorem Chip.modCh_reports (n : Nat) (g : DmaS → DmaS) : (c.modCh n g).reports = c.reports := rfl
@[simp] theorem Chip.modCh_defers (n : Nat) (g : DmaS → DmaS) : (c.modCh n g).defers = c.defers := rfl
@[simp] theorem Chip.modCh_out (n : Nat) (g : DmaS → DmaS) : (c.modCh n g).out = c.out := rfl
@[simp] theorem Chip.modCh_freeCtr (n : Nat) (g : DmaS → DmaS) : (c.modCh n g).freeCtr = c.freeCtr := rfl
@[simp] theorem Chip.modCh_rd (n : Nat) (g : DmaS → DmaS) (r : Nat) : (c.modCh n g).rd r = c.rd r := rfl
@[simp] theorem Chip.modCh_f (n : Nat) (g : DmaS → DmaS) (y : Fld) : (c.modCh n g).f y = c.f y := rfl
@[simp] theorem Chip.modCh_fb (n : Nat) (g : DmaS → DmaS) (y : Fld) : (c.modCh n g).fb y = c.fb y := rfl
@[simp] theorem Chip.modCh_fs (n : Nat) (g : DmaS → DmaS) (y : Fld) : (c.modCh n g).fs y = c.fs y := rfl

@[simp] theorem Chip.modEq_regs (n : Nat) (g : EqS → EqS) : (c.modEq n g).regs = c.regs := rfl
@[simp] theorem Chip.modEq_mem (n : Nat) (g : EqS → EqS) : (c.modEq n g).mem = c.mem := rfl
@[simp] theorem Chip.modEq_ecc (n : Nat) (g : EqS → EqS) : (c.modEq n g).ecc = c.ecc := rfl
@[simp] theorem Chip.modEq_opt (n : Nat) (g : EqS → EqS) : (c.modEq n g).opt = c.opt := rfl
@[simp] theorem Chip.modEq_win (n : Nat) (g : EqS → EqS) : (c.modEq n g).win = c.win := rfl
@[simp] theorem Chip.modEq_mcs (n : Nat) (g : EqS → EqS) : (c.modEq n g).mcs = c.mcs := rfl
@[simp] theorem Chip.modEq_cvus (n : Nat) (g : EqS → EqS) : (c.modEq n g).cvus = c.cvus := rfl
@[simp] theorem Chip.modEq_eqs (n : Nat) (g : EqS → EqS) : (c.modEq n g).eqs = c.eqs.modify n g := rfl
@[simp] theorem Chip.modEq_cmt (n : Nat) (g : EqS → EqS) : (c.modEq n g).cmt = c.cmt := rfl
@[simp] theorem Chip.modEq_lanes (n : Nat) (g : EqS → EqS) : (c.modEq n g).lanes = c.lanes := rfl
@[simp] theorem Chip.modEq_ports (n : Nat) (g : EqS → EqS) : (c.modEq n g).ports = c.ports := rfl
@[simp] theorem Chip.modEq_links (n : Nat) (g : EqS → EqS) : (c.modEq n g).links = c.links := rfl
@[simp] theorem Chip.modEq_fes (n : Nat) (g : EqS → EqS) : (c.modEq n g).fes = c.fes := rfl
@[simp] theorem Chip.modEq_stc (n : Nat) (g : EqS → EqS) : (c.modEq n g).stc = c.stc := rfl
@[simp] theorem Chip.modEq_ie (n : Nat) (g : EqS → EqS) : (c.modEq n g).ie = c.ie := rfl
@[simp] theorem Chip.modEq_shp (n : Nat) (g : EqS → EqS) : (c.modEq n g).shp = c.shp := rfl
@[simp] theorem Chip.modEq_ssp (n : Nat) (g : EqS → EqS) : (c.modEq n g).ssp = c.ssp := rfl
@[simp] theorem Chip.modEq_job (n : Nat) (g : EqS → EqS) : (c.modEq n g).job = c.job := rfl
@[simp] theorem Chip.modEq_orb (n : Nat) (g : EqS → EqS) : (c.modEq n g).orb = c.orb := rfl
@[simp] theorem Chip.modEq_fc (n : Nat) (g : EqS → EqS) : (c.modEq n g).fc = c.fc := rfl
@[simp] theorem Chip.modEq_pair (n : Nat) (g : EqS → EqS) : (c.modEq n g).pair = c.pair := rfl
@[simp] theorem Chip.modEq_dma (n : Nat) (g : EqS → EqS) : (c.modEq n g).dma = c.dma := rfl
@[simp] theorem Chip.modEq_clk (n : Nat) (g : EqS → EqS) : (c.modEq n g).clk = c.clk := rfl
@[simp] theorem Chip.modEq_boot (n : Nat) (g : EqS → EqS) : (c.modEq n g).boot = c.boot := rfl
@[simp] theorem Chip.modEq_scp (n : Nat) (g : EqS → EqS) : (c.modEq n g).scp = c.scp := rfl
@[simp] theorem Chip.modEq_jtag (n : Nat) (g : EqS → EqS) : (c.modEq n g).jtag = c.jtag := rfl
@[simp] theorem Chip.modEq_retrain (n : Nat) (g : EqS → EqS) : (c.modEq n g).retrain = c.retrain := rfl
@[simp] theorem Chip.modEq_log (n : Nat) (g : EqS → EqS) : (c.modEq n g).log = c.log := rfl
@[simp] theorem Chip.modEq_headWrites (n : Nat) (g : EqS → EqS) : (c.modEq n g).headWrites = c.headWrites := rfl
@[simp] theorem Chip.modEq_reports (n : Nat) (g : EqS → EqS) : (c.modEq n g).reports = c.reports := rfl
@[simp] theorem Chip.modEq_defers (n : Nat) (g : EqS → EqS) : (c.modEq n g).defers = c.defers := rfl
@[simp] theorem Chip.modEq_out (n : Nat) (g : EqS → EqS) : (c.modEq n g).out = c.out := rfl
@[simp] theorem Chip.modEq_freeCtr (n : Nat) (g : EqS → EqS) : (c.modEq n g).freeCtr = c.freeCtr := rfl
@[simp] theorem Chip.modEq_rd (n : Nat) (g : EqS → EqS) (r : Nat) : (c.modEq n g).rd r = c.rd r := rfl
@[simp] theorem Chip.modEq_f (n : Nat) (g : EqS → EqS) (y : Fld) : (c.modEq n g).f y = c.f y := rfl
@[simp] theorem Chip.modEq_fb (n : Nat) (g : EqS → EqS) (y : Fld) : (c.modEq n g).fb y = c.fb y := rfl
@[simp] theorem Chip.modEq_fs (n : Nat) (g : EqS → EqS) (y : Fld) : (c.modEq n g).fs y = c.fs y := rfl

@[simp] theorem Chip.modFe_regs (n : Nat) (g : FeS → FeS) : (c.modFe n g).regs = c.regs := rfl
@[simp] theorem Chip.modFe_mem (n : Nat) (g : FeS → FeS) : (c.modFe n g).mem = c.mem := rfl
@[simp] theorem Chip.modFe_ecc (n : Nat) (g : FeS → FeS) : (c.modFe n g).ecc = c.ecc := rfl
@[simp] theorem Chip.modFe_opt (n : Nat) (g : FeS → FeS) : (c.modFe n g).opt = c.opt := rfl
@[simp] theorem Chip.modFe_win (n : Nat) (g : FeS → FeS) : (c.modFe n g).win = c.win := rfl
@[simp] theorem Chip.modFe_mcs (n : Nat) (g : FeS → FeS) : (c.modFe n g).mcs = c.mcs := rfl
@[simp] theorem Chip.modFe_cvus (n : Nat) (g : FeS → FeS) : (c.modFe n g).cvus = c.cvus := rfl
@[simp] theorem Chip.modFe_eqs (n : Nat) (g : FeS → FeS) : (c.modFe n g).eqs = c.eqs := rfl
@[simp] theorem Chip.modFe_cmt (n : Nat) (g : FeS → FeS) : (c.modFe n g).cmt = c.cmt := rfl
@[simp] theorem Chip.modFe_lanes (n : Nat) (g : FeS → FeS) : (c.modFe n g).lanes = c.lanes := rfl
@[simp] theorem Chip.modFe_ports (n : Nat) (g : FeS → FeS) : (c.modFe n g).ports = c.ports := rfl
@[simp] theorem Chip.modFe_links (n : Nat) (g : FeS → FeS) : (c.modFe n g).links = c.links := rfl
@[simp] theorem Chip.modFe_fes (n : Nat) (g : FeS → FeS) : (c.modFe n g).fes = c.fes.modify n g := rfl
@[simp] theorem Chip.modFe_stc (n : Nat) (g : FeS → FeS) : (c.modFe n g).stc = c.stc := rfl
@[simp] theorem Chip.modFe_ie (n : Nat) (g : FeS → FeS) : (c.modFe n g).ie = c.ie := rfl
@[simp] theorem Chip.modFe_shp (n : Nat) (g : FeS → FeS) : (c.modFe n g).shp = c.shp := rfl
@[simp] theorem Chip.modFe_ssp (n : Nat) (g : FeS → FeS) : (c.modFe n g).ssp = c.ssp := rfl
@[simp] theorem Chip.modFe_job (n : Nat) (g : FeS → FeS) : (c.modFe n g).job = c.job := rfl
@[simp] theorem Chip.modFe_orb (n : Nat) (g : FeS → FeS) : (c.modFe n g).orb = c.orb := rfl
@[simp] theorem Chip.modFe_fc (n : Nat) (g : FeS → FeS) : (c.modFe n g).fc = c.fc := rfl
@[simp] theorem Chip.modFe_pair (n : Nat) (g : FeS → FeS) : (c.modFe n g).pair = c.pair := rfl
@[simp] theorem Chip.modFe_dma (n : Nat) (g : FeS → FeS) : (c.modFe n g).dma = c.dma := rfl
@[simp] theorem Chip.modFe_clk (n : Nat) (g : FeS → FeS) : (c.modFe n g).clk = c.clk := rfl
@[simp] theorem Chip.modFe_boot (n : Nat) (g : FeS → FeS) : (c.modFe n g).boot = c.boot := rfl
@[simp] theorem Chip.modFe_scp (n : Nat) (g : FeS → FeS) : (c.modFe n g).scp = c.scp := rfl
@[simp] theorem Chip.modFe_jtag (n : Nat) (g : FeS → FeS) : (c.modFe n g).jtag = c.jtag := rfl
@[simp] theorem Chip.modFe_retrain (n : Nat) (g : FeS → FeS) : (c.modFe n g).retrain = c.retrain := rfl
@[simp] theorem Chip.modFe_log (n : Nat) (g : FeS → FeS) : (c.modFe n g).log = c.log := rfl
@[simp] theorem Chip.modFe_headWrites (n : Nat) (g : FeS → FeS) : (c.modFe n g).headWrites = c.headWrites := rfl
@[simp] theorem Chip.modFe_reports (n : Nat) (g : FeS → FeS) : (c.modFe n g).reports = c.reports := rfl
@[simp] theorem Chip.modFe_defers (n : Nat) (g : FeS → FeS) : (c.modFe n g).defers = c.defers := rfl
@[simp] theorem Chip.modFe_out (n : Nat) (g : FeS → FeS) : (c.modFe n g).out = c.out := rfl
@[simp] theorem Chip.modFe_freeCtr (n : Nat) (g : FeS → FeS) : (c.modFe n g).freeCtr = c.freeCtr := rfl
@[simp] theorem Chip.modFe_rd (n : Nat) (g : FeS → FeS) (r : Nat) : (c.modFe n g).rd r = c.rd r := rfl
@[simp] theorem Chip.modFe_f (n : Nat) (g : FeS → FeS) (y : Fld) : (c.modFe n g).f y = c.f y := rfl
@[simp] theorem Chip.modFe_fb (n : Nat) (g : FeS → FeS) (y : Fld) : (c.modFe n g).fb y = c.fb y := rfl
@[simp] theorem Chip.modFe_fs (n : Nat) (g : FeS → FeS) (y : Fld) : (c.modFe n g).fs y = c.fs y := rfl

@[simp] theorem Chip.modMc_regs (n : Nat) (g : McS → McS) : (c.modMc n g).regs = c.regs := rfl
@[simp] theorem Chip.modMc_mem (n : Nat) (g : McS → McS) : (c.modMc n g).mem = c.mem := rfl
@[simp] theorem Chip.modMc_ecc (n : Nat) (g : McS → McS) : (c.modMc n g).ecc = c.ecc := rfl
@[simp] theorem Chip.modMc_opt (n : Nat) (g : McS → McS) : (c.modMc n g).opt = c.opt := rfl
@[simp] theorem Chip.modMc_win (n : Nat) (g : McS → McS) : (c.modMc n g).win = c.win := rfl
@[simp] theorem Chip.modMc_mcs (n : Nat) (g : McS → McS) : (c.modMc n g).mcs = c.mcs.modify n g := rfl
@[simp] theorem Chip.modMc_cvus (n : Nat) (g : McS → McS) : (c.modMc n g).cvus = c.cvus := rfl
@[simp] theorem Chip.modMc_eqs (n : Nat) (g : McS → McS) : (c.modMc n g).eqs = c.eqs := rfl
@[simp] theorem Chip.modMc_cmt (n : Nat) (g : McS → McS) : (c.modMc n g).cmt = c.cmt := rfl
@[simp] theorem Chip.modMc_lanes (n : Nat) (g : McS → McS) : (c.modMc n g).lanes = c.lanes := rfl
@[simp] theorem Chip.modMc_ports (n : Nat) (g : McS → McS) : (c.modMc n g).ports = c.ports := rfl
@[simp] theorem Chip.modMc_links (n : Nat) (g : McS → McS) : (c.modMc n g).links = c.links := rfl
@[simp] theorem Chip.modMc_fes (n : Nat) (g : McS → McS) : (c.modMc n g).fes = c.fes := rfl
@[simp] theorem Chip.modMc_stc (n : Nat) (g : McS → McS) : (c.modMc n g).stc = c.stc := rfl
@[simp] theorem Chip.modMc_ie (n : Nat) (g : McS → McS) : (c.modMc n g).ie = c.ie := rfl
@[simp] theorem Chip.modMc_shp (n : Nat) (g : McS → McS) : (c.modMc n g).shp = c.shp := rfl
@[simp] theorem Chip.modMc_ssp (n : Nat) (g : McS → McS) : (c.modMc n g).ssp = c.ssp := rfl
@[simp] theorem Chip.modMc_job (n : Nat) (g : McS → McS) : (c.modMc n g).job = c.job := rfl
@[simp] theorem Chip.modMc_orb (n : Nat) (g : McS → McS) : (c.modMc n g).orb = c.orb := rfl
@[simp] theorem Chip.modMc_fc (n : Nat) (g : McS → McS) : (c.modMc n g).fc = c.fc := rfl
@[simp] theorem Chip.modMc_pair (n : Nat) (g : McS → McS) : (c.modMc n g).pair = c.pair := rfl
@[simp] theorem Chip.modMc_dma (n : Nat) (g : McS → McS) : (c.modMc n g).dma = c.dma := rfl
@[simp] theorem Chip.modMc_clk (n : Nat) (g : McS → McS) : (c.modMc n g).clk = c.clk := rfl
@[simp] theorem Chip.modMc_boot (n : Nat) (g : McS → McS) : (c.modMc n g).boot = c.boot := rfl
@[simp] theorem Chip.modMc_scp (n : Nat) (g : McS → McS) : (c.modMc n g).scp = c.scp := rfl
@[simp] theorem Chip.modMc_jtag (n : Nat) (g : McS → McS) : (c.modMc n g).jtag = c.jtag := rfl
@[simp] theorem Chip.modMc_retrain (n : Nat) (g : McS → McS) : (c.modMc n g).retrain = c.retrain := rfl
@[simp] theorem Chip.modMc_log (n : Nat) (g : McS → McS) : (c.modMc n g).log = c.log := rfl
@[simp] theorem Chip.modMc_headWrites (n : Nat) (g : McS → McS) : (c.modMc n g).headWrites = c.headWrites := rfl
@[simp] theorem Chip.modMc_reports (n : Nat) (g : McS → McS) : (c.modMc n g).reports = c.reports := rfl
@[simp] theorem Chip.modMc_defers (n : Nat) (g : McS → McS) : (c.modMc n g).defers = c.defers := rfl
@[simp] theorem Chip.modMc_out (n : Nat) (g : McS → McS) : (c.modMc n g).out = c.out := rfl
@[simp] theorem Chip.modMc_freeCtr (n : Nat) (g : McS → McS) : (c.modMc n g).freeCtr = c.freeCtr := rfl
@[simp] theorem Chip.modMc_rd (n : Nat) (g : McS → McS) (r : Nat) : (c.modMc n g).rd r = c.rd r := rfl
@[simp] theorem Chip.modMc_f (n : Nat) (g : McS → McS) (y : Fld) : (c.modMc n g).f y = c.f y := rfl
@[simp] theorem Chip.modMc_fb (n : Nat) (g : McS → McS) (y : Fld) : (c.modMc n g).fb y = c.fb y := rfl
@[simp] theorem Chip.modMc_fs (n : Nat) (g : McS → McS) (y : Fld) : (c.modMc n g).fs y = c.fs y := rfl

@[simp] theorem Chip.modCvu_regs (n : Nat) (g : CvuS → CvuS) : (c.modCvu n g).regs = c.regs := rfl
@[simp] theorem Chip.modCvu_mem (n : Nat) (g : CvuS → CvuS) : (c.modCvu n g).mem = c.mem := rfl
@[simp] theorem Chip.modCvu_ecc (n : Nat) (g : CvuS → CvuS) : (c.modCvu n g).ecc = c.ecc := rfl
@[simp] theorem Chip.modCvu_opt (n : Nat) (g : CvuS → CvuS) : (c.modCvu n g).opt = c.opt := rfl
@[simp] theorem Chip.modCvu_win (n : Nat) (g : CvuS → CvuS) : (c.modCvu n g).win = c.win := rfl
@[simp] theorem Chip.modCvu_mcs (n : Nat) (g : CvuS → CvuS) : (c.modCvu n g).mcs = c.mcs := rfl
@[simp] theorem Chip.modCvu_cvus (n : Nat) (g : CvuS → CvuS) : (c.modCvu n g).cvus = c.cvus.modify n g := rfl
@[simp] theorem Chip.modCvu_eqs (n : Nat) (g : CvuS → CvuS) : (c.modCvu n g).eqs = c.eqs := rfl
@[simp] theorem Chip.modCvu_cmt (n : Nat) (g : CvuS → CvuS) : (c.modCvu n g).cmt = c.cmt := rfl
@[simp] theorem Chip.modCvu_lanes (n : Nat) (g : CvuS → CvuS) : (c.modCvu n g).lanes = c.lanes := rfl
@[simp] theorem Chip.modCvu_ports (n : Nat) (g : CvuS → CvuS) : (c.modCvu n g).ports = c.ports := rfl
@[simp] theorem Chip.modCvu_links (n : Nat) (g : CvuS → CvuS) : (c.modCvu n g).links = c.links := rfl
@[simp] theorem Chip.modCvu_fes (n : Nat) (g : CvuS → CvuS) : (c.modCvu n g).fes = c.fes := rfl
@[simp] theorem Chip.modCvu_stc (n : Nat) (g : CvuS → CvuS) : (c.modCvu n g).stc = c.stc := rfl
@[simp] theorem Chip.modCvu_ie (n : Nat) (g : CvuS → CvuS) : (c.modCvu n g).ie = c.ie := rfl
@[simp] theorem Chip.modCvu_shp (n : Nat) (g : CvuS → CvuS) : (c.modCvu n g).shp = c.shp := rfl
@[simp] theorem Chip.modCvu_ssp (n : Nat) (g : CvuS → CvuS) : (c.modCvu n g).ssp = c.ssp := rfl
@[simp] theorem Chip.modCvu_job (n : Nat) (g : CvuS → CvuS) : (c.modCvu n g).job = c.job := rfl
@[simp] theorem Chip.modCvu_orb (n : Nat) (g : CvuS → CvuS) : (c.modCvu n g).orb = c.orb := rfl
@[simp] theorem Chip.modCvu_fc (n : Nat) (g : CvuS → CvuS) : (c.modCvu n g).fc = c.fc := rfl
@[simp] theorem Chip.modCvu_pair (n : Nat) (g : CvuS → CvuS) : (c.modCvu n g).pair = c.pair := rfl
@[simp] theorem Chip.modCvu_dma (n : Nat) (g : CvuS → CvuS) : (c.modCvu n g).dma = c.dma := rfl
@[simp] theorem Chip.modCvu_clk (n : Nat) (g : CvuS → CvuS) : (c.modCvu n g).clk = c.clk := rfl
@[simp] theorem Chip.modCvu_boot (n : Nat) (g : CvuS → CvuS) : (c.modCvu n g).boot = c.boot := rfl
@[simp] theorem Chip.modCvu_scp (n : Nat) (g : CvuS → CvuS) : (c.modCvu n g).scp = c.scp := rfl
@[simp] theorem Chip.modCvu_jtag (n : Nat) (g : CvuS → CvuS) : (c.modCvu n g).jtag = c.jtag := rfl
@[simp] theorem Chip.modCvu_retrain (n : Nat) (g : CvuS → CvuS) : (c.modCvu n g).retrain = c.retrain := rfl
@[simp] theorem Chip.modCvu_log (n : Nat) (g : CvuS → CvuS) : (c.modCvu n g).log = c.log := rfl
@[simp] theorem Chip.modCvu_headWrites (n : Nat) (g : CvuS → CvuS) : (c.modCvu n g).headWrites = c.headWrites := rfl
@[simp] theorem Chip.modCvu_reports (n : Nat) (g : CvuS → CvuS) : (c.modCvu n g).reports = c.reports := rfl
@[simp] theorem Chip.modCvu_defers (n : Nat) (g : CvuS → CvuS) : (c.modCvu n g).defers = c.defers := rfl
@[simp] theorem Chip.modCvu_out (n : Nat) (g : CvuS → CvuS) : (c.modCvu n g).out = c.out := rfl
@[simp] theorem Chip.modCvu_freeCtr (n : Nat) (g : CvuS → CvuS) : (c.modCvu n g).freeCtr = c.freeCtr := rfl
@[simp] theorem Chip.modCvu_rd (n : Nat) (g : CvuS → CvuS) (r : Nat) : (c.modCvu n g).rd r = c.rd r := rfl
@[simp] theorem Chip.modCvu_f (n : Nat) (g : CvuS → CvuS) (y : Fld) : (c.modCvu n g).f y = c.f y := rfl
@[simp] theorem Chip.modCvu_fb (n : Nat) (g : CvuS → CvuS) (y : Fld) : (c.modCvu n g).fb y = c.fb y := rfl
@[simp] theorem Chip.modCvu_fs (n : Nat) (g : CvuS → CvuS) (y : Fld) : (c.modCvu n g).fs y = c.fs y := rfl

@[simp] theorem Chip.modLink_regs (n : Nat) (g : LinkS → LinkS) : (c.modLink n g).regs = c.regs := rfl
@[simp] theorem Chip.modLink_mem (n : Nat) (g : LinkS → LinkS) : (c.modLink n g).mem = c.mem := rfl
@[simp] theorem Chip.modLink_ecc (n : Nat) (g : LinkS → LinkS) : (c.modLink n g).ecc = c.ecc := rfl
@[simp] theorem Chip.modLink_opt (n : Nat) (g : LinkS → LinkS) : (c.modLink n g).opt = c.opt := rfl
@[simp] theorem Chip.modLink_win (n : Nat) (g : LinkS → LinkS) : (c.modLink n g).win = c.win := rfl
@[simp] theorem Chip.modLink_mcs (n : Nat) (g : LinkS → LinkS) : (c.modLink n g).mcs = c.mcs := rfl
@[simp] theorem Chip.modLink_cvus (n : Nat) (g : LinkS → LinkS) : (c.modLink n g).cvus = c.cvus := rfl
@[simp] theorem Chip.modLink_eqs (n : Nat) (g : LinkS → LinkS) : (c.modLink n g).eqs = c.eqs := rfl
@[simp] theorem Chip.modLink_cmt (n : Nat) (g : LinkS → LinkS) : (c.modLink n g).cmt = c.cmt := rfl
@[simp] theorem Chip.modLink_lanes (n : Nat) (g : LinkS → LinkS) : (c.modLink n g).lanes = c.lanes := rfl
@[simp] theorem Chip.modLink_ports (n : Nat) (g : LinkS → LinkS) : (c.modLink n g).ports = c.ports := rfl
@[simp] theorem Chip.modLink_links (n : Nat) (g : LinkS → LinkS) : (c.modLink n g).links = c.links.modify n g := rfl
@[simp] theorem Chip.modLink_fes (n : Nat) (g : LinkS → LinkS) : (c.modLink n g).fes = c.fes := rfl
@[simp] theorem Chip.modLink_stc (n : Nat) (g : LinkS → LinkS) : (c.modLink n g).stc = c.stc := rfl
@[simp] theorem Chip.modLink_ie (n : Nat) (g : LinkS → LinkS) : (c.modLink n g).ie = c.ie := rfl
@[simp] theorem Chip.modLink_shp (n : Nat) (g : LinkS → LinkS) : (c.modLink n g).shp = c.shp := rfl
@[simp] theorem Chip.modLink_ssp (n : Nat) (g : LinkS → LinkS) : (c.modLink n g).ssp = c.ssp := rfl
@[simp] theorem Chip.modLink_job (n : Nat) (g : LinkS → LinkS) : (c.modLink n g).job = c.job := rfl
@[simp] theorem Chip.modLink_orb (n : Nat) (g : LinkS → LinkS) : (c.modLink n g).orb = c.orb := rfl
@[simp] theorem Chip.modLink_fc (n : Nat) (g : LinkS → LinkS) : (c.modLink n g).fc = c.fc := rfl
@[simp] theorem Chip.modLink_pair (n : Nat) (g : LinkS → LinkS) : (c.modLink n g).pair = c.pair := rfl
@[simp] theorem Chip.modLink_dma (n : Nat) (g : LinkS → LinkS) : (c.modLink n g).dma = c.dma := rfl
@[simp] theorem Chip.modLink_clk (n : Nat) (g : LinkS → LinkS) : (c.modLink n g).clk = c.clk := rfl
@[simp] theorem Chip.modLink_boot (n : Nat) (g : LinkS → LinkS) : (c.modLink n g).boot = c.boot := rfl
@[simp] theorem Chip.modLink_scp (n : Nat) (g : LinkS → LinkS) : (c.modLink n g).scp = c.scp := rfl
@[simp] theorem Chip.modLink_jtag (n : Nat) (g : LinkS → LinkS) : (c.modLink n g).jtag = c.jtag := rfl
@[simp] theorem Chip.modLink_retrain (n : Nat) (g : LinkS → LinkS) : (c.modLink n g).retrain = c.retrain := rfl
@[simp] theorem Chip.modLink_log (n : Nat) (g : LinkS → LinkS) : (c.modLink n g).log = c.log := rfl
@[simp] theorem Chip.modLink_headWrites (n : Nat) (g : LinkS → LinkS) : (c.modLink n g).headWrites = c.headWrites := rfl
@[simp] theorem Chip.modLink_reports (n : Nat) (g : LinkS → LinkS) : (c.modLink n g).reports = c.reports := rfl
@[simp] theorem Chip.modLink_defers (n : Nat) (g : LinkS → LinkS) : (c.modLink n g).defers = c.defers := rfl
@[simp] theorem Chip.modLink_out (n : Nat) (g : LinkS → LinkS) : (c.modLink n g).out = c.out := rfl
@[simp] theorem Chip.modLink_freeCtr (n : Nat) (g : LinkS → LinkS) : (c.modLink n g).freeCtr = c.freeCtr := rfl
@[simp] theorem Chip.modLink_rd (n : Nat) (g : LinkS → LinkS) (r : Nat) : (c.modLink n g).rd r = c.rd r := rfl
@[simp] theorem Chip.modLink_f (n : Nat) (g : LinkS → LinkS) (y : Fld) : (c.modLink n g).f y = c.f y := rfl
@[simp] theorem Chip.modLink_fb (n : Nat) (g : LinkS → LinkS) (y : Fld) : (c.modLink n g).fb y = c.fb y := rfl
@[simp] theorem Chip.modLink_fs (n : Nat) (g : LinkS → LinkS) (y : Fld) : (c.modLink n g).fs y = c.fs y := rfl

@[simp] theorem Chip.modPort_regs (n : Nat) (g : PortS → PortS) : (c.modPort n g).regs = c.regs := rfl
@[simp] theorem Chip.modPort_mem (n : Nat) (g : PortS → PortS) : (c.modPort n g).mem = c.mem := rfl
@[simp] theorem Chip.modPort_ecc (n : Nat) (g : PortS → PortS) : (c.modPort n g).ecc = c.ecc := rfl
@[simp] theorem Chip.modPort_opt (n : Nat) (g : PortS → PortS) : (c.modPort n g).opt = c.opt := rfl
@[simp] theorem Chip.modPort_win (n : Nat) (g : PortS → PortS) : (c.modPort n g).win = c.win := rfl
@[simp] theorem Chip.modPort_mcs (n : Nat) (g : PortS → PortS) : (c.modPort n g).mcs = c.mcs := rfl
@[simp] theorem Chip.modPort_cvus (n : Nat) (g : PortS → PortS) : (c.modPort n g).cvus = c.cvus := rfl
@[simp] theorem Chip.modPort_eqs (n : Nat) (g : PortS → PortS) : (c.modPort n g).eqs = c.eqs := rfl
@[simp] theorem Chip.modPort_cmt (n : Nat) (g : PortS → PortS) : (c.modPort n g).cmt = c.cmt := rfl
@[simp] theorem Chip.modPort_lanes (n : Nat) (g : PortS → PortS) : (c.modPort n g).lanes = c.lanes := rfl
@[simp] theorem Chip.modPort_ports (n : Nat) (g : PortS → PortS) : (c.modPort n g).ports = c.ports.modify n g := rfl
@[simp] theorem Chip.modPort_links (n : Nat) (g : PortS → PortS) : (c.modPort n g).links = c.links := rfl
@[simp] theorem Chip.modPort_fes (n : Nat) (g : PortS → PortS) : (c.modPort n g).fes = c.fes := rfl
@[simp] theorem Chip.modPort_stc (n : Nat) (g : PortS → PortS) : (c.modPort n g).stc = c.stc := rfl
@[simp] theorem Chip.modPort_ie (n : Nat) (g : PortS → PortS) : (c.modPort n g).ie = c.ie := rfl
@[simp] theorem Chip.modPort_shp (n : Nat) (g : PortS → PortS) : (c.modPort n g).shp = c.shp := rfl
@[simp] theorem Chip.modPort_ssp (n : Nat) (g : PortS → PortS) : (c.modPort n g).ssp = c.ssp := rfl
@[simp] theorem Chip.modPort_job (n : Nat) (g : PortS → PortS) : (c.modPort n g).job = c.job := rfl
@[simp] theorem Chip.modPort_orb (n : Nat) (g : PortS → PortS) : (c.modPort n g).orb = c.orb := rfl
@[simp] theorem Chip.modPort_fc (n : Nat) (g : PortS → PortS) : (c.modPort n g).fc = c.fc := rfl
@[simp] theorem Chip.modPort_pair (n : Nat) (g : PortS → PortS) : (c.modPort n g).pair = c.pair := rfl
@[simp] theorem Chip.modPort_dma (n : Nat) (g : PortS → PortS) : (c.modPort n g).dma = c.dma := rfl
@[simp] theorem Chip.modPort_clk (n : Nat) (g : PortS → PortS) : (c.modPort n g).clk = c.clk := rfl
@[simp] theorem Chip.modPort_boot (n : Nat) (g : PortS → PortS) : (c.modPort n g).boot = c.boot := rfl
@[simp] theorem Chip.modPort_scp (n : Nat) (g : PortS → PortS) : (c.modPort n g).scp = c.scp := rfl
@[simp] theorem Chip.modPort_jtag (n : Nat) (g : PortS → PortS) : (c.modPort n g).jtag = c.jtag := rfl
@[simp] theorem Chip.modPort_retrain (n : Nat) (g : PortS → PortS) : (c.modPort n g).retrain = c.retrain := rfl
@[simp] theorem Chip.modPort_log (n : Nat) (g : PortS → PortS) : (c.modPort n g).log = c.log := rfl
@[simp] theorem Chip.modPort_headWrites (n : Nat) (g : PortS → PortS) : (c.modPort n g).headWrites = c.headWrites := rfl
@[simp] theorem Chip.modPort_reports (n : Nat) (g : PortS → PortS) : (c.modPort n g).reports = c.reports := rfl
@[simp] theorem Chip.modPort_defers (n : Nat) (g : PortS → PortS) : (c.modPort n g).defers = c.defers := rfl
@[simp] theorem Chip.modPort_out (n : Nat) (g : PortS → PortS) : (c.modPort n g).out = c.out := rfl
@[simp] theorem Chip.modPort_freeCtr (n : Nat) (g : PortS → PortS) : (c.modPort n g).freeCtr = c.freeCtr := rfl
@[simp] theorem Chip.modPort_rd (n : Nat) (g : PortS → PortS) (r : Nat) : (c.modPort n g).rd r = c.rd r := rfl
@[simp] theorem Chip.modPort_f (n : Nat) (g : PortS → PortS) (y : Fld) : (c.modPort n g).f y = c.f y := rfl
@[simp] theorem Chip.modPort_fb (n : Nat) (g : PortS → PortS) (y : Fld) : (c.modPort n g).fb y = c.fb y := rfl
@[simp] theorem Chip.modPort_fs (n : Nat) (g : PortS → PortS) (y : Fld) : (c.modPort n g).fs y = c.fs y := rfl

@[simp] theorem Chip.modLane_regs (n m : Nat) (g : LaneS → LaneS) : (c.modLane n m g).regs = c.regs := rfl
@[simp] theorem Chip.modLane_mem (n m : Nat) (g : LaneS → LaneS) : (c.modLane n m g).mem = c.mem := rfl
@[simp] theorem Chip.modLane_ecc (n m : Nat) (g : LaneS → LaneS) : (c.modLane n m g).ecc = c.ecc := rfl
@[simp] theorem Chip.modLane_opt (n m : Nat) (g : LaneS → LaneS) : (c.modLane n m g).opt = c.opt := rfl
@[simp] theorem Chip.modLane_win (n m : Nat) (g : LaneS → LaneS) : (c.modLane n m g).win = c.win := rfl
@[simp] theorem Chip.modLane_mcs (n m : Nat) (g : LaneS → LaneS) : (c.modLane n m g).mcs = c.mcs := rfl
@[simp] theorem Chip.modLane_cvus (n m : Nat) (g : LaneS → LaneS) : (c.modLane n m g).cvus = c.cvus := rfl
@[simp] theorem Chip.modLane_eqs (n m : Nat) (g : LaneS → LaneS) : (c.modLane n m g).eqs = c.eqs := rfl
@[simp] theorem Chip.modLane_cmt (n m : Nat) (g : LaneS → LaneS) : (c.modLane n m g).cmt = c.cmt := rfl
@[simp] theorem Chip.modLane_ports (n m : Nat) (g : LaneS → LaneS) : (c.modLane n m g).ports = c.ports := rfl
@[simp] theorem Chip.modLane_links (n m : Nat) (g : LaneS → LaneS) : (c.modLane n m g).links = c.links := rfl
@[simp] theorem Chip.modLane_fes (n m : Nat) (g : LaneS → LaneS) : (c.modLane n m g).fes = c.fes := rfl
@[simp] theorem Chip.modLane_stc (n m : Nat) (g : LaneS → LaneS) : (c.modLane n m g).stc = c.stc := rfl
@[simp] theorem Chip.modLane_ie (n m : Nat) (g : LaneS → LaneS) : (c.modLane n m g).ie = c.ie := rfl
@[simp] theorem Chip.modLane_shp (n m : Nat) (g : LaneS → LaneS) : (c.modLane n m g).shp = c.shp := rfl
@[simp] theorem Chip.modLane_ssp (n m : Nat) (g : LaneS → LaneS) : (c.modLane n m g).ssp = c.ssp := rfl
@[simp] theorem Chip.modLane_job (n m : Nat) (g : LaneS → LaneS) : (c.modLane n m g).job = c.job := rfl
@[simp] theorem Chip.modLane_orb (n m : Nat) (g : LaneS → LaneS) : (c.modLane n m g).orb = c.orb := rfl
@[simp] theorem Chip.modLane_fc (n m : Nat) (g : LaneS → LaneS) : (c.modLane n m g).fc = c.fc := rfl
@[simp] theorem Chip.modLane_pair (n m : Nat) (g : LaneS → LaneS) : (c.modLane n m g).pair = c.pair := rfl
@[simp] theorem Chip.modLane_dma (n m : Nat) (g : LaneS → LaneS) : (c.modLane n m g).dma = c.dma := rfl
@[simp] theorem Chip.modLane_clk (n m : Nat) (g : LaneS → LaneS) : (c.modLane n m g).clk = c.clk := rfl
@[simp] theorem Chip.modLane_boot (n m : Nat) (g : LaneS → LaneS) : (c.modLane n m g).boot = c.boot := rfl
@[simp] theorem Chip.modLane_scp (n m : Nat) (g : LaneS → LaneS) : (c.modLane n m g).scp = c.scp := rfl
@[simp] theorem Chip.modLane_jtag (n m : Nat) (g : LaneS → LaneS) : (c.modLane n m g).jtag = c.jtag := rfl
@[simp] theorem Chip.modLane_retrain (n m : Nat) (g : LaneS → LaneS) : (c.modLane n m g).retrain = c.retrain := rfl
@[simp] theorem Chip.modLane_log (n m : Nat) (g : LaneS → LaneS) : (c.modLane n m g).log = c.log := rfl
@[simp] theorem Chip.modLane_headWrites (n m : Nat) (g : LaneS → LaneS) : (c.modLane n m g).headWrites = c.headWrites := rfl
@[simp] theorem Chip.modLane_reports (n m : Nat) (g : LaneS → LaneS) : (c.modLane n m g).reports = c.reports := rfl
@[simp] theorem Chip.modLane_defers (n m : Nat) (g : LaneS → LaneS) : (c.modLane n m g).defers = c.defers := rfl
@[simp] theorem Chip.modLane_out (n m : Nat) (g : LaneS → LaneS) : (c.modLane n m g).out = c.out := rfl
@[simp] theorem Chip.modLane_freeCtr (n m : Nat) (g : LaneS → LaneS) : (c.modLane n m g).freeCtr = c.freeCtr := rfl
@[simp] theorem Chip.modLane_rd (n m : Nat) (g : LaneS → LaneS) (r : Nat) : (c.modLane n m g).rd r = c.rd r := rfl
@[simp] theorem Chip.modLane_f (n m : Nat) (g : LaneS → LaneS) (y : Fld) : (c.modLane n m g).f y = c.f y := rfl
@[simp] theorem Chip.modLane_fb (n m : Nat) (g : LaneS → LaneS) (y : Fld) : (c.modLane n m g).fb y = c.fb y := rfl
@[simp] theorem Chip.modLane_fs (n m : Nat) (g : LaneS → LaneS) (y : Fld) : (c.modLane n m g).fs y = c.fs y := rfl

@[simp] theorem Chip.modLog_regs (id : Nat) (g : LogEntry → LogEntry) : (c.modLog id g).regs = c.regs := rfl
@[simp] theorem Chip.modLog_mem (id : Nat) (g : LogEntry → LogEntry) : (c.modLog id g).mem = c.mem := rfl
@[simp] theorem Chip.modLog_ecc (id : Nat) (g : LogEntry → LogEntry) : (c.modLog id g).ecc = c.ecc := rfl
@[simp] theorem Chip.modLog_opt (id : Nat) (g : LogEntry → LogEntry) : (c.modLog id g).opt = c.opt := rfl
@[simp] theorem Chip.modLog_win (id : Nat) (g : LogEntry → LogEntry) : (c.modLog id g).win = c.win := rfl
@[simp] theorem Chip.modLog_mcs (id : Nat) (g : LogEntry → LogEntry) : (c.modLog id g).mcs = c.mcs := rfl
@[simp] theorem Chip.modLog_cvus (id : Nat) (g : LogEntry → LogEntry) : (c.modLog id g).cvus = c.cvus := rfl
@[simp] theorem Chip.modLog_eqs (id : Nat) (g : LogEntry → LogEntry) : (c.modLog id g).eqs = c.eqs := rfl
@[simp] theorem Chip.modLog_cmt (id : Nat) (g : LogEntry → LogEntry) : (c.modLog id g).cmt = c.cmt := rfl
@[simp] theorem Chip.modLog_lanes (id : Nat) (g : LogEntry → LogEntry) : (c.modLog id g).lanes = c.lanes := rfl
@[simp] theorem Chip.modLog_ports (id : Nat) (g : LogEntry → LogEntry) : (c.modLog id g).ports = c.ports := rfl
@[simp] theorem Chip.modLog_links (id : Nat) (g : LogEntry → LogEntry) : (c.modLog id g).links = c.links := rfl
@[simp] theorem Chip.modLog_fes (id : Nat) (g : LogEntry → LogEntry) : (c.modLog id g).fes = c.fes := rfl
@[simp] theorem Chip.modLog_stc (id : Nat) (g : LogEntry → LogEntry) : (c.modLog id g).stc = c.stc := rfl
@[simp] theorem Chip.modLog_ie (id : Nat) (g : LogEntry → LogEntry) : (c.modLog id g).ie = c.ie := rfl
@[simp] theorem Chip.modLog_shp (id : Nat) (g : LogEntry → LogEntry) : (c.modLog id g).shp = c.shp := rfl
@[simp] theorem Chip.modLog_ssp (id : Nat) (g : LogEntry → LogEntry) : (c.modLog id g).ssp = c.ssp := rfl
@[simp] theorem Chip.modLog_job (id : Nat) (g : LogEntry → LogEntry) : (c.modLog id g).job = c.job := rfl
@[simp] theorem Chip.modLog_orb (id : Nat) (g : LogEntry → LogEntry) : (c.modLog id g).orb = c.orb := rfl
@[simp] theorem Chip.modLog_fc (id : Nat) (g : LogEntry → LogEntry) : (c.modLog id g).fc = c.fc := rfl
@[simp] theorem Chip.modLog_pair (id : Nat) (g : LogEntry → LogEntry) : (c.modLog id g).pair = c.pair := rfl
@[simp] theorem Chip.modLog_dma (id : Nat) (g : LogEntry → LogEntry) : (c.modLog id g).dma = c.dma := rfl
@[simp] theorem Chip.modLog_clk (id : Nat) (g : LogEntry → LogEntry) : (c.modLog id g).clk = c.clk := rfl
@[simp] theorem Chip.modLog_boot (id : Nat) (g : LogEntry → LogEntry) : (c.modLog id g).boot = c.boot := rfl
@[simp] theorem Chip.modLog_scp (id : Nat) (g : LogEntry → LogEntry) : (c.modLog id g).scp = c.scp := rfl
@[simp] theorem Chip.modLog_jtag (id : Nat) (g : LogEntry → LogEntry) : (c.modLog id g).jtag = c.jtag := rfl
@[simp] theorem Chip.modLog_retrain (id : Nat) (g : LogEntry → LogEntry) : (c.modLog id g).retrain = c.retrain := rfl
@[simp] theorem Chip.modLog_headWrites (id : Nat) (g : LogEntry → LogEntry) : (c.modLog id g).headWrites = c.headWrites := rfl
@[simp] theorem Chip.modLog_reports (id : Nat) (g : LogEntry → LogEntry) : (c.modLog id g).reports = c.reports := rfl
@[simp] theorem Chip.modLog_defers (id : Nat) (g : LogEntry → LogEntry) : (c.modLog id g).defers = c.defers := rfl
@[simp] theorem Chip.modLog_out (id : Nat) (g : LogEntry → LogEntry) : (c.modLog id g).out = c.out := rfl
@[simp] theorem Chip.modLog_freeCtr (id : Nat) (g : LogEntry → LogEntry) : (c.modLog id g).freeCtr = c.freeCtr := rfl
@[simp] theorem Chip.modLog_rd (id : Nat) (g : LogEntry → LogEntry) (r : Nat) : (c.modLog id g).rd r = c.rd r := rfl
@[simp] theorem Chip.modLog_f (id : Nat) (g : LogEntry → LogEntry) (y : Fld) : (c.modLog id g).f y = c.f y := rfl
@[simp] theorem Chip.modLog_fb (id : Nat) (g : LogEntry → LogEntry) (y : Fld) : (c.modLog id g).fb y = c.fb y := rfl
@[simp] theorem Chip.modLog_fs (id : Nat) (g : LogEntry → LogEntry) (y : Fld) : (c.modLog id g).fs y = c.fs y := rfl

/-! ### Updates written out in full -/

@[simp] theorem Chip.with_mem_rd (x : List Host.Cell) (r : Nat) : ({ c with mem := x } : Chip).rd r = c.rd r := rfl
@[simp] theorem Chip.with_mem_f (x : List Host.Cell) (y : Fld) : ({ c with mem := x } : Chip).f y = c.f y := rfl
@[simp] theorem Chip.with_mem_fb (x : List Host.Cell) (y : Fld) : ({ c with mem := x } : Chip).fb y = c.fb y := rfl
@[simp] theorem Chip.with_ecc_rd (x : List (Nat × Bool)) (r : Nat) : ({ c with ecc := x } : Chip).rd r = c.rd r := rfl
@[simp] theorem Chip.with_ecc_f (x : List (Nat × Bool)) (y : Fld) : ({ c with ecc := x } : Chip).f y = c.f y := rfl
@[simp] theorem Chip.with_ecc_fb (x : List (Nat × Bool)) (y : Fld) : ({ c with ecc := x } : Chip).fb y = c.fb y := rfl
@[simp] theorem Chip.with_links_rd (x : List LinkS) (r : Nat) : ({ c with links := x } : Chip).rd r = c.rd r := rfl
@[simp] theorem Chip.with_links_f (x : List LinkS) (y : Fld) : ({ c with links := x } : Chip).f y = c.f y := rfl
@[simp] theorem Chip.with_links_fb (x : List LinkS) (y : Fld) : ({ c with links := x } : Chip).fb y = c.fb y := rfl
@[simp] theorem Chip.with_fes_rd (x : List FeS) (r : Nat) : ({ c with fes := x } : Chip).rd r = c.rd r := rfl
@[simp] theorem Chip.with_fes_f (x : List FeS) (y : Fld) : ({ c with fes := x } : Chip).f y = c.f y := rfl
@[simp] theorem Chip.with_fes_fb (x : List FeS) (y : Fld) : ({ c with fes := x } : Chip).fb y = c.fb y := rfl
@[simp] theorem Chip.with_stc_rd (x : StcS) (r : Nat) : ({ c with stc := x } : Chip).rd r = c.rd r := rfl
@[simp] theorem Chip.with_stc_f (x : StcS) (y : Fld) : ({ c with stc := x } : Chip).f y = c.f y := rfl
@[simp] theorem Chip.with_stc_fb (x : StcS) (y : Fld) : ({ c with stc := x } : Chip).fb y = c.fb y := rfl
@[simp] theorem Chip.with_shp_rd (x : ShpS) (r : Nat) : ({ c with shp := x } : Chip).rd r = c.rd r := rfl
@[simp] theorem Chip.with_shp_f (x : ShpS) (y : Fld) : ({ c with shp := x } : Chip).f y = c.f y := rfl
@[simp] theorem Chip.with_shp_fb (x : ShpS) (y : Fld) : ({ c with shp := x } : Chip).fb y = c.fb y := rfl
@[simp] theorem Chip.with_retrain_rd (x : Option Retrain) (r : Nat) : ({ c with retrain := x } : Chip).rd r = c.rd r := rfl
@[simp] theorem Chip.with_retrain_f (x : Option Retrain) (y : Fld) : ({ c with retrain := x } : Chip).f y = c.f y := rfl
@[simp] theorem Chip.with_retrain_fb (x : Option Retrain) (y : Fld) : ({ c with retrain := x } : Chip).fb y = c.fb y := rfl
@[simp] theorem Chip.with_log_rd (x : List (Nat × LogEntry)) (r : Nat) : ({ c with log := x } : Chip).rd r = c.rd r := rfl
@[simp] theorem Chip.with_log_f (x : List (Nat × LogEntry)) (y : Fld) : ({ c with log := x } : Chip).f y = c.f y := rfl
@[simp] theorem Chip.with_log_fb (x : List (Nat × LogEntry)) (y : Fld) : ({ c with log := x } : Chip).fb y = c.fb y := rfl
@[simp] theorem Chip.with_headWrites_rd (x : List (List (Nat × Nat))) (r : Nat) : ({ c with headWrites := x } : Chip).rd r = c.rd r := rfl
@[simp] theorem Chip.with_headWrites_f (x : List (List (Nat × Nat))) (y : Fld) : ({ c with headWrites := x } : Chip).f y = c.f y := rfl
@[simp] theorem Chip.with_headWrites_fb (x : List (List (Nat × Nat))) (y : Fld) : ({ c with headWrites := x } : Chip).fb y = c.fb y := rfl
@[simp] theorem Chip.with_reports_rd (x : List Report) (r : Nat) : ({ c with reports := x } : Chip).rd r = c.rd r := rfl
@[simp] theorem Chip.with_reports_f (x : List Report) (y : Fld) : ({ c with reports := x } : Chip).f y = c.f y := rfl
@[simp] theorem Chip.with_reports_fb (x : List Report) (y : Fld) : ({ c with reports := x } : Chip).fb y = c.fb y := rfl
@[simp] theorem Chip.with_defers_rd (x : List Defer) (r : Nat) : ({ c with defers := x } : Chip).rd r = c.rd r := rfl
@[simp] theorem Chip.with_defers_f (x : List Defer) (y : Fld) : ({ c with defers := x } : Chip).f y = c.f y := rfl
@[simp] theorem Chip.with_defers_fb (x : List Defer) (y : Fld) : ({ c with defers := x } : Chip).fb y = c.fb y := rfl
@[simp] theorem Chip.with_out_rd (x : List Out) (r : Nat) : ({ c with out := x } : Chip).rd r = c.rd r := rfl
@[simp] theorem Chip.with_out_f (x : List Out) (y : Fld) : ({ c with out := x } : Chip).f y = c.f y := rfl
@[simp] theorem Chip.with_out_fb (x : List Out) (y : Fld) : ({ c with out := x } : Chip).fb y = c.fb y := rfl
@[simp] theorem Chip.with_freeCtr_rd (x : Nat) (r : Nat) : ({ c with freeCtr := x } : Chip).rd r = c.rd r := rfl
@[simp] theorem Chip.with_freeCtr_f (x : Nat) (y : Fld) : ({ c with freeCtr := x } : Chip).f y = c.f y := rfl
@[simp] theorem Chip.with_freeCtr_fb (x : Nat) (y : Fld) : ({ c with freeCtr := x } : Chip).fb y = c.fb y := rfl

end Sys2Proof.Machine
end

