-- ==== Sys2Proof/Laws/Store.lean ====
section
/-! SUPPORT. Laws/Store.lean: the sparse stores: a read after a write, and the canonical form that every write keeps. -/

namespace Sys2Proof.Machine

variable {α : Type}

theorem sget_sdel (d : Nat → α) (m : List (Nat × α)) (k j : Nat) :
    sget d (sdel k m) j = if j = k then d j else sget d m j := by
  induction m with
  | nil => simp [sdel, sget]
  | cons p rest ih =>
    obtain ⟨i, v⟩ := p
    by_cases hik : i = k
    · subst hik
      simp only [sdel, List.filter_cons, bne_self_eq_false, Bool.false_eq_true, if_false, sget] at ih ⊢
      rw [ih]
      split <;> rename_i h
      · rfl
      · rw [if_neg (fun h' => h h'.symm)]
    · simp only [sdel, List.filter_cons, bne_iff_ne, ne_eq, hik, not_false_eq_true, if_true, sget] at ih ⊢
      by_cases hij : i = j
      · subst hij; simp [hik]
      · simp [hij, ih]

theorem sget_sins (d : Nat → α) (m : List (Nat × α)) (k j : Nat) (v : α) (h : ∀ p ∈ m, p.1 ≠ k) :
    sget d (sins k v m) j = if j = k then v else sget d m j := by
  induction m with
  | nil =>
    by_cases hjk : j = k
    · simp [sins, sget, hjk]
    · simp [sins, sget, hjk, Ne.symm hjk]
  | cons p rest ih =>
    obtain ⟨i, w⟩ := p
    have hi : i ≠ k := h (i, w) (by simp)
    have ih := ih fun p hp => h p (by simp [hp])
    simp only [sins]
    split
    · simp only [sget]
      by_cases hjk : j = k
      · simp [hjk]
      · simp [hjk, Ne.symm hjk]
    · simp only [sget, ih]
      by_cases hij : i = j
      · subst hij; simp [hi]
      · simp [hij]

/-- A read after a write: the written value at its key, everything else as before. -/
theorem sget_sput [DecidableEq α] (d : Nat → α) (m : List (Nat × α)) (k j : Nat) (v : α) :
    sget d (sput d m k v) j = if j = k then v else sget d m j := by
  unfold sput
  split
  · rename_i h
    rw [sget_sdel]
    split
    · rename_i hjk; rw [hjk, h]
    · rfl
  · rw [sget_sins _ _ _ _ _ (by intro p hp; simp [sdel] at hp; exact hp.2), sget_sdel]
    split <;> rfl

theorem swf_nil (d : Nat → α) : swf d [] := ⟨List.Pairwise.nil, by simp⟩

theorem swf_sdel {d : Nat → α} {m : List (Nat × α)} (k : Nat) (h : swf d m) : swf d (sdel k m) :=
  ⟨h.1.filter _, fun p hp => h.2 p (List.mem_filter.mp hp).1⟩

theorem swf_sdrop {d : Nat → α} {m : List (Nat × α)} (lo hi : Nat) (h : swf d m) : swf d (sdrop lo hi m) :=
  ⟨h.1.filter _, fun p hp => h.2 p (List.mem_filter.mp hp).1⟩

theorem mem_sins (m : List (Nat × α)) (k : Nat) (v : α) (p : Nat × α) (h : p ∈ sins k v m) : p = (k, v) ∨ p ∈ m := by
  induction m with
  | nil => simpa [sins] using h
  | cons q rest ih =>
    obtain ⟨i, w⟩ := q
    simp only [sins] at h
    split at h
    · simpa using h
    · rcases List.mem_cons.mp h with h | h
      · exact Or.inr (by simp [h])
      · rcases ih h with h | h
        · exact Or.inl h
        · exact Or.inr (by simp [h])

theorem swf_sins {d : Nat → α} {m : List (Nat × α)} (k : Nat) (v : α) (h : swf d m) (hk : ∀ p ∈ m, p.1 ≠ k)
    (hv : v ≠ d k) : swf d (sins k v m) := by
  refine ⟨?_, fun p hp => ?_⟩
  · have h1 := h.1
    clear h
    induction m with
    | nil => simp [sins]
    | cons q rest ih =>
      obtain ⟨i, w⟩ := q
      have hi : i ≠ k := hk (i, w) (by simp)
      rw [List.pairwise_cons] at h1
      simp only [sins]
      split
      · rename_i hlt
        rw [List.pairwise_cons, List.pairwise_cons]
        refine ⟨fun p hp => ?_, h1⟩
        rcases List.mem_cons.mp hp with rfl | hp
        · exact hlt
        · exact Nat.lt_trans hlt (h1.1 p hp)
      · rename_i hge
        rw [List.pairwise_cons]
        refine ⟨fun p hp => ?_, ih (fun p hp => hk p (by simp [hp])) h1.2⟩
        rcases mem_sins _ _ _ _ hp with rfl | hp
        · show i < k
          omega
        · exact h1.1 p hp
  · rcases mem_sins _ _ _ _ hp with rfl | hp
    · exact hv
    · exact h.2 p hp

/-- A write keeps the canonical form. -/
theorem swf_sput [DecidableEq α] {d : Nat → α} {m : List (Nat × α)} (k : Nat) (v : α) (h : swf d m) :
    swf d (sput d m k v) := by
  unfold sput
  split
  · exact swf_sdel k h
  · rename_i hv
    exact swf_sins k v (swf_sdel k h) (by intro p hp; simp [sdel] at hp; exact hp.2) hv

/-- Two canonical stores that read alike are the same list. -/
theorem swf_ext {d : Nat → α} {m m' : List (Nat × α)} (h : swf d m) (h' : swf d m')
    (heq : ∀ k, sget d m k = sget d m' k) : m = m' := by
  have key : ∀ (m : List (Nat × α)) (j : Nat), (∀ p ∈ m, j < p.1) → sget d m j = d j := by
    intro m j hj
    induction m with
    | nil => rfl
    | cons p rest ih =>
      obtain ⟨i, v⟩ := p
      have : i ≠ j := by have := hj (i, v) (by simp); simp at this; omega
      simp only [sget, if_neg this]
      exact ih fun p hp => hj p (by simp [hp])
  induction m generalizing m' with
  | nil =>
    cases m' with
    | nil => rfl
    | cons p rest =>
      have := heq p.1
      simp only [sget, if_true] at this
      exact absurd this.symm (h'.2 p (by simp))
  | cons p rest ih =>
    obtain ⟨i, v⟩ := p
    have hp := List.pairwise_cons.mp h.1
    cases m' with
    | nil =>
      have := heq i
      simp only [sget, if_true] at this
      exact absurd this (h.2 (i, v) (by simp))
    | cons q rest' =>
      obtain ⟨j, w⟩ := q
      have hq := List.pairwise_cons.mp h'.1
      have hij : i = j := by
        rcases Nat.lt_trichotomy i j with hlt | heq' | hlt
        · have h1 := heq i
          rw [key ((j, w) :: rest') i (by
            intro p hp'
            rcases List.mem_cons.mp hp' with rfl | hp'
            · exact hlt
            · exact Nat.lt_trans hlt (hq.1 p hp'))] at h1
          simp only [sget, if_true] at h1
          exact absurd h1 (h.2 (i, v) (by simp))
        · exact heq'
        · have h1 := heq j
          rw [key ((i, v) :: rest) j (by
            intro p hp'
            rcases List.mem_cons.mp hp' with rfl | hp'
            · exact hlt
            · exact Nat.lt_trans hlt (hp.1 p hp'))] at h1
          simp only [sget, if_true] at h1
          exact absurd h1.symm (h'.2 (j, w) (by simp))
      subst hij
      have hvw : v = w := by have := heq i; simpa [sget] using this
      subst hvw
      congr 1
      refine ih ⟨hp.2, fun p hp' => h.2 p (by simp [hp'])⟩ ⟨hq.2, fun p hp' => h'.2 p (by simp [hp'])⟩ fun k => ?_
      have := heq k
      by_cases hk : i = k
      · subst hk
        rw [key rest i hp.1, key rest' i hq.1]
      · simpa [sget, hk] using this

end Sys2Proof.Machine
end

