-- ==== Sys2Proof/Laws/Regs.lean ====
section
/-! SUPPORT. Laws/Regs.lean: what a register or a field reads as after an update, and what an update of the memories
leaves readable. -/

namespace Sys2Proof.Machine

variable (c : Chip)

theorem Chip.rd_wr (a b : Nat) (v : Word) : (c.wr a v).rd b = if b = a then v else c.rd b := sget_sput ..

@[simp] theorem Chip.rd_wr_self (a : Nat) (v : Word) : (c.wr a v).rd a = v := by rw [Chip.rd_wr, if_pos rfl]

theorem Chip.rd_wr_ne {a b : Nat} (v : Word) (h : b ≠ a) : (c.wr a v).rd b = c.rd b := by rw [Chip.rd_wr, if_neg h]

theorem Chip.rd_setF (x : Fld) (v b : Nat) :
    (c.setF x v).rd b = if b = x.addr then putBits (c.rd b) x.lo x.width v else c.rd b := by
  unfold Chip.setF
  rw [Chip.rd_wr]
  split
  · rename_i h; rw [h]
  · rfl

theorem Chip.rd_setF_ne {x : Fld} (v : Nat) {b : Nat} (h : b ≠ x.addr) : (c.setF x v).rd b = c.rd b := by
  rw [Chip.rd_setF, if_neg h]

theorem Chip.f_eq (x : Fld) : c.f x = getBits (c.rd x.addr) x.lo x.width := rfl

theorem Chip.f_lt (x : Fld) : c.f x < 2 ^ x.width := getBits_lt ..

theorem Chip.f_wr_ne {a : Nat} (v : Word) {x : Fld} (h : x.addr ≠ a) : (c.wr a v).f x = c.f x := by
  rw [Chip.f_eq, Chip.f_eq, Chip.rd_wr_ne _ _ h]

/-- A field reads as what was set, modulo its width. -/
theorem Chip.f_setF_self {x : Fld} (v : Nat) (h : x.lo + x.width ≤ 32) : (c.setF x v).f x = v % 2 ^ x.width := by
  rw [Chip.f_eq, Chip.rd_setF, if_pos rfl, getBits_putBits _ _ h]

/-- Setting a field leaves the fields of every other register alone. -/
theorem Chip.f_setF_ne {x y : Fld} (v : Nat) (h : y.addr ≠ x.addr) : (c.setF x v).f y = c.f y := by
  rw [Chip.f_eq, Chip.f_eq, Chip.rd_setF_ne _ _ h]

/-- Setting a field leaves every disjoint field of its register alone. -/
theorem Chip.f_setF_disjoint {x y : Fld} (v : Nat) (h : y.addr ≠ x.addr ∨ x.lo + x.width ≤ y.lo ∨ y.lo + y.width ≤ x.lo) :
    (c.setF x v).f y = c.f y := by
  rcases h with h | h
  · exact c.f_setF_ne v h
  · rw [Chip.f_eq, Chip.f_eq, Chip.rd_setF]
    split
    · rw [getBits_putBits_disjoint _ _ h]
    · rfl

theorem Chip.fb_eq (x : Fld) : c.fb x = (c.f x != 0) := rfl

theorem Chip.fb_setF_disjoint {x y : Fld} (v : Nat)
    (h : y.addr ≠ x.addr ∨ x.lo + x.width ≤ y.lo ∨ y.lo + y.width ≤ x.lo) : (c.setF x v).fb y = c.fb y := by
  rw [Chip.fb_eq, Chip.fb_eq, c.f_setF_disjoint v h]

theorem Chip.fb_wr_ne {a : Nat} (v : Word) {x : Fld} (h : x.addr ≠ a) : (c.wr a v).fb x = c.fb x := by
  rw [Chip.fb_eq, Chip.fb_eq, c.f_wr_ne v h]

/-! The named variants of setting a field. -/

theorem Chip.ev_def (x : Fld) : c.ev x = c.setF x 1 := rfl

theorem Chip.inc_def (x : Fld) : c.inc x = c.setF x (satAdd x.width (c.f x) 1) := rfl

theorem Chip.add_def (x : Fld) (n : Nat) : c.add x n = c.setF x (satAdd x.width (c.f x) n) := rfl

theorem Chip.setFb_def (x : Fld) (b : Bool) : c.setFb x b = c.setF x (if b then 1 else 0) := rfl

theorem Chip.setFs_def (x : Fld) (i : Int) : c.setFs x i = c.setF x (ofSigned x.width i) := rfl

theorem satAdd_lt (w a b : Nat) : satAdd w a b < 2 ^ w := by
  unfold satAdd
  have : 0 < 2 ^ w := Nat.two_pow_pos w
  omega

/-- An event bit that was set reads 1. -/
theorem Chip.f_ev_self {x : Fld} (h : x.lo + x.width ≤ 32) (hw : 0 < x.width) : (c.ev x).f x = 1 := by
  rw [Chip.ev_def, c.f_setF_self 1 h, Nat.mod_eq_of_lt]
  exact Nat.one_lt_two_pow (by omega)

/-- A counter after an increment: one more, saturating at its width. -/
theorem Chip.f_inc_self {x : Fld} (h : x.lo + x.width ≤ 32) : (c.inc x).f x = satAdd x.width (c.f x) 1 := by
  rw [Chip.inc_def, c.f_setF_self _ h, Nat.mod_eq_of_lt (satAdd_lt ..)]

theorem Chip.f_add_self {x : Fld} (n : Nat) (h : x.lo + x.width ≤ 32) : (c.add x n).f x = satAdd x.width (c.f x) n := by
  rw [Chip.add_def, c.f_setF_self _ h, Nat.mod_eq_of_lt (satAdd_lt ..)]

/-! Memory bytes. -/

theorem Chip.byte_setByte (a b : Nat) (v : Byte) : (c.setByte a v).byte b = if b = a then v else c.byte b := sget_sput ..

theorem Chip.byte_setBytes (a b : Nat) (bs : List Byte) :
    (c.setBytes a bs).byte b = if a ≤ b ∧ b < a + bs.length then bs.getD (b - a) 0#8 else c.byte b := by
  induction bs generalizing c a with
  | nil =>
    rw [if_neg (by simp only [List.length_nil]; omega)]; rfl
  | cons v rest ih =>
    simp only [Chip.setBytes]
    rw [ih, Chip.byte_setByte]
    simp only [List.length_cons]
    by_cases h1 : a + 1 ≤ b ∧ b < a + 1 + rest.length
    · rw [if_pos h1, if_pos (by omega)]
      obtain ⟨k, hk⟩ : ∃ k, b - a = k + 1 := ⟨b - a - 1, by omega⟩
      have : b - (a + 1) = k := by omega
      rw [hk, this]; simp
    · rw [if_neg h1]
      by_cases h2 : b = a
      · subst h2; rw [if_pos rfl, if_pos (by omega)]; simp
      · rw [if_neg h2, if_neg (by omega)]

end Sys2Proof.Machine
end

