-- ==== Sys2Proof/Laws/Settle.lean ====
section
/-! SUPPORT. Laws/Settle.lean: what follows a command does nothing but show the summary where nothing is left over, and
the summary touches no other register. -/

namespace Sys2Proof.Machine

variable (c : Chip)

/-! ### A quiet device -/

theorem Chip.fcSettle_quiet (h1 : c.reports = []) (h2 : c.fc.waiting = []) (k : Nat) : Chip.fcSettle k c = c := by
  obtain ⟨regs, mem, ecc, opt, win, mcs, cvus, eqs, cmt, lanes, ports, links, fes, stc, ie, shp, ssp, job, orb, fc, rest⟩ := c
  cases fc
  simp only at h1 h2
  subst h1 h2
  cases k with
  | zero => rfl
  | succ k => rw [Chip.fcSettle]; split <;> rfl

theorem Chip.settleLoop_quiet (h1 : c.reports = []) (h2 : c.fc.waiting = []) (h3 : c.defers = []) (k : Nat) :
    Chip.settleLoop k c = c := by
  cases k with
  | zero => rfl
  | succ k => simp only [Chip.settleLoop, c.fcSettle_quiet h1 h2, h3]

theorem Chip.releases_quiet (h : c.Quiet) : c.releases = c := by
  obtain ⟨_, _, _, hj, _, hf, hs, hi, hc, hp⟩ := h
  have hfe : ∀ n < 8, c.feRelease n = c := fun n hn => by simp [Chip.feRelease, hf n hn]
  have hfs : c.each (List.range 8) Chip.feRelease = c := by
    simp [Chip.each, List.range, List.range.loop, hfe]
  simp [Chip.releases, hfs, Chip.stcRelease, hs, Chip.ieRelease, hi, Chip.csRelease, hc, Chip.sspRelease, hp,
    Chip.stopCheck, hj]

theorem Chip.serveDseq_quiet (h : c.pair.serveDseq = false) : c.serveDseq = c := by
  unfold Chip.serveDseq
  split
  · simp [h]
  · rfl

/-- Where nothing is left over, settling only shows the summary. -/
theorem Chip.settle_quiet (h : c.Quiet) : c.settle = c.sumUpdate := by
  have h' := h
  obtain ⟨h1, h3, h2, _, h5, _⟩ := h'
  simp only [Chip.settle, c.settleLoop_quiet h1 h2 h3, c.releases_quiet h, c.serveDseq_quiet h5]

/-! ### The summary -/

theorem Chip.sumUpdate_rd {a : Nat} (h : a ≠ R.scpSum) : c.sumUpdate.rd a = c.rd a := by
  simp [Chip.sumUpdate, Chip.rd_setF_ne, F.scpSumSum, h]

theorem Chip.sumUpdate_f {x : Fld} (h : x.addr ≠ R.scpSum) : c.sumUpdate.f x = c.f x := by
  simp [Chip.f_eq, c.sumUpdate_rd h]

theorem Chip.sumUpdate_fb {x : Fld} (h : x.addr ≠ R.scpSum) : c.sumUpdate.fb x = c.fb x := by
  simp [Chip.fb_eq, c.sumUpdate_f h]

@[simp] theorem Chip.sumUpdate_mem : c.sumUpdate.mem = c.mem := rfl
@[simp] theorem Chip.sumUpdate_ecc : c.sumUpdate.ecc = c.ecc := rfl
@[simp] theorem Chip.sumUpdate_opt : c.sumUpdate.opt = c.opt := rfl
@[simp] theorem Chip.sumUpdate_mcs : c.sumUpdate.mcs = c.mcs := rfl
@[simp] theorem Chip.sumUpdate_cvus : c.sumUpdate.cvus = c.cvus := rfl
@[simp] theorem Chip.sumUpdate_eqs : c.sumUpdate.eqs = c.eqs := rfl
@[simp] theorem Chip.sumUpdate_cmt : c.sumUpdate.cmt = c.cmt := rfl
@[simp] theorem Chip.sumUpdate_lanes : c.sumUpdate.lanes = c.lanes := rfl
@[simp] theorem Chip.sumUpdate_ports : c.sumUpdate.ports = c.ports := rfl
@[simp] theorem Chip.sumUpdate_links : c.sumUpdate.links = c.links := rfl
@[simp] theorem Chip.sumUpdate_fes : c.sumUpdate.fes = c.fes := rfl
@[simp] theorem Chip.sumUpdate_stc : c.sumUpdate.stc = c.stc := rfl
@[simp] theorem Chip.sumUpdate_ie : c.sumUpdate.ie = c.ie := rfl
@[simp] theorem Chip.sumUpdate_shp : c.sumUpdate.shp = c.shp := rfl
@[simp] theorem Chip.sumUpdate_ssp : c.sumUpdate.ssp = c.ssp := rfl
@[simp] theorem Chip.sumUpdate_job : c.sumUpdate.job = c.job := rfl
@[simp] theorem Chip.sumUpdate_orb : c.sumUpdate.orb = c.orb := rfl
@[simp] theorem Chip.sumUpdate_fc : c.sumUpdate.fc = c.fc := rfl
@[simp] theorem Chip.sumUpdate_pair : c.sumUpdate.pair = c.pair := rfl
@[simp] theorem Chip.sumUpdate_dma : c.sumUpdate.dma = c.dma := rfl
@[simp] theorem Chip.sumUpdate_clk : c.sumUpdate.clk = c.clk := rfl
@[simp] theorem Chip.sumUpdate_boot : c.sumUpdate.boot = c.boot := rfl
@[simp] theorem Chip.sumUpdate_jtag : c.sumUpdate.jtag = c.jtag := rfl
@[simp] theorem Chip.sumUpdate_retrain : c.sumUpdate.retrain = c.retrain := rfl
@[simp] theorem Chip.sumUpdate_log : c.sumUpdate.log = c.log := rfl
@[simp] theorem Chip.sumUpdate_headWrites : c.sumUpdate.headWrites = c.headWrites := rfl
@[simp] theorem Chip.sumUpdate_reports : c.sumUpdate.reports = c.reports := rfl
@[simp] theorem Chip.sumUpdate_defers : c.sumUpdate.defers = c.defers := rfl
@[simp] theorem Chip.sumUpdate_out : c.sumUpdate.out = c.out := rfl
@[simp] theorem Chip.sumUpdate_freeCtr : c.sumUpdate.freeCtr = c.freeCtr := rfl

@[simp] theorem Chip.sumUpdate_byte (a : Nat) : c.sumUpdate.byte a = c.byte a := rfl

end Sys2Proof.Machine
end

