-- ==== Sys2Proof/Laws/Does.lean ====
section
/-! SUPPORT. Laws/Does.lean: how a command shows its effect, and how updates keep registers and memories. -/

namespace Sys2Proof.Machine

/-- The device with the outputs of the command before gone. -/
def State.fresh (s : State) : Chip := { s.chip with out := [] }

/-! ### A device as another but for the summary, the sessions and what has been sent -/

/-- `d` is `e` but for the summary, the registers listed, the state of the control protocol and the outputs. -/
structure Chip.Alike (e d : Chip) (l : List Nat) : Prop where
  rd : ∀ a, a ≠ R.scpSum → a ∉ l → d.rd a = e.rd a
  mem : d.mem = e.mem
  ecc : d.ecc = e.ecc
  opt : d.opt = e.opt
  mcs : d.mcs = e.mcs
  cvus : d.cvus = e.cvus
  eqs : d.eqs = e.eqs
  cmt : d.cmt = e.cmt
  lanes : d.lanes = e.lanes
  ports : d.ports = e.ports
  links : d.links = e.links
  fes : d.fes = e.fes
  stc : d.stc = e.stc
  ie : d.ie = e.ie
  shp : d.shp = e.shp
  ssp : d.ssp = e.ssp
  job : d.job = e.job
  orb : d.orb = e.orb
  fc : d.fc = e.fc
  pair : d.pair = e.pair
  dma : d.dma = e.dma
  clk : d.clk = e.clk
  boot : d.boot = e.boot
  jtag : d.jtag = e.jtag
  retrain : d.retrain = e.retrain
  log : d.log = e.log
  headWrites : d.headWrites = e.headWrites
  reports : d.reports = e.reports
  defers : d.defers = e.defers
  freeCtr : d.freeCtr = e.freeCtr

theorem Chip.Alike.refl (e : Chip) (l : List Nat) : e.Alike e l := by constructor <;> intros <;> rfl

theorem Chip.Alike.trans {a b c : Chip} {l : List Nat} (h : a.Alike b l) (k : b.Alike c l) : a.Alike c l := by
  constructor
  · intro x h1 h2; rw [k.rd x h1 h2, h.rd x h1 h2]
  · rw [k.mem, h.mem]
  · rw [k.ecc, h.ecc]
  · rw [k.opt, h.opt]
  · rw [k.mcs, h.mcs]
  · rw [k.cvus, h.cvus]
  · rw [k.eqs, h.eqs]
  · rw [k.cmt, h.cmt]
  · rw [k.lanes, h.lanes]
  · rw [k.ports, h.ports]
  · rw [k.links, h.links]
  · rw [k.fes, h.fes]
  · rw [k.stc, h.stc]
  · rw [k.ie, h.ie]
  · rw [k.shp, h.shp]
  · rw [k.ssp, h.ssp]
  · rw [k.job, h.job]
  · rw [k.orb, h.orb]
  · rw [k.fc, h.fc]
  · rw [k.pair, h.pair]
  · rw [k.dma, h.dma]
  · rw [k.clk, h.clk]
  · rw [k.boot, h.boot]
  · rw [k.jtag, h.jtag]
  · rw [k.retrain, h.retrain]
  · rw [k.log, h.log]
  · rw [k.headWrites, h.headWrites]
  · rw [k.reports, h.reports]
  · rw [k.defers, h.defers]
  · rw [k.freeCtr, h.freeCtr]

theorem Chip.Alike.sum (e : Chip) (l : List Nat) : e.Alike e.sumUpdate l := by
  constructor
  · intro x h1 _; exact e.sumUpdate_rd h1
  all_goals rfl

theorem Chip.Alike.emit (e : Chip) (o : Out) (l : List Nat) : e.Alike (e.emit o) l := by constructor <;> intros <;> rfl

theorem Chip.Alike.f {e d : Chip} {l : List Nat} (h : e.Alike d l) {x : Fld} (h1 : x.addr ≠ R.scpSum) (h2 : x.addr ∉ l) :
    d.f x = e.f x := by rw [Chip.f_eq, Chip.f_eq, h.rd _ h1 h2]

theorem Chip.Alike.fb {e d : Chip} {l : List Nat} (h : e.Alike d l) {x : Fld} (h1 : x.addr ≠ R.scpSum) (h2 : x.addr ∉ l) :
    d.fb x = e.fb x := by rw [Chip.fb_eq, Chip.fb_eq, h.f h1 h2]

theorem Chip.Alike.byte {e d : Chip} {l : List Nat} (h : e.Alike d l) (a : Nat) : d.byte a = e.byte a := by
  simp [Chip.byte, h.mem]

theorem Chip.setSession_alike (e : Chip) (p : Path) (x : Option Session) (l : List Nat) (hl : R.scpSession ∈ l) :
    e.Alike (e.setSession p x) l := by
  cases p <;> constructor
  case ul.rd | spi.rd =>
    intro a _ h2
    have : a ≠ R.scpSession := by rintro rfl; exact h2 hl
    simp [Chip.setSession, Chip.setFb_def, Chip.rd_setF_ne, F.scpSessionUlOpen, F.scpSessionUlScope, F.scpSessionSpiOpen,
      F.scpSessionSpiScope, this]
  all_goals rfl

theorem Chip.useSession_alike (e : Chip) (p : Path) (key : List Byte) (l : List Nat) (hl : R.scpSession ∈ l) :
    e.Alike (e.useSession p key) l := by
  unfold Chip.useSession
  split
  · split
    · exact e.setSession_alike _ _ _ hl
    · exact Alike.refl _ _
  · exact Alike.refl _ _

@[simp] theorem Chip.setSession_out (e : Chip) (p : Path) (x : Option Session) : (e.setSession p x).out = e.out := by
  cases p <;> rfl

@[simp] theorem Chip.useSession_out (e : Chip) (p : Path) (key : List Byte) : (e.useSession p key).out = e.out := by
  unfold Chip.useSession
  split
  · split <;> simp
  · rfl

/-- A write that some rule rejects changes nothing and answers the status of R499. -/
theorem Chip.writeOp_rejected {c : Chip} {src : Src} {a : Nat} {v : Word} (h : ¬c.Allows src a v) :
    c.writeOp src a v = c.emit (.status (pickStatus (c.writeChecks src a v))) := by
  have h' : pickStatus (c.writeChecks src a v) ≠ 0 := h
  simp [Chip.writeOp, Chip.ctrlWrite, h']

/-- A write that no rule rejects stores and has its block's effect; beside that only the session's uses change. -/
theorem Chip.writeOp_allowed {c : Chip} {src : Src} {a : Nat} {v : Word} (h : c.Allows src a v) :
    (c.regStore src a v).1.Alike (c.writeOp src a v) [R.scpSession]
      ∧ (c.writeOp src a v).out = (c.regStore src a v).1.out ++ [.status (c.regStore src a v).2] := by
  have h' : pickStatus (c.writeChecks src a v) = 0 := h
  unfold Chip.writeOp Chip.ctrlWrite
  rcases hst : c.regStore src a v with ⟨d, st⟩
  simp only [h', ne_eq, not_true_eq_false, if_false]
  cases src with
  | scp p key =>
    simp only
    split
    · exact ⟨(d.useSession_alike p key _ (by simp)).trans (Alike.emit _ _ _), by simp⟩
    · exact ⟨Alike.emit _ _ _, by simp⟩
  | dma n => exact ⟨Alike.emit _ _ _, by simp⟩
  | boot => exact ⟨Alike.emit _ _ _, by simp⟩

/-! ### The outputs do not matter to what rejects a write -/

theorem State.fresh_clkChecks (s : State) (k : Nat) (v : Word) : s.fresh.clkChecks k v = s.chip.clkChecks k v := (rfl)
theorem State.fresh_rstChecks (s : State) (k : Nat) (v : Word) : s.fresh.rstChecks k v = s.chip.rstChecks k v := (rfl)
theorem State.fresh_fcChecks (s : State) (k : Nat) (v : Word) : s.fresh.fcChecks k v = s.chip.fcChecks k v := (rfl)
theorem State.fresh_dmaChecks (s : State) (k : Nat) (v : Word) : s.fresh.dmaChecks k v = s.chip.dmaChecks k v := by
  have h : s.fresh.f = s.chip.f := funext fun _ => (rfl)
  have h2 : s.fresh.chSt = s.chip.chSt := funext fun _ => (rfl)
  unfold Chip.dmaChecks; rw [h, h2]

theorem State.fresh_cvuChecks (s : State) (n k : Nat) (v : Word) : s.fresh.cvuChecks n k v = s.chip.cvuChecks n k v := (rfl)
theorem State.fresh_eqChecks (s : State) (src : Src) (n k : Nat) (v : Word) : s.fresh.eqChecks src n k v = s.chip.eqChecks src n k v := (rfl)
theorem State.fresh_orbChecks (s : State) (k : Nat) (v : Word) : s.fresh.orbChecks k v = s.chip.orbChecks k v := (rfl)
theorem State.fresh_cmtChecks (s : State) (k : Nat) (v : Word) : s.fresh.cmtChecks k v = s.chip.cmtChecks k v := (rfl)
theorem State.fresh_shpChecks (s : State) (k : Nat) (v : Word) : s.fresh.shpChecks k v = s.chip.shpChecks k v := (rfl)
theorem State.fresh_portChecks (s : State) (n k : Nat) (v : Word) : s.fresh.portChecks n k v = s.chip.portChecks n k v := (rfl)
theorem State.fresh_laneChecks (s : State) (n m k : Nat) (v : Word) : s.fresh.laneChecks n m k v = s.chip.laneChecks n m k v := (rfl)
theorem State.fresh_ulChecks (s : State) (k : Nat) (v : Word) : s.fresh.ulChecks k v = s.chip.ulChecks k v := (rfl)
theorem State.fresh_linkChecks (s : State) (n k : Nat) (v : Word) : s.fresh.linkChecks n k v = s.chip.linkChecks n k v := (rfl)
theorem State.fresh_sspChecks (s : State) (k : Nat) (v : Word) : s.fresh.sspChecks k v = s.chip.sspChecks k v := (rfl)
theorem State.fresh_feChecks (s : State) (n k : Nat) (v : Word) : s.fresh.feChecks n k v = s.chip.feChecks n k v := (rfl)
theorem State.fresh_jobChecks (s : State) (a : Nat) (v : Word) : s.fresh.jobChecks a v = s.chip.jobChecks a v := (rfl)
theorem State.fresh_mcChecks (s : State) (n k : Nat) (v : Word) : s.fresh.mcChecks n k v = s.chip.mcChecks n k v := (rfl)
theorem State.fresh_pushMode (s : State) : s.fresh.pushMode = s.chip.pushMode := (rfl)
theorem State.fresh_f (s : State) (x : Fld) : s.fresh.f x = s.chip.f x := (rfl)
theorem State.fresh_fb (s : State) (x : Fld) : s.fresh.fb x = s.chip.fb x := (rfl)
theorem State.fresh_rd (s : State) (a : Nat) : s.fresh.rd a = s.chip.rd a := (rfl)
theorem State.fresh_byte (s : State) (a : Nat) : s.fresh.byte a = s.chip.byte a := (rfl)
theorem State.fresh_optWord (s : State) (i : Nat) : s.fresh.optWord i = s.chip.optWord i := (rfl)

theorem State.fresh_secChecks (s : State) (v : Word) : s.fresh.secChecks v = s.chip.secChecks v := by
  have h : s.fresh.optWord = s.chip.optWord := funext fun _ => rfl
  have h2 : s.fresh.boot = s.chip.boot := rfl
  unfold Chip.secChecks; rw [h, h2]

theorem State.fresh_blockChecks (s : State) (src : Src) (a : Nat) (v : Word) :
    s.fresh.blockChecks src a v = s.chip.blockChecks src a v := by
  unfold Chip.blockChecks
  simp only [State.fresh_clkChecks, State.fresh_rstChecks, State.fresh_fcChecks, State.fresh_dmaChecks, State.fresh_cvuChecks, State.fresh_eqChecks, State.fresh_orbChecks, State.fresh_cmtChecks, State.fresh_shpChecks, State.fresh_portChecks, State.fresh_laneChecks, State.fresh_ulChecks, State.fresh_linkChecks, State.fresh_sspChecks, State.fresh_feChecks, State.fresh_jobChecks, State.fresh_mcChecks, State.fresh_secChecks, State.fresh_pushMode, State.fresh_f]

theorem State.fresh_allows {s : State} {src : Src} {a : Nat} {v : Word} (h : s.chip.Allows src a v) :
    s.fresh.Allows src a v := by
  have : s.fresh.writeChecks src a v = s.chip.writeChecks src a v := by
    unfold Chip.writeChecks
    have e1 : s.fresh.accessChecks src a true = s.chip.accessChecks src a true := (rfl)
    have e2 : s.fresh.unauthorized src a = s.chip.unauthorized src a := (rfl)
    have e3 : s.fresh.perJobChecks a = s.chip.perJobChecks a := (rfl)
    rw [e1, e2, e3, State.fresh_blockChecks]
  unfold Chip.Allows
  rw [this]; exact h

/-! ### Showing an effect -/

theorem Does.of_run {i : Instr} {s : State} (f : Chip → Chip) {e : Chip} {P : Chip → Prop} (h : exec i s = run s f)
    (he : f s.fresh = e)
    (hp : ∀ d, e.Alike d [] → d.out = e.out → d.scp = { e.scp with seen := d.scp.seen, rose := d.scp.rose } → P d) :
    Does i s P := by
  subst he
  exact ⟨f s.fresh, h, hp _ (Chip.Alike.refl _ _) rfl rfl, fun hq => by
    rw [(f s.fresh).settle_quiet hq]; exact hp _ (Chip.Alike.sum _ _) rfl rfl⟩

theorem Does.of_runIf {i : Instr} {s : State} {ok : Bool} (f : Chip → Chip) {e : Chip} {P : Chip → Prop}
    (h : exec i s = runIf s ok f) (hk : ok = true) (he : f s.fresh = e)
    (hp : ∀ d, e.Alike d [] → d.out = e.out → d.scp = { e.scp with seen := d.scp.seen, rose := d.scp.rose } → P d) :
    Does i s P :=
  Does.of_run f (by rw [h]; simp [runIf, hk]) he hp

theorem Does.of_runIn {i : Instr} {s : State} {n : Nat} {ok : Bool} (f : Chip → Chip) {e : Chip} {P : Chip → Prop}
    (h : exec i s = runIn s n ok f) (hn : s.chip.domainRuns n = true) (hk : ok = true) (he : f s.fresh = e)
    (hp : ∀ d, e.Alike d [] → d.out = e.out → d.scp = { e.scp with seen := d.scp.seen, rose := d.scp.rose } → P d) :
    Does i s P :=
  Does.of_run f (by
    have : ({ s.chip with out := [] } : Chip).domainRuns n = true := hn
    rw [h]; simp only [runIn, run, hk, this, Bool.and_self, if_true]) he hp

theorem Does.of_write {i : Instr} {s : State} {src : Src} {a : Nat} {v : Word} {P : Chip → Prop}
    (h : exec i s = run s fun c => c.writeOp src a v) (ha : s.chip.Allows src a v)
    (hp : ∀ d, (s.fresh.regStore src a v).1.Alike d [R.scpSession]
      → d.out = (s.fresh.regStore src a v).1.out ++ [.status (s.fresh.regStore src a v).2] → P d) : Does i s P := by
  have ha' := State.fresh_allows ha
  obtain ⟨h1, h2⟩ := Chip.writeOp_allowed ha'
  refine ⟨s.fresh.writeOp src a v, h, hp _ h1 h2, fun hq => ?_⟩
  rw [Chip.settle_quiet _ hq]
  exact hp _ (h1.trans (Chip.Alike.sum _ _)) h2

theorem Does.of_writeIf {i : Instr} {s : State} {ok : Bool} {src : Src} {a : Nat} {v : Word} {P : Chip → Prop}
    (h : exec i s = runIf s ok fun c => c.writeOp src a v) (hk : ok = true) (ha : s.chip.Allows src a v)
    (hp : ∀ d, (s.fresh.regStore src a v).1.Alike d [R.scpSession]
      → d.out = (s.fresh.regStore src a v).1.out ++ [.status (s.fresh.regStore src a v).2] → P d) : Does i s P :=
  Does.of_write (by rw [h]; simp [runIf, hk]) ha hp

/-! ### Keeping registers and memories -/

variable {c t : Chip} {l : List Nat}

theorem Chip.Keeps.refl (c : Chip) (l : List Nat) : c.Keeps c l := ⟨fun _ _ _ => rfl, fun _ => rfl⟩

/-- An update that is no register write and no memory write keeps what was kept. -/
theorem Chip.Keeps.same {u : Chip} (h : c.Keeps t l) (hr : u.regs = t.regs) (hm : u.mem = t.mem) : c.Keeps u l :=
  ⟨fun a h1 h2 => by rw [← h.1 a h1 h2]; simp [Chip.rd, hr], fun a => by rw [← h.2 a]; simp [Chip.byte, hm]⟩

theorem Chip.Keeps.of_same {u : Chip} (hr : u.regs = c.regs) (hm : u.mem = c.mem) : c.Keeps u l :=
  (Chip.Keeps.refl c l).same hr hm

theorem Chip.Keeps.wr {a : Nat} {v : Word} (h : c.Keeps t l) (ha : a ∈ l) : c.Keeps (t.wr a v) l :=
  ⟨fun b h1 h2 => by rw [Chip.rd_wr_ne _ _ (by rintro rfl; exact h1 ha)]; exact h.1 b h1 h2, h.2⟩

theorem Chip.Keeps.setF {x : Fld} {v : Nat} (h : c.Keeps t l) (ha : x.addr ∈ l) : c.Keeps (t.setF x v) l := h.wr ha

theorem Chip.Keeps.setFb {x : Fld} {v : Bool} (h : c.Keeps t l) (ha : x.addr ∈ l) : c.Keeps (t.setFb x v) l := h.wr ha

theorem Chip.Keeps.setFs {x : Fld} {v : Int} (h : c.Keeps t l) (ha : x.addr ∈ l) : c.Keeps (t.setFs x v) l := h.wr ha

theorem Chip.Keeps.ev {x : Fld} (h : c.Keeps t l) (ha : x.addr ∈ l) : c.Keeps (t.ev x) l := h.wr ha

theorem Chip.Keeps.inc {x : Fld} (h : c.Keeps t l) (ha : x.addr ∈ l) : c.Keeps (t.inc x) l := h.wr ha

theorem Chip.Keeps.add {x : Fld} {n : Nat} (h : c.Keeps t l) (ha : x.addr ∈ l) : c.Keeps (t.add x n) l := h.wr ha

theorem Chip.Keeps.sum (h : c.Keeps t l) : c.Keeps t.sumUpdate l :=
  ⟨fun a h1 h2 => by rw [t.sumUpdate_rd h2]; exact h.1 a h1 h2, h.2⟩

theorem Chip.Keeps.ite {p : Prop} [Decidable p] {u v : Chip} (h1 : p → c.Keeps u l) (h2 : ¬p → c.Keeps v l) :
    c.Keeps (if p then u else v) l := by split <;> simp_all

theorem Chip.Keeps.each {α : Type} {g : Chip → α → Chip} (xs : List α) (h : c.Keeps t l)
    (hg : ∀ u, ∀ x ∈ xs, c.Keeps u l → c.Keeps (g u x) l) : c.Keeps (t.each xs g) l := by
  unfold Chip.each
  induction xs generalizing t with
  | nil => exact h
  | cons x rest ih =>
    exact ih (hg t x (by simp) h) fun u y hy => hg u y (by simp [hy])

theorem Chip.Keeps.alike {d : Chip} {k : List Nat} (h : c.Keeps t l) (ha : t.Alike d k) (hk : ∀ a ∈ k, a ∈ l) : c.Keeps d l :=
  ⟨fun a h1 h2 => by rw [ha.rd a h2 fun h3 => h1 (hk a h3)]; exact h.1 a h1 h2, fun a => by rw [ha.byte]; exact h.2 a⟩

end Sys2Proof.Machine
end

