-- ==== Sys2Proof/Tests/Slice0.lean ====
section
/-! SUPPORT. Tests/Slice0.lean: ill-formed commands that WellFormed refuses, small runs of one step with results the spec
states, and for each statement with hypotheses states and operands that meet them, at the ends of their ranges. The
boot source `.boot` writes registers in these states.
-/

namespace Sys2Proof.Machine

set_option Elab.async false

/-- Fields set one after another. -/
def Chip.sets (c : Chip) (l : List (Fld × Nat)) : Chip := l.foldl (fun c p => c.setF p.1 p.2) c

/-- A device that has booted and runs, with its clocks good. -/
def up : Chip :=
  ({ State.reset.chip with boot := { State.reset.chip.boot with hold := false, straps := true } }).sets
    [(F.glbBootStatPhase, 8), (F.clkStatLock, 31), (F.clkStatStHl, 2), (F.clkStatStUl, 2), (F.clkStatHold, 0),
      (F.clkStatSafe, 0), (F.rstHoldTime, 0), (F.rstHoldCore, 0), (F.rstHoldMemc, 0)]

/-! ### Commands that are not well formed -/

/-- Commands that name something the device has not got are not well formed (1). -/
theorem test_ill_formed_1 :
    ([.lanePowerUp 9 0, .lanePowerUp 0 5, .laneTrainRequestUl 9, .laneWakeForTraining 9 0, .laneWakeForTraining 0 5,
      .laneWakeForData 9 0, .laneWakeForData 0 5, .lanePowerDown 0 5, .lanePowerDown 10 0, .laneIdleFastExit 9 0,
      .laneIdleFastExit 0 5, .laneIdleDeepRequest 9 0, .laneIdleDeepRequest 0 5, .laneIdleFastRequest 9 0,
      .laneIdleFastRequest 0 5, .laneTrainingComplete 0 5 ⟨0#32, 0#32, 0#32, 0#32, 0#32⟩,
      .laneTrainingComplete 10 0 ⟨0#32, 0#32, 0#32, 0#32, 0#32⟩,
      .laneTrainingAbandoned 0 5 ⟨0#32, 0#32, 0#32, 0#32, 0#32⟩,
      .laneTrainingAbandoned 10 0 ⟨0#32, 0#32, 0#32, 0#32, 0#32⟩, .laneRetrainRequest 0 5,
      .laneRetrainRequest 10 0, .lnTestEnSet .boot 0 5 0#32, .lnTestEnSet .boot 10 0 0#32,
      .lnTestEnClear .boot 0 5 0#32, .lnTestEnClear .boot 10 0 0#32, .laneSignalDetectChange 0 5 0,
      .laneSignalDetectChange 10 0 0, .laneLos 0 5, .laneLos 10 0, .laneCdrLol 0 5, .laneCdrLol 10 0,
      .adaptWindowEnd 0 5 0 ⟨0#32, 0#32, 0#32, 0#32, 0#32⟩, .adaptWindowEnd 10 0 0 ⟨0#32, 0#32, 0#32, 0#32, 0#32⟩,
      .guardIntervalEnd 0 5 0, .guardIntervalEnd 10 0 0, .lnAdaptEnWrite .boot 0 5 0#32]
      : List Instr).all (fun i => !i.wf) = true := by decide +kernel

/-- Commands that name something the device has not got are not well formed (2). -/
theorem test_ill_formed_2 :
    ([.lnAdaptEnWrite .boot 10 0 0#32, .laneMapWrite .boot 10 0#32, .laneRateWrite .boot 8 0#32,
      .prbsCheckerLock 0 ⟨5, []⟩, .prbsCheckerLock 10 ⟨0, []⟩, .prbsCheckerLock 0 ⟨0, [4]⟩,
      .prbsCheckerLoss 0 5 [] [], .prbsCheckerLoss 10 0 [] [], .prbsCheckerLoss 0 0 [4] [],
      .prbsCheckerLoss 0 0 [] [4], .prbsCountClear .boot 0 5 0#32, .prbsCountClear .boot 10 0 0#32,
      .prbsCountLoRead .boot 0 5 false [] [], .prbsCountLoRead .boot 10 0 false [] [],
      .prbsCountLoRead .boot 0 0 false [4] [], .prbsCountLoRead .boot 0 0 false [] [4],
      .lnInjSingle .boot 0 5 0#32, .lnInjSingle .boot 10 0 0#32, .lnInjPeriodic .boot 0 5 0#32,
      .lnInjPeriodic .boot 10 0 0#32, .lnInjPeriodicError 0 5, .lnInjPeriodicError 10 0,
      .lnInjBurst .boot 0 5 0#32, .lnInjBurst .boot 10 0 0#32, .lnInjOff .boot 0 5 0#32, .lnInjOff .boot 10 0 0#32,
      .spareCondDue 10, .spareCondLockTimeout 10, .spareCondRunComplete 10 0, .spareCondRetry 10,
      .trainingFrameRx 9 0 0#32 0#32, .trainingFrameRx 0 5 0#32 0#32, .linkEnSet .boot 9 0#32,
      .linkEnClear .boot 9 0#32, .linkDrainEnd 9, .linkRetryNow .boot 9 0#32]
      : List Instr).all (fun i => !i.wf) = true := by decide +kernel

/-- Commands that name something the device has not got are not well formed (3). -/
theorem test_ill_formed_3 :
    ([.linkIdleReqFast .boot 9 0#32, .linkIdleReqDeep .boot 9 0#32, .linkIdleReqActive .boot 9 0#32,
      .linkIdleExitTimeout 9, .linkDetectSignal 9, .linkDetectTimeout 9, .linkWakeTimeout 9,
      .linkEqualizeTimeout 9, .linkAlignTimeout 9, .linkConfigureTimeout 9, .linkHbTimeout 9, .linkUnplug 9,
      .linkBackoffExpiry 9, .codewordRx 9 0 false (List.replicate 2720 0), .codewordRx 0 0 false [],
      .codewordRx 0 0 false (List.replicate 2720 4), .amPosition 9 0 false (List.replicate 32 0#8) 0,
      .amPosition 0 0 false [] 0, .linePacketRx 8 ⟨[], false, true⟩, .hbRx 9 ⟨[], false, true⟩, .hbSendTimer 9,
      .timeSendTimer 9, .capRx 9 ⟨[], false, true⟩, .capResendTimer 9, .probeSend 8, .echoRx 8 [] 0,
      .latencyProbePeriod 8, .ctrlResponseRx 8 ⟨[], false, true⟩, .ctrlRequestTimeout 8, .hregRead .boot 8 0#32,
      .hregWrite .boot 8 0#32, .trigRoundDeparture 8, .swapGo .boot 9 0#32, .swapPrepareAckRx 9 ⟨[], false, true⟩,
      .swapReadyRx 9 ⟨[], false, true⟩, .swapCommitAckRx 9 ⟨[], false, true⟩]
      : List Instr).all (fun i => !i.wf) = true := by decide +kernel

/-- Commands that name something the device has not got are not well formed (4). -/
theorem test_ill_formed_4 :
    ([.swapDoneRx 9 ⟨[], false, true⟩, .swapStepTimeout 9, .swapAbortRx 9 ⟨[], false, true⟩,
      .swapRequestRx 9 ⟨[], false, true⟩, .swapResendTimer 9, .feSegmentRx 8, .feLineDeadline 8,
      .feLineCloseNotSent 8, .feLineHandover ⟨8, []⟩, .feTableInitDone 8, .feTblDataWrite .boot 8 0#32,
      .feTblDataRead .boot ⟨8, []⟩, .feTblChkGo .boot 8 0#32, .feTblChkDone 8, .bandSliceComplete 68 [],
      .colourPieceComplete 68, .clusterStepComplete 4, .shpSensorReading 4 0 none, .shpSensorReading 0 4 none,
      .shpPowerReading 4 0, .shpItemDeadlineDrop 0, .shpLimitWrite .boot 4 0#32, .spareTestComplete 68 false,
      .productPieceComplete ⟨68, []⟩, .backgroundPieceComplete 68 false, .sspUnitForm 6, .ulLaneFailSpare 9 false,
      .ulLaneDegrade 9 (0, 0), .encoderCount 2 false false, .encoderIllegal 2, .encPositionRead .boot 2,
      .sheetEdgeCandidate 2 false, .sheetEdgeAccept 2, .encoderZEdge 2, .hostPulseTimeEdge 24, .strobeEdge 24]
      : List Instr).all (fun i => !i.wf) = true := by decide +kernel

/-- Commands that name something the device has not got are not well formed (5). -/
theorem test_ill_formed_5 :
    ([.cmtOutCfgWrite .boot 24 0#32, .dmaGo .boot 16 0#32, .dmaStop .boot 16 0#32, .dmaStoppingComplete 16,
      .dmaDbclr .boot 16 0#32, .dmaDoorbell .boot 16 0#32, .dmaMove 16 [], .dmaLoop 16, .dmaWaitEvent 16,
      .dmaWaitDoorbell 16, .dmaWaitTime 16, .dmaWaitTimeReached 16, .dmaSignal 16, .dmaJump 16, .dmaPark 16,
      .dmaEnd 16, .dmaDecodeError 16, .dmaReadbackReturn 16 [], .dmaRetryGap 16, .cvuDataWrite .boot 8 0#32,
      .cvuClose .boot 8 0#32, .cvuGo .boot 8 0#32, .cvuAbort .boot 8 0#32, .cvuReadRunComplete 8,
      .cvuReadEccError 8 0, .eqOpen .boot 4 0#32, .eqWdata .boot 4 0#32, .eqClose .boot 4 0#32,
      .eqAbort .boot 4 0#32, .eqPop .boot 4 0#32, .clkMonitorWindow [] [],
      .clkMonitorWindow (List.replicate 5 none) [5], .clkSourceStop 10, .clkStartupWaitEnd 2, .clkPllLockLoss 5,
      .clkSelectorHang 4]
      : List Instr).all (fun i => !i.wf) = true := by decide +kernel

/-- Commands that name something the device has not got are not well formed (6). -/
theorem test_ill_formed_6 :
    ([.bootStrapSample 1024 0, .bootStrapSample 0 1024, .bootPartVerified [[], [], []], .bootRegApplied [6],
      .mcTrainStepDone 6 false, .mcScrubPiece 6 [] false, .mcRowRepairDone 6, .mcHppr .boot 6 0#32,
      .mcSppr .boot 6 0#32, .mcPprDone 6 false, .mcTempRead 6 none none false,
      .mcI2cReadTimeout 6 false none false, .mcRmapDataRead .boot 6, .jtagExtest (2 ^ boundaryCells),
      .jtagSamplePreload (2 ^ boundaryCells), .jtagExtestPulse (2 ^ boundaryCells),
      .jtagExtestTrain (2 ^ boundaryCells), .jtagBypass 256, .sheetCandidateDiscard 2, .engineParityError 68]
      : List Instr).all (fun i => !i.wf) = true := by decide +kernel

/-! ### Small runs -/

/-- No row of the table gives bits, so no word spells a command. -/
theorem test_no_word_spells_a_command : decodeTableWord 32 0xFFFFFFFF = none := rfl

theorem test_no_word_changes_the_queue : State.reset.withFetchWord 32 1 = State.reset := rfl

/-- The check value of CRC-32C over the digits 1 to 9. -/
theorem test_crc32c : crc32c ((List.range 9).map fun k => BitVec.ofNat 8 (0x31 + k)) = 0xE3069283#32 := by decide +kernel

/-- The digest of the bytes of "abc", the example of FIPS 180 (R4, R421). -/
theorem test_sha256 : sha256 [0x61#8, 0x62#8, 0x63#8]
    = natBytesBE 32 0xBA7816BF8F01CFEA414140DE5DAE2223B00361A396177A9CB410FF61F20015AD := by decide +kernel

/-- The front command runs and the rest waits: IDCODE shifts out 0x10880A95 (R497). -/
theorem test_front_command_runs :
    (match step ⟨[.jtagIdcode, .jtagTrst], up⟩ with
      | .next t => decide (t.pending = [.jtagTrst] ∧ t.chip.jtag.dr = 0x10880A95)
      | _ => false) = true := by decide +kernel

/-- A command that is not well formed changes no register. -/
theorem test_ill_formed_does_nothing :
    (match exec (.laneLos 0 5) ⟨[], up⟩ with
      | .next t => decide (t.chip.regs = up.regs)
      | _ => false) = true := by decide +kernel

/-! ### States that meet the hypotheses of the statements -/

theorem gfMul_zero (x : Nat) : gfMul 0 x = 0 := by
  simp [gfMul, gfDoubles, gfDouble, List.zipIdx]

theorem fold_zeros (x : Nat) (w : List Nat) (n : Nat) :
    (List.replicate n 0 ++ w).foldl (fun r c => gfMul r x ^^^ c) 0 = w.foldl (fun r c => gfMul r x ^^^ c) 0 := by
  induction n with
  | zero => rfl
  | succ n ih => simpa [List.replicate_succ, gfMul_zero] using ih

theorem syndromes_zeros (w : List Nat) (n : Nat) : rsSyndromes (List.replicate n 0 ++ w) = rsSyndromes w := by
  simp only [rsSyndromes, fold_zeros]

/-- The codeword of zeros decodes. -/
theorem zeros_decode : (rsDecode (List.replicate 544 0)).isSome = true := by
  have h := syndromes_zeros [] 544
  simp only [List.append_nil] at h
  simp only [rsDecode, h]
  rw [if_pos (by decide +kernel)]; rfl

/-- Symbols whose first 16 syndromes are 0 and whose next is not. -/
def tail17 : List Nat := [1, 568, 550, 748, 724, 650, 1005, 744, 27, 204, 617, 218, 595, 461, 746, 960, 888]

theorem tail17_fails : rsDecode (List.replicate 527 0 ++ tail17) = none := by
  simp only [rsDecode, syndromes_zeros]
  rw [if_neg (by decide +kernel), if_pos (Or.inl (by decide +kernel))]

/-- The pair link with its PCS running. -/
def pcsUp : Chip := up.sets [(F.linkStateState 8, lkActive)]

theorem pcsZero : symbolsOfBits 544 (pcsUp.laneRxBits 8 (pcsUp.mapOf 8 1) (List.replicate 2720 0)).2
    = List.replicate 544 0 := by decide +kernel

/-- The levels that carry the symbols of `tail17` behind symbols of zero, least significant bit first (R77, R45). -/
def badSym : List Nat :=
  grayMap ((List.replicate 527 0 ++ tail17).flatMap fun x : Nat => (List.range 10).map x.testBit)

theorem pcsBad : symbolsOfBits 544 (pcsUp.laneRxBits 8 (pcsUp.mapOf 8 1) badSym).2 = List.replicate 527 0 ++ tail17 := by
  decide +kernel

/-- A device whose spare lane of the pair link is due for conditioning, with an engine free and credit left. -/
def condReady : Chip :=
  let c := (up.sets [(F.spareCondEn 8, 1), (F.shpCtrlF3En, 1), (F.shpCStatValid 0, 1), (F.shpCStatTmax 0, 480)]).modPort 8 fun _ => ⟨1, true⟩
  { c with shp := { c.shp with rem := 100000000000 } }

/-- A lane of a running device at the end of a guard interval, with its busy windows and adaptation on or off. -/
def guarded (n m st busy en : Nat) : Chip :=
  (up.sets [(F.lnStateState n m, st), (F.lnAdaptAdaptEn n m, en), (F.lnGuardEyeGood n m, 40), (F.lnGuardEyeSnap n m, 20)]).modLane
    n m fun l => { l with gWin := 1024, gBusy := busy }

/-- A packet as it arrives whole. -/
def pkt (typ : Nat) (body : List Byte) : RxPkt := ⟨mkPacket typ body, false, true⟩

/-- The body of a LINE packet of one 8-bit pixel: HEAD_ID, ALIVE and format. -/
def lineBody (id alive fmt : Nat) : List Byte :=
  natBytesBE 1 id ++ natBytesBE 1 alive ++ natBytesBE 1 fmt ++ natBytesBE 21 0 ++ natBytesBE 2 1 ++ natBytesBE 1 0

/-- A link in a state. -/
def linkIn (n st : Nat) : Chip := up.sets [(F.linkStateState n, st)]

/-- A link with a change beside its registers. -/
def linkWith (n st : Nat) (g : LinkS → LinkS) : Chip := (linkIn n st).modLink n g

/-- A device in pair mode that is mate 1 or mate 0, its pair link ACTIVE. -/
def mate (id : Nat) : Chip := up.sets [(F.glbStrapStraps, 0x100 + 0x200 * id), (F.linkStateState 8, lkActive)]

/-- A PAIR message with a body of 8 bytes behind its MSEQ. -/
def pairMsg (mtype : Nat) (body : List Byte) : RxPkt := pkt 8 (natBytesBE 1 mtype ++ natBytesBE 3 0 ++ body)

/-- A device that stands at a step of its boot. -/
def bootAt (k : Nat) : Chip :=
  { up with boot := { up.boot with straps := false } }.sets [(F.glbBootStatPhase, k), (F.glbBootStatErr, 0)]

/-- A device at step 2 with a word of the option store. -/
def trimsWith (l : List (Nat × Word)) : Chip :=
  { bootAt 2 with opt := l.foldl (fun m p => sput optDefault m p.1 p.2) (bootAt 2).opt }

/-- The check value of the words of a trim block of zeros. -/
def trimCrc : Word := crc32c ((List.range 1023).flatMap fun _ => wordBytesLE 0#32)

theorem trimsWith_crc (base : Nat) (w0 w1 : Word) (hb : base = 0 ∨ base = 0x400) :
    crc32c ((List.range 1023).flatMap fun i => wordBytesLE ((trimsWith [(1023, w0), (2047, w1)]).optWord (base + i)))
      = trimCrc := by
  have h : ∀ i ∈ List.range 1023, (trimsWith [(1023, w0), (2047, w1)]).optWord (base + i) = 0#32 := by
    intro i hi
    have hi := List.mem_range.1 hi
    have ho : (bootAt 2).opt = [] := by decide +kernel
    rcases hb with rfl | rfl <;>
      simp only [Chip.optWord, trimsWith, List.foldl, sget_sput, ho, sget, optDefault] <;>
      rw [if_neg (by omega), if_neg (by omega), if_neg (by omega), if_neg (by omega), if_neg (by omega), if_neg (by omega),
        if_neg (by omega)]
  rw [trimCrc, List.flatMap_congr fun i hi => by rw [h i hi]]

theorem trimsWith_ok (w0 w1 : Word) :
    (trimsWith [(1023, w0), (2047, w1)]).trimOk 0 = (trimCrc == w0)
      ∧ (trimsWith [(1023, w0), (2047, w1)]).trimOk 0x400 = (trimCrc == w1) := by
  constructor <;> simp only [Chip.trimOk, trimsWith_crc _ _ _ (Or.inl rfl), trimsWith_crc _ _ _ (Or.inr rfl)] <;> congr 1 <;>
    simp only [Chip.optWord, trimsWith, List.foldl, sget_sput] <;> simp

/-- A boot part with one REG section of one entry, which writes 0 to a register. -/
def regImage (a : Nat) : List Byte :=
  natBytesLE 6 0 ++ natBytesLE 2 1 ++ natBytesLE 56 0 ++ natBytesLE 2 1 ++ natBytesLE 6 0 ++ natBytesLE 8 120
    ++ natBytesLE 8 12 ++ natBytesLE 32 0 ++ natBytesLE 8 a ++ natBytesLE 4 0

/-- A device at boot step 6 with that boot part in force. -/
def regBoot (a : Nat) : Chip := { bootAt 6 with boot := { (bootAt 6).boot with img := regImage a } }

/-- The entries of the REG sections of a boot part, each with its section. -/
def regList (img : List Byte) : List (Nat × Nat × Word) :=
  ((imgSects img).filter fun x => x.type_ == 1).flatMap fun x => (regEntries (x.data img)).map fun e => (x.index, e)

/-- What the device is when the first of them is written. -/
def regStart (c : Chip) : Chip := (({ c with out := [] } : Chip).bootLanes.mapLoad).capShow

theorem short_images (c : Chip) : ∀ img ∈ [[], [0#8]], c.imgCheck img ≠ 0 := by
  intro img h
  have : imgHeaderOk img = false := by revert img; decide
  simp [Chip.imgCheck, this]

theorem word_ne_not (w : Word) : (w == ~~~w) = false := by
  have h : w ≠ ~~~w := fun h => by
    have := congrArg (·.getLsbD 0) h
    simp at this
  simp [h]

/-- A device with its clock block changed. -/
def clkWith (l : List (Fld × Nat)) (g : ClkS → ClkS) : Chip := (up.sets l).modClk g

/-- An SCP command on the SPI path. -/
def scpCmd (op addr count : Nat) (data : List Byte) : ScpCmd :=
  ⟨.spi, ⟨0, 0, [], 0, [], [], false, 0, 0, 0, false⟩,
    scpSeal (natBytesBE 1 0x10 ++ natBytesBE 1 op ++ natBytesBE 2 (24 + data.length) ++ natBytesBE 4 7 ++ natBytesBE 8 addr
      ++ natBytesBE 4 count ++ data)⟩

/-- The same in a frame of the uplink, from source 5 over the raw EtherType. -/
def scpCmdUl (op addr count : Nat) (data : List Byte) : ScpCmd :=
  { scpCmd op addr count data with path := .ul, net := ⟨0xFFFFFFFFFFFF, 5, [], 0x88B5, [], [], false, 0, 0, 64, true⟩ }

/-- A device whose uplink is UP. -/
def ulUpChip : Chip := up.sets [(F.ulStatState, 4), (F.ulScpEtype, 0x88B5)]

/-- A device whose subscriber waits for an event packet. -/
def subChip : Chip :=
  (ulUpChip.sets [(F.scpEvtCfgEn, 1), (F.scpEvtCfgRepeatMs, 1), (F.scpIntEnEn, 1), (F.scpSumSum, 1)]).modScp
    fun s => { s with sub := some (netKey (scpCmdUl 5 0 0 []).net), rose := true }

/-- A front end with its contents. -/
def feWith (n : Nat) (l : List (Fld × Nat)) (g : FeS → FeS) : Chip := (up.sets l).modFe n g

/-- A segment of a trigger: LINE_NO 0, X_OFF 0, one 8-bit pixel of one channel. -/
def segBytes (trig : Nat) : List Byte :=
  natBytesBE 12 0 ++ natBytesBE 4 trig ++ natBytesBE 10 0 ++ natBytesBE 2 0 ++ natBytesBE 2 1 ++ natBytesBE 1 0

/-- A band of one web line with no pixels. -/
def bandOf (bseq : Nat) : Band := ⟨bseq, 0, 0, 1, 0, 0, false, false, false, 0, [[]], [], 256, false⟩

/-- A compared band in the flock with slices. -/
def fbandOf (bseq : Nat) (l : List Slice) : FBand :=
  { band := bandOf bseq, doneNs := 0, compared := true, rep := 1, loaded := false, waited := false, pc := 0, bad := [], joinWait := false
    slices := l, merged := false, colour := 0, pieces := [], emitted := false, alarms := [], out4 := false, dig := none, last := false
    cslot := 0 }

/-- A slice without results yet. -/
def slice (st : SliceSt) : Slice := ⟨st, [], [], [], []⟩

/-- The flock with bands and running items. -/
def flock (l : List FBand) (r : List (Nat × WorkItem)) : Chip :=
  { up with ie := { up.ie with bands := l }, shp := { up.shp with run := r } }

/-- A work item. -/
def item (fold bseq kind : Nat) : WorkItem := ⟨fold, bseq, 0, kind, [3], 1600, false, [], false, false⟩

/-- The stitcher with a web trigger and the rows of its band. -/
def webWith (k : Nat) : Chip :=
  { up with stc := { up.stc with webq := [⟨9, 0, false, true, 0, []⟩], rows := List.replicate k [] } }

/-- A unit of a stream with one packet of a payload byte. -/
def unitOf (k first : Nat) : SspUnit := ⟨k, 0, 1, 9, first, 0, false, false, 0, [⟨0, 9, [7#8], false⟩], [], 0, [], false⟩

/-- The packetizer with units, ready packets and streams that wait. -/
def sspWith (l : List (Fld × Nat)) (g : SspS → SspS) : Chip := let c := ulUpChip.sets l; { c with ssp := g c.ssp }

/-- A unit with more payload than stream 2 ever has room for (R282). -/
def bigUnit : SspUnit := { unitOf 2 9 with pkts := [⟨0, 9, List.replicate 1310721 7#8, false⟩] }

theorem bigUnit_room : (sspWith [] (fun s => { s with units := [bigUnit] })).sspRoom 2
    (bigUnit.pkts.map fun p => p.data.length).sum = false := by
  have h : (bigUnit.pkts.map fun p => p.data.length).sum = 1310721 := by
    simp only [bigUnit, List.map_cons, List.map_nil, List.length_replicate, List.sum_cons, List.sum_nil, Nat.add_zero]
  rw [h]; decide +kernel

/-- A boot image of one section, the profile with index 0. -/
def profileImg : List Byte :=
  List.replicate 6 0#8 ++ [1#8, 0#8] ++ List.replicate 56 0#8 ++ [3#8, 0#8] ++ List.replicate 54 0#8

/-- A device that may load a job. -/
def jobUp : Chip := let c := up.sets [(F.jobStatActBank, 0)]; { c with boot := { c.boot with img := profileImg } }

/-- A device whose staged bank 1 describes a job that passes the relations of arming but for JOB_LEAD. -/
def jobPlan : Chip :=
  let c := jobUp.sets [(F.stcWebWidth 1, 256), (F.stcHGeomUse 1 0, 1), (F.stcHGeomSegLog2 1 0, 3), (F.stcHXsXs 1 0, 0), (F.stcHXeXe 1 0, 255),
    (F.stcHGeomLofs 1 0, 0), (F.ieRefWRefW 1, 256), (F.ieRefStrideStride 1, 1024), (F.ieRefHRefH 1, 16), (F.ieRefBaseBase 1, 0x8000000),
    (F.ieRuleBaseBase 1, 0x8000004), (F.ieRuleTyTyN 1, 2), (F.ieRepLinesRepLines 1, 32), (F.ieFieldBaseBase 1, 0x8000005),
    (F.sspRingBaseBase, 0x8400000), (F.sspRingSizeMib, 1), (F.jobArmTarget, 2)]
  { c with win := ⟨[0], 2 ^ 36, 0⟩ }

/-- The same with JOB_LEAD and the regions verified. -/
def jobReady : Chip := jobPlan.sets [(F.jobLeadLead, 16), (F.jobVstatRefOk, 1), (F.jobVstatRuleOk, 1)]

/-- A device that runs a job. -/
def jobRuns (l : List (Fld × Nat)) : Chip := jobUp.sets ((F.jobStatRun, 1) :: l)

/-- A device with its JOB block changed. -/
def jobWith (l : List (Fld × Nat)) (g : JobS → JobS) : Chip := (jobUp.sets l).modJob g

/-- A mate that runs a job and is to stop, with a digest of its partner's. -/
def armMate (st : Nat) (dig : Option (Nat × Nat)) : Chip :=
  (up.sets [(F.glbStrapStraps, 0x100), (F.linkStateState 8, st), (F.jobStatRun, 1), (F.jobArmStop, 1), (F.jobArmTarget, 0)]).modJob
    fun j => { j with mateDig := dig }

/-- A source in DECIDED with a repeat mark to come. -/
def markDue (l : List (Fld × Nat)) : Chip :=
  (up.sets ([(F.jobStatRun, 1), (F.jobStatSst, sstDecided), (F.cmtStatSource, 1), (F.cmtTcfgSrc 0, 2), (F.ieRepLinesRepLines 0, 32)]
    ++ l)).modCmt fun m => { m with events := [0] }

theorem armMate_dig (st : Nat) (d : Option (Nat × Nat)) : (armMate st d).armDigest = (armMate st none).armDigest := by
  have h : ∀ a, (armMate st d).rd a = (armMate st none).rd a := fun _ => rfl
  have k : (armMate st d).staged = (armMate st none).staged := rfl
  simp only [Chip.armDigest, h, k]

/-- The digest of such a mate. -/
@[irreducible] def armDig : Nat := (armMate lkActive none).armDigest.toNat

theorem armDig_eq (d : Option (Nat × Nat)) : armDig = (armMate lkActive d).armDigest.toNat := by
  unfold armDig; exact congrArg BitVec.toNat (armMate_dig lkActive d).symm

theorem armDig_ne (d : Option (Nat × Nat)) : armDig + 1 ≠ (armMate lkActive d).armDigest.toNat := by
  rw [← armDig_eq d]; omega

/-- The plan with a port in use whose link is not up. -/
def portPlan : Chip :=
  (jobPlan.sets [(F.jobLeadLead, 16), (F.feJcfgPortEn 1 0, 1), (F.feJcfgNpix 1 0, 256), (F.feCropLen 1 0, 256), (F.feJcfgSize 1 0, 0),
    (F.feJcfgNch 1 0, 0), (F.feChmapCh 1 0 0, 1)]).wr (R.cap 0 5) 0x01000101#32

/-- Mate 0 with registers of the job. -/
def jobMate (l : List (Fld × Nat)) : Chip := (mate 0).sets l

/-- Mate 0 in ARMED with a verdict that waits for the answer on trigger 9. -/
def verdictWaits (own : Nat) : Chip := (jobMate [(F.jobStatSst, sstArmed)]).modJob fun j => { j with waiting := some (9, own) }

/-- A running device whose window has room for everything. -/
def jobRoom : Chip := { jobRuns [(F.jobProdOffProd, 1)] with win := ⟨[0, 1, 2, 3, 4, 5], 2 ^ 36, 0⟩ }

/-- The Shepherd with a change. -/
def shpWith (l : List (Fld × Nat)) (g : ShpS → ShpS) : Chip := (up.sets l).modShp g

/-- A background item of an engine's test or of a scrub. -/
def back (kind strip : Nat) : WorkItem := ⟨3, 5, strip, kind, [], 1600, false, [], false, false⟩

/-- A device whose next item may start. -/
def dispatchable : Chip :=
  (flock [{ fbandOf 1 [slice .waiting] with loaded := true }] []).modShp fun s => { s with queue := [⟨0, 1, 0, 0, [], 1600, false, [], false, false⟩] }

/-- An item of a fold past its deadline. -/
def lateItem (f : Nat) : Chip :=
  up.modShp fun s => { s with queue := [item f 1 0] }

/-- The uplink in a state. -/
def ulIn (st : Nat) (l : List (Fld × Nat)) : Chip := up.sets ((F.ulStatState, st) :: l)

/-- The uplink UP with lane 7 ACTIVE and the spare usable for a retrain. -/
def ulSpareUp : Chip := ulIn 4 [(F.lnStateState 9 7, lsActive), (F.ulCtrlEn, 1), (F.ulCtrlMode, 0), (F.ulCtrlSpareEn, 1), (F.ulCtrlAnEn, 0)]

/-- A frame to everyone with an EtherType. -/
def frameOf (et : Nat) (l : List Byte) : UlFrame := ⟨natBytesBE 6 0xFFFFFFFFFFFF ++ natBytesBE 6 5 ++ natBytesBE 2 et ++ l, true⟩

/-- A device that follows time transmitter 5 over Layer 2 with end-to-end delays. -/
def ptpUp (l : List (Fld × Nat)) (g : OrbS → OrbS) : Chip :=
  let c := ulUpChip.sets ([(F.orbCtrlSrc, 0), (F.orbCtrlTransport, 0), (F.orbCtrlMech, 0), (F.orbCtrlTestTt, 0), (F.orbStepStepThr, 100),
    (F.orbJumpPtpJumpThr, 100)] ++ l)
  { c with orb := g { c.orb with masters := [(5, [1])], syncLost := false } }

/-- A PTP message of time transmitter 5 in domain 0, with its time stamp in ns. -/
def ptpMsg (two : Bool) (ts request : Nat) : PtpMsg :=
  ⟨⟨0x011B19000000, 5, [], 0x88F7, [], [], false, 0, 0, 64, true⟩, ptpUp [] id |>.ptpDomain, 5, 7, two, 0, ts, request, 0, [1]⟩

/-- Orbit with a change. -/
def orbWith (l : List (Fld × Nat)) (g : OrbS → OrbS) : Chip := (up.sets l).modOrb g

/-- Comet with a change. -/
def cmtWith (l : List (Fld × Nat)) (g : CmtS → CmtS) : Chip := (up.sets l).modCmt g

/-- A running device that issues triggers from a source, with Comet changed. -/
def issuing (src : Nat) (g : CmtS → CmtS) : Chip :=
  ((up.sets [(F.jobStatRun, 1), (F.jobStatActBank, 0), (F.cmtStatSource, 1), (F.cmtTcfgSrc 0, src), (F.cmtFmaxFmax 0, 200000),
    (F.cmtTdlyTrigDly 0, 1000), (F.cmtPitchInt 0, 1), (F.cmtEncCfgFilt0, 0),
    (F.ieRepLinesRepLines 0, 32), (F.cmtNextIdId, 40)]).modCmt g).modOrb fun o => { o with n := 500 }

/-- A trigger record from the source: TRIG_ID 9 without a mark. -/
def trecMsg : RxPkt := pkt 8 (natBytesBE 1 2 ++ natBytesBE 3 0 ++ natBytesBE 4 9 ++ natBytesBE 24 0)

/-- Channel n in a state with an instruction in hand. -/
def dmaIn (n st : Nat) (i : Option DmaIns) (l : List (Fld × Nat)) (g : DmaS → DmaS) : Chip :=
  (up.sets ((F.dmaChStatState n, st) :: l)).modCh n fun d => g { d with cur := i }

/-- An instruction by its words 3 and 2, with 0 in the others. -/
def ins (w3 w2 w1 w0 : Word) : DmaIns := (w0, w1, w2, w3)

/-- Unit n with registers and contents. -/
def cvuWith (n : Nat) (l : List (Fld × Nat)) (g : CvuS → CvuS) : Chip :=
  let c := up.sets l; { c with cvus := c.cvus.modify n g }

/-- Queue n with registers and contents. -/
def eqWith (n : Nat) (l : List (Fld × Nat)) (g : EqS → EqS) : Chip :=
  let c := up.sets l; { c with eqs := c.eqs.modify n g }

/-- Mate 0 with a service state and contents of the pair. -/
def pairWith (svc : Nat) (l : List (Fld × Nat)) (g : PairS → PairS) : Chip :=
  ((mate 0).sets ((F.plStatSvc, svc) :: l)).modPair g

/-- Mate 0 in Alone with a running mate, staged bank 1 as in `jobReady` with the settings a pair needs. -/
def joinPlan (lead : Nat) : Chip :=
  { (jobReady.sets [(F.glbStrapStraps, 0x100), (F.linkStateState 8, lkActive), (F.plStatSvc, svcAlone), (F.plStatMateRun, 1),
      (F.cmtTdlyTrigDly 1, 10000), (F.cmtPairCfgTakeUs, 8), (F.jobLeadLead, lead), (F.cmtStatSource, 0), (F.ieRepLinesRepLines 1, 64), (F.ieRuleTyTyN 1, 4)]) with win := ⟨[0], 2 ^ 36, 0⟩ }

/-- A time check message: KIND, TSEQ and its three times. -/
def tchk (kind seq t1 t2 t3 : Nat) : RxPkt :=
  pairMsg 0x0B (natBytesBE 1 kind ++ natBytesBE 1 seq ++ natBytesBE 2 0 ++ timeBytes t1 ++ timeBytes t2 ++ timeBytes t3 ++ natBytesBE 2 0)

/-- Channel n with registers and contents. -/
def mcWith (n : Nat) (l : List (Fld × Nat)) (g : McS → McS) : Chip := (up.sets l).modMc n g

/-- A device with channel 5 in READY behind the window, an engine free for a Fold 3 item and credit left. -/
def scrubReady : Chip :=
  let c := up.sets [(F.mcStatState 5, mcReady), (F.shpCtrlF3En, 1), (F.shpCStatValid 0, 1), (F.shpCStatTmax 0, 480)]
  { c with win := ⟨[5], 2 ^ 36, 0⟩, shp := { c.shp with rem := 100000000000 } }

/-- The same with the item running on the last engine. -/
def scrubRuns (w : WorkItem) : Chip := { scrubReady with shp := { scrubReady.shp with run := [(67, w)] } }

theorem scrub_place (w : WorkItem) (h : w.fold = 3) (h1 : w.kind = 1) : scrubReady.placeFor w = some 0 := by
  simp only [Chip.placeFor, h, h1]
  rw [if_neg (by decide)]; decide +kernel

theorem scrub_cost (w : WorkItem) (h : w.cycles16 ≤ 327680) : (scrubReady.itemCost w 0 : Int) ≤ scrubReady.shp.rem := by
  have e : scrubReady.ecyc (scrubReady.stepOf 0) = 600 := by decide +kernel
  have r : scrubReady.shp.rem = 100000000000 := by rfl
  rw [r]; simp only [Chip.itemCost, e, ceilDiv]; omega

/-! A signature that verifies, without its making: a key whose root is the one that a signature of zeros leads to. -/

theorem shaRound_length (v : List Word) (kw : Word × Word) : (shaRound v kw).length = v.length := by
  unfold shaRound; split <;> rfl

theorem shaRounds_length (l : List (Word × Word)) (v : List Word) : (l.foldl shaRound v).length = v.length := by
  induction l generalizing v with
  | nil => rfl
  | cons a l ih => rw [List.foldl_cons, ih, shaRound_length]

theorem shaRun_length (n : Nat) (hs : List Word) (bs : List Byte) : (shaRun n hs bs).length = hs.length := by
  induction n generalizing hs bs with
  | zero => rfl
  | succ n ih => rw [shaRun, ih]; simp [shaBlock, shaRounds_length]

theorem sha256_length (m : List Byte) : (sha256 m).length = 32 := by
  simp [sha256, List.length_flatMap, natBytesBE, shaRun_length, shaInit]

theorem rootOf_length (id : List Byte) (path : List (List Byte)) (node : Nat) (x : List Byte) (h : x.length = 32) :
    (rootOf id path node x).length = 32 := by
  induction path generalizing node x with
  | nil => exact h
  | cons s rest ih =>
    rw [rootOf]; apply ih
    split <;> exact sha256_length _

/-- The first 24 bytes of an LMS public key of height 5 with LM-OTS w = 8 whose identifier is 0. -/
def keyHead : List Byte := natBytesBE 4 5 ++ natBytesBE 4 4 ++ natBytesBE 16 0

/-- A signature of that shape in which everything but the type codes is 0. -/
def blankSig : List Byte := natBytesBE 8 4 ++ natBytesBE 32 0 ++ natBytesBE 1088 0 ++ natBytesBE 4 5 ++ natBytesBE 160 0

/-- The root that such a signature of a message leads to. -/
def blankRoot (msg : List Byte) : List Byte :=
  let o : OtsParam := ⟨4, 8, 34, 0⟩
  let id : List Byte := natBytesBE 16 0
  let digits := otsDigits o (otsHash id 0 ((blankSig.drop 8).take 32) msg)
  let ends := digits.zipIdx.map fun d => otsChain id 0 d.2 (2 ^ 8 - 1 - d.1) d.1 (group32 (blankSig.drop 40) d.2)
  let path := (List.range 5).map (group32 ((blankSig.drop (40 + 32 * 34)).drop 4))
  rootOf id path (2 ^ 5 + 0) (leafNode id (2 ^ 5 + 0) (otsPublic id 0 ends))

/-- The owner key under which that signature of the message verifies: one level. -/
def keyFor (msg : List Byte) : List Byte := natBytesBE 4 1 ++ (keyHead ++ blankRoot msg)

theorem blankRoot_length (msg : List Byte) : (blankRoot msg).length = 32 := rootOf_length _ _ _ _ (sha256_length _)

theorem keyHead_length : keyHead.length = 24 := by decide +kernel

theorem keyFor_length (msg : List Byte) : (keyFor msg).length = 60 := by
  simp only [keyFor, List.length_append, blankRoot_length, keyHead_length]; rfl

theorem keyParams_for (msg : List Byte) : keyParams (keyHead ++ blankRoot msg) = some (⟨4, 8, 34, 0⟩, 5) := by
  have h : (keyHead ++ blankRoot msg).length = 56 := by simp only [List.length_append, blankRoot_length, keyHead_length]
  have a : fieldBE (keyHead ++ blankRoot msg) 4 4 = 4 := rfl
  have b : fieldBE (keyHead ++ blankRoot msg) 0 4 = 5 := rfl
  simp only [keyParams, h, a, b]; rfl

theorem group32_append (bs rest : List Byte) (k : Nat) (h : 32 * k + 32 ≤ bs.length) : group32 (bs ++ rest) k = group32 bs k := by
  rw [group32, group32, List.drop_append_of_le_length (by omega), List.take_append_of_le_length (by rw [List.length_drop]; omega)]

theorem blankSig_length : blankSig.length = 1292 := by decide +kernel

theorem fieldBE_append (bs rest : List Byte) (i n : Nat) (h : i + n ≤ bs.length) : fieldBE (bs ++ rest) i n = fieldBE bs i n := by
  rw [fieldBE, fieldBE, List.drop_append_of_le_length (by omega), List.take_append_of_le_length (by rw [List.length_drop]; omega)]

theorem lmsTake_blank (msg rest : List Byte) : lmsTake (keyHead ++ blankRoot msg) msg (blankSig ++ rest) = some rest := by
  have hl := blankSig_length
  have d : ∀ k, k ≤ 1292 → (blankSig ++ rest).drop k = blankSig.drop k ++ rest := fun k h =>
    List.drop_append_of_le_length (by omega)
  have e0 : fieldBE (blankSig ++ rest) 0 4 = 0 := by rw [fieldBE_append _ _ _ _ (by omega)]; decide +kernel
  have e4 : fieldBE (blankSig ++ rest) 4 4 = 4 := by rw [fieldBE_append _ _ _ _ (by omega)]; decide +kernel
  have t : (blankSig ++ rest).drop (40 + 32 * 34) = blankSig.drop 1128 ++ rest := d _ (by omega)
  have et : fieldBE (blankSig.drop 1128 ++ rest) 0 4 = 5 := by
    rw [fieldBE_append _ _ _ _ (by rw [List.length_drop]; omega)]; decide +kernel
  have ek : fieldBE (keyHead ++ blankRoot msg) 0 4 = 5 := rfl
  have id_ : ((keyHead ++ blankRoot msg).drop 8).take 16 = natBytesBE 16 0 := rfl
  have kd : (keyHead ++ blankRoot msg).drop 24 = blankRoot msg := rfl
  have r : ((blankSig ++ rest).drop 8).take 32 = (blankSig.drop 8).take 32 := by
    rw [d 8 (by omega), List.take_append_of_le_length (by rw [List.length_drop]; omega)]
  have p : (List.range 5).map (group32 ((blankSig.drop 1128 ++ rest).drop 4))
      = (List.range 5).map (group32 ((blankSig.drop (40 + 32 * 34)).drop 4)) := by
    apply List.map_congr_left; intro k hk; rw [List.mem_range] at hk
    rw [List.drop_append_of_le_length (by rw [List.length_drop]; omega), group32_append]
    rw [List.length_drop, List.length_drop]; omega
  have ch : ∀ l : List (Nat × Nat), (∀ x ∈ l, x.2 < 34) →
      l.map (fun x => otsChain (natBytesBE 16 0) 0 x.2 (2 ^ 8 - 1 - x.1) x.1 (group32 ((blankSig ++ rest).drop 40) x.2))
      = l.map (fun x => otsChain (natBytesBE 16 0) 0 x.2 (2 ^ 8 - 1 - x.1) x.1 (group32 (blankSig.drop 40) x.2)) := by
    intro l hl'; apply List.map_congr_left; intro x hx
    rw [d 40 (by omega), group32_append _ _ _ (by rw [List.length_drop]; have := hl' x hx; omega)]
  have dl : ∀ q, ∀ x ∈ (otsDigits ⟨4, 8, 34, 0⟩ q).zipIdx, x.2 < 34 := by
    intro q x hx
    have := List.snd_lt_of_mem_zipIdx hx
    simpa [otsDigits] using this
  unfold lmsTake
  rw [keyParams_for]
  simp only [e0, e4, t, et, ek, id_, kd, r, p]
  rw [ch _ (dl _)]
  rw [if_neg (by rw [List.length_append, hl]; simp only [lmsLength]; omega), if_pos (by simp only [blankRoot])]
  have z : lmsLength ⟨4, 8, 34, 0⟩ 5 = 1292 := rfl
  rw [z, d _ (by omega), List.drop_of_length_le (by omega), List.nil_append]

/-- An HSS signature of one level made of that LMS signature. -/
def blankHss : List Byte := natBytesBE 4 0 ++ blankSig

theorem hssRest_blank (msg rest : List Byte) : hssRest (keyFor msg) msg (blankHss ++ rest) = some rest := by
  have hl : (blankHss ++ rest).length = 1296 + rest.length := by
    rw [List.length_append, blankHss, List.length_append, blankSig_length]; rfl
  have e : fieldBE (blankHss ++ rest) 0 4 = 0 := rfl
  have f : fieldBE (keyFor msg) 0 4 = 1 := rfl
  have k : (keyFor msg).drop 4 = keyHead ++ blankRoot msg := rfl
  have g : (blankHss ++ rest).drop 4 = blankSig ++ rest := rfl
  simp only [hssRest, keyFor_length, e, f, hl, k, g]
  rw [if_neg (by omega)]
  exact lmsTake_blank msg rest

theorem hssVerify_blank (msg : List Byte) : hssVerify (keyFor msg) msg blankHss = true := by
  have h := hssRest_blank msg []
  rw [List.append_nil] at h
  rw [hssVerify, h]; rfl

theorem hssHeld_blank (msg rest : List Byte) : hssHeld (keyFor msg) msg (blankHss ++ rest) = true := by
  rw [hssHeld, hssRest_blank]; rfl

/-- A device with an owner key. -/
def keyed (c : Chip) (key : List Byte) : Chip :=
  { c with opt := (List.range 15).map fun k => (optOwnerKey + k, BitVec.ofNat 32 (natOfLE ((key.drop (4 * k)).take 4))) }

theorem wordBytesLE_natOfLE (a b c d : Byte) : wordBytesLE (BitVec.ofNat 32 (natOfLE [a, b, c, d])) = [a, b, c, d] := by
  have h : ∀ x : Byte, x.toNat < 256 := fun x => x.isLt
  have ha := h a; have hb := h b; have hc := h c; have hd := h d
  simp only [wordBytesLE, natOfLE, List.foldr, List.range, List.range.loop, List.map, List.cons.injEq, and_true]
  refine ⟨?_, ?_, ?_, ?_⟩ <;> apply BitVec.eq_of_toNat_eq <;>
    simp only [BitVec.toNat_setWidth, BitVec.toNat_ushiftRight, BitVec.toNat_ofNat, Nat.shiftRight_eq_div_pow] <;> omega

theorem word_of_four (l : List Byte) (h : l.length = 4) : wordBytesLE (BitVec.ofNat 32 (natOfLE l)) = l := by
  match l, h with
  | [a, b, c, d], _ => exact wordBytesLE_natOfLE a b c d

theorem fours (key : List Byte) (n : Nat) : (List.range n).flatMap (fun k => (key.drop (4 * k)).take 4) = key.take (4 * n) := by
  induction n with
  | zero => simp
  | succ n ih => rw [List.range_succ, List.flatMap_append, ih, List.flatMap_singleton, ← List.take_add]; rfl

theorem keyed_optWord (c : Chip) (key : List Byte) (k : Nat) (h : k < 15) :
    (keyed c key).optWord (optOwnerKey + k) = BitVec.ofNat 32 (natOfLE ((key.drop (4 * k)).take 4)) := by
  have : k = 0 ∨ k = 1 ∨ k = 2 ∨ k = 3 ∨ k = 4 ∨ k = 5 ∨ k = 6 ∨ k = 7 ∨ k = 8 ∨ k = 9 ∨ k = 10 ∨ k = 11 ∨ k = 12 ∨ k = 13 ∨ k = 14 := by
    omega
  obtain rfl | rfl | rfl | rfl | rfl | rfl | rfl | rfl | rfl | rfl | rfl | rfl | rfl | rfl | rfl := this <;> rfl

theorem keyed_ownerKey (c : Chip) (key : List Byte) (h : key.length = 60) : (keyed c key).ownerKey = key := by
  have e : (List.range 15).flatMap (fun k => wordBytesLE ((keyed c key).optWord (optOwnerKey + k)))
      = (List.range 15).flatMap (fun k => (key.drop (4 * k)).take 4) := by
    rw [List.flatMap_def, List.flatMap_def]
    refine congrArg _ (List.map_congr_left fun k hk => ?_)
    rw [List.mem_range] at hk
    rw [keyed_optWord _ _ _ hk, word_of_four _ (by rw [List.length_take, List.length_drop]; omega)]
  rw [Chip.ownerKey, e, fours, List.take_take]
  exact List.take_of_length_le (by omega)

/-- The signed part of an image with one section, a PROFILE that is not resident. -/
def testSigned : List Byte :=
  natBytesLE 4 0x38385753 ++ natBytesLE 2 1 ++ natBytesLE 2 1 ++ natBytesLE 4 120 ++ natBytesLE 4 1296 ++ natBytesLE 48 0
    ++ natBytesLE 2 3 ++ natBytesLE 54 0

def testImage : List Byte := testSigned ++ blankHss

theorem imgField_append (bs rest : List Byte) (lo n : Nat) (h : lo + n ≤ bs.length) :
    imgField (bs ++ rest) lo n = imgField bs lo n := by
  rw [imgField, imgField, List.drop_append_of_le_length (by omega), List.take_append_of_le_length (by rw [List.length_drop]; omega)]

/-- The image passes with whatever follows it. -/
theorem testImage_passes (c : Chip) (rest : List Byte) :
    (keyed c (keyFor testSigned)).imgCheck (testImage ++ rest) = 0 := by
  have l : testImage.length = 1416 := by decide +kernel
  have f : ∀ lo n v, lo + n ≤ 1416 → imgField testImage lo n = v → imgField (testImage ++ rest) lo n = v := fun lo n v h e => by
    rw [imgField_append _ _ _ _ (by omega), e]
  have f0 := f 0 4 0x38385753 (by decide) (by decide +kernel)
  have f4 := f 4 2 1 (by decide) (by decide +kernel)
  have f6 := f 6 2 1 (by decide) (by decide +kernel)
  have f8 := f 8 4 120 (by decide) (by decide +kernel)
  have f12 := f 12 4 1296 (by decide) (by decide +kernel)
  have f16 := f 16 4 0 (by decide) (by decide +kernel)
  have f20 := f 20 4 0 (by decide) (by decide +kernel)
  have f32 := f 32 32 0 (by decide) (by decide +kernel)
  have f64 := f 64 2 3 (by decide) (by decide +kernel)
  have f66 := f 66 2 0 (by decide) (by decide +kernel)
  have f68 := f 68 4 0 (by decide) (by decide +kernel)
  have f80 := f 80 8 0 (by decide) (by decide +kernel)
  have n : (testImage ++ rest).length = 1416 + rest.length := by rw [List.length_append, l]
  have r : List.range 1 = [0] := rfl
  have m : (imgSect (testImage ++ rest) 0).resident = false := by
    change (imgField (testImage ++ rest) 66 2 % 2 == 1) = false
    rw [f66]; rfl
  have i : imgSects (testImage ++ rest) = [imgSect (testImage ++ rest) 0] := by rw [imgSects, f6]; rfl
  have q : ((imgSects (testImage ++ rest)).all fun s => !s.resident) = true := by
    simp only [i, List.all_cons, List.all_nil, m]; rfl
  have h : imgHeaderOk (testImage ++ rest) = true := by
    have z : ((imgSects (testImage ++ rest)).map fun s => if s.resident then s.len else 0) = [0] := by
      simp only [i, List.map_cons, List.map_nil, m]; rfl
    have o : imgSectOk (testImage ++ rest) 0 = true := by
      simp only [imgSectOk, f64, f66, f68, f80]; rfl
    simp only [imgHeaderOk, f0, f4, f6, f8, f12, f20, f32, z, r, n, List.all_cons, o, List.all_nil]
    have : 64 ≤ 1416 + rest.length := by omega
    have : 64 + 56 * 1 ≤ 1416 + rest.length := by omega
    simp [*]
  have s : imgSigned (testImage ++ rest) = testSigned := by
    rw [imgSigned, f8, List.take_append_of_le_length (by omega)]; decide +kernel
  have g : imgSignature (testImage ++ rest) = blankHss := by
    have e : testImage.drop 120 = blankHss := by decide +kernel
    have k : blankHss.length = 1296 := by decide +kernel
    rw [imgSignature, f8, f12, List.drop_append_of_le_length (by omega), e, List.take_append_of_le_length (by omega),
      List.take_of_length_le (by omega)]
  have v : ¬imgSvn (testImage ++ rest) < ((keyed c (keyFor testSigned)).optWord optSvnMin).toNat := by
    have : (keyed c (keyFor testSigned)).optWord optSvnMin = 0#32 := rfl
    rw [this]; exact Nat.not_lt_zero _
  have d : ((imgSects (testImage ++ rest)).all fun s => !s.resident || s.hashOk (s.data (testImage ++ rest))) = true := by
    rw [List.all_eq_true] at q ⊢
    intro x hx; rw [q x hx]; rfl
  simp only [Chip.imgCheck, h, s, g, keyed_ownerKey _ _ (keyFor_length _), hssVerify_blank, v, d]
  rfl

theorem testImage_alone (c : Chip) : (keyed c (keyFor testSigned)).imgCheck testImage = 0 := by
  have h := testImage_passes c []
  rwa [List.append_nil] at h

theorem bytes_split (c : Chip) (a m n : Nat) : c.bytes a (m + n) = c.bytes a m ++ c.bytes (a + m) n := by
  simp only [Chip.bytes, List.range_add, List.map_append, List.map_map]
  refine congrArg _ (List.map_congr_left fun i _ => ?_)
  rw [Function.comp_apply, Nat.add_assoc]

/-- A device of boot step 5 with the owner key of the image. -/
def flashReady : Chip := keyed ((bootAt 5).sets [(F.glbStrapStraps, 0)]) (keyFor testSigned)

/-- The same with the image pushed into SRAM and GO given. -/
def pushReady : Chip :=
  keyed { bootAt 5 with
    mem := [(0, 0x53), (1, 0x57), (2, 0x38), (3, 0x38), (4, 1), (6, 1), (8, 120), (12, 0x10), (13, 5), (64, 3), (131, 4),
      (1255, 5)].map fun p => (sramBase + p.1, BitVec.ofNat 8 p.2)
    boot := { (bootAt 5).boot with verify := true } } (keyFor testSigned)

theorem pushReady_passes : pushReady.imgCheck (pushReady.bytes sramBase 4194304) = 0 := by
  have a : pushReady.bytes sramBase 472 = testImage.take 472 := by decide +kernel
  have b : pushReady.bytes (sramBase + 472) 472 = (testImage.drop 472).take 472 := by decide +kernel
  have d : pushReady.bytes (sramBase + 472 + 472) 472 = (testImage.drop 472).drop 472 := by decide +kernel
  have h : pushReady.bytes sramBase (472 + (472 + 472)) = testImage := by
    rw [bytes_split, bytes_split, a, b, d, List.take_append_drop, List.take_append_drop]
  have e : (4194304 : Nat) = (472 + (472 + 472)) + 4192888 := rfl
  rw [e, bytes_split, h]
  exact testImage_passes _ _

/-- A token of version 1 and every scope for serial number and nonce 0, for the longest time. -/
def testToken : List Byte := natBytesBE 24 0x0001000F0000000000000000000000000000000005265C00

def authCmd : ScpCmd := scpCmdUl 0x10 0 1320 (testToken ++ blankHss)

theorem natOfBE_four (x : Nat) (h : x < 2 ^ 32) : natOfBE (natBytesBE 4 x) = x := by
  simp only [natOfBE, natBytesBE, List.range, List.range.loop, List.map, List.foldl, BitVec.toNat_ofNat, Nat.shiftRight_eq_div_pow]
  omega

/-- A sealed packet with the right version and length is not a broken command. -/
theorem sealed_whole (m : ScpCmd) (bs : List Byte) (b : m.bytes = scpSeal bs) (l : 20 ≤ bs.length)
    (v : fieldBE bs 0 1 / 16 = 1) (n : fieldBE bs 2 2 = bs.length + 4) : m.broken = false := by
  have c4 : (natBytesBE 4 (crc32c bs).toNat).length = 4 := rfl
  have len : m.bytes.length = bs.length + 4 := by rw [b, scpSeal, List.length_append, c4]
  have ml : m.len = bs.length + 4 := by rw [ScpCmd.len, b, scpSeal, fieldBE_append _ _ _ _ (by omega), n]
  have ver : fieldBE m.bytes 0 1 / 16 = 1 := by rw [b, scpSeal, fieldBE_append _ _ _ _ (by omega), v]
  have crc : m.crc = (crc32c bs).toNat := by
    rw [ScpCmd.crc, ml, b, scpSeal, Nat.add_sub_cancel, fieldBE, List.drop_left, List.take_of_length_le (by rw [c4]),
      natOfBE_four _ (crc32c bs).isLt]
  have tk : m.bytes.take (m.len - 4) = bs := by rw [ml, Nat.add_sub_cancel, b, scpSeal, List.take_left]
  rw [ScpCmd.broken, tk, crc, ver, len, ml]
  have h1 : ¬bs.length + 4 < 24 := by omega
  simp [h1]

/-- A keyed device whose uplink is UP. -/
def authChip : Chip := keyed ulUpChip (keyFor testToken)

theorem authCmd_passes : authChip.tokenOk authCmd.data = true := by
  have m : authCmd.data = testToken ++ blankHss := by decide +kernel
  have t : (testToken ++ blankHss).take 24 = testToken := by decide +kernel
  have d : (testToken ++ blankHss).drop 24 = blankHss := by decide +kernel
  have k : authChip.ownerKey = keyFor testToken := keyed_ownerKey _ _ (keyFor_length _)
  have r : (decide (24 ≤ (testToken ++ blankHss).length) && true && fieldBE (testToken ++ blankHss) 0 2 == 1
      && ((testToken ++ blankHss).drop 4).take 8 == ulUpChip.serialBytes
      && fieldBE (testToken ++ blankHss) 12 4 == ulUpChip.f F.scpNonceNonce
      && decide (fieldBE (testToken ++ blankHss) 2 2 < 16)
      && decide (1 ≤ fieldBE (testToken ++ blankHss) 20 4) && decide (fieldBE (testToken ++ blankHss) 20 4 ≤ 86400000)) = true := by
    decide +kernel
  rw [m, Chip.tokenOk, t, d, k, hssVerify_blank]
  exact r

theorem authCmd_ready : authChip.Ready authCmd := by
  refine ⟨by decide +kernel, sealed_whole _ _ rfl ?_ ?_ ?_, by decide +kernel, by decide +kernel, by decide +kernel,
    fun _ => rfl, fun _ => rfl⟩ <;> decide +kernel

/-- A key of zeros and the device's serial number: what the owner signs. -/
def ownMsg : List Byte := natBytesBE 68 0

/-- A new key of zeros in SEC_BUF, and its signature behind it. -/
def ownBuf : Chip := (up.wr (R.secBuf 18) 0x04000000#32).wr (R.secBuf 299) 0x05000000#32

def ownReady : Chip := keyed ownBuf (keyFor ownMsg)

theorem ownReady_holds :
    hssHeld ownReady.ownerKey (ownReady.secBuf 0 60 ++ ownReady.serialBytes) (ownReady.secBuf 64 8128) = true := by
  have k : ownReady.ownerKey = keyFor ownMsg := keyed_ownerKey _ _ (keyFor_length _)
  have c : ∀ lo n, ownReady.secBuf lo n = ownBuf.secBuf lo n := fun _ _ => rfl
  have m : ownBuf.secBuf 0 60 ++ ownBuf.serialBytes = ownMsg := by decide +kernel
  have g : (ownBuf.secBuf 64 8128).take 1296 = blankHss := by decide +kernel
  have s : ownReady.serialBytes = ownBuf.serialBytes := rfl
  rw [k, c, c, s, m, ← List.take_append_drop 1296 (Chip.secBuf _ 64 8128), g]
  exact hssHeld_blank _ _

/-- The watchdog runs out on a running device with WDT_EN set. -/
theorem witness_Resets :
    (∃ c : Chip, c.strapHold = false ∧ c.fb F.rstCfgWdtEn = true)
    ∧ (∃ c : Chip, c.strapHold = true) :=
  ⟨⟨up.sets [(F.rstCfgWdtEn, 1)], by decide +kernel⟩,
  ⟨State.reset.chip.sets [(F.glbBootStatPhase, 3), (F.glbBootStatErr, 2)], by decide +kernel⟩⟩

/-- Each state a lane is left from, on the last lane of its block. -/
theorem witness_LaneChanges :
    (∃ (c : Chip) (n m : Nat), n < 9 ∧ m < laneCount n ∧ c.domainRuns 4 = true ∧ c.laneState n m = lsDeep)
    ∧ (∃ (c : Chip) (n m : Nat), n < 9 ∧ m < laneCount n ∧ c.domainRuns 4 = true ∧ c.laneState n m = lsFast)
    ∧ (∃ (c : Chip) (n m : Nat), n < 9 ∧ m < laneCount n ∧ c.domainRuns 4 = true ∧ c.laneState n m = lsActive)
    ∧ (∃ (c : Chip) (n m : Nat), m < laneCount n ∧ n < 9 ∧ c.domainRuns 4 = true ∧ c.laneState n m = lsOff)
    ∧ (∃ (c : Chip) (m : Nat), m < laneCount 9 ∧ c.domainRuns 5 = true ∧ c.laneState 9 m = lsOff)
    ∧ (∃ (c : Chip) (n m : Nat), m < laneCount n ∧ n < 10 ∧ c.domainRuns (laneDomain n) = true ∧ c.laneState n m =
      lsTrain) :=
  ⟨⟨up.sets [(F.lnStateState 8 2, lsDeep)], 8, 2, by decide +kernel⟩,
  ⟨up.sets [(F.lnStateState 0 4, lsFast)], 0, 4, by decide +kernel⟩,
  ⟨up.sets [(F.lnStateState 0 0, lsActive)], 0, 0, by decide +kernel⟩,
  ⟨up, 8, 2, by decide +kernel⟩,
  ⟨up, 8, by decide +kernel⟩,
  ⟨up.sets [(F.lnStateState 9 8, lsTrain)], 9, 8, by decide +kernel⟩⟩

/-- A lane in training, a lane that detects, one in ACTIVE, and a checker with and without lock. -/
theorem witness_LaneEvents :
    (∃ (c : Chip) (n m : Nat), m < laneCount n ∧ n < 10 ∧ c.domainRuns (laneDomain n) = true ∧ c.laneState n m =
      lsTrain)
    ∧ (∃ (c : Chip) (n m : Nat), m < laneCount n ∧ n < 10 ∧ c.domainRuns (laneDomain n) = true ∧ c.laneState n m ≠
      lsOff ∧ c.laneState n m ≠ lsCond ∧ c.laneState n m = lsActive ∧ (n = 9 → c.ulSt ≠ ulUp))
    ∧ (∃ (c : Chip) (n m : Nat) (l : List Nat), m < laneCount n ∧ n < 10 ∧ c.domainRuns (laneDomain n) = true ∧ l.all
      (· < 4) = true ∧ c.laneState n m = lsTest ∧ c.fb (F.lnPrbsCtrlChkEn n m) = true ∧ c.f (F.lnCtrlLoopback n m) =
      0 ∧ n * 9 + m < c.lanes.length) :=
  ⟨⟨up.sets [(F.lnStateState 9 8, lsTrain)], 9, 8, by decide +kernel⟩,
  ⟨up.sets [(F.lnStateState 9 0, lsActive), (F.ulStatState, ulSpare)], 9, 0, by decide +kernel⟩,
  ⟨up.sets [(F.lnStateState 7 4, lsTest), (F.lnPrbsCtrlChkEn 7 4, 1)], 7, 4, [0, 3, 3, 0], by decide +kernel⟩⟩

/-- A quiet window on an unfrozen lane, and a busy one on a frozen lane, each the last of its run. -/
theorem witness_LaneWindows :
    (∃ (c : Chip) (n m edges : Nat), m < laneCount n ∧ n < 10 ∧ c.domainRuns (laneDomain n) = true ∧ c.laneState n m
      = lsTrain ∧ edges < c.f (F.lnAdaptTdMin n m) ∧ c.fb (F.lnStateFrozen n m) = false ∧ c.f (F.lnAdaptFreezeWin n
      m) ≤ (c.lane n m).idleRun + 1)
    ∧ (∃ (c : Chip) (n m edges : Nat), m < laneCount n ∧ n < 10 ∧ c.domainRuns (laneDomain n) = true ∧ c.laneState n
      m = lsActive ∧ c.f (F.lnAdaptTdMin n m) ≤ edges ∧ c.fb (F.lnStateFrozen n m) = true ∧ c.f (F.lnAdaptResumeWin n
      m) ≤ (c.lane n m).busyRun + 1) :=
  ⟨⟨(up.sets [(F.lnStateState 9 8, lsTrain), (F.lnAdaptTdMin 9 8, 1)]).modLane 9 8 fun l =>
    { l with idleRun := 65535 }, 9, 8, 0, by decide +kernel⟩,
  ⟨(up.sets [(F.lnStateState 0 0, lsActive), (F.lnAdaptTdMin 0 0, 1), (F.lnStateFrozen 0 0, 1)]).modLane 0 0 fun l =>
    { l with busyRun := 65535 }, 0, 0, 1, by decide +kernel⟩⟩

/-- Full guard intervals with one busy window too few and with the fewest that count: a good eye at its limit, a bad
one, one between, adaptation off, and in training. -/
theorem witness_LaneGuard :
    (∃ (c : Chip) (n m eye : Nat), m < laneCount n ∧ n < 10 ∧ c.domainRuns (laneDomain n) = true ∧ n * 9 + m <
      c.lanes.length ∧ eye < 256 ∧ (c.lane n m).gWin = 1024 ∧ c.laneState n m = lsActive ∧ (c.lane n m).gBusy < 512)
    ∧ (∃ (c : Chip) (n m eye : Nat), m < laneCount n ∧ n < 10 ∧ c.domainRuns (laneDomain n) = true ∧ n * 9 + m <
      c.lanes.length ∧ eye < 256 ∧ (c.lane n m).gWin = 1024 ∧ c.laneState n m = lsTrain ∧ (c.lane n m).gBusy < 512)
    ∧ (∃ (c : Chip) (n m eye : Nat), m < laneCount n ∧ n < 10 ∧ c.domainRuns (laneDomain n) = true ∧ n * 9 + m <
      c.lanes.length ∧ eye < 256 ∧ (c.lane n m).gWin = 1024 ∧ c.laneState n m = lsActive ∧ 512 ≤ (c.lane n m).gBusy ∧
      (n < 9 → c.linkSt n ≠ lkEqualize ∧ (c.link n).swap = none) ∧ c.fb (F.lnAdaptAdaptEn n m) = true ∧ c.f
      (F.lnGuardEyeGood n m) ≤ eye)
    ∧ (∃ (c : Chip) (n m eye : Nat), m < laneCount n ∧ n < 10 ∧ c.domainRuns (laneDomain n) = true ∧ n * 9 + m <
      c.lanes.length ∧ eye < 256 ∧ (c.lane n m).gWin = 1024 ∧ c.laneState n m = lsActive ∧ 512 ≤ (c.lane n m).gBusy ∧
      (n < 9 → c.linkSt n ≠ lkEqualize ∧ (c.link n).swap = none) ∧ c.fb (F.lnAdaptAdaptEn n m) = true ∧ eye < c.f
      (F.lnGuardEyeGood n m) ∧ eye < c.f (F.lnGuardEyeSnap n m))
    ∧ (∃ (c : Chip) (n m eye : Nat), m < laneCount n ∧ n < 10 ∧ c.domainRuns (laneDomain n) = true ∧ n * 9 + m <
      c.lanes.length ∧ eye < 256 ∧ (c.lane n m).gWin = 1024 ∧ c.laneState n m = lsActive ∧ 512 ≤ (c.lane n m).gBusy ∧
      (n < 9 → c.linkSt n ≠ lkEqualize ∧ (c.link n).swap = none) ∧ c.fb (F.lnAdaptAdaptEn n m) = true ∧ c.f
      (F.lnGuardEyeSnap n m) ≤ eye ∧ eye < c.f (F.lnGuardEyeGood n m))
    ∧ (∃ (c : Chip) (n m eye : Nat), m < laneCount n ∧ n < 10 ∧ c.domainRuns (laneDomain n) = true ∧ n * 9 + m <
      c.lanes.length ∧ eye < 256 ∧ (c.lane n m).gWin = 1024 ∧ c.laneState n m = lsActive ∧ 512 ≤ (c.lane n m).gBusy ∧
      (n < 9 → c.linkSt n ≠ lkEqualize ∧ (c.link n).swap = none) ∧ c.fb (F.lnAdaptAdaptEn n m) = false)
    ∧ (∃ (c : Chip) (n m eye : Nat), m < laneCount n ∧ n < 10 ∧ c.domainRuns (laneDomain n) = true ∧ n * 9 + m <
      c.lanes.length ∧ eye < 256 ∧ (c.lane n m).gWin = 1024 ∧ c.laneState n m = lsTrain ∧ 512 ≤ (c.lane n m).gBusy)
    ∧ (∃ (c : Chip) (n m eye : Nat), m < laneCount n ∧ n < 10 ∧ c.domainRuns (laneDomain n) = true ∧ n * 9 + m <
      c.lanes.length ∧ eye < 256 ∧ (c.lane n m).gWin = 1024 ∧ c.laneState n m = lsTrain ∧ 512 ≤ (c.lane n m).gBusy ∧
      n < 9 ∧ c.linkSt n = lkEqualize ∧ (c.mapped n).contains m = true ∧ (c.link n).swap = none ∧ n < c.links.length
      ∧ m < (c.link n).train.length)
    ∧ (∃ (c : Chip) (n m eye : Nat), m < laneCount n ∧ n < 10 ∧ c.domainRuns (laneDomain n) = true ∧ n * 9 + m <
      c.lanes.length ∧ eye < 256 ∧ (c.lane n m).gWin = 1024 ∧ c.laneState n m = lsTrain ∧ 512 ≤ (c.lane n m).gBusy ∧
      n < 9 ∧ c.linkSt n = lkEqualize ∧ (c.mapped n).contains m = true ∧ (c.link n).swap = none ∧ n < c.links.length
      ∧ m < (c.link n).train.length) :=
  ⟨⟨guarded 9 8 lsActive 511 1, 9, 8, 255, by decide +kernel⟩,
  ⟨guarded 0 0 lsTrain 0 1, 0, 0, 0, by decide +kernel⟩,
  ⟨guarded 0 4 lsActive 512 1, 0, 4, 40, by decide +kernel⟩,
  ⟨guarded 9 0 lsActive 512 1, 9, 0, 19, by decide +kernel⟩,
  ⟨guarded 8 2 lsActive 1024 1, 8, 2, 20, by decide +kernel⟩,
  ⟨guarded 9 8 lsActive 512 0, 9, 8, 0, by decide +kernel⟩,
  ⟨guarded 9 8 lsTrain 512 1, 9, 8, 39, by decide +kernel⟩,
  ⟨(guarded 0 3 lsTrain 512 1).sets [(F.linkStateState 0, lkEqualize)], 0, 3, 40, by decide +kernel⟩,
  ⟨(guarded 8 1 lsTrain 512 1).sets [(F.linkStateState 8, lkEqualize)], 8, 1, 39, by decide +kernel⟩⟩

/-- Each write of LaneWrites is allowed on some lane. -/
theorem witness_LaneWrites :
    (∃ (c : Chip) (n m : Nat), m < laneCount n ∧ n < 10 ∧ c.Allows .boot (R.lnCtrl n m) (force (F.lnCtrlTestEn n m) 1
      0#32) ∧ c.laneState n m = lsOff)
    ∧ (∃ (c : Chip) (n m : Nat), m < laneCount n ∧ n < 10 ∧ c.Allows .boot (R.lnCtrl n m) (force (F.lnCtrlTestEn n m)
      0 0#32) ∧ c.laneState n m = lsTest)
    ∧ (∃ (c : Chip) (n m : Nat), m < laneCount n ∧ n < 10 ∧ c.Allows .boot (R.lnAdapt n m) (c.rd (R.lnAdapt n m)))
    ∧ (∃ (c : Chip) (n m : Nat), m < laneCount n ∧ n < 10 ∧ c.Allows .boot (R.lnPrbsCtrl n m) (force (F.lnPrbsCtrlClr
      n m) 1 0#32))
    ∧ (∃ (c : Chip) (n : Nat), n < 10 ∧ c.Allows .boot (R.laneMap n) 0x0123#32)
    ∧ (∃ (c : Chip) (n : Nat), n < 8 ∧ c.Allows .boot (R.laneRate n) 1#32) :=
  ⟨⟨up, 9, 8, by dsimp only [Chip.Allows]; decide +kernel⟩,
  ⟨up.sets [(F.lnStateState 0 0, lsTest)], 0, 0, by dsimp only [Chip.Allows]; decide +kernel⟩,
  ⟨up, 8, 2, by dsimp only [Chip.Allows]; decide +kernel⟩,
  ⟨up.sets [(F.lnStateState 7 4, lsTest)], 7, 4, by dsimp only [Chip.Allows]; decide +kernel⟩,
  ⟨up, 0, by dsimp only [Chip.Allows]; decide +kernel⟩,
  ⟨up, 7, by dsimp only [Chip.Allows]; decide +kernel⟩⟩

/-- Reads of both counts and each mode of injection, on a lane that sends. -/
theorem witness_LaneTests :
    (∃ (c : Chip) (n m : Nat) (l k : List Nat), m < laneCount n ∧ n < 10 ∧ (l ++ k).all (· < 4) = true ∧ c.AllowsRead
      .boot (R.lnPrbsBitsLo n m))
    ∧ (∃ (c : Chip) (n m : Nat) (l k : List Nat), m < laneCount n ∧ n < 10 ∧ (l ++ k).all (· < 4) = true ∧
      c.AllowsRead .boot (R.lnPrbsErrLo n m))
    ∧ (∃ (c : Chip) (n m : Nat), m < laneCount n ∧ n < 10 ∧ n * 9 + m < c.lanes.length ∧ c.laneSends n m = true ∧
      c.Allows .boot (R.lnInj n m) (force (F.lnInjMode n m) 1 0#32))
    ∧ (∃ (c : Chip) (n m : Nat), m < laneCount n ∧ n < 10 ∧ n * 9 + m < c.lanes.length ∧ c.laneSends n m = true ∧
      c.Allows .boot (R.lnInj n m) (force (F.lnInjMode n m) 3 0#32))
    ∧ (∃ (c : Chip) (n m : Nat), m < laneCount n ∧ n < 10 ∧ n * 9 + m < c.lanes.length ∧ c.laneSends n m = true ∧
      c.Allows .boot (R.lnInj n m) (force (F.lnInjMode n m) 2 0#32))
    ∧ (∃ (c : Chip) (n m : Nat), m < laneCount n ∧ n < 10 ∧ n * 9 + m < c.lanes.length ∧ c.laneSends n m = true ∧
      c.Allows .boot (R.lnInj n m) (force (F.lnInjMode n m) 0 0#32))
    ∧ (∃ (c : Chip) (n m : Nat), m < laneCount n ∧ n < 10 ∧ n * 9 + m < c.lanes.length ∧ c.laneSends n m = true ∧
      c.domainRuns (laneDomain n) = true ∧ c.f (F.lnInjMode n m) = 2) :=
  ⟨⟨up, 9, 8, [0, 1, 2, 3], [3], by dsimp only [Chip.Allows, Chip.AllowsRead]; decide +kernel⟩,
  ⟨up, 0, 0, [0, 1, 2, 3], [3], by dsimp only [Chip.Allows, Chip.AllowsRead]; decide +kernel⟩,
  ⟨up.sets [(F.lnStateState 9 8, lsActive)], 9, 8, by dsimp only [Chip.Allows]; decide +kernel⟩,
  ⟨up.sets [(F.lnStateState 0 0, lsActive)], 0, 0, by dsimp only [Chip.Allows]; decide +kernel⟩,
  ⟨up.sets [(F.lnStateState 8 2, lsActive)], 8, 2, by dsimp only [Chip.Allows]; decide +kernel⟩,
  ⟨up.sets [(F.lnStateState 7 4, lsActive)], 7, 4, by dsimp only [Chip.Allows]; decide +kernel⟩,
  ⟨up.sets [(F.lnStateState 9 0, lsActive), (F.lnInjMode 9 0, 2)], 9, 0, by decide +kernel⟩⟩

/-- A spare due for a run with Fold 3 off and with room in it, due for its second run too, and one that is being
conditioned after a failure. -/
theorem witness_SpareConditioning :
    (∃ (c : Chip) (n : Nat), n < 10 ∧ c.domainRuns (laneDomain n) = true ∧ c.fb (F.spareCondEn n) = true ∧ c.fb
      (F.spareStatUnusable n) = false ∧ c.shp.queue = [] ∧ (c.port n).condRetry = true ∧ c.fb F.shpCtrlF3En = false)
    ∧ (∃ (c : Chip) (n : Nat), n < 10 ∧ c.domainRuns (laneDomain n) = true ∧ c.fb (F.spareCondEn n) = true ∧ c.fb
      (F.spareStatUnusable n) = false ∧ c.shp.queue = [] ∧ (c.port n).condRetry = true ∧ c.fb F.shpCtrlF3En = true ∧
      c.laneState n (c.spareLane n) = lsOff ∧ (∃ k < 4, (c.freeEngine k).isSome = true ∧ c.tempOf k < c.ceil16) ∧ (∀
      k < 4, (ceilDiv (20480 * c.ecyc (c.stepOf k)) 1000 : Int) ≤ c.shp.rem))
    ∧ (∃ (c : Chip) (n : Nat), n < 10 ∧ c.domainRuns (laneDomain n) = true ∧ c.laneState n (c.spareLane n) = lsCond ∧
      (c.port n).condFails ≠ 0) :=
  ⟨⟨(up.sets [(F.spareCondEn 9, 1), (F.shpCtrlF3En, 0)]).modPort 9 fun _ => ⟨1, true⟩, 9, by decide +kernel⟩,
  ⟨condReady, 8, by decide +kernel⟩,
  ⟨(up.sets [(F.lnStateState 0 4, lsCond)]).modPort 0 fun _ => ⟨1, false⟩, 0, by decide +kernel⟩⟩

/-- Each write of LINK_CTRL in the state in which it acts. -/
theorem witness_LinkControl :
    (∃ (c : Chip) (n : Nat) (v : Word), n < 9 ∧ c.domainRuns 4 = true ∧ c.Allows .boot (R.linkCtrl n) (force
      (F.linkCtrlEn n) 1 v) ∧ c.linkSt n = lkDisabled ∧ (n < 8 ∨ c.pairMode = true))
    ∧ (∃ (c : Chip) (n : Nat) (v : Word), n < 9 ∧ c.domainRuns 4 = true ∧ c.Allows .boot (R.linkCtrl n) (force
      (F.linkCtrlEn n) 0 v) ∧ c.linkSt n ≠ lkDisabled ∧ ¬(c.linkSt n = lkActive ∧ (c.link n).lineOpen = true))
    ∧ (∃ (c : Chip) (n : Nat), n < 9 ∧ c.domainRuns 4 = true ∧ (c.link n).draining = true)
    ∧ (∃ (c : Chip) (n : Nat) (v : Word), n < 9 ∧ c.domainRuns 4 = true ∧ c.Allows .boot (R.linkCtrl n) (force
      (F.linkCtrlRetryNow n) 1 v) ∧ bitAt v 31 = true ∧ c.linkSt n = lkSeeking)
    ∧ (∃ (c : Chip) (n : Nat) (v : Word), n < 9 ∧ c.domainRuns 4 = true ∧ c.Allows .boot (R.linkCtrl n) (force
      (F.linkCtrlIdleReq n) 1 v) ∧ bitAt v 31 = true ∧ c.linkSt n = lkActive ∧ (c.link n).draining = false)
    ∧ (∃ (c : Chip) (n : Nat) (v : Word), n < 9 ∧ c.domainRuns 4 = true ∧ c.Allows .boot (R.linkCtrl n) (force
      (F.linkCtrlIdleReq n) 2 v) ∧ bitAt v 31 = true ∧ c.linkSt n = lkActive ∧ (c.link n).draining = false)
    ∧ (∃ (c : Chip) (n : Nat) (v : Word), n < 9 ∧ c.domainRuns 4 = true ∧ c.Allows .boot (R.linkCtrl n) (force
      (F.linkCtrlIdleReq n) 0 v) ∧ bitAt v 31 = true ∧ c.linkSt n = lkIdleF ∧ (c.link n).draining = false)
    ∧ (∃ (c : Chip) (n : Nat) (v : Word), n < 9 ∧ c.domainRuns 4 = true ∧ c.Allows .boot (R.linkCtrl n) (force
      (F.linkCtrlIdleReq n) 0 v) ∧ bitAt v 31 = true ∧ c.linkSt n = lkIdleD ∧ (c.link n).draining = false) :=
  ⟨⟨up.sets [(F.glbStrapStraps, 0x100), (F.linkCtrlEn 8, 1)], 8, 0#32, by dsimp only [Chip.Allows]; decide +kernel⟩,
  ⟨up.sets [(F.linkCtrlEn 0, 1), (F.linkStateState 0, lkActive)], 0, 0#32,
    by dsimp only [Chip.Allows]; decide +kernel⟩,
  ⟨up.modLink 8 fun l => { l with draining := true }, 8, by decide +kernel⟩,
  ⟨up.sets [(F.linkCtrlEn 7, 1), (F.linkStateState 7, lkSeeking)], 7, 0x80000000#32,
    by dsimp only [Chip.Allows]; decide +kernel⟩,
  ⟨up.sets [(F.linkCtrlEn 8, 1), (F.linkStateState 8, lkActive)], 8, 0x80000000#32,
    by dsimp only [Chip.Allows]; decide +kernel⟩,
  ⟨up.sets [(F.linkCtrlEn 0, 1), (F.linkStateState 0, lkActive)], 0, 0x80000000#32,
    by dsimp only [Chip.Allows]; decide +kernel⟩,
  ⟨up.sets [(F.linkCtrlEn 0, 1), (F.linkStateState 0, lkIdleF)], 0, 0x80000000#32,
    by dsimp only [Chip.Allows]; decide +kernel⟩,
  ⟨up.sets [(F.linkCtrlEn 8, 1), (F.linkStateState 8, lkIdleD)], 8, 0x80000000#32,
    by dsimp only [Chip.Allows]; decide +kernel⟩⟩

/-- A link in each phase of training, in ACTIVE, leaving an idle state and in SEEKING. -/
theorem witness_LinkTraining :
    (∃ (c : Chip) (n : Nat), n < 9 ∧ c.domainRuns 4 = true ∧ c.linkSt n = lkDetect ∧ (c.allMapped n fun m => c.fb
      (F.lnStateSigDet n m)) = true)
    ∧ (∃ (c : Chip) (n : Nat), n < 9 ∧ c.domainRuns 4 = true ∧ c.linkSt n = lkDetect ∧ (c.link n).draining = false)
    ∧ (∃ (c : Chip) (n : Nat), n < 9 ∧ c.domainRuns 4 = true ∧ c.linkSt n = lkWake ∧ (c.link n).draining = false)
    ∧ (∃ (c : Chip) (n : Nat), n < 9 ∧ c.domainRuns 4 = true ∧ c.linkSt n = lkEqualize ∧ (c.link n).draining = false)
    ∧ (∃ (c : Chip) (n : Nat), n < 9 ∧ c.domainRuns 4 = true ∧ c.linkSt n = lkAlign ∧ (c.link n).draining = false)
    ∧ (∃ (c : Chip) (n : Nat), n < 9 ∧ c.domainRuns 4 = true ∧ c.linkSt n = lkConfigure ∧ (c.link n).draining =
      false)
    ∧ (∃ (c : Chip) (n : Nat), n < 9 ∧ c.domainRuns 4 = true ∧ c.linkSt n = lkActive ∧ (c.link n).draining = false)
    ∧ (∃ (c : Chip) (n : Nat), n < 9 ∧ c.domainRuns 4 = true ∧ c.linkSt n = lkSeeking ∧ (c.link n).draining = false)
    ∧ (∃ (c : Chip) (n : Nat), n < 9 ∧ c.domainRuns 4 = true ∧ lkDetect ≤ c.linkSt n ∧ c.linkSt n ≤ lkActive ∧
      (c.allMapped n fun m => !c.fb (F.lnStateSigDet n m)) = true ∧ (c.link n).draining = false)
    ∧ (∃ (c : Chip) (n : Nat), n < 9 ∧ c.domainRuns 4 = true ∧ (c.link n).exiting = true ∧ (c.link n).draining =
      false)
    ∧ (∃ (c : Chip) (n : Nat), n < 9 ∧ c.domainRuns 4 = true ∧ (c.link n).draining = true ∧ c.linkSt n = lkActive) :=
  ⟨⟨up.sets [(F.linkStateState 8, lkDetect), (F.lnStateSigDet 8 0, 1), (F.lnStateSigDet 8 1, 1)], 8,
    by decide +kernel⟩,
  ⟨up.sets [(F.linkStateState 0, lkDetect)], 0, by decide +kernel⟩,
  ⟨up.sets [(F.linkStateState 1, lkWake)], 1, by decide +kernel⟩,
  ⟨up.sets [(F.linkStateState 2, lkEqualize)], 2, by decide +kernel⟩,
  ⟨up.sets [(F.linkStateState 3, lkAlign)], 3, by decide +kernel⟩,
  ⟨up.sets [(F.linkStateState 4, lkConfigure)], 4, by decide +kernel⟩,
  ⟨up.sets [(F.linkStateState 5, lkActive)], 5, by decide +kernel⟩,
  ⟨up.sets [(F.linkStateState 8, lkSeeking)], 8, by decide +kernel⟩,
  ⟨up.sets [(F.linkStateState 0, lkDetect)], 0, by decide +kernel⟩,
  ⟨up.modLink 8 fun l => { l with exiting := true }, 8, by decide +kernel⟩,
  ⟨(up.sets [(F.linkStateState 0, lkActive)]).modLink 0 fun l => { l with draining := true }, 0, by decide +kernel⟩⟩

/-- A codeword without errors and one with too many, a lock in its third invalid position, and a lane in training. -/
theorem witness_PcsAndFrames :
    (∃ (c : Chip) (n k : Nat) (sym : List Nat) (w : List Nat) (e : Nat), n < 9 ∧ c.domainRuns 4 = true ∧ c.pcsRuns n
      = true ∧ k < logicalCount n ∧ (c.link n).swap = none ∧ sym.length = 2720 ∧ sym.all (· < 4) = true ∧ rsDecode
      (symbolsOfBits 544 (c.laneRxBits n (c.mapOf n k) sym).2) = some (w, e))
    ∧ (∃ (c : Chip) (n k : Nat) (sym : List Nat), n < 9 ∧ c.domainRuns 4 = true ∧ c.pcsRuns n = true ∧ k <
      logicalCount n ∧ (c.link n).swap = none ∧ sym.length = 2720 ∧ sym.all (· < 4) = true ∧ rsDecode (symbolsOfBits
      544 (c.laneRxBits n (c.mapOf n k) sym).2) = none)
    ∧ (∃ (c : Chip) (n k : Nat) (block : List Byte), n < 9 ∧ c.domainRuns 4 = true ∧ c.pcsRuns n = true ∧ k <
      logicalCount n ∧ (c.link n).swap = none ∧ block.length = 32 ∧ amValid k block = false ∧ (c.laneRx n k).locked =
      true ∧ (c.laneRx n k).fRun = 2)
    ∧ (∃ (c : Chip) (n m : Nat) (w : Word), m < laneCount n ∧ n < 9 ∧ c.domainRuns 4 = true ∧ c.inTraining n m = true
      ∧ getBits w 28 4 < 4) :=
  ⟨(Option.isSome_iff_exists.1 (pcsZero ▸ zeros_decode)).elim fun p h => ⟨pcsUp, 8, 1, _, p.1, p.2,
    by decide +kernel, by decide +kernel, by decide +kernel, by decide +kernel, by decide +kernel, by decide +kernel,
    by decide +kernel, h⟩,
  ⟨pcsUp, 8, 1, _, by decide +kernel, by decide +kernel, by decide +kernel, by decide +kernel, by decide +kernel,
    by decide +kernel, by decide +kernel, pcsBad ▸ tail17_fails⟩,
  ⟨(up.sets [(F.linkStateState 8, lkConfigure)]).modLaneRx 8 0 fun r => { r with locked := true, fRun := 2 }, 8, 0,
    List.replicate 32 0#8, by decide +kernel⟩,
  ⟨up.sets [(F.linkStateState 8, lkDetect)], 8, 0, 0x3FFFFFFF#32, by decide +kernel⟩⟩

/-- Packets that fail each check of R87, the length one short of the least and the checks before passed. -/
theorem witness_PacketChecks :
    (∃ (c : Chip) (n : Nat) (pk : RxPkt), n < 8 ∧ c.domainRuns 4 = true ∧ c.pcsRuns n = true ∧ ¬(pk.framed = true ∧
      16 ≤ fieldBE pk.bytes 2 2 ∧ fieldBE pk.bytes 2 2 ≤ 8226 ∧ pk.bytes.length = fieldBE pk.bytes 2 2))
    ∧ (∃ (c : Chip) (n : Nat) (pk : RxPkt), n < 8 ∧ c.domainRuns 4 = true ∧ c.pcsRuns n = true ∧ pk.framed = true ∧
      16 ≤ fieldBE pk.bytes 2 2 ∧ fieldBE pk.bytes 2 2 ≤ 8226 ∧ pk.bytes.length = fieldBE pk.bytes 2 2 ∧ pk.errored =
      true)
    ∧ (∃ (c : Chip) (n : Nat) (pk : RxPkt), n < 8 ∧ c.domainRuns 4 = true ∧ c.pcsRuns n = true ∧ pk.framed = true ∧
      16 ≤ fieldBE pk.bytes 2 2 ∧ fieldBE pk.bytes 2 2 ≤ 8226 ∧ pk.bytes.length = fieldBE pk.bytes 2 2 ∧ pk.errored =
      false ∧ ¬(crc32c (pk.bytes.take (fieldBE pk.bytes 2 2 - 4))).toNat = fieldBE pk.bytes (fieldBE pk.bytes 2 2 -
      4) 4)
    ∧ (∃ (c : Chip) (n : Nat) (pk : RxPkt), n < 8 ∧ c.domainRuns 4 = true ∧ c.pcsRuns n = true ∧ pk.framed = true ∧
      16 ≤ fieldBE pk.bytes 2 2 ∧ fieldBE pk.bytes 2 2 ≤ 8226 ∧ pk.bytes.length = fieldBE pk.bytes 2 2 ∧ pk.errored =
      false ∧ (crc32c (pk.bytes.take (fieldBE pk.bytes 2 2 - 4))).toNat = fieldBE pk.bytes (fieldBE pk.bytes 2 2 - 4)
      4 ∧ (fieldBE pk.bytes 0 1 % 16 ≠ 1 ∨ lenOk n pk.bytes = false)) :=
  ⟨⟨linkIn 7 lkActive, 7, ⟨natBytesBE 4 15 ++ natBytesBE 11 0, false, true⟩, by decide +kernel⟩,
  ⟨linkIn 0 lkAlign, 0, { pkt 1 (natBytesBE 8 0) with errored := true }, by decide +kernel⟩,
  ⟨linkIn 0 lkActive, 0, ⟨natBytesBE 4 16 ++ natBytesBE 12 0, false, true⟩, by decide +kernel⟩,
  ⟨linkIn 0 lkActive, 0, pkt 1 (natBytesBE 8 0), by decide +kernel⟩⟩

/-- A LINE packet outside ACTIVE, a foreign one, one of a wrong format, a repeated one and a good one. -/
theorem witness_LinePackets :
    (∃ (c : Chip) (n : Nat) (pk : RxPkt), n < 8 ∧ c.domainRuns 4 = true ∧ c.Takes n 1 pk ∧ c.linkSt n ≠ lkActive)
    ∧ (∃ (c : Chip) (n : Nat) (pk : RxPkt), n < 8 ∧ c.domainRuns 4 = true ∧ c.Takes n 1 pk ∧ c.linkSt n = lkActive ∧
      ¬fieldBE pk.bytes 4 1 = c.f (F.linkCfgHeadId n))
    ∧ (∃ (c : Chip) (n : Nat) (pk : RxPkt), n < 8 ∧ c.domainRuns 4 = true ∧ c.Takes n 1 pk ∧ c.linkSt n = lkActive ∧
      fieldBE pk.bytes 4 1 = c.f (F.linkCfgHeadId n) ∧ c.lineFormatOk n pk.bytes = false)
    ∧ (∃ (c : Chip) (n : Nat) (pk : RxPkt), n < 8 ∧ c.domainRuns 4 = true ∧ c.Takes n 1 pk ∧ c.linkSt n = lkActive ∧
      fieldBE pk.bytes 4 1 = c.f (F.linkCfgHeadId n) ∧ c.lineFormatOk n pk.bytes = true ∧ (c.link n).alive = some
      (fieldBE pk.bytes 5 1))
    ∧ (∃ (c : Chip) (n : Nat) (pk : RxPkt), n < 8 ∧ c.domainRuns 4 = true ∧ c.Takes n 1 pk ∧ c.linkSt n = lkActive ∧
      fieldBE pk.bytes 4 1 = c.f (F.linkCfgHeadId n) ∧ c.lineFormatOk n pk.bytes = true ∧ (c.link n).alive ≠ some
      (fieldBE pk.bytes 5 1)) :=
  ⟨⟨linkIn 7 lkConfigure, 7, pkt 1 (lineBody 0 0 0), by dsimp only [Chip.Takes]; decide +kernel⟩,
  ⟨linkIn 0 lkActive, 0, pkt 1 (lineBody 1 0 0), by dsimp only [Chip.Takes]; decide +kernel⟩,
  ⟨linkIn 0 lkActive, 0, pkt 1 (lineBody 0 0 255), by dsimp only [Chip.Takes]; decide +kernel⟩,
  ⟨((linkIn 0 lkActive).sets [(F.feJcfgSize 0 0, 0), (F.feJcfgNch 0 0, 0), (F.feJcfgNpix 0 0, 1)]).modLink 0 fun l =>
    { l with alive := some 9 }, 0, pkt 1 (lineBody 0 9 0), by dsimp only [Chip.Takes]; decide +kernel⟩,
  ⟨(linkIn 0 lkActive).sets [(F.feJcfgSize 0 0, 0), (F.feJcfgNch 0 0, 0), (F.feJcfgNpix 0 0, 1)], 0, pkt 1 (lineBody
    0 255 0), by dsimp only [Chip.Takes]; decide +kernel⟩⟩

/-- The state in which each timer of a link acts. -/
theorem witness_LinkTimers :
    (∃ (c : Chip) (n : Nat), n < 9 ∧ c.domainRuns 4 = true ∧ c.linkSt n = lkConfigure)
    ∧ (∃ (c : Chip) (n : Nat), n < 9 ∧ c.domainRuns 4 = true ∧ c.linkSt n = lkActive)
    ∧ (∃ (c : Chip) (n : Nat), n < 8 ∧ c.domainRuns 4 = true ∧ c.linkSt n = lkActive ∧ (c.link n).latRun = false ∧ n
      < c.links.length)
    ∧ (∃ (c : Chip) (n : Nat), n < 9 ∧ c.domainRuns 4 = true ∧ c.linkSt n = lkConfigure ∧ (c.link n).cfgStep = 1 ∧
      c.headRole n = false)
    ∧ (∃ (c : Chip) (n : Nat), n < 8 ∧ c.domainRuns 4 = true ∧ c.latMeasuring n = true ∧ (c.link n).sent < 16)
    ∧ (∃ (c : Chip) (n : Nat), n < 8 ∧ c.domainRuns 4 = true ∧ (c.link n).trigs = [⟨1, 2, 3, 4⟩] ∧ c.linkSt n =
      lkActive)
    ∧ (∃ (c : Chip) (n : Nat), n < 8 ∧ c.domainRuns 4 = true ∧ (c.link n).trigs = [⟨1, 2, 3, 4⟩] ∧ c.linkSt n ≠
      lkActive)
    ∧ (∃ (c : Chip) (n : Nat) (r : CtrlReq), n < 8 ∧ c.domainRuns 4 = true ∧ (c.link n).ctrl = some r ∧ r.resends <
      3)
    ∧ (∃ (c : Chip) (n : Nat) (r : CtrlReq), n < 8 ∧ c.domainRuns 4 = true ∧ (c.link n).ctrl = some r ∧ 3 ≤ r.resends
      ∧ r.image = false) :=
  ⟨⟨linkIn 0 lkConfigure, 0, by decide +kernel⟩,
  ⟨linkIn 8 lkActive, 8, by decide +kernel⟩,
  ⟨linkIn 7 lkActive, 7, by decide +kernel⟩,
  ⟨linkWith 8 lkConfigure fun l => { l with cfgStep := 1 }, 8, by decide +kernel⟩,
  ⟨linkWith 0 lkActive fun l => { l with latRun := true, sent := 15 }, 0, by decide +kernel⟩,
  ⟨linkWith 7 lkActive fun l => { l with trigs := [⟨1, 2, 3, 4⟩] }, 7, by decide +kernel⟩,
  ⟨linkWith 0 lkSeeking fun l => { l with trigs := [⟨1, 2, 3, 4⟩] }, 0, by decide +kernel⟩,
  ⟨linkWith 0 lkActive fun l => { l with ctrl := some ⟨0, false, 0, 0, 2, false⟩ }, 0, ⟨0, false, 0, 0, 2, false⟩,
    by decide +kernel⟩,
  ⟨linkWith 7 lkActive fun l => { l with ctrl := some ⟨0, true, 0, 0, 3, false⟩ }, 7, ⟨0, true, 0, 0, 3, false⟩,
    by decide +kernel⟩⟩

/-- A packet of each kind on a link that takes it, and an ECHO with a wrong check value. -/
theorem witness_LinkReceives :
    (∃ (c : Chip) (n : Nat) (pk : RxPkt), n < 9 ∧ c.domainRuns 4 = true ∧ c.Takes n 4 pk ∧ c.linkSt n = lkConfigure ∧
      (c.link n).cfgStep = 6 ∧ fieldBE pk.bytes 5 1 % 2 = 1)
    ∧ (∃ (c : Chip) (n : Nat) (pk : RxPkt), n < 9 ∧ c.domainRuns 4 = true ∧ c.Takes n 6 pk ∧ c.headRole n = false)
    ∧ (∃ (c : Chip) (pk : RxPkt), c.domainRuns 4 = true ∧ c.headRole 8 = true ∧ c.Takes 8 6 pk ∧ c.linkSt 8 =
      lkConfigure)
    ∧ (∃ (c : Chip) (n : Nat) (block : List Byte), n < 8 ∧ c.domainRuns 4 = true ∧ c.pcsRuns n = true ∧ fieldBE block
      0 1 = 0x4B ∧ blockOk block 6 = false)
    ∧ (∃ (c : Chip) (n : Nat) (pk : RxPkt) (r : CtrlReq), n < 8 ∧ c.domainRuns 4 = true ∧ c.Takes n 2 pk ∧ (c.link
      n).ctrl = some r ∧ r.image = false ∧ fieldBE pk.bytes 5 1 = r.tag ∧ fieldBE pk.bytes 4 1 = (if r.write then
      0x82 else 0x81)) :=
  ⟨⟨linkWith 8 lkConfigure fun l => { l with cfgStep := 6 }, 8, pkt 4 (natBytesBE 2 1 ++ natBytesBE 10 0),
    by dsimp only [Chip.Takes]; decide +kernel⟩,
  ⟨linkIn 0 lkConfigure, 0, pkt 6 (natBytesBE 32 7), by dsimp only [Chip.Takes]; decide +kernel⟩,
  ⟨(mate 1).sets [(F.linkStateState 8, lkConfigure)], pkt 6 (natBytesBE 32 7),
    by dsimp only [Chip.Takes]; decide +kernel⟩,
  ⟨linkIn 7 lkActive, 7, natBytesBE 32 (0x4B * 2 ^ 248), by decide +kernel⟩,
  ⟨linkWith 0 lkActive fun l => { l with ctrl := some ⟨255, true, 0, 0, 0, false⟩ }, 0, pkt 2 (natBytesBE 2 0x82FF ++
    natBytesBE 6 0), ⟨255, true, 0, 0, 0, false⟩, by dsimp only [Chip.Takes]; decide +kernel⟩⟩

/-- Both commands of the mailbox of a free link. -/
theorem witness_HeadMailbox :
    (∃ (c : Chip) (n : Nat), n < 8 ∧ (c.link n).ctrl = none ∧ c.Allows .boot (R.hregCmd n) (force (F.hregCmdOp n) 1
      0#32))
    ∧ (∃ (c : Chip) (n : Nat), n < 8 ∧ (c.link n).ctrl = none ∧ c.Allows .boot (R.hregCmd n) (force (F.hregCmdOp n) 2
      0#32)) :=
  ⟨⟨linkIn 0 lkActive, 0, by dsimp only [Chip.Allows]; decide +kernel⟩,
  ⟨linkIn 7 lkActive, 7, by dsimp only [Chip.Allows]; decide +kernel⟩⟩

/-- A link that may start a SWAP, and one in each step in which a message or a timer acts. -/
theorem witness_SwapExchange :
    (∃ (c : Chip) (n : Nat), n < 9 ∧ c.domainRuns 4 = true ∧ c.Allows .boot (R.swapCmd n) (force (F.swapCmdGo n) 1
      0#32))
    ∧ (∃ (c : Chip) (n : Nat) (pk : RxPkt) (w : Swap), n < 9 ∧ c.domainRuns 4 = true ∧ (c.link n).swap = some w ∧
      fieldBE pk.bytes 5 1 = w.xid ∧ c.Takes n 5 pk ∧ fieldBE pk.bytes 4 1 = 2 ∧ (w.step = 1 ∨ w.step = 2))
    ∧ (∃ (c : Chip) (n : Nat) (pk : RxPkt) (w : Swap), n < 9 ∧ c.domainRuns 4 = true ∧ (c.link n).swap = some w ∧
      fieldBE pk.bytes 5 1 = w.xid ∧ c.Takes n 5 pk ∧ fieldBE pk.bytes 4 1 = 3 ∧ w.step = 5 ∧ w.ownReady = true ∧
      c.headRole n = false ∧ n < c.links.length)
    ∧ (∃ (c : Chip) (n : Nat) (pk : RxPkt) (w : Swap), n < 9 ∧ c.domainRuns 4 = true ∧ (c.link n).swap = some w ∧
      fieldBE pk.bytes 5 1 = w.xid ∧ c.Takes n 5 pk ∧ fieldBE pk.bytes 4 1 = 3 ∧ 6 ≤ w.step ∧ c.headRole n = false)
    ∧ (∃ (c : Chip) (n : Nat) (pk : RxPkt) (w : Swap), n < 9 ∧ c.domainRuns 4 = true ∧ (c.link n).swap = some w ∧
      fieldBE pk.bytes 5 1 = w.xid ∧ c.Takes n 5 pk ∧ fieldBE pk.bytes 4 1 = 5 ∧ w.step = 6)
    ∧ (∃ (c : Chip) (n : Nat) (pk : RxPkt) (w : Swap), n < 9 ∧ c.domainRuns 4 = true ∧ (c.link n).swap = some w ∧
      fieldBE pk.bytes 5 1 = w.xid ∧ c.Takes n 5 pk ∧ fieldBE pk.bytes 4 1 = 6 ∧ 7 ≤ w.step ∧ w.ownDone = true ∧ n <
      c.links.length ∧ w.log < logicalCount n)
    ∧ (∃ (c : Chip) (n : Nat) (pk : RxPkt) (w : Swap), n < 9 ∧ c.domainRuns 4 = true ∧ (c.link n).swap = some w ∧
      fieldBE pk.bytes 5 1 = w.xid ∧ c.Takes n 5 pk ∧ fieldBE pk.bytes 4 1 = 7)
    ∧ (∃ (c : Chip) (n : Nat) (pk : RxPkt) (w : Swap), n < 9 ∧ c.domainRuns 4 = true ∧ (c.link n).swap = some w ∧
      fieldBE pk.bytes 5 1 = w.xid ∧ (w.step = 1 ∨ w.step = 2 ∨ w.step = 6))
    ∧ (∃ (c : Chip) (n : Nat) (pk : RxPkt), n < 9 ∧ c.domainRuns 4 = true ∧ c.Takes n 5 pk ∧ fieldBE pk.bytes 4 1 =
      8)
    ∧ (∃ (c : Chip) (pk : RxPkt), c.domainRuns 4 = true ∧ c.headRole 8 = true ∧ c.Takes 8 5 pk ∧ c.linkSt 8 =
      lkActive ∧ fieldBE pk.bytes 4 1 = 1 ∧ (c.link 8).swap = none ∧ (∀ w, (c.link 8).lastSwap = some w → w.xid ≠
      fieldBE pk.bytes 5 1))
    ∧ (∃ (c : Chip) (pk : RxPkt) (w : Swap), c.domainRuns 4 = true ∧ c.headRole 8 = true ∧ c.Takes 8 5 pk ∧ c.linkSt
      8 = lkActive ∧ fieldBE pk.bytes 4 1 = 1 ∧ (c.link 8).swap = none ∧ (c.link 8).lastSwap = some w ∧ w.xid =
      fieldBE pk.bytes 5 1)
    ∧ (∃ (c : Chip) (pk : RxPkt) (w : Swap), c.domainRuns 4 = true ∧ c.headRole 8 = true ∧ c.Takes 8 5 pk ∧ c.linkSt
      8 = lkActive ∧ (c.link 8).swap = some w ∧ fieldBE pk.bytes 4 1 = 4 ∧ fieldBE pk.bytes 5 1 = w.xid ∧ w.step = 5)
      :=
  ⟨⟨linkIn 0 lkActive, 0, by dsimp only [Chip.Allows]; decide +kernel⟩,
  ⟨linkWith 0 lkActive fun l =>
    { l with swap := some ⟨7, 0, 0, 4, 0, 1, 0, 0, 0, 0, false, false, false, false, false, false, 0, false, [], none⟩ },
    0, pkt 5 (natBytesBE 2 (2 * 256 + 7) ++ natBytesBE 6 0), ⟨7, 0, 0, 4, 0, 1, 0, 0, 0, 0, false, false, false,
    false, false, false, 0, false, [], none⟩, by dsimp only [Chip.Takes]; decide +kernel⟩,
  ⟨linkWith 7 lkActive fun l =>
    { l with swap := some ⟨7, 0, 0, 4, 0, 5, 0, 0, 0, 0, true, false, false, false, false, false, 0, false, [], none⟩ },
    7, pkt 5 (natBytesBE 2 (3 * 256 + 7) ++ natBytesBE 6 0), ⟨7, 0, 0, 4, 0, 5, 0, 0, 0, 0, true, false, false,
    false, false, false, 0, false, [], none⟩, by dsimp only [Chip.Takes]; decide +kernel⟩,
  ⟨linkWith 0 lkActive fun l =>
    { l with swap := some ⟨7, 0, 0, 4, 0, 6, 0, 0, 0, 0, false, false, false, false, false, false, 0, false, [], none⟩ },
    0, pkt 5 (natBytesBE 2 (3 * 256 + 7) ++ natBytesBE 6 0), ⟨7, 0, 0, 4, 0, 6, 0, 0, 0, 0, false, false, false,
    false, false, false, 0, false, [], none⟩, by dsimp only [Chip.Takes]; decide +kernel⟩,
  ⟨linkWith 8 lkActive fun l =>
    { l with swap := some ⟨7, 0, 0, 4, 0, 6, 0, 0, 0, 0, false, false, false, false, false, false, 0, false, [], none⟩ },
    8, pkt 5 (natBytesBE 2 (5 * 256 + 7) ++ natBytesBE 6 0), ⟨7, 0, 0, 4, 0, 6, 0, 0, 0, 0, false, false, false,
    false, false, false, 0, false, [], none⟩, by dsimp only [Chip.Takes]; decide +kernel⟩,
  ⟨linkWith 0 lkActive fun l =>
    { l with swap := some ⟨7, 3, 0, 4, 0, 7, 0, 0, 0, 0, true, false, false, false, true, false, 0, false, [], none⟩ },
    0, pkt 5 (natBytesBE 2 (6 * 256 + 7) ++ natBytesBE 6 0), ⟨7, 3, 0, 4, 0, 7, 0, 0, 0, 0, true, false, false,
    false, true, false, 0, false, [], none⟩, by dsimp only [Chip.Takes]; decide +kernel⟩,
  ⟨linkWith 0 lkActive fun l =>
    { l with swap := some ⟨7, 0, 0, 4, 0, 2, 0, 0, 0, 0, false, false, false, false, false, false, 0, false, [], none⟩ },
    0, pkt 5 (natBytesBE 2 (7 * 256 + 7) ++ natBytesBE 6 0), ⟨7, 0, 0, 4, 0, 2, 0, 0, 0, 0, false, false, false,
    false, false, false, 0, false, [], none⟩, by dsimp only [Chip.Takes]; decide +kernel⟩,
  ⟨linkWith 8 lkActive fun l =>
    { l with swap := some ⟨7, 0, 0, 4, 0, 6, 0, 0, 0, 0, false, false, false, false, false, false, 0, false, [], none⟩ },
    8, pkt 5 (natBytesBE 2 (7 * 256 + 7) ++ natBytesBE 6 0), ⟨7, 0, 0, 4, 0, 6, 0, 0, 0, 0, false, false, false,
    false, false, false, 0, false, [], none⟩, by decide +kernel⟩,
  ⟨linkIn 8 lkActive, 8, pkt 5 (natBytesBE 2 (8 * 256 + 7) ++ natBytesBE 6 0),
    by dsimp only [Chip.Takes]; decide +kernel⟩,
  ⟨mate 1, pkt 5 (natBytesBE 2 (1 * 256 + 7) ++ natBytesBE 6 0), by decide +kernel, by decide +kernel,
    by dsimp only [Chip.Takes]; decide +kernel, by decide +kernel, by decide +kernel, by decide +kernel, fun w h =>
    absurd (h.symm.trans (by decide +kernel : _ = none)) (by simp)⟩,
  ⟨(mate 1).modLink 8 fun l =>
    { l with lastSwap := some ⟨7, 0, 0, 4, 0, 7, 0, 0, 0, 0, false, false, false, false, false, false, 0, false, [], none⟩ },
    pkt 5 (natBytesBE 2 (1 * 256 + 7) ++ natBytesBE 6 0), ⟨7, 0, 0, 4, 0, 7, 0, 0, 0, 0, false, false, false, false,
    false, false, 0, false, [], none⟩, by dsimp only [Chip.Takes]; decide +kernel⟩,
  ⟨(mate 1).modLink 8 fun l =>
    { l with swap := some ⟨7, 0, 0, 4, 0, 5, 0, 0, 0, 0, false, false, false, false, false, false, 0, false, [], none⟩ },
    pkt 5 (natBytesBE 2 (4 * 256 + 7) ++ natBytesBE 6 0), ⟨7, 0, 0, 4, 0, 5, 0, 0, 0, 0, false, false, false, false,
    false, false, 0, false, [], none⟩, by dsimp only [Chip.Takes]; decide +kernel⟩⟩

/-- Each step of boot where it acts, with images that pass from flash and pushed. -/
theorem witness_BootRun :
    (∃ c : Chip, c.boot.hold = true ∧ c.boot.trip = false ∧ c.boot.testHi = false ∧ c.boot.aonLow = false ∧
      c.boot.pwrLow = false ∧ c.clk.expired = false)
    ∧ (∃ c : Chip, c.phase = 1 ∧ c.boot.hold = false ∧ c.f F.glbBootStatErr = 0)
    ∧ (∃ c : Chip, c.phase = 2 ∧ c.boot.hold = false ∧ c.f F.glbBootStatErr = 0 ∧ c.trimOk 0 = true)
    ∧ (∃ c : Chip, c.phase = 2 ∧ c.boot.hold = false ∧ c.f F.glbBootStatErr = 0 ∧ c.trimOk 0 = false ∧ c.trimOk 0x400
      = true)
    ∧ (∃ c : Chip, c.phase = 2 ∧ c.boot.hold = false ∧ c.f F.glbBootStatErr = 0 ∧ c.trimOk 0 = false ∧ c.trimOk 0x400
      = false)
    ∧ (∃ (c : Chip) (u d : Nat), u < 1024 ∧ d < 1024 ∧ c.phase = 3 ∧ c.boot.hold = false ∧ c.f F.glbBootStatErr = 0 ∧
      strapsBad u d = true)
    ∧ (∃ (c : Chip) (u d : Nat), u < 1024 ∧ d < 1024 ∧ c.phase = 3 ∧ c.boot.hold = false ∧ c.f F.glbBootStatErr = 0 ∧
      strapsBad u d = false)
    ∧ (∃ c : Chip, c.phase = 4 ∧ c.boot.hold = false ∧ c.f F.glbBootStatErr = 0 ∧ c.clk.refLost = false ∧ c.clkSt
      c.clkInUse = csGood ∧ getBits (c.rd R.glbStrap) 0 2 ≠ 3)
    ∧ (∃ c : Chip, c.boot.hold = false ∧ c.phase = 5 ∧ c.boot.verify = false ∧ c.pushMode = false ∧ c.f
      F.glbBootStatErr = 0 ∧ ∀ img ∈ [[], [0#8]], c.imgCheck img ≠ 0)
    ∧ (∃ (c : Chip) (x y : List Byte), c.boot.hold = false ∧ c.phase = 5 ∧ c.boot.verify = false ∧ c.pushMode = false
      ∧ c.f F.glbBootStatErr = 0 ∧ c.imgCheck x = 0 ∧ c.imgCheck y = 0)
    ∧ (∃ c : Chip, c.boot.hold = false ∧ c.phase = 5 ∧ c.boot.verify = true ∧ c.imgCheck (c.bytes sramBase 4194304) =
      0)
    ∧ (∃ c : Chip, c.boot.hold = false ∧ c.Allows .boot R.glbBootCmd (force F.glbBootCmdGo 1 0#32))
    ∧ (∃ c : Chip, c.boot.hold = false ∧ c.phase = 5 ∧ c.boot.verify = true)
    ∧ (∃ c : Chip, c.boot.hold = false ∧ c.phase = 6 ∧ c.f F.glbBootStatErr = 0 ∧ (regList c.boot.img).length = 1 ∧
      ((regList c.boot.img).foldl (fun c p => Chip.bootEntry [] p.1 c p.2) (regStart c)).f F.glbBootStatErr = 0)
    ∧ (∃ c : Chip, c.boot.hold = false ∧ c.phase = 6 ∧ c.f F.glbBootStatErr = 0 ∧ ∃ (k : Nat) (e : Nat × Word),
      regList c.boot.img = [] ++ (k, e) :: [] ∧ (regStart c).f F.glbBootStatErr = 0 ∧ (if memAddr e.1 then ((regStart
      c).ctrlMemWrite .boot e.1 (wordBytesLE e.2)).2 else ((regStart c).ctrlWrite .boot e.1 e.2).2) ≠ 0) :=
  ⟨⟨State.reset.chip, by decide +kernel⟩,
  ⟨bootAt 1, by decide +kernel⟩,
  ⟨trimsWith [(1023, trimCrc), (2047, 0#32)], by decide +kernel, by decide +kernel, by decide +kernel, by simp
    [trimsWith_ok]⟩,
  ⟨trimsWith [(1023, ~~~trimCrc), (2047, trimCrc)], by decide +kernel, by decide +kernel, by decide +kernel, by simp
    [trimsWith_ok, word_ne_not]⟩,
  ⟨trimsWith [(1023, ~~~trimCrc), (2047, ~~~trimCrc)], by decide +kernel, by decide +kernel, by decide +kernel, by
    simp [trimsWith_ok, word_ne_not]⟩,
  ⟨bootAt 3, 1023, 0, by decide +kernel⟩,
  ⟨bootAt 3, 1023, 1023, by decide +kernel⟩,
  ⟨(bootAt 4).sets [(F.clkStatSt 0, csGood), (F.glbStrapStraps, 2)], by decide +kernel⟩,
  ⟨(bootAt 5).sets [(F.glbStrapStraps, 0)], by decide +kernel, by decide +kernel, by decide +kernel,
    by decide +kernel, by decide +kernel, short_images _⟩,
  ⟨flashReady, testImage, testImage, by decide +kernel, by decide +kernel, by decide +kernel, by decide +kernel,
    by decide +kernel, testImage_alone _, testImage_alone _⟩,
  ⟨pushReady, by decide +kernel, by decide +kernel, by decide +kernel, pushReady_passes⟩,
  ⟨(bootAt 5).sets [(F.glbStrapStraps, 2)], by dsimp only [Chip.Allows]; decide +kernel⟩,
  ⟨{ bootAt 5 with boot := { (bootAt 5).boot with verify := true } }, by decide +kernel⟩,
  ⟨regBoot R.scpIntEn, by decide +kernel⟩,
  ⟨regBoot 0xFFFFC, by decide +kernel, by decide +kernel, by decide +kernel, 0, (0xFFFFC, 0#32), by decide +kernel,
    by decide +kernel, by decide +kernel⟩⟩

/-- A word of the option store that may be written, one that is read, pulses of the host's and of the device's own
with and without a spare sector, SEC_CMD, and an owner's signature that does not hold and one that does. -/
theorem witness_SecurityStore :
    (∃ c : Chip, c.Allows .boot R.optData 1#32)
    ∧ (∃ c : Chip, c.AllowsRead .boot R.optData ∧ (c.boot.optw.filter fun w => w.word == c.f F.optAddrWord) = [])
    ∧ (∃ c : Chip, c.boot.optw = [⟨0x4000, 1#32, 0#32, false⟩] ∧ c.boot.spares < 16)
    ∧ (∃ c : Chip, c.boot.optw = [⟨0x0C10, 1#32, 0#32, true⟩] ∧ 16 ≤ c.boot.spares)
    ∧ (∃ c : Chip, c.boot.att = some 0 ∧ c.domainRuns 1 = true ∧ c.attDurable 0 = true)
    ∧ (∃ c : Chip, c.boot.att = some 5 ∧ c.domainRuns 1 = true ∧ c.attDurable 5 = false)
    ∧ (∃ c : Chip, c.Allows .boot R.secCmd (force F.secCmdOp 1 0#32))
    ∧ (∃ c : Chip, c.Allows .boot R.secCmd (force F.secCmdOp 2 0#32))
    ∧ (∃ c : Chip, c.Allows .boot R.secCmd (force F.secCmdOp 3 0#32))
    ∧ (∃ c : Chip, c.Allows .boot R.secCmd (force F.secCmdOp 3 0#32) ∧ hssHeld c.ownerKey (c.secBuf 0 60 ++
      c.serialBytes) (c.secBuf 64 8128) = false)
    ∧ (∃ c : Chip, c.Allows .boot R.secCmd (force F.secCmdOp 3 0#32) ∧ hssHeld c.ownerKey (c.secBuf 0 60 ++
      c.serialBytes) (c.secBuf 64 8128) = true) :=
  ⟨⟨up.sets [(F.optAddrWord, 0x4000)], by dsimp only [Chip.Allows]; decide +kernel⟩,
  ⟨up.sets [(F.optAddrWord, 65535)], by dsimp only [Chip.Allows, Chip.AllowsRead]; decide +kernel⟩,
  ⟨{ up with boot := { up.boot with optw := [⟨0x4000, 1#32, 0#32, false⟩], spares := 15 } }, by decide +kernel⟩,
  ⟨{ up with boot := { up.boot with optw := [⟨0x0C10, 1#32, 0#32, true⟩], spares := 16 } }, by decide +kernel⟩,
  ⟨{ up with opt := sput optDefault up.opt optAttIdx 1#32, boot := { up.boot with att := some 0, optw := [] } },
    by decide +kernel⟩,
  ⟨{ up with opt := sput optDefault up.opt optAttIdx 1#32, boot :=
    { up.boot with att := some 5, optw := [⟨optAttIdx, 6#32, 5#32, true⟩] } }, by decide +kernel⟩,
  ⟨up, by dsimp only [Chip.Allows]; decide +kernel⟩,
  ⟨up, by dsimp only [Chip.Allows]; decide +kernel⟩,
  ⟨up, by dsimp only [Chip.Allows]; decide +kernel⟩,
  ⟨up, by dsimp only [Chip.Allows]; decide +kernel⟩,
  ⟨ownReady, by dsimp only [Chip.Allows]; decide +kernel, ownReady_holds⟩⟩

/-- The kick, the mates' reset request and its receipt with MATE_EN set and clear, and a trip with and without MGMT.
-/
theorem witness_Supervision :
    (∃ c : Chip, c.Allows .boot R.rstWdtKick 0xA5C3#32)
    ∧ (∃ c : Chip, c.Allows .boot R.rstMate (force F.rstMateReq 1 0#32) ∧ c.pairMode = true ∧ c.linkSt 8 = lkActive)
    ∧ (∃ (c : Chip) (pk : RxPkt), c.domainRuns 4 = true ∧ c.Hears 0x0D pk ∧ c.fb F.rstCfgMateEn = true)
    ∧ (∃ (c : Chip) (pk : RxPkt), c.domainRuns 4 = true ∧ c.Hears 0x0D pk ∧ c.fb F.rstCfgMateEn = false)
    ∧ (∃ c : Chip, c.boot.trip = false ∧ c.mgmtRuns = true)
    ∧ (∃ c : Chip, c.boot.trip = false ∧ c.mgmtRuns = false ∧ c.strapHold = false) :=
  ⟨⟨up, by dsimp only [Chip.Allows]; decide +kernel⟩,
  ⟨mate 0, by dsimp only [Chip.Allows]; decide +kernel⟩,
  ⟨(mate 1).sets [(F.rstCfgMateEn, 1)], pairMsg 0x0D (natBytesBE 8 0),
    by dsimp only [Chip.Takes, Chip.Hears]; decide +kernel⟩,
  ⟨(mate 1).sets [(F.rstCfgMateEn, 0)], pairMsg 0x0D (natBytesBE 8 0),
    by dsimp only [Chip.Takes, Chip.Hears]; decide +kernel⟩,
  ⟨up, by decide +kernel⟩,
  ⟨State.reset.chip, by decide +kernel⟩⟩

/-- An ECHO within a set and the last of a set; the kick, the requests of the mates and the trip with and without
MGMT. -/
theorem witness_Interventions :
    (∃ (c : Chip) (n : Nat) (block : List Byte) (rtt : Nat) (left : List (Nat × Nat)) (samples : List Int), n < 8 ∧ n
      < c.links.length ∧ c.domainRuns 4 = true ∧ c.pcsRuns n = true ∧ fieldBE block 0 1 = 0x4B ∧ blockOk block 6 =
      true ∧ c.latMeasuring n = true ∧ (c.link n).probes.any (fun p => p.1 == fieldBE block 1 1) = true ∧ left =
      (c.link n).probes.filter (fun p => p.1 != fieldBE block 1 1) ∧ samples = (c.link n).samples ++ [(rtt : Int) -
      (fieldBE block 2 4 : Int)] ∧ ¬((c.link n).sent = 16 ∧ left = []))
    ∧ (∃ (c : Chip) (n : Nat) (block : List Byte) (rtt : Nat) (left : List (Nat × Nat)) (samples : List Int) (hi lo :
      Int), n < 8 ∧ n < c.links.length ∧ c.domainRuns 4 = true ∧ c.pcsRuns n = true ∧ fieldBE block 0 1 = 0x4B ∧
      blockOk block 6 = true ∧ c.latMeasuring n = true ∧ (c.link n).probes.any (fun p => p.1 == fieldBE block 1 1) =
      true ∧ left = (c.link n).probes.filter (fun p => p.1 != fieldBE block 1 1) ∧ samples = (c.link n).samples ++
      [(rtt : Int) - (fieldBE block 2 4 : Int)] ∧ (c.link n).sent = 16 ∧ left = [] ∧ c.linkSt n = lkConfigure ∧ hi ∈
      samples ∧ lo ∈ samples ∧ (∀ x ∈ samples, lo ≤ x ∧ x ≤ hi) ∧ (samples.erase hi).erase lo ≠ [] ∧ (∀ x ∈
      (samples.erase hi).erase lo, ∀ y ∈ (samples.erase hi).erase lo, x - y ≤ 32))
    ∧ (∃ c : Chip, c.Allows .boot R.rstWdtKick 0xA5C3#32)
    ∧ (∃ c : Chip, c.Allows .boot R.rstMate (force F.rstMateReq 1 0#32) ∧ c.pairMode = true ∧ c.linkSt 8 = lkActive)
    ∧ (∃ (c : Chip) (pk : RxPkt), c.domainRuns 4 = true ∧ c.Hears 0x0D pk ∧ c.fb F.rstCfgMateEn = true)
    ∧ (∃ c : Chip, c.boot.trip = false ∧ c.mgmtRuns = true)
    ∧ (∃ c : Chip, c.boot.trip = false ∧ c.mgmtRuns = false ∧ c.strapHold = false) :=
  ⟨⟨(linkIn 7 lkActive).modLink 7 fun l => { l with latRun := true, sent := 3, probes := [(5, 9)] }, 7, mkBlock 0x4B
    true (natBytesBE 1 5 ++ natBytesBE 4 2), 97, [], [95], by decide +kernel⟩,
  ⟨(linkIn 0 lkConfigure).modLink 0 fun l =>
    { l with cfgStep := 3, latRun := true, sent := 16, probes := [(5, 9)], samples := [100, 90] }, 0, mkBlock 0x4B
    true (natBytesBE 1 5 ++ natBytesBE 4 2), 97, [], [100, 90, 95], 100, 90, by decide +kernel⟩,
  ⟨up, by dsimp only [Chip.Allows]; decide +kernel⟩,
  ⟨mate 0, by dsimp only [Chip.Allows]; decide +kernel⟩,
  ⟨(mate 1).sets [(F.rstCfgMateEn, 1)], pairMsg 0x0D (natBytesBE 8 0),
    by dsimp only [Chip.Takes, Chip.Hears]; decide +kernel⟩,
  ⟨up, by decide +kernel⟩,
  ⟨State.reset.chip, by decide +kernel⟩⟩

/-- A window of each kind, a stop, a wait and a loss of lock with and without a standby. -/
theorem witness_ClockMonitors :
    (∃ (c : Chip) (i n : Nat), i < 5 ∧ c.clkSt i = csGood ∧ clkPass i n = true ∧ (c.clkSrc i).stop = false)
    ∧ (∃ (c : Chip) (i n : Nat), i < 5 ∧ c.clkSt i = csReturning ∧ clkPass i n = true ∧ (c.clkSrc i).stop = false ∧
      (if (c.clkSrc i).failed then 7 else 1) ≤ (c.clkSrc i).pass)
    ∧ (∃ (c : Chip) (i j n : Nat), i < 5 ∧ j < 5 ∧ i ≠ j ∧ c.clkSt i = csGood ∧ c.clkSt j = csGood ∧ clkPass i n =
      false ∧ 1 ≤ (c.clkSrc i).fail)
    ∧ (∃ (c : Chip) (i : Nat), i < 5 ∧ c.clkSt i = csGood)
    ∧ (∃ (c : Chip) (i : Nat), i < 2 ∧ c.clkSt i = csStarting)
    ∧ (∃ (c : Chip) (i : Nat), c.clk.fbOff = true ∧ c.clkFallback = some i ∧ c.fb F.clkCfgFbEn = true ∧ c.clkSt i =
      csOff)
    ∧ (∃ (c : Chip) (p x : Nat), p < 5 ∧ c.clk.refLost = false ∧ c.clk.revert = false ∧ p = c.coreAct + 1 ∧ x < 2 ∧
      c.clk.standby = some x)
    ∧ (∃ c : Chip, c.clk.refLost = true)
    ∧ (∃ c : Chip, c.clkSt 4 = csGood ∧ c.fb F.orbCtrlF10m = true)
    ∧ (∃ (c : Chip) (p : Nat), p < 5 ∧ c.clk.refLost = false ∧ c.clk.revert = false ∧ p = c.coreAct + 1 ∧
      c.clk.standby = none)
    ∧ (∃ c : Chip, c.clk.barred.contains (1 - c.coreAct) = false) :=
  ⟨⟨up.sets [(F.clkStatSt 4, csGood)], 4, 1408, by decide +kernel⟩,
  ⟨clkWith [(F.clkStatSt 0, csReturning)] (fun k =>
    { k with srcs := k.srcs.set 0 ⟨7, 0, false, true, none, false⟩ }), 0, 2880, by decide +kernel⟩,
  ⟨clkWith [(F.clkStatSt 2, csGood), (F.clkStatSt 3, csGood)] (fun k =>
    { k with srcs := k.srcs.set 2 ⟨0, 1, false, false, none, false⟩ }), 2, 3, 17999, by decide +kernel⟩,
  ⟨up.sets [(F.clkStatSt 4, csGood)], 4, by decide +kernel⟩,
  ⟨up.sets [(F.clkStatSt 1, csStarting)], 1, by decide +kernel⟩,
  ⟨clkWith [(F.clkStrapClkmode, 0), (F.clkCfgFbEn, 1), (F.clkStatSt 1, csOff)] (fun k => { k with fbOff := true }),
    1, by decide +kernel⟩,
  ⟨up, 1, 1, by decide +kernel⟩,
  ⟨clkWith [] fun k => { k with refLost := true }, by decide +kernel⟩,
  ⟨up.sets [(F.clkStatSt 4, csGood), (F.orbCtrlF10m, 1)], by decide +kernel⟩,
  ⟨clkWith [] (fun k => { k with standby := none }), 1, by decide +kernel⟩,
  ⟨up, by decide +kernel⟩⟩

/-- A relock on a reference taken and on none, an expiry, REVERT and FORCE. -/
theorem witness_ClockChanges :
    (∃ (c : Chip) (i : Nat), c.mgmtRuns = true ∧ c.clk.expired = false ∧ (c.clk.refLost = true ∨ c.clk.revert = true)
      ∧ c.clk.target = some i ∧ (i = c.clkPrimary ∨ c.clkFallback = some i))
    ∧ (∃ c : Chip, c.mgmtRuns = true ∧ c.clk.expired = false ∧ c.clk.refLost = false ∧ c.clk.revert = false)
    ∧ (∃ c : Chip, c.clk.refLost = true ∧ c.clk.expired = false ∧ c.strapHold = false)
    ∧ (∃ (c : Chip) (k : Nat), k < 4 ∧ c.steady k = false)
    ∧ (∃ c : Chip, c.Allows .boot R.clkCmd (force F.clkCmdRevert 1 0#32))
    ∧ (∃ (c : Chip) (v : Word), c.Allows .boot R.clkCmd (force F.clkCmdForce 1 v)) :=
  ⟨⟨clkWith [(F.clkStrapClkmode, 0)] (fun k => { k with refLost := true, target := some 1 }), 1, by decide +kernel⟩,
  ⟨up, by decide +kernel⟩,
  ⟨clkWith [] (fun k => { k with refLost := true }), by decide +kernel⟩,
  ⟨up.modShp fun s => { s with clusters := s.clusters.modify 3 fun k => { k with fromStep := some 1 } }, 3,
    by decide +kernel⟩,
  ⟨up.sets [(F.clkStrapClkmode, 0), (F.clkStatRefAct, 1), (F.clkStatSt 0, csGood)],
    by dsimp only [Chip.Allows]; decide +kernel⟩,
  ⟨up.sets [(F.rstHoldCore, 1)], 0x20000000#32, by dsimp only [Chip.Allows]; decide +kernel⟩⟩

/-- A write to no register, one to a plain register and to one of a lane, a read of a register of RC fields, one that
nothing there answers, and one of the count that is free. -/
theorem witness_RegisterAccesses :
    (∃ (c : Chip) (a : Nat) (v : Word), ¬c.Allows .boot a v)
    ∧ (∃ (c : Chip) (a : Nat) (v : Word) (r : RegRow) (ix : List Nat), regAt a = some (r, ix) ∧ c.Allows .boot a v ∧
      plainReg a ∧ a ≠ R.scpSum)
    ∧ (∃ (c : Chip) (a : Nat) (v : Word), (regAt a).isSome = true ∧ c.Allows .boot a v ∧ plainReg a ∧ a ≠ R.scpSum)
    ∧ (∃ (c : Chip) (a : Nat) (r : RegRow) (ix : List Nat), regAt a = some (r, ix) ∧ c.AllowsRead .boot a ∧ plainRead
      a ∧ a ≠ R.scpSum)
    ∧ (∃ (c : Chip) (n : Nat), n < 6 ∧ c.AllowsRead .boot (R.mcRfmCnt n) ∧ c.f (F.mcStatState n) = mcReady)
    ∧ (∃ (c : Chip) (a : Nat), ¬c.AllowsRead .boot a) :=
  ⟨⟨up, 0xFFFFC, 0#32, by dsimp only [Chip.Allows]; decide +kernel⟩,
  (Option.isSome_iff_exists.1 (by decide +kernel : (regAt R.shpCtrl).isSome = true)).elim fun p h => ⟨up, R.shpCtrl,
    up.rd R.shpCtrl, p.1, p.2, h, by dsimp only [Chip.Allows]; decide +kernel,
    by dsimp only [plainReg]; decide +kernel, by decide +kernel⟩,
  ⟨up, R.lnTxeq 9 8, up.rd (R.lnTxeq 9 8), by dsimp only [Chip.Allows, plainReg]; decide +kernel⟩,
  (Option.isSome_iff_exists.1 (by decide +kernel : (regAt (R.frameErr 0)).isSome = true)).elim fun p h => ⟨up,
    R.frameErr 0, p.1, p.2, h, by dsimp only [Chip.AllowsRead]; decide +kernel,
    by dsimp only [plainRead]; decide +kernel, by decide +kernel⟩,
  ⟨up.sets [(F.mcStatState 5, mcReady)], 5, by dsimp only [Chip.Allows, Chip.AllowsRead]; decide +kernel⟩,
  ⟨up, 0xFFFFC, by dsimp only [Chip.Allows, Chip.AllowsRead]; decide +kernel⟩⟩

/-- A broken command, an unknown one, and each kind of READ, WRITE, WRITE_MASK and PING. -/
theorem witness_ScpCommands :
    (∃ (c : Chip) (m : ScpCmd), c.pathUp m = true ∧ m.broken = true)
    ∧ (∃ (c : Chip) (m : ScpCmd), c.Ready m ∧ opKnown m.op = false)
    ∧ (∃ (c : Chip) (m : ScpCmd), c.Ready m ∧ m.op = 0x01 ∧ m.len = 24 ∧ m.count = 4 ∧ plainRead m.addr ∧ m.addr ∉
      [R.scpSum, R.ulRxFrm] ∧ c.AllowsRead m.src m.addr ∧ (regAt m.addr).isSome = true)
    ∧ (∃ (c : Chip) (m : ScpCmd), c.Ready m ∧ m.op = 0x01 ∧ m.len = 24 ∧ m.count = 4 ∧ memAddr m.addr = false ∧
      m.addr < 2 ^ 40 ∧ c.domainRuns (domainOf m.addr) = false ∧ pickStatus (c.accessChecks m.src m.addr false) =
      0x04)
    ∧ (∃ (c : Chip) (m : ScpCmd), c.Ready m ∧ m.op = 0x01 ∧ m.len = 24 ∧ memAddr m.addr = true ∧ m.addr < 2 ^ 40 ∧
      c.ecc = [] ∧ pickStatus (c.windowChecks m.src m.addr m.count false) = 0)
    ∧ (∃ (c : Chip) (m : ScpCmd), c.Ready m ∧ m.op = 0x02 ∧ m.len = 28 ∧ m.count = 4 ∧ plainReg m.addr ∧ m.addr /
      0x1000 ≠ 8 ∧ m.addr ≠ R.ulRxFrm ∧ c.Allows m.src m.addr (BitVec.ofNat 32 (natOfLE m.data)) ∧ (regAt
      m.addr).isSome = true)
    ∧ (∃ (c : Chip) (m : ScpCmd), c.Ready m ∧ m.op = 0x02 ∧ m.count = m.len - 24 ∧ m.data.length = m.count ∧ memAddr
      m.addr = true ∧ m.addr < 2 ^ 40 ∧ c.ecc = [] ∧ pickStatus (c.windowChecks m.src m.addr m.count true) = 0)
    ∧ (∃ (c : Chip) (m : ScpCmd), c.Ready m ∧ m.op = 0x03 ∧ m.len = 32 ∧ m.count = 8 ∧ m.addr / 0x1000 ≠ 8 ∧ m.addr ≠
      R.ulRxFrm ∧ memAddr m.addr = false ∧ m.addr < 2 ^ 40 ∧ c.Allows m.src m.addr ((c.maskBase m.addr &&&
      ~~~BitVec.ofNat 32 (natOfLE ((m.data.drop 4).take 4))) ||| (BitVec.ofNat 32 (natOfLE (m.data.take 4)) &&&
      BitVec.ofNat 32 (natOfLE ((m.data.drop 4).take 4)))) ∧ c.pushMode = true)
    ∧ (∃ (c : Chip) (m : ScpCmd), c.Ready m ∧ m.op = 0x03 ∧ m.len = 32 ∧ m.count = 8 ∧ m.addr / 0x1000 ≠ 8 ∧ m.addr ≠
      R.ulRxFrm ∧ memAddr m.addr = false ∧ m.addr < 2 ^ 40 ∧ c.Allows m.src m.addr ((c.maskBase m.addr &&&
      ~~~BitVec.ofNat 32 (natOfLE ((m.data.drop 4).take 4))) ||| (BitVec.ofNat 32 (natOfLE (m.data.take 4)) &&&
      BitVec.ofNat 32 (natOfLE ((m.data.drop 4).take 4)))) ∧ c.pushMode = false ∧ plainReg m.addr ∧ (regAt
      m.addr).isSome = true)
    ∧ (∃ (c : Chip) (m : ScpCmd), c.Ready m ∧ m.op = 0x01 ∧ m.len = 24 ∧ memAddr m.addr = true ∧ m.addr < 2 ^ 40 ∧
      c.domainRuns (domainOf m.addr) = false ∧ pickStatus (c.windowChecks m.src m.addr m.count false) = 0x04)
    ∧ (∃ (c : Chip) (m : ScpCmd), c.pathUp m = true ∧ m.broken = false ∧ m.tooLong = false ∧ c.resetPending m.path =
      false ∧ c.scpKept m = none ∧ m.path = .spi ∧ c.scp.spi ≠ none ∧ m.op = 0x04 ∧ m.len = 24 ∧ m.addr = 0 ∧ m.count
      = 0 ∧ c.pushMode = false)
    ∧ (∃ (c : Chip) (m : ScpCmd), c.Ready m ∧ m.op = 0x04 ∧ m.len = 24 ∧ m.addr = 0 ∧ m.count = 0 ∧ c.pushMode =
      false) :=
  ⟨⟨up, { scpCmd 4 0 0 [] with bytes := [] }, by decide +kernel⟩,
  ⟨up, scpCmd 153 0 0 [], by dsimp only [Chip.Ready]; decide +kernel⟩,
  ⟨up, scpCmd 1 R.shpCtrl 4 [], by dsimp only [Chip.Allows, Chip.AllowsRead, Chip.Ready, plainRead]; decide +kernel⟩,
  ⟨up.sets [(F.rstHoldCore, 1)], scpCmd 1 R.shpCtrl 4 [], by dsimp only [Chip.Ready]; decide +kernel⟩,
  ⟨up, scpCmd 1 0x1000000 8 [], by dsimp only [Chip.Ready]; decide +kernel⟩,
  ⟨up, scpCmd 2 R.shpCtrl 4 (wordBytesLE (up.rd R.shpCtrl)),
    by dsimp only [Chip.Allows, Chip.Ready, plainReg]; decide +kernel⟩,
  ⟨up, scpCmd 2 0x1000000 4 [1#8, 2#8, 3#8, 4#8], by dsimp only [Chip.Ready]; decide +kernel⟩,
  ⟨(bootAt 5).sets [(F.glbStrapStraps, 2)], scpCmd 3 R.glbBootCmd 8 (natBytesBE 8 0),
    by dsimp only [Chip.Allows, Chip.Ready]; decide +kernel⟩,
  ⟨up, scpCmd 3 R.shpCtrl 8 (natBytesBE 8 0), by dsimp only [Chip.Allows, Chip.Ready, plainReg]; decide +kernel⟩,
  ⟨up.sets [(F.rstHoldCore, 1)], scpCmd 1 0x1000000 8 [], by dsimp only [Chip.Ready]; decide +kernel⟩,
  ⟨up.modScp fun s => { s with spi := some (scpCmd 4 0 0 []) },
    { scpCmd 4 0 0 [] with bytes := scpSeal (natBytesBE 1 0x10 ++ natBytesBE 1 4 ++ natBytesBE 2 24 ++ natBytesBE 4 8 ++ natBytesBE 12 0) },
    by decide +kernel⟩,
  ⟨up, scpCmd 4 0 0 [], by dsimp only [Chip.Ready]; decide +kernel⟩⟩

/-- SUBSCRIBE, AUTH that fails and one with a token that verifies, DEAUTH and RESET, and each end of a wait. -/
theorem witness_ScpSessions :
    (∃ (c : Chip) (m : ScpCmd), c.pushMode = false ∧ c.Ready m ∧ m.op = 0x05 ∧ m.len = 24 ∧ m.addr = 0 ∧ m.count = 0
      ∧ m.path = .ul)
    ∧ (∃ (c : Chip) (m : ScpCmd), c.pushMode = false ∧ c.Ready m ∧ m.op = 0x10 ∧ m.count = m.len - 24 ∧ m.addr = 0 ∧
      c.tokenOk m.data = false)
    ∧ (∃ (c : Chip) (m : ScpCmd), c.pushMode = false ∧ c.Ready m ∧ m.op = 0x10 ∧ m.count = m.len - 24 ∧ m.addr = 0 ∧
      c.tokenOk m.data = true)
    ∧ (∃ (c : Chip) (m : ScpCmd), c.pushMode = false ∧ c.Ready m ∧ m.op = 0x11 ∧ m.len = 24 ∧ m.addr = 0 ∧ m.count =
      0)
    ∧ (∃ (c : Chip) (m : ScpCmd), c.pushMode = false ∧ c.Ready m ∧ m.op = 0x20 ∧ m.len = 24 ∧ m.count = 0 ∧ m.addr <
      256 ∧ c.holdsScope m.path m.key 3 = true ∧ c.resetChecks m.addr = [])
    ∧ (∃ c : Chip, c.domainRuns 1 = true)
    ∧ (∃ (c : Chip) (p : Path) (tag : Nat) (r : Replay), c.domainRuns 1 = true ∧ c.scp.kept.find? (fun x => x.path ==
      p && x.tag == tag) = some r)
    ∧ (∃ (c : Chip) (p : Path), c.domainRuns 1 = true ∧ c.scp.resets = [(p, 0x00, true)])
    ∧ (∃ (c : Chip) (p : Path), c.domainRuns 1 = true ∧ c.scp.resets = [(p, 0x01, true)])
    ∧ (∃ (c : Chip) (p : Path), c.domainRuns 1 = true ∧ c.scp.resets = [(p, 0x20, true)]) :=
  ⟨⟨ulUpChip, scpCmdUl 5 0 0 [], by dsimp only [Chip.Ready]; decide +kernel⟩,
  ⟨up, scpCmd 0x10 0 0 [], by dsimp only [Chip.Ready]; decide +kernel⟩,
  ⟨authChip, authCmd, by decide +kernel, authCmd_ready, by decide +kernel, by decide +kernel, by decide +kernel,
    authCmd_passes⟩,
  ⟨up, scpCmd 0x11 0 0 [], by dsimp only [Chip.Ready]; decide +kernel⟩,
  ⟨up.modScp fun s => { s with spiSess := some ⟨8, none, []⟩ }, scpCmd 0x20 1 0 [],
    by dsimp only [Chip.Ready]; decide +kernel⟩,
  ⟨up, by decide +kernel⟩,
  ⟨up.modScp fun s => { s with kept := [⟨.ul, [], 7, 0, []⟩] }, .ul, 7, ⟨.ul, [], 7, 0, []⟩, by decide +kernel⟩,
  ⟨up.modScp fun s => { s with resets := [(.ul, 0x00, true)] }, .ul, by decide +kernel⟩,
  ⟨up.modScp fun s => { s with resets := [(.spi, 0x01, true)] }, .spi, by decide +kernel⟩,
  ⟨up.modScp fun s => { s with resets := [(.ul, 0x20, true)] }, .ul, by decide +kernel⟩⟩

/-- A due packet and its repetition, and the ends of responses. -/
theorem witness_ScpEvents :
    (∃ c : Chip, c.domainRuns 1 = true ∧ c.eventsOn = true ∧ c.holdoffOver = true ∧ c.scp.rose = true)
    ∧ (∃ c : Chip, c.domainRuns 1 = true ∧ c.eventsOn = true ∧ c.holdoffOver = true ∧ c.enabledSum ≠ 0 ∧ c.f
      F.scpEvtCfgRepeatMs ≠ 0)
    ∧ (∃ (c : Chip) (m : ScpCmd), c.domainRuns 1 = true ∧ c.scp.spi = some m)
    ∧ (∃ (c : Chip) (m : ScpCmd) (bs : List Byte), c.domainRuns 1 = true ∧ c.scp.ulq = [m] ∧ c.scp.ulResp = some bs ∧
      m.path = .ul ∧ c.ulIsUp = true)
    ∧ (∃ (c : Chip) (m : ScpCmd), c.domainRuns 1 = true ∧ c.scp.ulq = [m] ∧ c.scp.ulResp = none)
    ∧ (∃ (c : Chip) (m k : ScpCmd) (rest : List ScpCmd), c.domainRuns 1 = true ∧ c.scp.ulq = m :: k :: rest ∧
      c.scp.resets = [] ∧ k.path = .ul ∧ k.op = 0x04 ∧ k.len = 24 ∧ k.addr = 0 ∧ k.count = 0 ∧ c.pushMode = false ∧
      c.ulIsUp = true) :=
  ⟨⟨subChip, by decide +kernel⟩,
  ⟨subChip, by decide +kernel⟩,
  ⟨up.modScp fun s => { s with spi := some (scpCmd 4 0 0 []) }, scpCmd 4 0 0 [], by decide +kernel⟩,
  ⟨ulUpChip.modScp fun s => { s with ulq := [scpCmdUl 4 0 0 []], ulResp := some [1#8] }, scpCmdUl 4 0 0 [], [1#8],
    by decide +kernel⟩,
  ⟨ulUpChip.modScp fun s => { s with ulq := [scpCmdUl 4 0 0 []] }, scpCmdUl 4 0 0 [], by decide +kernel⟩,
  ⟨ulUpChip.modScp fun s => { s with ulq := [scpCmdUl 1 0 4 [], scpCmdUl 4 0 0 []] }, scpCmdUl 1 0 4 [], scpCmdUl 4 0
    0 [], [], by decide +kernel⟩⟩

/-- A segment of no line, of a closed one, of a covered stretch, within a line and the last of it; a deadline, a TRIG
not sent, and a closed line that waits and one that does not. -/
theorem witness_FrontEnd :
    (∃ (c : Chip) (n : Nat) (bytes : List Byte) (rest : List (List Byte)), n < 8 ∧ n < c.fes.length ∧ c.domainRuns 3
      = true ∧ (c.fe n).fifo = bytes :: rest ∧ ((c.fe n).exp.findIdx? fun l => l.trig == fieldBE bytes 12 4) = none ∧
      (∀ u ∈ (c.fe n).lastClosed, 0 < sdiff32 (fieldBE bytes 12 4) u))
    ∧ (∃ (c : Chip) (n u : Nat) (bytes : List Byte) (rest : List (List Byte)), n < 8 ∧ n < c.fes.length ∧
      c.domainRuns 3 = true ∧ (c.fe n).fifo = bytes :: rest ∧ ((c.fe n).exp.findIdx? fun l => l.trig == fieldBE bytes
      12 4) = none ∧ (c.fe n).lastClosed = some u ∧ sdiff32 (fieldBE bytes 12 4) u ≤ 0)
    ∧ (∃ (c : Chip) (n : Nat) (bytes : List Byte) (rest : List (List Byte)) (l : ExpLine) (ls : List ExpLine), n < 8
      ∧ n < c.fes.length ∧ c.domainRuns 3 = true ∧ (c.fe n).fifo = bytes :: rest ∧ (c.fe n).exp = l :: ls ∧ l.trig =
      fieldBE bytes 12 4 ∧ (∀ u ∈ (c.fe n).lastClosed, 0 < sdiff32 (fieldBE bytes 12 4) u) ∧ (l.segs.any fun g =>
      g.overlaps (segOf bytes)) = true)
    ∧ (∃ (c : Chip) (n : Nat) (bytes : List Byte) (rest : List (List Byte)) (l : ExpLine) (ls : List ExpLine), n < 8
      ∧ n < c.fes.length ∧ c.domainRuns 3 = true ∧ (c.fe n).fifo = bytes :: rest ∧ (c.fe n).exp = l :: ls ∧ l.trig =
      fieldBE bytes 12 4 ∧ (∀ u ∈ (c.fe n).lastClosed, 0 < sdiff32 (fieldBE bytes 12 4) u) ∧ (l.segs.any fun g =>
      g.overlaps (segOf bytes)) = false ∧ l.covered + (segOf bytes).px.length ≠ c.lineNpix n l.bank)
    ∧ (∃ (c : Chip) (n : Nat) (bytes : List Byte) (rest : List (List Byte)) (l : ExpLine) (ls : List ExpLine), n < 8
      ∧ n < c.fes.length ∧ c.domainRuns 3 = true ∧ (c.fe n).fifo = bytes :: rest ∧ (c.fe n).exp = l :: ls ∧ l.trig =
      fieldBE bytes 12 4 ∧ (∀ u ∈ (c.fe n).lastClosed, 0 < sdiff32 (fieldBE bytes 12 4) u) ∧ (l.segs.any fun g =>
      g.overlaps (segOf bytes)) = false ∧ l.covered + (segOf bytes).px.length = c.lineNpix n l.bank ∧ 0 < l.covered +
      (segOf bytes).px.length)
    ∧ (∃ (c : Chip) (n : Nat) (l : ExpLine) (ls : List ExpLine), n < 8 ∧ n < c.fes.length ∧ c.domainRuns 3 = true ∧
      (c.fe n).exp = l :: ls ∧ l.segs = [] ∧ c.lineExpired n l = true ∧ (∀ k ∈ ls, c.lineExpired n k = false))
    ∧ (∃ (c : Chip) (n : Nat) (l : ExpLine) (ls : List ExpLine), n < 8 ∧ n < c.fes.length ∧ c.domainRuns 3 = true ∧
      (c.fe n).exp = l :: ls ∧ l.segs = [] ∧ l.notSent = true)
    ∧ (∃ (c : Chip) (n : Nat) (l : ClosedLine) (rest : List ClosedLine), n < 8 ∧ n < c.fes.length ∧ c.domainRuns 3 =
      true ∧ (c.fe n).closed = l :: rest ∧ (c.fe n).waits l = true)
    ∧ (∃ (c : Chip) (n : Nat) (l : ClosedLine) (rest : List ClosedLine), n < 8 ∧ n < c.fes.length ∧ c.domainRuns 3 =
      true ∧ (c.fe n).closed = l :: rest ∧ (c.fe n).waits l = false) :=
  ⟨⟨feWith 7 [(F.feJcfgNpix 0 7, 1)] (fun s => { s with fifo := [segBytes 5], exp := [], lastClosed := some 4 }), 7,
    segBytes 5, [], by decide +kernel⟩,
  ⟨feWith 0 [(F.feJcfgNpix 0 0, 1)] (fun s => { s with fifo := [segBytes 5], exp := [], lastClosed := some 5 }), 0,
    5, segBytes 5, [], by decide +kernel⟩,
  ⟨feWith 0 [(F.feJcfgNpix 0 0, 2)] (fun s =>
    { s with fifo := [segBytes 5], exp := [⟨5, 0, 0, false, [⟨0, 0, [[0]]⟩]⟩], lastClosed := none }), 0, segBytes 5,
    [], ⟨5, 0, 0, false, [⟨0, 0, [[0]]⟩]⟩, [], by decide +kernel⟩,
  ⟨feWith 0 [(F.feJcfgNpix 0 0, 2)] (fun s =>
    { s with fifo := [segBytes 5], exp := [⟨5, 0, 0, false, []⟩], lastClosed := none }), 0, segBytes 5, [], ⟨5, 0, 0,
    false, []⟩, [], by decide +kernel⟩,
  ⟨feWith 7 [(F.feJcfgNpix 0 7, 1)] (fun s =>
    { s with fifo := [segBytes 5], exp := [⟨5, 0, 0, false, []⟩], lastClosed := some 4 }), 7, segBytes 5, [], ⟨5, 0,
    0, false, []⟩, [], by decide +kernel⟩,
  ⟨feWith 0 [(F.feBinTmoLineTmo 0 0, 0)] (fun s => { s with exp := [⟨5, 0, 0, false, []⟩] }), 0, ⟨5, 0, 0, false,
    []⟩, [], by decide +kernel⟩,
  ⟨feWith 7 [] (fun s => { s with exp := [⟨5, 0, 0, true, []⟩] }), 7, ⟨5, 0, 0, true, []⟩, [], by decide +kernel⟩,
  ⟨feWith 0 [] (fun s =>
    { s with exp := [⟨4, 0, 0, false, []⟩], closed := [⟨⟨5, 0, 0, false, []⟩, true, false, 0⟩] }), 0, ⟨⟨5, 0, 0,
    false, []⟩, true, false, 0⟩, [], by decide +kernel⟩,
  ⟨feWith 7 [] (fun s => { s with closed := [⟨⟨5, 0, 0, false, []⟩, true, false, 0⟩] }), 7, ⟨⟨5, 0, 0, false, []⟩,
    true, false, 0⟩, [], by decide +kernel⟩⟩

/-- A port whose table may be written, read and checked, and one whose check runs. -/
theorem witness_CorrectionTable :
    (∃ (c : Chip) (n : Nat), n < 8 ∧ n < c.fes.length ∧ c.domainRuns 3 = true)
    ∧ (∃ (c : Chip) (n : Nat), n < 8 ∧ n < c.fes.length ∧ c.Allows .boot (R.feTblData n) 1#32)
    ∧ (∃ (c : Chip) (n : Nat), n < 8 ∧ n < c.fes.length ∧ c.AllowsRead .boot (R.feTblData n))
    ∧ (∃ (c : Chip) (n : Nat), n < 8 ∧ n < c.fes.length ∧ c.Allows .boot (R.feTblChk n) (force (F.feTblChkGo n) 1
      0#32))
    ∧ (∃ (c : Chip) (n d : Nat), n < 8 ∧ n < c.fes.length ∧ c.domainRuns 3 = true ∧ (c.fe n).chk = some d) :=
  ⟨⟨up, 7, by decide +kernel⟩,
  ⟨feWith 0 [(F.feTblAddrBank 0, 1)] (fun s => { s with initBusy := false }), 0,
    by dsimp only [Chip.Allows]; decide +kernel⟩,
  ⟨feWith 7 [] (fun s => { s with initBusy := false }), 7,
    by dsimp only [Chip.Allows, Chip.AllowsRead]; decide +kernel⟩,
  ⟨feWith 0 [] (fun s => { s with initBusy := false }), 0, by dsimp only [Chip.Allows]; decide +kernel⟩,
  ⟨feWith 7 [] (fun s => { s with chk := some 1 }), 7, 1, by decide +kernel⟩⟩

/-- A web line, one within its band and the sixteenth of it, with the inspection engines empty and with a band in
them. -/
theorem witness_WebLines :
    (∃ (c : Chip) (w : WebTrig) (brings : List (Nat × (StcLine ⊕ Nat))), c.domainRuns 3 = true ∧ c.nextWebLine = some
      (w, brings))
    ∧ (∃ (c : Chip) (w : WebTrig) (brings : List (Nat × (StcLine ⊕ Nat))), c.domainRuns 3 = true ∧ c.nextWebLine =
      some (w, brings) ∧ w.mark = false ∧ c.stc.lostAt = none ∧ w.norep = c.stc.norep ∧ w.bank = c.stc.bank ∧
      c.stc.rows ≠ [] ∧ c.stc.cutAt ≠ some w.trig ∧ c.stc.rows.length < 15)
    ∧ (∃ (c : Chip) (w : WebTrig) (brings : List (Nat × (StcLine ⊕ Nat))), c.domainRuns 3 = true ∧ c.nextWebLine =
      some (w, brings) ∧ w.mark = false ∧ c.stc.lostAt = none ∧ w.norep = c.stc.norep ∧ w.bank = c.stc.bank ∧
      c.stc.rows ≠ [] ∧ c.stc.cutAt ≠ some w.trig ∧ c.stc.rows.length = 15)
    ∧ (∃ (c : Chip) (w : WebTrig) (brings : List (Nat × (StcLine ⊕ Nat))), c.domainRuns 3 = true ∧ c.nextWebLine =
      some (w, brings) ∧ w.mark = false ∧ c.stc.lostAt = none ∧ w.norep = c.stc.norep ∧ w.bank = c.stc.bank ∧
      c.stc.rows ≠ [] ∧ c.stc.cutAt ≠ some w.trig ∧ c.stc.rows.length = 15 ∧ c.ie.bands ≠ []) :=
  ⟨⟨webWith 0, ⟨9, 0, false, true, 0, []⟩, [], by decide +kernel⟩,
  ⟨webWith 14, ⟨9, 0, false, true, 0, []⟩, [], by decide +kernel⟩,
  ⟨webWith 15, ⟨9, 0, false, true, 0, []⟩, [], by decide +kernel⟩,
  ⟨(let c := webWith 15; { c with ie := { c.ie with bands := [fbandOf 1 [slice .running]] } }), ⟨9, 0, false, true,
    0, []⟩, [], by decide +kernel⟩⟩

/-- A band to load without one before it and behind one that still needs the ring, a slice, a merge, colour and
product pieces. -/
theorem witness_BandStages :
    (∃ (c : Chip) (fb : FBand), c.domainRuns 3 = true ∧ (c.ie.bands.find? fun x => x.compared && !x.loaded &&
      !x.joinWait && x.slices.any fun y => y.st == .waiting) = some fb ∧ c.fband ((fb.band.bseq + 2 ^ 32 - 1) % 2 ^
      32) = none)
    ∧ (∃ (c : Chip) (fb prev : FBand), c.domainRuns 3 = true ∧ (c.ie.bands.find? fun x => x.compared && !x.loaded &&
      !x.joinWait && x.slices.any fun y => y.st == .waiting) = some fb ∧ c.fband ((fb.band.bseq + 2 ^ 32 - 1) % 2 ^
      32) = some prev ∧ prev.rep = fb.rep ∧ prev.loaded = true ∧ 8 < (c.flip []).bandCentre fb.band.bank
      fb.band.width fb.band.ty - prev.pc ∧ fb.waited = false ∧ (prev.slices.any fun y => y.st == .waiting || y.st ==
      .running) = true)
    ∧ (∃ (c : Chip) (e : Nat) (w : WorkItem) (fb : FBand), c.domainRuns 3 = true ∧ e < 68 ∧ c.running? e = some w ∧
      c.fband w.bseq = some fb ∧ w.fold = 0 ∧ w.strip < fb.slices.length)
    ∧ (∃ (c : Chip) (fb : FBand), c.domainRuns 3 = true ∧ c.ie.bands = [fb] ∧ fb.merged = false ∧ fb.dig = none ∧
      fb.emitted = false ∧ fb.colour = 0 ∧ c.pair.joinDseq = false ∧ (∀ y ∈ fb.slices, y.st = .done))
    ∧ (∃ (c : Chip) (e : Nat) (w : WorkItem) (fb : FBand), c.domainRuns 3 = true ∧ c.ie.bands = [fb] ∧ fb.merged =
      false ∧ fb.dig = none ∧ fb.emitted = false ∧ fb.colour = 0 ∧ e < 68 ∧ c.running? e = some w ∧ w.fold = 1 ∧
      w.bseq = fb.band.bseq ∧ fb.pieces.length + 1 = fb.slices.length)
    ∧ (∃ (c : Chip) (e : Nat) (w : WorkItem) (fb : FBand), c.domainRuns 3 = true ∧ c.ie.bands = [fb] ∧ fb.merged =
      false ∧ fb.dig = none ∧ fb.emitted = false ∧ fb.colour = 0 ∧ e < 68 ∧ c.running? e = some w ∧ w.fold = 1 ∧
      w.bseq = fb.band.bseq ∧ ¬fb.pieces.length + 1 = fb.slices.length)
    ∧ (∃ (c : Chip) (e : Nat) (w : WorkItem) (fb : FBand), c.domainRuns 3 = true ∧ e < 68 ∧ c.running? e = some w ∧
      c.fband w.bseq = some fb ∧ w.fold = 2 ∧ w.kind = 0)
    ∧ (∃ (c : Chip) (e : Nat) (w : WorkItem) (fb : FBand), c.domainRuns 3 = true ∧ e < 68 ∧ c.running? e = some w ∧
      c.fband w.bseq = some fb ∧ w.fold = 2 ∧ w.kind = 1)
    ∧ (∃ (c : Chip) (e : Nat) (w : WorkItem) (fb : FBand), c.domainRuns 3 = true ∧ e < 68 ∧ c.running? e = some w ∧
      c.fband w.bseq = some fb ∧ w.fold = 2 ∧ w.kind = 2 ∧ c.ecc = []) :=
  ⟨⟨flock [fbandOf 1 [slice .waiting]] [], fbandOf 1 [slice .waiting], by decide +kernel⟩,
  ⟨flock [{ fbandOf 0 [slice .running] with loaded := true, pc := -100 }, fbandOf 1 [slice .waiting]] [], fbandOf 1
    [slice .waiting], { fbandOf 0 [slice .running] with loaded := true, pc := -100 }, by decide +kernel⟩,
  ⟨flock [fbandOf 1 [slice .running]] [(67, item 0 1 0)], 67, item 0 1 0, fbandOf 1 [slice .running],
    by decide +kernel⟩,
  ⟨flock [fbandOf 1 [slice .done]] [], fbandOf 1 [slice .done], by decide +kernel⟩,
  ⟨flock [fbandOf 1 [slice .done]] [(0, item 1 1 0)], 0, item 1 1 0, fbandOf 1 [slice .done], by decide +kernel⟩,
  ⟨flock [fbandOf 1 [slice .done, slice .done]] [(0, item 1 1 0)], 0, item 1 1 0, fbandOf 1 [slice .done, slice
    .done], by decide +kernel⟩,
  ⟨flock [fbandOf 1 [slice .done]] [(5, item 2 1 0)], 5, item 2 1 0, fbandOf 1 [slice .done], by decide +kernel⟩,
  ⟨flock [fbandOf 1 [slice .done]] [(5, item 2 1 1)], 5, item 2 1 1, fbandOf 1 [slice .done], by decide +kernel⟩,
  ⟨flock [fbandOf 1 [slice .done]] [(5, item 2 1 2)], 5, item 2 1 2, fbandOf 1 [slice .done], by decide +kernel⟩⟩

/-- A unit with and without room, a frame, the messages of the mate, and the ends of the waits. -/
theorem witness_StreamOutput :
    (∃ (c : Chip) (k : Nat) (u : SspUnit), c.domainRuns 3 = true ∧ 1 < k ∧ k < 6 ∧ (c.ssp.units.find? fun x =>
      x.stream == k) = some u ∧ c.ssp.oweSync.contains k = false ∧ c.pair.joinDseq = false ∧ u.held = false ∧
      c.ssp.waitSync.contains k = false ∧ c.sspRoom k (u.pkts.map fun p => p.data.length).sum = true)
    ∧ (∃ (c : Chip) (k : Nat) (u : SspUnit), c.domainRuns 3 = true ∧ 1 < k ∧ k < 6 ∧ (c.ssp.units.find? fun x =>
      x.stream == k) = some u ∧ c.ssp.oweSync.contains k = false ∧ c.pair.joinDseq = false ∧ u.held = false ∧
      c.ssp.waitSync.contains k = false ∧ c.sspRoom k (u.pkts.map fun p => p.data.length).sum = false ∧ 0 <
      u.pkts.length)
    ∧ (∃ (c : Chip) (p : SspPkt), c.domainRuns 3 = true ∧ c.scpFirst = false ∧ c.ulIsUp = true ∧ c.fb
      F.fcStatWithdrawn = false ∧ ([3, 5, 4, 2, 1, 0].filterMap fun k => c.ssp.ready.find? fun x => x.stream ==
      k).find? c.pktReady = some p ∧ c.paceOk (c.sspFrame p) = true)
    ∧ (∃ (c : Chip) (pk : RxPkt), c.domainRuns 4 = true ∧ c.Hears 0x08 pk)
    ∧ (∃ (c : Chip) (k : Nat) (u : SspUnit), c.domainRuns 3 = true ∧ 1 < k ∧ k < 6 ∧ (c.ssp.units.find? fun x =>
      x.stream == k) = some u ∧ c.ssp.oweSync.contains k = false ∧ c.pair.joinDseq = false ∧ u.held = false ∧
      c.ssp.waitSync = [k] ∧ u.bank = c.actBank ∧ c.sspRoom k (u.pkts.map fun p => p.data.length).sum = true ∧
      (c.ssp.pseqMsgs.filter fun p => p.1 == u.first).getLast? = none)
    ∧ (∃ (c : Chip) (k : Nat) (u : SspUnit) (m : Nat) (vals : List Nat), c.domainRuns 3 = true ∧ 1 < k ∧ k < 6 ∧
      (c.ssp.units.find? fun x => x.stream == k) = some u ∧ c.ssp.oweSync.contains k = false ∧ c.pair.joinDseq =
      false ∧ u.held = false ∧ c.ssp.waitSync = [k] ∧ u.bank = c.actBank ∧ c.sspRoom k (u.pkts.map fun p =>
      p.data.length).sum = true ∧ (c.ssp.pseqMsgs.filter fun p => p.1 == u.first).getLast? = some (m, vals) ∧
      vals.getD k 0 < 2 ^ 32 ∧ vals.getD k 0 ≠ c.f (F.sspPseqPseq k))
    ∧ (∃ (c : Chip) (u : SspUnit), c.domainRuns 3 = true ∧ (c.ssp.units.find? fun x => x.bank == c.actBank &&
      c.ssp.waitSync.contains x.stream) = some u)
    ∧ (∃ (c : Chip) (pk : RxPkt), c.domainRuns 4 = true ∧ c.Hears 0x09 pk ∧ fieldBE pk.bytes 12 1 = 1)
    ∧ (∃ (c : Chip) (pk : RxPkt), c.domainRuns 4 = true ∧ c.Hears 0x09 pk ∧ fieldBE pk.bytes 12 1 ≠ 1)
    ∧ (∃ (c : Chip) (q : SspPkt), c.domainRuns 3 = true ∧ (c.ssp.ready.find? fun p => p.hold.isSome) = some q) :=
  ⟨⟨sspWith [] (fun s => { s with units := [unitOf 5 9], waitSync := [] }), 5, unitOf 5 9, by decide +kernel⟩,
  ⟨sspWith [] (fun s => { s with units := [bigUnit] }), 2, bigUnit, by decide +kernel,
    by decide, by decide, rfl, by decide +kernel, by decide +kernel, by decide, by decide +kernel, bigUnit_room, by
    decide⟩,
  ⟨sspWith [] (fun s => { s with ready := [⟨0, 0, [1#8], false, none⟩, ⟨3, 0, [2#8], false, none⟩] }), ⟨3, 0, [2#8],
    false, none⟩, by decide +kernel⟩,
  ⟨mate 0, pairMsg 8 (natBytesBE 28 0), by dsimp only [Chip.Takes, Chip.Hears]; decide +kernel⟩,
  ⟨sspWith [] (fun s => { s with units := [unitOf 2 9], waitSync := [2] }), 2, unitOf 2 9, by decide +kernel⟩,
  ⟨sspWith [] (fun s =>
    { s with units := [unitOf 4 9], waitSync := [4], pseqMsgs := [(9, [0, 0, 0, 0, 60, 0]), (9, [0, 0, 0, 0, 70, 0])] }),
    4, unitOf 4 9, 9, [0, 0, 0, 0, 70, 0], by decide +kernel⟩,
  ⟨sspWith [] (fun s => { s with units := [unitOf 2 8, unitOf 3 9], waitSync := [3] }), unitOf 3 9,
    by decide +kernel⟩,
  ⟨mate 0, pairMsg 9 (natBytesBE 4 9 ++ natBytesBE 4 0x1000000),
    by dsimp only [Chip.Takes, Chip.Hears]; decide +kernel⟩,
  ⟨mate 0, pairMsg 9 (natBytesBE 4 9 ++ natBytesBE 4 0), by dsimp only [Chip.Takes, Chip.Hears]; decide +kernel⟩,
  ⟨sspWith [] (fun s => { s with ready := [⟨3, 0, [1#8], false, some 9⟩] }), ⟨3, 0, [1#8], false, some 9⟩,
    by decide +kernel⟩⟩

/-- A device that may load, verify and finish each, and one with a write that lands while a repair waits. -/
theorem witness_JobStaging :
    (∃ c : Chip, c.Allows .boot R.jobCmd (force F.jobCmdOp 1 0#32) ∧ ((profileSects c.boot.img (getBits (0#32) 0
      5)).filter Sect.resident = []))
    ∧ (∃ c : Chip, c.domainRuns 3 = true ∧ c.sst = sstLoading)
    ∧ (∃ c : Chip, c.Allows .boot R.jobCmd (force F.jobCmdOp 2 0#32))
    ∧ (∃ c : Chip, c.Allows .boot R.jobCmd (force F.jobCmdOp 3 0#32))
    ∧ (∃ c : Chip, c.domainRuns 3 = true ∧ c.fb F.jobVstatBusy = true ∧ c.fb F.jobVstatTgt = false)
    ∧ (∃ c : Chip, c.domainRuns 3 = true ∧ c.fb F.jobVstatBusy = true ∧ c.fb F.jobVstatTgt = true)
    ∧ (∃ (c : Chip) (n : Nat) (chans : List Nat) (by_ : Option Nat) (rest : List Landing), c.domainRuns 3 = true ∧
      c.job.pend = ⟨true, true, chans, by_⟩ :: rest ∧ n < 6 ∧ (c.mc n).pprWait ≠ 0 ∧ (∀ p ∈ rest, p.chans.contains n
      = false) ∧ n < c.mcs.length) :=
  ⟨⟨jobUp, by dsimp only [Chip.Allows]; decide +kernel⟩,
  ⟨jobUp.sets [(F.jobStatSst, sstLoading)], by decide +kernel⟩,
  ⟨jobUp, by dsimp only [Chip.Allows]; decide +kernel⟩,
  ⟨jobUp, by dsimp only [Chip.Allows]; decide +kernel⟩,
  ⟨jobUp.sets [(F.jobVstatBusy, 1), (F.jobVstatTgt, 0)], by decide +kernel⟩,
  ⟨jobUp.sets [(F.jobVstatBusy, 1), (F.jobVstatTgt, 1)], by decide +kernel⟩,
  ⟨(jobWith [] fun j => { j with pend := [⟨true, true, [5], none⟩, ⟨false, true, [0], some 3⟩] }).modMc 5 fun m =>
    { m with pprWait := 1 }, 5, [5], none, [⟨false, true, [0], some 3⟩], by decide +kernel⟩⟩

/-- A device that fails each step of arming, one armed for a stop, one that starts, mates without and with a partner
that is present and with its digest, a mark that commits and one that stops, and a device in ARMED. -/
theorem witness_JobArming :
    (∃ c : Chip, c.Allows .boot R.jobCmd (force F.jobCmdOp 4 0#32) ∧ c.besideServer = false ∧ c.armStep1 ≠ 0)
    ∧ (∃ c : Chip, c.Allows .boot R.jobCmd (force F.jobCmdOp 4 0#32) ∧ c.besideServer = false ∧ c.armStep1 = 0 ∧ c.fb
      F.jobArmStop = false ∧ c.armStep2 = false)
    ∧ (∃ c : Chip, c.Allows .boot R.jobCmd (force F.jobCmdOp 4 0#32) ∧ c.besideServer = false ∧ c.armStep1 = 0 ∧ c.fb
      F.jobArmStop = false ∧ c.armStep2 = true ∧ c.armStep3 = false)
    ∧ (∃ c : Chip, c.Allows .boot R.jobCmd (force F.jobCmdOp 4 0#32) ∧ c.besideServer = false ∧ c.armStep1 = 0 ∧ c.fb
      F.jobArmStop = false ∧ c.armStep2 = true ∧ c.armStep3 = true ∧ c.armStep4 = false)
    ∧ (∃ c : Chip, c.Allows .boot R.jobCmd (force F.jobCmdOp 4 0#32) ∧ c.besideServer = false ∧ c.armStep1 = 0 ∧
      c.pairMode = false ∧ c.fb F.jobArmStop = true ∧ c.f F.jobArmTarget ≠ 2)
    ∧ (∃ c : Chip, c.Allows .boot R.jobCmd (force F.jobCmdOp 4 0#32) ∧ c.besideServer = false ∧ c.armStep1 = 0 ∧
      c.pairMode = false ∧ (c.armStep2 = true ∧ c.armStep3 = true ∧ c.armStep4 = true ∧ (c.sums c.staged (c.f
      (F.sspPselProd c.staged)) (c.fmax c.staged)).fails = 0) ∧ c.f F.jobArmTarget = 2)
    ∧ (∃ c : Chip, c.Allows .boot R.jobCmd (force F.jobCmdOp 4 0#32) ∧ c.besideServer = false ∧ c.armStep1 = 0 ∧
      c.pairMode = true ∧ c.fb F.jobArmStop = true ∧ c.matePresent = false ∧ c.f F.jobArmTarget ≠ 2)
    ∧ (∃ c : Chip, c.Allows .boot R.jobCmd (force F.jobCmdOp 4 0#32) ∧ c.besideServer = false ∧ c.armStep1 = 0 ∧
      c.pairMode = true ∧ c.fb F.jobArmStop = true ∧ c.matePresent = true ∧ c.job.mateDig = none)
    ∧ (∃ (c : Chip) (m at_ : Nat), c.Allows .boot R.jobCmd (force F.jobCmdOp 4 0#32) ∧ c.besideServer = false ∧
      c.armStep1 = 0 ∧ c.pairMode = true ∧ c.fb F.jobArmStop = true ∧ c.matePresent = true ∧ c.job.mateDig = some (m,
      at_) ∧ c.nowNs < at_ + 1000000 * c.f F.jobPairCfgTmo ∧ m = c.armDigest.toNat ∧ c.f F.jobArmTarget ≠ 2)
    ∧ (∃ (c : Chip) (m at_ : Nat), c.Allows .boot R.jobCmd (force F.jobCmdOp 4 0#32) ∧ c.besideServer = false ∧
      c.armStep1 = 0 ∧ c.pairMode = true ∧ c.fb F.jobArmStop = true ∧ c.matePresent = true ∧ c.job.mateDig = some (m,
      at_) ∧ c.nowNs < at_ + 1000000 * c.f F.jobPairCfgTmo ∧ m ≠ c.armDigest.toNat)
    ∧ (∃ c : Chip, c.Allows .boot R.cmtHost (force F.cmtHostOp 1 0#32) ∧ c.domainRuns 2 = true ∧ c.issues = true ∧
      c.sst = sstDecided ∧ c.fb (F.ieJcfgFidEn c.actBank) = false ∧ c.cmt.events ≠ [] ∧ c.f (F.cmtTcfgSrc c.actBank)
      ≠ 0 ∧ (∀ l ∈ c.cmt.lastMark, c.f (F.ieRepLinesRepLines c.actBank) ≤ 2 * ((c.f F.cmtNextIdId + 2 ^ 32 - l) % 2 ^
      32)) ∧ c.fb F.jobArmStop = false ∧ ∀ p ∈ c.cmt.txPrev, p + c.tMin c.staged ≤ c.nowNs + c.f (F.cmtTdlyTrigDly
      c.staged))
    ∧ (∃ c : Chip, c.Allows .boot R.cmtHost (force F.cmtHostOp 1 0#32) ∧ c.domainRuns 2 = true ∧ c.issues = true ∧
      c.sst = sstDecided ∧ c.fb (F.ieJcfgFidEn c.actBank) = false ∧ c.cmt.events ≠ [] ∧ c.f (F.cmtTcfgSrc c.actBank)
      ≠ 0 ∧ (∀ l ∈ c.cmt.lastMark, c.f (F.ieRepLinesRepLines c.actBank) ≤ 2 * ((c.f F.cmtNextIdId + 2 ^ 32 - l) % 2 ^
      32)) ∧ c.fb F.jobArmStop = true ∧ ∀ p ∈ c.cmt.txPrev, p + c.tMin c.actBank ≤ c.nowNs + c.f (F.cmtTdlyTrigDly
      c.actBank))
    ∧ (∃ c : Chip, c.Allows .boot R.jobCmd (force F.jobCmdOp 5 0#32)) :=
  ⟨⟨jobUp.sets [(F.jobStatSst, sstArmed)], by dsimp only [Chip.Allows]; decide +kernel⟩,
  ⟨jobPlan, by dsimp only [Chip.Allows]; decide +kernel⟩,
  ⟨portPlan, by dsimp only [Chip.Allows]; decide +kernel⟩,
  ⟨jobPlan.sets [(F.jobLeadLead, 16)], by dsimp only [Chip.Allows]; decide +kernel⟩,
  ⟨jobRuns [(F.jobArmStop, 1), (F.jobArmTarget, 0)], by dsimp only [Chip.Allows]; decide +kernel⟩,
  ⟨jobReady, by dsimp only [Chip.Allows]; decide +kernel⟩,
  ⟨armMate lkDisabled none, by dsimp only [Chip.Allows]; decide +kernel⟩,
  ⟨armMate lkActive none, by dsimp only [Chip.Allows]; decide +kernel⟩,
  ⟨armMate lkActive (some (armDig, 5)), armDig, 5, by dsimp only [Chip.Allows]; decide +kernel, by decide +kernel,
    by decide +kernel, by decide +kernel, by decide +kernel, by decide +kernel, rfl,
    by dsimp only [armMate]; decide +kernel, armDig_eq (some (armDig, 5)), by decide +kernel⟩,
  ⟨armMate lkActive (some (armDig + 1, 5)), armDig + 1, 5, by dsimp only [Chip.Allows]; decide +kernel,
    by decide +kernel, by decide +kernel, by decide +kernel, by decide +kernel, by decide +kernel, rfl,
    by dsimp only [armMate]; decide +kernel, armDig_ne _⟩,
  ⟨markDue [], by dsimp only [Chip.Allows]; decide +kernel⟩,
  ⟨markDue [(F.jobArmStop, 1)], by dsimp only [Chip.Allows]; decide +kernel⟩,
  ⟨jobUp.sets [(F.jobStatSst, sstArmed)], by dsimp only [Chip.Allows]; decide +kernel⟩⟩

/-- Each message of the agreement and the decision in the state in which it acts, the time-outs, and a stop whose bank
has left. -/
theorem witness_JobAgreement :
    (∃ (c : Chip) (pk : RxPkt), c.domainRuns 4 = true ∧ c.Hears 0x03 pk ∧ c.sst ≠ sstPairing)
    ∧ (∃ (c : Chip) (pk : RxPkt), c.domainRuns 4 = true ∧ c.Hears 0x03 pk ∧ c.sst = sstPairing ∧ fieldBE pk.bytes 8 4
      = c.f F.jobDigestDigest ∧ c.f F.jobArmTarget ≠ 2)
    ∧ (∃ (c : Chip) (pk : RxPkt), c.domainRuns 4 = true ∧ c.Hears 0x03 pk ∧ c.sst = sstPairing ∧ fieldBE pk.bytes 8 4
      ≠ c.f F.jobDigestDigest)
    ∧ (∃ (c : Chip) (k d : Nat), c.domainRuns 4 = true ∧ c.pair.resend = some (k, d) ∧ c.pairMode = true ∧ c.linkSt 8
      = lkActive)
    ∧ (∃ c : Chip, c.domainRuns 4 = true ∧ c.domainRuns 3 = true ∧ c.sst = sstPairing)
    ∧ (∃ (c : Chip) (pk : RxPkt), c.domainRuns 4 = true ∧ c.Hears 0x04 pk ∧ c.job.waiting = none)
    ∧ (∃ (c : Chip) (pk : RxPkt) (own : Nat), c.domainRuns 4 = true ∧ c.Hears 0x04 pk ∧ c.job.waiting = some (fieldBE
      pk.bytes 8 4, own) ∧ own < 16 ∧ c.sst = sstArmed ∧ own = 0 ∧ fieldBE pk.bytes 12 1 = 0)
    ∧ (∃ (c : Chip) (pk : RxPkt) (own : Nat), c.domainRuns 4 = true ∧ c.Hears 0x04 pk ∧ c.job.waiting = some (fieldBE
      pk.bytes 8 4, own) ∧ own < 16 ∧ c.sst = sstArmed ∧ own = 0 ∧ fieldBE pk.bytes 12 1 ≠ 0)
    ∧ (∃ (c : Chip) (pk : RxPkt) (own : Nat), c.domainRuns 4 = true ∧ c.Hears 0x04 pk ∧ c.job.waiting = some (fieldBE
      pk.bytes 8 4, own) ∧ own < 16 ∧ c.sst = sstArmed ∧ own ≠ 0)
    ∧ (∃ (c : Chip) (td own : Nat), c.domainRuns 4 = true ∧ c.domainRuns 3 = true ∧ c.job.waiting = some (td, own) ∧
      own < 16 ∧ c.pairId = 0 ∧ c.sst = sstArmed)
    ∧ (∃ (c : Chip) (pk : RxPkt) (own : Nat), c.domainRuns 4 = true ∧ c.Hears 0x05 pk ∧ c.job.waiting = some (fieldBE
      pk.bytes 8 4, own) ∧ own < 16 ∧ c.sst = sstArmed ∧ fieldBE pk.bytes 12 1 = 0)
    ∧ (∃ (c : Chip) (pk : RxPkt) (own : Nat), c.domainRuns 4 = true ∧ c.Hears 0x05 pk ∧ c.job.waiting = some (fieldBE
      pk.bytes 8 4, own) ∧ own < 16 ∧ c.sst = sstArmed ∧ fieldBE pk.bytes 12 1 ≠ 0 ∧ fieldBE pk.bytes 13 1 < 16)
    ∧ (∃ (c : Chip) (b : Nat), c.domainRuns 4 = true ∧ b = (if c.running then c.staged else c.actBank) ∧ c.domainRuns
      3 = true ∧ c.job.stopping = true ∧ c.bankInStc b = false ∧ (∀ fb ∈ c.ie.bands, fb.band.bank = b → fb.merged =
      true ∧ fb.out4 = true) ∧ (∀ x ∈ c.ssp.units, x.bank ≠ b) ∧ (∀ x ∈ c.ssp.ready, x.bank ≠ b) ∧ (∀ n < 8, (c.fe
      n).uses b = false)) :=
  ⟨⟨jobMate [], pairMsg 3 (natBytesBE 4 5 ++ natBytesBE 4 0),
    by dsimp only [Chip.Takes, Chip.Hears]; decide +kernel⟩,
  ⟨jobMate [(F.jobStatSst, sstPairing), (F.jobDigestDigest, 5)], pairMsg 3 (natBytesBE 4 5 ++ natBytesBE 4 0),
    by dsimp only [Chip.Takes, Chip.Hears]; decide +kernel⟩,
  ⟨jobMate [(F.jobStatSst, sstPairing), (F.jobDigestDigest, 6)], pairMsg 3 (natBytesBE 4 5 ++ natBytesBE 4 0),
    by dsimp only [Chip.Takes, Chip.Hears]; decide +kernel⟩,
  ⟨(mate 1).modPair fun p => { p with resend := some (3, 5) }, 3, 5, by decide +kernel⟩,
  ⟨jobMate [(F.jobStatSst, sstPairing)], by decide +kernel⟩,
  ⟨jobMate [], pairMsg 4 (natBytesBE 4 9 ++ natBytesBE 4 0), by dsimp only [Chip.Takes, Chip.Hears]; decide +kernel⟩,
  ⟨verdictWaits 0, pairMsg 4 (natBytesBE 4 9 ++ natBytesBE 4 0), 0,
    by dsimp only [Chip.Takes, Chip.Hears]; decide +kernel⟩,
  ⟨verdictWaits 0, pairMsg 4 (natBytesBE 4 9 ++ natBytesBE 4 0x1000000), 0,
    by dsimp only [Chip.Takes, Chip.Hears]; decide +kernel⟩,
  ⟨verdictWaits 15, pairMsg 4 (natBytesBE 4 9 ++ natBytesBE 4 0), 15,
    by dsimp only [Chip.Takes, Chip.Hears]; decide +kernel⟩,
  ⟨verdictWaits 0, 9, 0, by decide +kernel⟩,
  ⟨verdictWaits 2, pairMsg 5 (natBytesBE 4 9 ++ natBytesBE 4 0), 2,
    by dsimp only [Chip.Takes, Chip.Hears]; decide +kernel⟩,
  ⟨verdictWaits 0, pairMsg 5 (natBytesBE 4 9 ++ natBytesBE 4 0x10F0000), 0,
    by dsimp only [Chip.Takes, Chip.Hears]; decide +kernel⟩,
  ⟨jobWith [] fun j => { j with stopping := true }, 0, by decide +kernel⟩⟩

/-- A port disabled by the host and by the mate before and past its trigger, and products set, cleared with and
without room, and agreed. -/
theorem witness_FlightChanges :
    (∃ (c : Chip) (n : Nat), n < 8 ∧ n < c.job.tOff.length ∧ c.Allows .boot R.jobPortOff (BitVec.ofNat 32 (2 ^ n)) ∧
      c.job.tOff.getD n none = none ∧ c.job.offDone.contains n = false ∧ (∀ l ∈ (c.fe n).lastClosed, sdiff32 l
      ((c.newestTrig + 64) % 2 ^ 32) < 0))
    ∧ (∃ (c : Chip) (pk : RxPkt) (n : Nat), c.domainRuns 4 = true ∧ c.Hears 0x06 pk ∧ c.running = true ∧ n = fieldBE
      pk.bytes 8 1 ∧ n < 8 ∧ n < c.job.tOff.length ∧ c.job.tOff.getD n none = none ∧ c.job.offDone.contains n = false
      ∧ (c.fe n).lastClosed = none ∧ sdiff32 c.newestTrig (fieldBE pk.bytes 12 4) < 0)
    ∧ (∃ (c : Chip) (pk : RxPkt) (n : Nat), c.domainRuns 4 = true ∧ c.Hears 0x06 pk ∧ c.running = true ∧ n = fieldBE
      pk.bytes 8 1 ∧ n < 8 ∧ n < c.job.tOff.length ∧ c.job.tOff.getD n none = none ∧ c.job.offDone.contains n = false
      ∧ (c.fe n).lastClosed = none ∧ 0 ≤ sdiff32 c.newestTrig (fieldBE pk.bytes 12 4))
    ∧ (∃ (c : Chip) (v : Word), c.Allows .boot R.jobProdOff v ∧ (∀ k < 5, (c.f F.jobProdOffProd).testBit k = true →
      (getBits v 0 5).testBit k = true))
    ∧ (∃ (c : Chip) (v : Word), c.Allows .boot R.jobProdOff v ∧ ¬(∀ k < 5, (c.f F.jobProdOffProd).testBit k = true →
      (getBits v 0 5).testBit k = true) ∧ (c.sums c.actBank ((List.range 5).foldl (fun a k => if (c.f (F.sspPselProd
      c.actBank)).testBit k && !(getBits v 0 5).testBit k then a + 2 ^ k else a) 0) (c.fmax c.actBank)).fails = 0)
    ∧ (∃ (c : Chip) (v : Word), c.Allows .boot R.jobProdOff v ∧ ¬(∀ k < 5, (c.f F.jobProdOffProd).testBit k = true →
      (getBits v 0 5).testBit k = true) ∧ (c.sums c.actBank ((List.range 5).foldl (fun a k => if (c.f (F.sspPselProd
      c.actBank)).testBit k && !(getBits v 0 5).testBit k then a + 2 ^ k else a) 0) (c.fmax c.actBank)).fails ≠ 0)
    ∧ (∃ (c : Chip) (pk : RxPkt), c.domainRuns 4 = true ∧ c.Hears 0x07 pk ∧ c.running = true ∧ (∀ x ∈ c.job.prodSent,
      x.1 ≠ fieldBE pk.bytes 8 1 % 32))
    ∧ (∃ (c : Chip) (pk : RxPkt) (b own : Nat), c.domainRuns 4 = true ∧ c.Hears 0x07 pk ∧ c.running = true ∧
      c.job.prodSent = some (fieldBE pk.bytes 8 1 % 32, b, own)) :=
  ⟨⟨jobRuns [(F.linkCtrlExpected 7, 1)], 7, by dsimp only [Chip.Allows]; decide +kernel⟩,
  ⟨jobMate [(F.jobStatRun, 1), (F.cmtNextIdId, 5)], pairMsg 6 (natBytesBE 4 0x7000000 ++ natBytesBE 4 9), 7,
    by dsimp only [Chip.Takes, Chip.Hears]; decide +kernel⟩,
  ⟨jobMate [(F.jobStatRun, 1), (F.cmtNextIdId, 10)], pairMsg 6 (natBytesBE 4 0 ++ natBytesBE 4 9), 0,
    by dsimp only [Chip.Takes, Chip.Hears]; decide +kernel⟩,
  ⟨jobRuns [(F.jobProdOffProd, 1)], 31#32, by dsimp only [Chip.Allows]; decide +kernel⟩,
  ⟨jobRoom, 0#32, by dsimp only [Chip.Allows]; decide +kernel⟩,
  ⟨jobRuns [(F.jobProdOffProd, 1)], 0#32, by dsimp only [Chip.Allows]; decide +kernel⟩,
  ⟨jobMate [(F.jobStatRun, 1)], pairMsg 7 (natBytesBE 4 0x1000000 ++ natBytesBE 4 9),
    by dsimp only [Chip.Takes, Chip.Hears]; decide +kernel⟩,
  ⟨(jobMate [(F.jobStatRun, 1)]).modJob fun j => { j with prodSent := some (1, 3, 8) }, pairMsg 7 (natBytesBE 4
    0x1000000 ++ natBytesBE 4 9), 3, 8, by dsimp only [Chip.Takes, Chip.Hears]; decide +kernel⟩⟩

/-- Readings at their ends, a change, items that start and drop, and an engine in each part of its life. -/
theorem witness_Shepherd :
    (∃ (c : Chip), c.domainRuns 3 = true ∧ c.shp.clusters.length = 4 ∧ True)
    ∧ (∃ (c : Chip) (k : Nat), c.domainRuns 3 = true ∧ c.shp.clusters.length = 4 ∧ k < 4 ∧ (c.cluster k).fromStep ≠
      none ∧ c.enough (c.stepsWith k (c.stepOf k)) = true)
    ∧ (∃ (c : Chip) (k j : Nat), c.domainRuns 3 = true ∧ c.shp.clusters.length = 4 ∧ k < 4 ∧ j < 4 ∧ (c.cluster
      k).badRun.length = 4 ∧ (c.cluster k).seen.length = 4 ∧ (c.cluster k).badRun.getD j none = none)
    ∧ (∃ (c : Chip) (k : Nat), c.domainRuns 3 = true ∧ c.shp.clusters.length = 4 ∧ k < 4 ∧ (c.cluster k).reported =
      false)
    ∧ (∃ (c : Chip), c.domainRuns 3 = true ∧ c.shp.clusters.length = 4 ∧ (∀ w ∈ c.shp.queue, c.eligible w = false))
    ∧ (∃ (c : Chip) (w : WorkItem) (e : Nat), c.domainRuns 3 = true ∧ c.shp.clusters.length = 4 ∧ c.shp.queue = [w] ∧
      w.fold = 0 ∧ c.eligible w = true ∧ c.placeFor w = some e)
    ∧ (∃ (c : Chip) (w : WorkItem), c.domainRuns 3 = true ∧ c.shp.clusters.length = 4 ∧ (c.shp.queue.find? fun x =>
      x.fold == 1 && c.pastDeadline x) = some w)
    ∧ (∃ (c : Chip) (w : WorkItem), c.domainRuns 3 = true ∧ c.shp.clusters.length = 4 ∧ (c.shp.queue.find? fun x =>
      x.fold == 2 && c.pastDeadline x) = some w)
    ∧ (∃ (c : Chip) (k : Nat) (v : Word), c.domainRuns 3 = true ∧ c.shp.clusters.length = 4 ∧ k < 4 ∧ c.Allows .boot
      (R.shpCLimit k) v)
    ∧ (∃ (c : Chip) (e : Nat), c.domainRuns 3 = true ∧ c.shp.clusters.length = 4 ∧ e < 68 ∧ (c.shp.tests.find? fun p
      => p.1 == e) = some (e, true))
    ∧ (∃ (c : Chip) (e : Nat), c.domainRuns 3 = true ∧ c.shp.clusters.length = 4 ∧ e < 68 ∧ (c.shp.tests.find? fun p
      => p.1 == e) = some (e, false))
    ∧ (∃ (c : Chip) (e : Nat) (w : WorkItem), c.domainRuns 3 = true ∧ c.shp.clusters.length = 4 ∧ e < 68 ∧ c.running?
      e = some w ∧ w.fold = 3 ∧ c.shp.retiring.contains e = false ∧ w.kind = 0 ∧ 1 < w.strip ∧ c.engState e =
      engActive)
    ∧ (∃ (c : Chip) (e : Nat) (w : WorkItem), c.domainRuns 3 = true ∧ c.shp.clusters.length = 4 ∧ e < 68 ∧ c.running?
      e = some w ∧ w.fold = 3 ∧ c.shp.retiring.contains e = false ∧ 1 < w.kind)
    ∧ (∃ (c : Chip) (e : Nat) (w : WorkItem), c.domainRuns 3 = true ∧ c.shp.clusters.length = 4 ∧ e < 68 ∧ c.running?
      e = some w ∧ w.fold = 3 ∧ c.shp.retiring.contains e = false ∧ w.kind = 1 ∧ c.scrubbable w.bseq = false)
    ∧ (∃ (c : Chip) (e : Nat), c.domainRuns 3 = true ∧ c.shp.clusters.length = 4 ∧ e < 68 ∧ (c.engState e = engActive
      ∨ c.engState e = engTesting)) :=
  ⟨⟨up, by decide +kernel⟩,
  ⟨shpWith [] (fun s => { s with clusters := s.clusters.set 3 { ClusterS.reset with fromStep := some 0 } }), 3,
    by decide +kernel⟩,
  ⟨up, 3, 0, by decide +kernel⟩,
  ⟨up, 0, by decide +kernel⟩,
  ⟨up, by decide +kernel⟩,
  ⟨dispatchable, ⟨0, 1, 0, 0, [], 1600, false, [], false, false⟩, 0, by decide +kernel⟩,
  ⟨lateItem 1, item 1 1 0, by decide +kernel⟩,
  ⟨lateItem 2, item 2 1 0, by decide +kernel⟩,
  ⟨up, 3, 0#32, by dsimp only [Chip.Allows]; decide +kernel⟩,
  ⟨shpWith [] (fun s => { s with tests := [(67, true)] }), 67, by decide +kernel⟩,
  ⟨shpWith [] (fun s => { s with tests := [(67, false)] }), 67, by decide +kernel⟩,
  ⟨shpWith [] (fun s => { s with run := [(5, back 0 2)] }), 5, back 0 2, by decide +kernel⟩,
  ⟨shpWith [] (fun s => { s with run := [(5, back 2 0)] }), 5, back 2 0, by decide +kernel⟩,
  ⟨shpWith [] (fun s => { s with run := [(67, back 1 0)] }), 67, back 1 0, by decide +kernel⟩,
  ⟨up, 0, by decide +kernel⟩⟩

/-- The uplink in each state and each event that ends it, with the retrain allowed and refused. -/
theorem witness_UplinkStates :
    (∃ (c : Chip) (v : Word), c.domainRuns 5 = true ∧ c.Allows .boot R.ulCtrl (force F.ulCtrlEn 1 v) ∧ c.fb
      F.ulCtrlEn = false ∧ c.ulSt = 0)
    ∧ (∃ (c : Chip) (v : Word), c.domainRuns 5 = true ∧ c.Allows .boot R.ulCtrl (force F.ulCtrlEn 0 v) ∧ c.ulSt ≠ 0)
    ∧ (∃ c : Chip, c.domainRuns 5 = true ∧ c.ulSt = 1)
    ∧ (∃ c : Chip, c.domainRuns 5 = true ∧ c.ulSt = 3)
    ∧ (∃ c : Chip, c.domainRuns 5 = true ∧ c.ulSt = 4)
    ∧ (∃ c : Chip, c.domainRuns 5 = true ∧ c.ulSt = 6)
    ∧ (∃ c : Chip, c.domainRuns 5 = true ∧ c.ulSt = 2)
    ∧ (∃ (c : Chip) (m k : Nat), c.domainRuns 5 = true ∧ c.ulSt = 4 ∧ m < 9 ∧ c.laneState 9 m = lsActive ∧
      c.ulLanes.contains m = true ∧ k < 8 ∧ c.mapOf 9 k = m ∧ (∀ j < k, c.mapOf 9 j ≠ m) ∧ c.retrainPossible = true ∧
      c.retrainAllowed k = true)
    ∧ (∃ (c : Chip) (m k : Nat), c.domainRuns 5 = true ∧ c.ulSt = 4 ∧ m < 9 ∧ c.laneState 9 m = lsActive ∧
      c.ulLanes.contains m = true ∧ k < 8 ∧ c.mapOf 9 k = m ∧ (∀ j < k, c.mapOf 9 j ≠ m) ∧ (c.retrainPossible = false
      ∨ c.retrainAllowed k = false))
    ∧ (∃ (c : Chip) (v : Word), c.domainRuns 5 = true ∧ c.Allows .boot R.ulCtrl (force F.ulCtrlRetrain 1 v) ∧ bitAt v
      31 = true ∧ c.ulSt = 4 ∧ c.retrainPossible = true ∧ c.retrainAllowed (getBits v 0 3) = true)
    ∧ (∃ (c : Chip) (v : Word), c.domainRuns 5 = true ∧ c.Allows .boot R.ulCtrl (force F.ulCtrlRetrain 1 v) ∧ bitAt v
      31 = true ∧ c.ulSt = 4 ∧ c.retrainPossible = true ∧ c.retrainAllowed (getBits v 0 3) = false)
    ∧ (∃ (c : Chip) (r : Retrain), c.domainRuns 5 = true ∧ c.retrain = some r ∧ r.step = 3)
    ∧ (∃ (c : Chip) (r : Retrain), c.domainRuns 5 = true ∧ c.retrain = some r ∧ r.step = 4 ∧ r.log < 8 ∧ r.old < 9 ∧
      c.ulSt = 5)
    ∧ (∃ (c : Chip) (r : Retrain), c.domainRuns 5 = true ∧ c.retrain = some r ∧ c.ulSt = 5)
    ∧ (∃ (c : Chip) (m corr : Nat), c.domainRuns 5 = true ∧ m < 9 ∧ (c.f F.ulLaneThrSymThr = 0 ∨ corr ≤ c.f
      F.ulLaneThrSymThr))
    ∧ (∃ (c : Chip) (m corr : Nat), c.domainRuns 5 = true ∧ m < 9 ∧ c.f F.ulLaneThrSymThr ≠ 0 ∧ c.f F.ulLaneThrSymThr
      < corr ∧ c.ulLanes.contains m = true) :=
  ⟨⟨up, up.rd R.ulCtrl, by dsimp only [Chip.Allows]; decide +kernel⟩,
  ⟨ulIn 4 [(F.ulCtrlEn, 1)], up.rd R.ulCtrl, by dsimp only [Chip.Allows]; decide +kernel⟩,
  ⟨ulIn 1 [], by decide +kernel⟩,
  ⟨ulIn 3 [], by decide +kernel⟩,
  ⟨ulIn 4 [], by decide +kernel⟩,
  ⟨ulIn 6 [], by decide +kernel⟩,
  ⟨ulIn 2 [], by decide +kernel⟩,
  ⟨ulSpareUp, 7, 7, by decide +kernel⟩,
  ⟨ulIn 4 [(F.lnStateState 9 0, lsActive), (F.ulCtrlSpareEn, 0)], 0, 0, by decide +kernel⟩,
  ⟨ulSpareUp, ulSpareUp.rd R.ulCtrl ||| 0x80000007#32, by dsimp only [Chip.Allows]; decide +kernel⟩,
  ⟨ulSpareUp.sets [(F.spareStatUnusable 9, 1)], ulSpareUp.rd R.ulCtrl ||| 0x80000007#32,
    by dsimp only [Chip.Allows]; decide +kernel⟩,
  ⟨{ up with retrain := some ⟨7, 7, 2, 3⟩ }, ⟨7, 7, 2, 3⟩, by decide +kernel⟩,
  ⟨{ ulIn 5 [] with retrain := some ⟨0, 0, 3, 4⟩ }, ⟨0, 0, 3, 4⟩, by decide +kernel⟩,
  ⟨{ ulIn 5 [] with retrain := some ⟨7, 7, 2, 3⟩ }, ⟨7, 7, 2, 3⟩, by decide +kernel⟩,
  ⟨up.sets [(F.ulLaneThrSymThr, 5)], 8, 5, by decide +kernel⟩,
  ⟨up.sets [(F.ulLaneThrSymThr, 5)], 0, 6, by decide +kernel⟩⟩

/-- A frame of a wrong FCS, a PAUSE, one of no class, and an ARP request and a Neighbor Solicitation for the device.
-/
theorem witness_UplinkFrames :
    (∃ (c : Chip) (fr : UlFrame), c.domainRuns 5 = true ∧ c.ulSt = 4 ∧ fr.fcsOk = false)
    ∧ (∃ (c : Chip) (fr : UlFrame), c.domainRuns 5 = true ∧ c.ulSt = 4 ∧ fr.fcsOk = true ∧ (netOf fr).etype = 0x8808)
    ∧ (∃ (c : Chip) (fr : UlFrame), c.domainRuns 5 = true ∧ c.ulSt = 4 ∧ fr.fcsOk = true ∧ (netOf fr).etype ≠ 0x8808
      ∧ (9212 < fr.bytes.length ∨ c.frameClass fr = none))
    ∧ (∃ (c : Chip) (fr : UlFrame), c.domainRuns 5 = true ∧ c.ulSt = 4 ∧ fr.fcsOk = true ∧ fr.bytes.length ≤ 9212 ∧
      c.frameClass fr = some 3 ∧ (netOf fr).etype = 0x0806)
    ∧ (∃ (c : Chip) (fr : UlFrame), c.domainRuns 5 = true ∧ c.ulSt = 4 ∧ fr.fcsOk = true ∧ fr.bytes.length ≤ 9212 ∧
      c.frameClass fr = some 3 ∧ (netOf fr).etype = 0x86DD) :=
  ⟨⟨ulUpChip, ⟨[], false⟩, by decide +kernel⟩,
  ⟨ulUpChip, frameOf 0x8808 [], by decide +kernel⟩,
  ⟨ulUpChip, frameOf 0x1234 [], by decide +kernel⟩,
  ⟨ulUpChip, frameOf 0x0806 (natBytesBE 8 1 ++ natBytesBE 16 0 ++ ulUpChip.ip4Bytes), by decide +kernel⟩,
  ⟨ulUpChip, frameOf 0x86DD (natBytesBE 6 0 ++ [58#8] ++ natBytesBE 33 0 ++ [135#8] ++ natBytesBE 7 0 ++
    ulUpChip.ip6Bytes), by decide +kernel⟩⟩

/-- A small offset, a large one with and without a job, the two halves of a two-step Sync, a jump after a retrain, and
the lost time transmitter. -/
theorem witness_PtpOffsets :
    (∃ (c : Chip) (m : PtpMsg), c.domainRuns 2 = true ∧ c.fromMaster m = true ∧ c.orbSrc = 0 ∧ c.orb.jump = none ∧
      c.orb.retest = false ∧ m.twoStep = false ∧ ((c.rxStamp - ((m.ts : Int) * 2 ^ 32 + m.corr * 2 ^ 16) - c.orb.mean
      - c.fs F.orbAsymAsym * 2 ^ 28).natAbs : Int) ≤ (c.f F.orbStepStepThr : Int) * 2 ^ 32)
    ∧ (∃ (c : Chip) (m : PtpMsg), c.domainRuns 2 = true ∧ c.fromMaster m = true ∧ c.orbSrc = 0 ∧ c.orb.jump = none ∧
      c.orb.retest = false ∧ m.twoStep = false ∧ (c.f F.orbStepStepThr : Int) * 2 ^ 32 < ((c.rxStamp - ((m.ts : Int)
      * 2 ^ 32 + m.corr * 2 ^ 16) - c.orb.mean - c.fs F.orbAsymAsym * 2 ^ 28).natAbs : Int) ∧ c.running = true)
    ∧ (∃ (c : Chip) (m : PtpMsg), c.domainRuns 2 = true ∧ c.fromMaster m = true ∧ c.orbSrc = 0 ∧ c.orb.jump = none ∧
      c.orb.retest = false ∧ m.twoStep = false ∧ (c.f F.orbStepStepThr : Int) * 2 ^ 32 < ((c.rxStamp - ((m.ts : Int)
      * 2 ^ 32 + m.corr * 2 ^ 16) - c.orb.mean - c.fs F.orbAsymAsym * 2 ^ 28).natAbs : Int) ∧ c.running = false)
    ∧ (∃ (c : Chip) (m : PtpMsg), c.domainRuns 2 = true ∧ c.fromMaster m = true ∧ c.orbSrc = 0 ∧ c.orb.jump = none ∧
      c.orb.retest = false ∧ m.twoStep = true)
    ∧ (∃ (c : Chip) (m : PtpMsg) (t2 corr : Int), c.domainRuns 2 = true ∧ c.fromMaster m = true ∧ c.orbSrc = 0 ∧
      c.orb.jump = none ∧ c.orb.retest = false ∧ c.orb.sync = some (m.seq, t2, corr) ∧ c.orb.syncLost = false ∧ ((t2
      - ((m.ts : Int) * 2 ^ 32 + (corr + m.corr) * 2 ^ 16) - c.orb.mean - c.fs F.orbAsymAsym * 2 ^ 28).natAbs : Int)
      ≤ (c.f F.orbStepStepThr : Int) * 2 ^ 32)
    ∧ (∃ (c : Chip) (m : PtpMsg), c.domainRuns 2 = true ∧ c.fromMaster m = true ∧ c.orbSrc = 0 ∧ c.orb.jump = none ∧
      c.orb.retest = true ∧ m.twoStep = false ∧ c.jumpThr < ((c.rxStamp - ((m.ts : Int) * 2 ^ 32 + m.corr * 2 ^ 16) -
      c.orb.mean - c.fs F.orbAsymAsym * 2 ^ 28).natAbs : Int))
    ∧ (∃ (c : Chip) (m : PtpMsg), c.domainRuns 2 = true ∧ c.ptpHeard m = true ∧ c.testTt = false)
    ∧ (∃ c : Chip, c.domainRuns 2 = true ∧ c.orbSrc = 0 ∧ c.testTt = false) :=
  ⟨⟨ptpUp [] id, ptpMsg false 100 0, by decide +kernel⟩,
  ⟨ptpUp [(F.jobStatRun, 1)] id, ptpMsg false 101 0, by decide +kernel⟩,
  ⟨ptpUp [] id, ptpMsg false 101 0, by decide +kernel⟩,
  ⟨ptpUp [] id, ptpMsg true 0 0, by decide +kernel⟩,
  ⟨ptpUp [] (fun o => { o with sync := some (7, 0, 0) }), ptpMsg true 100 0, 0, 0, by decide +kernel⟩,
  ⟨ptpUp [] (fun o => { o with retest := true }), ptpMsg false 101 0, by decide +kernel⟩,
  ⟨ptpUp [] id, ptpMsg false 0 0, by decide +kernel⟩,
  ⟨ptpUp [] id, by decide +kernel⟩⟩

/-- Each request of the device, near and far samples of both mechanisms, samples with SRC = free, and the requests of
others, and the test mode. -/
theorem witness_PtpDelays :
    (∃ c : Chip, c.domainRuns 2 = true ∧ c.ulSt = 4 ∧ c.testTt = false ∧ c.ptpP2p = false ∧ c.master.isSome = true)
    ∧ (∃ c : Chip, c.domainRuns 2 = true ∧ c.ulSt = 4 ∧ c.testTt = false ∧ c.ptpP2p = true)
    ∧ (∃ (c : Chip) (m : PtpMsg) (t1 t2 t3 p : Int), c.domainRuns 2 = true ∧ c.orb.delayReq = some (m.seq, t3) ∧
      c.orb.lastSync = some (t1, t2) ∧ c.fromMaster m = true ∧ m.request = c.ptpSelf ∧ p = ((t2 - t1) + ((m.ts : Int)
      * 2 ^ 32 - t3 - m.corr * 2 ^ 16)) / 2 ∧ c.orb.jump = none ∧ ((p - c.orb.mean).natAbs : Int) ≤ (c.f
      F.orbJumpPtpJumpThr : Int) * 2 ^ 32 ∧ c.orbSrc ≠ 2)
    ∧ (∃ (c : Chip) (m : PtpMsg) (t1 t2 t3 p : Int), c.domainRuns 2 = true ∧ c.orb.delayReq = some (m.seq, t3) ∧
      c.orb.lastSync = some (t1, t2) ∧ c.fromMaster m = true ∧ m.request = c.ptpSelf ∧ p = ((t2 - t1) + ((m.ts : Int)
      * 2 ^ 32 - t3 - m.corr * 2 ^ 16)) / 2 ∧ c.orb.jump = none ∧ (c.f F.orbJumpPtpJumpThr : Int) * 2 ^ 32 < ((p -
      c.orb.mean).natAbs : Int) ∧ c.orbSrc = 0 ∧ c.testTt = false)
    ∧ (∃ (c : Chip) (m : PtpMsg) (t1 t2 t3 p : Int), c.domainRuns 2 = true ∧ c.orb.delayReq = some (m.seq, t3) ∧
      c.orb.lastSync = some (t1, t2) ∧ c.fromMaster m = true ∧ m.request = c.ptpSelf ∧ p = ((t2 - t1) + ((m.ts : Int)
      * 2 ^ 32 - t3 - m.corr * 2 ^ 16)) / 2 ∧ c.orb.jump = none ∧ c.orbSrc = 2)
    ∧ (∃ (c : Chip) (m : PtpMsg) (t1 p : Int), c.domainRuns 2 = true ∧ c.orb.pdelay = some (m.seq, t1) ∧ c.ptpHeard m
      = true ∧ m.request = c.ptpSelf ∧ m.twoStep = false ∧ c.testTt = false ∧ p = (c.rxStamp - t1 - m.corr * 2 ^ 16)
      / 2 ∧ c.orb.jump = none ∧ ((p - c.orb.mean).natAbs : Int) ≤ (c.f F.orbJumpPtpJumpThr : Int) * 2 ^ 32 ∧ c.orbSrc
      ≠ 2)
    ∧ (∃ (c : Chip) (m : PtpMsg) (t1 p : Int), c.domainRuns 2 = true ∧ c.orb.pdelay = some (m.seq, t1) ∧ c.ptpHeard m
      = true ∧ m.request = c.ptpSelf ∧ m.twoStep = false ∧ c.testTt = false ∧ p = (c.rxStamp - t1 - m.corr * 2 ^ 16)
      / 2 ∧ c.orb.jump = none ∧ (c.f F.orbJumpPtpJumpThr : Int) * 2 ^ 32 < ((p - c.orb.mean).natAbs : Int) ∧ c.orbSrc
      = 0 ∧ c.testTt = false)
    ∧ (∃ (c : Chip) (m : PtpMsg) (t1 p : Int), c.domainRuns 2 = true ∧ c.orb.pdelay = some (m.seq, t1) ∧ c.ptpHeard m
      = true ∧ m.request = c.ptpSelf ∧ m.twoStep = false ∧ c.testTt = false ∧ p = (c.rxStamp - t1 - m.corr * 2 ^ 16)
      / 2 ∧ c.orb.jump = none ∧ c.orbSrc = 2)
    ∧ (∃ (c : Chip) (m : PtpMsg), c.domainRuns 2 = true ∧ c.ptpHeard m = true ∧ (c.ptpP2p = true ∨ c.testTt = true))
    ∧ (∃ (c : Chip) (m : PtpMsg), c.domainRuns 2 = true ∧ c.ptpHeard m = true ∧ c.testTt = true)
    ∧ (∃ c : Chip, c.domainRuns 2 = true ∧ c.ulSt = 4 ∧ c.testTt = true ∧ True) :=
  ⟨⟨ptpUp [] id, by decide +kernel⟩,
  ⟨ptpUp [(F.orbCtrlMech, 1)] id, by decide +kernel⟩,
  ⟨ptpUp [(F.orbCtrlSrc, 0)] (fun o => { o with delayReq := some (7, 0), lastSync := some (0, 0) }), ptpMsg false 200
    (ptpUp [] id).ptpSelf, 0, 0, 0, 100 * 2 ^ 32, by decide +kernel⟩,
  ⟨ptpUp [(F.orbCtrlSrc, 0)] (fun o => { o with delayReq := some (7, 0), lastSync := some (0, 0) }), ptpMsg false 202
    (ptpUp [] id).ptpSelf, 0, 0, 0, 101 * 2 ^ 32, by decide +kernel⟩,
  ⟨ptpUp [(F.orbCtrlSrc, 2)] (fun o => { o with delayReq := some (7, 0), lastSync := some (0, 0) }), ptpMsg false 202
    (ptpUp [] id).ptpSelf, 0, 0, 0, 101 * 2 ^ 32, by decide +kernel⟩,
  ⟨ptpUp [(F.orbCtrlSrc, 0)] (fun o => { o with pdelay := some (7, (-200 * 2 ^ 32)) }), ptpMsg false 0 (ptpUp []
    id).ptpSelf, (-200 * 2 ^ 32), 100 * 2 ^ 32, by decide +kernel⟩,
  ⟨ptpUp [(F.orbCtrlSrc, 0)] (fun o => { o with pdelay := some (7, (-202 * 2 ^ 32)) }), ptpMsg false 0 (ptpUp []
    id).ptpSelf, (-202 * 2 ^ 32), 101 * 2 ^ 32, by decide +kernel⟩,
  ⟨ptpUp [(F.orbCtrlSrc, 2)] (fun o => { o with pdelay := some (7, 0) }), ptpMsg false 0 (ptpUp [] id).ptpSelf, 0, 0,
    by decide +kernel⟩,
  ⟨ptpUp [(F.orbCtrlMech, 1)] id, ptpMsg false 0 0, by decide +kernel⟩,
  ⟨ptpUp [(F.orbCtrlTestTt, 1)] id, ptpMsg false 0 0, by decide +kernel⟩,
  ⟨ptpUp [(F.orbCtrlTestTt, 1)] id, by decide +kernel⟩⟩

/-- A slew that ends and one that does not, the edges of PPS, a set and both writes of ORB_NOM. -/
theorem witness_OrbitTime :
    (∃ c : Chip, c.domainRuns 2 = true ∧ c.orb.sr ≠ 0 ∧ (c.orb.sr.natAbs : Int) ≤ slewStep (c.f F.orbSlewSlewMax) ∧
      c.orb.n < 1000000000 ∧ c.orb.s < 2 ^ 48 ∧ c.orb.f < 2 ^ 32 ∧ (c.orbNom : Int) < 2 ^ 36 ∧ 0 ≤ (c.orbNom : Int) +
      c.orb.sr)
    ∧ (∃ c : Chip, c.domainRuns 2 = true ∧ (c.orb.sr = 0 ∨ slewStep (c.f F.orbSlewSlewMax) < (c.orb.sr.natAbs :
      Int)))
    ∧ (∃ c : Chip, c.domainRuns 2 = true ∧ c.fb F.orbPpsOutEn = true ∧ c.fb F.orbStatValid = true)
    ∧ (∃ c : Chip, c.domainRuns 2 = true ∧ c.orb.n < 1000000000 ∧ c.orb.s < 2 ^ 48)
    ∧ (∃ (c : Chip) (th : Int), c.domainRuns 2 = true ∧ c.orb.n < 1000000000 ∧ c.orb.s < 2 ^ 48 ∧ th = (if 500000000
      ≤ c.orb.n then (c.orb.n : Int) - 1000000000 else (c.orb.n : Int)) * 2 ^ 32 ∧ c.orbSrc = 1 ∧ c.testTt = false ∧
      (th.natAbs : Int) ≤ (c.f F.orbStepStepThr : Int) * 2 ^ 32)
    ∧ (∃ c : Chip, c.domainRuns 2 = true ∧ c.orbSrc = 1 ∧ c.testTt = false)
    ∧ (∃ (c : Chip) (v : Word), c.domainRuns 2 = true ∧ c.Allows .boot R.orbCmd (force F.orbCmdSet 1 v))
    ∧ (∃ (c : Chip) (v : Word) (fr : Nat), c.domainRuns 2 = true ∧ fr = c.orb.held.getD c.orb.frac ∧ fr < 2 ^ 32 ∧
      c.Allows .boot R.orbNomNs v)
    ∧ (∃ (c : Chip) (v : Word), c.domainRuns 2 = true ∧ c.Allows .boot R.orbNomFrac v) :=
  ⟨⟨orbWith [(F.orbSlewSlewMax, 500)] (fun o =>
    { o with sr := -1, n := 999999999, s := 2 ^ 48 - 1, f := 2 ^ 32 - 1 }), by decide +kernel⟩,
  ⟨up, by decide +kernel⟩,
  ⟨orbWith [(F.orbPpsOutEn, 1), (F.orbStatValid, 1)] id, by decide +kernel⟩,
  ⟨up, by decide +kernel⟩,
  ⟨orbWith [(F.orbCtrlSrc, 1), (F.orbStepStepThr, 100)] (fun o => { o with n := 999999900 }), (-100 * 2 ^ 32),
    by decide +kernel⟩,
  ⟨orbWith [(F.orbCtrlSrc, 1)] id, by decide +kernel⟩,
  ⟨up, 0#32, by dsimp only [Chip.Allows]; decide +kernel⟩,
  ⟨orbWith [] (fun o => { o with held := some 7 }), up.rd R.orbNomNs, 7,
    by dsimp only [Chip.Allows]; decide +kernel⟩,
  ⟨up, 5#32, by dsimp only [Chip.Allows]; decide +kernel⟩⟩

/-- A device whose ORB_NOW_NS may be read. -/
theorem witness_OrbitReads :
    ∃ c : Chip, c.AllowsRead .boot R.orbNowNs :=
  ⟨up, by dsimp only [Chip.Allows, Chip.AllowsRead]; decide +kernel⟩

/-- A count of each encoder, a read, a Z edge, a sheet edge and a candidate. -/
theorem witness_CometInputs :
    (∃ (c : Chip) (e j : Nat) (a b a0 b0 : Bool) (d : Int), c.domainRuns 2 = true ∧ e < 2 ∧ j < 2 ∧ c.cmt.pos.length
      = 2 ∧ c.cmt.lvl.length = 2 ∧ c.cmt.illegal.length = 2 ∧ c.cmt.sheet.length = 2 ∧ c.cmt.lvl.getD e (false,
      false) = (a0, b0) ∧ ((a = a0) ≠ (b = b0)) ∧ d = (if a = a0 then (if a = b then (1 : Int) else -1) else if a = b
      then -1 else 1) ∧ (e ≠ c.webEnc ∨ c.running = false ∨ c.f (F.cmtTcfgSrc c.actBank) ≠ 0))
    ∧ (∃ (c : Chip) (e j : Nat) (a b a0 b0 : Bool) (d : Int), c.domainRuns 2 = true ∧ e < 2 ∧ j < 2 ∧
      c.cmt.pos.length = 2 ∧ c.cmt.lvl.length = 2 ∧ c.cmt.illegal.length = 2 ∧ c.cmt.sheet.length = 2 ∧
      c.cmt.lvl.getD e (false, false) = (a0, b0) ∧ ((a = a0) ≠ (b = b0)) ∧ d = (if a = a0 then (if a = b then (1 :
      Int) else -1) else if a = b then -1 else 1) ∧ (e ≠ c.webEnc ∨ c.running = false ∨ c.f (F.cmtTcfgSrc c.actBank)
      ≠ 0))
    ∧ (∃ (c : Chip) (e j : Nat), c.domainRuns 2 = true ∧ e < 2 ∧ j < 2 ∧ c.cmt.pos.length = 2 ∧ c.cmt.lvl.length = 2
      ∧ c.cmt.illegal.length = 2 ∧ c.cmt.sheet.length = 2 ∧ ((c.cmt.illegal.getD e []).filter fun t => decide
      (c.nowNs < t + 1000000000)).length = 15)
    ∧ (∃ (c : Chip) (e j : Nat) (p : Nat), c.domainRuns 2 = true ∧ e < 2 ∧ j < 2 ∧ c.cmt.pos.length = 2 ∧
      c.cmt.lvl.length = 2 ∧ c.cmt.illegal.length = 2 ∧ c.cmt.sheet.length = 2 ∧ c.AllowsRead .boot (R.cmtEncLo e) ∧
      p = ofSigned 48 (c.encPos e))
    ∧ (∃ (c : Chip) (e j : Nat) (k : Nat) (p : Int), c.domainRuns 2 = true ∧ e < 2 ∧ j < 2 ∧ c.cmt.pos.length = 2 ∧
      c.cmt.lvl.length = 2 ∧ c.cmt.illegal.length = 2 ∧ c.cmt.sheet.length = 2 ∧ c.f (F.cmtTcfgMarkSrc c.actBank) = k
      ∧ c.fb (F.ieJcfgFidEn c.actBank) = false ∧ c.follows = false ∧ p = c.webPos ∧ k = 3 ∧ e = c.webEnc)
    ∧ (∃ (c : Chip) (e j : Nat) (k : Nat) (p : Int), c.domainRuns 2 = true ∧ e < 2 ∧ j < 2 ∧ c.cmt.pos.length = 2 ∧
      c.cmt.lvl.length = 2 ∧ c.cmt.illegal.length = 2 ∧ c.cmt.sheet.length = 2 ∧ c.f (F.cmtTcfgMarkSrc c.actBank) = k
      ∧ c.fb (F.ieJcfgFidEn c.actBank) = false ∧ c.follows = false ∧ c.cmt.sheet.getD j none = some p ∧ k = j + 1)
    ∧ (∃ (c : Chip) (e j : Nat) (level : Bool), c.domainRuns 2 = true ∧ e < 2 ∧ j < 2 ∧ c.cmt.pos.length = 2 ∧
      c.cmt.lvl.length = 2 ∧ c.cmt.illegal.length = 2 ∧ c.cmt.sheet.length = 2 ∧ c.fb (if j = 0 then
      F.cmtSheetCfgSpol0 else F.cmtSheetCfgSpol1) = !level ∧ c.f (if j = 0 then F.cmtSheetCfgSfilt0 else
      F.cmtSheetCfgSfilt1) ≠ 0) :=
  ⟨⟨up, 0, 0, false, true, false, false, -1, by decide +kernel, by decide, by decide, by decide +kernel,
    by decide +kernel, by decide +kernel, by decide +kernel, by decide +kernel,
    by simp, by decide, by decide +kernel⟩,
  ⟨up, 1, 0, true, false, false, false, 1, by decide +kernel, by decide, by decide, by decide +kernel,
    by decide +kernel, by decide +kernel, by decide +kernel, by decide +kernel,
    by simp, by decide, by decide +kernel⟩,
  ⟨cmtWith [] (fun m => { m with illegal := [[], List.replicate 15 0] }), 1, 0, by decide +kernel⟩,
  ⟨cmtWith [] (fun m => { m with pos := [0, -1] }), 1, 0, 2 ^ 48 - 1,
    by dsimp only [Chip.Allows, Chip.AllowsRead]; decide +kernel⟩,
  ⟨up.sets [(F.cmtTcfgMarkSrc 0, 3)], 0, 0, 3, 0, by decide +kernel⟩,
  ⟨cmtWith [(F.cmtTcfgMarkSrc 0, 2)] (fun m => { m with sheet := [none, some (-7)] }), 0, 1, 2, -7,
    by decide +kernel⟩,
  ⟨up.sets [(F.cmtSheetCfgSpol1, 0), (F.cmtSheetCfgSfilt1, 1)], 0, 1, true, by decide +kernel⟩⟩

/-- Triggers of each source on time, delayed and dropped, with a mark, with an event too near the last mark and with
none, a record, and one that does not come. -/
theorem witness_LineTriggers :
    (∃ (c : Chip) (te base : Nat), c.domainRuns 2 = true ∧ c.cmt.due = some te ∧ c.running = true ∧ c.f (F.cmtTcfgSrc
      c.actBank) = 1 ∧ reached64 c.nowNs te = true ∧ c.issues = true ∧ c.fb (F.ieJcfgFidEn c.actBank) = false ∧
      (!(c.cmt.events).isEmpty && c.cmt.lastMark.all fun l => decide (c.f (F.ieRepLinesRepLines c.actBank) ≤ 2 *
      ((c.f F.cmtNextIdId + 2 ^ 32 - l) % 2 ^ 32))) = false ∧ c.sst ≠ sstArmed ∧ c.sst ≠ sstDecided ∧ base = te + c.f
      (F.cmtTdlyTrigDly c.actBank) ∧ (∀ p ∈ c.cmt.txPrev, p + c.tMin c.actBank ≤ base))
    ∧ (∃ (c : Chip) (te base : Nat), c.domainRuns 2 = true ∧ c.cmt.due = some te ∧ c.running = true ∧ c.f
      (F.cmtTcfgSrc c.actBank) = 1 ∧ reached64 c.nowNs te = true ∧ c.issues = true ∧ c.fb (F.ieJcfgFidEn c.actBank) =
      false ∧ (!(c.cmt.events).isEmpty && c.cmt.lastMark.all fun l => decide (c.f (F.ieRepLinesRepLines c.actBank) ≤
      2 * ((c.f F.cmtNextIdId + 2 ^ 32 - l) % 2 ^ 32))) = true ∧ c.sst ≠ sstArmed ∧ c.sst ≠ sstDecided ∧ base = te +
      c.f (F.cmtTdlyTrigDly c.actBank) ∧ (∀ p ∈ c.cmt.txPrev, p + c.tMin c.actBank ≤ base))
    ∧ (∃ (c : Chip) (te base p : Nat), c.domainRuns 2 = true ∧ c.cmt.due = some te ∧ c.running = true ∧ c.f
      (F.cmtTcfgSrc c.actBank) = 1 ∧ reached64 c.nowNs te = true ∧ c.issues = true ∧ c.fb (F.ieJcfgFidEn c.actBank) =
      false ∧ (!(c.cmt.events).isEmpty && c.cmt.lastMark.all fun l => decide (c.f (F.ieRepLinesRepLines c.actBank) ≤
      2 * ((c.f F.cmtNextIdId + 2 ^ 32 - l) % 2 ^ 32))) = false ∧ c.sst ≠ sstArmed ∧ c.sst ≠ sstDecided ∧ base = te +
      c.f (F.cmtTdlyTrigDly c.actBank) ∧ c.cmt.txPrev = some p ∧ base < p + c.tMin c.actBank ∧ p + c.tMin c.actBank -
      base ≤ 16 * c.tMin c.actBank)
    ∧ (∃ (c : Chip) (te base p : Nat), c.domainRuns 2 = true ∧ c.cmt.due = some te ∧ c.running = true ∧ c.f
      (F.cmtTcfgSrc c.actBank) = 1 ∧ reached64 c.nowNs te = true ∧ c.issues = true ∧ c.fb (F.ieJcfgFidEn c.actBank) =
      false ∧ (!(c.cmt.events).isEmpty && c.cmt.lastMark.all fun l => decide (c.f (F.ieRepLinesRepLines c.actBank) ≤
      2 * ((c.f F.cmtNextIdId + 2 ^ 32 - l) % 2 ^ 32))) = true ∧ c.sst ≠ sstArmed ∧ c.sst ≠ sstDecided ∧ base = te +
      c.f (F.cmtTdlyTrigDly c.actBank) ∧ c.cmt.txPrev = some p ∧ base < p + c.tMin c.actBank ∧ 16 * c.tMin c.actBank
      < p + c.tMin c.actBank - base)
    ∧ (∃ (c : Chip) (v : Word) (te base : Nat), c.domainRuns 2 = true ∧ c.Allows .boot R.cmtHost (force F.cmtHostOp 1
      v) ∧ c.f (F.cmtTcfgSrc c.actBank) ≠ 0 ∧ te = c.nowNs ∧ c.issues = true ∧ c.fb (F.ieJcfgFidEn c.actBank) = false
      ∧ (!(c.cmt.events).isEmpty && c.cmt.lastMark.all fun l => decide (c.f (F.ieRepLinesRepLines c.actBank) ≤ 2 *
      ((c.f F.cmtNextIdId + 2 ^ 32 - l) % 2 ^ 32))) = false ∧ c.sst ≠ sstArmed ∧ c.sst ≠ sstDecided ∧ base = te + c.f
      (F.cmtTdlyTrigDly c.actBank) ∧ (∀ p ∈ c.cmt.txPrev, p + c.tMin c.actBank ≤ base))
    ∧ (∃ (c : Chip) (v : Word) (te base : Nat), c.domainRuns 2 = true ∧ c.Allows .boot R.cmtHost (force F.cmtHostOp 1
      v) ∧ c.f (F.cmtTcfgSrc c.actBank) ≠ 0 ∧ te = c.nowNs ∧ c.issues = true ∧ c.fb (F.ieJcfgFidEn c.actBank) = false
      ∧ (!(c.cmt.events).isEmpty && c.cmt.lastMark.all fun l => decide (c.f (F.ieRepLinesRepLines c.actBank) ≤ 2 *
      ((c.f F.cmtNextIdId + 2 ^ 32 - l) % 2 ^ 32))) = true ∧ c.sst ≠ sstArmed ∧ c.sst ≠ sstDecided ∧ base = te + c.f
      (F.cmtTdlyTrigDly c.actBank) ∧ (∀ p ∈ c.cmt.txPrev, p + c.tMin c.actBank ≤ base))
    ∧ (∃ (c : Chip) (v : Word) (te base p : Nat), c.domainRuns 2 = true ∧ c.Allows .boot R.cmtHost (force F.cmtHostOp
      1 v) ∧ c.f (F.cmtTcfgSrc c.actBank) ≠ 0 ∧ te = c.nowNs ∧ c.issues = true ∧ c.fb (F.ieJcfgFidEn c.actBank) =
      false ∧ (!(c.cmt.events).isEmpty && c.cmt.lastMark.all fun l => decide (c.f (F.ieRepLinesRepLines c.actBank) ≤
      2 * ((c.f F.cmtNextIdId + 2 ^ 32 - l) % 2 ^ 32))) = false ∧ c.sst ≠ sstArmed ∧ c.sst ≠ sstDecided ∧ base = te +
      c.f (F.cmtTdlyTrigDly c.actBank) ∧ c.cmt.txPrev = some p ∧ base < p + c.tMin c.actBank ∧ p + c.tMin c.actBank -
      base ≤ 16 * c.tMin c.actBank)
    ∧ (∃ (c : Chip) (v : Word) (te base p : Nat), c.domainRuns 2 = true ∧ c.Allows .boot R.cmtHost (force F.cmtHostOp
      1 v) ∧ c.f (F.cmtTcfgSrc c.actBank) ≠ 0 ∧ te = c.nowNs ∧ c.issues = true ∧ c.fb (F.ieJcfgFidEn c.actBank) =
      false ∧ (!(c.cmt.events).isEmpty && c.cmt.lastMark.all fun l => decide (c.f (F.ieRepLinesRepLines c.actBank) ≤
      2 * ((c.f F.cmtNextIdId + 2 ^ 32 - l) % 2 ^ 32))) = true ∧ c.sst ≠ sstArmed ∧ c.sst ≠ sstDecided ∧ base = te +
      c.f (F.cmtTdlyTrigDly c.actBank) ∧ c.cmt.txPrev = some p ∧ base < p + c.tMin c.actBank ∧ 16 * c.tMin c.actBank
      < p + c.tMin c.actBank - base)
    ∧ (∃ (c : Chip) (e : Nat) (a b : Bool) (q pos u : Int) (te base : Nat), c.domainRuns 2 = true ∧ e < 2 ∧
      c.cmt.pos.length = 2 ∧ c.cmt.lvl.length = 2 ∧ e = c.webEnc ∧ c.running = true ∧ c.f (F.cmtTcfgSrc c.actBank) =
      0 ∧ quadrature (c.cmt.lvl.getD e (false, false)) (a, b) = some q ∧ (if c.encInv e then -q else q) = 1 ∧ pos =
      toSigned 48 (ofSigned 48 (c.webPos + 1)) ∧ c.cmt.pnext = some u ∧ ge64 (pos * 65536) u = true ∧ ge64 (pos *
      65536) (u + c.pitch16 c.actBank) = false ∧ te = c.countTime e ∧ c.issues = true ∧ c.fb (F.ieJcfgFidEn
      c.actBank) = false ∧ (!(c.cmt.events.filter (ge64 pos)).isEmpty && c.cmt.lastMark.all fun l => decide (c.f
      (F.ieRepLinesRepLines c.actBank) ≤ 2 * ((c.f F.cmtNextIdId + 2 ^ 32 - l) % 2 ^ 32))) = false ∧ c.sst ≠ sstArmed
      ∧ c.sst ≠ sstDecided ∧ base = te + c.f (F.cmtTdlyTrigDly c.actBank) ∧ (∀ p ∈ c.cmt.txPrev, p + c.tMin c.actBank
      ≤ base))
    ∧ (∃ (c : Chip) (e : Nat) (a b : Bool) (q pos u : Int) (te base : Nat), c.domainRuns 2 = true ∧ e < 2 ∧
      c.cmt.pos.length = 2 ∧ c.cmt.lvl.length = 2 ∧ e = c.webEnc ∧ c.running = true ∧ c.f (F.cmtTcfgSrc c.actBank) =
      0 ∧ quadrature (c.cmt.lvl.getD e (false, false)) (a, b) = some q ∧ (if c.encInv e then -q else q) = 1 ∧ pos =
      toSigned 48 (ofSigned 48 (c.webPos + 1)) ∧ c.cmt.pnext = some u ∧ ge64 (pos * 65536) u = true ∧ ge64 (pos *
      65536) (u + c.pitch16 c.actBank) = false ∧ te = c.countTime e ∧ c.issues = true ∧ c.fb (F.ieJcfgFidEn
      c.actBank) = false ∧ (!(c.cmt.events.filter (ge64 pos)).isEmpty && c.cmt.lastMark.all fun l => decide (c.f
      (F.ieRepLinesRepLines c.actBank) ≤ 2 * ((c.f F.cmtNextIdId + 2 ^ 32 - l) % 2 ^ 32))) = true ∧ c.sst ≠ sstArmed
      ∧ c.sst ≠ sstDecided ∧ base = te + c.f (F.cmtTdlyTrigDly c.actBank) ∧ (∀ p ∈ c.cmt.txPrev, p + c.tMin c.actBank
      ≤ base))
    ∧ (∃ (c : Chip) (e : Nat) (a b : Bool) (q pos u : Int) (te base p : Nat), c.domainRuns 2 = true ∧ e < 2 ∧
      c.cmt.pos.length = 2 ∧ c.cmt.lvl.length = 2 ∧ e = c.webEnc ∧ c.running = true ∧ c.f (F.cmtTcfgSrc c.actBank) =
      0 ∧ quadrature (c.cmt.lvl.getD e (false, false)) (a, b) = some q ∧ (if c.encInv e then -q else q) = 1 ∧ pos =
      toSigned 48 (ofSigned 48 (c.webPos + 1)) ∧ c.cmt.pnext = some u ∧ ge64 (pos * 65536) u = true ∧ ge64 (pos *
      65536) (u + c.pitch16 c.actBank) = false ∧ te = c.countTime e ∧ c.issues = true ∧ c.fb (F.ieJcfgFidEn
      c.actBank) = false ∧ (!(c.cmt.events.filter (ge64 pos)).isEmpty && c.cmt.lastMark.all fun l => decide (c.f
      (F.ieRepLinesRepLines c.actBank) ≤ 2 * ((c.f F.cmtNextIdId + 2 ^ 32 - l) % 2 ^ 32))) = false ∧ c.sst ≠ sstArmed
      ∧ c.sst ≠ sstDecided ∧ base = te + c.f (F.cmtTdlyTrigDly c.actBank) ∧ c.cmt.txPrev = some p ∧ base < p + c.tMin
      c.actBank ∧ p + c.tMin c.actBank - base ≤ 16 * c.tMin c.actBank)
    ∧ (∃ (c : Chip) (e : Nat) (a b : Bool) (q pos u : Int) (te base p : Nat), c.domainRuns 2 = true ∧ e < 2 ∧
      c.cmt.pos.length = 2 ∧ c.cmt.lvl.length = 2 ∧ e = c.webEnc ∧ c.running = true ∧ c.f (F.cmtTcfgSrc c.actBank) =
      0 ∧ quadrature (c.cmt.lvl.getD e (false, false)) (a, b) = some q ∧ (if c.encInv e then -q else q) = 1 ∧ pos =
      toSigned 48 (ofSigned 48 (c.webPos + 1)) ∧ c.cmt.pnext = some u ∧ ge64 (pos * 65536) u = true ∧ ge64 (pos *
      65536) (u + c.pitch16 c.actBank) = false ∧ te = c.countTime e ∧ c.issues = true ∧ c.fb (F.ieJcfgFidEn
      c.actBank) = false ∧ (!(c.cmt.events.filter (ge64 pos)).isEmpty && c.cmt.lastMark.all fun l => decide (c.f
      (F.ieRepLinesRepLines c.actBank) ≤ 2 * ((c.f F.cmtNextIdId + 2 ^ 32 - l) % 2 ^ 32))) = true ∧ c.sst ≠ sstArmed
      ∧ c.sst ≠ sstDecided ∧ base = te + c.f (F.cmtTdlyTrigDly c.actBank) ∧ c.cmt.txPrev = some p ∧ base < p + c.tMin
      c.actBank ∧ 16 * c.tMin c.actBank < p + c.tMin c.actBank - base)
    ∧ (∃ (c : Chip) (pk : RxPkt) (n : Nat), c.domainRuns 2 = true ∧ c.domainRuns 4 = true ∧ c.Hears 0x02 pk ∧
      c.follows = true ∧ c.fb F.fcStatWithdrawn = false ∧ n = fieldBE pk.bytes 8 4 ∧ c.logEntry n = none ∧ fieldBE
      pk.bytes 30 1 % 2 = 0)
    ∧ (∃ c : Chip, c.domainRuns 2 = true ∧ c.running = true ∧ c.follows = true ∧ c.cmt.ownDue ≠ []) :=
  ⟨⟨(issuing 1 fun m => { m with due := some 400, txPrev := none, events := [], lastMark := none }), 400, 1400,
    by decide +kernel⟩,
  ⟨(issuing 1 fun m => { m with due := some 400, txPrev := none, events := [-3], lastMark := some 24 }), 400, 1400,
    by decide +kernel⟩,
  ⟨(issuing 1 fun m => { m with due := some 400, txPrev := some 1401, events := [-3], lastMark := some 25 }), 400,
    1400, 1401, by decide +kernel⟩,
  ⟨(issuing 1 fun m => { m with due := some 400, txPrev := some 91400, events := [0], lastMark := none }), 400, 1400,
    91400, by decide +kernel⟩,
  ⟨(issuing 2 fun m => { m with txPrev := none, events := [], lastMark := none }), 0#32, 500, 1500,
    by dsimp only [Chip.Allows]; decide +kernel⟩,
  ⟨(issuing 2 fun m => { m with txPrev := none, events := [-3], lastMark := some 24 }), 0#32, 500, 1500,
    by dsimp only [Chip.Allows]; decide +kernel⟩,
  ⟨(issuing 2 fun m => { m with txPrev := some 1501, events := [-3], lastMark := some 25 }), 0#32, 500, 1500, 1501,
    by dsimp only [Chip.Allows]; decide +kernel⟩,
  ⟨(issuing 2 fun m => { m with txPrev := some 91500, events := [0], lastMark := none }), 0#32, 500, 1500, 91500,
    by dsimp only [Chip.Allows]; decide +kernel⟩,
  ⟨(issuing 0 fun m => { m with pnext := some 65536, txPrev := none, events := [], lastMark := none }), 0, true,
    false, 1, 1, 65536, 496, 1496, by decide +kernel⟩,
  ⟨(issuing 0 fun m => { m with pnext := some 65536, txPrev := none, events := [-3], lastMark := some 24 }), 0, true,
    false, 1, 1, 65536, 496, 1496, by decide +kernel⟩,
  ⟨(issuing 0 fun m => { m with pnext := some 65536, txPrev := some 1497, events := [-3], lastMark := some 25 }), 0,
    true, false, 1, 1, 65536, 496, 1496, 1497, by decide +kernel⟩,
  ⟨(issuing 0 fun m => { m with pnext := some 65536, txPrev := some 91496, events := [0], lastMark := none }), 0,
    true, false, 1, 1, 65536, 496, 1496, 91496, by decide +kernel⟩,
  ⟨(mate 1).sets [(F.cmtStatSource, 0)], trecMsg, 9, by dsimp only [Chip.Takes, Chip.Hears]; decide +kernel⟩,
  ⟨((mate 1).sets [(F.jobStatRun, 1), (F.cmtStatSource, 0)]).modCmt fun m => { m with ownDue := [(1, 2)] },
    by decide +kernel⟩⟩

/-- A pulse in each unit, windows and strobes to end, and a write of an output's mode. -/
theorem witness_PressOutputs :
    (∃ (c : Chip) (k : Nat) (v : Word) (t0 len : Int) (w : OutWin), c.domainRuns 2 = true ∧ k < 24 ∧
      c.cmt.outs.length = 24 ∧ c.Allows .boot R.cmtHost (force F.cmtHostOp 2 v) ∧ c.fb F.fcStatWithdrawn = false ∧
      getBits v 24 5 = k ∧ (c.outS k).wins = [] ∧ t0 = toSigned 64 (c.f F.cmtHostThiTgt * 2 ^ 32 + c.f
      F.cmtHostTloTgt) ∧ len = (getBits v 0 20 : Int) ∧ w = ⟨!bitAt v 29, t0, t0 + if bitAt v 29 then len else len *
      1000⟩ ∧ ge64 (c.outNow k w.time) w.off = false)
    ∧ (∃ (c : Chip) (k : Nat) (v : Word) (t0 len : Int) (w : OutWin), c.domainRuns 2 = true ∧ k < 24 ∧
      c.cmt.outs.length = 24 ∧ c.Allows .boot R.cmtHost (force F.cmtHostOp 2 v) ∧ c.fb F.fcStatWithdrawn = false ∧
      getBits v 24 5 = k ∧ (c.outS k).wins = [] ∧ t0 = toSigned 64 (c.f F.cmtHostThiTgt * 2 ^ 32 + c.f
      F.cmtHostTloTgt) ∧ len = (getBits v 0 20 : Int) ∧ w = ⟨!bitAt v 29, t0, t0 + if bitAt v 29 then len else len *
      1000⟩ ∧ ge64 (c.outNow k w.time) w.off = false)
    ∧ (∃ (c : Chip) (k : Nat), c.domainRuns 2 = true ∧ k < 24 ∧ c.cmt.outs.length = 24 ∧ (∃ w ∈ (c.outS k).wins,
      w.time = true))
    ∧ (∃ (c : Chip) (k : Nat), c.domainRuns 2 = true ∧ k < 24 ∧ c.cmt.outs.length = 24 ∧ (c.outS k).strobes ≠ [])
    ∧ (∃ (c : Chip) (k : Nat) (v : Word), c.domainRuns 2 = true ∧ k < 24 ∧ c.cmt.outs.length = 24 ∧ c.Allows .boot
      (R.cmtOutCfg k) v) :=
  ⟨⟨up.sets [(F.cmtOutCfgMode 23 , 4), (F.cmtHostTloTgt, 7)], 23, 0x17000001#32, 7, 1, ⟨true, 7, 1007⟩,
    by dsimp only [Chip.Allows]; decide +kernel⟩,
  ⟨up.sets [(F.cmtOutCfgMode 23 , 4), (F.cmtHostTloTgt, 7)], 23, 0x37000001#32, 7, 1, ⟨false, 7, 8⟩,
    by dsimp only [Chip.Allows]; decide +kernel⟩,
  ⟨cmtWith [] (fun m => { m with outs := m.outs.set 0 ⟨[⟨true, 1, 2⟩], []⟩ }), 0, by decide +kernel⟩,
  ⟨cmtWith [] (fun m => { m with outs := m.outs.set 23 ⟨[], [⟨true, 1, 2⟩]⟩ }), 23, by decide +kernel⟩,
  ⟨up, 0, 0x80000000#32, by dsimp only [Chip.Allows]; decide +kernel⟩⟩

/-- A channel in each state in which its controls, a ring or a wait act. -/
theorem witness_DmaChannels :
    (∃ (c : Chip) (n : Nat) (v : Word), n < 16 ∧ c.dma.length = 16 ∧ c.domainRuns 1 = true ∧ c.Allows .boot
      (R.dmaChCtrl n) (force (F.dmaChCtrlGo n) 1 v) ∧ bitAt v 30 = false)
    ∧ (∃ (c : Chip) (n : Nat) (v : Word), n < 16 ∧ c.dma.length = 16 ∧ c.domainRuns 1 = true ∧ c.Allows .boot
      (R.dmaChCtrl n) (force (F.dmaChCtrlStop n) 1 v) ∧ bitAt v 31 = false ∧ c.chSt n = dsRun)
    ∧ (∃ (c : Chip) (n : Nat) (v : Word), n < 16 ∧ c.dma.length = 16 ∧ c.domainRuns 1 = true ∧ c.Allows .boot
      (R.dmaChCtrl n) (force (F.dmaChCtrlStop n) 1 v) ∧ bitAt v 31 = false ∧ (c.chSt n = dsWait ∨ c.chSt n = dsPark ∨
      c.chSt n = dsRetry))
    ∧ (∃ (c : Chip) (n : Nat) (i : DmaIns), n < 16 ∧ c.dma.length = 16 ∧ c.domainRuns 1 = true ∧ c.chSt n =
      dsStopping ∧ (c.ch n).rb = false ∧ (c.ch n).cur = some i ∧ (DmaIns.op i = 1 → (c.ch n).done % DmaIns.len i =
      0))
    ∧ (∃ (c : Chip) (n : Nat) (v : Word), n < 16 ∧ c.dma.length = 16 ∧ c.domainRuns 1 = true ∧ c.Allows .boot
      (R.dmaChCtrl n) (force (F.dmaChCtrlDbclr n) 1 v) ∧ bitAt v 31 = false ∧ bitAt v 30 = false)
    ∧ (∃ (c : Chip) (n : Nat) (v : Word), n < 16 ∧ c.dma.length = 16 ∧ c.domainRuns 1 = true ∧ c.Allows .boot
      (R.dmaChDoorbell n) v ∧ c.chSt n = dsPark ∧ 0 < c.f (F.dmaChDbcntDbcnt n) + getBits v 0 16)
    ∧ (∃ (c : Chip) (n : Nat) (v : Word), n < 16 ∧ c.dma.length = 16 ∧ c.domainRuns 1 = true ∧ c.Allows .boot
      (R.dmaChDoorbell n) v ∧ c.chSt n ≠ dsPark ∧ c.chWaits n 1 = none)
    ∧ (∃ (c : Chip) (n : Nat) (v : Word) (i : DmaIns), n < 16 ∧ c.dma.length = 16 ∧ c.domainRuns 1 = true ∧ c.Allows
      .boot (R.dmaChDoorbell n) v ∧ c.chWaits n 1 = some i ∧ getBits i.1 0 16 ≤ c.f (F.dmaChDbcntDbcnt n) + getBits v
      0 16)
    ∧ (∃ (c : Chip) (n : Nat), n < 16 ∧ c.dma.length = 16 ∧ c.domainRuns 1 = true ∧ (c.chWaits n 2).isSome = true ∧
      reached64 c.linearNow (c.ch n).until_.toNat = true)
    ∧ (∃ (c : Chip) (n : Nat) (i : DmaIns), n < 16 ∧ c.dma.length = 16 ∧ c.domainRuns 1 = true ∧ c.chSt n = dsRun ∧
      (c.ch n).rb = false ∧ (c.ch n).cur = some i ∧ DmaIns.bad i = true)
    ∧ (∃ (c : Chip) (n : Nat) (i : DmaIns) (a : Nat), n < 16 ∧ c.dma.length = 16 ∧ c.domainRuns 1 = true ∧ c.chSt n =
      dsRetry ∧ (c.ch n).cur = some i ∧ DmaIns.op i = 7 ∧ (c.ch n).rb = true ∧ (c.ch n).last = some a ∧ pickStatus
      (c.windowChecks (.dma n) a 4 false) = 0 ∧ c.ecc = []) :=
  ⟨⟨up, 15, 0#32, by dsimp only [Chip.Allows]; decide +kernel⟩,
  ⟨dmaIn 0 dsRun none [] id, 0, 0#32, by dsimp only [Chip.Allows]; decide +kernel⟩,
  ⟨dmaIn 15 dsPark none [] id, 15, 0#32, by dsimp only [Chip.Allows]; decide +kernel⟩,
  ⟨dmaIn 3 dsStopping (some (ins 0x10000000#32 1#32 0#32 0#32)) [] (fun d => { d with done := 4 }), 3, ins
    0x10000000#32 1#32 0#32 0#32, by decide +kernel⟩,
  ⟨up, 0, 0#32, by dsimp only [Chip.Allows]; decide +kernel⟩,
  ⟨dmaIn 15 dsPark none [] id, 15, 1#32, by dsimp only [Chip.Allows]; decide +kernel⟩,
  ⟨up, 0, 0xFFFF#32, by dsimp only [Chip.Allows]; decide +kernel⟩,
  ⟨dmaIn 7 dsWait (some (ins 0x30000000#32 1#32 0#32 3#32)) [] id, 7, 3#32, ins 0x30000000#32 1#32 0#32 3#32,
    by dsimp only [Chip.Allows]; decide +kernel⟩,
  ⟨dmaIn 7 dsWait (some (ins 0x30000000#32 2#32 0#32 0#32)) [] id, 7, by decide +kernel⟩,
  ⟨dmaIn 15 dsRun (some (ins 0xF0000000#32 0#32 0#32 0#32)) [] id, 15, ins 0xF0000000#32 0#32 0#32 0#32,
    by decide +kernel⟩,
  ⟨dmaIn 0 dsRetry (some (ins 0x70000000#32 0#32 0#32 0#32)) [] (fun d =>
    { d with rb := true, last := some 0x1000000 }), 0, ins 0x70000000#32 0#32 0#32 0#32, 0x1000000,
    by decide +kernel⟩⟩

/-- Each instruction in each of its cases, and read-backs that pass and fail. -/
theorem witness_DmaPrograms :
    (∃ (c : Chip) (n : Nat) (i : DmaIns), n < 16 ∧ c.dma.length = 16 ∧ c.domainRuns 1 = true ∧ c.chSt n = dsRun ∧
      (c.ch n).cur = some i ∧ (c.ch n).rb = false ∧ DmaIns.op i = 1 ∧ DmaIns.bad i = false ∧ (c.ch n).slots = [] ∧
      (c.ch n).done = 0 ∧ (c.ch n).loops = List.replicate 3 (1, 0, 0) ∧ 64 ≤ c.dmaUsed)
    ∧ (∃ (c : Chip) (n : Nat) (i : DmaIns) (n0 n1 n2 : Nat) (s0 d0 s1 d1 s2 d2 : Int) (e len a b : Nat), n < 16 ∧
      c.dma.length = 16 ∧ c.domainRuns 1 = true ∧ c.chSt n = dsRun ∧ (c.ch n).cur = some i ∧ (c.ch n).rb = false ∧
      DmaIns.op i = 1 ∧ DmaIns.bad i = false ∧ (c.ch n).slots = [] ∧ 1 ≤ c.f (F.dmaChCfgSlots n) ∧ c.dmaUsed < 64 ∧
      (∀ m < 16, m ≠ n → c.chWants m = false) ∧ c.ecc = [] ∧ (c.ch n).loops = [(n0, s0, d0), (n1, s1, d1), (n2, s2,
      d2)] ∧ len = DmaIns.len i ∧ (c.ch n).done = e * len ∧ e < n0 * n1 * n2 ∧ a < 2 ^ 40 ∧ b < 2 ^ 40 ∧ (a : Int) =
      DmaIns.src i + (e % n0 : Nat) * s0 + (e / n0 % n1 : Nat) * s1 + (e / n0 / n1 : Nat) * s2 ∧ (b : Int) =
      DmaIns.dst i + (e % n0 : Nat) * d0 + (e / n0 % n1 : Nat) * d1 + (e / n0 / n1 : Nat) * d2 ∧ (a + 4 * len ≤ b ∨ b
      + 4 * len ≤ a) ∧ (∀ k < len, memAddr (a + 4 * k) = true ∧ memAddr (b + 4 * k) = true ∧ pickStatus
      (c.windowChecks (.dma n) (a + 4 * k) 4 false) = 0 ∧ pickStatus (c.windowChecks (.dma n) (b + 4 * k) 4 true) =
      0) ∧ bitAt i.2.2.2 27 = false ∧ bitAt i.2.2.2 26 = false)
    ∧ (∃ (c : Chip) (n : Nat) (i : DmaIns) (n0 n1 n2 : Nat) (s0 d0 s1 d1 s2 d2 : Int) (e len a b : Nat), n < 16 ∧
      c.dma.length = 16 ∧ c.domainRuns 1 = true ∧ c.chSt n = dsRun ∧ (c.ch n).cur = some i ∧ (c.ch n).rb = false ∧
      DmaIns.op i = 1 ∧ DmaIns.bad i = false ∧ (c.ch n).slots = [] ∧ 1 ≤ c.f (F.dmaChCfgSlots n) ∧ c.dmaUsed < 64 ∧
      (∀ m < 16, m ≠ n → c.chWants m = false) ∧ c.ecc = [] ∧ (c.ch n).loops = [(n0, s0, d0), (n1, s1, d1), (n2, s2,
      d2)] ∧ len = DmaIns.len i ∧ (c.ch n).done = e * len ∧ e < n0 * n1 * n2 ∧ a < 2 ^ 40 ∧ b < 2 ^ 40 ∧ (a : Int) =
      DmaIns.src i + (e % n0 : Nat) * s0 + (e / n0 % n1 : Nat) * s1 + (e / n0 / n1 : Nat) * s2 ∧ (b : Int) =
      DmaIns.dst i + (e % n0 : Nat) * d0 + (e / n0 % n1 : Nat) * d1 + (e / n0 / n1 : Nat) * d2 ∧ (a + 4 ≤ b ∨ b + 4 ≤
      a) ∧ (∀ k < len, memAddr a = true ∧ memAddr b = true ∧ pickStatus (c.windowChecks (.dma n) a 4 false) = 0 ∧
      pickStatus (c.windowChecks (.dma n) b 4 true) = 0) ∧ bitAt i.2.2.2 27 = true ∧ bitAt i.2.2.2 26 = true)
    ∧ (∃ (c : Chip) (n : Nat) (i : DmaIns) (n0 n1 n2 : Nat) (s0 d0 s1 d1 s2 d2 : Int) (e len a b : Nat) (w : Word), n
      < 16 ∧ c.dma.length = 16 ∧ c.domainRuns 1 = true ∧ c.chSt n = dsRun ∧ (c.ch n).cur = some i ∧ (c.ch n).rb =
      false ∧ DmaIns.op i = 1 ∧ DmaIns.bad i = false ∧ (c.ch n).slots = [] ∧ 1 ≤ c.f (F.dmaChCfgSlots n) ∧ c.dmaUsed
      < 64 ∧ (∀ m < 16, m ≠ n → c.chWants m = false) ∧ c.ecc = [] ∧ (c.ch n).loops = [(n0, s0, d0), (n1, s1, d1),
      (n2, s2, d2)] ∧ len = DmaIns.len i ∧ (c.ch n).done = e * len ∧ e < n0 * n1 * n2 ∧ a < 2 ^ 40 ∧ b < 2 ^ 40 ∧ (a
      : Int) = DmaIns.src i + (e % n0 : Nat) * s0 + (e / n0 % n1 : Nat) * s1 + (e / n0 / n1 : Nat) * s2 ∧ (b : Int) =
      DmaIns.dst i + (e % n0 : Nat) * d0 + (e / n0 % n1 : Nat) * d1 + (e / n0 / n1 : Nat) * d2 ∧ len = 1 ∧ memAddr a
      = true ∧ memAddr b = false ∧ ¬(0x50000 ≤ b ∧ b < 0x60000) ∧ b ≠ R.scpSum ∧ b % 4 = 0 ∧ plainReg b ∧ pickStatus
      (c.windowChecks (.dma n) a 4 false) = 0 ∧ w = BitVec.ofNat 32 (natOfLE (c.bytes a 4)) ∧ c.Allows (.dma n) b w ∧
      (regAt b).isSome = true)
    ∧ (∃ (c : Chip) (n : Nat) (i : DmaIns) (n0 n1 n2 : Nat) (s0 d0 s1 d1 s2 d2 : Int) (e len a b : Nat), n < 16 ∧
      c.dma.length = 16 ∧ c.domainRuns 1 = true ∧ c.chSt n = dsRun ∧ (c.ch n).cur = some i ∧ (c.ch n).rb = false ∧
      DmaIns.op i = 1 ∧ DmaIns.bad i = false ∧ (c.ch n).slots = [] ∧ 1 ≤ c.f (F.dmaChCfgSlots n) ∧ c.dmaUsed < 64 ∧
      (∀ m < 16, m ≠ n → c.chWants m = false) ∧ c.ecc = [] ∧ (c.ch n).loops = [(n0, s0, d0), (n1, s1, d1), (n2, s2,
      d2)] ∧ len = DmaIns.len i ∧ (c.ch n).done = e * len ∧ e < n0 * n1 * n2 ∧ a < 2 ^ 40 ∧ b < 2 ^ 40 ∧ (a : Int) =
      DmaIns.src i + (e % n0 : Nat) * s0 + (e / n0 % n1 : Nat) * s1 + (e / n0 / n1 : Nat) * s2 ∧ (b : Int) =
      DmaIns.dst i + (e % n0 : Nat) * d0 + (e / n0 % n1 : Nat) * d1 + (e / n0 / n1 : Nat) * d2 ∧ len = 1 ∧ memAddr a
      = false ∧ memAddr b = true ∧ ¬(0x50000 ≤ a ∧ a < 0x60000) ∧ a ≠ R.scpSum ∧ a % 4 = 0 ∧ plainRead a ∧ pickStatus
      (c.windowChecks (.dma n) b 4 true) = 0 ∧ c.AllowsRead (.dma n) a ∧ (regAt a).isSome = true)
    ∧ (∃ (c : Chip) (n : Nat) (i : DmaIns), n < 16 ∧ c.dma.length = 16 ∧ c.domainRuns 1 = true ∧ c.chSt n = dsRun ∧
      (c.ch n).cur = some i ∧ (c.ch n).rb = false ∧ DmaIns.op i = 2 ∧ DmaIns.bad i = false)
    ∧ (∃ (c : Chip) (n : Nat) (i : DmaIns), n < 16 ∧ c.dma.length = 16 ∧ c.domainRuns 1 = true ∧ c.chSt n = dsRun ∧
      (c.ch n).cur = some i ∧ (c.ch n).rb = false ∧ DmaIns.op i = 3 ∧ DmaIns.mode i = 0 ∧ bitAt i.1 8 = true ∧ c.fb
      ⟨R.dmaChEvseen n, getBits i.1 0 5, 1⟩ = true)
    ∧ (∃ (c : Chip) (n : Nat) (i : DmaIns), n < 16 ∧ c.dma.length = 16 ∧ c.domainRuns 1 = true ∧ c.chSt n = dsRun ∧
      (c.ch n).cur = some i ∧ (c.ch n).rb = false ∧ DmaIns.op i = 3 ∧ DmaIns.mode i = 0 ∧ bitAt i.1 8 = true ∧ c.fb
      ⟨R.dmaChEvseen n, getBits i.1 0 5, 1⟩ = false)
    ∧ (∃ (c : Chip) (n : Nat) (i : DmaIns), n < 16 ∧ c.dma.length = 16 ∧ c.domainRuns 1 = true ∧ c.chSt n = dsRun ∧
      (c.ch n).cur = some i ∧ (c.ch n).rb = false ∧ DmaIns.op i = 3 ∧ DmaIns.mode i = 0 ∧ bitAt i.1 8 = false)
    ∧ (∃ (c : Chip) (n : Nat) (i : DmaIns), n < 16 ∧ c.dma.length = 16 ∧ c.domainRuns 1 = true ∧ c.chSt n = dsRun ∧
      (c.ch n).cur = some i ∧ (c.ch n).rb = false ∧ DmaIns.op i = 3 ∧ DmaIns.mode i = 1 ∧ getBits i.1 0 16 ≠ 0 ∧
      getBits i.1 0 16 ≤ c.f (F.dmaChDbcntDbcnt n))
    ∧ (∃ (c : Chip) (n : Nat) (i : DmaIns), n < 16 ∧ c.dma.length = 16 ∧ c.domainRuns 1 = true ∧ c.chSt n = dsRun ∧
      (c.ch n).cur = some i ∧ (c.ch n).rb = false ∧ DmaIns.op i = 3 ∧ DmaIns.mode i = 1 ∧ getBits i.1 0 16 ≠ 0 ∧ c.f
      (F.dmaChDbcntDbcnt n) < getBits i.1 0 16)
    ∧ (∃ (c : Chip) (n : Nat) (i : DmaIns), n < 16 ∧ c.dma.length = 16 ∧ c.domainRuns 1 = true ∧ c.chSt n = dsRun ∧
      (c.ch n).cur = some i ∧ (c.ch n).rb = false ∧ DmaIns.op i = 3 ∧ DmaIns.mode i = 2 ∧ timeFar c.linearNow
      (timeTarget c.linearNow (DmaIns.time i) (bitAt i.2.2.1 3)) = true)
    ∧ (∃ (c : Chip) (n : Nat) (i : DmaIns), n < 16 ∧ c.dma.length = 16 ∧ c.domainRuns 1 = true ∧ c.chSt n = dsRun ∧
      (c.ch n).cur = some i ∧ (c.ch n).rb = false ∧ DmaIns.op i = 3 ∧ DmaIns.mode i = 2 ∧ timeFar c.linearNow
      (timeTarget c.linearNow (DmaIns.time i) (bitAt i.2.2.1 3)) = false ∧ reached64 c.linearNow (timeTarget
      c.linearNow (DmaIns.time i) (bitAt i.2.2.1 3)) = true)
    ∧ (∃ (c : Chip) (n : Nat) (i : DmaIns), n < 16 ∧ c.dma.length = 16 ∧ c.domainRuns 1 = true ∧ c.chSt n = dsRun ∧
      (c.ch n).cur = some i ∧ (c.ch n).rb = false ∧ DmaIns.op i = 3 ∧ DmaIns.mode i = 2 ∧ timeFar c.linearNow
      (timeTarget c.linearNow (DmaIns.time i) (bitAt i.2.2.1 3)) = false ∧ reached64 c.linearNow (timeTarget
      c.linearNow (DmaIns.time i) (bitAt i.2.2.1 3)) = false)
    ∧ (∃ (c : Chip) (n : Nat) (i : DmaIns), n < 16 ∧ c.dma.length = 16 ∧ c.domainRuns 1 = true ∧ c.chSt n = dsRun ∧
      (c.ch n).cur = some i ∧ (c.ch n).rb = false ∧ DmaIns.op i = 4 ∧ (c.ch n).last = none)
    ∧ (∃ (c : Chip) (n : Nat) (i : DmaIns) (m : Nat), n < 16 ∧ c.dma.length = 16 ∧ c.domainRuns 1 = true ∧ c.chSt n =
      dsRun ∧ (c.ch n).cur = some i ∧ m < 16 ∧ c.chSt m ≠ dsIdle ∧ c.chWaits m 0 = none)
    ∧ (∃ (c : Chip) (n : Nat) (i : DmaIns), n < 16 ∧ c.dma.length = 16 ∧ c.domainRuns 1 = true ∧ c.chSt n = dsRun ∧
      (c.ch n).cur = some i ∧ (c.ch n).rb = false ∧ DmaIns.op i = 5)
    ∧ (∃ (c : Chip) (n : Nat) (i : DmaIns), n < 16 ∧ c.dma.length = 16 ∧ c.domainRuns 1 = true ∧ c.chSt n = dsRun ∧
      (c.ch n).cur = some i ∧ (c.ch n).rb = false ∧ DmaIns.op i = 6 ∧ 1 ≤ c.f (F.dmaChDbcntDbcnt n))
    ∧ (∃ (c : Chip) (n : Nat) (i : DmaIns), n < 16 ∧ c.dma.length = 16 ∧ c.domainRuns 1 = true ∧ c.chSt n = dsRun ∧
      (c.ch n).cur = some i ∧ (c.ch n).rb = false ∧ DmaIns.op i = 6 ∧ c.f (F.dmaChDbcntDbcnt n) = 0)
    ∧ (∃ (c : Chip) (n : Nat) (i : DmaIns), n < 16 ∧ c.dma.length = 16 ∧ c.domainRuns 1 = true ∧ c.chSt n = dsRun ∧
      (c.ch n).cur = some i ∧ (c.ch n).rb = false ∧ DmaIns.op i = 7 ∧ (c.ch n).last = none)
    ∧ (∃ (c : Chip) (n : Nat) (i : DmaIns), n < 16 ∧ c.dma.length = 16 ∧ c.domainRuns 1 = true ∧ c.chSt n = dsRun ∧
      (c.ch n).cur = some i ∧ (c.ch n).rb = false ∧ DmaIns.op i = 7 ∧ (c.ch n).last ≠ none)
    ∧ (∃ (c : Chip) (n : Nat) (i : DmaIns) (a x : Nat), n < 16 ∧ c.dma.length = 16 ∧ c.domainRuns 1 = true ∧ c.chSt n
      = dsRun ∧ (c.ch n).cur = some i ∧ (c.ch n).rb = true ∧ (c.ch n).last = some a ∧ c.ecc = [] ∧ x = pickStatus
      (c.windowChecks (.dma n) a 4 false) ∧ x = 0 ∧ DmaIns.op i = 7)
    ∧ (∃ (c : Chip) (n : Nat) (i : DmaIns) (a x : Nat), n < 16 ∧ c.dma.length = 16 ∧ c.domainRuns 1 = true ∧ c.chSt n
      = dsRun ∧ (c.ch n).cur = some i ∧ (c.ch n).rb = true ∧ (c.ch n).last = some a ∧ c.ecc = [] ∧ x = pickStatus
      (c.windowChecks (.dma n) a 4 false) ∧ x = 0 ∧ DmaIns.op i = 4)
    ∧ (∃ (c : Chip) (n : Nat) (i : DmaIns) (a x : Nat), n < 16 ∧ c.dma.length = 16 ∧ c.domainRuns 1 = true ∧ c.chSt n
      = dsRun ∧ (c.ch n).cur = some i ∧ (c.ch n).rb = true ∧ (c.ch n).last = some a ∧ c.ecc = [] ∧ x = pickStatus
      (c.windowChecks (.dma n) a 4 false) ∧ x ≠ 0 ∧ x < 256 ∧ (c.ch n).tries < c.f F.dmaRetryMaxMax ∧ a < 2 ^ 40 ∧
      (c.ch n).tries < 15) :=
  ⟨⟨(dmaIn 15 dsRun (some (ins 0x10000000#32 0x00000001#32 0x1000100#32 0x1000000#32)) [] id).modCh 0 (fun d =>
    { d with slots := List.replicate 64 [] }), 15, ins 0x10000000#32 0x00000001#32 0x1000100#32 0x1000000#32,
    by decide +kernel⟩,
  ⟨(dmaIn 15 dsRun (some (ins 0x10000000#32 0x00000001#32 0x1000800#32 0x1000000#32)) [(F.dmaChCfgSlots 15, 1)] fun d
    => { d with done := 10, loops := [(2, 8, 16), (3, 64, 128), (2, 1024, 2048)] }), 15, ins 0x10000000#32
    0x00000001#32 0x1000800#32 0x1000000#32, 2, 3, 2, 8, 16, 64, 128, 1024, 2048, 5, 2, 0x1000000 + 8 + 2 * 64,
    0x1000800 + 16 + 2 * 128, by decide +kernel⟩,
  ⟨(dmaIn 15 dsRun (some (ins 0x1C000000#32 0x00000001#32 0x1000800#32 0x1000000#32)) [(F.dmaChCfgSlots 15, 1)] fun d
    => { d with done := 22, loops := [(2, 8, 16), (3, 64, 128), (2, 1024, 2048)] }), 15, ins 0x1C000000#32
    0x00000001#32 0x1000800#32 0x1000000#32, 2, 3, 2, 8, 16, 64, 128, 1024, 2048, 11, 2, 0x1000000 + 8 + 2 * 64 +
    1024, 0x1000800 + 16 + 2 * 128 + 2048, by decide +kernel⟩,
  ⟨(dmaIn 15 dsRun (some (ins 0x10000000#32 0#32 (BitVec.ofNat 32 R.scpIntEn) 0x1000000#32)) [(F.dmaChCfgSlots 15,
    1)] fun d => { d with done := 0, loops := [(1, 0, 0), (1, 0, 0), (1, 0, 0)] }), 15, ins 0x10000000#32 0#32
    (BitVec.ofNat 32 R.scpIntEn) 0x1000000#32, 1, 1, 1, 0, 0, 0, 0, 0, 0, 0, 1, 0x1000000, R.scpIntEn, 0#32,
    by dsimp only [Chip.Allows, plainReg]; decide +kernel⟩,
  ⟨(dmaIn 15 dsRun (some (ins 0x10000000#32 0#32 0x1000000#32 (BitVec.ofNat 32 R.scpIntEn))) [(F.dmaChCfgSlots 15,
    1)] fun d => { d with done := 0, loops := [(1, 0, 0), (1, 0, 0), (1, 0, 0)] }), 15, ins 0x10000000#32 0#32
    0x1000000#32 (BitVec.ofNat 32 R.scpIntEn), 1, 1, 1, 0, 0, 0, 0, 0, 0, 0, 1, R.scpIntEn, 0x1000000,
    by dsimp only [Chip.AllowsRead, plainRead]; (repeat' apply And.intro); all_goals decide +kernel⟩,
  ⟨dmaIn 15 dsRun (some (ins 0x20000000#32 0x02000007#32 4#32 8#32)) [] id, 15, ins 0x20000000#32 0x02000007#32 4#32
    8#32, by decide +kernel⟩,
  ⟨dmaIn 15 dsRun (some (ins 0x30000000#32 0#32 0#32 0x11F#32)) [(⟨R.dmaChEvseen 15, 31, 1⟩, 1)] id, 15, ins
    0x30000000#32 0#32 0#32 0x11F#32, by decide +kernel⟩,
  ⟨dmaIn 15 dsRun (some (ins 0x30000000#32 0#32 0#32 0x100#32)) [] id, 15, ins 0x30000000#32 0#32 0#32 0x100#32,
    by decide +kernel⟩,
  ⟨dmaIn 15 dsRun (some (ins 0x30000000#32 0#32 0#32 0#32)) [] id, 15, ins 0x30000000#32 0#32 0#32 0#32,
    by decide +kernel⟩,
  ⟨dmaIn 15 dsRun (some (ins 0x30000000#32 1#32 0#32 3#32)) [(F.dmaChDbcntDbcnt 15, 3)] id, 15, ins 0x30000000#32
    1#32 0#32 3#32, by decide +kernel⟩,
  ⟨dmaIn 15 dsRun (some (ins 0x30000000#32 1#32 0#32 3#32)) [(F.dmaChDbcntDbcnt 15, 2)] id, 15, ins 0x30000000#32
    1#32 0#32 3#32, by decide +kernel⟩,
  ⟨dmaIn 15 dsRun (some (ins 0x30000000#32 2#32 0x40000000#32 0#32)) [] id, 15, ins 0x30000000#32 2#32 0x40000000#32
    0#32, by decide +kernel⟩,
  ⟨dmaIn 15 dsRun (some (ins 0x30000000#32 2#32 0#32 0#32)) [] id, 15, ins 0x30000000#32 2#32 0#32 0#32,
    by decide +kernel⟩,
  ⟨dmaIn 15 dsRun (some (ins 0x30000000#32 10#32 0#32 1#32)) [] id, 15, ins 0x30000000#32 10#32 0#32 1#32,
    by decide +kernel⟩,
  ⟨dmaIn 15 dsRun (some (ins 0x40000000#32 0#32 0#32 31#32)) [] id, 15, ins 0x40000000#32 0#32 0#32 31#32,
    by decide +kernel⟩,
  ⟨dmaIn 15 dsRun (some (ins 0x40000000#32 0#32 0#32 31#32)) [] id, 15, ins 0x40000000#32 0#32 0#32 31#32, 15,
    by decide +kernel⟩,
  ⟨dmaIn 15 dsRun (some (ins 0x50000000#32 0#32 0#32 0xFFFFFFFF#32)) [] id, 15, ins 0x50000000#32 0#32 0#32
    0xFFFFFFFF#32, by decide +kernel⟩,
  ⟨dmaIn 15 dsRun (some (ins 0x60000000#32 0#32 0#32 0#32)) [(F.dmaChDbcntDbcnt 15, 1)] id, 15, ins 0x60000000#32
    0#32 0#32 0#32, by decide +kernel⟩,
  ⟨dmaIn 15 dsRun (some (ins 0x60000000#32 0#32 0#32 0#32)) [] id, 15, ins 0x60000000#32 0#32 0#32 0#32,
    by decide +kernel⟩,
  ⟨dmaIn 15 dsRun (some (ins 0x70000000#32 0#32 0#32 0#32)) [] id, 15, ins 0x70000000#32 0#32 0#32 0#32,
    by decide +kernel⟩,
  ⟨dmaIn 15 dsRun (some (ins 0x70000000#32 0#32 0#32 0#32)) [] (fun d => { d with last := some 0x1000000 }), 15, ins
    0x70000000#32 0#32 0#32 0#32, by decide +kernel⟩,
  ⟨dmaIn 15 dsRun (some (ins 0x70000000#32 0#32 0#32 0#32)) [(F.dmaRetryMaxMax, 3)] (fun d =>
    { d with rb := true, last := some 0x1000000 }), 15, ins 0x70000000#32 0#32 0#32 0#32, 0x1000000, 0,
    by decide +kernel⟩,
  ⟨dmaIn 15 dsRun (some (ins 0x40000000#32 0#32 0#32 0#32)) [(F.dmaRetryMaxMax, 3)] (fun d =>
    { d with rb := true, last := some 0x1000000 }), 15, ins 0x40000000#32 0#32 0#32 0#32, 0x1000000, 0,
    by decide +kernel⟩,
  ⟨dmaIn 15 dsRun (some (ins 0x40000000#32 0#32 0#32 0#32)) [(F.dmaRetryMaxMax, 3)] (fun d =>
    { d with rb := true, last := some 0x4000000 }), 15, ins 0x40000000#32 0#32 0#32 0#32, 0x4000000, 2,
    by decide +kernel⟩⟩

/-- A unit that takes a word, closes with and without a mismatch, runs and drops, and a queue in each part of a
packet. -/
theorem witness_UnitsAndQueues :
    (∃ (c : Chip) (n : Nat) (v : Word), n < 8 ∧ c.cvus.length = 8 ∧ c.domainRuns 1 = true ∧ c.Allows .boot (R.cvuData
      n) v)
    ∧ (∃ (c : Chip) (n : Nat) (v : Word), n < 8 ∧ c.cvus.length = 8 ∧ c.domainRuns 1 = true ∧ c.Allows .boot
      (R.cvuCtrl n) (force (F.cvuCtrlClose n) 1 v) ∧ bitAt v 31 = false ∧ bitAt v 29 = false ∧ c.f (F.cvuStatOwner n)
      ≠ 2 ∧ (c.cvu n).words ≠ 0 ∧ (c.fb (F.cvuCfgCmpEn n) = true ∧ ((cvuResult (c.f (F.cvuCfgAlg n)) (c.cvu
      n).crc).toNat % 2 ^ 32 ≠ c.f (F.cvuExpLoExp n) ∨ (cvuResult (c.f (F.cvuCfgAlg n)) (c.cvu n).crc).toNat / 2 ^ 32
      ≠ c.f (F.cvuExpHiExp n))))
    ∧ (∃ (c : Chip) (n : Nat) (v : Word), n < 8 ∧ c.cvus.length = 8 ∧ c.domainRuns 1 = true ∧ c.Allows .boot
      (R.cvuCtrl n) (force (F.cvuCtrlClose n) 1 v) ∧ bitAt v 31 = false ∧ bitAt v 29 = false ∧ c.f (F.cvuStatOwner n)
      ≠ 2 ∧ (c.cvu n).words ≠ 0 ∧ ¬(c.fb (F.cvuCfgCmpEn n) = true ∧ ((cvuResult (c.f (F.cvuCfgAlg n)) (c.cvu
      n).crc).toNat % 2 ^ 32 ≠ c.f (F.cvuExpLoExp n) ∨ (cvuResult (c.f (F.cvuCfgAlg n)) (c.cvu n).crc).toNat / 2 ^ 32
      ≠ c.f (F.cvuExpHiExp n))) ∧ c.f (F.cvuCfgAlvW n) = 0)
    ∧ (∃ (c : Chip) (n : Nat) (v : Word), n < 8 ∧ c.cvus.length = 8 ∧ c.domainRuns 1 = true ∧ c.Allows .boot
      (R.cvuCtrl n) (force (F.cvuCtrlGo n) 1 v) ∧ bitAt v 30 = false ∧ bitAt v 29 = false ∧ c.fb (F.cvuCfgMode n) =
      true)
    ∧ (∃ (c : Chip) (n : Nat) (v : Word), n < 8 ∧ c.cvus.length = 8 ∧ c.domainRuns 1 = true ∧ c.Allows .boot
      (R.cvuCtrl n) (force (F.cvuCtrlAbort n) 1 v) ∧ bitAt v 31 = false ∧ bitAt v 30 = false)
    ∧ (∃ (c : Chip) (n a k : Nat), n < 8 ∧ c.cvus.length = 8 ∧ c.domainRuns 1 = true ∧ c.f (F.cvuStatOwner n) = 2 ∧ a
      = c.f (F.cvuAddrHiAddr n) * 2 ^ 32 + c.f (F.cvuAddrLoAddr n) * 4 ∧ k = c.f (F.cvuLen4Words n) ∧ 0 < k ∧ (c.cvu
      n).done = 0 ∧ (c.cvu n).words = 0 ∧ (c.cvu n).crc = BitVec.allOnes 64 ∧ c.ecc = [])
    ∧ (∃ (c : Chip) (n a k word : Nat), n < 8 ∧ c.cvus.length = 8 ∧ c.domainRuns 1 = true ∧ c.f (F.cvuStatOwner n) =
      2 ∧ a = c.f (F.cvuAddrHiAddr n) * 2 ^ 32 + c.f (F.cvuAddrLoAddr n) * 4 ∧ k = c.f (F.cvuLen4Words n) ∧ meets (8
      * word) 8 a (4 * k) = true)
    ∧ (∃ (c : Chip) (n : Nat) (v : Word), n < 4 ∧ c.eqs.length = 4 ∧ c.Allows .boot (R.eqWcmd n) (force (F.eqWcmdOp
      n) 1 v) ∧ (c.eq n).pkts.sum + 1 ≤ 8191)
    ∧ (∃ (c : Chip) (n : Nat) (v : Word), n < 4 ∧ c.eqs.length = 4 ∧ c.Allows .boot (R.eqWdata n) v ∧ (c.eq
      n).pkts.sum + (8 + ((c.eq n).data.length + 4) + 31) / 32 ≤ 8191)
    ∧ (∃ (c : Chip) (n : Nat) (v : Word), n < 4 ∧ c.eqs.length = 4 ∧ c.Allows .boot (R.eqWcmd n) (force (F.eqWcmdOp
      n) 2 v) ∧ (c.eq n).data.length ≤ 2040)
    ∧ (∃ (c : Chip) (n : Nat) (v : Word), n < 4 ∧ c.eqs.length = 4 ∧ c.Allows .boot (R.eqWcmd n) (force (F.eqWcmdOp
      n) 3 v))
    ∧ (∃ (c : Chip) (n : Nat) (v : Word) (k : Nat) (rest : List Nat), n < 4 ∧ c.eqs.length = 4 ∧ c.Allows .boot
      (R.eqPop n) v ∧ (c.eq n).pkts = k :: rest) :=
  ⟨⟨up, 7, 5#32, by dsimp only [Chip.Allows]; decide +kernel⟩,
  ⟨cvuWith 0 [(F.cvuStatOwner 0, 1), (F.cvuCfgCmpEn 0, 1), (F.cvuExpLoExp 0, 1), (F.cvuExpHiExp 0, 1)] (fun u =>
    { u with words := 1 }), 0, 0#32, by dsimp only [Chip.Allows]; decide +kernel⟩,
  ⟨cvuWith 7 [(F.cvuStatOwner 7, 1)] (fun u => { u with words := 2 }), 7, 0#32,
    by dsimp only [Chip.Allows]; decide +kernel⟩,
  ⟨up.sets [(F.cvuCfgMode 0, 1), (F.cvuLen4Words 0, 1), (F.cvuAddrLoAddr 0, 0x400000)], 0, 0#32,
    by dsimp only [Chip.Allows]; decide +kernel⟩,
  ⟨up.sets [(F.cvuStatOwner 7, 1)], 7, 0#32, by dsimp only [Chip.Allows]; decide +kernel⟩,
  ⟨up.sets [(F.cvuStatOwner 0, 2), (F.cvuLen4Words 0, 2), (F.cvuAddrLoAddr 0, 0x400000)], 0, 0x1000000, 2,
    by decide +kernel⟩,
  ⟨up.sets [(F.cvuStatOwner 7, 2), (F.cvuLen4Words 7, 2), (F.cvuAddrLoAddr 7, 0x400000)], 7, 0x1000000, 2, 0x200000,
    by decide +kernel⟩,
  ⟨eqWith 3 [] (fun q => { q with pkts := [8190] }), 3, 0#32, by dsimp only [Chip.Allows]; decide +kernel⟩,
  ⟨eqWith 0 [(F.eqStatOwner 0, srcTag .boot % 256)] id, 0, 9#32, by dsimp only [Chip.Allows]; decide +kernel⟩,
  ⟨eqWith 3 [(F.eqStatOwner 3, srcTag .boot % 256)] (fun q => { q with data := [1#8, 2#8, 3#8, 4#8] }), 3, 1#32,
    by dsimp only [Chip.Allows]; decide +kernel⟩,
  ⟨eqWith 0 [(F.eqStatOwner 0, srcTag .boot % 256)] id, 0, 0#32, by dsimp only [Chip.Allows]; decide +kernel⟩,
  ⟨eqWith 3 [(F.eqRseqQseq 3, 5)] (fun q => { q with pkts := [2, 1] }), 3, 5#32, 2, [1],
    by dsimp only [Chip.Allows]; decide +kernel⟩⟩

/-- A write of every bit of FC_PEND. -/
theorem witness_PendingFaults :
    ∃ (c : Chip) (v : Word), c.Allows .boot R.fcPend v ∧ c.fc.holders.length = 9 :=
  ⟨up, 0x1FF#32, by dsimp only [Chip.Allows]; decide +kernel⟩

/-- A fault injected first and after another, the fault registers cleared, a withdrawal, its end and its resumption,
and engines that wear and do not. -/
theorem witness_FaultsAndWear :
    (∃ (c : Chip) (v : Word), c.domainRuns 1 = true ∧ c.Allows .boot R.fcInject (force F.fcInjectGo 1 v) ∧ c.Quiet ∧
      c.mgmtRuns = true ∧ srcLevels (getBits v 16 8) false = some (1, none) ∧ c.fb (F.fcPendC (getBits v 16 8 / 16))
      = false ∧ c.fb F.fcFirstValid = false)
    ∧ (∃ (c : Chip) (v : Word), c.domainRuns 1 = true ∧ c.Allows .boot R.fcInject (force F.fcInjectGo 1 v) ∧ c.Quiet
      ∧ c.mgmtRuns = true ∧ srcLevels (getBits v 16 8) false = some (1, none) ∧ c.fb (F.fcPendC (getBits v 16 8 /
      16)) = false ∧ c.fb F.fcFirstValid = true)
    ∧ (∃ (c : Chip) (v : Word), c.domainRuns 1 = true ∧ c.Allows .boot R.fcCtrl (force F.fcCtrlFirstClr 1 v) ∧ bitAt
      v 30 = false ∧ bitAt v 29 = false)
    ∧ (∃ (c : Chip) (v : Word), c.domainRuns 1 = true ∧ c.Allows .boot R.fcCtrl (force F.fcCtrlWithdraw 1 v) ∧ bitAt
      v 30 = false ∧ c.fb F.fcStatWithdrawn = false ∧ c.domainRuns 2 = true ∧ c.domainRuns 4 = true ∧
      c.cmt.outs.length = 24)
    ∧ (∃ (c : Chip) (tw : Nat), c.domainRuns 1 = true ∧ c.fc.tw = some tw ∧ c.fc.l5 = false ∧ (∀ n < 8, (c.link
      n).trigs = []))
    ∧ (∃ (c : Chip) (v : Word), c.domainRuns 1 = true ∧ c.Allows .boot R.fcCtrl (force F.fcCtrlResume 1 v) ∧ bitAt v
      29 = false)
    ∧ (∃ (c : Chip) (e : Nat), e < 68 ∧ c.domainRuns 1 = true ∧ c.engState e = engActive ∧ c.f F.fcWearLimLim ≤ min
      ((c.optWord (0x1510 + e)).toNat + ((List.range 5).map fun b => binWeight b * c.tallyHours (e / 17) b).sum) (2 ^
      32 - 1) ∧ ((c.spareOf (e / 17)).isSome = true ∨ c.shp.worn.contains e = false))
    ∧ (∃ (c : Chip) (e : Nat), e < 68 ∧ c.domainRuns 1 = true ∧ c.engState e ≠ engActive)
    ∧ (∃ (c : Chip) (v : Word), c.domainRuns 1 = true ∧ c.Allows .boot R.fcWearLim v) :=
  ⟨⟨up, 0x00060000#32, by dsimp only [Chip.Allows, Chip.Quiet]; decide +kernel⟩,
  ⟨up.sets [(F.fcFirstValid, 1)], 0x00860003#32, by dsimp only [Chip.Allows, Chip.Quiet]; decide +kernel⟩,
  ⟨up, 0#32, by dsimp only [Chip.Allows]; decide +kernel⟩,
  ⟨up, 0#32, by dsimp only [Chip.Allows]; decide +kernel⟩,
  ⟨{ up with fc := { up.fc with tw := some 4294967295 } }, 4294967295, by decide +kernel⟩,
  ⟨up.sets [(F.fcStatWithdrawn, 1)], 0#32, by dsimp only [Chip.Allows]; decide +kernel⟩,
  ⟨up.sets [(F.fcWearLimLim, 0)], 0, by decide +kernel⟩,
  ⟨up.sets [(engField 67, engRetired)], 67, by decide +kernel⟩,
  ⟨up, 0xFFFFFFFF#32, by dsimp only [Chip.Allows]; decide +kernel⟩⟩

/-- Each message of the service of a pair in the state in which it acts, and a join that passes the checks and one
that fails. -/
theorem witness_PairService :
    (∃ c : Chip, c.domainRuns 4 = true ∧ c.pairMode = true ∧ c.linkSt 8 = lkActive)
    ∧ (∃ (c : Chip) (pk : RxPkt), c.domainRuns 4 = true ∧ c.Hears 0x01 pk ∧ c.svc = svcAlone ∧ c.linkSt 8 = lkActive
      ∧ c.running = false ∧ fieldBE pk.bytes 9 1 % 2 = 0)
    ∧ (∃ (c : Chip) (pk : RxPkt), c.domainRuns 4 = true ∧ c.Hears 0x01 pk ∧ c.svc = svcAlone ∧ c.linkSt 8 = lkActive
      ∧ c.running = true ∧ fieldBE pk.bytes 9 1 % 2 = 1 ∧ c.pair.both = false)
    ∧ (∃ c : Chip, c.domainRuns 4 = true ∧ c.svc = svcPaired ∧ c.pair.serveAck = false)
    ∧ (∃ (c : Chip) (pk : RxPkt), c.domainRuns 4 = true ∧ c.svc = svcPaired ∧ c.pair.serveAck = false ∧ c.Hears 0x0C
      pk)
    ∧ (∃ (c : Chip) (v : Word), c.domainRuns 4 = true ∧ c.Allows .boot R.plCmd (force F.plCmdJoin 1 v) ∧
      c.joinAllowed = true ∧ c.armStep2 = true ∧ c.armStep3 = true ∧ c.armStep4 = true ∧ (c.sums c.staged (c.f
      (F.sspPselProd c.staged)) (c.fmax c.staged)).fails = 0)
    ∧ (∃ (c : Chip) (v : Word), c.domainRuns 4 = true ∧ c.Allows .boot R.plCmd (force F.plCmdJoin 1 v) ∧
      c.joinAllowed = true ∧ c.armStep2 = false)
    ∧ (∃ (c : Chip) (pk : RxPkt), c.domainRuns 4 = true ∧ c.Hears 0x0E pk ∧ c.linkSt 8 = lkActive ∧ fieldBE pk.bytes
      8 4 = c.f F.plActDigestDigest)
    ∧ (∃ (c : Chip) (pk : RxPkt), c.domainRuns 4 = true ∧ c.Hears 0x0E pk ∧ c.linkSt 8 = lkActive ∧ fieldBE pk.bytes
      8 4 ≠ c.f F.plActDigestDigest)
    ∧ (∃ (c : Chip) (pk : RxPkt), c.domainRuns 4 = true ∧ c.Hears 0x0F pk ∧ c.pair.joinReq = true ∧ fieldBE pk.bytes
      8 1 = 0)
    ∧ (∃ (c : Chip) (pk : RxPkt), c.domainRuns 4 = true ∧ c.Hears 0x0F pk ∧ c.pair.joinReq = true ∧ fieldBE pk.bytes
      8 1 ≠ 0)
    ∧ (∃ (c : Chip) (pk : RxPkt), c.domainRuns 4 = true ∧ c.Hears 0x0F pk ∧ c.pair.joinReq = false ∧ c.svc =
      svcJoining ∧ fieldBE pk.bytes 8 1 ≠ 0)
    ∧ (∃ (c : Chip) (pk : RxPkt) (r : Nat), c.domainRuns 4 = true ∧ c.Hears 0x10 pk ∧ c.pair.joinRep = some r ∧ (∀ fb
      ∈ c.ie.bands, fb.band.first = fieldBE pk.bytes 8 4 → fb.joinWait = false))
    ∧ (∃ (c : Chip) (pk : RxPkt), c.domainRuns 4 = true ∧ c.Hears 0x11 pk ∧ c.pair.joinDseq = true) :=
  ⟨⟨mate 1, by decide +kernel⟩,
  ⟨pairWith svcAlone [] id, pairMsg 1 (natBytesBE 4 0x02020000 ++ natBytesBE 4 0),
    by dsimp only [Chip.Takes, Chip.Hears]; decide +kernel⟩,
  ⟨pairWith svcAlone [(F.jobStatRun, 1)] id, pairMsg 1 (natBytesBE 4 0x01010000 ++ natBytesBE 4 0),
    by dsimp only [Chip.Takes, Chip.Hears]; decide +kernel⟩,
  ⟨pairWith svcPaired [] id, by decide +kernel⟩,
  ⟨pairWith svcPaired [] id, pairMsg 12 (natBytesBE 4 0 ++ natBytesBE 4 0),
    by dsimp only [Chip.Takes, Chip.Hears]; decide +kernel⟩,
  ⟨joinPlan 50, 0#32, by dsimp only [Chip.Allows]; decide +kernel⟩,
  ⟨joinPlan 49, 0#32, by dsimp only [Chip.Allows]; decide +kernel⟩,
  ⟨pairWith svcPaired [(F.plActDigestDigest, 7)] id, pairMsg 14 (natBytesBE 4 7 ++ natBytesBE 4 0),
    by dsimp only [Chip.Takes, Chip.Hears]; decide +kernel⟩,
  ⟨pairWith svcPaired [(F.plActDigestDigest, 7)] id, pairMsg 14 (natBytesBE 4 8 ++ natBytesBE 4 0),
    by dsimp only [Chip.Takes, Chip.Hears]; decide +kernel⟩,
  ⟨pairWith svcAlone [] (fun p => { p with joinReq := true }), pairMsg 15 (natBytesBE 4 0x00FFFFFF ++ natBytesBE 4
    0), by dsimp only [Chip.Takes, Chip.Hears]; decide +kernel⟩,
  ⟨pairWith svcAlone [] (fun p => { p with joinReq := true }), pairMsg 15 (natBytesBE 4 0xFF000000 ++ natBytesBE 4
    0), by dsimp only [Chip.Takes, Chip.Hears]; decide +kernel⟩,
  ⟨pairWith svcJoining [] id, pairMsg 15 (natBytesBE 4 0xFF000000 ++ natBytesBE 4 0),
    by dsimp only [Chip.Takes, Chip.Hears]; decide +kernel⟩,
  ⟨pairWith svcJoining [] (fun p => { p with joinRep := some 3 }), pairMsg 16 (natBytesBE 4 9 ++ natBytesBE 4 0), 3,
    by dsimp only [Chip.Takes, Chip.Hears]; decide +kernel⟩,
  ⟨pairWith svcPaired [] (fun p => { p with joinDseq := true }), pairMsg 17 (natBytesBE 4 0 ++ natBytesBE 4
    0xFFFFFFFF), by dsimp only [Chip.Takes, Chip.Hears]; decide +kernel⟩⟩

/-- Digests of the mate that agree, differ and come first, one that is missed, and both kinds of time check with
offsets at the limit and above it. -/
theorem witness_PairChecks :
    (∃ (c : Chip) (pk : RxPkt) (o : Nat), c.domainRuns 4 = true ∧ c.Hears 0x0A pk ∧ c.svc = svcPaired ∧
      c.pair.ownDigs.find? (fun p => p.1 == fieldBE pk.bytes 8 4) = some (fieldBE pk.bytes 8 4, o) ∧ o = fieldBE
      pk.bytes 12 4)
    ∧ (∃ (c : Chip) (pk : RxPkt) (o : Nat), c.domainRuns 4 = true ∧ c.Hears 0x0A pk ∧ c.svc = svcPaired ∧
      c.pair.ownDigs.find? (fun p => p.1 == fieldBE pk.bytes 8 4) = some (fieldBE pk.bytes 8 4, o) ∧ o ≠ fieldBE
      pk.bytes 12 4)
    ∧ (∃ (c : Chip) (pk : RxPkt), c.domainRuns 4 = true ∧ c.Hears 0x0A pk ∧ c.svc = svcPaired ∧ c.pair.ownDigs.find?
      (fun p => p.1 == fieldBE pk.bytes 8 4) = none ∧ c.pair.mateDigs.length < 64)
    ∧ (∃ (c : Chip) (x : Nat × Nat) (rest : List (Nat × Nat)), c.domainRuns 4 = true ∧ c.pair.ownDigs = x :: rest)
    ∧ (∃ c : Chip, c.domainRuns 4 = true ∧ c.pairMode = true ∧ c.linkSt 8 = lkActive)
    ∧ (∃ (c : Chip) (pk : RxPkt), c.domainRuns 4 = true ∧ c.Hears 0x0B pk ∧ c.linkSt 8 = lkActive ∧ fieldBE pk.bytes
      8 1 = 0)
    ∧ (∃ (c : Chip) (pk : RxPkt) (t1 off : Int), c.domainRuns 4 = true ∧ c.Hears 0x0B pk ∧ fieldBE pk.bytes 8 1 ≠ 0 ∧
      c.pair.tOut = some (fieldBE pk.bytes 9 1, t1) ∧ off = (((timeOfBytes ((pk.bytes.drop 22).take 10) : Int) - t1)
      - ((c.nowNs : Int) - timeOfBytes ((pk.bytes.drop 32).take 10))) / 2 ∧ (off.natAbs : Int) ≤ c.f F.plTcfgTol)
    ∧ (∃ (c : Chip) (pk : RxPkt) (t1 off : Int), c.domainRuns 4 = true ∧ c.Hears 0x0B pk ∧ fieldBE pk.bytes 8 1 ≠ 0 ∧
      c.pair.tOut = some (fieldBE pk.bytes 9 1, t1) ∧ off = (((timeOfBytes ((pk.bytes.drop 22).take 10) : Int) - t1)
      - ((c.nowNs : Int) - timeOfBytes ((pk.bytes.drop 32).take 10))) / 2 ∧ (c.f F.plTcfgTol : Int) < (off.natAbs :
      Int)) :=
  ⟨⟨pairWith svcPaired [] (fun p => { p with ownDigs := [(9, 5)] }), pairMsg 10 (natBytesBE 4 9 ++ natBytesBE 4 5),
    5, by dsimp only [Chip.Takes, Chip.Hears]; decide +kernel⟩,
  ⟨pairWith svcPaired [] (fun p => { p with ownDigs := [(9, 5)] }), pairMsg 10 (natBytesBE 4 9 ++ natBytesBE 4 4), 5,
    by dsimp only [Chip.Takes, Chip.Hears]; decide +kernel⟩,
  ⟨pairWith svcPaired [] id, pairMsg 10 (natBytesBE 4 9 ++ natBytesBE 4 4),
    by dsimp only [Chip.Takes, Chip.Hears]; decide +kernel⟩,
  ⟨pairWith svcPaired [] (fun p => { p with ownDigs := [(9, 5)] }), (9, 5), [], by decide +kernel⟩,
  ⟨pairWith svcPaired [] (fun p => { p with tSeq := 255 }), by decide +kernel⟩,
  ⟨mate 0, tchk 0 255 0 0 0, by dsimp only [Chip.Takes, Chip.Hears]; decide +kernel⟩,
  ⟨pairWith svcPaired [(F.plTcfgTol, 100)] (fun p => { p with tOut := some (255, 0) }), tchk 1 255 0 100 100, 0, 100,
    by dsimp only [Chip.Takes, Chip.Hears]; decide +kernel⟩,
  ⟨pairWith svcPaired [(F.plTcfgTol, 100)] (fun p => { p with tOut := some (255, 0) }), tchk 1 255 0 101 101, 0, 101,
    by dsimp only [Chip.Takes, Chip.Hears]; decide +kernel⟩⟩

/-- A channel in each state in which it trains, scrubs, repairs, reads temperatures and lists its remap entries. -/
theorem witness_MemoryChannels :
    (∃ (c : Chip) (n : Nat) (v : Word), n < 6 ∧ c.mcs.length = 6 ∧ c.domainRuns 6 = true ∧ c.Allows .boot R.mc0Ctrl
      (force F.mc0CtrlInit 1 v) ∧ c.fb (F.mcCfgPop n) = true)
    ∧ (∃ (c : Chip) (n : Nat), n < 6 ∧ c.mcs.length = 6 ∧ c.domainRuns 6 = true ∧ c.f (F.mcStatState n) = mcTraining
      ∧ (c.mc n).step < 5)
    ∧ (∃ (c : Chip) (n : Nat), n < 6 ∧ c.mcs.length = 6 ∧ c.domainRuns 6 = true ∧ c.f (F.mcStatState n) = mcTraining
      ∧ 5 ≤ (c.mc n).step ∧ (∀ k < 6, k ≠ n → c.fb (F.mcCfgPop k) = true → c.f (F.mcStatState k) = mcReady))
    ∧ (∃ (c : Chip) (n : Nat), n < 6 ∧ c.mcs.length = 6 ∧ c.domainRuns 6 = true ∧ c.shp.queue = [] ∧ c.fb
      F.shpCtrlF3En = false)
    ∧ (∃ (c : Chip) (n : Nat), n < 6 ∧ c.mcs.length = 6 ∧ c.domainRuns 6 = true ∧ c.shp.queue = [] ∧ c.scrubbable n =
      false)
    ∧ (∃ (c : Chip) (n : Nat) (e : Nat), n < 6 ∧ c.mcs.length = 6 ∧ c.domainRuns 6 = true ∧ c.scrubbable n = true ∧
      c.fb F.shpCtrlF3En = true ∧ c.shp.queue = [] ∧ (∀ w : WorkItem, w.fold = 3 → w.kind = 1 → c.placeFor w = some
      e) ∧ (∀ w : WorkItem, w.cycles16 ≤ 327680 → (c.itemCost w (e / 17) : Int) ≤ c.shp.rem))
    ∧ (∃ (c : Chip) (n : Nat) (e x : Nat) (w : WorkItem), n < 6 ∧ c.mcs.length = 6 ∧ c.domainRuns 6 = true ∧ e < 68 ∧
      c.domainRuns 3 = true ∧ c.running? e = some w ∧ w.fold = 3 ∧ w.kind = 1 ∧ w.bseq = n ∧ c.shp.retiring.contains
      e = false ∧ c.scrubbable n = true ∧ c.ecc = [] ∧ c.inChannel n x = true ∧ w.pass = false ∧ w.hits = [])
    ∧ (∃ (c : Chip) (n : Nat) (e x : Nat) (w : WorkItem), n < 6 ∧ c.mcs.length = 6 ∧ c.domainRuns 6 = true ∧ e < 68 ∧
      c.domainRuns 3 = true ∧ c.running? e = some w ∧ w.fold = 3 ∧ w.kind = 1 ∧ w.bseq = n ∧ c.shp.retiring.contains
      e = false ∧ c.scrubbable n = true ∧ c.ecc = [] ∧ c.inChannel n x = true ∧ w.pass = true ∧ w.hits = [])
    ∧ (∃ (c : Chip) (n : Nat) (e x : Nat) (w : WorkItem), n < 6 ∧ c.mcs.length = 6 ∧ c.domainRuns 6 = true ∧ e < 68 ∧
      c.domainRuns 3 = true ∧ c.running? e = some w ∧ w.fold = 3 ∧ w.kind = 1 ∧ w.bseq = n ∧ c.shp.retiring.contains
      e = false ∧ c.scrubbable n = true ∧ c.ecc = [] ∧ c.inChannel n x = true ∧ w.pass = false ∧ w.hits = [(x,
      false)])
    ∧ (∃ (c : Chip) (n : Nat) (e x : Nat) (w : WorkItem), n < 6 ∧ c.mcs.length = 6 ∧ c.domainRuns 6 = true ∧ e < 68 ∧
      c.domainRuns 3 = true ∧ c.running? e = some w ∧ w.fold = 3 ∧ w.kind = 1 ∧ w.bseq = n ∧ c.shp.retiring.contains
      e = false ∧ c.scrubbable n = true ∧ c.ecc = [] ∧ c.inChannel n x = true ∧ w.pass = false ∧ w.hits = [(x, true)]
      ∧ 8 * x < c.ddrTop ∧ 8 * x < 2 ^ 40)
    ∧ (∃ (c : Chip) (n : Nat), n < 6 ∧ c.mcs.length = 6 ∧ c.domainRuns 6 = true ∧ True)
    ∧ (∃ (c : Chip) (n : Nat) (v : Word), n < 6 ∧ c.mcs.length = 6 ∧ c.domainRuns 6 = true ∧ (∃ p ∈ (c.mc n).rmap,
      bitAt p.2 30 = true) ∧ c.Allows .boot (R.mcCmd n) (force (F.mcCmdOp n) 1 v) ∧ c.landsIn n = false)
    ∧ (∃ (c : Chip) (n : Nat) (v : Word), n < 6 ∧ c.mcs.length = 6 ∧ c.domainRuns 6 = true ∧ (∃ p ∈ (c.mc n).rmap,
      bitAt p.2 30 = true) ∧ c.Allows .boot (R.mcCmd n) (force (F.mcCmdOp n) 1 v) ∧ c.landsIn n = true)
    ∧ (∃ (c : Chip) (n : Nat) (v : Word), n < 6 ∧ c.mcs.length = 6 ∧ c.domainRuns 6 = true ∧ (∃ p ∈ (c.mc n).rmap,
      bitAt p.2 30 = true) ∧ c.Allows .boot (R.mcCmd n) (force (F.mcCmdOp n) 2 v) ∧ c.landsIn n = false)
    ∧ (∃ (c : Chip) (n : Nat) (v : Word), n < 6 ∧ c.mcs.length = 6 ∧ c.domainRuns 6 = true ∧ (∃ p ∈ (c.mc n).rmap,
      bitAt p.2 30 = true) ∧ c.Allows .boot (R.mcCmd n) (force (F.mcCmdOp n) 2 v) ∧ c.landsIn n = true)
    ∧ (∃ (c : Chip) (n : Nat) (i : Nat) (w : Word) (rest : List (Nat × Word)), n < 6 ∧ c.mcs.length = 6 ∧
      c.domainRuns 6 = true ∧ (c.mc n).copying = (i, w) :: rest)
    ∧ (∃ (c : Chip) (n : Nat), n < 6 ∧ c.mcs.length = 6 ∧ c.domainRuns 6 = true ∧ (c.mc n).copying = [])
    ∧ (∃ (c : Chip) (n : Nat) (i : Nat) (w : Word), n < 6 ∧ c.mcs.length = 6 ∧ c.domainRuns 6 = true ∧ (c.mc n).ppr ≠
      0 ∧ (c.mc n).rmap.find? (fun p => bitAt p.2 30) = some (i, w))
    ∧ (∃ (c : Chip) (n : Nat) (a : Int), n < 6 ∧ c.mcs.length = 6 ∧ c.domainRuns 6 = true ∧ c.fb (F.mcCfgPop n) =
      true ∧ c.f (F.mcTsAddr0 n) ≠ 0 ∧ -32768 ≤ a ∧ a < 32768 ∧ a ≤ 16 * (c.f (F.mcThermTmax n) : Int))
    ∧ (∃ (c : Chip) (n : Nat) (a : Int), n < 6 ∧ c.mcs.length = 6 ∧ c.domainRuns 6 = true ∧ c.fb (F.mcCfgPop n) =
      true ∧ c.f (F.mcTsAddr0 n) ≠ 0 ∧ -32768 ≤ a ∧ a < 32768 ∧ 16 * (c.f (F.mcThermTmax n) : Int) < a ∧ 2 ≤ (c.mc
      n).hotRun ∧ c.f (F.mcStatState n) ≠ mcUnusable)
    ∧ (∃ (c : Chip) (n : Nat), n < 6 ∧ c.mcs.length = 6 ∧ c.domainRuns 6 = true ∧ c.AllowsRead .boot (R.mcRmapData
      n)) :=
  ⟨⟨up.sets [(F.mcCfgPop 5, 1)], 5, 0#32, by dsimp only [Chip.Allows]; decide +kernel⟩,
  ⟨mcWith 0 [(F.mcStatState 0, mcTraining)] (fun m => { m with step := 4 }), 0, by decide +kernel⟩,
  ⟨mcWith 5 [(F.mcStatState 5, mcTraining), (F.mcStatState 0, mcReady), (F.mcCfgPop 5, 1), (F.mcCfgPop 0, 1)] (fun m
    => { m with step := 5 }), 5, by decide +kernel⟩,
  ⟨up.sets [(F.shpCtrlF3En, 0)], 5, by decide +kernel⟩,
  ⟨up, 0, by decide +kernel⟩,
  ⟨scrubReady, 5, 0, by decide, by decide +kernel, by decide +kernel, by decide +kernel, by decide +kernel, by rfl,
    scrub_place, scrub_cost⟩,
  ⟨scrubRuns ⟨3, 5, 0, 1, [], 100, false, [], false, false⟩, 5, 67, ddrBase / 8, ⟨3, 5, 0, 1, [], 100, false, [],
    false, false⟩, by decide +kernel⟩,
  ⟨scrubRuns ⟨3, 5, 0, 1, [], 100, false, [], true, false⟩, 5, 67, ddrBase / 8, ⟨3, 5, 0, 1, [], 100, false, [],
    true, false⟩, by decide +kernel⟩,
  ⟨scrubRuns ⟨3, 5, 0, 1, [], 100, false, [(ddrBase / 8, false)], false, false⟩, 5, 67, ddrBase / 8, ⟨3, 5, 0, 1, [],
    100, false, [(ddrBase / 8, false)], false, false⟩, by decide +kernel⟩,
  ⟨scrubRuns ⟨3, 5, 0, 1, [], 100, false, [(ddrBase / 8, true)], false, false⟩, 5, 67, ddrBase / 8, ⟨3, 5, 0, 1, [],
    100, false, [(ddrBase / 8, true)], false, false⟩, by decide +kernel⟩,
  ⟨up, 0, by decide +kernel⟩,
  ⟨mcWith 5 [(F.mcStatState 5, mcReady)] (fun m => { m with rmap := [(255, 0xC0000000#32)] }), 5, 0#32,
    by dsimp only [Chip.Allows]; decide +kernel⟩,
  ⟨(mcWith 5 [(F.mcStatState 5, mcReady)] (fun m => { m with rmap := [(255, 0xC0000000#32)] })).modJob fun j =>
    { j with pend := [⟨true, true, [5], none⟩] }, 5, 0#32, by dsimp only [Chip.Allows]; decide +kernel⟩,
  ⟨mcWith 5 [(F.mcStatState 5, mcReady)] (fun m => { m with rmap := [(255, 0xC0000000#32)] }), 5, 0#32,
    by dsimp only [Chip.Allows]; decide +kernel⟩,
  ⟨(mcWith 5 [(F.mcStatState 5, mcReady)] (fun m => { m with rmap := [(255, 0xC0000000#32)] })).modJob fun j =>
    { j with pend := [⟨true, true, [5], none⟩] }, 5, 0#32, by dsimp only [Chip.Allows]; decide +kernel⟩,
  ⟨mcWith 5 [] (fun m => { m with copying := [(255, 1#32)] }), 5, 255, 1#32, [], by decide +kernel⟩,
  ⟨up, 0, by decide +kernel⟩,
  ⟨mcWith 0 [] (fun m => { m with ppr := 1, rmap := [(0, 0x80000000#32), (7, 0xC0000000#32)] }), 0, 7, 0xC0000000#32,
    by decide +kernel⟩,
  ⟨up.sets [(F.mcCfgPop 5, 1), (F.mcTsAddr0 5, 1), (F.mcThermTmax 5, 85)], 5, 1360, by decide +kernel⟩,
  ⟨mcWith 5 [(F.mcStatState 5, mcTraining), (F.mcCfgPop 5, 1), (F.mcTsAddr0 5, 1), (F.mcThermTmax 5, 85)] (fun m =>
    { m with hotRun := 2 }), 5, 1361, by decide +kernel⟩,
  ⟨up, 5, by dsimp only [Chip.Allows, Chip.AllowsRead]; decide +kernel⟩⟩

/-- A value of every boundary cell, a code that selects BYPASS, and a device whose VDD_AON is low and one whose is
not. -/
theorem witness_TestPort :
    (∃ v code : Nat, v < 2 ^ boundaryCells ∧ code < 256 ∧ code ∉ [0x00, 0x01, 0x02, 0x05, 0x06, 0x08, 0x09, 0x20])
    ∧ (∃ c : Chip, c.boot.aonLow = false)
    ∧ (∃ c : Chip, c.boot.aonLow = true) :=
  ⟨⟨2 ^ boundaryCells - 1, 255, Nat.sub_lt (Nat.two_pow_pos _) Nat.one_pos, by decide, by decide⟩,
  ⟨up, by decide +kernel⟩,
  ⟨{ up with boot := { up.boot with aonLow := true } }, by decide +kernel⟩⟩

/-- A state without commands and one that runs its front command. -/
theorem witness_StepRunsFront :
    (∃ s : State, s.pending = [])
    ∧ (∃ (s : State) (i : Instr) (rest : List Instr) (t : State), step { s with pending := i :: rest } = .next t ∧
      t.pending = rest) :=
  ⟨⟨State.reset, by decide +kernel⟩,
  ⟨⟨[], up⟩, .jtagIdcode, [.jtagTrst], _, rfl, rfl⟩⟩

/-- The state after reset with a command in front of its queue. -/
theorem witness_CanonicalKept :
    ∃ s t : State, s.Inv ∧ step s = .next t :=
  ⟨⟨[.jtagIdcode], State.reset.chip⟩, _, by unfold State.Inv Chip.Canonical swf; decide +kernel, rfl⟩

/-- The state after reset with a command in front of its queue. -/
theorem witness_SummaryKept :
    ∃ s t : State, s.chip.SumShown ∧ step s = .next t :=
  ⟨⟨[.jtagIdcode], State.reset.chip⟩, _, by unfold Chip.SumShown; decide +kernel, rfl⟩

end Sys2Proof.Machine
end

section
/-! SUPPORT. What every proof about a command uses: frames compose, and the outputs of the command before reject nothing. -/

namespace Sys2Proof.Machine

/-! ### Composing frames -/

theorem Chip.Keeps.trans {c t u : Chip} {l : List Nat} (h : c.Keeps t l) (k : t.Keeps u l) : c.Keeps u l :=
  ⟨fun a h1 h2 => (k.1 a h1 h2).trans (h.1 a h1 h2), fun a => (k.2 a).trans (h.2 a)⟩

theorem Chip.Keeps.mono {c t : Chip} {l l' : List Nat} (h : c.Keeps t l) (hl : ∀ a ∈ l, a ∈ l') : c.Keeps t l' :=
  ⟨fun a h1 h2 => h.1 a (fun h3 => h1 (hl a h3)) h2, h.2⟩

theorem Chip.Keeps.emit {c t : Chip} {l : List Nat} (h : c.Keeps t l) (o : Out) : c.Keeps (t.emit o) l := h.same rfl rfl

/-- What settling shows in addition is the summary alone. -/
theorem Chip.Keeps.settled {c t d : Chip} {l : List Nat} (h : c.Keeps t l) (hd : t.Alike d []) : c.Keeps d l :=
  h.alike hd (by simp)

/-! ### The outputs do not matter to what rejects an access -/

theorem State.fresh_accessChecks (s : State) (src : Src) (a : Nat) (w : Bool) :
    s.fresh.accessChecks src a w = s.chip.accessChecks src a w := (rfl)

theorem State.fresh_writeChecks (s : State) (src : Src) (a : Nat) (v : Word) :
    s.fresh.writeChecks src a v = s.chip.writeChecks src a v := by
  have hu : s.fresh.unauthorized src a = s.chip.unauthorized src a := rfl
  have hj : s.fresh.perJobChecks a = s.chip.perJobChecks a := rfl
  unfold Chip.writeChecks
  rw [s.fresh_accessChecks, hu, hj, State.fresh_blockChecks]

theorem State.keeps_fresh (s : State) (l : List Nat) : s.chip.Keeps s.fresh l := Chip.Keeps.of_same rfl rfl

end Sys2Proof.Machine
end

section
/-! SUPPORT. Accesses of the control space whose block has no effect of its own: the plain registers, what a write of a staged
register spoils, and reads. -/

namespace Sys2Proof.Machine

variable (c : Chip)

/-! ### Offsets of a block at which a write does nothing beside storing -/

theorem Chip.clkWritten_plain {off : Nat} (v : Word) (h8 : off ≠ 0x08) (hC : off ≠ 0x0C) : c.clkWritten off v = c := by
  unfold Chip.clkWritten
  split
  · exact absurd rfl h8
  · exact absurd rfl hC
  · rfl

theorem Chip.rstWritten_plain {off : Nat} (old v : Word) (hC : off ≠ 0x0C) (h10 : off ≠ 0x10) :
    c.rstWritten off old v = c := by
  unfold Chip.rstWritten
  split
  · exact absurd rfl hC
  · exact absurd rfl h10
  · rfl

theorem Chip.fcWritten_plain {off : Nat} (v : Word) (h : off ∉ [0x04, 0x08, 0x28, 0x2C]) : c.fcWritten off v = c := by
  unfold Chip.fcWritten
  split
  iterate 4 · exact absurd (by decide) h
  · rfl

theorem Chip.dmaWritten_plain {off : Nat} (v : Word)
    (h : 0x100 ≤ off → off < 0x500 → (off - 0x100) % 0x40 ∉ [0x00, 0x1C]) : c.dmaWritten off v = c := by
  unfold Chip.dmaWritten
  split
  next hr =>
    have h := h hr.1 hr.2
    dsimp only
    split
    next h0 => exact absurd (by rw [h0]; decide) h
    next h0 => exact absurd (by rw [h0]; decide) h
    · rfl
  · rfl

theorem Chip.cvuWritten_plain (n : Nat) {off : Nat} (v : Word) (h : off ∉ [0x00, 0x04, 0x0C]) :
    c.cvuWritten n off v = c := by
  unfold Chip.cvuWritten
  split
  iterate 3 · exact absurd (by decide) h
  · rfl

theorem Chip.eqWritten_plain (src : Src) (n : Nat) {off : Nat} (v : Word) (h : off ∉ [0x14, 0x18, 0x1C]) :
    c.eqWritten src n off v = c := by
  unfold Chip.eqWritten
  split
  iterate 3 · exact absurd (by decide) h
  · rfl

theorem Chip.orbWritten_plain {off : Nat} (old v : Word) (h : off ∉ [0x00, 0x1C, 0x20, 0x54, 0x58]) :
    c.orbWritten off old v = c := by
  unfold Chip.orbWritten
  split
  iterate 5 · exact absurd (by decide) h
  · rfl

theorem Chip.cmtWritten_plain {off : Nat} (old v : Word) (h2C : off ≠ 0x02C)
    (hout : 0x100 ≤ off → off < 0x280 → off % 0x10 ≠ 0) : c.cmtWritten off old v = c := by
  unfold Chip.cmtWritten
  rw [if_neg h2C, if_neg fun h => hout h.1 h.2.1 h.2.2]

theorem Chip.laneWritten_plain (n m : Nat) {off : Nat} (old v : Word) (h : off ∉ [0x00, 0x20, 0x34, 0x4C]) :
    c.laneWritten n m off old v = c := by
  unfold Chip.laneWritten
  split
  iterate 4 · exact absurd (by decide) h
  · rfl

theorem Chip.ulWritten_plain {off : Nat} (old v : Word) (h : off ≠ 0x00) : c.ulWritten off old v = c := by
  unfold Chip.ulWritten
  split
  · exact absurd rfl h
  · rfl

theorem Chip.linkWritten_plain (n : Nat) {off : Nat} (v : Word) (h : off ∉ [0x00, 0x18, 0x28]) :
    c.linkWritten n off v = c := by
  unfold Chip.linkWritten
  split
  iterate 3 · exact absurd (by decide) h
  · rfl

theorem Chip.mcWritten_plain (n : Nat) {off : Nat} (v : Word) (h : off ∉ [0x04, 0x18]) : c.mcWritten n off v = c := by
  unfold Chip.mcWritten
  split
  iterate 2 · exact absurd (by decide) h
  · rfl

/-! ### Plain registers, block by block -/

/-- The single registers whose writes act. -/
theorem plainReg.ne {a : Nat} (h : plainReg a) (b : Nat)
    (hb : b ∈ [R.glbBootCmd, 0x10008, 0x1000C, 0x1800C, 0x18010, 0x20004, 0x20008, 0x20028, 0x2002C, R.optData, R.secCmd,
      0x80000, 0x8001C, 0x80020, 0x80054, 0x80058, 0x9002C, R.plCmd, R.jobCmd, R.jobPortOff, R.jobProdOff]) : a ≠ b := by
  simp only [plainReg, actingReg, Bool.or_eq_false_iff, and_assoc] at h
  rintro rfl
  exact absurd (List.contains_iff_mem.2 hb) (by rw [h.1]; decide)

/-- The repeated registers of the blocks below the links whose writes act. -/
theorem plainReg.low_offsets {a : Nat} (h : plainReg a) :
    (0x50100 ≤ a → a < 0x50500 → a % 0x40 ≠ 0x00 ∧ a % 0x40 ≠ 0x1C)
    ∧ (0x60100 ≤ a → a < 0x70000 → a % 0x40 ≠ 0x00 ∧ a % 0x40 ≠ 0x04 ∧ a % 0x40 ≠ 0x0C)
    ∧ (0x70100 ≤ a → a < 0x80000 → a % 0x40 ≠ 0x14 ∧ a % 0x40 ≠ 0x18 ∧ a % 0x40 ≠ 0x1C)
    ∧ (0x90100 ≤ a → a < 0x90280 → a % 0x10 ≠ 0) := by
  simp only [plainReg, actingReg, Bool.or_eq_false_iff, and_assoc] at h
  obtain ⟨-, hdma, hcvu, heq, hcmt, -⟩ := h
  exact ⟨by simpa using hdma, by simpa using hcvu, by simpa using heq, by simpa using hcmt⟩

/-- The registers of links, lanes and lane maps whose writes act. -/
theorem plainReg.link_offsets {a : Nat} (h : plainReg a) (hl : 0x100000 ≤ a) (hu : a < 0x1A0000) :
    (0x8F00 ≤ a % 0x10000 → a < 0x190000 ∧ a % 0x10000 ≠ 0x8F00)
    ∧ (0x8000 ≤ a % 0x10000 → a % 0x10000 < 0x8F00 →
        a % 0x100 ≠ 0x00 ∧ a % 0x100 ≠ 0x20 ∧ a % 0x100 ≠ 0x34 ∧ a % 0x100 ≠ 0x4C)
    ∧ (a % 0x10000 < 0x8000 → a % 0x10000 ≠ 0x00 ∧ a % 0x10000 ≠ 0x18 ∧ a % 0x10000 ≠ 0x28) := by
  simp only [plainReg, actingReg, Bool.or_eq_false_iff, and_assoc] at h
  obtain ⟨-, -, -, -, -, hlink, -⟩ := h
  simp only [hl, hu, decide_true, Bool.true_and] at hlink
  split_ifs at hlink with h1 h2 <;> simp at hlink <;> omega

/-- The registers of front ends and memory controllers whose writes act. -/
theorem plainReg.high_offsets {a : Nat} (h : plainReg a) :
    (0x200000 ≤ a → a < 0x300000 → a % 0x2000 ≠ 0x08 ∧ a % 0x2000 ≠ 0x0C)
    ∧ (0x800000 ≤ a → a % 0x10000 ≠ 0x04 ∧ a % 0x10000 ≠ 0x18) := by
  simp only [plainReg, actingReg, Bool.or_eq_false_iff, and_assoc] at h
  obtain ⟨-, -, -, -, -, -, hfe, hmc⟩ := h
  exact ⟨by simpa using hfe, by simpa using hmc⟩

/-- A plain register is no window onto something held elsewhere. -/
theorem plainReg.not_window {a : Nat} (h : plainReg a) : windowReg a = false := by
  obtain ⟨hfe, -⟩ := h.high_offsets
  unfold windowReg
  rw [Bool.or_eq_false_iff, List.any_eq_false]
  refine ⟨beq_eq_false_iff_ne.2 (h.ne R.optData (by decide)), fun n hn ha => ?_⟩
  have hn := List.mem_range.1 hn
  have ha := eq_of_beq ha
  unfold R.feTblData at ha
  omega

theorem plainReg.not_ruled {a : Nat} (h : plainReg a) : ruledReg a = false := by
  simp [ruledReg, h.ne R.jobPortOff (by decide), h.ne R.jobProdOff (by decide)]

/-- A performed write of a plain register of a link, a lane or a lane map has no effect of its block. -/
theorem Chip.blockWritten_plain_link (src : Src) {a : Nat} (old v : Word) (h : plainReg a) (hl : 0x100000 ≤ a)
    (hu : a < 0x1A0000) : c.blockWritten src a old v = (c, 0) := by
  obtain ⟨hport, hlane, hlink⟩ := h.link_offsets hl hu
  unfold Chip.blockWritten
  iterate 12 rw [if_neg (by omega)]
  rw [if_pos hu]
  dsimp only
  split
  next hr => rw [if_neg (by omega), Chip.portWritten, if_neg (hport hr).2]
  split
  next => rw [c.laneWritten_plain _ _ old v (by simp; omega)]
  next =>
    have hoff := hlink (by omega)
    rw [if_neg (fun h0 => hoff.1 h0.1), c.ulWritten_plain old v hoff.1, if_neg (h.ne R.plCmd (by decide)),
      c.linkWritten_plain _ v (by simpa using hoff), ite_self]

/-- A performed write of a plain register of the blocks below the links has no effect of its block. -/
theorem Chip.blockWritten_plain_low (src : Src) {a : Nat} (old v : Word) (h : plainReg a) (hu : a < 0x100000) :
    c.blockWritten src a old v = (c, 0) := by
  obtain ⟨hdma, hcvu, heq, hcmt⟩ := h.low_offsets
  unfold Chip.blockWritten
  rcases lt_or_ge a 0x10000 with hr | hr
  · rw [if_pos hr, beq_eq_false_iff_ne.2 (h.ne R.glbBootCmd (by decide))]; rfl
  rw [if_neg (not_lt.2 hr)]
  rcases lt_or_ge a 0x18000 with hr | hr
  · rw [if_pos hr]
    have h1 := h.ne 0x10008 (by decide)
    have h2 := h.ne 0x1000C (by decide)
    rw [c.clkWritten_plain v (by omega) (by omega)]
  rw [if_neg (not_lt.2 hr)]
  rcases lt_or_ge a 0x20000 with hr | hr
  · rw [if_pos hr]
    have h1 := h.ne 0x1800C (by decide)
    have h2 := h.ne 0x18010 (by decide)
    rw [c.rstWritten_plain old v (by omega) (by omega)]
  rw [if_neg (not_lt.2 hr)]
  rcases lt_or_ge a 0x30000 with hr | hr
  · rw [if_pos hr]
    have h1 := h.ne 0x20004 (by decide)
    have h2 := h.ne 0x20008 (by decide)
    have h3 := h.ne 0x20028 (by decide)
    have h4 := h.ne 0x2002C (by decide)
    rw [c.fcWritten_plain v (by simp; omega)]
  rw [if_neg (not_lt.2 hr)]
  rcases lt_or_ge a 0x40000 with hr | hr
  · rw [if_pos hr, beq_eq_false_iff_ne.2 (h.ne R.optData (by decide))]; rfl
  rw [if_neg (not_lt.2 hr)]
  rcases lt_or_ge a 0x50000 with hr | hr
  · rw [if_pos hr, if_neg (h.ne R.secCmd (by decide))]
  rw [if_neg (not_lt.2 hr)]
  rcases lt_or_ge a 0x60000 with hr | hr
  · rw [if_pos hr, c.dmaWritten_plain v (by simp; omega)]
  rw [if_neg (not_lt.2 hr)]
  rcases lt_or_ge a 0x70000 with hr | hr
  · rw [if_pos hr]
    split
    · rfl
    · rw [c.cvuWritten_plain _ v (by simp; omega)]
  rw [if_neg (not_lt.2 hr)]
  rcases lt_or_ge a 0x80000 with hr | hr
  · rw [if_pos hr]
    split
    · rfl
    · rw [c.eqWritten_plain src _ v (by simp; omega)]
  rw [if_neg (not_lt.2 hr)]
  rcases lt_or_ge a 0x90000 with hr | hr
  · rw [if_pos hr]
    have h0 := h.ne 0x80000 (by decide)
    have h1 := h.ne 0x8001C (by decide)
    have h2 := h.ne 0x80020 (by decide)
    have h3 := h.ne 0x80054 (by decide)
    have h4 := h.ne 0x80058 (by decide)
    rw [c.orbWritten_plain old v (by simp; omega)]
    exact congrArg (·, 0) (if_neg h0)
  rw [if_neg (not_lt.2 hr)]
  rcases lt_or_ge a 0xA0000 with hr | hr
  · rw [if_pos hr]
    have h1 := h.ne 0x9002C (by decide)
    rw [c.cmtWritten_plain old v (by omega) (by omega)]
  rw [if_neg (not_lt.2 hr), if_pos hu]

/-- A performed write of a plain register of the blocks above the links has no effect of its block. -/
theorem Chip.blockWritten_plain_high (src : Src) {a : Nat} (old v : Word) (h : plainReg a) (hl : 0x1A0000 ≤ a) :
    c.blockWritten src a old v = (c, 0) := by
  obtain ⟨hfe, hmc⟩ := h.high_offsets
  unfold Chip.blockWritten
  iterate 13 rw [if_neg (by omega)]
  rcases lt_or_ge a 0x200000 with hr | hr
  · rw [if_pos hr]
  rw [if_neg (not_lt.2 hr)]
  rcases lt_or_ge a 0x300000 with hr | hr
  · rw [if_pos hr]
    dsimp only
    split
    next => omega
    next => omega
    next => rfl
  rw [if_neg (not_lt.2 hr)]
  rcases lt_or_ge a 0x500000 with hr | hr
  · rw [if_pos hr]
  rw [if_neg (not_lt.2 hr)]
  rcases lt_or_ge a 0x800000 with hr | hr
  · rw [if_pos hr, if_neg (h.ne R.jobCmd (by decide)), if_neg (h.ne R.jobPortOff (by decide)),
      if_neg (h.ne R.jobProdOff (by decide))]
  rw [if_neg (not_lt.2 hr), c.mcWritten_plain _ v (by simp; omega)]

/-- A performed write of a plain register stores, and its block does nothing more. -/
theorem Chip.blockWritten_plain (src : Src) {a : Nat} (old v : Word) (h : plainReg a) :
    c.blockWritten src a old v = (c, 0) := by
  rcases lt_or_ge a 0x100000 with hl | hl
  · exact c.blockWritten_plain_low src old v h hl
  rcases lt_or_ge a 0x1A0000 with hu | hu
  · exact c.blockWritten_plain_link src old v h hl hu
  · exact c.blockWritten_plain_high src old v h hu

/-! ### What a write of a staged register spoils (R228) -/

/-- Spoiling a verify clears two fields of JOB_VSTAT and may mark the running verify; it does nothing else. -/
theorem Chip.verifySpoilt_eq (rule : Bool) : ∃ (x y : Fld) (j : JobS), x.addr = R.jobVstat ∧ y.addr = R.jobVstat ∧
    c.verifySpoilt rule = { (c.setF x 0).setF y 0 with job := j } := by
  unfold Chip.verifySpoilt
  dsimp only
  cases rule with
  | false =>
    refine ⟨F.jobVstatRefOk, F.jobVstatRefFail, ?_⟩
    rw [if_neg Bool.false_ne_true]
    split
    · exact ⟨_, rfl, rfl, rfl⟩
    · exact ⟨_, rfl, rfl, rfl⟩
  | true =>
    refine ⟨F.jobVstatRuleOk, F.jobVstatRuleFail, ?_⟩
    rw [if_pos rfl]
    split
    · exact ⟨_, rfl, rfl, rfl⟩
    · exact ⟨_, rfl, rfl, rfl⟩

theorem Chip.verifySpoilt_keeps (rule : Bool) : c.Keeps (c.verifySpoilt rule) [R.jobVstat] := by
  obtain ⟨x, y, j, hx, hy, h⟩ := c.verifySpoilt_eq rule
  rw [h]
  exact (((Chip.Keeps.refl c _).setF (by simp [hx])).setF (by simp [hy])).same rfl rfl

@[simp] theorem Chip.verifySpoilt_out (rule : Bool) : (c.verifySpoilt rule).out = c.out := by
  obtain ⟨x, y, j, -, -, h⟩ := c.verifySpoilt_eq rule
  rw [h]
  rfl

theorem Chip.spoils_keeps (a : Nat) : c.Keeps (c.spoils a) [R.jobVstat] := by
  unfold Chip.spoils
  dsimp only
  have h : c.Keeps (if [R.ieRefBase 0, R.ieRefStride 0, R.ieRefW 0, R.ieRefH 0, R.jobRefCrc].contains a then
      c.verifySpoilt false else c) [R.jobVstat] :=
    Chip.Keeps.ite (fun _ => c.verifySpoilt_keeps false) (fun _ => Chip.Keeps.refl c _)
  exact Chip.Keeps.ite (fun _ => h.trans (Chip.verifySpoilt_keeps _ true)) (fun _ => h)

@[simp] theorem Chip.spoils_out (a : Nat) : (c.spoils a).out = c.out := by
  unfold Chip.spoils
  dsimp only
  split <;> split <;> simp

/-- A write of a register that no reference and no rule table depends on spoils nothing. -/
theorem Chip.spoils_other {a : Nat}
    (h : a ∉ [R.ieRefBase 0, R.ieRefStride 0, R.ieRefW 0, R.ieRefH 0, R.jobRefCrc, R.ieRuleBase 0, R.ieRuleTy 0, R.stcWeb 0,
      R.jobRuleCrc]) : c.spoils a = c := by
  simp only [List.mem_cons, List.not_mem_nil, or_false, not_or] at h
  simp [Chip.spoils, h]

/-- JOB_VSTAT itself, whose fields no write stores, spoils nothing. -/
theorem Chip.spoils_jobVstat : c.spoils (spoilAddr R.jobVstat) = c := c.spoils_other (by decide +kernel)

theorem Chip.spoils_rd_self (d : Chip) {a : Nat} (h : a ≠ R.scpSum) : (d.spoils (spoilAddr a)).rd a = d.rd a := by
  by_cases ha : a = R.jobVstat
  · rw [ha, Chip.spoils_jobVstat]
  · exact (d.spoils_keeps _).1 a (by simpa using ha) h

/-! ### Writes of plain registers (R16) -/

theorem Chip.regStore_plain (src : Src) {a : Nat} (v : Word) {r : RegRow} {ix : List Nat} (hr : regAt a = some (r, ix))
    (h : plainReg a) : c.regStore src a v = ((c.wr a (r.store (c.rd a) v)).spoils (spoilAddr a), 0) := by
  simp [Chip.regStore, hr, h.not_window, h.not_ruled, Chip.blockWritten_plain _ src _ v h]

/-- The registers a performed write of a privileged register touches beside its own: it uses the session (R351). -/
def sessionRegs (a : Nat) : List Nat := if (scopeBit a).isSome then [R.scpSession] else []

/-- A write that no rule rejects uses a session only where it needs one. -/
theorem Chip.writeOp_allowed_session {c : Chip} {src : Src} {a : Nat} {v : Word} (h : c.Allows src a v) :
    (c.regStore src a v).1.Alike (c.writeOp src a v) (sessionRegs a) := by
  by_cases hs : (scopeBit a).isSome
  · simpa only [sessionRegs, hs, if_true] using (Chip.writeOp_allowed h).1
  · have h' : pickStatus (c.writeChecks src a v) = 0 := h
    unfold Chip.writeOp Chip.ctrlWrite
    rcases hst : c.regStore src a v with ⟨d, st⟩
    cases src <;> simp [h', hs] <;> exact Chip.Alike.emit _ _ _

/-- SCP_SESSION itself needs no session. -/
theorem not_mem_sessionRegs_self (a : Nat) : a ∉ sessionRegs a := by
  unfold sessionRegs
  intro h
  split at h
  next hs =>
    rw [List.mem_singleton.1 h] at hs
    exact absurd hs (by decide)
  next => simp at h

/-! ### Reads (R16) -/

/-- A read of a register that shows what it holds returns the readable fields and clears the RC fields. -/
theorem Chip.regView_plain {a : Nat} {r : RegRow} {ix : List Nat} (hr : regAt a = some (r, ix)) (h : plainRead a) :
    c.regView a = (c.wr a (r.afterRead (c.rd a)), r.view (c.rd a)) := by
  obtain ⟨hlist, hprbs, hfe, hmc⟩ := h
  simp only [List.mem_cons, List.not_mem_nil, or_false, not_or] at hlist
  obtain ⟨h1, h2, h3, h4, h5, h6⟩ := hlist
  unfold Chip.regView
  rw [if_neg h1, if_neg h2, if_neg h3, if_neg h4, if_neg h5, if_neg h6,
    if_neg fun ⟨hl, hu, hlane, hoff, hwin⟩ => hprbs ⟨le_trans (by decide) hl, hu, hwin, hlane, hoff⟩,
    if_neg fun ⟨hl, hu, hoff⟩ => hfe ⟨hl, lt_trans hu (by decide), hoff⟩,
    if_neg fun ⟨hl, _, hoff⟩ => hmc ⟨hl, Or.inl hoff⟩, if_neg fun ⟨hl, _, hoff⟩ => hmc ⟨hl, Or.inr hoff⟩, hr]

/-- The registers of the memory controllers are none of the single ones whose reads do more than show them. -/
theorem mcReg_no_view {a : Nat} (h : 0x800000 ≤ a) : a ≠ R.optData ∧ a ≠ R.orbNowNs ∧ a ≠ R.cmtVel ∧ a ≠ R.cmtStat
    ∧ a ≠ R.cmtEncLo 0 ∧ a ≠ R.cmtEncLo 1 := by
  unfold R.optData R.orbNowNs R.cmtVel R.cmtStat R.cmtEncLo
  omega

/-- A read of MCn_RFM_CNT first counts what has been sent. -/
theorem Chip.regView_mcRfmCnt {n : Nat} (hn : n < 6) {r : RegRow} {ix : List Nat}
    (hr : regAt (R.mcRfmCnt n) = some (r, ix)) : c.regView (R.mcRfmCnt n)
      = ((c.rfmCounted n).wr (R.mcRfmCnt n) (r.afterRead ((c.rfmCounted n).rd (R.mcRfmCnt n))),
        r.view ((c.rfmCounted n).rd (R.mcRfmCnt n))) := by
  obtain ⟨h1, h2, h3, h4, h5, h6⟩ := mcReg_no_view (a := R.mcRfmCnt n) (by unfold R.mcRfmCnt; omega)
  have hx : (R.mcRfmCnt n - 0x800000) / 0x10000 = n := by unfold R.mcRfmCnt; omega
  unfold Chip.regView
  rw [if_neg h1, if_neg h2, if_neg h3, if_neg h4, if_neg h5, if_neg h6, if_neg (by unfold R.mcRfmCnt; omega),
    if_neg (by unfold R.mcRfmCnt; omega), if_neg (by unfold R.mcRfmCnt; omega), if_pos (by unfold R.mcRfmCnt; omega), hr, hx]

/-- A read that no rule rejects answers the register's value. -/
theorem Chip.readOp_allowed {c : Chip} {src : Src} {a : Nat} (h : c.AllowsRead src a) :
    c.readOp src a = (c.regView a).1.emit (.status (c.regView a).2.toNat) := by
  have h' : pickStatus (c.accessChecks src a false) = 0 := h
  simp [Chip.readOp, Chip.ctrlRead, h']

/-- A read that some rule rejects changes nothing and returns 0 with the status. -/
theorem Chip.readOp_rejected {c : Chip} {src : Src} {a : Nat} (h : ¬c.AllowsRead src a) :
    c.readOp src a = c.emit (.status (pickStatus (c.accessChecks src a false) * 2 ^ 32)) := by
  have h' : pickStatus (c.accessChecks src a false) ≠ 0 := h
  simp [Chip.readOp, Chip.ctrlRead, h']

theorem mcRfmCnt_row : ∀ n < 6, (regAt (R.mcRfmCnt n)).map (fun p => p.1.mask .rc) = some 0xFFFFFFFF#32 := by
  decide +kernel

/-- Counting refresh-management commands touches the count alone. -/
theorem Chip.rfmCounted_keeps (n : Nat) : c.Keeps (c.rfmCounted n) [R.mcRfmCnt n] := by
  unfold Chip.rfmCounted
  split
  · exact Chip.Keeps.add (Chip.Keeps.of_same rfl rfl) (by simp [F.mcRfmCntCount])
  · exact Chip.Keeps.refl c _

@[simp] theorem Chip.rfmCounted_out (n : Nat) : (c.rfmCounted n).out = c.out := by
  unfold Chip.rfmCounted
  split <;> rfl

end Sys2Proof.Machine
end

section
/-! SUPPORT. Register writes and reads through the control space (R16, R17, R499), clause by clause. -/

namespace Sys2Proof.Machine

theorem registerWrite_rejected {s : State} {src : Src} {a : Nat} {v : Word} (h : ¬s.chip.Allows src a v) :
    Does (.registerWrite src a v) s fun t =>
      t.out = [.status (pickStatus (s.chip.writeChecks src a v))] ∧ s.chip.Keeps t [] := by
  have h' : ¬s.fresh.Allows src a v := by unfold Chip.Allows; rwa [s.fresh_writeChecks]
  refine Does.of_run (fun c => c.writeOp src a v) rfl (Chip.writeOp_rejected h') fun d hd ho _ => ⟨?_, ?_⟩
  · rw [ho, s.fresh_writeChecks]
    rfl
  · exact ((s.keeps_fresh []).emit _).settled hd

theorem registerWrite_plain {s : State} {src : Src} {a : Nat} {v : Word} {r : RegRow} {ix : List Nat}
    (hr : regAt a = some (r, ix)) (h : s.chip.Allows src a v) (hp : plainReg a) (ha : a ≠ R.scpSum) :
    Does (.registerWrite src a v) s fun t => t.out = [.status 0] ∧ t.rd a = r.store (s.chip.rd a) v
      ∧ s.chip.Keeps t ([a, R.jobVstat] ++ sessionRegs a) := by
  have hst := s.fresh.regStore_plain src v hr hp
  obtain ⟨-, hout⟩ := Chip.writeOp_allowed (State.fresh_allows h)
  have hal := Chip.writeOp_allowed_session (State.fresh_allows h)
  rw [hst] at hout hal
  refine Does.of_run (fun c => c.writeOp src a v) rfl rfl fun d hd ho _ => ⟨?_, ?_, ?_⟩
  · rw [ho, hout, Chip.spoils_out]
    rfl
  · rw [hd.rd a ha (by simp), hal.rd a ha (not_mem_sessionRegs_self a), Chip.spoils_rd_self _ ha, Chip.rd_wr_self]
    rfl
  · have hk := ((s.keeps_fresh [a]).wr (v := r.store (s.fresh.rd a) v) (List.mem_singleton_self a)).mono
      (l' := [a, R.jobVstat] ++ sessionRegs a) (by simp)
    exact ((hk.trans ((Chip.spoils_keeps _ _).mono (by simp))).alike hal (by simp +contextual)).settled hd

theorem rcRegisterRead_plain {s : State} {src : Src} {a : Nat} {r : RegRow} {ix : List Nat}
    (hr : regAt a = some (r, ix)) (h : s.chip.AllowsRead src a) (hp : plainRead a) (ha : a ≠ R.scpSum) :
    Does (.rcRegisterRead src a) s fun t => t.out = [.status (r.view (s.chip.rd a)).toNat]
      ∧ t.rd a = r.afterRead (s.chip.rd a) ∧ s.chip.Keeps t [a] := by
  have h' : s.fresh.AllowsRead src a := h
  refine Does.of_run (fun c => c.readOp src a) rfl (Chip.readOp_allowed h') fun d hd ho _ => ?_
  rw [s.fresh.regView_plain hr hp] at hd ho
  refine ⟨ho, ?_, ?_⟩
  · rw [hd.rd a ha (by simp)]
    exact Chip.rd_wr_self ..
  · exact (((s.keeps_fresh [a]).wr (List.mem_singleton_self a)).emit _).settled hd

theorem rcRegisterRead_mcRfmCnt {s : State} {src : Src} {n : Nat} (hn : n < 6)
    (h : s.chip.AllowsRead src (R.mcRfmCnt n)) :
    Does (.rcRegisterRead src (R.mcRfmCnt n)) s fun t => (∃ k : Nat, t.out = [.status k]) ∧ t.f (F.mcRfmCntCount n) = 0
      ∧ s.chip.Keeps t [R.mcRfmCnt n] := by
  have h' : s.fresh.AllowsRead src (R.mcRfmCnt n) := h
  obtain ⟨⟨r, ix⟩, hr, hmask⟩ := Option.map_eq_some_iff.1 (mcRfmCnt_row n hn)
  have hsum : R.mcRfmCnt n ≠ R.scpSum := by unfold R.mcRfmCnt R.scpSum; omega
  refine Does.of_run (fun c => c.readOp src (R.mcRfmCnt n)) rfl (Chip.readOp_allowed h') fun d hd ho _ => ?_
  rw [s.fresh.regView_mcRfmCnt hn hr] at hd ho
  refine ⟨⟨(r.view ((s.fresh.rfmCounted n).rd (R.mcRfmCnt n))).toNat, ?_⟩, ?_, ?_⟩
  · rw [ho]
    show (s.fresh.rfmCounted n).out ++ _ = _
    rw [Chip.rfmCounted_out]
    rfl
  · rw [hd.f hsum (by simp), Chip.f_eq]
    show getBits (Chip.rd (Chip.wr _ _ _) _) _ _ = 0
    rw [show (F.mcRfmCntCount n).addr = R.mcRfmCnt n from rfl, Chip.rd_wr_self, RegRow.afterRead, hmask]
    simp [getBits]
  · have hk := (s.keeps_fresh [R.mcRfmCnt n]).trans (s.fresh.rfmCounted_keeps n)
    exact ((hk.wr (List.mem_singleton_self _)).emit _).settled hd

theorem rcRegisterRead_rejected {s : State} {src : Src} {a : Nat} (h : ¬s.chip.AllowsRead src a) :
    Does (.rcRegisterRead src a) s fun t =>
      t.out = [.status (pickStatus (s.chip.accessChecks src a false) * 2 ^ 32)] ∧ s.chip.Keeps t [] := by
  have h' : ¬s.fresh.AllowsRead src a := h
  exact Does.of_run (fun c => c.readOp src a) rfl (Chip.readOp_rejected h') fun d hd ho _ =>
    ⟨ho, ((s.keeps_fresh []).emit _).settled hd⟩

/-- Settles O24: each clause is a read or write operation whose block has no effect of its own. -/
theorem registerAccesses : Obligations.RegisterAccesses := by
  intro s src a v
  exact ⟨registerWrite_rejected, fun r ix hr => ⟨registerWrite_plain hr, rcRegisterRead_plain hr⟩,
    fun n hn h _ => rcRegisterRead_mcRfmCnt hn h, rcRegisterRead_rejected⟩

end Sys2Proof.Machine
end

section
/-! SUPPORT. The memory controllers: their state under an update, and what a write of one of their registers does. -/

namespace Sys2Proof.Machine

variable (c : Chip)

theorem Chip.mc_modMc {n : Nat} (h : n < c.mcs.length) (g : McS → McS) : (c.modMc n g).mc n = g (c.mc n) := by
  simp [Chip.mc, Chip.modMc, List.getElem?_eq_getElem h]

theorem Chip.mc_congr {c t : Chip} (h : t.mcs = c.mcs) (n : Nat) : t.mc n = c.mc n := by rw [Chip.mc, h, Chip.mc]

theorem Chip.Alike.mc {e d : Chip} {l : List Nat} (h : e.Alike d l) (n : Nat) : d.mc n = e.mc n := Chip.mc_congr h.mcs n

@[simp] theorem Chip.modMc_mcs_length (n : Nat) (g : McS → McS) : (c.modMc n g).mcs.length = c.mcs.length := by
  simp [Chip.modMc]

/-- An effect that writes no register and no memory keeps them all. -/
theorem Chip.Alike.keeps {c e d : Chip} (h : e.Alike d []) (hr : e.regs = c.regs) (hm : e.mem = c.mem) (l : List Nat) :
    c.Keeps d l := (Chip.Keeps.of_same hr hm).settled h

/-- The registers of the memory controllers are none of the control protocol's. -/
theorem mcReg_ne_scp {a : Nat} (h : 0x800000 ≤ a) : a ≠ R.scpSum ∧ a ∉ [R.scpSession] := by
  simp only [R.scpSum, R.scpSession, List.mem_singleton]
  omega

theorem mcStat_ge (n : Nat) : 0x800000 ≤ R.mcStat n := by unfold R.mcStat; omega

theorem Chip.Alike.f_mc {e d : Chip} {l : List Nat} (h : e.Alike d l) (hl : ∀ a ∈ l, a = R.scpSession) {x : Fld}
    (hx : 0x800000 ≤ x.addr) : d.f x = e.f x :=
  h.f (mcReg_ne_scp hx).1 fun hm => (mcReg_ne_scp hx).2 (by simp [hl _ hm])

/-! ### Register writes of the memory controllers -/

theorem spoilAddr_mc {a : Nat} (h : 0x800000 ≤ a) : spoilAddr a = a := by
  have hr : ∀ r ∈ bankRanges, r.1 + r.2.1 + r.2.2 ≤ 0x800000 := by decide
  have hb : bankOf a = none := by
    rw [bankOf, Option.map_eq_none_iff, List.find?_eq_none]
    intro r hm
    have := hr r hm
    simp only [Bool.and_eq_true, decide_eq_true_eq]
    omega
  rw [spoilAddr, hb]

theorem Chip.spoils_mc {a : Nat} (h : 0x800000 ≤ a) : c.spoils (spoilAddr a) = c := by
  rw [spoilAddr_mc h]
  have hs : ∀ b ∈ [R.ieRefBase 0, R.ieRefStride 0, R.ieRefW 0, R.ieRefH 0, R.jobRefCrc, R.ieRuleBase 0, R.ieRuleTy 0,
      R.stcWeb 0, R.jobRuleCrc], b < 0x800000 := by decide
  exact c.spoils_other fun hm => absurd (hs a hm) (not_lt.2 h)

/-- A performed write of a register of a memory controller stores its fields and has the controller's effect. -/
theorem Chip.regStore_mc (src : Src) {a : Nat} (v : Word) {r : RegRow} {ix : List Nat} (hr : regAt a = some (r, ix))
    {n off : Nat} (ha : a = 0x800000 + n * 0x10000 + off) (ho : off < 0x10000) :
    c.regStore src a v = ((c.wr a (r.store (c.rd a) v)).mcWritten n off v, 0) := by
  have h : 0x800000 ≤ a := by omega
  have hn : (a - 0x800000) / 0x10000 = n := by omega
  have hoff : a % 0x10000 = off := by omega
  have hw : windowReg a = false := by
    unfold windowReg
    rw [Bool.or_eq_false_iff, List.any_eq_false]
    refine ⟨beq_eq_false_iff_ne.2 (by unfold R.optData; omega), fun n hn ha => ?_⟩
    have hn := List.mem_range.1 hn
    have ha := eq_of_beq ha
    unfold R.feTblData at ha
    omega
  have hj : ruledReg a = false := by
    unfold ruledReg R.jobPortOff R.jobProdOff
    rw [Bool.or_eq_false_iff, beq_eq_false_iff_ne, beq_eq_false_iff_ne]
    omega
  have hb : ∀ d : Chip, d.blockWritten src a (c.rd a) v = (d.mcWritten n off v, 0) := by
    intro d
    unfold Chip.blockWritten
    iterate 17 rw [if_neg (by omega)]
    rw [hn, hoff]
  simp [Chip.regStore, hr, hw, hj, hb, Chip.spoils_mc _ h]

end Sys2Proof.Machine
end

section
/-! SUPPORT. Initialization of the DDR5 channels (R468): INIT starts every populated channel. -/

namespace Sys2Proof.Machine

variable (c : Chip)

/-- A channel trains from its first step. -/
def Chip.Starts (c : Chip) (n : Nat) : Prop := c.f (F.mcStatState n) = mcTraining ∧ (c.mc n).step = 1

/-- One channel starts. -/
def Chip.mcStart (c : Chip) (n : Nat) : Chip := (c.setF (F.mcStatState n) mcTraining).modMc n fun m => { m with step := 1 }

theorem Chip.mcInit_def : c.mcInit = c.each c.mcPop Chip.mcStart := rfl

theorem Chip.mcStart_starts {n : Nat} (h : n < c.mcs.length) : (c.mcStart n).Starts n := by
  refine ⟨?_, ?_⟩
  · exact c.f_setF_self (x := F.mcStatState n) mcTraining (by simp [F.mcStatState])
  · exact congrArg McS.step ((c.setF (F.mcStatState n) mcTraining).mc_modMc h _)

theorem Chip.mcStart_keeps_starts {n : Nat} (k : Nat) (h : c.Starts n) : (c.mcStart k).Starts n := by
  obtain ⟨hst, hs⟩ := h
  by_cases hk : k = n
  · subst hk
    refine c.mcStart_starts ?_
    by_contra hlen
    rw [Chip.mc, List.getElem?_eq_none (by omega)] at hs
    exact absurd hs (by decide)
  · refine ⟨?_, ?_⟩
    · refine Eq.trans (c.f_setF_ne mcTraining ?_) hst
      simp only [F.mcStatState, R.mcStat]
      omega
    · rw [← hs]
      exact congrArg McS.step (by simp [Chip.mcStart, Chip.mc, Chip.modMc, hk])

theorem Chip.each_mcStart_starts {n : Nat} (l : List Nat) (h : n < c.mcs.length) (hn : n ∈ l ∨ c.Starts n) :
    (c.each l Chip.mcStart).Starts n := by
  unfold Chip.each
  induction l generalizing c with
  | nil => exact hn.resolve_left (by simp)
  | cons k rest ih =>
    refine ih (c.mcStart k) (by simpa [Chip.mcStart] using h) ?_
    rcases hn with hn | hn
    · rcases List.mem_cons.1 hn with rfl | hn
      · exact Or.inr (c.mcStart_starts h)
      · exact Or.inl hn
    · exact Or.inr (c.mcStart_keeps_starts k hn)

theorem mc0Ctrl_row : (regAt R.mc0Ctrl).isSome = true := by decide +kernel

theorem force_init_bit (v : Word) : bitAt (force F.mc0CtrlInit 1 v) 31 = true := by
  simp [bitAt, force, F.mc0CtrlInit, getLsbD_putBits]

theorem Chip.mcWritten_init {v : Word} (h : bitAt v 31 = true) : c.mcWritten 0 0x04 v = c.mcInit := if_pos ⟨rfl, h⟩

/-- A performed write of INIT = 1 starts every populated channel. -/
theorem Chip.regStore_mcInit (src : Src) (v : Word) {n : Nat} (hn : n < 6) (hl : c.mcs.length = 6)
    (hp : c.fb (F.mcCfgPop n) = true) : (c.regStore src R.mc0Ctrl (force F.mc0CtrlInit 1 v)).1.Starts n
      ∧ (c.regStore src R.mc0Ctrl (force F.mc0CtrlInit 1 v)).2 = 0 := by
  obtain ⟨⟨r, ix⟩, hr⟩ := Option.isSome_iff_exists.1 mc0Ctrl_row
  rw [c.regStore_mc src _ hr (n := 0) (off := 0x04) rfl (by decide), Chip.mcWritten_init _ (force_init_bit v), Chip.mcInit_def]
  refine ⟨?_, rfl⟩
  refine Chip.each_mcStart_starts _ _ (by simp [hl, hn]) (Or.inl (List.mem_filter.2 ⟨List.mem_range.2 hn, ?_⟩))
  rw [Chip.fb_wr_ne _ _ (by simp only [F.mcCfgPop, R.mcCfg, R.mc0Ctrl]; omega)]
  exact hp

theorem mcInit_starts {s : State} {src : Src} {n : Nat} {v : Word} (hn : n < 6) (hl : s.chip.mcs.length = 6)
    (ha : s.chip.Allows src R.mc0Ctrl (force F.mc0CtrlInit 1 v)) (hp : s.chip.fb (F.mcCfgPop n) = true) :
    Does (.mcInit src v) s fun t => t.f (F.mcStatState n) = mcTraining ∧ (t.mc n).step = 1 ∧ .status 0 ∈ t.out := by
  obtain ⟨⟨hst, hs⟩, h0⟩ := s.fresh.regStore_mcInit src v hn hl hp
  refine Does.of_write rfl ha fun d hd ho => ⟨?_, ?_, ?_⟩
  · rw [hd.f_mc (by simp) (mcStat_ge n), hst]
  · rw [hd.mc, hs]
  · rw [ho, h0]
    simp

end Sys2Proof.Machine
end

section
/-! SUPPORT. Training steps of the DDR5 channels (R468). -/

namespace Sys2Proof.Machine

variable (c : Chip)

theorem sget_filter_below {α : Type} (d : Nat → α) (m : List (Nat × α)) (b k : Nat) :
    sget d (m.filter fun p => decide (p.1 < b)) k = if k < b then sget d m k else d k := by
  induction m with
  | nil => simp [sget]
  | cons p rest ih =>
    obtain ⟨j, v⟩ := p
    by_cases hj : j < b
    · rw [List.filter_cons_of_pos (by simpa using hj), sget, sget, ih]
      by_cases hjk : j = k
      · subst hjk; simp [hj]
      · simp [hjk]
    · rw [List.filter_cons_of_neg (by simpa using hj), ih, sget]
      have hjk : k < b → j ≠ k := by omega
      by_cases hk : k < b
      · simp [hk, hjk hk]
      · simp [hk]

/-- Zeroed lines read 0, and memory below the DDR5 window is kept. -/
theorem Chip.ddrZero_byte (a : Nat) : c.ddrZero.byte a = if a < ddrBase then c.byte a else 0#8 :=
  sget_filter_below memDefault c.mem ddrBase a

/-- Every populated channel is READY or FAILED. -/
def Chip.mcSettled (c : Chip) : Bool :=
  c.mcPop.all fun n => c.f (F.mcStatState n) == mcReady || c.f (F.mcStatState n) == mcFailed

/-- The end of an initialization shows INIT_DONE and forms the window. -/
theorem Chip.mcInitCheck_settled (h : c.mcSettled = true) :
    ∃ w, c.mcInitCheck = { c.setF (F.mcStatInitDone 0) 1 with win := w } := by
  rw [Chip.mcInitCheck, show (c.mcPop.all _) = true from h, if_pos rfl, Chip.formWindow]
  dsimp only
  split
  · exact ⟨_, rfl⟩
  · exact ⟨_, rfl⟩

theorem Chip.mcInitCheck_eq : c.mcInitCheck = c ∨ ∃ w, c.mcInitCheck = { c.setF (F.mcStatInitDone 0) 1 with win := w } := by
  by_cases h : c.mcSettled = true
  · exact Or.inr (c.mcInitCheck_settled h)
  · exact Or.inl (if_neg h)

theorem Chip.mcInitCheck_state (n : Nat) : c.mcInitCheck.f (F.mcStatState n) = c.f (F.mcStatState n) := by
  obtain h | ⟨w, h⟩ := c.mcInitCheck_eq
  · rw [h]
  · rw [h]
    exact c.f_setF_disjoint 1 (Or.inr (Or.inl (by simp [F.mcStatInitDone, F.mcStatState])))

@[simp] theorem Chip.mcInitCheck_reports : c.mcInitCheck.reports = c.reports := by
  obtain h | ⟨w, h⟩ := c.mcInitCheck_eq
  · rw [h]
  · rw [h]
    rfl

@[simp] theorem Chip.mcInitCheck_byte (a : Nat) : c.mcInitCheck.byte a = c.byte a := by
  obtain h | ⟨w, h⟩ := c.mcInitCheck_eq
  · rw [h]
  · rw [h]
    rfl

/-- Where every populated channel is READY, INIT_DONE shows. -/
theorem Chip.mcInitCheck_done (h : ∀ k < 6, c.fb (F.mcCfgPop k) = true → c.f (F.mcStatState k) = mcReady) :
    c.mcInitCheck.f (F.mcStatInitDone 0) = 1 := by
  have hall : c.mcSettled = true := by
    refine List.all_eq_true.2 fun k hk => ?_
    obtain ⟨hk, hp⟩ := List.mem_filter.1 hk
    rw [h k (List.mem_range.1 hk) hp]
    rfl
  obtain ⟨w, hw⟩ := c.mcInitCheck_settled hall
  rw [hw]
  exact c.f_setF_self (x := F.mcStatInitDone 0) 1 (by simp [F.mcStatInitDone])

theorem Chip.f_setF_mcState (n k v : Nat) :
    (c.setF (F.mcStatState n) v).f (F.mcStatState k) = if k = n then v % 8 else c.f (F.mcStatState k) := by
  by_cases h : k = n
  · subst h
    rw [if_pos rfl]
    exact c.f_setF_self (x := F.mcStatState k) v (by simp [F.mcStatState])
  · rw [if_neg h]
    exact c.f_setF_ne v (by simp only [F.mcStatState, R.mcStat]; omega)

theorem Chip.mcTrainStep_next {n : Nat} (hn : n < 6) (hst : c.f (F.mcStatState n) = mcTraining) (hs : (c.mc n).step < 5) :
    c.mcTrainStep n true = c.modMc n fun m => { m with step := m.step + 1 } := by
  rw [Chip.mcTrainStep, if_pos ⟨hn, hst⟩, if_pos rfl, if_pos hs]

theorem Chip.mcTrainStep_last {n : Nat} (hn : n < 6) (hst : c.f (F.mcStatState n) = mcTraining) (hs : 5 ≤ (c.mc n).step) :
    c.mcTrainStep n true = ((c.setF (F.mcStatState n) mcReady).ddrZero).mcInitCheck := by
  rw [Chip.mcTrainStep, if_pos ⟨hn, hst⟩, if_pos rfl, if_neg (by omega)]

theorem Chip.mcTrainStep_failed {n : Nat} (hn : n < 6) (hst : c.f (F.mcStatState n) = mcTraining) :
    c.mcTrainStep n false = ((c.setF (F.mcStatState n) mcFailed).report 0x12 n).mcInitCheck := by
  rw [Chip.mcTrainStep, if_pos ⟨hn, hst⟩, if_neg (by simp)]

theorem mcTrainStepDone_next {s : State} {n : Nat} (hn : n < 6) (hl : s.chip.mcs.length = 6)
    (hd6 : s.chip.domainRuns 6 = true) (hst : s.chip.f (F.mcStatState n) = mcTraining) (hs : (s.chip.mc n).step < 5) :
    Does (.mcTrainStepDone n true) s fun t => (t.mc n).step = (s.chip.mc n).step + 1 ∧ s.chip.Keeps t [] := by
  refine Does.of_runIn (fun c => c.mcTrainStep n true) rfl hd6 (by simpa using hn)
    (s.fresh.mcTrainStep_next hn hst hs) fun d hd _ _ => ⟨?_, hd.keeps rfl rfl []⟩
  rw [hd.mc, Chip.mc_modMc _ (by simpa [State.fresh, hl] using hn)]
  rfl

theorem mcTrainStepDone_last {s : State} {n : Nat} (hn : n < 6) (hd6 : s.chip.domainRuns 6 = true)
    (hst : s.chip.f (F.mcStatState n) = mcTraining) (hs : 5 ≤ (s.chip.mc n).step) :
    Does (.mcTrainStepDone n true) s fun t => t.f (F.mcStatState n) = mcReady
      ∧ (∀ a, ddrBase ≤ a → t.byte a = 0#8) ∧ (∀ a < ddrBase, t.byte a = s.chip.byte a)
      ∧ ((∀ k < 6, k ≠ n → s.chip.fb (F.mcCfgPop k) = true → s.chip.f (F.mcStatState k) = mcReady) →
        t.f (F.mcStatInitDone 0) = 1) := by
  refine Does.of_runIn (fun c => c.mcTrainStep n true) rfl hd6 (by simpa using hn)
    (s.fresh.mcTrainStep_last hn hst hs) fun d hd _ _ => ⟨?_, fun a ha => ?_, fun a ha => ?_, fun hall => ?_⟩
  · rw [hd.f_mc (by simp) (mcStat_ge n), Chip.mcInitCheck_state]
    exact (s.fresh.f_setF_mcState n n mcReady).trans (if_pos rfl)
  · rw [hd.byte, Chip.mcInitCheck_byte, Chip.ddrZero_byte, if_neg (not_lt.2 ha)]
  · rw [hd.byte, Chip.mcInitCheck_byte, Chip.ddrZero_byte, if_pos ha]
    rfl
  · rw [hd.f_mc (by simp) (mcStat_ge 0)]
    refine Chip.mcInitCheck_done _ fun k hk hp => ?_
    refine (s.fresh.f_setF_mcState n k mcReady).trans ?_
    split
    · rfl
    next hkn =>
      refine hall k hk hkn ?_
      rw [← hp]
      refine (s.fresh.fb_setF_disjoint (x := F.mcStatState n) mcReady (Or.inl ?_)).symm
      simp only [F.mcCfgPop, F.mcStatState, R.mcCfg, R.mcStat]
      omega

theorem mcTrainStepDone_failed {s : State} {n : Nat} (hn : n < 6) (hd6 : s.chip.domainRuns 6 = true)
    (hst : s.chip.f (F.mcStatState n) = mcTraining) :
    Does (.mcTrainStepDone n false) s fun t => t.f (F.mcStatState n) = mcFailed ∧ ⟨0x12, n, false⟩ ∈ t.reports := by
  refine Does.of_runIn (fun c => c.mcTrainStep n false) rfl hd6 (by simpa using hn)
    (s.fresh.mcTrainStep_failed hn hst) fun d hd _ _ => ⟨?_, ?_⟩
  · rw [hd.f_mc (by simp) (mcStat_ge n), Chip.mcInitCheck_state]
    exact (s.fresh.f_setF_mcState n n mcFailed).trans (if_pos rfl)
  · rw [hd.reports, Chip.mcInitCheck_reports]
    simp [Chip.report]

end Sys2Proof.Machine
end

section
/-! SUPPORT. A scrub piece falls due (R471): it waits in Fold 3, or the dispatch (R251) starts it. -/

namespace Sys2Proof.Machine

variable (c : Chip)

/-! ### The dispatch of one piece of Fold 3 (R251) -/

theorem Chip.offerFold_none {f : Nat} (h : ∀ w ∈ c.shp.queue, (w.fold == f && c.eligible w) = false) :
    c.offerFold f = (c, false) := by
  have hf : (c.shp.queue.find? fun w => w.fold == f && c.eligible w) = none :=
    List.find?_eq_none.2 fun w hw => by simp [h w hw]
  unfold Chip.offerFold
  rw [hf]
  split <;> rfl

theorem Chip.offerFold_off {f : Nat} (h : c.foldOn f = false) : c.offerFold f = (c, false) := by
  simp [Chip.offerFold, h]

/-- An item that may start, has a place and is within the energy account starts. -/
theorem Chip.offerFold_start {f e : Nat} {w : WorkItem} (hon : c.foldOn f = true) (hq : c.shp.queue = [w])
    (hf : w.fold = f) (hw : c.eligible w = true) (hp : c.placeFor w = some e)
    (hc : (c.itemCost w (e / 17) : Int) ≤ c.shp.rem) : c.offerFold f = (c.startItem w e, true) := by
  have hfind : (c.shp.queue.find? fun w => w.fold == f && c.eligible w) = some w := by simp [hq, hf, hw]
  unfold Chip.offerFold
  rw [hon, hfind]
  simp [hp, hc]

/-- A dispatch whose queue holds items of Fold 3 alone asks that fold alone. -/
theorem Chip.dispatchPass_fold3 (h : ∀ w ∈ c.shp.queue, w.fold = 3) : c.dispatchPass = c.offerFold 3 := by
  have ho : ∀ f < 3, c.offerFold f = (c, false) := fun f hf => c.offerFold_none fun w hw => by
    rw [h w hw]
    simp
    omega
  simp [Chip.dispatchPass, List.range, List.range.loop, ho]

/-- A pass that starts nothing ends the dispatch. -/
theorem Chip.dispatchLoop_idle (h : c.dispatchPass = (c, false)) (k : Nat) : Chip.dispatchLoop k c = c := by
  cases k with
  | zero => rfl
  | succ k => simp [Chip.dispatchLoop, h]

theorem Chip.dispatchLoop_empty (h : c.shp.queue = []) (k : Nat) : Chip.dispatchLoop k c = c := by
  refine c.dispatchLoop_idle ?_ k
  rw [c.dispatchPass_fold3 (by simp [h]), c.offerFold_none (by simp [h])]

/-! ### Scrub pieces fall due (R471) -/

/-- The Fold 3 item of a scrub piece, whose cycles a free value gives. -/
def scrubItem (n : Nat) (hits : List (Nat × Bool)) (pass : Bool) (k : Nat) : WorkItem :=
  { fold := 3, bseq := n, strip := 0, kind := 1, tiles := [], cycles16 := 16 * (k % 20481), deferred := false, hits := hits,
    pass := pass }

theorem scrubItem_cycles (n : Nat) (hits : List (Nat × Bool)) (pass : Bool) (k : Nat) :
    (scrubItem n hits pass k).cycles16 ≤ 327680 := by
  simp only [scrubItem]
  omega

theorem scrubItem_kind (n : Nat) (hits : List (Nat × Bool)) (pass : Bool) (k : Nat) :
    (scrubItem n hits pass k).kind ≠ 2 := by
  simp [scrubItem]

/-- The device with a scrub piece alone in the queue. -/
def Chip.scrubQueued (c : Chip) (w : WorkItem) : Chip :=
  ({ c with freeCtr := c.freeCtr + 1 } : Chip).modShp fun s => { s with queue := [w] }

theorem Chip.scrubDue_empty (n : Nat) (hits : List (Nat × Bool)) (pass : Bool) (h : c.shp.queue = []) :
    c.scrubDue n hits pass = (c.scrubQueued (scrubItem n hits pass (c.fresh 11).1)).dispatch := by
  simp only [Chip.scrubDue, Chip.backgroundDue, Chip.fresh, Chip.modShp, Chip.scrubQueued, h, List.map_nil, List.nil_append,
    scrubItem]

theorem Chip.scrubQueued_dispatch (w : WorkItem) (h : w.fold = 3) :
    (c.scrubQueued w).dispatchPass = (c.scrubQueued w).offerFold 3 :=
  Chip.dispatchPass_fold3 _ fun v hv => by rw [List.mem_singleton.1 hv, h]

/-- What a scrub piece needs to start is not changed by its waiting. -/
theorem Chip.scrubQueued_placeFor (w v : WorkItem) : (c.scrubQueued w).placeFor v = c.placeFor v := rfl

theorem Chip.scrubQueued_itemCost (w v : WorkItem) (k : Nat) : (c.scrubQueued w).itemCost v k = c.itemCost v k := rfl

theorem Chip.scrubQueued_eligible (w : WorkItem) (n : Nat) (hits : List (Nat × Bool)) (pass : Bool) (k : Nat) :
    (c.scrubQueued w).eligible (scrubItem n hits pass k) = c.scrubbable n := by
  simp only [Chip.eligible, scrubItem, Bool.not_false, Bool.true_and]
  rfl

/-- A scrub piece that may not start waits. -/
theorem Chip.scrubDue_waits (n : Nat) (hits : List (Nat × Bool)) (pass : Bool) (hq : c.shp.queue = [])
    (h : c.fb F.shpCtrlF3En = false ∨ c.scrubbable n = false) :
    c.scrubDue n hits pass = c.scrubQueued (scrubItem n hits pass (c.fresh 11).1) := by
  rw [c.scrubDue_empty n hits pass hq]
  refine Chip.dispatchLoop_idle _ ?_ 69
  rw [c.scrubQueued_dispatch _ rfl]
  rcases h with h | h
  · exact Chip.offerFold_off _ h
  · refine Chip.offerFold_none _ fun w hw => ?_
    rw [List.mem_singleton.1 hw, c.scrubQueued_eligible, h, Bool.and_false]

/-- A piece of Fold 3 other than a conditioning run does nothing as it starts but being charged and counted. -/
theorem Chip.startItem_fold3 {w : WorkItem} (e : Nat) (hf : w.fold = 3) (hk : w.kind ≠ 2) :
    c.startItem w e = (((c.modShp fun s => { s with queue := s.queue.erase w, run := s.run ++ [(e, w)] }).remSet
      (c.shp.rem - (c.itemCost w (e / 17) : Int))).modCluster (e / 17) fun s =>
        { s with charged := s.charged + c.itemCost w (e / 17) }).inc (F.shpStartCount 3) := by
  unfold Chip.startItem
  rw [hf]
  dsimp only
  rw [if_neg (by decide), if_pos rfl, Chip.backgroundStart, if_neg hk]
  rfl

/-- The item leaves the queue, runs on its engine and is charged. -/
theorem Chip.startItem_shp {w : WorkItem} (e : Nat) (hf : w.fold = 3) (hk : w.kind ≠ 2) :
    (c.startItem w e).shp.queue = c.shp.queue.erase w ∧ (c.startItem w e).shp.run = c.shp.run ++ [(e, w)]
      ∧ (c.startItem w e).shp.rem = c.shp.rem - (c.itemCost w (e / 17) : Int) := by
  rw [c.startItem_fold3 e hf hk]
  exact ⟨rfl, rfl, rfl⟩

theorem Chip.startItem_ecc {w : WorkItem} (e : Nat) (hf : w.fold = 3) (hk : w.kind ≠ 2) : (c.startItem w e).ecc = c.ecc := by
  rw [c.startItem_fold3 e hf hk]
  rfl

theorem Chip.startItem_count {w : WorkItem} (e : Nat) (hf : w.fold = 3) (hk : w.kind ≠ 2) :
    (c.startItem w e).f (F.shpStartCount 3) = satAdd (F.shpStartCount 3).width (c.f (F.shpStartCount 3)) 1 := by
  rw [c.startItem_fold3 e hf hk, Chip.f_inc_self _ (by decide), Chip.modCluster, Chip.modShp_f, Chip.remSet,
    Chip.setFs_def, Chip.f_setF_ne _ _ (by decide), Chip.modShp_f, Chip.modShp_f]

theorem Chip.startItem_keeps {w : WorkItem} (e : Nat) (hf : w.fold = 3) (hk : w.kind ≠ 2) :
    c.Keeps (c.startItem w e) [(F.shpStartCount 3).addr, F.shpRemRem.addr] := by
  rw [c.startItem_fold3 e hf hk]
  refine Chip.Keeps.inc (Chip.Keeps.same (t := Chip.remSet _ _) ?_ rfl rfl) (by simp)
  exact Chip.Keeps.setFs (Chip.Keeps.of_same rfl rfl) (by simp)

/-- A scrub piece with a place within the energy account starts there. -/
theorem Chip.scrubDue_starts {n e : Nat} (hits : List (Nat × Bool)) (pass : Bool) (hq : c.shp.queue = [])
    (hs : c.scrubbable n = true) (hon : c.fb F.shpCtrlF3En = true)
    (hp : ∀ k, c.placeFor (scrubItem n hits pass k) = some e)
    (hc : ∀ k, (c.itemCost (scrubItem n hits pass k) (e / 17) : Int) ≤ c.shp.rem) :
    c.scrubDue n hits pass = (c.scrubQueued (scrubItem n hits pass (c.fresh 11).1)).startItem
      (scrubItem n hits pass (c.fresh 11).1) e := by
  rw [c.scrubDue_empty n hits pass hq]
  generalize (c.fresh 11).1 = k
  have hpass : (c.scrubQueued (scrubItem n hits pass k)).dispatchPass
      = ((c.scrubQueued (scrubItem n hits pass k)).startItem (scrubItem n hits pass k) e, true) := by
    rw [c.scrubQueued_dispatch _ rfl]
    exact Chip.offerFold_start _ hon rfl rfl ((c.scrubQueued_eligible _ n hits pass k).trans hs)
      ((c.scrubQueued_placeFor _ _).trans (hp k)) (by rw [c.scrubQueued_itemCost]; exact hc k)
  show Chip.dispatchLoop (68 + 1) _ = _
  rw [Chip.dispatchLoop, hpass]
  refine Chip.dispatchLoop_empty _ ?_ 68
  rw [(Chip.startItem_shp _ e rfl (scrubItem_kind n hits pass k)).1]
  exact List.erase_cons_head ..

theorem mcScrubPiece_waits {s : State} {n : Nat} (hn : n < 6) (hd6 : s.chip.domainRuns 6 = true)
    (hits : List (Nat × Bool)) (pass : Bool) (hq : s.chip.shp.queue = [])
    (h : s.chip.fb F.shpCtrlF3En = false ∨ s.chip.scrubbable n = false) :
    Does (.mcScrubPiece n hits pass) s fun t => (∃ w : WorkItem, t.shp.queue = [w] ∧ w.fold = 3 ∧ w.kind = 1 ∧ w.bseq = n
      ∧ w.hits = hits ∧ w.pass = pass ∧ w.cycles16 ≤ 327680) ∧ t.shp.run = s.chip.shp.run ∧ s.chip.Keeps t [] := by
  refine Does.of_runIn (fun c => c.scrubDue n hits pass) rfl hd6 (by simpa using hn)
    (s.fresh.scrubDue_waits n hits pass hq h) fun d hd _ _ => ⟨⟨scrubItem n hits pass (s.fresh.fresh 11).1, ?_, rfl, rfl,
      rfl, rfl, rfl, scrubItem_cycles ..⟩, ?_, hd.keeps rfl rfl []⟩
  · rw [hd.shp]
    rfl
  · rw [hd.shp]
    rfl

theorem mcScrubPiece_starts {s : State} {n e : Nat} (hn : n < 6) (hd6 : s.chip.domainRuns 6 = true)
    (hits : List (Nat × Bool)) (pass : Bool) (hq : s.chip.shp.queue = []) (hs : s.chip.scrubbable n = true)
    (hon : s.chip.fb F.shpCtrlF3En = true)
    (hp : ∀ w : WorkItem, w.fold = 3 → w.kind = 1 → s.chip.placeFor w = some e)
    (hc : ∀ w : WorkItem, w.cycles16 ≤ 327680 → (s.chip.itemCost w (e / 17) : Int) ≤ s.chip.shp.rem) :
    Does (.mcScrubPiece n hits pass) s fun t => t.shp.queue = []
      ∧ (∃ w : WorkItem, t.shp.run = s.chip.shp.run ++ [(e, w)] ∧ w.fold = 3 ∧ w.kind = 1 ∧ w.bseq = n ∧ w.hits = hits
        ∧ w.pass = pass ∧ t.shp.rem = s.chip.shp.rem - (s.chip.itemCost w (e / 17) : Int))
      ∧ t.f (F.shpStartCount 3) = satAdd (F.shpStartCount 3).width (s.chip.f (F.shpStartCount 3)) 1 ∧ t.ecc = s.chip.ecc
      ∧ s.chip.Keeps t [(F.shpStartCount 3).addr, F.shpRemRem.addr] := by
  have he := s.fresh.scrubDue_starts hits pass hq hs hon (fun k => hp (scrubItem n hits pass k) rfl rfl)
    fun k => hc _ (scrubItem_cycles n hits pass k)
  generalize s.fresh.fresh 11 = k at he
  have hk := scrubItem_kind n hits pass k.1
  obtain ⟨hqueue, hrun, hrem⟩ := Chip.startItem_shp (s.fresh.scrubQueued (scrubItem n hits pass k.1)) e rfl hk
  refine Does.of_runIn (fun c => c.scrubDue n hits pass) rfl hd6 (by simpa using hn) he fun d hd _ _ => ?_
  refine ⟨?_, ⟨scrubItem n hits pass k.1, ?_, rfl, rfl, rfl, rfl, rfl, ?_⟩, ?_, ?_, ?_⟩
  · rw [hd.shp, hqueue]
    exact List.erase_cons_head ..
  · rw [hd.shp, hrun]
    rfl
  · rw [hd.shp, hrem]
    rfl
  · rw [hd.f (by decide) (by simp), Chip.startItem_count _ e rfl hk]
    rfl
  · rw [hd.ecc, Chip.startItem_ecc _ e rfl hk]
    rfl
  · have hw : s.chip.Keeps (s.fresh.scrubQueued (scrubItem n hits pass k.1)) [(F.shpStartCount 3).addr, F.shpRemRem.addr] :=
      Chip.Keeps.of_same rfl rfl
    exact (hw.trans (Chip.startItem_keeps _ e rfl hk)).settled hd

end Sys2Proof.Machine
end

section
/-! SUPPORT. A scrub piece ends (R470, R471): what the words it meets leave. -/

namespace Sys2Proof.Machine

variable (c : Chip)

/-! ### Words in error (R470) -/

theorem Chip.inChannel_iff {n x : Nat} : c.inChannel n x = true ↔
    ddrBase ≤ 8 * x ∧ 8 * x < ddrBase + c.win.chans.length * c.win.cap ∧ c.ddrChannel (8 * x) = n := by
  simp [Chip.inChannel, and_assoc]

/-- A single-bit error that a read of a channel meets is counted. -/
theorem Chip.eccMeet_single {n x : Nat} (h : c.inChannel n x = true) : c.eccMeet x false = c.inc (F.mcCorrCount n) := by
  obtain ⟨hb, -, hc⟩ := c.inChannel_iff.1 h
  rw [Chip.eccMeet, if_neg (not_lt.2 hb), hc]
  rfl

/-- An uncorrectable address of a channel is counted and shown. -/
def Chip.ueShown (c : Chip) (n a : Nat) : Chip :=
  ((c.inc (F.mcUncorrCount n)).setF (F.mcUeLoAddr n) a).setF (F.mcUeHiAddr n) (a / 2 ^ 32)

theorem Chip.ueShown_keeps (n a : Nat) :
    c.Keeps (c.ueShown n a) [(F.mcUncorrCount n).addr, (F.mcUeLoAddr n).addr, (F.mcUeHiAddr n).addr] :=
  (((Chip.Keeps.refl c _).inc (by simp)).setF (by simp)).setF (by simp)

theorem Chip.ueShown_fields (n a : Nat) :
    (c.ueShown n a).f (F.mcUncorrCount n) = satAdd (F.mcUncorrCount n).width (c.f (F.mcUncorrCount n)) 1
    ∧ (c.ueShown n a).f (F.mcUeLoAddr n) = a % 2 ^ 32 ∧ (c.ueShown n a).f (F.mcUeHiAddr n) = a / 2 ^ 32 % 2 ^ 8 := by
  unfold Chip.ueShown
  refine ⟨?_, ?_, ?_⟩
  · rw [Chip.f_setF_ne _ _ (by simp [F.mcUncorrCount, F.mcUeHiAddr, R.mcUncorr, R.mcUeHi]),
      Chip.f_setF_ne _ _ (by simp [F.mcUncorrCount, F.mcUeLoAddr, R.mcUncorr, R.mcUeLo]),
      Chip.f_inc_self _ (by simp [F.mcUncorrCount])]
  · rw [Chip.f_setF_ne _ _ (by simp [F.mcUeLoAddr, F.mcUeHiAddr, R.mcUeLo, R.mcUeHi]),
      Chip.f_setF_self _ _ (by simp [F.mcUeLoAddr])]
    rfl
  · rw [Chip.f_setF_self _ _ (by simp [F.mcUeHiAddr])]
    rfl

/-- A double-bit error that a read of the window meets is counted, its address is shown and it is reported. -/
theorem Chip.eccMeet_double {n x : Nat} (h : c.inChannel n x = true) (ht : 8 * x < c.ddrTop) :
    c.eccMeet x true = (c.ueShown n (8 * x)).report 0x11 n := by
  obtain ⟨hb, -, hc⟩ := c.inChannel_iff.1 h
  rw [Chip.eccMeet, if_neg (not_lt.2 hb), hc]
  dsimp only
  rw [if_pos rfl, if_pos (show 8 * x < (c.inc _).ddrTop from ht)]
  rfl

/-- Single-bit errors of one channel that a read meets change its count of corrected words alone. -/
theorem Chip.each_eccMeet_single {n : Nat} (l : List (Nat × Bool))
    (h : ∀ p ∈ l, p.2 = false ∧ c.inChannel n p.1 = true) :
    ∃ rs, c.each l (fun c p => c.eccMeet p.1 p.2) = { c with regs := rs }
      ∧ c.Keeps { c with regs := rs } [R.mcCorr n] := by
  unfold Chip.each
  induction l generalizing c with
  | nil => exact ⟨c.regs, rfl, Chip.Keeps.refl c _⟩
  | cons p rest ih =>
    obtain ⟨hb, hx⟩ := h p (by simp)
    obtain ⟨rs, he, hk⟩ := ih (c.inc (F.mcCorrCount n)) fun q hq => h q (by simp [hq])
    refine ⟨rs, ?_, ((Chip.Keeps.refl c _).inc (List.mem_singleton_self _)).trans hk⟩
    rw [List.foldl_cons, hb, c.eccMeet_single hx, he]
    rfl

/-! ### Scrub pieces end (R471) -/

/-- The device once an engine's item has ended. -/
def Chip.engIdle (c : Chip) (e : Nat) : Chip := c.modShp fun s => { s with run := s.run.filter fun p => p.1 != e }

theorem Chip.engIdle_running (e : Nat) : (c.engIdle e).running? e = none := by
  simp [Chip.running?, Chip.engIdle, Chip.modShp]

theorem Chip.backgroundDone_scrub {e : Nat} (ok : Bool) {w : WorkItem} (hr : c.running? e = some w) (hf : w.fold = 3)
    (hk : w.kind = 1) (hl : c.shp.retiring.contains e = false) :
    c.backgroundDone e ok = (c.engIdle e).mcScrub w.bseq w.hits w.pass := by
  have hd : c.engDone e = c.engIdle e := if_neg (by simpa [Chip.modShp] using hl)
  simp [Chip.backgroundDone, hr, hf, hk, hd]

theorem Chip.eccMend_nil : c.eccMend [] = c := by
  have h : (c.ecc.filter fun p => !(([] : List (Nat × Bool)).contains p && !p.2)) = c.ecc := by simp
  show ({ c with ecc := c.ecc.filter fun p => !(([] : List (Nat × Bool)).contains p && !p.2) } : Chip) = c
  rw [h]

/-- The words in error that a piece of a channel reads: those it names and, as it ends a pass, those no piece of
the pass named. -/
def Chip.scrubMet (c : Chip) (n : Nat) (hits : List (Nat × Bool)) (pass : Bool) : List (Nat × Bool) :=
  c.ecc.filter fun p => c.inChannel n p.1 && (hits.any (fun h => h.1 == p.1) || (pass && !(c.mc n).scrubbed.contains p.1))

/-- A piece of a channel that can be scrubbed corrects and reports what it met. -/
theorem Chip.mcScrub_eq {n : Nat} {hits met : List (Nat × Bool)} {pass : Bool} {f : Chip} (h : c.scrubbable n = true)
    (hf : c.flip (hits.filter fun p => c.inChannel n p.1) = f) (hm : f.scrubMet n hits pass = met) :
    c.mcScrub n hits pass = ((f.eccMend met).modMc n fun m =>
      { m with scrubbed := if pass then [] else m.scrubbed ++ met.map (·.1) }).when pass (·.inc (F.mcScrubPassCount n)) := by
  subst hf hm
  rw [Chip.mcScrub, h]
  rfl

theorem Chip.scrubMet_clean (n : Nat) : c.scrubMet n [] false = [] := by simp [Chip.scrubMet]

theorem Chip.scrubMet_pass (n : Nat) (h : c.ecc = []) : c.scrubMet n [] true = [] := by simp [Chip.scrubMet, h]

/-- A word of the channel that holds an error is met by the piece that names it. -/
theorem Chip.flip_hit {n x : Nat} (b : Bool) (h : c.inChannel n x = true) (he : c.ecc = []) :
    c.flip ([(x, b)].filter fun p => c.inChannel n p.1) = { c with ecc := [(x, b)] } := by
  simp [Chip.flip, Chip.each, h, he, sdel, sins]

theorem Chip.scrubMet_hit {n x : Nat} (b : Bool) (h : c.inChannel n x = true) (he : c.ecc = [(x, b)]) :
    c.scrubMet n [(x, b)] false = [(x, b)] := by
  simp [Chip.scrubMet, he, h]

/-- A piece ends on an engine: the engine is free, and nothing but the piece's own effect `u` shows. -/
theorem backgroundPiece_ends {s : State} {n e : Nat} {ok : Bool} {w : WorkItem} {c u : Chip} {P : Chip → Prop} {l : List Nat}
    {hits : List (Nat × Bool)} {pass : Bool}
    (he : e < 68) (hd3 : s.chip.domainRuns 3 = true) (hr : s.chip.running? e = some w) (hf : w.fold = 3) (hk : w.kind = 1)
    (hb : w.bseq = n) (hl : s.chip.shp.retiring.contains e = false) (hh : w.hits = hits)
    (hp : w.pass = pass) (hc : s.fresh.engIdle e = c) (hu : c.mcScrub n hits pass = u) (hs : u.shp = c.shp)
    (hkeep : c.Keeps u l) (hP : ∀ d, u.Alike d [] → P d) :
    Does (.backgroundPieceComplete e ok) s fun t => P t
      ∧ t.running? e = none ∧ t.shp.queue = s.chip.shp.queue ∧ s.chip.Keeps t l := by
  subst hc hh hp
  have hu' : s.fresh.backgroundDone e ok = u := by
    rw [s.fresh.backgroundDone_scrub ok hr hf hk hl, hb, hu]
  refine Does.of_runIn (fun c => c.backgroundDone e ok) rfl hd3 (by simpa using he) hu' fun d hd _ _ =>
    ⟨hP d hd, ?_, ?_, ?_⟩
  · rw [Chip.running?, hd.shp, hs]
    exact s.fresh.engIdle_running e
  · rw [hd.shp, hs]
    rfl
  · have hi : s.chip.Keeps (s.fresh.engIdle e) l := Chip.Keeps.of_same rfl rfl
    exact (hi.trans hkeep).settled hd

/-- A piece that meets no error and ends no pass changes nothing. -/
theorem Chip.mcScrub_clean {n : Nat} (h : c.scrubbable n = true) :
    c.mcScrub n [] false = c.modMc n fun m => { m with scrubbed := m.scrubbed ++ [] } := by
  rw [c.mcScrub_eq h (f := c) rfl (c.scrubMet_clean n), Chip.eccMend_nil]
  rfl

/-- The end of a pass that met no error is counted. -/
theorem Chip.mcScrub_pass {n : Nat} (h : c.scrubbable n = true) (he : c.ecc = []) :
    c.mcScrub n [] true = (c.modMc n fun m => { m with scrubbed := [] }).inc (F.mcScrubPassCount n) := by
  rw [c.mcScrub_eq h (f := c) rfl (c.scrubMet_pass n he), Chip.eccMend_nil]
  rfl

/-- A word with a single-bit error is counted and written back corrected. -/
theorem Chip.mcScrub_single {n x : Nat} (h : c.scrubbable n = true) (hx : c.inChannel n x = true) (he : c.ecc = []) :
    c.mcScrub n [(x, false)] false = ({ c.inc (F.mcCorrCount n) with ecc := [] } : Chip).modMc n fun m =>
      { m with scrubbed := m.scrubbed ++ [x] } := by
  have hx' : ({ c with ecc := [(x, false)] } : Chip).inChannel n x = true := hx
  have hmend : ({ c with ecc := [(x, false)] } : Chip).eccMend [(x, false)] = { c.inc (F.mcCorrCount n) with ecc := [] } := by
    simp only [Chip.eccMend, Chip.each, List.foldl_cons, List.foldl_nil, Chip.eccMeet_single _ hx']
    simp [Chip.inc, Chip.add]
    rfl
  rw [c.mcScrub_eq h (c.flip_hit false hx he) (Chip.scrubMet_hit _ false hx' rfl), hmend]
  rfl

/-- A word with a double-bit error is counted, shown and reported, and keeps its error. -/
theorem Chip.mcScrub_double {n x : Nat} (h : c.scrubbable n = true) (hx : c.inChannel n x = true) (he : c.ecc = [])
    (ht : 8 * x < c.ddrTop) : c.mcScrub n [(x, true)] false
      = ({ (c.ueShown n (8 * x)).report 0x11 n with ecc := [(x, true)] } : Chip).modMc n fun m =>
          { m with scrubbed := m.scrubbed ++ [x] } := by
  have hx' : ({ c with ecc := [(x, true)] } : Chip).inChannel n x = true := hx
  have hmend : ({ c with ecc := [(x, true)] } : Chip).eccMend [(x, true)]
      = { (c.ueShown n (8 * x)).report 0x11 n with ecc := [(x, true)] } := by
    have hkept : ([(x, true)].filter fun p => !([(x, true)].contains p && !p.2)) = [(x, true)] := by simp
    simp only [Chip.eccMend, Chip.each, List.foldl_cons, List.foldl_nil, Chip.eccMeet_double _ hx' ht]
    exact congrArg (fun l => ({ (c.ueShown n (8 * x)).report 0x11 n with ecc := l } : Chip)) hkept
  rw [c.mcScrub_eq h (c.flip_hit true hx he) (Chip.scrubMet_hit _ true hx' rfl), hmend]
  rfl

end Sys2Proof.Machine
end

section
/-! SUPPORT. The clauses on scrub pieces that end (R471). -/

namespace Sys2Proof.Machine

variable {s : State} {n e : Nat} {ok : Bool} {w : WorkItem} (he : e < 68) (hd3 : s.chip.domainRuns 3 = true)
  (hr : s.chip.running? e = some w) (hf : w.fold = 3) (hk : w.kind = 1) (hb : w.bseq = n)
  (hl : s.chip.shp.retiring.contains e = false) (hs : s.chip.scrubbable n = true)
include he hd3 hr hf hk hb hl hs

theorem scrubPiece_clean (hh : w.hits = []) (hp : w.pass = false) :
    Does (.backgroundPieceComplete e ok) s fun t => t.ecc = s.chip.ecc
      ∧ t.running? e = none ∧ t.shp.queue = s.chip.shp.queue ∧ s.chip.Keeps t [] := by
  have hs' : (s.fresh.engIdle e).scrubbable n = true := hs
  have hz' : (s.fresh.engIdle e).ecc = s.chip.ecc := rfl
  generalize hc : s.fresh.engIdle e = c at hs' hz'
  refine backgroundPiece_ends he hd3 hr hf hk hb hl hh hp hc (c.mcScrub_clean hs') rfl (Chip.Keeps.of_same rfl rfl)
    fun d hd => ?_
  rw [hd.ecc]
  exact hz'

theorem scrubPiece_pass (hn : n < 6) (hm : s.chip.mcs.length = 6) (hh : w.hits = []) (hp : w.pass = true)
    (hz : s.chip.ecc = []) :
    Does (.backgroundPieceComplete e ok) s fun t => ((t.mc n).scrubbed = []
        ∧ t.f (F.mcScrubPassCount n) = satAdd (F.mcScrubPassCount n).width (s.chip.f (F.mcScrubPassCount n)) 1)
      ∧ t.running? e = none ∧ t.shp.queue = s.chip.shp.queue ∧ s.chip.Keeps t [(F.mcScrubPassCount n).addr] := by
  have hs' : (s.fresh.engIdle e).scrubbable n = true := hs
  have hz' : (s.fresh.engIdle e).ecc = [] := hz
  have hm' : (s.fresh.engIdle e).mcs.length = 6 := hm
  have hcount : (s.fresh.engIdle e).f (F.mcScrubPassCount n) = s.chip.f (F.mcScrubPassCount n) := rfl
  generalize hc : s.fresh.engIdle e = c at hs' hz' hm' hcount
  refine backgroundPiece_ends he hd3 hr hf hk hb hl hh hp hc (c.mcScrub_pass hs' hz') rfl
    (Chip.Keeps.inc (Chip.Keeps.of_same rfl rfl) (List.mem_singleton_self _)) fun d hd => ⟨?_, ?_⟩
  · rw [hd.mc]
    exact congrArg McS.scrubbed (c.mc_modMc (by omega) _)
  · rw [hd.f_mc (by simp) (by simp only [F.mcScrubPassCount, R.mcScrubPass]; omega),
      Chip.f_inc_self _ (by simp [F.mcScrubPassCount]), Chip.modMc_f, hcount]

theorem scrubPiece_single {x : Nat} (hx : s.chip.inChannel n x = true) (hz : s.chip.ecc = []) (hh : w.hits = [(x, false)])
    (hp : w.pass = false) :
    Does (.backgroundPieceComplete e ok) s fun t => (t.ecc = []
        ∧ t.f (F.mcCorrCount n) = satAdd (F.mcCorrCount n).width (s.chip.f (F.mcCorrCount n)) 1)
      ∧ t.running? e = none ∧ t.shp.queue = s.chip.shp.queue ∧ s.chip.Keeps t [(F.mcCorrCount n).addr] := by
  have hs' : (s.fresh.engIdle e).scrubbable n = true := hs
  have hz' : (s.fresh.engIdle e).ecc = [] := hz
  have hx' : (s.fresh.engIdle e).inChannel n x = true := hx
  have hcount : (s.fresh.engIdle e).f (F.mcCorrCount n) = s.chip.f (F.mcCorrCount n) := rfl
  generalize hc : s.fresh.engIdle e = c at hs' hz' hx' hcount
  refine backgroundPiece_ends he hd3 hr hf hk hb hl hh hp hc (c.mcScrub_single hs' hx' hz') rfl ?_ fun d hd => ⟨?_, ?_⟩
  · exact Chip.Keeps.same (t := c.inc (F.mcCorrCount n)) ((Chip.Keeps.refl c _).inc (List.mem_singleton_self _)) rfl rfl
  · rw [hd.ecc]
    rfl
  · rw [hd.f_mc (by simp) (by simp only [F.mcCorrCount, R.mcCorr]; omega), ← hcount]
    exact Chip.f_inc_self c (x := F.mcCorrCount n) (by simp [F.mcCorrCount])

theorem scrubPiece_double {x : Nat} (hx : s.chip.inChannel n x = true) (hz : s.chip.ecc = []) (hh : w.hits = [(x, true)])
    (hp : w.pass = false) (ht : 8 * x < s.chip.ddrTop) (h40 : 8 * x < 2 ^ 40) :
    Does (.backgroundPieceComplete e ok) s fun t => (t.ecc = [(x, true)]
        ∧ t.f (F.mcUncorrCount n) = satAdd (F.mcUncorrCount n).width (s.chip.f (F.mcUncorrCount n)) 1
        ∧ t.f (F.mcUeLoAddr n) = 8 * x % 2 ^ 32 ∧ t.f (F.mcUeHiAddr n) = 8 * x / 2 ^ 32 ∧ ⟨0x11, n, false⟩ ∈ t.reports)
      ∧ t.running? e = none ∧ t.shp.queue = s.chip.shp.queue
      ∧ s.chip.Keeps t [(F.mcUncorrCount n).addr, (F.mcUeLoAddr n).addr, (F.mcUeHiAddr n).addr] := by
  have hs' : (s.fresh.engIdle e).scrubbable n = true := hs
  have hz' : (s.fresh.engIdle e).ecc = [] := hz
  have hx' : (s.fresh.engIdle e).inChannel n x = true := hx
  have ht' : 8 * x < (s.fresh.engIdle e).ddrTop := ht
  have hcount : (s.fresh.engIdle e).f (F.mcUncorrCount n) = s.chip.f (F.mcUncorrCount n) := rfl
  generalize hc : s.fresh.engIdle e = c at hs' hz' hx' ht' hcount
  obtain ⟨hun, hlo, hhi⟩ := c.ueShown_fields n (8 * x)
  refine backgroundPiece_ends he hd3 hr hf hk hb hl hh hp hc (c.mcScrub_double hs' hx' hz' ht') rfl
    ((c.ueShown_keeps n (8 * x)).same rfl rfl) fun d hd => ⟨?_, ?_, ?_, ?_, ?_⟩
  · rw [hd.ecc]
    rfl
  · rw [hd.f_mc (by simp) (by simp only [F.mcUncorrCount, R.mcUncorr]; omega), ← hcount]
    exact hun
  · rw [hd.f_mc (by simp) (by simp only [F.mcUeLoAddr, R.mcUeLo]; omega)]
    exact hlo
  · rw [hd.f_mc (by simp) (by simp only [F.mcUeHiAddr, R.mcUeHi]; omega)]
    exact hhi.trans (Nat.mod_eq_of_lt (by omega))
  · rw [hd.reports]
    exact List.mem_append_right _ (List.mem_singleton_self _)

end Sys2Proof.Machine
end

section
/-! SUPPORT. Row copies (R472). -/

namespace Sys2Proof.Machine

variable (c : Chip)

/-- The words of the channel that a copy of a row corrects. -/
def Chip.rowWords (c : Chip) (n : Nat) (w : Word) : List (Nat × Bool) :=
  c.ecc.filter fun p => !p.2 && c.inChannel n p.1 && c.dramRow n (8 * p.1) == w.toNat % 2 ^ 24

theorem Chip.mem_rowWords {n : Nat} {w : Word} {p : Nat × Bool} : p ∈ c.rowWords n w ↔
    p ∈ c.ecc ∧ p.2 = false ∧ c.inChannel n p.1 = true ∧ c.dramRow n (8 * p.1) = w.toNat % 2 ^ 24 := by
  simp [Chip.rowWords, and_assoc]

/-- Correcting the words of a row touches the registers of the count and the words in error alone. -/
theorem Chip.eccMend_row (n : Nat) (w : Word) : ∃ rs es, c.eccMend (c.rowWords n w) = { c with regs := rs, ecc := es }
    ∧ c.Keeps { c with regs := rs } [R.mcCorr n]
    ∧ ∀ p, p ∈ es ↔ p ∈ c.ecc ∧ ¬(p.2 = false ∧ c.inChannel n p.1 = true ∧ c.dramRow n (8 * p.1) = w.toNat % 2 ^ 24) := by
  obtain ⟨rs, he, hk⟩ := c.each_eccMeet_single (n := n) (c.rowWords n w) fun p hp =>
    ⟨(c.mem_rowWords.1 hp).2.1, (c.mem_rowWords.1 hp).2.2.1⟩
  refine ⟨rs, c.ecc.filter fun p => !((c.rowWords n w).contains p && !p.2), ?_, hk, fun p => ?_⟩
  · rw [Chip.eccMend, he]
  · rw [List.mem_filter]
    refine and_congr_right fun hp => ?_
    simp only [Bool.not_eq_true', Bool.and_eq_false_imp, List.contains_iff_mem, c.mem_rowWords]
    constructor
    · rintro h ⟨h1, h2, h3⟩
      exact absurd (h ⟨hp, h1, h2, h3⟩) (by simp [h1])
    · rintro h ⟨-, h1, h2, h3⟩
      exact absurd ⟨h1, h2, h3⟩ h

theorem Chip.mcShow_mcs (n : Nat) : (c.mcShow n).mcs = c.mcs := rfl

theorem Chip.mcShow_keeps (n : Nat) : c.Keeps (c.mcShow n) [R.mcStat n] :=
  ((Chip.Keeps.refl c _).setF (x := F.mcStatRmapUsed n) (List.mem_singleton_self _)).setF (x := F.mcStatPprPend n)
    (List.mem_singleton_self _)

theorem mcRowRepairDone_copy {s : State} {n i : Nat} {w : Word} {rest : List (Nat × Word)} (hn : n < 6)
    (hm : s.chip.mcs.length = 6) (hd6 : s.chip.domainRuns 6 = true) (hc : (s.chip.mc n).copying = (i, w) :: rest) :
    Does (.mcRowRepairDone n) s fun t => (t.mc n).copying = rest ∧ (t.mc n).rmap = sins i w (s.chip.mc n).rmap
      ∧ (∀ p, p ∈ t.ecc ↔ p ∈ s.chip.ecc ∧ ¬(p.2 = false ∧ s.chip.inChannel n p.1 = true
          ∧ s.chip.dramRow n (8 * p.1) = w.toNat % 2 ^ 24))
      ∧ s.chip.Keeps t [R.mcStat n, (F.mcCorrCount n).addr] := by
  obtain ⟨rs, es, he, hk, hes⟩ := s.fresh.eccMend_row n w
  have hc' : (s.fresh.mc n).copying = (i, w) :: rest := hc
  have hu : s.fresh.mcRowDone n = ((({ s.fresh with regs := rs, ecc := es } : Chip).modMc n fun m =>
      { m with rmap := sins i w m.rmap, copying := rest }).mcShow n) := by
    rw [Chip.mcRowDone, hc', ← he]
    rfl
  have hmc : ((({ s.fresh with regs := rs, ecc := es } : Chip).modMc n fun m =>
      { m with rmap := sins i w m.rmap, copying := rest }).mc n)
      = { s.chip.mc n with rmap := sins i w (s.chip.mc n).rmap, copying := rest } :=
    Chip.mc_modMc _ (show n < s.chip.mcs.length by omega) _
  have hkeep : s.chip.Keeps (({ s.fresh with regs := rs, ecc := es } : Chip).modMc n fun m =>
      { m with rmap := sins i w m.rmap, copying := rest }) [R.mcStat n, (F.mcCorrCount n).addr] :=
    ((s.keeps_fresh _).trans (hk.mono (by simp [F.mcCorrCount]))).same rfl rfl
  refine Does.of_runIn (fun c => c.mcRowDone n) rfl hd6 (by simpa using hn) hu fun d hd _ _ => ⟨?_, ?_, ?_, ?_⟩
  · rw [hd.mc, Chip.mc_congr (Chip.mcShow_mcs _ n), hmc]
  · rw [hd.mc, Chip.mc_congr (Chip.mcShow_mcs _ n), hmc]
  · rw [hd.ecc]
    exact hes
  · exact (hkeep.trans ((Chip.mcShow_keeps _ n).mono (by simp))).settled hd

theorem mcRowRepairDone_none {s : State} {n : Nat} (hn : n < 6) (hd6 : s.chip.domainRuns 6 = true)
    (hc : (s.chip.mc n).copying = []) :
    Does (.mcRowRepairDone n) s fun t => t.mc n = s.chip.mc n ∧ s.chip.Keeps t [] := by
  have hc' : (s.fresh.mc n).copying = [] := hc
  refine Does.of_runIn (fun c => c.mcRowDone n) rfl hd6 (by simpa using hn) (e := s.fresh) (by rw [Chip.mcRowDone, hc'])
    fun d hd _ _ => ⟨?_, hd.keeps rfl rfl []⟩
  rw [hd.mc]
  rfl

end Sys2Proof.Machine
end

section
/-! SUPPORT. Post-package repair (R473). -/

namespace Sys2Proof.Machine

variable (c : Chip)

theorem mcCmd_row : ∀ n < 6, (regAt (R.mcCmd n)).isSome = true := by decide +kernel

theorem getBits_force_op (n op : Nat) (v : Word) (h : op < 4) : getBits (force (F.mcCmdOp n) op v) 30 2 = op :=
  (getBits_putBits v op (lo := 30) (width := 2) (by decide)).trans (Nat.mod_eq_of_lt h)

/-- A repair that is ordered starts, or waits for accepted writes to land in its channel. -/
theorem Chip.mcPpr_mc {n op : Nat} (hn : n < c.mcs.length) (hop : op ≠ 0)
    (hp : ((c.mc n).rmap.any fun p => bitAt p.2 30) = true) :
    (c.mcPpr n op).mc n = if c.landsIn n then { c.mc n with pprWait := op } else { c.mc n with ppr := op, pprWait := 0 } := by
  have hw : (c.modMc n fun m => { m with pprWait := op }).mc n = { c.mc n with pprWait := op } := c.mc_modMc hn _
  have hl : (c.modMc n fun m => { m with pprWait := op }).landsIn n = c.landsIn n := rfl
  rw [Chip.mcPpr, if_pos hp, Chip.pprStart, hw, hl]
  cases c.landsIn n with
  | true => simp [hw]
  | false =>
    simp only [hop, ne_eq, not_false_eq_true, Bool.not_false, and_self, if_true, Bool.false_eq_true, if_false]
    rw [Chip.mc_modMc _ (by simpa using hn), hw]

/-- A performed write of MCn_CMD orders the repair of OP. -/
theorem Chip.regStore_mcCmd (src : Src) (v : Word) {n op : Nat} (hn : n < 6) (hl : c.mcs.length = 6) (hop : op ≠ 0)
    (h4 : op < 4) (hp : ((c.mc n).rmap.any fun p => bitAt p.2 30) = true) :
    (c.regStore src (R.mcCmd n) (force (F.mcCmdOp n) op v)).1.mc n
      = (if c.landsIn n then { c.mc n with pprWait := op } else { c.mc n with ppr := op, pprWait := 0 })
    ∧ (c.regStore src (R.mcCmd n) (force (F.mcCmdOp n) op v)).2 = 0 := by
  obtain ⟨⟨r, ix⟩, hr⟩ := Option.isSome_iff_exists.1 (mcCmd_row n hn)
  rw [c.regStore_mc src _ hr (n := n) (off := 0x18) rfl (by decide)]
  refine ⟨?_, rfl⟩
  show (Chip.mcPpr _ n (getBits (force (F.mcCmdOp n) op v) 30 2)).mc n = _
  rw [getBits_force_op n op v h4]
  exact Chip.mcPpr_mc _ (show n < c.mcs.length by omega) hop hp

/-- MC_HPPR and MC_SPPR: the repair starts, or waits for accepted writes to land (R228). -/
theorem mcRepair_ordered {s : State} {src : Src} {n op : Nat} {v : Word} {i : Instr}
    (hi : exec i s = runIf s (n < 6) fun c => c.writeOp src (R.mcCmd n) (force (F.mcCmdOp n) op v)) (hn : n < 6)
    (hm : s.chip.mcs.length = 6) (hop : op ≠ 0) (h4 : op < 4) (hp : ∃ p ∈ (s.chip.mc n).rmap, bitAt p.2 30 = true)
    (ha : s.chip.Allows src (R.mcCmd n) (force (F.mcCmdOp n) op v)) :
    Does i s fun t => (t.mc n).rmap = (s.chip.mc n).rmap ∧ .status 0 ∈ t.out
      ∧ (s.chip.landsIn n = false → (t.mc n).ppr = op ∧ (t.mc n).pprWait = 0)
      ∧ (s.chip.landsIn n = true → (t.mc n).ppr = (s.chip.mc n).ppr ∧ (t.mc n).pprWait = op) := by
  obtain ⟨hmc, h0⟩ := s.fresh.regStore_mcCmd src v hn hm hop h4 (List.any_eq_true.2 hp)
  have hmc' : (s.fresh.regStore src (R.mcCmd n) (force (F.mcCmdOp n) op v)).1.mc n
      = if s.chip.landsIn n then { s.chip.mc n with pprWait := op } else { s.chip.mc n with ppr := op, pprWait := 0 } := hmc
  refine Does.of_writeIf hi (by simpa using hn) ha fun d hd ho => ?_
  rw [hd.mc, hmc', ho, h0]
  cases s.chip.landsIn n with
  | true => simp
  | false => simp

theorem Chip.mcShow_pprFail (n : Nat) : (c.mcShow n).f (F.mcStatPprFail n) = c.f (F.mcStatPprFail n) := by
  rw [Chip.mcShow, Chip.f_setF_disjoint _ _ (Or.inr (Or.inl (by simp [F.mcStatPprFail, F.mcStatPprPend]))),
    Chip.f_setF_disjoint _ _ (Or.inr (Or.inl (by simp [F.mcStatPprFail, F.mcStatRmapUsed])))]

/-- A channel whose last pending entry has been repaired ends the operation. -/
def Chip.pprEnd (c : Chip) (n : Nat) : Chip :=
  if (c.mc n).rmap.any fun p => bitAt p.2 30 then c else c.modMc n fun m => { m with ppr := 0 }

theorem Chip.pprEnd_rmap {n : Nat} (h : n < c.mcs.length) : ((c.pprEnd n).mc n).rmap = (c.mc n).rmap := by
  unfold Chip.pprEnd
  split
  · rfl
  · rw [c.mc_modMc h]

theorem Chip.pprEnd_f (n : Nat) (x : Fld) : (c.pprEnd n).f x = c.f x := by
  unfold Chip.pprEnd
  split <;> rfl

/-- The repair of the lowest pending entry ends, and with the last one the operation. -/
theorem Chip.mcPprDone_eq {n i : Nat} {w : Word} (ok : Bool) (hn : n < 6) (hl : n < c.mcs.length) (hp : (c.mc n).ppr ≠ 0)
    (hf : ((c.mc n).rmap.find? fun p => bitAt p.2 30) = some (i, w)) :
    ((c.mcPprDone n ok).mc n).rmap
      = (if ok then sdel i (c.mc n).rmap else sins i (w &&& ~~~ bitMask 30 1) (sdel i (c.mc n).rmap))
    ∧ (ok = false → (c.mcPprDone n ok).f (F.mcStatPprFail n) = 1) := by
  rw [Chip.mcPprDone, if_pos ⟨hn, hp⟩, hf]
  cases ok with
  | true =>
    refine ⟨?_, fun h => absurd h (by simp)⟩
    refine (Chip.pprEnd_rmap (c.modMc n fun m => { m with rmap := sdel i m.rmap }) (by simpa using hl)).trans ?_
    rw [c.mc_modMc hl]
    rfl
  | false =>
    refine ⟨?_, fun _ => ?_⟩
    · refine (Chip.pprEnd_rmap ((c.modMc n fun m => { m with rmap := sins i (w &&& ~~~ bitMask 30 1) (sdel i m.rmap) }).setF
        (F.mcStatPprFail n) 1) (by simpa using hl)).trans ?_
      exact congrArg McS.rmap (c.mc_modMc hl _)
    · refine (Chip.mcShow_pprFail _ n).trans ((Chip.pprEnd_f _ n _).trans ?_)
      exact Chip.f_setF_self _ (x := F.mcStatPprFail n) 1 (by simp [F.mcStatPprFail])

theorem mcPprDone_freed {s : State} {n i : Nat} {w : Word} (hn : n < 6) (hm : s.chip.mcs.length = 6)
    (hd6 : s.chip.domainRuns 6 = true) (hp : (s.chip.mc n).ppr ≠ 0)
    (hf : ((s.chip.mc n).rmap.find? fun p => bitAt p.2 30) = some (i, w)) :
    Does (.mcPprDone n true) s fun t => (∀ p ∈ (t.mc n).rmap, p.1 ≠ i)
      ∧ (t.mc n).rmap = (s.chip.mc n).rmap.filter (fun p => p.1 != i) := by
  obtain ⟨hr, -⟩ := s.fresh.mcPprDone_eq true hn (show n < s.chip.mcs.length by omega) hp hf
  have hr' : ((s.fresh.mcPprDone n true).mc n).rmap = (s.chip.mc n).rmap.filter (fun p => p.1 != i) := hr
  refine Does.of_runIn (fun c => c.mcPprDone n true) rfl hd6 (by simpa using hn) rfl fun d hd _ _ => ?_
  rw [hd.mc, hr']
  exact ⟨fun p hq => by simpa using (List.mem_filter.1 hq).2, rfl⟩

theorem mcPprDone_failed {s : State} {n i : Nat} {w : Word} (hn : n < 6) (hm : s.chip.mcs.length = 6)
    (hd6 : s.chip.domainRuns 6 = true) (hp : (s.chip.mc n).ppr ≠ 0)
    (hf : ((s.chip.mc n).rmap.find? fun p => bitAt p.2 30) = some (i, w)) :
    Does (.mcPprDone n false) s fun t => t.f (F.mcStatPprFail n) = 1
      ∧ sget (fun _ => 0#32) (t.mc n).rmap i = w &&& ~~~(1#32 <<< 30) := by
  obtain ⟨hr, hfail⟩ := s.fresh.mcPprDone_eq false hn (show n < s.chip.mcs.length by omega) hp hf
  refine Does.of_runIn (fun c => c.mcPprDone n false) rfl hd6 (by simpa using hn) rfl fun d hd _ _ => ⟨?_, ?_⟩
  · rw [hd.f_mc (by simp) (mcStat_ge n)]
    exact hfail rfl
  · rw [hd.mc, hr, if_neg (by simp), sget_sins _ _ _ _ _ fun p hq => by simpa using (List.mem_filter.1 hq).2, if_pos rfl]
    rfl

end Sys2Proof.Machine
end

section
/-! SUPPORT. Temperatures of the DDR5 channels (R474). -/

namespace Sys2Proof.Machine

variable (c : Chip)

/-- Reading the sensors uses the bus and free values alone. -/
theorem Chip.mcI2cReads_eq (n : Nat) : ∃ k o, c.mcI2cReads n = { c with freeCtr := k, out := o } := by
  unfold Chip.mcI2cReads Chip.each
  generalize [c.f (F.mcTsAddr0 n), c.f (F.mcTsAddr1 n)].filter (· != 0) = l
  induction l generalizing c with
  | nil => exact ⟨c.freeCtr, c.out, rfl⟩
  | cons a rest ih =>
    obtain ⟨k, o, h⟩ := ih ((c.fresh 22).2.emit (.i2cRead n a ((c.fresh 22).1 + 1)))
    exact ⟨k, o, h⟩

/-- What a reading whose highest sensor gives `a` shows. -/
def Chip.tempShown (c : Chip) (n : Nat) (a : Int) (hot : Bool) : Chip :=
  ((c.setFs (F.mcTempTemp n) a).setFb (F.mcStatHot n) (hot || decide (1360 ≤ a)))

/-- The run of readings above the limit, with this one. -/
def Chip.hotRunWith (c : Chip) (n : Nat) (a : Int) : Nat :=
  if 16 * (c.f (F.mcThermTmax n) : Int) < a then (c.mc n).hotRun + 1 else 0

theorem Chip.tempShown_tmax (n : Nat) (a : Int) (hot : Bool) :
    (c.tempShown n a hot).f (F.mcThermTmax n) = c.f (F.mcThermTmax n) := by
  rw [Chip.tempShown, Chip.setFb_def, Chip.f_setF_ne _ _ (by simp [F.mcThermTmax, F.mcStatHot, R.mcTherm, R.mcStat]),
    Chip.setFs_def, Chip.f_setF_ne _ _ (by simp [F.mcThermTmax, F.mcTempTemp, R.mcTherm, R.mcTemp])]

theorem Chip.tempShown_state (n : Nat) (a : Int) (hot : Bool) :
    (c.tempShown n a hot).f (F.mcStatState n) = c.f (F.mcStatState n) := by
  rw [Chip.tempShown, Chip.setFb_def, Chip.f_setF_disjoint _ _ (Or.inr (Or.inl (by simp [F.mcStatState, F.mcStatHot]))),
    Chip.setFs_def, Chip.f_setF_ne _ _ (by simp [F.mcStatState, F.mcTempTemp, R.mcStat, R.mcTemp])]

theorem Chip.tempShown_hot (n : Nat) (a : Int) (hot : Bool) :
    (c.tempShown n a hot).f (F.mcStatHot n) = 1 ↔ hot = true ∨ 1360 ≤ a := by
  rw [Chip.tempShown, Chip.setFb_def, Chip.f_setF_self _ _ (by simp [F.mcStatHot])]
  by_cases h : hot = true ∨ 1360 ≤ a
  · simp [h, F.mcStatHot]
  · simp [h]

theorem toSigned_ofSigned16 {a : Int} (hl : -32768 ≤ a) (hu : a < 32768) : toSigned 16 (ofSigned 16 a % 2 ^ 16) = a := by
  unfold toSigned ofSigned
  norm_num
  split <;> omega

theorem Chip.tempShown_temp (n : Nat) {a : Int} (hot : Bool) (hl : -32768 ≤ a) (hu : a < 32768) :
    (c.tempShown n a hot).fs (F.mcTempTemp n) = a := by
  rw [Chip.fs, Chip.tempShown, Chip.setFb_def, Chip.f_setF_ne _ _ (by simp [F.mcTempTemp, F.mcStatHot, R.mcTemp, R.mcStat]),
    Chip.setFs_def, Chip.f_setF_self _ _ (by simp [F.mcTempTemp])]
  exact toSigned_ofSigned16 hl hu

/-- What a reading of `a` leaves: it is shown and extends or ends the run, and the third in a row above the limit ends the use
of the channel. -/
def Chip.tempRead (c : Chip) (n : Nat) (a : Int) (hot : Bool) : Chip :=
  let d := (c.tempShown n a hot).modMc n fun m => { m with hotRun := c.hotRunWith n a }
  if 3 ≤ c.hotRunWith n a ∧ c.f (F.mcStatState n) ≠ mcUnusable then
    (d.setF (F.mcStatState n) mcUnusable).report 0x12 n
  else d

/-- A reading of `a` by the first sensor and of nothing higher by the second. -/
theorem Chip.mcTemp_eq {n : Nat} {a : Int} {t1 : Option Int} (hot : Bool) (hn : n < 6) (hp : c.fb (F.mcCfgPop n) = true)
    (h0 : c.f (F.mcTsAddr0 n) ≠ 0) (h1 : ∀ b ∈ t1, b ≤ a) :
    ∃ k o, c.mcTemp n (some a) t1 hot = ({ c with freeCtr := k, out := o } : Chip).tempRead n a hot := by
  obtain ⟨k, o, hc⟩ := c.mcI2cReads_eq n
  refine ⟨k, o, ?_⟩
  rw [Chip.mcTemp, if_pos ⟨hn, hp⟩, hc]
  generalize hd : ({ c with freeCtr := k, out := o } : Chip) = d
  have h0' : d.f (F.mcTsAddr0 n) ≠ 0 := by rw [← hd]; exact h0
  have hseen : ((if d.f (F.mcTsAddr0 n) = 0 then [] else (some a).toList)
      ++ (if d.f (F.mcTsAddr1 n) = 0 then [] else t1.toList)) = a :: (if d.f (F.mcTsAddr1 n) = 0 then [] else t1.toList) := by
    rw [if_neg h0']
    rfl
  have htop : ((if d.f (F.mcTsAddr1 n) = 0 then [] else t1.toList).foldl max a) = a := by
    split
    · rfl
    · cases t1 with
      | none => rfl
      | some b => exact max_eq_left (h1 b rfl)
  dsimp only
  rw [hseen]
  dsimp only
  rw [htop]
  have hmax := d.tempShown_tmax n a hot
  have hst := d.tempShown_state n a hot
  have hmc : (d.tempShown n a hot).mc n = d.mc n := rfl
  unfold Chip.tempShown at hmax hst hmc
  rw [Chip.modMc_f, hmax, hst, hmc]
  rfl

theorem Chip.tempShown_mcs (n : Nat) (a : Int) (hot : Bool) : (c.tempShown n a hot).mcs = c.mcs := rfl

/-- A reading that is not above the limit is shown and ends the run. -/
theorem Chip.tempRead_normal {n : Nat} {a : Int} (hot : Bool) (ha : a ≤ 16 * (c.f (F.mcThermTmax n) : Int)) :
    c.tempRead n a hot = (c.tempShown n a hot).modMc n fun m => { m with hotRun := 0 } := by
  have hr : c.hotRunWith n a = 0 := if_neg (by omega)
  rw [Chip.tempRead, hr]
  rfl

/-- The third reading in a row above the limit ends the use of the channel and is reported. -/
theorem Chip.tempRead_unusable {n : Nat} {a : Int} (hot : Bool) (ha : 16 * (c.f (F.mcThermTmax n) : Int) < a)
    (hrun : 2 ≤ (c.mc n).hotRun) (hst : c.f (F.mcStatState n) ≠ mcUnusable) :
    c.tempRead n a hot = ((((c.tempShown n a hot).modMc n fun m => { m with hotRun := (c.mc n).hotRun + 1 }).setF
      (F.mcStatState n) mcUnusable).report 0x12 n) := by
  have hr : c.hotRunWith n a = (c.mc n).hotRun + 1 := if_pos ha
  rw [Chip.tempRead, hr, if_pos ⟨by omega, hst⟩]

/-- A command that takes a reading of a channel shows it, with the run of hot ones. -/
theorem reading_shown {s : State} {n : Nat} {i : Instr} {a : Int} {hot : Bool} {t1 : Option Int} (hn : n < 6)
    (hm : s.chip.mcs.length = 6) (hd6 : s.chip.domainRuns 6 = true)
    (hi : exec i s = runIn s 6 (n < 6) fun c => c.mcTemp n (some a) t1 hot) (hp : s.chip.fb (F.mcCfgPop n) = true)
    (h0 : s.chip.f (F.mcTsAddr0 n) ≠ 0) (hlo : -32768 ≤ a) (hhi : a < 32768) (h1 : ∀ b ∈ t1, b ≤ a) :
    (a ≤ 16 * (s.chip.f (F.mcThermTmax n) : Int) → Does i s fun t => t.fs (F.mcTempTemp n) = a
      ∧ (t.f (F.mcStatHot n) = 1 ↔ hot = true ∨ 1360 ≤ a) ∧ (t.mc n).hotRun = 0
      ∧ t.f (F.mcStatState n) = s.chip.f (F.mcStatState n))
    ∧ (16 * (s.chip.f (F.mcThermTmax n) : Int) < a → 2 ≤ (s.chip.mc n).hotRun →
      s.chip.f (F.mcStatState n) ≠ mcUnusable →
      Does i s fun t => t.f (F.mcStatState n) = mcUnusable ∧ ⟨0x12, n, false⟩ ∈ t.reports) := by
  obtain ⟨k, o, he⟩ := s.fresh.mcTemp_eq hot hn hp h0 h1
  have hmax : ({ s.fresh with freeCtr := k, out := o } : Chip).f (F.mcThermTmax n) = s.chip.f (F.mcThermTmax n) := rfl
  have hstate : ({ s.fresh with freeCtr := k, out := o } : Chip).f (F.mcStatState n) = s.chip.f (F.mcStatState n) := rfl
  have hmc : ({ s.fresh with freeCtr := k, out := o } : Chip).mc n = s.chip.mc n := rfl
  have hlen : ({ s.fresh with freeCtr := k, out := o } : Chip).mcs.length = 6 := hm
  generalize ({ s.fresh with freeCtr := k, out := o } : Chip) = c at he hmax hstate hmc hlen
  refine ⟨fun ha => ?_, fun ha hrun hst => ?_⟩
  · rw [c.tempRead_normal hot (by rw [hmax]; exact ha)] at he
    refine Does.of_runIn _ hi hd6 (by simpa using hn) he fun d hd _ _ => ⟨?_, ?_, ?_, ?_⟩
    · rw [Chip.fs, hd.f_mc (by simp) (by simp only [F.mcTempTemp, R.mcTemp]; omega), Chip.modMc_f]
      exact c.tempShown_temp n hot hlo hhi
    · rw [hd.f_mc (by simp) (mcStat_ge n), Chip.modMc_f, Chip.tempShown_hot]
    · rw [hd.mc, Chip.mc_modMc _ (by rw [Chip.tempShown_mcs, hlen]; exact hn)]
    · rw [hd.f_mc (by simp) (mcStat_ge n), Chip.modMc_f, Chip.tempShown_state, hstate]
  · rw [c.tempRead_unusable hot (by rw [hmax]; exact ha) (by rw [hmc]; exact hrun) (by rw [hstate]; exact hst)] at he
    refine Does.of_runIn _ hi hd6 (by simpa using hn) he fun d hd _ _ => ⟨?_, ?_⟩
    · rw [hd.f_mc (by simp) (mcStat_ge n), Chip.report_f, Chip.f_setF_mcState, if_pos rfl]
      rfl
    · rw [hd.reports]
      exact List.mem_append_right _ (List.mem_singleton_self _)

end Sys2Proof.Machine
end

section
/-! SUPPORT. The remap list (R475). -/

namespace Sys2Proof.Machine

variable (c : Chip)

/-- A read of MCn_RMAP_DATA is a read of the remap list. -/
theorem Chip.regView_mcRmapData {n : Nat} (hn : n < 6) : c.regView (R.mcRmapData n) = c.mcRmapRead n := by
  obtain ⟨h1, h2, h3, h4, h5, h6⟩ := mcReg_no_view (a := R.mcRmapData n) (by unfold R.mcRmapData; omega)
  have hx : (R.mcRmapData n - 0x800000) / 0x10000 = n := by unfold R.mcRmapData; omega
  unfold Chip.regView
  rw [if_neg h1, if_neg h2, if_neg h3, if_neg h4, if_neg h5, if_neg h6, if_neg (by unfold R.mcRmapData; omega),
    if_neg (by unfold R.mcRmapData; omega), if_pos (by unfold R.mcRmapData; omega), hx]

theorem mcRmapDataRead_entry {s : State} {src : Src} {n : Nat} (hn : n < 6) (h : s.chip.AllowsRead src (R.mcRmapData n)) :
    Does (.mcRmapDataRead src n) s fun t =>
      .status (sget (fun _ => 0#32) (s.chip.mc n).rmap (s.chip.f (F.mcRmapIdxIdx n))).toNat ∈ t.out
      ∧ t.f (F.mcRmapIdxIdx n) = (s.chip.f (F.mcRmapIdxIdx n) + 1) % 256 := by
  have h' : s.fresh.AllowsRead src (R.mcRmapData n) := h
  refine Does.of_runIf (fun c => c.readOp src (R.mcRmapData n)) rfl (by simpa using hn) (Chip.readOp_allowed h')
    fun d hd ho _ => ?_
  rw [s.fresh.regView_mcRmapData hn] at hd ho
  refine ⟨?_, ?_⟩
  · rw [ho]
    exact List.mem_append_right _ (List.mem_singleton_self _)
  · rw [hd.f_mc (by simp) (by simp only [F.mcRmapIdxIdx, R.mcRmapIdx]; omega)]
    exact s.fresh.f_setF_self (x := F.mcRmapIdxIdx n) _ (by simp [F.mcRmapIdxIdx])

end Sys2Proof.Machine
end

section
/-! SUPPORT. The DDR5 channels (R468, R470 to R475), clause by clause. -/

namespace Sys2Proof.Machine

/-- Settles O54: the clauses on initialization, scrubbing, row copies, repair, temperatures and the remap list, one by one. -/
theorem memoryChannels : Obligations.MemoryChannels := by
  intro s src n v hn hm hd6
  refine ⟨mcInit_starts hn hm, ?_, ?_, ?_, fun _ _ _ => mcRowRepairDone_copy hn hm hd6, mcRowRepairDone_none hn hd6,
    ?_, ?_, ?_, mcRmapDataRead_entry hn⟩
  · intro hst
    exact ⟨mcTrainStepDone_next hn hm hd6 hst, mcTrainStepDone_last hn hd6 hst, mcTrainStepDone_failed hn hd6 hst⟩
  · intro hits pass hq
    exact ⟨mcScrubPiece_waits hn hd6 hits pass hq,
      fun e hs hon hp hc => mcScrubPiece_starts hn hd6 hits pass hq hs hon hp hc⟩
  · intro e ok w he hd3 hr hf hk hb hl hs
    refine ⟨scrubPiece_clean he hd3 hr hf hk hb hl hs, scrubPiece_pass he hd3 hr hf hk hb hl hs hn hm,
      fun x hx hz => ⟨?_, ?_⟩⟩
    · exact scrubPiece_single he hd3 hr hf hk hb hl hs hx hz
    · exact scrubPiece_double he hd3 hr hf hk hb hl hs hx hz
  · intro hp
    exact ⟨mcRepair_ordered rfl hn hm (by decide) (by decide) hp, mcRepair_ordered rfl hn hm (by decide) (by decide) hp⟩
  · intro i w hp hf
    exact ⟨mcPprDone_freed hn hm hd6 hp hf, mcPprDone_failed hn hm hd6 hp hf⟩
  · intro hot a hp h0 hlo hhi
    exact ⟨reading_shown hn hm hd6 rfl hp h0 hlo hhi (by simp),
      fun a' ha => reading_shown hn hm hd6 rfl hp h0 hlo hhi (by simpa using ha)⟩

end Sys2Proof.Machine
end

section
/-! SUPPORT. Messages of the pair link: what sending one changes, and what the checks of a received one leave (R87, R452). -/

namespace Sys2Proof.Machine

variable (c : Chip)

/-! ### Sending (R452, R453) -/

/-- Sending a message adds outputs, moves MSEQ and fills the queue of the pair link; nothing else changes. -/
theorem Chip.pairSend_eq (mtype : Nat) (body : List Byte) : ∃ (p : PairS) (k : List LinkS) (o : List Out),
    c.pairSend mtype body = { c with pair := p, links := k, out := c.out ++ o } := by
  unfold Chip.pairSend
  split
  · exact ⟨_, _, [_], rfl⟩
  · exact ⟨c.pair, c.links, [], by simp⟩

@[simp] theorem Chip.pairSend_regs (mtype : Nat) (body : List Byte) : (c.pairSend mtype body).regs = c.regs := by
  obtain ⟨_, _, _, h⟩ := c.pairSend_eq mtype body
  rw [h]

@[simp] theorem Chip.pairSend_f (mtype : Nat) (body : List Byte) (x : Fld) : (c.pairSend mtype body).f x = c.f x := by
  simp [Chip.f_eq, Chip.rd]

@[simp] theorem Chip.pairSend_job (mtype : Nat) (body : List Byte) : (c.pairSend mtype body).job = c.job := by
  obtain ⟨_, _, _, h⟩ := c.pairSend_eq mtype body
  rw [h]

/-! ### Receiving (R87, R452) -/

/-- The checks of R87 look at the packet alone. -/
theorem Chip.rxCheck_snd (d : Chip) (n : Nat) (pk : RxPkt) : (c.rxCheck n pk).2 = (d.rxCheck n pk).2 := by
  unfold Chip.rxCheck
  dsimp only
  split
  · rfl
  split
  · rfl
  split
  · rfl
  split <;> rfl

/-- A packet that passes the checks of R87 leaves the receive queue and changes nothing else. -/
theorem Chip.rxCheck_passed {n : Nat} {pk : RxPkt} (h : (c.rxCheck n pk).2 = true) :
    ∃ g, (c.rxCheck n pk).1 = c.modLink n g := by
  unfold Chip.rxCheck at h ⊢
  dsimp only at h ⊢
  split at h
  · cases h
  rw [if_neg ‹_›]
  split at h
  · cases h
  rw [if_neg ‹_›]
  split at h
  · cases h
  rw [if_neg ‹_›]
  split at h
  · cases h
  rw [if_neg ‹_›]
  exact ⟨_, rfl⟩

theorem State.fresh_hears {s : State} {mtype : Nat} {pk : RxPkt} (h : s.chip.Hears mtype pk) : s.fresh.Hears mtype pk := by
  obtain ⟨⟨hpcs, hok, htyp⟩, hpair, hm⟩ := h
  exact ⟨⟨hpcs, (s.fresh.rxCheck_snd s.chip 8 pk).trans hok, htyp⟩, hpair, hm⟩

/-- `d` is the device that has taken a PAIR message: PL_MSG_LOST may have counted a gap, and the queue of the pair link and the
mate's MSEQ have moved on. -/
structure Chip.Heard (c d : Chip) : Prop where
  rd : ∀ a, a ≠ R.plMsgLost → d.rd a = c.rd a
  mem : d.mem = c.mem
  job : d.job = c.job
  fes : d.fes = c.fes
  stc : d.stc = c.stc
  reports : d.reports = c.reports

/-- A packet of a type that is taken is used in the device that has taken it from its receive queue. -/
theorem Chip.rxUse_takes {c : Chip} {n typ : Nat} {pk : RxPkt} (h : c.Takes n typ pk) :
    ∃ g1 g2, ∀ g : Chip → List Byte → Chip, c.rxUse n typ pk g = g ((c.modLink n g1).modLink n g2) pk.bytes := by
  obtain ⟨hpcs, hok, htyp⟩ := h
  obtain ⟨g1, hg1⟩ := c.rxCheck_passed hok
  refine ⟨g1, fun l => { l with exiting := false }, fun g => ?_⟩
  unfold Chip.rxUse
  rw [hpcs, if_neg (by simp)]
  dsimp only
  rw [if_pos ⟨hok, htyp⟩, hg1]

/-- A PAIR message that is heard is used in the device that has taken it. -/
theorem Chip.pairUse_heard {c : Chip} {mtype : Nat} {pk : RxPkt} (h : c.Hears mtype pk) (g : Chip → List Byte → Chip) :
    ∃ d, c.Heard d ∧ c.pairUse mtype pk g = g d pk.bytes := by
  obtain ⟨htake, hpair, hm⟩ := h
  obtain ⟨g1, g2, huse⟩ := Chip.rxUse_takes htake
  have hpair' : ((c.modLink 8 g1).modLink 8 g2).pairMode = true := hpair
  unfold Chip.pairUse
  rw [huse, if_neg (by rw [hpair']; simp [hm])]
  refine ⟨_, ?_, rfl⟩
  exact ⟨fun a ha => Chip.rd_setF_ne _ _ ha, rfl, rfl, rfl, rfl, rfl⟩

namespace Chip.Heard

variable {c d : Chip} (h : c.Heard d)
include h

theorem f {x : Fld} (hx : x.addr ≠ R.plMsgLost) : d.f x = c.f x := by rw [Chip.f_eq, Chip.f_eq, h.rd _ hx]

theorem running : d.running = c.running := by unfold Chip.running Chip.fb; rw [h.f (by decide)]

theorem actBank : d.actBank = c.actBank := by unfold Chip.actBank; rw [h.f (by decide)]

theorem newestTrig : d.newestTrig = c.newestTrig := by unfold Chip.newestTrig; rw [h.f (by decide)]

theorem prodBound : d.prodBound = c.prodBound := by unfold Chip.prodBound; rw [h.stc, h.f (by decide)]

theorem lastClosed (n : Nat) : (d.fe n).lastClosed = (c.fe n).lastClosed := by unfold Chip.fe; rw [h.fes]

theorem keeps {t : Chip} {l : List Nat} (hk : d.Keeps t l) (hl : R.plMsgLost ∈ l) : c.Keeps t l :=
  Chip.Keeps.trans ⟨fun a h1 _ => h.rd a (by rintro rfl; exact h1 hl), fun a => by simp [Chip.byte, h.mem]⟩ hk

end Chip.Heard

end Sys2Proof.Machine
end

section
/-! SUPPORT. In-flight disables and products (R237 to R239). -/

namespace Sys2Proof.Machine

variable (c : Chip)

/-! ### Ports (R237) -/

/-- T_off of a port none of whose lines at or behind it has closed. -/
theorem Chip.setTOff_open {n t : Nat} (h : ∀ l, (c.fe n).lastClosed = some l → sdiff32 l t < 0) :
    c.setTOff n t = (c.modJob fun j => { j with tOff := j.tOff.set n (some t) }).setF ⟨R.jobPortOff, n, 1⟩ 1 := by
  unfold Chip.setTOff
  simp only [Chip.fe, Chip.setF_fes, Chip.modJob_fes] at h ⊢
  split
  next l hl => rw [if_neg (not_le.2 (h l hl))]
  next => rfl

theorem Chip.setTOff_keeps {n t : Nat} (h : ∀ l, (c.fe n).lastClosed = some l → sdiff32 l t < 0) :
    c.Keeps (c.setTOff n t) [R.jobPortOff] := by
  rw [c.setTOff_open h]
  exact Chip.Keeps.setF (Chip.Keeps.of_same rfl rfl) (List.mem_singleton_self _)

/-- The disable that is set shows in T_off and in the port's bit of JOB_PORT_OFF. -/
theorem Chip.setTOff_shown {n t : Nat} (hn : n < 8) (hlen : n < c.job.tOff.length)
    (h : ∀ l, (c.fe n).lastClosed = some l → sdiff32 l t < 0) :
    (c.setTOff n t).job.tOff.getD n none = some t ∧ (c.setTOff n t).f ⟨R.jobPortOff, n, 1⟩ = 1 := by
  rw [c.setTOff_open h]
  refine ⟨?_, Chip.f_setF_self _ _ (by show n + 1 ≤ 32; omega)⟩
  simp [List.getD_eq_getElem?_getD, hlen]

theorem Chip.setTOff_reports {n t : Nat} (h : ∀ l, (c.fe n).lastClosed = some l → sdiff32 l t < 0) :
    (c.setTOff n t).reports = c.reports := by
  rw [c.setTOff_open h]
  simp

/-- OFF(n, T') from the mate, for a port that is not disabled: T' counts, or the newest trigger where T' has passed. -/
theorem Chip.portOffRx_set {n t : Nat} (hn : n < 8) (hr : c.running = true) (hoff : c.job.tOff.getD n none = none)
    (hdone : c.job.offDone.contains n = false) :
    c.portOffRx n t = if 0 ≤ sdiff32 c.newestTrig t then (c.report 0x80 2).setTOff n c.newestTrig else c.setTOff n t := by
  have h' : (c.report 0x80 2).job = c.job := rfl
  unfold Chip.portOffRx
  rw [if_pos ⟨hn, hr⟩]
  by_cases hl : 0 ≤ sdiff32 c.newestTrig t
  · simp only [hl, decide_true, if_true, h', hoff, hdone, Bool.false_eq_true, if_false]
  · simp only [hl, decide_false, Bool.false_eq_true, if_false, hoff, hdone]

theorem bits_of_one_port : ∀ n < 8, ((List.range 8).filter fun k => bitAt (BitVec.ofNat 32 (2 ^ n)) k) = [n] := by decide

/-- A register write of JOB_PORT_OFF starts the disables and stores nothing itself. -/
theorem Chip.regStore_jobPortOff (src : Src) (v : Word) : c.regStore src R.jobPortOff v = (c.jobPortOff v, 0) := by
  obtain ⟨⟨r, ix⟩, hr⟩ := Option.isSome_iff_exists.1 (show (regAt R.jobPortOff).isSome = true by decide +kernel)
  have hw : (windowReg R.jobPortOff || ruledReg R.jobPortOff) = true := by decide +kernel
  have hb : c.blockWritten src R.jobPortOff (c.rd R.jobPortOff) v = (c.jobPortOff v, 0) := by
    simp [Chip.blockWritten, R.jobPortOff, R.jobCmd]
  simp only [Chip.regStore, hr, hw, if_true, hb, Chip.spoils_other _ (a := spoilAddr R.jobPortOff) (by decide +kernel)]

theorem Chip.regStore_jobProdOff (src : Src) (v : Word) : c.regStore src R.jobProdOff v = c.jobProdOff (getBits v 0 5) := by
  obtain ⟨⟨r, ix⟩, hr⟩ := Option.isSome_iff_exists.1 (show (regAt R.jobProdOff).isSome = true by decide +kernel)
  have hw : (windowReg R.jobProdOff || ruledReg R.jobProdOff) = true := by decide +kernel
  have hb : c.blockWritten src R.jobProdOff (c.rd R.jobProdOff) v = c.jobProdOff (getBits v 0 5) := by
    simp [Chip.blockWritten, R.jobPortOff, R.jobCmd, R.jobProdOff]
  simp only [Chip.regStore, hr, hw, if_true, hb, Chip.spoils_other _ (a := spoilAddr R.jobProdOff) (by decide +kernel)]

theorem jobPortOffWrite_starts {s : State} {src : Src} {n : Nat} (hn : n < 8) (hlen : n < s.chip.job.tOff.length)
    (hw : s.chip.Allows src R.jobPortOff (BitVec.ofNat 32 (2 ^ n))) (hoff : s.chip.job.tOff.getD n none = none)
    (hdone : s.chip.job.offDone.contains n = false)
    (hl : ∀ l, (s.chip.fe n).lastClosed = some l → sdiff32 l ((s.chip.newestTrig + 64) % 2 ^ 32) < 0) :
    Does (.jobPortOffWrite src (BitVec.ofNat 32 (2 ^ n))) s fun t =>
      t.job.tOff.getD n none = some ((s.chip.newestTrig + 64) % 2 ^ 32) ∧ t.f ⟨R.jobPortOff, n, 1⟩ = 1
        ∧ .status 0 ∈ t.out := by
  refine Does.of_write rfl hw fun d hd ho => ?_
  have hstart : s.fresh.jobPortOff (BitVec.ofNat 32 (2 ^ n)) = s.fresh.portOffStart n := by
    unfold Chip.jobPortOff
    rw [bits_of_one_port n hn]
    rfl
  obtain ⟨hset, hbit⟩ := s.fresh.setTOff_shown hn hlen hl
  rw [Chip.regStore_jobPortOff, hstart] at hd ho
  unfold Chip.portOffStart at hd ho
  rw [if_pos ⟨hoff, by rw [show s.fresh.job = s.chip.job from rfl, hdone]; rfl⟩] at hd ho
  refine ⟨?_, ?_, ?_⟩
  · rw [hd.job, Chip.pairSend_job]
    exact hset
  · rw [hd.f (by decide : R.jobPortOff ≠ R.scpSum) (by decide : R.jobPortOff ∉ [R.scpSession]), Chip.pairSend_f]
    exact hbit
  · rw [ho]
    simp

/-- A disable of the mate for a port that is not disabled here. -/
theorem pairPortoffRx_set {s : State} {pk : RxPkt} (hd4 : s.chip.domainRuns 4 = true) (hp : s.chip.Hears 0x06 pk)
    (hr : s.chip.running = true) (hn : fieldBE pk.bytes 8 1 < 8) (hlen : fieldBE pk.bytes 8 1 < s.chip.job.tOff.length)
    (hoff : s.chip.job.tOff.getD (fieldBE pk.bytes 8 1) none = none)
    (hdone : s.chip.job.offDone.contains (fieldBE pk.bytes 8 1) = false)
    (hl : (s.chip.fe (fieldBE pk.bytes 8 1)).lastClosed = none) :
    (sdiff32 s.chip.newestTrig (fieldBE pk.bytes 12 4) < 0 → Does (.pairPortoffRx pk) s fun t =>
      t.job.tOff.getD (fieldBE pk.bytes 8 1) none = some (fieldBE pk.bytes 12 4)
        ∧ t.f ⟨R.jobPortOff, fieldBE pk.bytes 8 1, 1⟩ = 1 ∧ s.chip.Keeps t [R.jobPortOff, R.plMsgLost])
    ∧ (0 ≤ sdiff32 s.chip.newestTrig (fieldBE pk.bytes 12 4) → Does (.pairPortoffRx pk) s fun t =>
      t.job.tOff.getD (fieldBE pk.bytes 8 1) none = some s.chip.newestTrig
        ∧ t.f ⟨R.jobPortOff, fieldBE pk.bytes 8 1, 1⟩ = 1 ∧ ⟨0x80, 2, false⟩ ∈ t.reports) := by
  obtain ⟨e, he, huse⟩ := Chip.pairUse_heard (State.fresh_hears hp)
    fun c bs => c.portOffRx (fieldBE bs 8 1) (fieldBE bs 12 4)
  have hnew : e.newestTrig = s.chip.newestTrig := he.newestTrig
  have hl' : (e.fe (fieldBE pk.bytes 8 1)).lastClosed = none := (he.lastClosed _).trans hl
  have hlen' : fieldBE pk.bytes 8 1 < e.job.tOff.length := by rw [he.job]; exact hlen
  have hport : R.jobPortOff ≠ R.scpSum := by decide
  rw [e.portOffRx_set hn (he.running.trans hr) (by rw [he.job]; exact hoff) (by rw [he.job]; exact hdone), hnew] at huse
  constructor
  · intro hlate
    rw [if_neg (by omega)] at huse
    have hopen : ∀ l, (e.fe (fieldBE pk.bytes 8 1)).lastClosed = some l → sdiff32 l (fieldBE pk.bytes 12 4) < 0 := by
      simp [hl']
    obtain ⟨hset, hbit⟩ := e.setTOff_shown hn hlen' hopen
    refine Does.of_runIn (fun c => c.pairUse 0x06 pk fun c bs => c.portOffRx (fieldBE bs 8 1) (fieldBE bs 12 4)) rfl hd4 rfl huse fun d hd _ _ => ⟨?_, ?_, ?_⟩
    · rw [hd.job, hset]
    · rw [hd.f hport (by simp), hbit]
    · exact ((s.keeps_fresh _).trans (he.keeps ((e.setTOff_keeps hopen).mono (by simp)) (by simp))).settled hd
  · intro hlate
    rw [if_pos hlate] at huse
    have hopen : ∀ l, ((e.report 0x80 2).fe (fieldBE pk.bytes 8 1)).lastClosed = some l →
        sdiff32 l s.chip.newestTrig < 0 := by
      rw [show (e.report 0x80 2).fe = e.fe from rfl]
      simp [hl']
    obtain ⟨hset, hbit⟩ := (e.report 0x80 2).setTOff_shown hn hlen' hopen
    refine Does.of_runIn (fun c => c.pairUse 0x06 pk fun c bs => c.portOffRx (fieldBE bs 8 1) (fieldBE bs 12 4)) rfl hd4 rfl huse fun d hd _ _ => ⟨?_, ?_, ?_⟩
    · rw [hd.job, hset]
    · rw [hd.f hport (by simp), hbit]
    · rw [hd.reports, Chip.setTOff_reports _ hopen]
      exact List.mem_append_right _ (List.mem_singleton_self _)

/-! ### Products (R238, R239) -/

/-- The product selection that is checked against the sums of R41: the products of the bank in use without those whose bit is
cleared. -/
def Chip.selWithout (c : Chip) (mask : Nat) : Nat :=
  (List.range 5).foldl (fun a k =>
    if (c.f (F.sspPselProd c.actBank)).testBit k && !mask.testBit k then a + 2 ^ k else a) 0

/-- The sums that a write of JOB_PROD_OFF which clears a bit is checked against. -/
def Chip.prodSums (c : Chip) (mask : Nat) : Sums := c.sums c.actBank (c.selWithout mask) (c.fmax c.actBank)

/-- A mask clears no bit of JOB_PROD_OFF. -/
def Chip.KeepsProducts (c : Chip) (mask : Nat) : Prop :=
  ∀ k < 5, (c.f F.jobProdOffProd).testBit k = true → mask.testBit k = true

theorem Chip.clears_iff (mask : Nat) :
    ((List.range 5).any fun k => (c.f F.jobProdOffProd).testBit k && !mask.testBit k) = true ↔ ¬c.KeepsProducts mask := by
  simp [Chip.KeepsProducts, List.any_eq_true]

theorem Chip.jobProdOff_kept {mask : Nat} (h : c.KeepsProducts mask) : c.jobProdOff mask = (c.prodOff mask, 0) := by
  unfold Chip.jobProdOff
  dsimp only
  rw [if_neg fun h' => (c.clears_iff mask).1 h' h]

theorem Chip.jobProdOff_cleared {mask : Nat} (h : ¬c.KeepsProducts mask) : c.jobProdOff mask =
    if (c.prodSums mask).fails = 0 then (((c.showSums (c.prodSums mask)).recordChk 0 0 0 0).prodOff mask, 0)
    else ((c.showSums (c.prodSums mask)).recordChk 0x06 0 (c.prodSums mask).fails ((c.prodSums mask).port.getD 0), 0x06) := by
  unfold Chip.jobProdOff
  dsimp only
  rw [if_pos ((c.clears_iff mask).2 h)]
  rfl

/-- The registers that record a check of R41 (R229, R239). -/
def chkRegs : List Nat := [R.jobLoadUl, R.jobLoadMem, R.jobLimMem, R.jobLoadClk, R.jobChk]

theorem Chip.checked_keeps (x : Sums) (status step fails port : Nat) :
    c.Keeps ((c.showSums x).recordChk status step fails port) chkRegs :=
  (((((Chip.Keeps.refl c _).wr (by decide)).wr (by decide)).wr (by decide)).setF (by decide)).wr (by decide)

theorem Chip.checked_rest (x : Sums) (status step fails port : Nat) :
    ((c.showSums x).recordChk status step fails port).job = c.job
      ∧ ((c.showSums x).recordChk status step fails port).stc = c.stc := by
  unfold Chip.recordChk Chip.showSums
  rw [Chip.wr_job, Chip.setF_job, Chip.wr_job, Chip.wr_job, Chip.wr_job, Chip.wr_stc, Chip.setF_stc, Chip.wr_stc,
    Chip.wr_stc, Chip.wr_stc]
  exact ⟨rfl, rfl⟩

/-- A mask that is taken shows in JOB_PROD_OFF and waits for its band. -/
theorem Chip.setMask_shown {mask : Nat} (hm : mask < 2 ^ 5) (b : Nat) :
    (c.setMask mask b).f F.jobProdOffProd = mask
      ∧ (c.setMask mask b).job.masks = c.job.masks ++ [(c.actBank, b, mask)] := by
  refine ⟨?_, rfl⟩
  unfold Chip.setMask
  rw [Chip.f_setF_self _ _ (by decide)]
  exact Nat.mod_eq_of_lt hm

theorem Chip.prodOff_shown {mask : Nat} (hm : mask < 2 ^ 5) :
    (c.prodOff mask).f F.jobProdOffProd = mask
      ∧ (c.prodOff mask).job.masks = c.job.masks ++ [(c.actBank, c.prodBound.1, mask)] := by
  obtain ⟨hf, hj⟩ := c.setMask_shown hm c.prodBound.1
  unfold Chip.prodOff Chip.sendProdOff
  dsimp only
  exact ⟨by rw [Chip.pairSend_f, Chip.modJob_f, hf], by rw [Chip.pairSend_job, Chip.modJob_job, hj]⟩

theorem jobProdOffWrite_taken {s : State} {src : Src} {v : Word} (hw : s.chip.Allows src R.jobProdOff v)
    (h : s.chip.KeepsProducts (getBits v 0 5) ∨ (s.chip.prodSums (getBits v 0 5)).fails = 0) :
    Does (.jobProdOffWrite src v) s fun t => t.f F.jobProdOffProd = getBits v 0 5
      ∧ t.job.masks = s.chip.job.masks ++ [(s.chip.actBank, s.chip.prodBound.1, getBits v 0 5)] ∧ .status 0 ∈ t.out := by
  have hprod : F.jobProdOffProd.addr ≠ R.scpSum ∧ F.jobProdOffProd.addr ∉ [R.scpSession] := by decide
  have taken : ∃ e : Chip, s.fresh.regStore src R.jobProdOff v = (e.prodOff (getBits v 0 5), 0) ∧ e.job = s.chip.job
      ∧ e.actBank = s.chip.actBank ∧ e.prodBound = s.chip.prodBound := by
    rw [Chip.regStore_jobProdOff]
    by_cases hk : s.fresh.KeepsProducts (getBits v 0 5)
    · exact ⟨s.fresh, s.fresh.jobProdOff_kept hk, rfl, rfl, rfl⟩
    · have hfit : (s.fresh.prodSums (getBits v 0 5)).fails = 0 := h.resolve_left hk
      have hkeep := s.fresh.checked_keeps (s.fresh.prodSums (getBits v 0 5)) 0 0 0 0
      have hf : ∀ x : Fld, x.addr ∉ chkRegs → x.addr ≠ R.scpSum →
          ((s.fresh.showSums (s.fresh.prodSums (getBits v 0 5))).recordChk 0 0 0 0).f x = s.chip.f x := fun x h1 h2 => by
        rw [Chip.f_eq, Chip.f_eq, hkeep.1 _ h1 h2, s.fresh_rd]
      obtain ⟨hjob, hstc⟩ := s.fresh.checked_rest (s.fresh.prodSums (getBits v 0 5)) 0 0 0 0
      refine ⟨_, by rw [s.fresh.jobProdOff_cleared hk, if_pos hfit], hjob, hf _ (by decide) (by decide), ?_⟩
      unfold Chip.prodBound
      rw [hf _ (by decide) (by decide), hstc]
      rfl
  obtain ⟨e, hst, hjob, hact, hbound⟩ := taken
  obtain ⟨hf, hmasks⟩ := e.prodOff_shown (getBits_lt v 0 5)
  refine Does.of_write rfl hw fun d hd ho => ?_
  rw [hst] at hd ho
  refine ⟨?_, ?_, ?_⟩
  · rw [hd.f hprod.1 hprod.2, hf]
  · rw [hd.job, hmasks, hjob, hact, hbound]
  · rw [ho]
    simp

theorem Sums.fails_lt (x : Sums) : x.fails < 16 := by
  unfold Sums.fails
  split <;> split <;> split <;> split <;> omega

/-- A failing port of the sums is one of the eight. -/
theorem Chip.sums_port_lt (b sel f : Nat) : (c.sums b sel f).port.getD 0 < 8 := by
  unfold Chip.sums
  dsimp only
  rcases hp : (List.filter _ (List.range 8)).head? with _ | n
  · decide
  · exact List.mem_range.1 (List.mem_filter.1 (List.mem_of_mem_head? hp)).1

theorem Chip.recordChk_status {status step fails port : Nat} (h1 : status < 2 ^ 8) (h2 : step < 2 ^ 4) (h3 : port < 2 ^ 4)
    (h4 : fails < 2 ^ 4) : (c.recordChk status step fails port).f F.jobChkStatus = status := by
  show getBits ((c.wr R.jobChk _).rd R.jobChk) 24 8 = status
  rw [Chip.rd_wr_self]
  unfold getBits
  rw [BitVec.toNat_and, BitVec.toNat_ushiftRight, BitVec.toNat_ofNat, BitVec.toNat_ofNat, Nat.shiftRight_eq_div_pow]
  rw [show (2 ^ 8 - 1) % 2 ^ 32 = 2 ^ 8 - 1 from rfl, Nat.and_two_pow_sub_one_eq_mod]
  omega

theorem jobProdOffWrite_refused {s : State} {src : Src} {v : Word} (hw : s.chip.Allows src R.jobProdOff v)
    (hk : ¬s.chip.KeepsProducts (getBits v 0 5)) (hfail : (s.chip.prodSums (getBits v 0 5)).fails ≠ 0) :
    Does (.jobProdOffWrite src v) s fun t => t.f F.jobProdOffProd = s.chip.f F.jobProdOffProd
      ∧ t.job.masks = s.chip.job.masks ∧ t.out = [.status 0x06] ∧ t.f F.jobChkStatus = 0x06 := by
  have hprod : F.jobProdOffProd.addr ≠ R.scpSum ∧ F.jobProdOffProd.addr ∉ [R.scpSession] := by decide
  have hchk : F.jobChkStatus.addr ≠ R.scpSum ∧ F.jobChkStatus.addr ∉ [R.scpSession] := by decide
  have hx : s.fresh.prodSums (getBits v 0 5) = s.chip.prodSums (getBits v 0 5) := rfl
  have hst : s.fresh.regStore src R.jobProdOff v = _ := (s.fresh.regStore_jobProdOff src v).trans
    ((s.fresh.jobProdOff_cleared hk).trans (if_neg hfail))
  have hkeep := s.fresh.checked_keeps (s.fresh.prodSums (getBits v 0 5)) 0x06 0 (s.fresh.prodSums (getBits v 0 5)).fails
    ((s.fresh.prodSums (getBits v 0 5)).port.getD 0)
  refine Does.of_write rfl hw fun d hd ho => ?_
  rw [hst] at hd ho
  refine ⟨?_, ?_, ho, ?_⟩
  · rw [hd.f hprod.1 hprod.2, Chip.f_eq, hkeep.1 _ (by decide) (by decide)]
    rfl
  · rw [hd.job, (s.fresh.checked_rest _ _ _ _ _).1]
    rfl
  · rw [hd.f hchk.1 hchk.2]
    exact Chip.recordChk_status _ (by decide) (by decide)
      (lt_trans (s.fresh.sums_port_lt _ _ _) (by decide)) (Sums.fails_lt _)

/-- PRODOFF that answers no mask sent: the mask is taken with the larger bound. -/
theorem Chip.prodOffRx_new {mask t : Nat} (hr : c.running = true) (h : ∀ x, c.job.prodSent = some x → x.1 ≠ mask % 32) :
    c.prodOffRx mask t = (c.setMask (mask % 32) (laterBound c.prodBound.1 c.prodBound.2 t)).sendProdOff (mask % 32)
      c.prodBound.2 := by
  unfold Chip.prodOffRx
  dsimp only
  rw [if_pos hr]
  split
  next m b own hs => exact if_neg (h _ hs)
  next => rfl

/-- PRODOFF that answers the mask sent raises the bound of that mask. -/
theorem Chip.prodOffRx_answer {mask t b own : Nat} (hr : c.running = true) (h : c.job.prodSent = some (mask % 32, b, own)) :
    c.prodOffRx mask t = c.modJob fun j => { j with
      prodSent := none
      masks := j.masks.map fun e =>
        if e = (c.actBank, b, mask % 32) then (c.actBank, laterBound b own t, mask % 32) else e } := by
  unfold Chip.prodOffRx
  dsimp only
  rw [if_pos hr, h]
  exact if_pos rfl

theorem pairProdoffRx_new {s : State} {pk : RxPkt} (hd4 : s.chip.domainRuns 4 = true) (hp : s.chip.Hears 0x07 pk)
    (hr : s.chip.running = true) (h : ∀ x, s.chip.job.prodSent = some x → x.1 ≠ fieldBE pk.bytes 8 1 % 32) :
    Does (.pairProdoffRx pk) s fun t => t.f F.jobProdOffProd = fieldBE pk.bytes 8 1 % 32
      ∧ t.job.masks = s.chip.job.masks ++ [(s.chip.actBank,
          laterBound s.chip.prodBound.1 s.chip.prodBound.2 (fieldBE pk.bytes 12 4), fieldBE pk.bytes 8 1 % 32)] := by
  obtain ⟨e, he, huse⟩ := Chip.pairUse_heard (State.fresh_hears hp)
    fun c bs => c.prodOffRx (fieldBE bs 8 1) (fieldBE bs 12 4)
  rw [e.prodOffRx_new (he.running.trans hr) (by rw [he.job]; exact h)] at huse
  have hmask : fieldBE pk.bytes 8 1 % 32 < 2 ^ 5 := Nat.mod_lt _ (by decide)
  obtain ⟨hf, hm⟩ := e.setMask_shown hmask (laterBound e.prodBound.1 e.prodBound.2 (fieldBE pk.bytes 12 4))
  refine Does.of_runIn (fun c => c.pairUse 0x07 pk fun c bs => c.prodOffRx (fieldBE bs 8 1) (fieldBE bs 12 4)) rfl hd4 rfl huse fun d hd _ _ => ⟨?_, ?_⟩
  · rw [hd.f (by decide) (by simp), Chip.sendProdOff, Chip.pairSend_f, hf]
  · rw [hd.job, Chip.sendProdOff, Chip.pairSend_job, hm, he.job, he.actBank, he.prodBound]
    rfl

theorem pairProdoffRx_answer {s : State} {pk : RxPkt} {b own : Nat} (hd4 : s.chip.domainRuns 4 = true)
    (hp : s.chip.Hears 0x07 pk) (hr : s.chip.running = true)
    (h : s.chip.job.prodSent = some (fieldBE pk.bytes 8 1 % 32, b, own)) :
    Does (.pairProdoffRx pk) s fun t => t.job.prodSent = none
      ∧ t.job.masks = s.chip.job.masks.map (fun e =>
          if e = (s.chip.actBank, b, fieldBE pk.bytes 8 1 % 32) then
            (s.chip.actBank, laterBound b own (fieldBE pk.bytes 12 4), fieldBE pk.bytes 8 1 % 32) else e)
      ∧ s.chip.Keeps t [R.plMsgLost] := by
  obtain ⟨e, he, huse⟩ := Chip.pairUse_heard (State.fresh_hears hp)
    fun c bs => c.prodOffRx (fieldBE bs 8 1) (fieldBE bs 12 4)
  rw [e.prodOffRx_answer (he.running.trans hr) (by rw [he.job]; exact h)] at huse
  refine Does.of_runIn (fun c => c.pairUse 0x07 pk fun c bs => c.prodOffRx (fieldBE bs 8 1) (fieldBE bs 12 4)) rfl hd4 rfl huse fun d hd _ _ => ⟨?_, ?_, ?_⟩
  · rw [hd.job]
    rfl
  · rw [hd.job, Chip.modJob_job, he.job, he.actBank]
    rfl
  · refine ((s.keeps_fresh _).trans (he.keeps ?_ (List.mem_singleton_self _))).settled hd
    exact Chip.Keeps.of_same rfl rfl

/-- Settles O36: the clauses on ports and on products, one by one. -/
theorem flightChanges : Obligations.FlightChanges := by
  intro s src pk
  refine ⟨fun n hn hlen hw hoff hdone hl => jobPortOffWrite_starts hn hlen hw hoff hdone hl,
    fun hd4 hp hr hn hlen hoff hdone hl => pairPortoffRx_set hd4 hp hr hn hlen hoff hdone hl,
    fun v hw => ⟨jobProdOffWrite_taken hw, jobProdOffWrite_refused hw⟩, fun hd4 hp hr => ⟨pairProdoffRx_new hd4 hp hr, ?_⟩⟩
  exact fun b own h => pairProdoffRx_answer hd4 hp hr h

end Sys2Proof.Machine
end

section
/-! SUPPORT. A command of the control protocol waits: what that leaves of the checks of an access. -/

namespace Sys2Proof.Machine

/-! ### A device in which a command waits (R299, R339) -/

/-- `d` is `c` with a command more that waits on its path: a received frame may have been counted; sessions and kept responses are
the same. -/
structure Chip.Waits (c d : Chip) : Prop where
  alike : c.Alike d [R.ulRxFrm]
  out : d.out = c.out
  win : d.win = c.win
  ulSess : d.scp.ulSess = c.scp.ulSess
  spiSess : d.scp.spiSess = c.scp.spiSess
  kept : d.scp.kept = c.scp.kept

namespace Chip.Waits

variable {c d : Chip} (h : c.Waits d)
include h

theorem rd {a : Nat} (ha : a ≠ R.scpSum ∧ a ≠ R.ulRxFrm) : d.rd a = c.rd a :=
  h.alike.rd a ha.1 (by simpa using ha.2)

theorem f {x : Fld} (hx : x.addr ≠ R.scpSum ∧ x.addr ≠ R.ulRxFrm) : d.f x = c.f x := by
  rw [Chip.f_eq, Chip.f_eq, h.rd hx]

theorem fb {x : Fld} (hx : x.addr ≠ R.scpSum ∧ x.addr ≠ R.ulRxFrm) : d.fb x = c.fb x := by
  rw [Chip.fb_eq, Chip.fb_eq, h.f hx]

theorem byte (a : Nat) : d.byte a = c.byte a := h.alike.byte a

theorem keeps : c.Keeps d [R.ulRxFrm] := (Chip.Keeps.refl c _).alike h.alike (by simp)

/-! ### Rules for every access (R15, R29, R130, R420) -/

theorem mgmtRuns : d.mgmtRuns = c.mgmtRuns := by
  unfold Chip.mgmtRuns Chip.phase
  rw [h.f (by decide), h.alike.boot, h.alike.clk]

theorem pushMode : d.pushMode = c.pushMode := by
  unfold Chip.pushMode Chip.phase
  rw [h.f (by decide), h.f (by decide), h.rd (by decide)]

theorem domainRuns (n : Nat) : d.domainRuns n = c.domainRuns n := by
  unfold Chip.domainRuns Chip.pllRuns
  rw [h.mgmtRuns, h.alike.clk, h.fb (x := F.rstHoldTime) (by decide), h.fb (x := F.rstHoldCore) (by decide),
    h.fb (x := F.rstHoldMemc) (by decide), h.f (x := F.clkStatCoreAct) (by decide), h.f (x := F.clkStatStHl) (by decide),
    h.f (x := F.clkStatStUl) (by decide)]

theorem accessChecks (src : Src) (a : Nat) (w : Bool) : d.accessChecks src a w = c.accessChecks src a w := by
  unfold Chip.accessChecks Chip.pushRefuses Chip.feInitBusy Chip.fe
  rw [h.domainRuns, h.pushMode, h.alike.fes]

theorem holdsScope (p : Path) (key : List Byte) (bit : Nat) : d.holdsScope p key bit = c.holdsScope p key bit := by
  unfold Chip.holdsScope Chip.sessionOf
  rw [show d.session p = c.session p by cases p; exacts [h.ulSess, h.spiSess]]

theorem unauthorized (src : Src) (a : Nat) : d.unauthorized src a = c.unauthorized src a := by
  unfold Chip.unauthorized
  simp only [h.holdsScope]

theorem running : d.running = c.running := h.fb (by decide)

theorem actBank : d.actBank = c.actBank := h.f (by decide)

theorem sst : d.sst = c.sst := h.f (by decide)

theorem locked : d.locked = c.locked := by
  unfold Chip.locked
  rw [h.sst]

theorem perJobChecks (a : Nat) : d.perJobChecks a = c.perJobChecks a := by
  have hfe (n : Nat) : d.fb (F.feStatOldBusy n) = c.fb (F.feStatOldBusy n) :=
    h.fb (by simp only [F.feStatOldBusy, R.feStat, R.scpSum, R.ulRxFrm]; omega)
  have hold (x : Nat) : d.oldBusyAt x = c.oldBusyAt x := by
    unfold Chip.oldBusyAt
    rw [hfe, h.fb (x := F.sspStatOldBusy) (by decide), h.fb (x := F.stcStatOldBusy) (by decide),
      h.fb (x := F.ieStatOldBusy) (by decide), h.fb (x := F.csStatOldBusy) (by decide)]
  unfold Chip.perJobChecks Chip.bankChecks
  simp only [h.actBank, h.locked, h.sst, hold]

/-! ### Rules of the blocks for a plain register -/

theorem dmaChecks (off : Nat) (v : Word) : d.dmaChecks off v = c.dmaChecks off v := by
  have hst (n : Nat) : d.f (F.dmaChStatState n) = c.f (F.dmaChStatState n) :=
    h.f (by simp only [F.dmaChStatState, R.dmaChStat, R.scpSum, R.ulRxFrm]; omega)
  have hdb (n : Nat) : d.f (F.dmaChDbcntDbcnt n) = c.f (F.dmaChDbcntDbcnt n) :=
    h.f (by simp only [F.dmaChDbcntDbcnt, R.dmaChDbcnt, R.scpSum, R.ulRxFrm]; omega)
  unfold Chip.dmaChecks Chip.chSt
  simp only [hst, hdb]

theorem cvuChecks (n off : Nat) (v : Word) : d.cvuChecks n off v = c.cvuChecks n off v := by
  have howner : d.f (F.cvuStatOwner n) = c.f (F.cvuStatOwner n) :=
    h.f (by simp only [F.cvuStatOwner, R.cvuStat, R.scpSum, R.ulRxFrm]; omega)
  have hlen : d.f (F.cvuLen4Words n) = c.f (F.cvuLen4Words n) :=
    h.f (by simp only [F.cvuLen4Words, R.cvuLen4, R.scpSum, R.ulRxFrm]; omega)
  have hmode : d.fb (F.cvuCfgMode n) = c.fb (F.cvuCfgMode n) :=
    h.fb (by simp only [F.cvuCfgMode, R.cvuCfg, R.scpSum, R.ulRxFrm]; omega)
  have hhi : d.f (F.cvuAddrHiAddr n) = c.f (F.cvuAddrHiAddr n) :=
    h.f (by simp only [F.cvuAddrHiAddr, R.cvuAddrHi, R.scpSum, R.ulRxFrm]; omega)
  have hlo : d.f (F.cvuAddrLoAddr n) = c.f (F.cvuAddrLoAddr n) :=
    h.f (by simp only [F.cvuAddrLoAddr, R.cvuAddrLo, R.scpSum, R.ulRxFrm]; omega)
  unfold Chip.cvuChecks Chip.cvuAddr Chip.inWindow Chip.ddrTop
  simp only [howner, hlen, hmode, hhi, hlo, h.win]

theorem eqChecks (src : Src) (n off : Nat) (v : Word) : d.eqChecks src n off v = c.eqChecks src n off v := by
  have howner : d.f (F.eqStatOwner n) = c.f (F.eqStatOwner n) :=
    h.f (by simp only [F.eqStatOwner, R.eqStat, R.scpSum, R.ulRxFrm]; omega)
  have hseq : d.f (F.eqRseqQseq n) = c.f (F.eqRseqQseq n) :=
    h.f (by simp only [F.eqRseqQseq, R.eqRseq, R.scpSum, R.ulRxFrm]; omega)
  have hen : d.fb (F.eqCfgEn n) = c.fb (F.eqCfgEn n) :=
    h.fb (by simp only [F.eqCfgEn, R.eqCfg, R.scpSum, R.ulRxFrm]; omega)
  have hcs (b : Nat) : d.fb (F.csCfgEqEn b) = c.fb (F.csCfgEqEn b) :=
    h.fb (by simp only [F.csCfgEqEn, R.csCfg, R.scpSum, R.ulRxFrm]; omega)
  have hsel (b : Nat) : d.f (F.csCfgEqSel b) = c.f (F.csCfgEqSel b) :=
    h.f (by simp only [F.csCfgEqSel, R.csCfg, R.scpSum, R.ulRxFrm]; omega)
  have hold : d.fb F.csStatOldBusy = c.fb F.csStatOldBusy := h.fb (by decide)
  unfold Chip.eqChecks Chip.eqHardware Chip.eq
  simp only [howner, hseq, hen, hcs, hsel, hold, h.actBank, h.alike.eqs]

theorem clkChecks (off : Nat) (v : Word) : d.clkChecks off v = c.clkChecks off v := by
  have hst (i : Nat) : d.clkSt i = c.clkSt i := h.f (show R.clkStat ≠ R.scpSum ∧ R.clkStat ≠ R.ulRxFrm by decide)
  have hprim : d.clkPrimary = c.clkPrimary := by unfold Chip.clkPrimary; rw [h.f (by decide)]
  unfold Chip.clkChecks
  rw [h.fb (x := F.clkStatRefAct) (by decide), h.fb (x := F.rstHoldCore) (by decide), hst, hprim]

theorem fcChecks (off : Nat) (v : Word) : d.fcChecks off v = c.fcChecks off v := by
  unfold Chip.fcChecks
  rw [h.fb (by decide), h.f (by decide)]

theorem secChecks (v : Word) : d.secChecks v = c.secChecks v := by
  unfold Chip.secChecks Chip.optWord
  rw [h.alike.opt, h.alike.boot]

theorem orbChecks (off : Nat) (v : Word) : d.orbChecks off v = c.orbChecks off v := by
  unfold Chip.orbChecks Chip.testTt Chip.nomFormed
  rw [h.fb (by decide), h.running, h.alike.orb]

theorem encPos (e : Nat) : d.encPos e = c.encPos e := by
  unfold Chip.encPos
  rw [h.alike.cmt]

theorem webPos : d.webPos = c.webPos := by
  unfold Chip.webPos Chip.webEnc
  rw [h.encPos, h.actBank, h.f (by simp only [F.cmtTcfgEncSel, R.cmtTcfg, R.scpSum, R.ulRxFrm]; omega)]

theorem outReach (b : Nat) (cfg dist win : Word) : d.outReach b cfg dist win = c.outReach b cfg dist win := by
  have hport (n : Nat) : d.fb (F.feJcfgPortEn b n) = c.fb (F.feJcfgPortEn b n) :=
    h.fb (by simp only [F.feJcfgPortEn, R.feJcfg, R.scpSum, R.ulRxFrm]; omega)
  have htmo (n : Nat) : d.f (F.feBinTmoLineTmo b n) = c.f (F.feBinTmoLineTmo b n) :=
    h.f (by simp only [F.feBinTmoLineTmo, R.feBinTmo, R.scpSum, R.ulRxFrm]; omega)
  have huse (n : Nat) : d.fb (F.stcHGeomUse b n) = c.fb (F.stcHGeomUse b n) :=
    h.fb (by simp only [F.stcHGeomUse, R.stcHGeom, R.scpSum, R.ulRxFrm]; omega)
  have hlofs (n : Nat) : d.f (F.stcHGeomLofs b n) = c.f (F.stcHGeomLofs b n) :=
    h.f (by simp only [F.stcHGeomLofs, R.stcHGeom, R.scpSum, R.ulRxFrm]; omega)
  have hfmax : d.fmax b = c.fmax b := h.f (by simp only [F.cmtFmaxFmax, R.cmtFmax, R.scpSum, R.ulRxFrm]; omega)
  have hpitch : d.pitch16 b = c.pitch16 b := by
    unfold Chip.pitch16
    rw [h.f (x := F.cmtPitchInt b) (by simp only [F.cmtPitchInt, R.cmtPitch, R.scpSum, R.ulRxFrm]; omega),
      h.f (x := F.cmtPitchFrac b) (by simp only [F.cmtPitchFrac, R.cmtPitch, R.scpSum, R.ulRxFrm]; omega)]
  unfold Chip.outReach Chip.nLat
  simp only [hport, htmo, huse, hlofs, hfmax, hpitch]

theorem cmtChecks (off : Nat) (v : Word) : d.cmtChecks off v = c.cmtChecks off v := by
  have hmode (k : Nat) : d.outMode k = c.outMode k :=
    h.f (by simp only [F.cmtOutCfgMode, R.cmtOutCfg, R.scpSum, R.ulRxFrm]; omega)
  have hpos (k : Nat) : d.outPos k = c.outPos k := by
    unfold Chip.outPos
    rw [h.encPos, h.f (by simp only [F.cmtOutCfgEnc, R.cmtOutCfg, R.scpSum, R.ulRxFrm]; omega)]
  have hsrc (b : Nat) : d.f (F.cmtTcfgSrc b) = c.f (F.cmtTcfgSrc b) :=
    h.f (by simp only [F.cmtTcfgSrc, R.cmtTcfg, R.scpSum, R.ulRxFrm]; omega)
  have hfollows : d.follows = c.follows := by
    unfold Chip.follows Chip.pairMode
    rw [h.rd (by decide), h.fb (by decide)]
  have hnow : d.nowNs = c.nowNs := by unfold Chip.nowNs; rw [h.alike.orb]
  have hcfg (k : Nat) : d.rd (R.cmtOutCfg k) = c.rd (R.cmtOutCfg k) :=
    h.rd (by simp only [R.cmtOutCfg, R.scpSum, R.ulRxFrm]; omega)
  have hdist (k : Nat) : d.rd (R.cmtOutDist k) = c.rd (R.cmtOutDist k) :=
    h.rd (by simp only [R.cmtOutDist, R.scpSum, R.ulRxFrm]; omega)
  have hwin (k : Nat) : d.rd (R.cmtOutWin k) = c.rd (R.cmtOutWin k) :=
    h.rd (by simp only [R.cmtOutWin, R.scpSum, R.ulRxFrm]; omega)
  unfold Chip.cmtChecks
  simp only [h.f (x := F.cmtHostThiTgt) (by decide), h.f (x := F.cmtHostTloTgt) (by decide), hmode, hpos, hsrc, hfollows,
    hnow, h.running, h.actBank, h.outReach, hcfg, hdist, hwin]

theorem shpChecks (off : Nat) (v : Word) : d.shpChecks off v = c.shpChecks off v := by
  have hlim (k : Nat) : d.f (F.shpCLimitLimit k) = c.f (F.shpCLimitLimit k) :=
    h.f (by simp only [F.shpCLimitLimit, R.shpCLimit, R.scpSum, R.ulRxFrm]; omega)
  have heng (e : Nat) : d.engState e = c.engState e := by
    unfold Chip.engState engField
    split
    · exact h.f (by simp only [F.shpCMap1Eng16, R.shpCMap1, R.scpSum, R.ulRxFrm]; omega)
    · exact h.f (by simp only [R.shpCMap0, R.scpSum, R.ulRxFrm]; omega)
  have hneed : d.need = c.need := by
    unfold Chip.need
    rw [h.f (x := F.shpNeedNeedAct) (by decide), h.f (x := F.shpNeedNeedStg) (by decide)]
  unfold Chip.shpChecks Chip.enough Chip.cap64 Chip.nAct
  simp only [h.fb (x := F.shpCtrlF1En) (by decide), h.running, hlim, heng, hneed]

theorem laneState (n m : Nat) : d.laneState n m = c.laneState n m :=
  h.f (by simp only [F.lnStateState, R.lnState, R.scpSum, R.ulRxFrm]; omega)

theorem portChecks (n off : Nat) (v : Word) : d.portChecks n off v = c.portChecks n off v := by
  have hst : d.laneState n = c.laneState n := funext (h.laneState n)
  unfold Chip.portChecks
  rw [hst, h.f (by simp only [F.laneRateRate, R.laneRate, R.scpSum, R.ulRxFrm]; omega)]

theorem laneChecks (n m off : Nat) (v : Word) : d.laneChecks n m off v = c.laneChecks n m off v := by
  unfold Chip.laneChecks
  rw [h.laneState, h.rd (by simp only [R.lnCtrl, R.scpSum, R.ulRxFrm]; omega),
    h.fb (by simp only [F.lnAdaptAdaptEn, R.lnAdapt, R.scpSum, R.ulRxFrm]; omega)]

theorem ulChecks (off : Nat) (v : Word) : d.ulChecks off v = c.ulChecks off v := by
  unfold Chip.ulChecks Chip.ulSt
  rw [h.rd (by decide), h.f (by decide), h.running]

theorem linkSt (n : Nat) : d.linkSt n = c.linkSt n :=
  h.f (by simp only [F.linkStateState, R.linkState, R.scpSum, R.ulRxFrm]; omega)

theorem expected (n : Nat) : d.fb (F.linkCtrlExpected n) = c.fb (F.linkCtrlExpected n) :=
  h.fb (by simp only [F.linkCtrlExpected, R.linkCtrl, R.scpSum, R.ulRxFrm]; omega)

theorem swapAllowed (n : Nat) : d.swapAllowed n = c.swapAllowed n := by
  have hmap : d.mapped n = c.mapped n := by
    have hof : d.mapOf n = c.mapOf n :=
      funext fun k => h.f (by simp only [F.laneMapLog, R.laneMap, R.scpSum, R.ulRxFrm]; omega)
    unfold Chip.mapped
    rw [hof]
  have hspare : d.fb (F.spareStatUnusable n) = c.fb (F.spareStatUnusable n) :=
    h.fb (by simp only [F.spareStatUnusable, R.spareStat, R.scpSum, R.ulRxFrm]; omega)
  have hpair : d.pairId = c.pairId := by unfold Chip.pairId; rw [h.rd (by decide)]
  unfold Chip.swapAllowed Chip.spareUsable Chip.laneBarred Chip.spareLane Chip.headRole Chip.optWord
  rw [h.linkSt, hmap, hspare, hpair, h.alike.opt]

theorem linkChecks (n off : Nat) (v : Word) : d.linkChecks n off v = c.linkChecks n off v := by
  have hlink : d.link n = c.link n := by unfold Chip.link; rw [h.alike.links]
  unfold Chip.linkChecks
  rw [h.linkSt, h.expected, hlink, h.swapAllowed,
    h.fb (by simp only [F.hregStatBusy, R.hregStat, R.scpSum, R.ulRxFrm]; omega)]

theorem sspChecks (off : Nat) (v : Word) : d.sspChecks off v = c.sspChecks off v := by
  unfold Chip.sspChecks
  rw [h.running]

theorem feChecks (n off : Nat) (v : Word) : d.feChecks n off v = c.feChecks n off v := by
  unfold Chip.feChecks Chip.fe
  rw [h.f (by simp only [F.feTblAddrBank, R.feTblAddr, R.scpSum, R.ulRxFrm]; omega), h.actBank, h.locked, h.sst,
    h.fb (by simp only [F.feStatOldBusy, R.feStat, R.scpSum, R.ulRxFrm]; omega), h.alike.fes]

theorem jobChecks (a : Nat) (v : Word) : d.jobChecks a v = c.jobChecks a v := by
  have hold : d.anyOldBusy = c.anyOldBusy := by
    have hfe (n : Nat) : d.fb (F.feStatOldBusy n) = c.fb (F.feStatOldBusy n) :=
      h.fb (by simp only [F.feStatOldBusy, R.feStat, R.scpSum, R.ulRxFrm]; omega)
    unfold Chip.anyOldBusy
    simp only [hfe, h.fb (x := F.sspStatOldBusy) (by decide), h.fb (x := F.stcStatOldBusy) (by decide),
      h.fb (x := F.ieStatOldBusy) (by decide), h.fb (x := F.csStatOldBusy) (by decide)]
  have howner (n : Nat) : d.f (F.cvuStatOwner n) = c.f (F.cvuStatOwner n) :=
    h.f (by simp only [F.cvuStatOwner, R.cvuStat, R.scpSum, R.ulRxFrm]; omega)
  have hcmd : d.jobCmdChecks v = c.jobCmdChecks v := by
    unfold Chip.jobCmdChecks Chip.hasProfile
    rw [h.alike.boot, h.locked, h.sst, hold, h.fb (by decide), howner, h.f (x := F.jobVcfgCvu) (by decide)]
  have henc : d.encTargetChecks a v = c.encTargetChecks a v := by
    unfold Chip.encTargetChecks
    rw [h.webPos, h.f (x := F.jobEncHiEncHi) (by decide), h.f (x := F.jobEncLoEncLo) (by decide)]
  unfold Chip.jobChecks
  simp only [h.locked, h.sst, hcmd, henc, h.running, h.expected, h.rd (a := R.jobPortOff) (by decide)]

theorem mcChecks (n off : Nat) (v : Word) : d.mcChecks n off v = c.mcChecks n off v := by
  have hst (k : Nat) : d.f (F.mcStatState k) = c.f (F.mcStatState k) :=
    h.f (by simp only [F.mcStatState, R.mcStat, R.scpSum, R.ulRxFrm]; omega)
  have hpop (k : Nat) : d.fb (F.mcCfgPop k) = c.fb (F.mcCfgPop k) :=
    h.fb (by simp only [F.mcCfgPop, R.mcCfg, R.scpSum, R.ulRxFrm]; omega)
  have hcfg (k : Nat) : d.rd (R.mcCfg k) = c.rd (R.mcCfg k) :=
    h.rd (by simp only [R.mcCfg, R.scpSum, R.ulRxFrm]; omega)
  unfold Chip.mcChecks Chip.mcPop
  simp only [hst, hpop, hcfg, h.running]

theorem writeChecks (src : Src) (a : Nat) (v : Word) : d.writeChecks src a v = c.writeChecks src a v := by
  have hblock : d.blockChecks src a v = c.blockChecks src a v := by
    unfold Chip.blockChecks Chip.rstChecks
    simp only [h.pushMode, h.clkChecks, h.running, h.fcChecks, h.f (x := F.optAddrWord) (by decide), h.secChecks,
      h.dmaChecks, h.cvuChecks, h.eqChecks, h.orbChecks, h.cmtChecks, h.shpChecks, h.portChecks, h.laneChecks, h.ulChecks,
      h.f (x := F.sspEtypeEtype) (by decide), h.linkChecks, h.sspChecks, h.feChecks, h.jobChecks, h.mcChecks]
  unfold Chip.writeChecks
  rw [h.accessChecks, h.unauthorized, h.perJobChecks, hblock]

theorem allows {src : Src} {a : Nat} {v : Word} (hw : c.Allows src a v) : d.Allows src a v := by
  unfold Chip.Allows
  rwa [h.writeChecks]

/-! ### Rules for memory (R33, R34, R224, R282, R420, R473) -/

theorem windowChecks (src : Src) (a n : Nat) (w : Bool) : d.windowChecks src a n w = c.windowChecks src a n w := by
  have hmeets (b : Nat) : d.meetsBank b a n = c.meetsBank b a n := by
    unfold Chip.meetsBank Chip.refRegion Chip.ruleRegion Chip.fieldRegion
    rw [h.f (x := F.ieRefBaseBase b) (by simp only [F.ieRefBaseBase, R.ieRefBase, R.scpSum, R.ulRxFrm]; omega),
      h.f (x := F.ieRefStrideStride b) (by simp only [F.ieRefStrideStride, R.ieRefStride, R.scpSum, R.ulRxFrm]; omega),
      h.f (x := F.ieRefHRefH b) (by simp only [F.ieRefHRefH, R.ieRefH, R.scpSum, R.ulRxFrm]; omega),
      h.f (x := F.ieRuleBaseBase b) (by simp only [F.ieRuleBaseBase, R.ieRuleBase, R.scpSum, R.ulRxFrm]; omega),
      h.f (x := F.stcWebWidth b) (by simp only [F.stcWebWidth, R.stcWeb, R.scpSum, R.ulRxFrm]; omega),
      h.f (x := F.ieRuleTyTyN b) (by simp only [F.ieRuleTyTyN, R.ieRuleTy, R.scpSum, R.ulRxFrm]; omega),
      h.f (x := F.ieFieldBaseBase b) (by simp only [F.ieFieldBaseBase, R.ieFieldBase, R.scpSum, R.ulRxFrm]; omega)]
  have hring : d.ringRegion = c.ringRegion := by
    unfold Chip.ringRegion
    rw [h.f (x := F.sspRingBaseBase) (by decide), h.f (x := F.sspRingSizeMib) (by decide)]
  have hmc (k : Nat) : d.mc k = c.mc k := by unfold Chip.mc; rw [h.alike.mcs]
  have hmem : d.memChecks a n w = c.memChecks a n w := by
    unfold Chip.memChecks Chip.inWindow Chip.ddrTop Chip.ddrTouched Chip.ddrChannel
    simp only [h.f (x := F.jobStatActBank) (by decide), h.f (x := F.jobStatSst) (by decide), h.running, h.alike.job, hmeets,
      hring, h.fb (x := F.ieStatOldBusy) (by decide), hmc, h.win]
  unfold Chip.windowChecks
  rw [hmem, h.domainRuns, h.pushMode]

end Chip.Waits

end Sys2Proof.Machine
end

section
/-! SUPPORT. Commands of the control protocol: from arrival to response (R339 to R342, R348, R349). -/

namespace Sys2Proof.Machine

variable (c : Chip)

/-! ### Arrival (R299, R339) -/

/-- A command that is heard on its path is counted as a frame where it came in one. -/
theorem Chip.scpCount_waits {m : ScpCmd} (h : c.pathUp m = true) : c.Waits (c.scpCount m) := by
  unfold Chip.scpCount
  split
  next => exact ⟨Chip.Alike.refl c _, rfl, rfl, rfl, rfl, rfl⟩
  next hp =>
    have htaken : c.netTaken m.net 2 = true := by
      have h2 : (m.path == Path.spi || c.netTaken m.net 2) = true := (Bool.and_eq_true_iff.1 h).2
      rw [hp] at h2
      exact h2
    have hup : c.f F.ulStatState = 4 := by
      unfold Chip.netTaken at htaken
      simp only [Bool.and_eq_true, beq_iff_eq] at htaken
      exact htaken.1.1.1.1
    unfold Chip.netCount
    rw [if_neg (by simp [hup]), if_pos htaken]
    refine ⟨?_, rfl, rfl, rfl, rfl, rfl⟩
    constructor
    · intro a _ ha
      exact Chip.rd_setF_ne _ _ fun h => ha (List.mem_singleton.2 h)
    all_goals rfl

/-- The device that has taken a command from its path. -/
def Chip.taken (c : Chip) (m : ScpCmd) : Chip :=
  match m.path with
  | .ul => (c.scpCount m).modScp fun s => { s with ulq := s.ulq ++ [m] }
  | .spi => (c.scpCount m).modScp fun s => { s with spi := some m }

theorem Chip.taken_waits {m : ScpCmd} (h : c.pathUp m = true) : c.Waits (c.taken m) := by
  obtain ⟨ha, ho, hw, hu, hs, hk⟩ := c.scpCount_waits h
  have same (g : ScpS → ScpS) : c.Alike ((c.scpCount m).modScp g) [R.ulRxFrm] :=
    ha.trans (by constructor <;> intros <;> rfl)
  unfold Chip.taken
  split
  · exact ⟨same _, ho, hw, hu, hs, hk⟩
  · exact ⟨same _, ho, hw, hu, hs, hk⟩

/-- A command that its path can execute at once is executed. -/
theorem Chip.scpArrive_ready {m : ScpCmd} {is : Nat → Bool} (h : c.Ready m) (his : is m.op = true) :
    c.scpArrive m is = (c.taken m).scpExec m := by
  obtain ⟨hup, hwhole, -, hreset, -, hul, hspi⟩ := h
  have hscp : (c.scpCount m).scp = c.scp := by
    unfold Chip.scpCount Chip.netCount
    split
    · rfl
    · split_ifs <;> rfl
  have hreset' : (c.scpCount m).resetPending m.path = false := by
    unfold Chip.resetPending at hreset ⊢
    rwa [hscp]
  unfold Chip.scpArrive Chip.taken
  simp only [hwhole, his, hup, hreset', Bool.not_true, Bool.or_self, Bool.false_eq_true, if_false]
  cases hp : m.path with
  | ul => simp [hscp, hul hp]
  | spi => simp [hscp, hspi hp]

/-! ### The response (R341, R346, R348) -/

/-- The count that a command answered with a status moves (R348). -/
def scpCounter (st : Nat) : Fld := if st = 0 then F.scpRxCmdCount else F.scpRejCount

theorem scpCounter_fits (st : Nat) : (scpCounter st).lo + (scpCounter st).width ≤ 32 := by
  unfold scpCounter
  split <;> decide

/-- A response takes from the device the boot epoch alone. -/
theorem Chip.scpResponse_congr {e d : Chip} (h : d.f F.scpEpochEpoch = e.f F.scpEpochEpoch) (m : ScpCmd) (st : Nat)
    (data : List Byte) : d.scpResponse m st data = e.scpResponse m st data := by
  unfold Chip.scpResponse
  rw [h]

/-- Keeping a response changes nothing but what is kept. -/
theorem Chip.scpKeep_eq (m : ScpCmd) (resp : List Byte) : ∃ g, c.scpKeep m resp = c.modScp g := by
  unfold Chip.scpKeep
  split
  · exact ⟨_, rfl⟩
  · exact ⟨id, rfl⟩

/-- A response that is given touches the outputs and the control protocol alone. -/
theorem Chip.scpAnswer_alike (m : ScpCmd) (bs : List Byte) (l : List Nat) : c.Alike (c.scpAnswer m bs) l := by
  unfold Chip.scpAnswer Chip.scpSend
  split
  · exact Chip.Alike.emit _ _ _
  · constructor <;> intros <;> rfl

/-- A new command runs, counts and is answered. -/
theorem Chip.scpExec_new {c e : Chip} {m : ScpCmd} {st : Nat} {data : List Byte} (hk : c.scpKept m = none)
    (hr : c.scpRun m = (e, st, data)) :
    (e.inc (scpCounter st)).Alike (c.scpExec m) [] ∧ e.Responds (c.scpExec m) m st data := by
  have hepoch : (e.inc (scpCounter st)).f F.scpEpochEpoch = e.f F.scpEpochEpoch := by
    unfold scpCounter
    split <;> exact Chip.f_setF_ne _ _ (by decide)
  obtain ⟨g, hg⟩ := (e.inc (scpCounter st)).scpKeep_eq m (e.scpResponse m st data)
  have hexec : c.scpExec m = ((e.inc (scpCounter st)).modScp g).scpAnswer m (e.scpResponse m st data) := by
    unfold Chip.scpExec
    rw [hk, hr, ← hg, ← Chip.scpResponse_congr hepoch]
    rfl
  rw [hexec]
  refine ⟨Chip.Alike.trans (b := (e.inc (scpCounter st)).modScp g) (by constructor <;> intros <;> rfl)
    (Chip.scpAnswer_alike _ _ _ _), ?_⟩
  unfold Chip.Responds Chip.scpAnswer Chip.scpSend
  cases m.path with
  | ul => rfl
  | spi => exact List.mem_append_right _ (List.mem_singleton_self _)

/-- What a status leaves of the two counts of R348. -/
theorem Chip.scpCounter_counts (st : Nat) :
    (c.inc (scpCounter st)).f F.scpRxCmdCount
        = (if st = 0 then satAdd F.scpRxCmdCount.width (c.f F.scpRxCmdCount) 1 else c.f F.scpRxCmdCount)
      ∧ (c.inc (scpCounter st)).f (scpCounter st) = satAdd (scpCounter st).width (c.f (scpCounter st)) 1 := by
  refine ⟨?_, c.f_inc_self (scpCounter_fits st)⟩
  unfold scpCounter
  split
  · exact c.f_inc_self (by decide)
  · exact Chip.f_setF_ne _ _ (by decide)

/-- How a command that its path executes at once shows: what its own operation leaves, the response, and the count of R348. -/
theorem Does.of_scp {s : State} {i : Instr} {m : ScpCmd} {is : Nat → Bool} {e : Chip} {st : Nat} {data : List Byte}
    {P : Chip → Prop} (hi : exec i s = run s fun c => c.scpArrive m is) (his : is m.op = true) (h : s.chip.Ready m)
    (hrun : (s.fresh.taken m).scpRun m = (e, st, data)) (hepoch : e.f F.scpEpochEpoch = s.chip.f F.scpEpochEpoch)
    (hp : ∀ t, s.chip.Responds t m st data → (e.inc (scpCounter st)).Alike t [] → P t) : Does i s P := by
  have hready : s.fresh.Ready m := h
  have hk : (s.fresh.taken m).scpKept m = none := by
    have hkept : s.fresh.scpKept m = none := h.2.2.2.2.1
    unfold Chip.scpKept at hkept ⊢
    rwa [(s.fresh.taken_waits hready.1).kept]
  obtain ⟨hal, hresp⟩ := Chip.scpExec_new hk hrun
  refine Does.of_run (fun c => c.scpArrive m is) hi (s.fresh.scpArrive_ready hready his) fun d hd ho hs => ?_
  refine hp d ?_ (hal.trans hd)
  unfold Chip.Responds at hresp ⊢
  rw [← Chip.scpResponse_congr hepoch, ho, hs]
  exact hresp

/-- The same for a command whose operation leaves the executed count alone. -/
theorem Does.of_scp_answered {s : State} {i : Instr} {m : ScpCmd} {is : Nat → Bool} {e : Chip} {st : Nat} {data : List Byte}
    {P : Chip → Prop} (hi : exec i s = run s fun c => c.scpArrive m is) (his : is m.op = true) (h : s.chip.Ready m)
    (hrun : (s.fresh.taken m).scpRun m = (e, st, data)) (hepoch : e.f F.scpEpochEpoch = s.chip.f F.scpEpochEpoch)
    (hcount : e.f F.scpRxCmdCount = s.chip.f F.scpRxCmdCount)
    (hp : ∀ t, s.chip.Answered t m st data → (e.inc (scpCounter st)).Alike t [] → P t) : Does i s P := by
  refine Does.of_scp hi his h hrun hepoch fun t hresp ht => hp t ⟨hresp, ?_⟩ ht
  rw [ht.f (by decide) (by simp), (e.scpCounter_counts st).1, hcount]

end Sys2Proof.Machine
end

section
/-! SUPPORT. The operations of the control protocol on registers and memory (R342 to R344, R420, R499). -/

namespace Sys2Proof.Machine

variable (c : Chip)

/-! ### The status of several rules (R499) -/

/-- Where no status that R499 orders is listed, one more rule decides alone. -/
theorem pickStatus_append_one {l : List Nat} (h : pickStatus l = 0) {st : Nat} (hst : statusRank st < 9) :
    pickStatus (l ++ [st]) = st := by
  unfold pickStatus at h ⊢
  rw [List.foldl_append, h]
  exact if_pos hst

/-! ### Where registers lie (R14, R33) -/

/-- No register lies at or above the end of the register maps. -/
theorem regAt_lt {a : Nat} {r : RegRow} {ix : List Nat} (h : regAt a = some (r, ix)) : a < 0x860000 := by
  by_contra hge
  have htab : tableAt a = [] := by
    unfold tableAt
    repeat rw [if_neg (by omega)]
  rw [regAt, htab] at h
  cases h

theorem regAt_not_mem {a : Nat} {r : RegRow} {ix : List Nat} (h : regAt a = some (r, ix)) : memAddr a = false := by
  have := regAt_lt h
  unfold memAddr sramBase sramEnd ddrBase
  simp
  omega

theorem ScpCmd.highAddr_eq_false {m : ScpCmd} (h : m.addr < 2 ^ 40) : m.highAddr = false := by
  unfold ScpCmd.highAddr
  simpa using h

theorem regAt_not_high {m : ScpCmd} {r : RegRow} {ix : List Nat} (h : regAt m.addr = some (r, ix)) : m.highAddr = false :=
  ScpCmd.highAddr_eq_false (lt_trans (regAt_lt h) (by decide))

/-! ### READ (R29, R342, R344) -/

/-- COUNT fits a READ of 24 bytes. -/
theorem ScpCmd.countBad_read {m : ScpCmd} (h : m.op = 0x01) (hl : m.len = 24) : m.countBad = false := by
  simp [ScpCmd.countBad, h, hl]

theorem Chip.scpRun_read {m : ScpCmd} (h : m.op = 0x01) (hl : m.tooLong = false) : c.scpRun m = c.scpRead m := by
  simp [Chip.scpRun, h, hl]

theorem Chip.scpRead_plain {m : ScpCmd} {r : RegRow} {ix : List Nat} (hop : m.op = 0x01) (hl : m.len = 24)
    (hc : m.count = 4) (hr : regAt m.addr = some (r, ix)) (hp : plainRead m.addr) (ha : c.AllowsRead m.src m.addr) :
    c.scpRead m = (c.wr m.addr (r.afterRead (c.rd m.addr)), 0, wordBytesLE (r.view (c.rd m.addr))) := by
  have ha' : pickStatus (c.accessChecks m.src m.addr false) = 0 := ha
  unfold Chip.scpRead
  simp only [regAt_not_mem hr, regAt_not_high hr, ScpCmd.countBad_read hop hl, hc, rej, Bool.false_eq_true, if_false, bne_self_eq_false,
    List.nil_append, ha', ne_eq, not_true_eq_false]
  rw [Chip.ctrlRead, ha', c.regView_plain hr hp]
  rfl

/-- A READ of a register whose clock domain stands returns 0 (R29). -/
theorem Chip.scpRead_stopped {m : ScpCmd} (hop : m.op = 0x01) (hl : m.len = 24) (hc : m.count = 4)
    (hm : memAddr m.addr = false) (hlo : m.addr < 2 ^ 40) (hd : c.domainRuns (domainOf m.addr) = false)
    (ha : pickStatus (c.accessChecks m.src m.addr false) = 0x04) : c.scpRead m = (c, 0x04, wordBytesLE 0#32) := by
  unfold Chip.scpRead
  simp only [hm, ScpCmd.highAddr_eq_false hlo, ScpCmd.countBad_read hop hl, hc, rej, Bool.false_eq_true, if_false, bne_self_eq_false,
    List.nil_append, ha, Chip.readRest, hd, and_self, if_true]
  rfl

theorem Chip.scpRead_stoppedMem {m : ScpCmd} (hop : m.op = 0x01) (hl : m.len = 24) (hm : memAddr m.addr = true)
    (hlo : m.addr < 2 ^ 40) (hd : c.domainRuns (domainOf m.addr) = false)
    (ha : pickStatus (c.windowChecks m.src m.addr m.count false) = 0x04) :
    c.scpRead m = (c, 0x04, List.replicate m.count 0#8) := by
  unfold Chip.scpRead
  simp only [hm, ScpCmd.highAddr_eq_false hlo, ScpCmd.countBad_read hop hl, rej, Bool.false_eq_true, if_false, if_true,
    List.nil_append, ha, Chip.readRest, hd, and_self]
  rfl

/-- Memory without words in error reads as its bytes. -/
theorem Chip.ctrlMemRead_clean {src : Src} {a n : Nat} (he : c.ecc = [])
    (ha : pickStatus (c.windowChecks src a n false) = 0) : c.ctrlMemRead src a n = (c, c.bytes a n, 0) := by
  unfold Chip.ctrlMemRead Chip.memGet Chip.eccRead Chip.eccIn
  simp [ha, he, Chip.each]

theorem Chip.scpRead_mem {m : ScpCmd} (hop : m.op = 0x01) (hl : m.len = 24) (hm : memAddr m.addr = true)
    (hlo : m.addr < 2 ^ 40) (he : c.ecc = []) (ha : pickStatus (c.windowChecks m.src m.addr m.count false) = 0) :
    c.scpRead m = (c, 0, c.bytes m.addr m.count) := by
  unfold Chip.scpRead
  simp only [hm, ScpCmd.highAddr_eq_false hlo, ScpCmd.countBad_read hop hl, rej, Bool.false_eq_true, if_false, if_true,
    List.nil_append, ha, ne_eq, not_true_eq_false, c.ctrlMemRead_clean he ha]

/-! ### WRITE (R343, R344) -/

theorem Chip.scpRun_write {m : ScpCmd} (h : m.op = 0x02) (hl : m.tooLong = false) : c.scpRun m = c.scpWrite m := by
  simp [Chip.scpRun, h, hl]

/-- A write of a plain register that no rule rejects stores, may spoil a verify and use the session, and answers 0. -/
theorem Chip.ctrlWrite_plain {p : Path} {key : List Byte} {a : Nat} {v : Word} {r : RegRow} {ix : List Nat}
    (hr : regAt a = some (r, ix)) (hp : plainReg a) (ha : c.Allows (.scp p key) a v) :
    ∃ e, c.ctrlWrite (.scp p key) a v = (e, 0)
      ∧ ((c.wr a (r.store (c.rd a) v)).spoils (spoilAddr a)).Alike e [R.scpSession] := by
  have ha' : pickStatus (c.writeChecks (.scp p key) a v) = 0 := ha
  unfold Chip.ctrlWrite
  rw [ha', c.regStore_plain _ v hr hp]
  dsimp only
  rw [if_neg (by simp)]
  split
  · exact ⟨_, rfl, Chip.useSession_alike _ p key _ (by simp)⟩
  · exact ⟨_, rfl, Chip.Alike.refl _ _⟩

/-- What such a write leaves readable: the register itself, and every other one but JOB_VSTAT and SCP_SESSION. -/
theorem Chip.ctrlWrite_plain_rd {p : Path} {key : List Byte} {a : Nat} {v : Word} {r : RegRow} {ix : List Nat}
    (hr : regAt a = some (r, ix)) (hp : plainReg a) (ha : c.Allows (.scp p key) a v) (hb : a / 0x1000 ≠ 8) :
    ∃ e, c.ctrlWrite (.scp p key) a v = (e, 0) ∧ e.rd a = r.store (c.rd a) v
      ∧ ∀ b, b ∉ [a, R.jobVstat, R.scpSession, R.scpSum] → e.rd b = c.rd b := by
  obtain ⟨e, he, hal⟩ := c.ctrlWrite_plain hr hp ha
  have hsum : a ≠ R.scpSum := by rintro rfl; exact hb rfl
  have hsess : a ∉ [R.scpSession] := by
    rw [List.mem_singleton]
    rintro rfl
    exact hb rfl
  refine ⟨e, he, ?_, fun b hb' => ?_⟩
  · rw [hal.rd a hsum hsess, Chip.spoils_rd_self _ hsum, Chip.rd_wr_self]
  · simp only [List.mem_cons, List.not_mem_nil, or_false, not_or] at hb'
    obtain ⟨h1, h2, h3, h4⟩ := hb'
    rw [hal.rd b h4 (by simpa using h3), (Chip.spoils_keeps _ _).1 b (by simpa using h2) h4, Chip.rd_wr_ne _ _ h1]

theorem Chip.scpWrite_reg {m : ScpCmd} {r : RegRow} {ix : List Nat} (hop : m.op = 0x02) (hl : m.len = 28)
    (hc : m.count = 4) (hr : regAt m.addr = some (r, ix))
    (ha : c.Allows m.src m.addr (BitVec.ofNat 32 (natOfLE m.data))) {e : Chip}
    (he : c.ctrlWrite m.src m.addr (BitVec.ofNat 32 (natOfLE m.data)) = (e, 0)) : c.scpWrite m = (e, 0, []) := by
  have ha' : pickStatus (c.writeChecks m.src m.addr (BitVec.ofNat 32 (natOfLE m.data))) = 0 := ha
  have hbad : m.countBad = false := by simp [ScpCmd.countBad, hop, hl, hc]
  unfold Chip.scpWrite
  simp only [regAt_not_mem hr, regAt_not_high hr, hbad, hc, rej, Bool.false_eq_true, if_false, bne_self_eq_false,
    List.nil_append, ha', ne_eq, not_true_eq_false, he]

/-- A write of memory without words in error stores its bytes; of the registers it moves JOB_WR_PEND alone. -/
theorem Chip.ctrlMemWrite_clean {src : Src} {a : Nat} {bs : List Byte} (he : c.ecc = [])
    (ha : pickStatus (c.windowChecks src a bs.length true) = 0) : ∃ e, c.ctrlMemWrite src a bs = (e, 0)
      ∧ (∀ b, e.byte b = (c.setBytes a bs).byte b) ∧ ∀ b, b ≠ R.jobWrPend → e.rd b = c.rd b := by
  have hput : c.memPut a bs = ({ c with ecc := [] } : Chip).setBytes a bs := by
    unfold Chip.memPut Chip.eccWrite Chip.eccIn
    simp [he, Chip.each]
  have hregs : ∀ (bs : List Byte) (d : Chip) (x : Nat), (d.setBytes x bs).regs = d.regs := fun bs => by
    induction bs with
    | nil => exact fun _ _ => rfl
    | cons b rest ih => exact fun d x => ih _ _
  have hbad : c.sramPartialBad a bs.length = false := by
    unfold Chip.sramPartialBad Chip.eccIn
    simp [he]
  have hsame : ({ c with ecc := [] } : Chip) = c := by rw [← he]
  refine ⟨(c.setBytes a bs).landLater (dmaOf src) a bs.length, ?_, fun b => ?_, fun b hb => ?_⟩
  · unfold Chip.ctrlMemWrite
    simp only [ha, ne_eq, not_true_eq_false, if_false, hbad, Bool.false_eq_true]
    rw [hput, hsame]
  · unfold Chip.landLater
    dsimp only
    split <;> rfl
  · unfold Chip.landLater
    dsimp only
    split
    · rw [Chip.rd_setF_ne _ _ hb]
      simp [Chip.rd, hregs]
    · simp [Chip.rd, hregs]

theorem Chip.scpWrite_mem {m : ScpCmd} (hop : m.op = 0x02) (hc : m.count = m.len - 24) (hm : memAddr m.addr = true)
    (hlo : m.addr < 2 ^ 40) (ha : pickStatus (c.windowChecks m.src m.addr m.count true) = 0) {e : Chip}
    (he : c.ctrlMemWrite m.src m.addr m.data = (e, 0)) : c.scpWrite m = (e, 0, []) := by
  have hbad : m.countBad = false := by simp [ScpCmd.countBad, hop, hc]
  unfold Chip.scpWrite
  simp only [hm, ScpCmd.highAddr_eq_false hlo, hbad, rej, Bool.false_eq_true, if_false, if_true, List.nil_append, ha,
    ne_eq, not_true_eq_false, he]

/-! ### WRITE_MASK (R343, R420) -/

theorem Chip.scpRun_mask {m : ScpCmd} (h : m.op = 0x03) (hl : m.tooLong = false) : c.scpRun m = c.scpMask m := by
  simp [Chip.scpRun, h, hl]

/-- The word that a WRITE_MASK makes of a register's current value. -/
def Chip.maskWord (c : Chip) (m : ScpCmd) : Word :=
  (c.maskBase m.addr &&& ~~~BitVec.ofNat 32 (natOfLE ((m.data.drop 4).take 4)))
    ||| (BitVec.ofNat 32 (natOfLE (m.data.take 4)) &&& BitVec.ofNat 32 (natOfLE ((m.data.drop 4).take 4)))

/-- A push mode takes no WRITE_MASK (R420). -/
theorem Chip.scpMask_push {m : ScpCmd} (hop : m.op = 0x03) (hl : m.len = 32) (hc : m.count = 8)
    (hm : memAddr m.addr = false) (hlo : m.addr < 2 ^ 40) (ha : c.Allows m.src m.addr (c.maskWord m))
    (hp : c.pushMode = true) : c.scpMask m = (c, 0x04, []) := by
  have hbad : m.countBad = false := by simp [ScpCmd.countBad, hop, hl, hc]
  have hst : pickStatus (c.writeChecks m.src m.addr (c.maskWord m) ++ [0x04]) = 0x04 :=
    pickStatus_append_one ha (by decide)
  unfold Chip.maskWord at hst
  unfold Chip.scpMask
  simp only [hm, ScpCmd.highAddr_eq_false hlo, hbad, rej, Bool.or_self, Bool.false_eq_true, if_false, if_true,
    List.nil_append, hp, hst]
  rfl

theorem Chip.scpMask_reg {m : ScpCmd} (hop : m.op = 0x03) (hl : m.len = 32) (hc : m.count = 8)
    (hm : memAddr m.addr = false) (hlo : m.addr < 2 ^ 40) (ha : c.Allows m.src m.addr (c.maskWord m))
    (hp : c.pushMode = false) {e : Chip} (he : c.ctrlWrite m.src m.addr (c.maskWord m) = (e, 0)) :
    c.scpMask m = (e, 0, []) := by
  have hbad : m.countBad = false := by simp [ScpCmd.countBad, hop, hl, hc]
  have ha' : pickStatus (c.writeChecks m.src m.addr (c.maskWord m)) = 0 := ha
  unfold Chip.maskWord at ha' he
  unfold Chip.scpMask
  simp only [hm, ScpCmd.highAddr_eq_false hlo, hbad, rej, Bool.or_self, Bool.false_eq_true, if_false,
    List.nil_append, List.append_nil, hp, ha', ne_eq, not_true_eq_false, he]

/-- The current value that WRITE_MASK starts from, in a device in which a command waits. -/
theorem Chip.Waits.maskWord {c d : Chip} (h : c.Waits d) {m : ScpCmd} (hb : m.addr / 0x1000 ≠ 8)
    (ha : m.addr ≠ R.ulRxFrm) : d.maskWord m = c.maskWord m := by
  have hrd : d.rd m.addr = c.rd m.addr := h.rd ⟨by intro h'; rw [h'] at hb; exact hb rfl, ha⟩
  have hopt : d.optWord = c.optWord := by unfold Chip.optWord; rw [h.alike.opt]
  have hfe : d.fe = c.fe := by unfold Chip.fe; rw [h.alike.fes]
  have hbank (n : Nat) : d.f (F.feTblAddrBank n) = c.f (F.feTblAddrBank n) :=
    h.f (by simp only [F.feTblAddrBank, R.feTblAddr, R.scpSum, R.ulRxFrm]; omega)
  have hidx (n : Nat) : d.f (F.feTblAddrIndex n) = c.f (F.feTblAddrIndex n) :=
    h.f (by simp only [F.feTblAddrIndex, R.feTblAddr, R.scpSum, R.ulRxFrm]; omega)
  unfold Chip.maskWord Chip.maskBase
  simp only [hrd, hopt, hfe, hbank, hidx, h.f (x := F.optAddrWord) (by decide)]

/-! ### PING (R342) -/

theorem Chip.scpRun_ping {m : ScpCmd} (hop : m.op = 0x04) (hl : m.len = 24) (ha : m.addr = 0) (hc : m.count = 0)
    (hlong : m.tooLong = false) (hp : c.pushMode = false) : c.scpRun m = (c, 0, []) := by
  have hbad : m.countBad = false := by simp [ScpCmd.countBad, hop, hl]
  have hst : c.plainChecks m true = [] := by simp [Chip.plainChecks, ha, hc, hbad, hp, rej]
  simp only [Chip.scpRun, hop, hlong, Bool.false_eq_true, if_false, Chip.scpPing, hst]
  rfl

theorem Chip.scpRun_unknown {m : ScpCmd} (h : opKnown m.op = false) (hl : m.tooLong = false) :
    c.scpRun m = (c, 0x01, []) := by
  unfold opKnown at h
  simp only [List.contains_eq_mem, List.mem_cons, List.not_mem_nil, or_false, decide_eq_false_iff_not, not_or] at h
  unfold Chip.scpRun
  rw [hl, if_neg (by simp)]
  split <;> simp_all

end Sys2Proof.Machine
end

section
/-! SUPPORT. Commands of the control protocol (R339 to R344, R347, R420), clause by clause. -/

namespace Sys2Proof.Machine

theorem scpBadCommand_counted {s : State} {m : ScpCmd} (hup : s.chip.pathUp m = true) (hbad : m.broken = true) :
    Does (.scpBadCommand m) s fun t => t.out = [] ∧ s.chip.Keeps t [R.scpRxBad, R.ulRxFrm]
      ∧ t.f F.scpRxBadCount = satAdd F.scpRxBadCount.width (s.chip.f F.scpRxBadCount) 1 := by
  have hw := s.fresh.scpCount_waits (m := m) hup
  have hup' : s.fresh.pathUp m = true := hup
  have heff : s.fresh.scpBad m = (s.fresh.scpCount m).inc F.scpRxBadCount := by
    unfold Chip.scpBad
    rw [hbad, if_neg (by simp), if_pos hup']
  refine Does.of_run (fun c => c.scpBad m) rfl heff fun d hd ho _ => ⟨?_, ?_, ?_⟩
  · exact ho.trans hw.out
  · exact ((s.keeps_fresh _).trans ((hw.keeps.mono (by simp)).inc (by decide))).settled hd
  · rw [hd.f (by decide) (by simp), Chip.f_inc_self _ (by decide), hw.f (by decide)]
    rfl

/-- SCP_EPOCH has no field that a read clears. -/
theorem scpEpoch_row : (regAt R.scpEpoch).map (fun p => p.1.mask .rc) = some 0#32 := by decide +kernel

theorem RegRow.afterRead_no_rc {r : RegRow} (h : r.mask .rc = 0#32) (w : Word) : r.afterRead w = w := by
  rw [RegRow.afterRead, h, BitVec.not_zero, BitVec.and_allOnes]

section Ready

variable {s : State} {m : ScpCmd} (h : s.chip.Ready m)
include h

theorem Chip.Ready.waits : s.fresh.Waits (s.fresh.taken m) := s.fresh.taken_waits h.1

theorem Chip.Ready.short : m.tooLong = false := h.2.2.1

theorem Chip.Ready.epoch : (s.fresh.taken m).f F.scpEpochEpoch = s.chip.f F.scpEpochEpoch := h.waits.f (by decide)

theorem Chip.Ready.count : (s.fresh.taken m).f F.scpRxCmdCount = s.chip.f F.scpRxCmdCount := h.waits.f (by decide)

theorem scpUnknownOpcode_answered (hop : opKnown m.op = false) : Does (.scpUnknownOpcode m) s fun t =>
    s.chip.Answered t m 0x01 []
      ∧ t.f F.scpRejCount = satAdd F.scpRejCount.width (s.chip.f F.scpRejCount) 1 := by
  refine Does.of_scp_answered (is := fun op => !opKnown op) rfl (by simp [hop]) h (Chip.scpRun_unknown _ hop h.short)
    h.epoch h.count fun t hans ht => ⟨hans, ?_⟩
  rw [ht.f (by decide) (by simp), show scpCounter 0x01 = F.scpRejCount from rfl, Chip.f_inc_self _ (by decide),
    h.waits.f (by decide)]
  rfl

theorem scpRead_register {r : RegRow} {ix : List Nat} (hop : m.op = 0x01) (hl : m.len = 24) (hc : m.count = 4)
    (hp : plainRead m.addr) (hne : m.addr ∉ [R.scpSum, R.ulRxFrm]) (ha : s.chip.AllowsRead m.src m.addr)
    (hr : regAt m.addr = some (r, ix)) :
    Does (.scpRead m []) s fun t => s.chip.Responds t m 0 (wordBytesLE (r.view (s.chip.rd m.addr))) := by
  have hw := h.waits
  have ha' : (s.fresh.taken m).AllowsRead m.src m.addr := by
    unfold Chip.AllowsRead
    rw [hw.accessChecks]
    exact ha
  have hrd : (s.fresh.taken m).rd m.addr = s.chip.rd m.addr := hw.rd (by simpa using hne)
  have hrun := (Chip.scpRun_read (s.fresh.taken m) hop h.short).trans (Chip.scpRead_plain _ hop hl hc hr hp ha')
  rw [hrd] at hrun
  have hepoch : ((s.fresh.taken m).wr m.addr (r.afterRead (s.chip.rd m.addr))).f F.scpEpochEpoch
      = s.chip.f F.scpEpochEpoch := by
    by_cases hE : m.addr = R.scpEpoch
    · have hmask : r.mask .rc = 0#32 := by
        have := scpEpoch_row
        rw [← hE, hr] at this
        simpa using this
      rw [Chip.f_eq, Chip.f_eq, show F.scpEpochEpoch.addr = m.addr from hE.symm, Chip.rd_wr_self,
        RegRow.afterRead_no_rc hmask]
    · rw [Chip.f_wr_ne _ _ (Ne.symm hE), h.epoch]
  exact Does.of_scp (is := (· == 0x01)) rfl (by simp [hop]) h hrun hepoch fun t hresp _ => hresp

theorem scpRead_stopped (hop : m.op = 0x01) (hl : m.len = 24) (hc : m.count = 4) (hm : memAddr m.addr = false)
    (hlo : m.addr < 2 ^ 40) (hd : s.chip.domainRuns (domainOf m.addr) = false)
    (ha : pickStatus (s.chip.accessChecks m.src m.addr false) = 0x04) :
    Does (.scpRead m []) s fun t => s.chip.Answered t m 0x04 (wordBytesLE 0#32) := by
  have hrun := (Chip.scpRun_read (s.fresh.taken m) hop h.short).trans (Chip.scpRead_stopped _ hop hl hc hm hlo
    ((h.waits.domainRuns _).trans hd) ((congrArg pickStatus (h.waits.accessChecks _ _ _)).trans ha))
  exact Does.of_scp_answered (is := (· == 0x01)) rfl (by simp [hop]) h hrun h.epoch h.count fun t hans _ => hans

theorem scpRead_stoppedMem (hop : m.op = 0x01) (hl : m.len = 24) (hm : memAddr m.addr = true) (hlo : m.addr < 2 ^ 40)
    (hd : s.chip.domainRuns (domainOf m.addr) = false)
    (ha : pickStatus (s.chip.windowChecks m.src m.addr m.count false) = 0x04) :
    Does (.scpRead m []) s fun t => s.chip.Answered t m 0x04 (List.replicate m.count 0#8) := by
  have hrun := (Chip.scpRun_read (s.fresh.taken m) hop h.short).trans (Chip.scpRead_stoppedMem _ hop hl hm hlo
    ((h.waits.domainRuns _).trans hd) ((congrArg pickStatus (h.waits.windowChecks _ _ _ _)).trans ha))
  exact Does.of_scp_answered (is := (· == 0x01)) rfl (by simp [hop]) h hrun h.epoch h.count fun t hans _ => hans

theorem scpRead_memory (hop : m.op = 0x01) (hl : m.len = 24) (hm : memAddr m.addr = true) (hlo : m.addr < 2 ^ 40)
    (he : s.chip.ecc = []) (ha : pickStatus (s.chip.windowChecks m.src m.addr m.count false) = 0) :
    Does (.scpRead m []) s fun t => s.chip.Answered t m 0 (s.chip.bytes m.addr m.count)
      ∧ ∀ a, t.byte a = s.chip.byte a := by
  have hbytes : (s.fresh.taken m).bytes m.addr m.count = s.chip.bytes m.addr m.count :=
    List.map_congr_left fun i _ => h.waits.byte (m.addr + i)
  have hrun := (Chip.scpRun_read (s.fresh.taken m) hop h.short).trans (Chip.scpRead_mem _ hop hl hm hlo
    (h.waits.alike.ecc.trans he) ((congrArg pickStatus (h.waits.windowChecks _ _ _ _)).trans ha))
  rw [hbytes] at hrun
  exact Does.of_scp_answered (is := (· == 0x01)) rfl (by simp [hop]) h hrun h.epoch h.count fun t hans ht =>
    ⟨hans, fun a => (ht.byte a).trans (h.waits.byte a)⟩

/-- A write through the control protocol that stores shows in its register, the count and the response. -/
theorem scpStored {i : Instr} {is : Nat → Bool} {e : Chip} {r : RegRow} {v : Word}
    (hi : exec i s = run s fun c => c.scpArrive m is) (his : is m.op = true) (hb : m.addr / 0x1000 ≠ 8)
    (hne : m.addr ≠ R.ulRxFrm) (hrun : (s.fresh.taken m).scpRun m = (e, 0, []))
    (hself : e.rd m.addr = r.store ((s.fresh.taken m).rd m.addr) v)
    (hrest : ∀ b, b ∉ [m.addr, R.jobVstat, R.scpSession, R.scpSum] → e.rd b = (s.fresh.taken m).rd b) :
    Does i s fun t => s.chip.Answered t m 0 [] ∧ t.rd m.addr = r.store (s.chip.rd m.addr) v := by
  have hscp (b : Nat) (h8 : b / 0x1000 = 8) : m.addr ≠ b := by
    rintro rfl
    exact hb h8
  have hf (x : Fld) (h8 : x.addr / 0x1000 = 8) (hx : x.addr ∉ [R.jobVstat, R.scpSession, R.scpSum]) :
      e.f x = (s.fresh.taken m).f x := by
    rw [Chip.f_eq, Chip.f_eq, hrest]
    rw [List.mem_cons, not_or]
    exact ⟨(hscp _ h8).symm, hx⟩
  refine Does.of_scp_answered hi his h hrun ((hf _ (by decide) (by decide)).trans h.epoch)
    ((hf _ (by decide) (by decide)).trans h.count) fun t hans ht => ⟨hans, ?_⟩
  have hrd : (s.fresh.taken m).rd m.addr = s.chip.rd m.addr := h.waits.rd ⟨hscp _ (by decide), hne⟩
  rw [ht.rd _ (hscp _ (by decide)) (by simp), ← hrd, ← hself]
  exact Chip.rd_setF_ne _ _ (hscp F.scpRxCmdCount.addr (by decide))

theorem scpWrite_register {r : RegRow} {ix : List Nat} (hop : m.op = 0x02) (hl : m.len = 28) (hc : m.count = 4)
    (hp : plainReg m.addr) (hb : m.addr / 0x1000 ≠ 8) (hne : m.addr ≠ R.ulRxFrm)
    (ha : s.chip.Allows m.src m.addr (BitVec.ofNat 32 (natOfLE m.data))) (hr : regAt m.addr = some (r, ix)) :
    Does (.scpWrite m []) s fun t => s.chip.Answered t m 0 []
      ∧ t.rd m.addr = r.store (s.chip.rd m.addr) (BitVec.ofNat 32 (natOfLE m.data)) := by
  have ha' := h.waits.allows (State.fresh_allows ha)
  obtain ⟨e, he, hself, hrest⟩ := Chip.ctrlWrite_plain_rd _ hr hp ha' hb
  have hrun := (Chip.scpRun_write (s.fresh.taken m) hop h.short).trans (Chip.scpWrite_reg _ hop hl hc hr ha' he)
  exact scpStored h (is := (· == 0x02)) rfl (by simp [hop]) hb hne hrun hself hrest

theorem scpWrite_memory (hop : m.op = 0x02) (hc : m.count = m.len - 24) (hlen : m.data.length = m.count)
    (hm : memAddr m.addr = true) (hlo : m.addr < 2 ^ 40) (he : s.chip.ecc = [])
    (ha : pickStatus (s.chip.windowChecks m.src m.addr m.count true) = 0) :
    Does (.scpWrite m []) s fun t => s.chip.Answered t m 0 []
      ∧ (∀ i < m.count, t.byte (m.addr + i) = m.data.getD i 0#8)
      ∧ ∀ a, ¬(m.addr ≤ a ∧ a < m.addr + m.count) → t.byte a = s.chip.byte a := by
  have ha' : pickStatus ((s.fresh.taken m).windowChecks m.src m.addr m.count true) = 0 :=
    (congrArg pickStatus (h.waits.windowChecks _ _ _ _)).trans ha
  obtain ⟨e, hw, hbyte, hrest⟩ := Chip.ctrlMemWrite_clean _ (h.waits.alike.ecc.trans he) (bs := m.data)
    (by rw [hlen]; exact ha')
  have hrun := (Chip.scpRun_write (s.fresh.taken m) hop h.short).trans (Chip.scpWrite_mem _ hop hc hm hlo ha' hw)
  have hf (x : Fld) (hx : x.addr ≠ R.jobWrPend) : e.f x = (s.fresh.taken m).f x := by
    rw [Chip.f_eq, Chip.f_eq, hrest _ hx]
  refine Does.of_scp_answered (is := (· == 0x02)) rfl (by simp [hop]) h hrun ((hf _ (by decide)).trans h.epoch)
    ((hf _ (by decide)).trans h.count) fun t hans ht => ?_
  have hb (b : Nat) : t.byte b = if m.addr ≤ b ∧ b < m.addr + m.data.length then m.data.getD (b - m.addr) 0#8
      else s.chip.byte b := by
    rw [ht.byte, show (e.inc (scpCounter 0)).byte b = e.byte b from rfl, hbyte, Chip.byte_setBytes, h.waits.byte]
    rfl
  refine ⟨hans, fun i hi => ?_, fun a hout => ?_⟩
  · rw [hb, if_pos (by omega), Nat.add_sub_cancel_left]
  · rw [hb, if_neg (by omega)]

theorem scpWriteMask_push (hop : m.op = 0x03) (hl : m.len = 32) (hc : m.count = 8) (hb : m.addr / 0x1000 ≠ 8)
    (hne : m.addr ≠ R.ulRxFrm) (hm : memAddr m.addr = false) (hlo : m.addr < 2 ^ 40)
    (ha : s.chip.Allows m.src m.addr (s.chip.maskWord m)) (hp : s.chip.pushMode = true) :
    Does (.scpWriteMask m) s fun t => s.chip.Answered t m 0x04 [] := by
  have hword : (s.fresh.taken m).maskWord m = s.chip.maskWord m := h.waits.maskWord hb hne
  have ha' : (s.fresh.taken m).Allows m.src m.addr ((s.fresh.taken m).maskWord m) := by
    rw [hword]
    exact h.waits.allows (State.fresh_allows ha)
  have hrun := (Chip.scpRun_mask (s.fresh.taken m) hop h.short).trans
    (Chip.scpMask_push _ hop hl hc hm hlo ha' (h.waits.pushMode.trans hp))
  exact Does.of_scp_answered (is := (· == 0x03)) rfl (by simp [hop]) h hrun h.epoch h.count fun t hans _ => hans

theorem scpWriteMask_register {r : RegRow} {ix : List Nat} (hop : m.op = 0x03) (hl : m.len = 32) (hc : m.count = 8)
    (hb : m.addr / 0x1000 ≠ 8) (hne : m.addr ≠ R.ulRxFrm) (hm : memAddr m.addr = false) (hlo : m.addr < 2 ^ 40)
    (ha : s.chip.Allows m.src m.addr (s.chip.maskWord m)) (hp : s.chip.pushMode = false) (hplain : plainReg m.addr)
    (hr : regAt m.addr = some (r, ix)) :
    Does (.scpWriteMask m) s fun t => s.chip.Answered t m 0 []
      ∧ t.rd m.addr = r.store (s.chip.rd m.addr) (s.chip.maskWord m) := by
  have hword : (s.fresh.taken m).maskWord m = s.chip.maskWord m := h.waits.maskWord hb hne
  have ha' := h.waits.allows (State.fresh_allows ha)
  rw [← hword] at ha' ⊢
  obtain ⟨e, he, hself, hrest⟩ := Chip.ctrlWrite_plain_rd _ hr hplain ha' hb
  have hrun := (Chip.scpRun_mask (s.fresh.taken m) hop h.short).trans
    (Chip.scpMask_reg _ hop hl hc hm hlo ha' (h.waits.pushMode.trans hp) he)
  exact scpStored h (is := (· == 0x03)) rfl (by simp [hop]) hb hne hrun hself hrest

theorem scpPing_answered (hop : m.op = 0x04) (hl : m.len = 24) (ha : m.addr = 0) (hc : m.count = 0)
    (hp : s.chip.pushMode = false) :
    Does (.scpPing m) s fun t => s.chip.Answered t m 0 [] ∧ s.chip.Keeps t [R.scpRxCmd, R.ulRxFrm] := by
  have hrun := Chip.scpRun_ping (s.fresh.taken m) hop hl ha hc h.short (h.waits.pushMode.trans hp)
  refine Does.of_scp_answered (is := (· == 0x04)) rfl (by simp [hop]) h hrun h.epoch h.count fun t hans ht => ⟨hans, ?_⟩
  exact ((s.keeps_fresh _).trans ((h.waits.keeps.mono (by simp)).inc (by decide))).settled ht

end Ready

/-- A command that meets a busy SPI path is answered 0x05 (R339). -/
theorem scpPing_busy {s : State} {m : ScpCmd} (hup : s.chip.pathUp m = true) (hwhole : m.broken = false)
    (hshort : m.tooLong = false) (hreset : s.chip.resetPending m.path = false) (hpath : m.path = .spi)
    (hbusy : s.chip.scp.spi ≠ none) (hop : m.op = 0x04) (hl : m.len = 24) (ha : m.addr = 0) (hc : m.count = 0)
    (hp : s.chip.pushMode = false) :
    Does (.scpPing m) s fun t => t.out = [.spi (s.chip.scpResponse m 0x05 [])] ∧ s.chip.Keeps t [R.scpRej] := by
  have hcount : s.fresh.scpCount m = s.fresh := by
    unfold Chip.scpCount
    rw [hpath]
  have heff : s.fresh.scpArrive m (· == 0x04)
      = (s.fresh.inc F.scpRejCount).emit (.spi (s.fresh.scpResponse m 0x05 [])) := by
    have hup' : s.fresh.pathUp m = true := hup
    have hreset' : s.fresh.resetPending .spi = false := hpath ▸ hreset
    have hbusy' : s.fresh.scp.spi.isSome = true := Option.isSome_iff_ne_none.2 hbusy
    unfold Chip.scpArrive
    simp only [hwhole, hop, hup', hcount, hpath, hreset', hbusy', beq_self_eq_true, Bool.not_true, Bool.or_self,
      Bool.false_eq_true, if_false, if_true]
    unfold Chip.scpBusy Chip.scpSend
    rw [Chip.scpRun_ping s.fresh hop hl ha hc hshort hp, hpath]
    rfl
  refine Does.of_run (fun c => c.scpArrive m (· == 0x04)) rfl heff fun d hd ho _ => ⟨ho, ?_⟩
  exact (((s.keeps_fresh _).inc (List.mem_singleton_self _)).emit _).settled hd

/-- Settles O25: each clause is an operation of a command in a device in which the command waits. -/
theorem scpCommands : Obligations.ScpCommands := by
  intro s m
  refine ⟨scpBadCommand_counted, fun h => ⟨scpUnknownOpcode_answered h,
    fun hop hl hc hp hne ha r ix hr => scpRead_register h hop hl hc hp hne ha hr, scpRead_stopped h, scpRead_stoppedMem h,
    scpRead_memory h, fun hop hl hc hp hb hne ha r ix hr => scpWrite_register h hop hl hc hp hb hne ha hr,
    scpWrite_memory h, fun hop hl hc hb hne hm hlo ha => ⟨scpWriteMask_push h hop hl hc hb hne hm hlo ha,
      fun hp hplain r ix hr => scpWriteMask_register h hop hl hc hb hne hm hlo ha hp hplain hr⟩,
    scpPing_answered h⟩, ?_⟩
  exact fun hup hwhole hshort hreset _ => scpPing_busy hup hwhole hshort hreset

end Sys2Proof.Machine
end

section
/-! SUPPORT. What settling keeps: CLK_EVT and the queue of the uplink, through the operations on the state (R432, R433). -/

namespace Sys2Proof.Machine

/-! The addresses of registers of an array lie past CLK_EVT, whatever the index. -/

theorem add_ne_of_lt {a b k : Nat} (h : k < a) : a + b ≠ k := by omega

theorem add_add_ne_of_lt {a b d k : Nat} (h : k < a) : a + b + d ≠ k := by omega

/-- CLK_EVT and the queue of commands of the uplink. Of all that follows a command, only the reset of an L5 report and the end of
the uplink's session can change them, and both leave the queue empty. -/
def Chip.kept (c : Chip) : Word × List ScpCmd := (c.rd R.clkEvt, c.scp.ulq)

/-- A change of parts of the device other than the registers and the control protocol. -/
theorem Chip.kept_mk (c : Chip) (mem ecc opt win mcs cvus eqs cmt lanes ports links fes stc ie shp ssp job orb fc pair
    dma clk boot jtag retrain log headWrites reports defers out freeCtr) :
    Chip.kept ⟨c.regs, mem, ecc, opt, win, mcs, cvus, eqs, cmt, lanes, ports, links, fes, stc, ie, shp, ssp, job, orb, fc,
      pair, dma, clk, boot, c.scp, jtag, retrain, log, headWrites, reports, defers, out, freeCtr⟩ = c.kept := by rfl

@[simp] theorem Chip.kept_ite (p : Prop) {_ : Decidable p} (a b : Chip) :
    (if p then a else b).kept = if p then a.kept else b.kept := apply_ite Chip.kept p a b

/-! A write keeps them where its address is not 0x10004, that of CLK_EVT: a literal, which `simp` compares. -/

@[simp] theorem Chip.wr_kept (c : Chip) (a : Nat) (v : Word) :
    (c.wr a v).kept = if a = 0x10004 then ((c.wr a v).rd R.clkEvt, c.scp.ulq) else c.kept := by
  split
  next => rfl
  next h => exact congrArg (·, c.scp.ulq) (Chip.rd_wr_ne c v (Ne.symm h))

@[simp] theorem Chip.setF_kept (c : Chip) (x : Fld) (v : Nat) :
    (c.setF x v).kept = if x.addr = 0x10004 then ((c.setF x v).rd R.clkEvt, c.scp.ulq) else c.kept :=
  c.wr_kept ..

theorem Chip.setF_far (c : Chip) {x : Fld} (v : Nat) (h : x.addr ≠ 0x10004) : (c.setF x v).kept = c.kept := by
  rw [Chip.setF_kept, if_neg h]

@[simp] theorem Chip.setFb_kept (c : Chip) (x : Fld) (b : Bool) :
    (c.setFb x b).kept = if x.addr = 0x10004 then ((c.setFb x b).rd R.clkEvt, c.scp.ulq) else c.kept :=
  c.wr_kept ..

@[simp] theorem Chip.ev_kept (c : Chip) (x : Fld) :
    (c.ev x).kept = if x.addr = 0x10004 then ((c.ev x).rd R.clkEvt, c.scp.ulq) else c.kept :=
  c.wr_kept ..

@[simp] theorem Chip.add_kept (c : Chip) (x : Fld) (n : Nat) :
    (c.add x n).kept = if x.addr = 0x10004 then ((c.add x n).rd R.clkEvt, c.scp.ulq) else c.kept :=
  c.wr_kept ..

@[simp] theorem Chip.inc_kept (c : Chip) (x : Fld) :
    (c.inc x).kept = if x.addr = 0x10004 then ((c.inc x).rd R.clkEvt, c.scp.ulq) else c.kept :=
  c.wr_kept ..

/-- What no step of a fold changes, the fold does not change. -/
theorem foldl_keeps {α β γ : Type} {f : β → α → β} (g : β → γ) (h : ∀ b a, g (f b a) = g b) (l : List α)
    (b : β) : g (l.foldl f b) = g b := by
  induction l generalizing b with
  | nil => rfl
  | cons a l ih => exact (ih (f b a)).trans (h b a)

@[simp] theorem Chip.each_kept {α : Type} {g : Chip → α → Chip} (h : ∀ c x, (g c x).kept = c.kept) (l : List α)
    (c : Chip) : (c.each l g).kept = c.kept := foldl_keeps Chip.kept h l c

@[simp] theorem Chip.when_kept {g : Chip → Chip} (h : ∀ c, (g c).kept = c.kept) (b : Bool) (c : Chip) :
    (c.when b g).kept = c.kept := by
  cases b with
  | false => rfl
  | true => exact h c

/-! ### Operations on the state, the option store and the log -/

@[simp] theorem Chip.report_kept (c : Chip) (src inst : Nat) : (c.report src inst).kept = c.kept :=
  Chip.kept_mk ..

@[simp] theorem Chip.reportLow_kept (c : Chip) (src inst : Nat) : (c.reportLow src inst).kept = c.kept :=
  Chip.kept_mk ..

@[simp] theorem Chip.emit_kept (c : Chip) (o : Out) : (c.emit o).kept = c.kept :=
  Chip.kept_mk ..

@[simp] theorem Chip.fresh_kept (c : Chip) (k : Nat) : (c.fresh k).2.kept = c.kept :=
  Chip.kept_mk ..

@[simp] theorem Chip.setByte_kept (c : Chip) (a : Nat) (b : Byte) : (c.setByte a b).kept = c.kept :=
  Chip.kept_mk ..

@[simp] theorem Chip.setBytes_kept (c : Chip) (a : Nat) (bs : List Byte) : (c.setBytes a bs).kept = c.kept := by
  induction bs generalizing c a with
  | nil => rfl
  | cons b bs ih => exact (ih ..).trans (Chip.setByte_kept ..)

@[simp] theorem Chip.progWord_kept (c : Chip) (i : Nat) (w : Word) : (c.progWord i w).kept = c.kept := by
  simp only [Chip.progWord, Chip.kept_mk]
  simp [F.optWrCntCount, R.optWrCnt]

@[simp] theorem Chip.setOptWord_kept (c : Chip) (i : Nat) (w : Word) : (c.setOptWord i w).kept = c.kept := by
  simp only [Chip.setOptWord, Chip.kept_mk]
  simp [F.optStatBusy, R.optStat]

@[simp] theorem Chip.noteStale_kept (c : Chip) (ids : List Nat) : (c.noteStale ids).kept = c.kept := by
  simp [Chip.noteStale, F.cmtEvtLogStale, R.cmtEvt]

@[simp] theorem Chip.modLog_kept (c : Chip) (id : Nat) (g : LogEntry → LogEntry) : (c.modLog id g).kept = c.kept :=
  Chip.kept_mk ..

end Sys2Proof.Machine
end

section
/-! SUPPORT. CLK_EVT and the queue of the uplink, through memories, front end, outputs, queues and stitcher. -/

namespace Sys2Proof.Machine

/-! ### Memories and the DDR5 channels -/

@[simp] theorem Chip.modMc_kept (c : Chip) (n : Nat) (g : McS → McS) : (c.modMc n g).kept = c.kept :=
  Chip.kept_mk ..

@[simp] theorem Chip.eccMeet_kept (c : Chip) (word : Nat) (double : Bool) : (c.eccMeet word double).kept = c.kept := by
  simp only [Chip.eccMeet]
  split_ifs <;> simp [F.mcCorrCount, R.mcCorr, F.mcUeHiAddr, R.mcUeHi, F.mcUeLoAddr, R.mcUeLo, F.mcUncorrCount, R.mcUncorr,
    add_add_ne_of_lt]

@[simp] theorem Chip.eccWrite_kept (c : Chip) (a n : Nat) : (c.eccWrite a n).kept = c.kept := by
  simp [Chip.eccWrite, ↓Chip.kept_mk]

@[simp] theorem Chip.memPut_kept (c : Chip) (a : Nat) (bs : List Byte) : (c.memPut a bs).kept = c.kept := by
  simp [Chip.memPut]

@[simp] theorem Chip.mcRowRepair_kept (c : Chip) (n : Nat) : (c.mcRowRepair n).1.kept = c.kept := by
  unfold Chip.mcRowRepair
  split <;> simp

/-! ### The front end -/

@[simp] theorem Chip.modFe_kept (c : Chip) (n : Nat) (g : FeS → FeS) : (c.modFe n g).kept = c.kept :=
  Chip.kept_mk ..

@[simp] theorem Chip.feExpect_kept (c : Chip) (n trig tx bank : Nat) : (c.feExpect n trig tx bank).kept = c.kept := by
  simp [Chip.feExpect]

@[simp] theorem Chip.feNotSent_kept (c : Chip) (n trig : Nat) : (c.feNotSent n trig).kept = c.kept := by
  simp [Chip.feNotSent]

@[simp] theorem Chip.portOffClosed_kept (c : Chip) (n trig : Nat) : (c.portOffClosed n trig).kept = c.kept := by
  simp only [Chip.portOffClosed]
  split
  next => exact (Chip.kept_mk ..).trans (by simp [F.jobEvtPortOff, R.jobEvt, F.linkCtrlExpected, R.linkCtrl, add_ne_of_lt])
  next => rfl

@[simp] theorem Chip.feCloseAt_kept (c : Chip) (n k : Nat) : (c.feCloseAt n k).kept = c.kept := by
  simp only [Chip.feCloseAt]
  split
  next => rfl
  next =>
    simp only [Chip.portOffClosed_kept, Chip.kept_ite, Chip.report_kept, ite_self]
    split <;> simp [F.feLnoGapCount, R.feLnoGap, F.feMissCntCount, R.feMissCnt, F.fePartCntCount, R.fePartCnt,
      add_add_ne_of_lt]

@[simp] theorem Chip.feClose_kept (c : Chip) (n : Nat) : (c.feClose n).kept = c.kept := by
  simp [Chip.feClose]

@[simp] theorem Chip.feCloseN_kept (c : Chip) (n k : Nat) : (c.feCloseN n k).kept = c.kept := by
  induction k generalizing c with
  | zero => rfl
  | succ k ih => exact (ih _).trans (Chip.feClose_kept ..)

@[simp] theorem Chip.fePortLoss_kept (c : Chip) (n : Nat) : (c.fePortLoss n).kept = c.kept := by
  simp [Chip.fePortLoss]

@[simp] theorem Chip.feDeadline_kept (c : Chip) (n : Nat) : (c.feDeadline n).kept = c.kept := by
  refine Chip.each_kept (fun c t => ?_) _ _
  split <;> simp

@[simp] theorem Chip.feRelease_kept (c : Chip) (n : Nat) : (c.feRelease n).kept = c.kept := by
  simp [Chip.feRelease, F.feStatOldBusy, R.feStat, add_ne_of_lt]

/-! ### The outputs of Comet -/

@[simp] theorem Chip.modCmt_kept (c : Chip) (g : CmtS → CmtS) : (c.modCmt g).kept = c.kept :=
  Chip.kept_mk ..

@[simp] theorem Chip.modOut_kept (c : Chip) (k : Nat) (g : OutS → OutS) : (c.modOut k g).kept = c.kept := by
  simp [Chip.modOut]

@[simp] theorem Chip.outsUpdate_kept (c : Chip) : c.outsUpdate.kept = c.kept := by
  simp [Chip.outsUpdate, F.cmtStatOut, R.cmtStat]

@[simp] theorem Chip.addWindow_kept (c : Chip) (k : Nat) (w : OutWin) : (c.addWindow k w).kept = c.kept := by
  simp [Chip.addWindow, F.cmtPoMergeCount, R.cmtPoMerge]

@[simp] theorem Chip.recordWindow_kept (c : Chip) (k : Nat) (enc0 enc1 : Int) : (c.recordWindow k enc0 enc1).kept = c.kept := by
  simp [Chip.recordWindow, F.cmtEvtPoLate, R.cmtEvt, F.cmtEvtPoMiss, F.cmtPoLateCount, R.cmtPoLate, F.cmtPoMissCount,
    R.cmtPoMiss]

@[simp] theorem Chip.cometRecord_kept (c : Chip) (reject mark : Bool) (enc0 enc1 : Int) :
    (c.cometRecord reject mark enc0 enc1).kept = c.kept := by
  simp [Chip.cometRecord]

@[simp] theorem Chip.strobeTrigger_kept (c : Chip) (tx : Nat) : (c.strobeTrigger tx).kept = c.kept := by
  simp [Chip.strobeTrigger]

@[simp] theorem Chip.outsWithdraw_kept (c : Chip) : c.outsWithdraw.kept = c.kept := by
  simp [Chip.outsWithdraw]

/-! ### The event queues -/

@[simp] theorem Chip.modEq_kept (c : Chip) (n : Nat) (g : EqS → EqS) : (c.modEq n g).kept = c.kept :=
  Chip.kept_mk ..

@[simp] theorem Chip.eqPut_kept (c : Chip) (n i off : Nat) (bs : List Byte) : (c.eqPut n i off bs).kept = c.kept := by
  simp [Chip.eqPut]

@[simp] theorem Chip.eqShow_kept (c : Chip) (n : Nat) : (c.eqShow n).kept = c.kept := by
  simp [Chip.eqShow, F.eqRseqQseq, R.eqRseq, F.eqStatCount, R.eqStat, add_add_ne_of_lt]

@[simp] theorem Chip.eqAdvance_kept (c : Chip) (n : Nat) : (c.eqAdvance n).kept = c.kept := by
  unfold Chip.eqAdvance
  split <;> simp [F.eqRptrIndex, R.eqRptr, add_add_ne_of_lt]

@[simp] theorem Chip.eqLoss_kept (c : Chip) (n : Nat) : (c.eqLoss n).kept = c.kept := by
  simp [Chip.eqLoss, F.eqEvtLost, F.eqLostCount, R.eqLost, add_add_ne_of_lt, R.eqEvt]

@[simp] theorem Chip.eqMakeRoom_kept (c : Chip) (n nw k : Nat) : (c.eqMakeRoom n nw k).kept = c.kept := by
  induction k generalizing c with
  | zero => rfl
  | succ k ih => simp [Chip.eqMakeRoom, ih]

@[simp] theorem Chip.eqOpen_kept (c : Chip) (n tag : Nat) : (c.eqOpen n tag).kept = c.kept := by
  simp [Chip.eqOpen, F.eqStatOwner, R.eqStat, add_add_ne_of_lt]

@[simp] theorem Chip.eqData_kept (c : Chip) (n : Nat) (bs : List Byte) : (c.eqData n bs).kept = c.kept := by
  simp [Chip.eqData]

@[simp] theorem Chip.eqClose_kept (c : Chip) (n dropB : Nat) : (c.eqClose n dropB).kept = c.kept := by
  simp only [Chip.eqClose]
  split <;> simp [R.eqEvt, F.eqEvtData, F.eqStatOwner, R.eqStat, F.eqWptrIndex, R.eqWptr, add_add_ne_of_lt]

@[simp] theorem Chip.eqAbort_kept (c : Chip) (n : Nat) : (c.eqAbort n).kept = c.kept := by
  simp [Chip.eqAbort, F.eqStatOwner, R.eqStat, add_add_ne_of_lt]

@[simp] theorem Chip.eqRecord_kept (c : Chip) (n : Nat) (bs : List Byte) : (c.eqRecord n bs).kept = c.kept := by
  simp [Chip.eqRecord]

@[simp] theorem Chip.eqFor_kept (c : Chip) (b : Nat) (bs : List Byte) : (c.eqFor b bs).kept = c.kept := by
  simp [Chip.eqFor]

@[simp] theorem Chip.eqIsolate_kept (c : Chip) (ch : Nat) : (c.eqIsolate ch).kept = c.kept := by
  simp [Chip.eqIsolate]

/-! ### The stitcher -/

@[simp] theorem Chip.completeBand_kept (c : Chip) (cut : Bool) : (c.completeBand cut).kept = c.kept := by
  simp [Chip.completeBand, ↓Chip.kept_mk, F.stcBandCntCount, R.stcBandCnt, F.stcBseqBseq, R.stcBseq, F.stcNdpxCntCount,
    R.stcNdpxCnt, F.stcNorepCntCount, R.stcNorepCnt, F.stcShortCntCount, R.stcShortCnt]

@[simp] theorem Chip.stcRelease_kept (c : Chip) : c.stcRelease.kept = c.kept := by
  simp [Chip.stcRelease, F.stcStatOldBusy, R.stcStat]

/-! ### The inspection engine -/

@[simp] theorem Chip.fieldClear_kept (c : Chip) (b : Nat) : (c.fieldClear b).kept = c.kept :=
  Chip.kept_mk ..

end Sys2Proof.Machine
end

section
/-! SUPPORT. CLK_EVT and the queue of the uplink, through lanes and the Shepherd. -/

namespace Sys2Proof.Machine

/-! ### Lanes -/

@[simp] theorem Chip.modLane_kept (c : Chip) (n m : Nat) (g : LaneS → LaneS) : (c.modLane n m g).kept = c.kept :=
  Chip.kept_mk ..

@[simp] theorem Chip.modPort_kept (c : Chip) (n : Nat) (g : PortS → PortS) : (c.modPort n g).kept = c.kept :=
  Chip.kept_mk ..

@[simp] theorem Chip.loadSet_kept (c : Chip) (n m : Nat) (x : LaneSet) : (c.loadSet n m x).kept = c.kept := by
  simp [Chip.loadSet, R.lnDfe, R.lnFfe0, R.lnFfe1, R.lnFfe2, R.lnRxeq, add_add_ne_of_lt]

@[simp] theorem Chip.resetCoeffs_kept (c : Chip) (n m : Nat) : (c.resetCoeffs n m).kept = c.kept := by
  simp [Chip.resetCoeffs]

@[simp] theorem Chip.flipBits_kept (c : Chip) (n m : Nat) (bs : List Bool) : (c.flipBits n m bs).1.kept = c.kept := by
  simp [Chip.flipBits]

@[simp] theorem Chip.txSyms_kept (c : Chip) (n m : Nat) (coded : Bool) (g : List Nat) :
    (c.txSyms n m coded g).1.kept = c.kept := by
  simp only [Chip.txSyms]
  split_ifs <;> simp

@[simp] theorem Chip.laneTx_kept (c : Chip) (n m : Nat) (bs : List Bool) : (c.laneTx n m bs).1.kept = c.kept := by
  simp [Chip.laneTx]

@[simp] theorem Chip.setPrecode_kept (c : Chip) (n m : Nat) (tx rx : Bool) : (c.setPrecode n m tx rx).kept = c.kept := by
  simp [Chip.setPrecode, F.lnCtrlPrecodeRx, R.lnCtrl, F.lnCtrlPrecodeTx, add_add_ne_of_lt]

@[simp] theorem Chip.endGuard_kept (c : Chip) (n m : Nat) : (c.endGuard n m).kept = c.kept := by
  simp [Chip.endGuard]

@[simp] theorem Chip.clearFreeze_kept (c : Chip) (n m : Nat) : (c.clearFreeze n m).kept = c.kept := by
  simp [Chip.clearFreeze, F.lnStateFrozen, R.lnState, add_add_ne_of_lt]

@[simp] theorem Chip.laneGo_kept (c : Chip) (n m st : Nat) : (c.laneGo n m st).kept = c.kept := by
  simp [Chip.laneGo, F.lnStateState, R.lnState, add_add_ne_of_lt]

@[simp] theorem Chip.testStop_kept (c : Chip) (n m : Nat) : (c.testStop n m).kept = c.kept := by
  simp [Chip.testStop, F.lnPrbsCtrlChkEn, R.lnPrbsCtrl, F.lnPrbsCtrlGenEn, F.lnPrbsStatLock, R.lnPrbsStat,
    add_add_ne_of_lt]

@[simp] theorem Chip.laneDown_kept (c : Chip) (n m : Nat) : (c.laneDown n m).kept = c.kept := by
  simp [Chip.laneDown, F.lnStateCdrLock, R.lnState, F.lnStateSigDet, add_add_ne_of_lt]

@[simp] theorem Chip.laneOff_kept (c : Chip) (n m : Nat) : (c.laneOff n m).kept = c.kept := by
  simp [Chip.laneOff]

@[simp] theorem Chip.laneRest_kept (c : Chip) (n m : Nat) : (c.laneRest n m).kept = c.kept := by
  simp [Chip.laneRest]

@[simp] theorem Chip.laneLeave_kept (c : Chip) (n m : Nat) : (c.laneLeave n m).kept = c.kept := by
  simp [Chip.laneLeave]

@[simp] theorem Chip.laneCondAbort_kept (c : Chip) (n m : Nat) : (c.laneCondAbort n m).kept = c.kept := by
  simp [Chip.laneCondAbort, F.lnCtrlLoopback, R.lnCtrl, add_add_ne_of_lt]

@[simp] theorem Chip.laneTrainUl_kept (c : Chip) (m : Nat) : (c.laneTrainUl m).kept = c.kept := by
  simp [Chip.laneTrainUl]

@[simp] theorem Chip.condAbort_kept (c : Chip) (n : Nat) : (c.condAbort n).kept = c.kept := by
  simp [Chip.condAbort, F.lnCtrlLoopback, R.lnCtrl, add_add_ne_of_lt]

/-! ### The Shepherd and the engines -/

@[simp] theorem Chip.modShp_kept (c : Chip) (g : ShpS → ShpS) : (c.modShp g).kept = c.kept :=
  Chip.kept_mk ..

@[simp] theorem Chip.modCluster_kept (c : Chip) (k : Nat) (g : ClusterS → ClusterS) : (c.modCluster k g).kept = c.kept := by
  simp [Chip.modCluster]

@[simp] theorem Chip.capShow_kept (c : Chip) : c.capShow.kept = c.kept := by
  simp [Chip.capShow, F.shpCStatNact, R.shpCStat, F.shpCapCap, R.shpCap, add_ne_of_lt]

@[simp] theorem Chip.stepTo_kept (c : Chip) (k st : Nat) : (c.stepTo k st).kept = c.kept := by
  simp only [Chip.stepTo]
  have h : (stepField k).addr ≠ 0x10004 := by
    unfold stepField
    split <;> decide
  split <;> simp [h, F.shpCStatStep, R.shpCStat, F.shpEvtStep, R.shpEvt, F.shpStepDnCount, R.shpStepDn, F.shpStepUpCount,
    R.shpStepUp, add_ne_of_lt]

@[simp] theorem Chip.floorFault_kept (c : Chip) : c.floorFault.kept = c.kept := by
  simp only [Chip.floorFault]
  split_ifs <;> simp [F.shpEvtFloor, R.shpEvt, F.shpStatFloor, R.shpStat]

@[simp] theorem Chip.capacityUps_kept (c : Chip) : c.capacityUps.1.kept = c.kept := by
  refine foldl_keeps (fun r : Chip × List Nat => r.1.kept) (fun r k => ?_) _ _
  split <;> simp

@[simp] theorem Chip.capacityNow_kept (c : Chip) : c.capacityNow.kept = c.kept := by
  simp [Chip.capacityNow]

@[simp] theorem Chip.modFband_kept (c : Chip) (bseq : Nat) (g : FBand → FBand) : (c.modFband bseq g).kept = c.kept :=
  Chip.kept_mk ..

@[simp] theorem Chip.enqueue_kept (c : Chip) (w : WorkItem) : (c.enqueue w).kept = c.kept := by
  simp [Chip.enqueue]

@[simp] theorem Chip.setSlice_kept (c : Chip) (bseq s : Nat) (st : SliceSt) : (c.setSlice bseq s st).kept = c.kept := by
  simp [Chip.setSlice]

@[simp] theorem Chip.setEng_kept (c : Chip) (e st : Nat) : (c.setEng e st).kept = c.kept := by
  have h : (engField e).addr ≠ 0x10004 := by
    unfold engField
    split <;> simp [R.shpCMap0, F.shpCMap1Eng16, R.shpCMap1, add_add_ne_of_lt]
  simp [Chip.setEng, h]

@[simp] theorem Chip.retire_kept (c : Chip) (e : Nat) : (c.retire e).kept = c.kept := by
  simp [Chip.retire]

@[simp] theorem Chip.substitute_kept (c : Chip) (e : Nat) : (c.substitute e).1.kept = c.kept := by
  simp only [Chip.substitute]
  split
  next => rfl
  next => split_ifs <;> simp

@[simp] theorem Chip.itemBack_kept (c : Chip) (e : Nat) : (c.itemBack e).kept = c.kept := by
  simp only [Chip.itemBack]
  split
  next => simp
  next => split <;> simp

@[simp] theorem Chip.isolateEngine_kept (c : Chip) (e : Nat) : (c.isolateEngine e).kept = c.kept := by
  simp [Chip.isolateEngine]

end Sys2Proof.Machine
end

section
/-! SUPPORT. CLK_EVT and the queue of the uplink, through products, bands and records. -/

namespace Sys2Proof.Machine

/-! ### Products -/

@[simp] theorem Chip.modSsp_kept (c : Chip) (g : SspS → SspS) : (c.modSsp g).kept = c.kept :=
  Chip.kept_mk ..

@[simp] theorem Chip.addUnit_kept (c : Chip) (u : SspUnit) : (c.addUnit u).kept = c.kept := by
  simp [Chip.addUnit]

@[simp] theorem Chip.bandUnits_kept (c : Chip) (b : Band) : (c.bandUnits b).kept = c.kept := by
  simp [Chip.bandUnits]

@[simp] theorem Chip.p2Unit_kept (c : Chip) (b : Band) (recs : List (List Byte)) (held : Bool) :
    (c.p2Unit b recs held).kept = c.kept := by
  simp [Chip.p2Unit]

@[simp] theorem Chip.alarmUnit_kept (c : Chip) (b : Band) (alarms summary : List (List Byte)) (held : Bool) :
    (c.alarmUnit b alarms summary held).kept = c.kept := by
  simp [Chip.alarmUnit, F.sspTruncCount, R.sspTrunc]

@[simp] theorem Chip.recordUnits_kept (c : Chip) (b : Band) (bl : Blob) (dseq trig0 : Nat) (crop : Bool) (bs : List Byte)
    (tiles : List (Nat × Nat × Nat × Nat)) :
    (c.recordUnits b bl dseq trig0 crop bs tiles).kept = c.kept := by
  simp [Chip.recordUnits]

/-! ### Bands, records and units -/

@[simp] theorem Chip.modIe_kept (c : Chip) (g : IeS → IeS) : (c.modIe g).kept = c.kept :=
  Chip.kept_mk ..

@[simp] theorem Chip.setAcq_kept (c : Chip) (b st : Nat) : (c.setAcq b st).kept = c.kept := by
  simp [Chip.setAcq, F.ieStatAcq, R.ieStat]

@[simp] theorem Chip.enterAcq_kept (c : Chip) (b : Nat) : (c.enterAcq b).kept = c.kept := by
  simp [Chip.enterAcq]

@[simp] theorem Chip.modRep_kept (c : Chip) (rep : Nat) (g : RepAcc → RepAcc) : (c.modRep rep g).kept = c.kept := by
  simp [Chip.modRep]

@[simp] theorem Chip.judgeRepeat_kept (c : Chip) (rep : Nat) : (c.judgeRepeat rep).kept = c.kept := by
  unfold Chip.judgeRepeat
  split <;> simp [F.ieEvtAcqDone, R.ieEvt, F.ieEvtAcqFail, F.ieRepeatRidx, R.ieRepeat, F.ieStatValidPct, R.ieStat]

@[simp] theorem Chip.noteLatency_kept (c : Chip) (fb : FBand) : (c.noteLatency fb).kept = c.kept := by
  simp [Chip.noteLatency, F.ieEvtLate, R.ieEvt, F.ieLatMaxMaxUs, R.ieLatMax, F.ieLateCntCount, R.ieLateCnt]

@[simp] theorem Chip.closeBlob_kept (c : Chip) (fb : FBand) (bl : Blob) (split : Bool) :
    (c.closeBlob fb bl split).1.kept = c.kept := by
  simp only [Chip.closeBlob]
  rw [apply_ite Prod.fst]
  simp [F.csDefCntCount, R.csDefCnt, F.csDseqDseq, R.csDseq, F.ieBlobCntCount, R.ieBlobCnt]

@[simp] theorem Chip.closeBlobs_kept (c : Chip) (fb : FBand) (l : List (Blob × Bool)) :
    (c.closeBlobs fb l).1.kept = c.kept := by
  unfold Chip.closeBlobs
  refine foldl_keeps (fun r : Chip × List Byte => r.1.kept) (fun r p => ?_) _ _
  exact Chip.closeBlob_kept ..

@[simp] theorem Chip.closeKnown_kept (c : Chip) : c.closeKnown.kept = c.kept := by
  simp only [Chip.closeKnown]
  refine Chip.each_kept (fun c fb => ?_) ..
  split
  next => rfl
  next =>
    refine (Chip.kept_mk ..).trans ((Chip.modFband_kept ..).trans ?_)
    simp

@[simp] theorem Chip.emitBand_kept (c : Chip) (fb : FBand) : (c.emitBand fb).kept = c.kept := by
  simp [Chip.emitBand, F.csAlarmSupCount, R.csAlarmSup, F.csDeMaxMax, R.csDeMax, F.csDeOverCntCount, R.csDeOverCnt,
    F.csFewCntCount, R.csFewCnt, F.csTileCntCount, R.csTileCnt]

@[simp] theorem Chip.emitFour_kept (c : Chip) (fb : FBand) (last : Bool) : (c.emitFour fb last).kept = c.kept := by
  simp [Chip.emitFour]

@[simp] theorem Chip.emitReady_kept (n : Nat) (c : Chip) : (Chip.emitReady n c).kept = c.kept := by
  induction n generalizing c with
  | zero => rfl
  | succ n ih => unfold Chip.emitReady; split <;> simp [ih]

@[simp] theorem Chip.fourReady_kept (n : Nat) (c : Chip) : (Chip.fourReady n c).kept = c.kept := by
  induction n generalizing c with
  | zero => rfl
  | succ n ih => unfold Chip.fourReady; split <;> simp [ih]

@[simp] theorem Chip.recordsOut_kept (c : Chip) : c.recordsOut.kept = c.kept := by
  simp [Chip.recordsOut]

@[simp] theorem Chip.colourSlot_kept (c : Chip) : c.colourSlot.1.kept = c.kept := by
  simp only [Chip.colourSlot]
  split
  next => exact (Chip.kept_mk ..).trans (by simp [F.csDropCntCount, R.csDropCnt])
  next => rfl

@[simp] theorem Chip.prune_kept (c : Chip) : c.prune.kept = c.kept := by
  simp [Chip.prune]

@[simp] theorem Chip.enterBand_kept (c : Chip) (b : Band) : (c.enterBand b).kept = c.kept := by
  simp only [Chip.enterBand]
  refine (Chip.recordsOut_kept _).trans ((Chip.kept_mk ..).trans ?_)
  split <;> simp [F.ieNorepCntCount, R.ieNorepCnt]

@[simp] theorem Chip.stopCut_kept (c : Chip) : c.stopCut.kept = c.kept := by
  unfold Chip.stopCut
  split
  next => rfl
  next =>
    split
    next =>
      exact (Chip.kept_mk ..).trans ((Chip.recordsOut_kept _).trans ((Chip.each_kept Chip.enterBand_kept ..).trans (by simp)))
    next => rfl

@[simp] theorem Chip.ieRelease_kept (c : Chip) : c.ieRelease.kept = c.kept := by
  simp [Chip.ieRelease, F.ieStatOldBusy, R.ieStat]

@[simp] theorem Chip.csRelease_kept (c : Chip) : c.csRelease.kept = c.kept := by
  simp [Chip.csRelease, F.csStatOldBusy, R.csStat]

end Sys2Proof.Machine
end

section
/-! SUPPORT. CLK_EVT and the queue of the uplink, through links, Orbit and the stream protocol. -/

namespace Sys2Proof.Machine

/-! ### Rounds of a link -/

@[simp] theorem Chip.modLink_kept (c : Chip) (n : Nat) (g : LinkS → LinkS) : (c.modLink n g).kept = c.kept :=
  Chip.kept_mk ..

@[simp] theorem Chip.queueBlocks_kept (c : Chip) (n : Nat) (bs : List (Bool × List Byte)) :
    (c.queueBlocks n bs).kept = c.kept := by
  simp [Chip.queueBlocks]

@[simp] theorem Chip.sendPacket_kept (c : Chip) (n typ : Nat) (body : List Byte) : (c.sendPacket n typ body).kept = c.kept := by
  simp [Chip.sendPacket]

@[simp] theorem Chip.sendBlock_kept (c : Chip) (n : Nat) (bs : List Byte) : (c.sendBlock n bs).kept = c.kept := by
  simp [Chip.sendBlock]

@[simp] theorem Chip.sendCodeword_kept (c : Chip) (n k : Nat) (am : Bool) (bs : List (Bool × List Byte)) :
    (c.sendCodeword n k am bs).kept = c.kept := by
  simp [Chip.sendCodeword]

@[simp] theorem Chip.sendRound_kept (c : Chip) (n : Nat) : (c.sendRound n).kept = c.kept := by
  simp [Chip.sendRound]

@[simp] theorem Chip.flushRounds_kept (c : Chip) (n k : Nat) : (c.flushRounds n k).kept = c.kept := by
  induction k generalizing c with
  | zero => rfl
  | succ k ih => simp [Chip.flushRounds, ih]

@[simp] theorem Chip.stopRounds_kept (c : Chip) (n : Nat) : (c.stopRounds n).kept = c.kept := by
  simp [Chip.stopRounds]

/-! ### Links -/

@[simp] theorem Chip.allLanesOff_kept (c : Chip) (n : Nat) : (c.allLanesOff n).kept = c.kept := by
  simp [Chip.allLanesOff]

@[simp] theorem Chip.trigLateOne_kept (c : Chip) (n trig : Nat) : (c.trigLateOne n trig).kept = c.kept := by
  simp [Chip.trigLateOne, F.trigLateCount, R.trigLate, add_add_ne_of_lt]

@[simp] theorem Chip.trigsLate_kept (c : Chip) (n : Nat) : (c.trigsLate n).kept = c.kept := by
  simp [Chip.trigsLate]

@[simp] theorem Chip.placeTrig_kept (c : Chip) (n trig tx : Nat) : (c.placeTrig n trig tx).kept = c.kept := by
  simp [Chip.placeTrig]

@[simp] theorem Chip.trigDeparts_kept (c : Chip) (n : Nat) : (c.trigDeparts n).kept = c.kept := by
  unfold Chip.trigDeparts
  split <;> simp

@[simp] theorem Chip.ctrlStart_kept (c : Chip) (n : Nat) (r : CtrlReq) : (c.ctrlStart n r).kept = c.kept := by
  simp [Chip.ctrlStart, F.hregStatTag, R.hregStat, add_add_ne_of_lt]

@[simp] theorem Chip.trigsLeave_kept (c : Chip) (n : Nat) : (c.trigsLeave n).kept = c.kept := by
  simp [Chip.trigsLeave]

@[simp] theorem Chip.ctrlEnd_kept (c : Chip) (n code : Nat) (data : Option Nat) : (c.ctrlEnd n code data).kept = c.kept := by
  simp only [Chip.ctrlEnd]
  split
  next => rfl
  next =>
    split <;> simp only [Chip.ctrlStart_kept, Chip.modLink_kept, Chip.kept_ite, ite_eq_left_iff] <;> intro _ <;>
      split <;> simp [F.hregDataData, R.hregData, F.hregStatBusy, R.hregStat, F.hregStatCode, F.hregStatDone,
        add_add_ne_of_lt]

@[simp] theorem Chip.ctrlDrop_kept (c : Chip) (n : Nat) : (c.ctrlDrop n).kept = c.kept := by
  unfold Chip.ctrlDrop
  split <;> simp [F.hregStatBusy, R.hregStat, F.hregStatCode, F.hregStatDone, add_add_ne_of_lt]

@[simp] theorem Chip.sendSwap_kept (c : Chip) (n op : Nat) (s : Swap) (am : Nat) : (c.sendSwap n op s am).kept = c.kept := by
  simp [Chip.sendSwap]

@[simp] theorem Chip.swapFail_kept (c : Chip) (n result reason : Nat) (send : Bool) :
    (c.swapFail n result reason send).kept = c.kept := by
  unfold Chip.swapFail
  split <;> simp [F.linkEvtSwapFail, R.linkEvt, F.swapStatBusy, R.swapStat, F.swapStatResult, F.swapStatStep,
    add_add_ne_of_lt]

@[simp] theorem Chip.swapStart_kept (c : Chip) (n k reason : Nat) : (c.swapStart n k reason).kept = c.kept := by
  simp [Chip.swapStart, F.swapStatBusy, R.swapStat, F.swapStatStep, add_add_ne_of_lt]

@[simp] theorem Chip.linkGo_kept (c : Chip) (n st : Nat) : (c.linkGo n st).kept = c.kept := by
  simp [Chip.linkGo, F.linkStateState, R.linkState, add_add_ne_of_lt]

@[simp] theorem Chip.portLost_kept (c : Chip) (n : Nat) : (c.portLost n).kept = c.kept := by
  simp [Chip.portLost, ↓Chip.kept_mk]

@[simp] theorem Chip.rxClear_kept (c : Chip) (n : Nat) : (c.rxClear n).kept = c.kept := by
  simp [Chip.rxClear]

@[simp] theorem Chip.linkPendingEnds_kept (c : Chip) (n : Nat) : (c.linkPendingEnds n).kept = c.kept := by
  simp [Chip.linkPendingEnds]

@[simp] theorem Chip.linkDown_kept (c : Chip) (n : Nat) (send : Bool) : (c.linkDown n send).kept = c.kept := by
  simp [Chip.linkDown]

@[simp] theorem Chip.linkIsolate_kept (c : Chip) (n : Nat) : (c.linkIsolate n).kept = c.kept := by
  simp only [Chip.linkIsolate]
  split_ifs <;> simp [F.linkCtrlEn, R.linkCtrl, add_ne_of_lt]

@[simp] theorem Chip.swapRepair_kept (c : Chip) (n m reason : Nat) : (c.swapRepair n m reason).1.kept = c.kept := by
  simp only [Chip.swapRepair]
  split
  next => rfl
  next => split_ifs <;> simp [F.swapStatResult, R.swapStat, add_add_ne_of_lt]

/-! ### Orbit -/

@[simp] theorem Chip.holdCheck_kept (c : Chip) : c.holdCheck.kept = c.kept := by
  simp [Chip.holdCheck, F.orbEvtHoldover, R.orbEvt, F.orbStatHold, R.orbStat]

/-! ### The uplink -/

@[simp] theorem Chip.ulGo_kept (c : Chip) (st : Nat) : (c.ulGo st).kept = c.kept := by
  simp [Chip.ulGo, F.ulStatState, R.ulStat]

@[simp] theorem Chip.ulMapShow_kept (c : Chip) : c.ulMapShow.kept = c.kept := by
  simp [Chip.ulMapShow, F.ulStatMap, R.ulStat]

@[simp] theorem Chip.ulLeft_kept (c : Chip) : c.ulLeft.kept = c.kept := by
  simp [Chip.ulLeft, ↓Chip.kept_mk]

@[simp] theorem Chip.ulGoDown_kept (c : Chip) : c.ulGoDown.kept = c.kept := by
  simp [Chip.ulGoDown, F.ulEvtDown, R.ulEvt]

@[simp] theorem Chip.retrainStart_kept (c : Chip) (k reason : Nat) : (c.retrainStart k reason).kept = c.kept := by
  simp [Chip.retrainStart, ↓Chip.kept_mk, R.lnTxeq]

@[simp] theorem Chip.retrain?_kept (c : Chip) (k reason : Nat) : (c.retrain? k reason).1.kept = c.kept := by
  unfold Chip.retrain?
  split_ifs <;> simp

@[simp] theorem Chip.ulRepair_kept (c : Chip) (m reason : Nat) : (c.ulRepair m reason).1.kept = c.kept := by
  unfold Chip.ulRepair
  split <;> simp

/-! ### The stream protocol -/

@[simp] theorem Chip.pairSend_kept (c : Chip) (mtype : Nat) (body : List Byte) : (c.pairSend mtype body).kept = c.kept := by
  simp [Chip.pairSend, ↓Chip.kept_mk]

@[simp] theorem Chip.sspMateGone_kept (c : Chip) : c.sspMateGone.kept = c.kept := by
  simp [Chip.sspMateGone]

@[simp] theorem Chip.sspRelease_kept (c : Chip) : c.sspRelease.kept = c.kept := by
  simp [Chip.sspRelease, F.sspStatOldBusy, R.sspStat]

end Sys2Proof.Machine
end

section
/-! SUPPORT. CLK_EVT and the queue of the uplink, through jobs and Comet. -/

namespace Sys2Proof.Machine

/-! ### Jobs -/

@[simp] theorem Chip.modJob_kept (c : Chip) (g : JobS → JobS) : (c.modJob g).kept = c.kept :=
  Chip.kept_mk ..

@[simp] theorem Chip.modPair_kept (c : Chip) (g : PairS → PairS) : (c.modPair g).kept = c.kept :=
  Chip.kept_mk ..

@[simp] theorem Chip.syncExpected_kept (c : Chip) : c.syncExpected.kept = c.kept := by
  simp [Chip.syncExpected, F.linkCtrlExpected, R.linkCtrl, add_ne_of_lt]

@[simp] theorem Chip.needSet_kept (c : Chip) (act stg : Nat) : (c.needSet act stg).kept = c.kept := by
  simp [Chip.needSet, F.shpNeedNeedAct, R.shpNeed, F.shpNeedNeedStg]

@[simp] theorem Chip.setNeed_kept (c : Chip) (act stg : Nat) : (c.setNeed act stg).kept = c.kept := by
  simp [Chip.setNeed]

@[simp] theorem Chip.unlock_kept (c : Chip) : c.unlock.kept = c.kept := by
  simp [Chip.unlock, F.jobStatSst, R.jobStat]

@[simp] theorem Chip.pseqDue_kept (c : Chip) : c.pseqDue.kept = c.kept := by
  simp [Chip.pseqDue]

@[simp] theorem Chip.cometCommit_kept (c : Chip) (start : Bool) (oldSrc te : Nat) :
    (c.cometCommit start oldSrc te).kept = c.kept := by
  simp [Chip.cometCommit]

@[simp] theorem Chip.commit_kept (c : Chip) (tc : Nat) (start join : Bool) (te : Nat) :
    (c.commit tc start join te).kept = c.kept := by
  unfold Chip.commit
  refine (Chip.pseqDue_kept _).trans ((Chip.setNeed_kept ..).trans ((Chip.syncExpected_kept _).trans
    ((Chip.cometCommit_kept ..).trans ?_)))
  rw [Chip.kept_ite, Chip.kept_ite, Chip.enterAcq_kept, ite_self, Chip.kept_mk, Chip.setAcq_kept, ite_self]
  refine (Chip.setAcq_kept ..).trans ((Chip.modIe_kept ..).trans ((Chip.modJob_kept ..).trans ?_))
  iterate 15 refine (Chip.setF_far _ _ (by decide)).trans ?_
  refine (Chip.each_kept (fun c n => ?_) ..).trans ?_
  · simp [F.feStatBankAct, R.feStat, F.feStatOldBusy, add_ne_of_lt]
  iterate 4 refine (Chip.setF_far _ _ (by decide)).trans ?_
  rfl

@[simp] theorem Chip.jobStop_kept (c : Chip) (tc : Nat) : (c.jobStop tc).kept = c.kept := by
  unfold Chip.jobStop
  refine (Chip.kept_mk ..).trans ((Chip.outsUpdate_kept _).trans ((Chip.setNeed_kept ..).trans
    ((Chip.syncExpected_kept _).trans ((Chip.modCmt_kept ..).trans ((Chip.kept_mk ..).trans
      ((Chip.modJob_kept ..).trans ?_))))))
  simp [F.jobCommitTrigTrig, R.jobCommitTrig, F.jobPortOffPort, R.jobPortOff, F.jobProdOffProd, R.jobProdOff, F.jobStatRun,
    R.jobStat, F.jobStatSst]

@[simp] theorem Chip.decideAs_kept (c : Chip) (code : Nat) : (c.decideAs code).kept = c.kept := by
  simp [Chip.decideAs, F.jobEvtPostpone, R.jobEvt, F.jobPostponeCntCount, R.jobPostponeCnt, F.jobStatHoldReason, R.jobStat,
    F.jobStatSst]

@[simp] theorem Chip.combine_kept (c : Chip) (td own mate : Nat) : (c.combine td own mate).kept = c.kept := by
  simp [Chip.combine]

@[simp] theorem Chip.jobDecision_kept (c : Chip) (td : Nat) (enc : Int) : (c.jobDecision td enc).kept = c.kept := by
  simp only [Chip.jobDecision]
  split
  next => rfl
  next =>
    simp only [Chip.kept_ite, Chip.decideAs_kept, Chip.modJob_kept, Chip.pairSend_kept, ite_eq_right_iff, ite_eq_left_iff]
    intro _ _ _
    split <;> simp

@[simp] theorem Chip.noDecide_kept (c : Chip) : c.noDecide.kept = c.kept := by
  unfold Chip.noDecide
  split <;> simp [F.jobEvtPairSplit, R.jobEvt]

@[simp] theorem Chip.stopCheck_kept (c : Chip) : c.stopCheck.kept = c.kept := by
  simp [Chip.stopCheck, F.jobEvtStopped, R.jobEvt]

@[simp] theorem Chip.setTOff_kept (c : Chip) (n t : Nat) : (c.setTOff n t).kept = c.kept := by
  simp only [Chip.setTOff]
  split <;> simp [R.jobPortOff]

@[simp] theorem Chip.portOffStart_kept (c : Chip) (n : Nat) : (c.portOffStart n).kept = c.kept := by
  simp [Chip.portOffStart]

/-! ### Comet -/

@[simp] theorem Chip.putLog_kept (c : Chip) (e : LogEntry) : (c.putLog e).kept = c.kept :=
  Chip.kept_mk ..

@[simp] theorem Chip.handTrig_kept (c : Chip) (e : LogEntry) (off : Nat) : (c.handTrig e off).kept = c.kept := by
  unfold Chip.handTrig
  refine (Chip.kept_mk ..).trans ((Chip.strobeTrigger_kept ..).trans (Chip.each_kept (fun c n => ?_) ..))
  exact (Chip.placeTrig_kept ..).trans (Chip.feExpect_kept ..)

@[simp] theorem Chip.sendTrec_kept (c : Chip) (e : LogEntry) : (c.sendTrec e).kept = c.kept := by
  simp [Chip.sendTrec]

@[simp] theorem Chip.countMark_kept (c : Chip) (id : Nat) (mark : Bool) : (c.countMark id mark).kept = c.kept := by
  simp [Chip.countMark]

@[simp] theorem Chip.missCheck_kept (c : Chip) : c.missCheck.kept = c.kept := by
  simp [Chip.missCheck, F.cmtEvtMarkMiss, R.cmtEvt, F.cmtMarkMissCount, R.cmtMarkMiss]

@[simp] theorem Chip.serveMark_kept (c : Chip) (id : Nat) : (c.serveMark id).kept = c.kept := by
  simp [Chip.serveMark, F.plStatSvc, R.plStat]

@[simp] theorem Chip.issue_kept (c : Chip) (tx : Nat) (pos : Int) (mark : Bool) (lag tmin : Nat) :
    (c.issue tx pos mark lag tmin).kept = c.kept := by
  simp [Chip.issue, F.cmtEvtOverspeed, R.cmtEvt, F.cmtNextIdId, R.cmtNextId, F.cmtOvrDlyCount, R.cmtOvrDly, F.cmtStatLag,
    R.cmtStat, F.cmtTrigCntCount, R.cmtTrigCnt]

@[simp] theorem Chip.dueTrigger_kept (c : Chip) (te : Nat) (pos : Int) : (c.dueTrigger te pos).1.kept = c.kept := by
  have hevt : ¬F.cmtEvtOvrDrop.addr = 0x10004 := by decide
  have hdrop : ¬F.cmtOvrDropCount.addr = 0x10004 := by decide
  have hign : ¬F.cmtMarkIgnCount.addr = 0x10004 := by decide
  simp only [Chip.dueTrigger]
  rw [apply_ite Prod.fst, apply_ite Prod.fst]
  simp only [Chip.kept_ite, Chip.ev_kept, Chip.inc_kept, Chip.add_kept, if_neg hevt, if_neg hdrop, if_neg hign,
    Chip.report_kept, Chip.modCmt_kept, Chip.issue_kept, Chip.jobStop_kept, Chip.commit_kept, Chip.noDecide_kept, ite_self]

@[simp] theorem Chip.placeFid_kept (c : Chip) (t : Nat) : (c.placeFid t).kept = c.kept := by
  simp [Chip.placeFid]

@[simp] theorem Chip.fidMarkAt_kept (c : Chip) (t : Nat) : (c.fidMarkAt t).kept = c.kept := by
  simp [Chip.fidMarkAt, F.ieFidHitCount, R.ieFidHit, F.ieFidLateCount, R.ieFidLate]

@[simp] theorem Chip.fidMissed_kept (c : Chip) (start : Nat) : (c.fidMissed start).kept = c.kept := by
  simp only [Chip.fidMissed]
  split_ifs
  next => rfl
  next => rfl
  next => exact (Chip.kept_mk ..).trans (by simp [F.ieEvtFidLost, R.ieEvt])
  next => simp [F.ieEvtFidMiss, R.ieEvt, F.ieFidMissCount, R.ieFidMiss]

@[simp] theorem Chip.takeOver_kept (c : Chip) : c.takeOver.kept = c.kept := by
  simp only [Chip.takeOver]
  split
  next => split <;> simp [F.cmtEvtTakeover, R.cmtEvt, F.cmtStatSource, R.cmtStat]
  next => rfl

end Sys2Proof.Machine
end

section
/-! SUPPORT. CLK_EVT and the queue of the uplink, through the pair, DMA channels, the fault controller and the end of settling. -/

namespace Sys2Proof.Machine

/-! ### The control protocol and the state of the fault controller -/

theorem Chip.modScp_kept {g : ScpS → ScpS} (c : Chip) (h : (g c.scp).ulq = c.scp.ulq) : (c.modScp g).kept = c.kept :=
  congrArg (c.rd R.clkEvt, ·) h

@[simp] theorem Chip.modFc_kept (c : Chip) (g : FcS → FcS) : (c.modFc g).kept = c.kept :=
  Chip.kept_mk ..

/-! ### The pair -/

@[simp] theorem Chip.joinFail_kept (c : Chip) : c.joinFail.kept = c.kept := by
  simp [Chip.joinFail, F.plEvtJoinFail, R.plEvt, F.plStatSvc, R.plStat]

@[simp] theorem Chip.mateLost_kept (c : Chip) : c.mateLost.kept = c.kept := by
  simp [Chip.mateLost, F.plEvtMateLost, R.plEvt, F.plStatSvc, R.plStat]

@[simp] theorem Chip.pairDown_kept (c : Chip) : c.pairDown.kept = c.kept := by
  simp [Chip.pairDown]

@[simp] theorem Chip.fieldTake_kept (c : Chip) (fb : FBand) (bs : List Byte) : (c.fieldTake fb bs).kept = c.kept := by
  simp only [Chip.fieldTake]
  split <;> simp

@[simp] theorem Chip.joinBand_kept (c : Chip) (bseq : Nat) : (c.joinBand bseq).kept = c.kept := by
  unfold Chip.joinBand
  split
  next =>
    split_ifs
    · simp [↓Chip.kept_mk]
    · split <;> simp
  next => rfl

@[simp] theorem Chip.sendField_kept (c : Chip) (bseq : Nat) : (c.sendField bseq).kept = c.kept := by
  unfold Chip.sendField
  split <;> simp

@[simp] theorem Chip.serveDseq_kept (c : Chip) : c.serveDseq.kept = c.kept := by
  unfold Chip.serveDseq
  split <;> simp

@[simp] theorem Chip.digCompare_kept (c : Chip) (trig own mate : Nat) : (c.digCompare trig own mate).kept = c.kept := by
  simp [Chip.digCompare, F.plDivCntCount, R.plDivCnt, F.plEvtDiverge, R.plEvt, F.plLastDivTrig, R.plLastDiv]

@[simp] theorem Chip.digestOut_kept (c : Chip) (trig d : Nat) : (c.digestOut trig d).kept = c.kept := by
  simp only [Chip.digestOut]
  split
  next => rfl
  next => split <;> simp

/-! ### DMA channels -/

@[simp] theorem Chip.modCh_kept (c : Chip) (n : Nat) (g : DmaS → DmaS) : (c.modCh n g).kept = c.kept :=
  Chip.kept_mk ..

@[simp] theorem Chip.dmaShow_kept (c : Chip) : c.dmaShow.kept = c.kept := by
  simp [Chip.dmaShow, F.dmaStatBusy, R.dmaStat, F.dmaStatHalted]

@[simp] theorem Chip.chGo_kept (c : Chip) (n st : Nat) : (c.chGo n st).kept = c.kept := by
  simp [Chip.chGo, F.dmaChStatState, R.dmaChStat, add_add_ne_of_lt]

@[simp] theorem Chip.setSlots_kept (c : Chip) (n : Nat) (l : List (List Word)) : (c.setSlots n l).kept = c.kept := by
  simp [Chip.setSlots, F.dmaSlotsUsed, R.dmaSlots]

@[simp] theorem Chip.chClear_kept (c : Chip) (n : Nat) : (c.chClear n).kept = c.kept := by
  simp [Chip.chClear]

@[simp] theorem Chip.chHalt_kept (c : Chip) (n reason : Nat) : (c.chHalt n reason).kept = c.kept := by
  simp [Chip.chHalt, F.dmaChStatHaltReason, R.dmaChStat, F.dmaHaltCntCount, R.dmaHaltCnt, add_add_ne_of_lt]

@[simp] theorem Chip.chIsolate_kept (c : Chip) (n : Nat) : (c.chIsolate n).kept = c.kept := by
  simp [Chip.chIsolate]

@[simp] theorem Chip.chNext_kept (c : Chip) (n : Nat) : (c.chNext n).kept = c.kept := by
  simp [Chip.chNext]

/-! ### The fault controller -/

@[simp] theorem Chip.isolatePart_kept (c : Chip) (p : FcPart) : (c.isolatePart p).kept = c.kept := by
  unfold Chip.isolatePart
  split <;> simp

@[simp] theorem Chip.dropLines_kept (c : Chip) : c.dropLines.kept = c.kept := by
  simp [Chip.dropLines, ↓Chip.kept_mk]

@[simp] theorem Chip.recordRow_kept (c : Chip) (row : Nat) : (c.recordRow row).kept = c.kept := by
  simp only [Chip.recordRow]
  split
  next => rfl
  next => split <;> simp

@[simp] theorem Chip.fcCount_kept (c : Chip) (src inst t : Nat) : (c.fcCount src inst t).1.kept = c.kept := by
  simp [Chip.fcCount]

@[simp] theorem Chip.fcLog_kept (c : Chip) (src inst level t : Nat) : (c.fcLog src inst level t).kept = c.kept := by
  simp only [Chip.fcLog]
  split_ifs <;> simp [F.fcCntCount, R.fcCnt, F.fcFirstNsNs, R.fcFirstNs, F.fcFirstSloSLo, R.fcFirstSlo, F.fcStatOvf,
    R.fcStat, R.fcFirst, R.fcLast, add_ne_of_lt]

/-! ### What settling calls last -/

@[simp] theorem Chip.dmaTimeReached_kept (c : Chip) (n : Nat) : (c.dmaTimeReached n).kept = c.kept := by
  unfold Chip.dmaTimeReached
  split <;> simp

@[simp] theorem Chip.sumUpdate_kept (c : Chip) : c.sumUpdate.kept = c.kept := by
  exact (Chip.modScp_kept _ rfl).trans (by simp [F.scpSumSum, R.scpSum])

@[simp] theorem Chip.eventLinkUp_kept (c : Chip) : c.eventLinkUp.kept = c.kept := by
  simp [Chip.eventLinkUp, Chip.modScp_kept]

@[simp] theorem Chip.targetsReached_kept (c : Chip) : c.targetsReached.kept = c.kept := by
  simp [Chip.targetsReached]

@[simp] theorem Chip.releases_kept (c : Chip) : c.releases.kept = c.kept := by
  unfold Chip.releases
  simp [Chip.each_kept Chip.feRelease_kept]

end Sys2Proof.Machine
end

section
/-! SUPPORT. Settling changes CLK_EVT only where it leaves the queue of the uplink empty (R399, R413, R433, R457). -/

namespace Sys2Proof.Machine

/-- From `c` to `t`, CLK_EVT and the queue of the uplink stand unless the queue is empty at the end. -/
def Chip.Calm (c t : Chip) : Prop := t.scp.ulq ≠ [] → t.kept = c.kept

theorem Chip.Calm.of_kept {c t : Chip} (h : t.kept = c.kept) : c.Calm t := fun _ => h

theorem Chip.Calm.of_empty {c t : Chip} (h : t.scp.ulq = []) : c.Calm t := fun hne => absurd h hne

theorem Chip.Calm.rfl {c : Chip} : c.Calm c := .of_kept (Eq.refl _)

theorem Chip.Calm.trans {c t u : Chip} (h : c.Calm t) (g : t.Calm u) : c.Calm u := fun hne => by
  have hu := g hne
  have ht : t.scp.ulq = u.scp.ulq := (congrArg Prod.snd hu).symm
  exact hu.trans (h (ht ▸ hne))

theorem Chip.deviceReset_ulq (c : Chip) : c.deviceReset.scp.ulq = [] := by
  simp only [Chip.deviceReset, Chip.optShow, Chip.shpBudget, Chip.setF_scp, Chip.wr_scp]
  split <;> simp only [Chip.setF_scp, Chip.wr_scp] <;> exact Eq.refl _

theorem Chip.deviceResetBy_calm (c : Chip) (cause : Nat) : c.Calm (c.deviceResetBy cause) := by
  unfold Chip.deviceResetBy
  split
  next => exact .of_kept (by simp [R.rstCause])
  next => exact .of_empty (by rw [Chip.setF_scp, Chip.inc_scp, Chip.deviceReset_ulq])

theorem Chip.levelFive_calm (c : Chip) : c.Calm c.levelFive := by
  unfold Chip.levelFive
  exact .trans (.of_kept (by simp [R.rstLastFault])) (Chip.deviceResetBy_calm _ _)

theorem Chip.withdrawEnd_calm (c : Chip) : c.Calm c.withdrawEnd := by
  unfold Chip.withdrawEnd
  split
  next => exact .rfl
  next =>
    extract_lets c1 c2 c3 c4 c5 c6 l5 c7
    have h : c7.kept = c.kept := by
      simp [c7, c6, c5, c4, c3, c2, c1, F.jobStatRun, R.jobStat, F.jobPortOffPort, R.jobPortOff, F.jobProdOffProd, R.jobProdOff]
    split
    next => exact .trans (.of_kept h) (Chip.levelFive_calm _)
    next => exact .of_kept h

theorem Chip.withdraw_calm (c : Chip) (src : Nat) (trip : Bool) : c.Calm (c.withdraw src trip) := by
  unfold Chip.withdraw
  split
  next => exact .rfl
  next =>
    extract_lets tw c1 c2 c3
    have h : c3.kept = c.kept := by simp [c3, c2, c1, F.fcStatWithdrawn, R.fcStat, F.plStatSvc, R.plStat]
    split
    next => exact .trans (.of_kept h) (Chip.withdrawEnd_calm _)
    next => exact .of_kept h

theorem Chip.repairOf_kept {c : Chip} {src inst : Nat} {r : Chip × Bool} (h : c.repairOf src inst = some r) :
    r.1.kept = c.kept := by
  unfold Chip.repairOf at h
  extract_lets n m reason at h
  clear_value reason
  split at h
  case h_7 => cases h
  all_goals
    split_ifs at h <;> cases h <;> simp

/-- The repair of a report at L2, with the level that follows (R433). -/
def Chip.fcRepaired (c : Chip) (r : Report) (lv : Nat) : Chip × Nat :=
  if lv ≠ 2 then (c, lv) else
    match c.repairOf r.src r.inst with
    | none => (c, 2)
    | some (c, true) => (c, 2)
    | some (c, false) => (c, 3)

theorem Chip.fcRepaired_kept (c : Chip) (r : Report) (lv : Nat) : (c.fcRepaired r lv).1.kept = c.kept := by
  unfold Chip.fcRepaired
  split
  next => rfl
  next =>
    split
    next => rfl
    next h => exact Chip.repairOf_kept h
    next h => exact Chip.repairOf_kept h

/-- The reaction to a report at its level (R433, R434, R457). -/
def Chip.fcReact (c : Chip) (r : Report) (lv : Nat) : Chip :=
  match lv with
  | 3 => c.isolatePart (isolated r.src r.inst)
  | 4 => c.withdraw r.src false
  | 5 =>
    let c := if r.src = 0x42 then c else c.modFc fun f => { f with l5 := true }
    if c.fb F.fcStatWithdrawn then if c.fc.tw.isSome && r.src != 0x42 then c else c.levelFive
    else
      let c := c.withdraw r.src (r.src == 0x42)
      if r.src = 0x42 then c.levelFive else c
  | _ => c

theorem Chip.fcReact_calm (c : Chip) (r : Report) (lv : Nat) : c.Calm (c.fcReact r lv) := by
  unfold Chip.fcReact
  split
  next => exact .of_kept (Chip.isolatePart_kept ..)
  next => exact Chip.withdraw_calm _ _ _
  next =>
    extract_lets c1 c2
    have h : c.Calm c1 := .of_kept (by simp [c1])
    refine .trans h ?_
    split
    next =>
      split
      next => exact .rfl
      next => exact Chip.levelFive_calm _
    next =>
      refine .trans (Chip.withdraw_calm c1 r.src (r.src == 0x42)) ?_
      split
      next => exact Chip.levelFive_calm _
      next => exact .rfl
  next => exact .rfl

/-- The count of a report that can be lasting (R435). -/
def Chip.fcMet (c : Chip) (r : Report) (t : Nat) (last : Option Nat) : Chip × Bool :=
  match last with
  | some _ => c.fcCount r.src r.inst t
  | none => (c, false)

theorem Chip.fcMet_kept (c : Chip) (r : Report) (t : Nat) (last : Option Nat) : (c.fcMet r t last).1.kept = c.kept := by
  unfold Chip.fcMet
  split
  next => exact Chip.fcCount_kept ..
  next => rfl

/-- The class of a report above L0 is pending at its level (R436). -/
def Chip.fcPends (c : Chip) (r : Report) (lv : Nat) : Chip :=
  if lv = 0 then c else
    ((c.setF (F.fcPendC (r.src / 16)) 1).setF (F.fcLvlC (r.src / 16)) lv).modFc fun f =>
      { f with holders := f.holders.set (r.src / 16) (some (r.src, r.inst)) }

theorem Chip.fcPends_kept (c : Chip) (r : Report) (lv : Nat) : (c.fcPends r lv).kept = c.kept := by
  simp [Chip.fcPends, F.fcPendC, R.fcPend, F.fcLvlC, R.fcLvl]

theorem Chip.fcReport_of_levels {r : Report} {entry : Nat} {last : Option Nat} (h : srcLevels r.src r.low = some (entry, last))
    (c : Chip) (t : Nat) :
    c.fcReport r t =
      let m := c.fcMet r t last
      let d := if m.2 && r.src == 0x13 then m.1.recordRow r.inst else m.1
      let p := d.fcRepaired r (d.fcLevel r.src r.inst (if m.2 then last.getD entry else entry))
      let lv := if p.2 = 3 ∧ isolated r.src r.inst = .withdraw then 4 else p.2
      ((p.1.fcLog r.src r.inst lv t).fcPends r lv).fcReact r lv := by
  unfold Chip.fcReport
  rw [h]
  rfl

theorem Chip.fcReport_calm (c : Chip) (r : Report) (t : Nat) : c.Calm (c.fcReport r t) := by
  cases h : srcLevels r.src r.low with
  | none =>
    unfold Chip.fcReport
    rw [h]
    exact .rfl
  | some l =>
    rw [Chip.fcReport_of_levels h]
    extract_lets m d p lv
    have hd : d.kept = c.kept := by
      rw [← c.fcMet_kept r t l.2]
      simp [d, m]
    refine .trans (.of_kept ?_) (Chip.fcReact_calm _ r lv)
    rw [Chip.fcPends_kept, Chip.fcLog_kept, Chip.fcRepaired_kept, hd]

theorem Chip.fcSettle_calm (k : Nat) (c : Chip) : c.Calm (Chip.fcSettle k c) := by
  induction k generalizing c with
  | zero => exact .rfl
  | succ k ih =>
    unfold Chip.fcSettle
    split
    next => exact .of_kept rfl
    next =>
      split
      next => exact .trans (.trans (.of_kept (Chip.modFc_kept ..)) (Chip.fcReport_calm _ _ _)) (ih _)
      next => exact .trans (.trans (.of_kept (Chip.kept_mk ..)) (Chip.fcReport_calm _ _ _)) (ih _)
      next => exact .rfl

theorem Chip.doDefer_calm (c : Chip) (d : Defer) : c.Calm (c.doDefer d) := by
  cases d with
  | ulDown => exact .of_empty rfl
  | pairDown => exact .of_kept (Chip.pairDown_kept _)
  | ulUp => exact .of_kept (Chip.eventLinkUp_kept _)
  | bandNew b => exact .of_kept (Chip.joinBand_kept ..)
  | bandLoaded b => exact .of_kept (Chip.sendField_kept ..)
  | bandDigest t d => exact .of_kept (Chip.digestOut_kept ..)
  | colourStatus t dropped => exact .of_kept (Chip.pairSend_kept ..)
  | fidMark t => exact .of_kept (Chip.fidMarkAt_kept ..)
  | fidMissing s => exact .of_kept (Chip.fidMissed_kept ..)
  | stopCut => exact .of_kept (Chip.stopCut_kept _)
  | stopCheck => exact .of_kept (Chip.stopCheck_kept _)
  | stepped => exact .of_kept (Chip.targetsReached_kept _)

theorem Chip.settleLoop_calm (k : Nat) (c : Chip) : c.Calm (Chip.settleLoop k c) := by
  induction k generalizing c with
  | zero => exact .rfl
  | succ k ih =>
    unfold Chip.settleLoop
    extract_lets c1
    refine .trans (Chip.fcSettle_calm c.fcFuel c) ?_
    split
    next => exact .rfl
    next => exact .trans (.trans (.of_kept (Chip.kept_mk ..)) (Chip.doDefer_calm _ _)) (ih _)

theorem Chip.settle_kept (c : Chip) : c.settle.kept = (Chip.settleLoop (c.defers.length + 100) c).kept :=
  (Chip.sumUpdate_kept _).trans ((Chip.serveDseq_kept _).trans (Chip.releases_kept _))

theorem Chip.settle_calm (c : Chip) : c.Calm c.settle :=
  .trans (Chip.settleLoop_calm _ c) (.of_kept c.settle_kept)

/-- Without MGMT and with no work owed, reports only wait (R399). -/
theorem Chip.settle_kept_of_held {c : Chip} (hm : c.mgmtRuns = false) (hd : c.defers = []) : c.settle.kept = c.kept := by
  have hf (k : Nat) : (Chip.fcSettle (k + 1) c).kept = c.kept ∧ (Chip.fcSettle (k + 1) c).defers = [] := by
    unfold Chip.fcSettle
    rw [hm]
    exact ⟨rfl, hd⟩
  rw [Chip.settle_kept]
  unfold Chip.settleLoop
  obtain ⟨hc, hn⟩ := hf (c.reports.length + c.fc.waiting.length + 99)
  extract_lets c1
  have h1 : c1.defers = [] := hn
  rw [h1]
  exact hc

end Sys2Proof.Machine
end

section
/-! SUPPORT. The loss of lock of a CORE PLL that its own standby names (R408, R445). -/

namespace Sys2Proof.Machine

/-- A command does not complete with `P` where `P` excludes the CLK_EVT it leaves: while commands of the uplink wait, no other
value settles into that one. -/
theorem not_does_of_kept {i : Instr} {s : State} {P : Chip → Prop} {f : Chip → Chip} (hi : exec i s = run s f)
    (hm : (f s.fresh).mgmtRuns = false) (hd : (f s.fresh).defers = []) (hq : (f s.fresh).scp.ulq ≠ [])
    (hP : ∀ c : Chip, c.rd R.clkEvt = (f s.fresh).rd R.clkEvt → ¬P c) : ¬Does i s P := by
  rintro ⟨c, hc, hPc, -⟩
  have hrun : Host.Outcome.next { s with chip := (f s.fresh).settle } = .next { s with chip := c.settle } := hi.symm.trans hc
  have hs : c.settle = (f s.fresh).settle := congrArg State.chip (Host.Outcome.next.inj hrun).symm
  have he : c.settle.kept = (f s.fresh).kept := by rw [hs, Chip.settle_kept_of_held hm hd]
  have hn : c.settle.scp.ulq ≠ [] := fun h => hq ((congrArg Prod.snd he).symm.trans h)
  exact hP c (congrArg Prod.fst ((c.settle_calm hn).symm.trans he)) hPc

/-- The device right after a power-on reset, but that the standby of the CORE PLLs names the one that serves, and a command of
the uplink waits. -/
def selfStandby : State :=
  { State.reset with chip := { Chip.reset with
      clk := { ClkS.reset with standby := some 0 }
      scp := { ScpS.reset with ulq := [⟨.ul, ⟨0, 0, [], 0, [], [], false, 0, 0, 0, true⟩, []⟩] } } }

/-- The serving CORE PLL loses lock: MGMT stays off, no work is owed, the command still waits, and CORE_SW stays clear. -/
theorem selfStandby_lock_loss :
    (selfStandby.fresh.clkLockLoss 1).mgmtRuns = false ∧ (selfStandby.fresh.clkLockLoss 1).defers = []
      ∧ (selfStandby.fresh.clkLockLoss 1).scp.ulq.isEmpty = false
      ∧ (selfStandby.fresh.clkLockLoss 1).f F.clkEvtCoreSw = 0 := by
  decide +kernel

/-- Refutes O22: its clause of the loss of lock takes any standby, also one that is the CORE PLL which loses lock (the device
itself only names the other one). That standby is dropped before the switch, so that 0x32 is reported and CLK_EVT.CORE_SW
stays 0. -/
theorem not_clockMonitors : ¬ Obligations.ClockMonitors := by
  unfold Obligations.ClockMonitors
  intro h
  obtain ⟨-, -, -, -, -, -, -, -, hloss, -, -, -⟩ := h selfStandby
  obtain ⟨hm, hd, hq, hsw⟩ := selfStandby_lock_loss
  have hne : (selfStandby.fresh.clkLockLoss 1).scp.ulq ≠ [] := fun h => by rw [h] at hq; cases hq
  refine not_does_of_kept (f := (·.clkLockLoss 1)) rfl hm hd hne ?_ (hloss 1 (by decide) rfl rfl)
  rintro c hc ⟨-, -, -, -, hcore⟩
  obtain ⟨-, hone⟩ := (hcore (by decide)).1 0 (by decide) rfl
  have hzero : c.f F.clkEvtCoreSw = 0 := (congrArg (getBits · 7 1) hc).trans hsw
  exact absurd (hone.symm.trans hzero) (by decide)

end Sys2Proof.Machine
end

section
/-! SUPPORT. The lanes: their data under an update, and which registers each operation on a lane touches (R47 to R61). -/

namespace Sys2Proof.Machine

/-! ### Reading what was kept -/

theorem Chip.Keeps.f {c t : Chip} {l : List Nat} (h : c.Keeps t l) {x : Fld} (h1 : x.addr ∉ l) (h2 : x.addr ≠ R.scpSum) :
    t.f x = c.f x := by rw [Chip.f_eq, Chip.f_eq, h.1 _ h1 h2]

/-- The registers from CLK on are none of the control protocol's. -/
theorem reg_ne_scp {a : Nat} (h : 0x10000 ≤ a) : a ≠ R.scpSum ∧ a ∉ [R.scpSession] := by
  simp only [R.scpSum, R.scpSession, List.mem_singleton]
  omega

theorem Chip.Alike.rd_reg {e d : Chip} {l : List Nat} (h : e.Alike d l) (hl : ∀ a ∈ l, a = R.scpSession) {a : Nat}
    (ha : 0x10000 ≤ a) : d.rd a = e.rd a :=
  h.rd _ (reg_ne_scp ha).1 fun hm => (reg_ne_scp ha).2 (by simp [hl _ hm])

theorem Chip.Alike.f_reg {e d : Chip} {l : List Nat} (h : e.Alike d l) (hl : ∀ a ∈ l, a = R.scpSession) {x : Fld}
    (hx : 0x10000 ≤ x.addr) : d.f x = e.f x := by rw [Chip.f_eq, Chip.f_eq, h.rd_reg hl hx]

theorem Chip.Alike.fb_reg {e d : Chip} {l : List Nat} (h : e.Alike d l) (hl : ∀ a ∈ l, a = R.scpSession) {x : Fld}
    (hx : 0x10000 ≤ x.addr) : d.fb x = e.fb x := by rw [Chip.fb_eq, Chip.fb_eq, h.f_reg hl hx]

/-- Every lane register lies in the lane window of its block, past the control protocol's registers. -/
theorem lnReg_ge (n m k : Nat) : 0x10000 ≤ 0x108000 + n * 0x10000 + m * 0x100 + k := by omega

/-! ### The data of a lane beside its registers -/

variable (c : Chip) {n m : Nat}

theorem Chip.lane_modLane (h : n * 9 + m < c.lanes.length) (g : LaneS → LaneS) : (c.modLane n m g).lane n m = g (c.lane n m) := by
  simp [Chip.lane, Chip.modLane, List.getElem?_eq_getElem h]

theorem Chip.lane_congr {c t : Chip} (h : t.lanes = c.lanes) (n m : Nat) : t.lane n m = c.lane n m := by
  rw [Chip.lane, h, Chip.lane]

theorem Chip.Alike.lane {e d : Chip} {l : List Nat} (h : e.Alike d l) (n m : Nat) : d.lane n m = e.lane n m :=
  Chip.lane_congr h.lanes n m

/-- What an update keeps of one lane, whether the lane exists or not. -/
theorem Chip.lane_modLane_keeps {α : Type} (p : LaneS → α) {g : LaneS → LaneS} (h : ∀ l, p (g l) = p l) (n m : Nat) :
    p ((c.modLane n m g).lane n m) = p (c.lane n m) := by
  simp only [Chip.lane, Chip.modLane, List.getElem?_modify_eq]
  cases c.lanes[n * 9 + m]? with
  | none => rfl
  | some l => exact h l

@[simp] theorem Chip.modLane_length (n m : Nat) (g : LaneS → LaneS) : (c.modLane n m g).lanes.length = c.lanes.length := by
  simp [Chip.modLane]

@[simp] theorem Chip.modLane_laneState (n m : Nat) (g : LaneS → LaneS) (i j : Nat) :
    (c.modLane n m g).laneState i j = c.laneState i j := rfl

theorem Chip.Keeps.modLane {c t : Chip} {l : List Nat} (h : c.Keeps t l) (n m : Nat) (g : LaneS → LaneS) :
    c.Keeps (t.modLane n m g) l := h.same rfl rfl

/-! ### The state of a lane -/

variable (n m)

theorem Chip.laneState_setF_state (st : Nat) : (c.setF (F.lnStateState n m) st).laneState n m = st % 16 :=
  c.f_setF_self (x := F.lnStateState n m) st (by simp [F.lnStateState])

theorem Chip.laneState_setF {x : Fld} (v : Nat) (h : x.addr ≠ R.lnState n m ∨ 4 ≤ x.lo) :
    (c.setF x v).laneState n m = c.laneState n m :=
  c.f_setF_disjoint v (h.imp Ne.symm fun h => Or.inr (by simpa [F.lnStateState] using h))

theorem Chip.laneGo_laneState {st : Nat} (h : st < 16) : (c.laneGo n m st).laneState n m = st :=
  (Chip.laneState_setF_state ..).trans (Nat.mod_eq_of_lt h)

/-! ### Which registers the operations on a lane touch -/

/-- The registers of the receive set of a lane (R55, R70). -/
def coeffRegs (n m : Nat) : List Nat :=
  [R.lnRxeq n m, R.lnFfe0 n m] ++ if n = 9 then [R.lnFfe1 m, R.lnFfe2 m, R.lnDfe m] else []

theorem coeffRegs_subset_laneRegs {a : Nat} (h : a ∈ coeffRegs n m) : a ∈ laneRegs n m := by
  simp only [coeffRegs, laneRegs, List.mem_append, List.mem_cons] at h ⊢
  tauto

theorem lnState_mem_laneRegs : R.lnState n m ∈ laneRegs n m := by simp [laneRegs]

theorem lnEye_mem_laneRegs : R.lnEye n m ∈ laneRegs n m := by simp [laneRegs]

/-- The coefficient registers lie below LN_ADAPT in the window of their lane, past LN_TXEQ. -/
theorem coeffRegs_offset {a : Nat} (h : a ∈ coeffRegs n m) :
    0x108000 + n * 0x10000 + m * 0x100 + 0x0C ≤ a ∧ a < 0x108000 + n * 0x10000 + m * 0x100 + 0x20 := by
  simp only [coeffRegs, List.mem_append, List.mem_cons, List.not_mem_nil, or_false] at h
  rcases h with (rfl | rfl) | h
  · simp [R.lnRxeq]
  · simp [R.lnFfe0]
  · split at h
    next h9 =>
      subst h9
      simp only [List.mem_cons, List.not_mem_nil, or_false] at h
      rcases h with rfl | rfl | rfl <;> simp only [R.lnFfe1, R.lnFfe2, R.lnDfe] <;> omega
    next => simp at h

theorem Chip.loadSet_keeps (x : LaneSet) : c.Keeps (c.loadSet n m x) (coeffRegs n m) := by
  unfold Chip.loadSet
  have h : c.Keeps ((c.wr (R.lnRxeq n m) x.rxeq).wr (R.lnFfe0 n m) x.ffe0) (coeffRegs n m) :=
    ((Chip.Keeps.refl c _).wr (by simp [coeffRegs])).wr (by simp [coeffRegs])
  refine Chip.Keeps.ite (fun h9 => ?_) fun _ => h
  exact ((h.wr (by simp [coeffRegs, h9])).wr (by simp [coeffRegs, h9])).wr (by simp [coeffRegs, h9])

theorem Chip.adaptSet_keeps (hold : Bool) (x : LaneSet) : c.Keeps (c.adaptSet n m hold x) (coeffRegs n m) := by
  unfold Chip.adaptSet
  exact Chip.Keeps.ite (fun _ => (c.loadSet_keeps n m x).setF (by simp [coeffRegs, F.lnRxeqCtle])) fun _ => c.loadSet_keeps n m x

theorem Chip.resetCoeffs_keeps : c.Keeps (c.resetCoeffs n m) (coeffRegs n m) := c.loadSet_keeps n m _

theorem Chip.endGuard_keeps (l : List Nat) : c.Keeps (c.endGuard n m) l := Chip.Keeps.of_same rfl rfl

theorem Chip.clearFreeze_keeps : c.Keeps (c.clearFreeze n m) [R.lnState n m] :=
  ((Chip.Keeps.refl c _).modLane ..).setF (List.mem_singleton_self _)

theorem Chip.laneGo_keeps (st : Nat) : c.Keeps (c.laneGo n m st) [R.lnState n m] :=
  (((Chip.Keeps.refl c _).modLane ..).modLane ..).setF (List.mem_singleton_self _)

theorem Chip.cdrSeen_keeps : c.Keeps (c.cdrSeen n m) [R.lnState n m] :=
  Chip.Keeps.ite (fun _ => (Chip.Keeps.refl c _).setF (List.mem_singleton_self _)) fun _ => Chip.Keeps.refl c _

theorem Chip.testStop_keeps : c.Keeps (c.testStop n m) [R.lnPrbsCtrl n m, R.lnPrbsStat n m] :=
  ((((Chip.Keeps.refl c _).setF (by simp [F.lnPrbsCtrlGenEn])).setF (by simp [F.lnPrbsCtrlChkEn])).setF
    (by simp [F.lnPrbsStatLock])).modLane ..

theorem Chip.laneDown_keeps : c.Keeps (c.laneDown n m) (laneRegs n m) := by
  refine (((((c.laneGo_keeps n m lsOff).trans (Chip.clearFreeze_keeps _ n m)).setF ?_).setF ?_).mono ?_).trans
    ((Chip.testStop_keeps _ n m).mono ?_) |>.modLane n m _
  · simp [F.lnStateSigDet]
  · simp [F.lnStateCdrLock]
  all_goals simp [laneRegs]

theorem Chip.laneOff_keeps : c.Keeps (c.laneOff n m) (laneRegs n m) :=
  (c.laneDown_keeps n m).trans ((Chip.resetCoeffs_keeps _ n m).mono fun _ => coeffRegs_subset_laneRegs n m)

/-! ### Which fields of LN_STATE they leave, and what they show -/

theorem Chip.laneGo_f {st : Nat} {x : Fld} (h : x.addr ≠ R.lnState n m ∨ 4 ≤ x.lo) : (c.laneGo n m st).f x = c.f x :=
  Chip.f_setF_disjoint _ _ (h.imp id fun h => Or.inl (by simpa [F.lnStateState] using h))

theorem Chip.clearFreeze_f {x : Fld} (h : x.addr ≠ R.lnState n m ∨ 17 ≤ x.lo ∨ x.lo + x.width ≤ 16) :
    (c.clearFreeze n m).f x = c.f x :=
  Chip.f_setF_disjoint _ _ (h.imp id fun h => by simpa [F.lnStateFrozen] using h)

theorem Chip.clearFreeze_frozen : (c.clearFreeze n m).f (F.lnStateFrozen n m) = 0 :=
  Chip.f_setF_self _ (x := F.lnStateFrozen n m) 0 (by simp [F.lnStateFrozen])

end Sys2Proof.Machine
end

section
/-! SUPPORT. The events of a lane: the end of training, its signal and its CDR (R48, R50, R51, R59). -/

namespace Sys2Proof.Machine

variable (c : Chip) {n m : Nat}

/-! ### The end of training -/

/-- The set that training reached is held, and is the last good one. -/
def Chip.trainedSet (c : Chip) (n m : Nat) (x : LaneSet) : Chip :=
  let c := if c.fb (F.lnAdaptAdaptEn n m) then c.adaptSet n m false x else c
  c.modLane n m fun l => { l with good := c.laneSet n m }

theorem Chip.trainedSet_keeps (x : LaneSet) : c.Keeps (c.trainedSet n m x) (coeffRegs n m) :=
  (Chip.Keeps.ite (fun _ => c.adaptSet_keeps n m false x) fun _ => Chip.Keeps.refl c _).modLane n m _

theorem Chip.laneTrained_eq (x : LaneSet) (h : c.laneState n m = lsTrain) :
    c.laneTrained n m x = ((((c.trainedSet n m x).setF (F.lnEyeEyeSaved n m) 0).clearFreeze n m).setF
      (F.lnStateCdrLock n m) 1).laneGo n m lsActive := if_pos h

theorem Chip.laneTrained_state (x : LaneSet) (h : c.laneState n m = lsTrain) :
    (c.laneTrained n m x).laneState n m = lsActive := by
  rw [c.laneTrained_eq x h, Chip.laneGo_laneState _ n m (by decide)]

theorem Chip.laneTrained_saved (x : LaneSet) (h : c.laneState n m = lsTrain) :
    (c.laneTrained n m x).f (F.lnEyeEyeSaved n m) = 0 := by
  have hne : (F.lnEyeEyeSaved n m).addr ≠ R.lnState n m := by simp [F.lnEyeEyeSaved, R.lnEye, R.lnState]
  rw [c.laneTrained_eq x h, Chip.laneGo_f _ n m (Or.inl hne), Chip.f_setF_ne _ _ hne, Chip.clearFreeze_f _ n m (Or.inl hne),
    Chip.f_setF_self _ 0 (by simp [F.lnEyeEyeSaved]), Nat.zero_mod]

theorem Chip.laneTrained_cdr (x : LaneSet) (h : c.laneState n m = lsTrain) :
    (c.laneTrained n m x).f (F.lnStateCdrLock n m) = 1 := by
  rw [c.laneTrained_eq x h, Chip.laneGo_f _ n m (Or.inr (by simp [F.lnStateCdrLock])),
    Chip.f_setF_self _ 1 (by simp [F.lnStateCdrLock])]
  rfl

theorem Chip.laneTrained_frozen (x : LaneSet) (h : c.laneState n m = lsTrain) :
    (c.laneTrained n m x).f (F.lnStateFrozen n m) = 0 := by
  rw [c.laneTrained_eq x h, Chip.laneGo_f _ n m (Or.inr (by simp [F.lnStateFrozen])),
    Chip.f_setF_disjoint _ 1 (Or.inr (Or.inr (by simp [F.lnStateFrozen, F.lnStateCdrLock]))), Chip.clearFreeze_frozen]

theorem Chip.laneTrained_keeps (x : LaneSet) (h : c.laneState n m = lsTrain) :
    c.Keeps (c.laneTrained n m x) (laneRegs n m) := by
  have hst : ∀ a ∈ [R.lnState n m], a ∈ laneRegs n m := by simp [laneRegs]
  have hset := (c.trainedSet_keeps x).mono fun _ => coeffRegs_subset_laneRegs n m
  rw [c.laneTrained_eq x h]
  exact (((hset.setF (lnEye_mem_laneRegs n m)).trans ((Chip.clearFreeze_keeps _ n m).mono hst)).setF
    (lnState_mem_laneRegs n m)).trans ((Chip.laneGo_keeps _ n m lsActive).mono hst)

/-! ### Training given up -/

theorem Chip.testStop_laneState : (c.testStop n m).laneState n m = c.laneState n m :=
  (c.testStop_keeps n m).f (x := F.lnStateState n m) (by simp [F.lnStateState, R.lnState, R.lnPrbsCtrl, R.lnPrbsStat])
    (reg_ne_scp (lnReg_ge n m 4)).1

theorem Chip.resetCoeffs_laneState : (c.resetCoeffs n m).laneState n m = c.laneState n m := by
  refine (c.resetCoeffs_keeps n m).f (x := F.lnStateState n m) (fun h => ?_) (reg_ne_scp (lnReg_ge n m 4)).1
  have := coeffRegs_offset n m h
  simp only [F.lnStateState, R.lnState] at this
  omega

theorem Chip.clearFreeze_laneState : (c.clearFreeze n m).laneState n m = c.laneState n m :=
  c.clearFreeze_f n m (Or.inr (Or.inr (by simp [F.lnStateState])))

theorem Chip.laneDown_state : (c.laneDown n m).laneState n m = lsOff := by
  rw [Chip.laneDown, Chip.modLane_laneState, Chip.testStop_laneState,
    Chip.laneState_setF _ n m 0 (Or.inr (by simp [F.lnStateCdrLock])),
    Chip.laneState_setF _ n m 0 (Or.inr (by simp [F.lnStateSigDet])), Chip.clearFreeze_laneState,
    Chip.laneGo_laneState _ n m (by decide)]

theorem Chip.laneOff_state : (c.laneOff n m).laneState n m = lsOff := by
  rw [Chip.laneOff, Chip.resetCoeffs_laneState, Chip.laneDown_state]

theorem Chip.laneTrainAbandoned_uplink (x : LaneSet) (h : c.laneState 9 m = lsTrain) :
    c.laneTrainAbandoned 9 m x = c.laneOff 9 m := by
  rw [Chip.laneTrainAbandoned, if_pos h, if_pos rfl]

theorem Chip.laneTrainAbandoned_link (x : LaneSet) (h : c.laneState n m = lsTrain) (hn : n ≠ 9) :
    c.laneTrainAbandoned n m x = ((if c.fb (F.lnAdaptAdaptEn n m) then c.adaptSet n m false x else c).laneGo n m lsDeep).setF
      (F.lnStateCdrLock n m) 0 := by
  rw [Chip.laneTrainAbandoned, if_pos h, if_neg hn]

theorem Chip.laneTrainAbandoned_state (x : LaneSet) (h : c.laneState n m = lsTrain) :
    (c.laneTrainAbandoned n m x).laneState n m = if n = 9 then lsOff else lsDeep := by
  by_cases hn : n = 9
  · subst hn
    rw [c.laneTrainAbandoned_uplink x h, if_pos rfl, Chip.laneOff_state]
  · rw [c.laneTrainAbandoned_link x h hn, if_neg hn, Chip.laneState_setF _ n m 0 (Or.inr (by simp [F.lnStateCdrLock])),
      Chip.laneGo_laneState _ n m (by decide)]

theorem Chip.laneTrainAbandoned_keeps (x : LaneSet) (h : c.laneState n m = lsTrain) :
    c.Keeps (c.laneTrainAbandoned n m x) (laneRegs n m) := by
  by_cases hn : n = 9
  · subst hn
    rw [c.laneTrainAbandoned_uplink x h]
    exact c.laneOff_keeps 9 m
  · have hst : ∀ a ∈ [R.lnState n m], a ∈ laneRegs n m := by simp [laneRegs]
    have hset : c.Keeps (if c.fb (F.lnAdaptAdaptEn n m) then c.adaptSet n m false x else c) (laneRegs n m) :=
      Chip.Keeps.ite (fun _ => (c.adaptSet_keeps n m false x).mono fun _ => coeffRegs_subset_laneRegs n m)
        fun _ => Chip.Keeps.refl c _
    rw [c.laneTrainAbandoned_link x h hn]
    exact (hset.trans ((Chip.laneGo_keeps _ n m lsDeep).mono hst)).setF (lnState_mem_laneRegs n m)

/-! ### Signal and CDR -/

theorem Chip.signalDetect_eq (mv : Nat) (h1 : c.laneState n m ≠ lsOff) (h2 : c.laneState n m ≠ lsCond) :
    c.signalDetect n m mv = if 80 < mv then c.setF (F.lnStateSigDet n m) 1
      else if mv < 40 then c.setF (F.lnStateSigDet n m) 0 else c := if_neg (by simp [h1, h2])

theorem Chip.signalDetect_sigDet (mv : Nat) (h1 : c.laneState n m ≠ lsOff) (h2 : c.laneState n m ≠ lsCond) :
    (c.signalDetect n m mv).f (F.lnStateSigDet n m)
      = if 80 < mv then 1 else if mv < 40 then 0 else c.f (F.lnStateSigDet n m) := by
  rw [c.signalDetect_eq mv h1 h2]
  split
  · exact c.f_setF_self (x := F.lnStateSigDet n m) 1 (by simp [F.lnStateSigDet])
  · split
    · exact c.f_setF_self (x := F.lnStateSigDet n m) 0 (by simp [F.lnStateSigDet])
    · rfl

theorem Chip.signalDetect_keeps (mv : Nat) : c.Keeps (c.signalDetect n m mv) [R.lnState n m] :=
  Chip.Keeps.ite (fun _ => Chip.Keeps.refl c _) fun _ =>
    Chip.Keeps.ite (fun _ => (Chip.Keeps.refl c _).setF (List.mem_singleton_self _)) fun _ =>
      Chip.Keeps.ite (fun _ => (Chip.Keeps.refl c _).setF (List.mem_singleton_self _)) fun _ => Chip.Keeps.refl c _

/-- Outside UP, the uplink does not act on its lanes' events (R293). -/
theorem Chip.ulLaneFail_idle (reason : Nat) (h : c.ulSt ≠ ulUp) : c.ulLaneFail m reason = c := if_neg fun ⟨hu, _⟩ => h hu

/-- UL_STAT lies past the registers of the uplink's lanes. -/
theorem ulStat_ne_lane {k : Nat} (hm : m < 9) (hk : k < 0x100) : R.ulStat ≠ 0x108000 + 9 * 0x10000 + m * 0x100 + k := by
  simp only [R.ulStat]
  omega

theorem Chip.laneFails_link (cdr : Bool) (hn : n ≠ 9) :
    c.laneFails n m cdr = if cdr then c.laneCdrLol n m else c.laneLos n m := by
  rw [Chip.laneFails]
  exact if_neg (by simp [hn])

theorem Chip.laneLos_active (h : c.laneState n m = lsActive) : c.laneLos n m = c.ev (F.lnEvtLos n m) := if_pos h

theorem Chip.laneCdrLol_active (h : c.laneState n m = lsActive) :
    c.laneCdrLol n m = (c.ev (F.lnEvtCdrLol n m)).setF (F.lnStateCdrLock n m) 0 := if_pos h

theorem Chip.laneCdrLol_keeps : c.Keeps (c.laneCdrLol n m) [R.lnEvt n m, R.lnState n m] :=
  Chip.Keeps.ite (fun _ => ((Chip.Keeps.refl c _).ev (by simp [F.lnEvtCdrLol])).setF (by simp [F.lnStateCdrLock]))
    fun _ => Chip.Keeps.refl c _

theorem Chip.laneLos_keeps : c.Keeps (c.laneLos n m) [R.lnEvt n m] :=
  Chip.Keeps.ite (fun _ => (Chip.Keeps.refl c _).ev (List.mem_singleton_self _)) fun _ => Chip.Keeps.refl c _

/-- Off the uplink in UP, the event of a lane does what R51 says of the lane alone. -/
theorem Chip.laneFails_alone (cdr : Bool) (hm : m < laneCount n) (hu : n = 9 → c.ulSt ≠ ulUp) :
    c.laneFails n m cdr = if cdr then c.laneCdrLol n m else c.laneLos n m := by
  by_cases hn : n = 9
  · subst hn
    have hkeeps : c.Keeps (if cdr then c.laneCdrLol 9 m else c.laneLos 9 m) [R.lnEvt 9 m, R.lnState 9 m] := by
      cases cdr with
      | true => exact c.laneCdrLol_keeps
      | false => exact c.laneLos_keeps.mono (by simp)
    have hul : (if cdr then c.laneCdrLol 9 m else c.laneLos 9 m).ulSt ≠ ulUp := by
      have h1 : R.ulStat ≠ R.lnEvt 9 m := ulStat_ne_lane hm (by decide)
      have h2 : R.ulStat ≠ R.lnState 9 m := ulStat_ne_lane hm (by decide)
      have := hkeeps.f (x := F.ulStatState) (by simp [F.ulStatState, h1, h2]) (by decide)
      rw [Chip.ulSt, this]
      exact hu rfl
    have hact := Chip.ulLaneFail_idle _ (m := m) (if cdr then 3 else 2) hul
    unfold Chip.laneFails
    dsimp only
    rw [hact, ite_self]
  · exact c.laneFails_link cdr hn

end Sys2Proof.Machine
end

section
/-! SUPPORT. The checker of a lane in TEST (R62, R64). -/

namespace Sys2Proof.Machine

variable (c : Chip) {n m : Nat}

/-! ### Symbols received -/

theorem Chip.rxSyms_regs (b : Bool) (l : List Nat) : (c.rxSyms n m b l).1.regs = c.regs := by
  unfold Chip.rxSyms
  dsimp only
  split <;> rfl

theorem Chip.rxSyms_mem (b : Bool) (l : List Nat) : (c.rxSyms n m b l).1.mem = c.mem := by
  unfold Chip.rxSyms
  dsimp only
  split <;> rfl

theorem Chip.rxSyms_length (b : Bool) (l : List Nat) : (c.rxSyms n m b l).1.lanes.length = c.lanes.length := by
  unfold Chip.rxSyms
  dsimp only
  split
  · exact c.modLane_length ..
  · rfl

/-- Of a lane, received symbols change the state of its precoding alone. -/
theorem Chip.rxSyms_lane {α : Type} {p : LaneS → α} (h : ∀ l k, p { l with precRx := k } = p l) (b : Bool) (l : List Nat) :
    p ((c.rxSyms n m b l).1.lane n m) = p (c.lane n m) := by
  unfold Chip.rxSyms
  dsimp only
  split
  · exact c.lane_modLane_keeps p (fun l => h l _) n m
  · rfl

theorem Chip.f_congr {c t : Chip} (h : t.regs = c.regs) (x : Fld) : t.f x = c.f x := by rw [Chip.f, Chip.f, Chip.rd, Chip.rd, h]

/-! ### What the checker took -/

/-- The checker of a lane after it compared symbols, and the counts it added to. -/
def LaneS.tookChecked (k : PatChk) (l : LaneS) : LaneS := { l with
  chk := { k with bits := 0, errs := 0, lost := false }
  bitCnt := satAdd 48 l.bitCnt k.bits, errCnt := satAdd 48 l.errCnt k.errs }

/-- A lane and its registers after its checker compared symbols. -/
def Chip.tookChecked (c : Chip) (n m : Nat) (k : PatChk) : Chip :=
  let c := (c.modLane n m (LaneS.tookChecked k)).setFb (F.lnPrbsStatLock n m) k.locked
  let c := if k.lost then c.ev (F.lnEvtPrbsLol n m) else c
  if k.locked then c.cdrSeen n m else c

theorem Chip.checkSyms_on (l : List Nat) (ht : c.laneState n m = lsTest) (hc : c.fb (F.lnPrbsCtrlChkEn n m) = true) :
    c.checkSyms n m l = (c.rxSyms n m (!patBinary (c.f (F.lnPrbsCtrlChkPat n m))) l).1.tookChecked n m
      (((c.rxSyms n m (!patBinary (c.f (F.lnPrbsCtrlChkPat n m))) l).1.lane n m).chk.take (c.f (F.lnPrbsCtrlChkPat n m))
        (patUnmap (c.f (F.lnPrbsCtrlChkPat n m)) (c.rxSyms n m (!patBinary (c.f (F.lnPrbsCtrlChkPat n m))) l).2)) :=
  if_pos ⟨ht, hc⟩

theorem Chip.cdrSeen_disjoint {x : Fld} (h : x.addr ≠ R.lnState n m ∨ x.lo + x.width ≤ 17 ∨ 18 ≤ x.lo) :
    (c.cdrSeen n m).f x = c.f x := by
  unfold Chip.cdrSeen
  dsimp only
  split
  · exact c.f_setF_disjoint 1 (h.imp id fun h => h.symm)
  · rfl

theorem Chip.cdrSeen_f {x : Fld} (h : x.addr ≠ R.lnState n m) : (c.cdrSeen n m).f x = c.f x := c.cdrSeen_disjoint (Or.inl h)

@[simp] theorem Chip.cdrSeen_lanes : (c.cdrSeen n m).lanes = c.lanes := by
  unfold Chip.cdrSeen
  dsimp only
  split
  · exact Chip.setF_lanes ..
  · rfl

variable (k : PatChk)

theorem Chip.tookChecked_lock : (c.tookChecked n m k).fb (F.lnPrbsStatLock n m) = k.locked := by
  have hst : (F.lnPrbsStatLock n m).addr ≠ R.lnState n m := by simp [F.lnPrbsStatLock, R.lnPrbsStat, R.lnState]
  have hev : (F.lnPrbsStatLock n m).addr ≠ (F.lnEvtPrbsLol n m).addr := by
    simp [F.lnPrbsStatLock, F.lnEvtPrbsLol, R.lnPrbsStat, R.lnEvt]
  have hset : ∀ u : Chip, (u.setFb (F.lnPrbsStatLock n m) k.locked).f (F.lnPrbsStatLock n m) = if k.locked then 1 else 0 := by
    intro u
    rw [Chip.setFb_def, Chip.f_setF_self _ _ (by simp [F.lnPrbsStatLock])]
    cases k.locked <;> rfl
  have hlol : ∀ u : Chip, (if k.lost then u.ev (F.lnEvtPrbsLol n m) else u).f (F.lnPrbsStatLock n m)
      = u.f (F.lnPrbsStatLock n m) := by
    intro u
    split
    · exact u.f_setF_ne 1 hev
    · rfl
  have hf : (c.tookChecked n m k).f (F.lnPrbsStatLock n m) = if k.locked then 1 else 0 := by
    unfold Chip.tookChecked
    dsimp only
    split
    · rw [Chip.cdrSeen_f _ hst, hlol, hset]
      simp [*]
    · rw [hlol, hset]
      simp [*]
  rw [Chip.fb_eq, hf]
  cases k.locked <;> rfl

theorem Chip.tookChecked_lol :
    (c.tookChecked n m k).f (F.lnEvtPrbsLol n m) = if k.lost then 1 else c.f (F.lnEvtPrbsLol n m) := by
  have hst : (F.lnEvtPrbsLol n m).addr ≠ R.lnState n m := by simp [F.lnEvtPrbsLol, R.lnEvt, R.lnState]
  have hlock : (F.lnEvtPrbsLol n m).addr ≠ (F.lnPrbsStatLock n m).addr := by
    simp [F.lnPrbsStatLock, F.lnEvtPrbsLol, R.lnPrbsStat, R.lnEvt]
  have hseen : ∀ u : Chip, (if k.locked then u.cdrSeen n m else u).f (F.lnEvtPrbsLol n m) = u.f (F.lnEvtPrbsLol n m) := by
    intro u
    split
    · exact u.cdrSeen_f hst
    · rfl
  refine (hseen _).trans ?_
  split
  · exact Chip.f_ev_self _ (by simp [F.lnEvtPrbsLol]) (by simp [F.lnEvtPrbsLol])
  · exact Chip.f_setF_ne _ _ hlock

theorem Chip.tookChecked_lane (h : n * 9 + m < c.lanes.length) :
    (c.tookChecked n m k).lane n m = (c.lane n m).tookChecked k := by
  have hlol : ∀ u : Chip, (if k.lost then u.ev (F.lnEvtPrbsLol n m) else u).lanes = u.lanes := by
    intro u
    split
    · exact Chip.ev_lanes ..
    · rfl
  have hseen : ∀ u : Chip, (if k.locked then u.cdrSeen n m else u).lanes = u.lanes := by
    intro u
    split
    · exact u.cdrSeen_lanes
    · rfl
  exact (Chip.lane_congr ((hseen _).trans ((hlol _).trans (Chip.setFb_lanes ..))) n m).trans (c.lane_modLane h _)

theorem Chip.tookChecked_keeps : c.Keeps (c.tookChecked n m k) [R.lnPrbsStat n m, R.lnEvt n m, R.lnState n m] := by
  have hset := ((Chip.Keeps.refl c [R.lnPrbsStat n m, R.lnEvt n m, R.lnState n m]).modLane n m
    (LaneS.tookChecked k)).setFb (x := F.lnPrbsStatLock n m) (v := k.locked) (by simp [F.lnPrbsStatLock])
  have hlol := Chip.Keeps.ite (p := k.lost = true) (fun _ => hset.ev (x := F.lnEvtPrbsLol n m) (by simp [F.lnEvtPrbsLol]))
    fun _ => hset
  exact Chip.Keeps.ite (fun _ => hlol.trans ((Chip.cdrSeen_keeps _ n m).mono (by simp))) fun _ => hlol

/-! ### Symbols that reach a lane in TEST -/

/-- What the checker of a lane shows after it took `l` (R64). -/
def Chip.Checked (c t : Chip) (n m : Nat) (k : PatChk) : Prop :=
  t.fb (F.lnPrbsStatLock n m) = k.locked ∧ t.f (F.lnEvtPrbsLol n m) = (if k.lost then 1 else c.f (F.lnEvtPrbsLol n m))
    ∧ (t.lane n m).bitCnt = satAdd 48 (c.lane n m).bitCnt k.bits ∧ (t.lane n m).errCnt = satAdd 48 (c.lane n m).errCnt k.errs
    ∧ c.Keeps t [R.lnPrbsStat n m, R.lnEvt n m, R.lnState n m]

theorem Chip.checkSyms_checked (l : List Nat) (ht : c.laneState n m = lsTest) (hc : c.fb (F.lnPrbsCtrlChkEn n m) = true)
    (hl : n * 9 + m < c.lanes.length) : c.Checked (c.checkSyms n m l) n m
      ((c.lane n m).chk.take (c.f (F.lnPrbsCtrlChkPat n m))
        (patUnmap (c.f (F.lnPrbsCtrlChkPat n m)) (c.rxSyms n m (!patBinary (c.f (F.lnPrbsCtrlChkPat n m))) l).2)) := by
  rw [c.checkSyms_on l ht hc]
  generalize (!patBinary (c.f (F.lnPrbsCtrlChkPat n m))) = b
  rw [c.rxSyms_lane (p := LaneS.chk) (fun _ _ => rfl) b l]
  generalize (c.lane n m).chk.take _ _ = k
  have hregs := c.rxSyms_regs (n := n) (m := m) b l
  have hlane := Chip.tookChecked_lane (c.rxSyms n m b l).1 k (by rwa [c.rxSyms_length])
  refine ⟨Chip.tookChecked_lock _ k, ?_, ?_, ?_,
    (Chip.Keeps.of_same hregs (c.rxSyms_mem b l)).trans (Chip.tookChecked_keeps _ k)⟩
  · rw [Chip.tookChecked_lol, Chip.f_congr hregs]
  · rw [hlane, ← c.rxSyms_lane (p := LaneS.bitCnt) (fun _ _ => rfl) b l]
    rfl
  · rw [hlane, ← c.rxSyms_lane (p := LaneS.errCnt) (fun _ _ => rfl) b l]
    rfl

theorem Chip.testRx_normal (l : List Nat) (ht : c.laneState n m = lsTest) (hl : c.f (F.lnCtrlLoopback n m) = 0) :
    c.testRx n m l = c.checkSyms n m l := by
  rw [Chip.testRx, if_pos ht, hl]
  rfl

theorem Chip.Checked.settled {c t d : Chip} {k : PatChk} (h : c.Checked t n m k) (ha : t.Alike d []) :
    c.Checked d n m k := by
  obtain ⟨hlock, hlol, hbits, herrs, hkeeps⟩ := h
  refine ⟨(ha.fb_reg (by simp) (lnReg_ge n m 0x38)).trans hlock, (ha.f_reg (by simp) (lnReg_ge n m 0x2C)).trans hlol, ?_, ?_,
    hkeeps.settled ha⟩
  · rwa [ha.lane]
  · rwa [ha.lane]

end Sys2Proof.Machine
end

section
/-! The events of the lanes (R48, R50, R51, R59, R62, R64). -/

namespace Sys2Proof.Machine

theorem State.fresh_rxSyms (s : State) (n m : Nat) (b : Bool) (l : List Nat) :
    (s.fresh.rxSyms n m b l).2 = (s.chip.rxSyms n m b l).2 := by
  unfold Chip.rxSyms
  rw [s.fresh_fb, s.fresh_fb, show s.fresh.lane n m = s.chip.lane n m from rfl]
  dsimp only
  split <;> rfl

/-- Symbols that reach a lane in TEST, out of loopback, are checked (R64). -/
theorem Does.of_testRx {s : State} {n m : Nat} {i : Instr} {ok : Bool} {l : List Nat}
    (hi : exec i s = runIn s (laneDomain n) ok fun c => c.testRx n m l)
    (hr : s.chip.domainRuns (laneDomain n) = true) (hk : ok = true) (ht : s.chip.laneState n m = lsTest)
    (hc : s.chip.fb (F.lnPrbsCtrlChkEn n m) = true) (hb : s.chip.f (F.lnCtrlLoopback n m) = 0)
    (hl : n * 9 + m < s.chip.lanes.length) :
    Does i s fun t => s.chip.Checked t n m ((s.chip.lane n m).chk.take (s.chip.f (F.lnPrbsCtrlChkPat n m))
      (patUnmap (s.chip.f (F.lnPrbsCtrlChkPat n m))
        (s.chip.rxSyms n m (!patBinary (s.chip.f (F.lnPrbsCtrlChkPat n m))) l).2)) := by
  refine Does.of_runIn (fun c => c.testRx n m l) hi hr hk (s.fresh.testRx_normal l ht hb) fun d hd _ _ => ?_
  obtain ⟨hlock, hlol, hbits, herrs, hkeeps⟩ := (s.fresh.checkSyms_checked l ht hc hl).settled hd
  rw [s.fresh_rxSyms] at hlock hlol hbits herrs
  exact ⟨hlock, hlol, hbits, herrs, (s.keeps_fresh _).trans hkeeps⟩

section Events
variable {s : State} {n m : Nat} (hm : m < laneCount n) (hn : n < 10) (hr : s.chip.domainRuns (laneDomain n) = true)
include hm hn hr

theorem trainingComplete_shows (x : LaneSet) (h : s.chip.laneState n m = lsTrain) :
    Does (.laneTrainingComplete n m x) s fun t => t.laneState n m = lsActive ∧ t.f (F.lnEyeEyeSaved n m) = 0
      ∧ t.f (F.lnStateCdrLock n m) = 1 ∧ t.f (F.lnStateFrozen n m) = 0 ∧ s.chip.Keeps t (laneRegs n m) := by
  refine Does.of_runIn (fun c => c.laneTrained n m x) rfl hr (by simp [hm, hn]) rfl fun d hd _ _ => ⟨?_, ?_, ?_, ?_, ?_⟩
  · exact (hd.f_reg (by simp) (lnReg_ge n m 4)).trans (s.fresh.laneTrained_state x h)
  · exact (hd.f_reg (by simp) (lnReg_ge n m 0x28)).trans (s.fresh.laneTrained_saved x h)
  · exact (hd.f_reg (by simp) (lnReg_ge n m 4)).trans (s.fresh.laneTrained_cdr x h)
  · exact (hd.f_reg (by simp) (lnReg_ge n m 4)).trans (s.fresh.laneTrained_frozen x h)
  · exact ((s.keeps_fresh _).trans (s.fresh.laneTrained_keeps x h)).settled hd

theorem trainingAbandoned_shows (x : LaneSet) (h : s.chip.laneState n m = lsTrain) :
    Does (.laneTrainingAbandoned n m x) s fun t => t.laneState n m = (if n = 9 then lsOff else lsDeep)
      ∧ s.chip.Keeps t (laneRegs n m) := by
  refine Does.of_runIn (fun c => c.laneTrainAbandoned n m x) rfl hr (by simp [hm, hn]) rfl fun d hd _ _ => ⟨?_, ?_⟩
  · exact (hd.f_reg (by simp) (lnReg_ge n m 4)).trans (s.fresh.laneTrainAbandoned_state x h)
  · exact ((s.keeps_fresh _).trans (s.fresh.laneTrainAbandoned_keeps x h)).settled hd

theorem signalDetect_shows (mv : Nat) (h1 : s.chip.laneState n m ≠ lsOff) (h2 : s.chip.laneState n m ≠ lsCond) :
    Does (.laneSignalDetectChange n m mv) s fun t =>
      t.f (F.lnStateSigDet n m) = (if 80 < mv then 1 else if mv < 40 then 0 else s.chip.f (F.lnStateSigDet n m))
        ∧ s.chip.Keeps t [R.lnState n m] := by
  refine Does.of_runIn (fun c => c.signalDetect n m mv) rfl hr (by simp [hm, hn]) rfl fun d hd _ _ => ⟨?_, ?_⟩
  · exact (hd.f_reg (by simp) (lnReg_ge n m 4)).trans (s.fresh.signalDetect_sigDet mv h1 h2)
  · exact ((s.keeps_fresh _).trans (s.fresh.signalDetect_keeps mv)).settled hd

theorem laneLos_shows (h : s.chip.laneState n m = lsActive) (hu : n = 9 → s.chip.ulSt ≠ ulUp) :
    Does (.laneLos n m) s fun t => t.f (F.lnEvtLos n m) = 1 ∧ s.chip.Keeps t [R.lnEvt n m] := by
  refine Does.of_runIn (fun c => c.laneFails n m false) rfl hr (by simp [hm, hn]) (s.fresh.laneFails_alone false hm hu)
    fun d hd _ _ => ⟨?_, ((s.keeps_fresh _).trans s.fresh.laneLos_keeps).settled hd⟩
  refine (hd.f_reg (by simp) (lnReg_ge n m 0x2C)).trans ?_
  rw [if_neg Bool.false_ne_true, s.fresh.laneLos_active h]
  exact Chip.f_ev_self _ (by simp [F.lnEvtLos]) (by simp [F.lnEvtLos])

theorem laneCdrLol_shows (h : s.chip.laneState n m = lsActive) (hu : n = 9 → s.chip.ulSt ≠ ulUp) :
    Does (.laneCdrLol n m) s fun t => t.f (F.lnEvtCdrLol n m) = 1 ∧ t.f (F.lnStateCdrLock n m) = 0
      ∧ s.chip.Keeps t [R.lnEvt n m, R.lnState n m] := by
  refine Does.of_runIn (fun c => c.laneFails n m true) rfl hr (by simp [hm, hn]) (s.fresh.laneFails_alone true hm hu)
    fun d hd _ _ => ⟨?_, ?_, ((s.keeps_fresh _).trans s.fresh.laneCdrLol_keeps).settled hd⟩
  · refine (hd.f_reg (by simp) (lnReg_ge n m 0x2C)).trans ?_
    rw [if_pos rfl, s.fresh.laneCdrLol_active h, Chip.f_setF_ne _ _ (by simp [F.lnEvtCdrLol, F.lnStateCdrLock, R.lnEvt, R.lnState])]
    exact Chip.f_ev_self _ (by simp [F.lnEvtCdrLol]) (by simp [F.lnEvtCdrLol])
  · refine (hd.f_reg (by simp) (lnReg_ge n m 4)).trans ?_
    rw [if_pos rfl, s.fresh.laneCdrLol_active h]
    exact Chip.f_setF_self _ (x := F.lnStateCdrLock n m) 0 (by simp [F.lnStateCdrLock])

end Events

/-- Settles O3: each event is one operation on its lane, which settling leaves as it is. -/
theorem laneEvents : Obligations.LaneEvents := by
  refine ⟨fun s n m x hm hn hr h => ⟨trainingComplete_shows hm hn hr x h, trainingAbandoned_shows hm hn hr x h⟩,
    fun s n m hm hn hr => ⟨fun mv h1 h2 => signalDetect_shows hm hn hr mv h1 h2,
      fun h hu => ⟨laneLos_shows hm hn hr h hu, laneCdrLol_shows hm hn hr h hu⟩, fun l hall ht hc hb hl => ?_⟩⟩
  dsimp only
  refine ⟨Does.of_testRx rfl hr (by simp [hm, hn, hall]) ht hc hb hl, fun before after hl' => ?_⟩
  subst hl'
  exact Does.of_testRx rfl hr (by simp [hm, hn, hall]) ht hc hb hl

end Sys2Proof.Machine
end

section
/-! The windows of adaptation (R56, R57). -/

namespace Sys2Proof.Machine

variable (c : Chip) {n m : Nat}

/-- What the window counts for the guard interval leaves of the lane's runs of windows. -/
theorem LaneS.guardWindow_runs (busy : Bool) (l : LaneS) :
    (l.guardWindow busy).idleRun = l.idleRun ∧ (l.guardWindow busy).busyRun = l.busyRun := by
  unfold LaneS.guardWindow
  dsimp only
  split <;> exact ⟨rfl, rfl⟩

/-- A window without enough transitions, the last of the quiet ones that the freeze waits for (R56). -/
theorem Chip.adaptWindow_freezes (x : LaneSet) {edges : Nat} (hst : c.laneState n m = lsTrain ∨ c.laneState n m = lsActive)
    (hq : edges < c.f (F.lnAdaptTdMin n m)) (hf : c.fb (F.lnStateFrozen n m) = false)
    (hrun : c.f (F.lnAdaptFreezeWin n m) ≤ (c.lane n m).idleRun + 1) :
    ∃ u : Chip, c.adaptWindow n m edges x = (u.setF (F.lnStateFrozen n m) 1).ev (F.lnEvtFreeze n m)
      ∧ u.regs = c.regs ∧ u.mem = c.mem := by
  have hidle : ∀ g, ((c.modLane n m (LaneS.guardWindow g)).lane n m).idleRun = (c.lane n m).idleRun := fun g =>
    c.lane_modLane_keeps LaneS.idleRun (fun l => (l.guardWindow_runs g).1) n m
  have hst' : c.laneState n m = lsTrain ∨ c.laneState n m = lsActive ∨ c.laneState n m = lsFast ∨ c.laneState n m = lsDeep
      ∨ c.laneState n m = lsCond := hst.elim Or.inl fun h => Or.inr (Or.inl h)
  unfold Chip.adaptWindow
  simp only [hst', decide_eq_false (Nat.not_le.2 hq), hst, true_and, if_true, Bool.false_and, Bool.false_eq_true, if_false]
  split
  · simp only [Chip.modLane_fb, Chip.modLane_f, hf, hidle, hrun, Bool.not_false, decide_true, Bool.and_self, if_true]
    exact ⟨_, rfl, rfl, rfl⟩
  · simp only [Chip.modLane_fb, Chip.modLane_f, hf, hrun, Bool.not_false, decide_true, Bool.and_self, if_true]
    exact ⟨_, rfl, rfl, rfl⟩

/-- A busy window, the last of those that end the freeze (R57): what was frozen does not adapt in it. -/
theorem Chip.adaptWindow_resumes (x : LaneSet) {edges : Nat} (hst : c.laneState n m = lsTrain ∨ c.laneState n m = lsActive)
    (hb : c.f (F.lnAdaptTdMin n m) ≤ edges) (hf : c.fb (F.lnStateFrozen n m) = true)
    (hrun : c.f (F.lnAdaptResumeWin n m) ≤ (c.lane n m).busyRun + 1) :
    ∃ u : Chip, c.Keeps u [R.lnState n m] ∧ c.adaptWindow n m edges x = u.clearFreeze n m := by
  have hst' : c.laneState n m = lsTrain ∨ c.laneState n m = lsActive ∨ c.laneState n m = lsFast ∨ c.laneState n m = lsDeep
      ∨ c.laneState n m = lsCond := hst.elim Or.inl fun h => Or.inr (Or.inl h)
  have hbusy : (decide (c.f (F.lnAdaptTdMin n m) ≤ edges) && c.laneState n m != lsFast && c.laneState n m != lsDeep) = true := by
    rw [decide_eq_true hb]
    rcases hst with h | h <;> rw [h] <;> rfl
  have hrun1 : ∀ g, ((((c.cdrSeen n m).modLane n m (LaneS.guardWindow g)).lane n m).busyRun) = (c.lane n m).busyRun := fun g =>
    (Chip.lane_modLane_keeps _ LaneS.busyRun (fun l => (l.guardWindow_runs g).2) n m).trans
      (congrArg LaneS.busyRun (Chip.lane_congr c.cdrSeen_lanes n m))
  have hrun2 : ((c.cdrSeen n m).lane n m).busyRun = (c.lane n m).busyRun :=
    congrArg LaneS.busyRun (Chip.lane_congr c.cdrSeen_lanes n m)
  have hfrozen : (c.cdrSeen n m).fb (F.lnStateFrozen n m) = true := by
    rw [Chip.fb_eq, Chip.cdrSeen_disjoint, ← Chip.fb_eq, hf]
    simp [F.lnStateFrozen]
  have hwin : (c.cdrSeen n m).f (F.lnAdaptResumeWin n m) = c.f (F.lnAdaptResumeWin n m) :=
    c.cdrSeen_f (by simp [F.lnAdaptResumeWin, R.lnAdapt, R.lnState])
  have hkeep := c.cdrSeen_keeps n m
  unfold Chip.adaptWindow
  simp only [hst', hbusy, hst, true_and, if_true]
  split
  · simp only [Chip.modLane_fb, Chip.modLane_f, hfrozen, hwin, hrun1, hrun, Bool.not_true, Bool.and_false,
      Bool.false_eq_true, if_false, decide_true, Bool.and_true, if_true]
    exact ⟨_, (hkeep.modLane ..).modLane .., rfl⟩
  · simp only [Chip.modLane_fb, Chip.modLane_f, hfrozen, hwin, hrun2, hrun, Bool.not_true, Bool.and_false,
      Bool.false_eq_true, if_false, decide_true, Bool.and_true, if_true]
    exact ⟨_, hkeep.modLane .., rfl⟩

section Windows
variable {s : State} {edges : Nat} {x : LaneSet} (hm : m < laneCount n) (hn : n < 10)
  (hr : s.chip.domainRuns (laneDomain n) = true) (hst : s.chip.laneState n m = lsTrain ∨ s.chip.laneState n m = lsActive)
include hm hn hr hst

theorem adaptWindowEnd_freezes (hq : edges < s.chip.f (F.lnAdaptTdMin n m)) (hf : s.chip.fb (F.lnStateFrozen n m) = false)
    (hrun : s.chip.f (F.lnAdaptFreezeWin n m) ≤ (s.chip.lane n m).idleRun + 1) :
    Does (.adaptWindowEnd n m edges x) s fun t => t.f (F.lnStateFrozen n m) = 1 ∧ t.f (F.lnEvtFreeze n m) = 1
      ∧ s.chip.Keeps t [R.lnState n m, R.lnEvt n m] := by
  obtain ⟨u, he, hregs, hmem⟩ := s.fresh.adaptWindow_freezes x hst hq hf hrun
  refine Does.of_runIn (fun c => c.adaptWindow n m edges x) rfl hr (by simp [hm, hn]) he fun d hd _ _ => ⟨?_, ?_, ?_⟩
  · refine (hd.f_reg (by simp) (lnReg_ge n m 4)).trans ?_
    rw [Chip.ev_def, Chip.f_setF_ne _ _ (by simp [F.lnStateFrozen, F.lnEvtFreeze, R.lnState, R.lnEvt])]
    exact u.f_setF_self (x := F.lnStateFrozen n m) 1 (by simp [F.lnStateFrozen])
  · exact (hd.f_reg (by simp) (lnReg_ge n m 0x2C)).trans (Chip.f_ev_self _ (by simp [F.lnEvtFreeze]) (by simp [F.lnEvtFreeze]))
  · exact ((((s.keeps_fresh _).same hregs hmem).setF (by simp [F.lnStateFrozen])).ev (by simp [F.lnEvtFreeze])).settled hd

theorem adaptWindowEnd_resumes (hb : s.chip.f (F.lnAdaptTdMin n m) ≤ edges) (hf : s.chip.fb (F.lnStateFrozen n m) = true)
    (hrun : s.chip.f (F.lnAdaptResumeWin n m) ≤ (s.chip.lane n m).busyRun + 1) :
    Does (.adaptWindowEnd n m edges x) s fun t => t.f (F.lnStateFrozen n m) = 0 ∧ s.chip.Keeps t [R.lnState n m] := by
  obtain ⟨u, hu, he⟩ := s.fresh.adaptWindow_resumes x hst hb hf hrun
  refine Does.of_runIn (fun c => c.adaptWindow n m edges x) rfl hr (by simp [hm, hn]) he fun d hd _ _ => ⟨?_, ?_⟩
  · exact (hd.f_reg (by simp) (lnReg_ge n m 4)).trans (u.clearFreeze_frozen n m)
  · exact (((s.keeps_fresh _).trans hu).trans (u.clearFreeze_keeps n m)).settled hd

end Windows

/-- Settles O4: the window that completes a run of quiet or of busy ones. -/
theorem laneWindows : Obligations.LaneWindows := fun _ _ _ _ _ hm hn hr hst =>
  ⟨adaptWindowEnd_freezes hm hn hr hst, adaptWindowEnd_resumes hm hn hr hst⟩

end Sys2Proof.Machine
end

section
/-! SUPPORT. What a guard interval does to a lane and to its training (R58, R60, R100). -/

namespace Sys2Proof.Machine

variable (c : Chip) {n m : Nat}

/-! ### The receive set -/

theorem Chip.laneSet_congr {c t : Chip} (h : ∀ a ∈ coeffRegs n m, t.rd a = c.rd a) : t.laneSet n m = c.laneSet n m := by
  have h1 : t.rd (R.lnRxeq n m) = c.rd (R.lnRxeq n m) := h _ (by simp [coeffRegs])
  have h2 : t.rd (R.lnFfe0 n m) = c.rd (R.lnFfe0 n m) := h _ (by simp [coeffRegs])
  unfold Chip.laneSet
  rw [h1, h2]
  by_cases h9 : n = 9
  · rw [h _ (by simp [coeffRegs, h9]), h (R.lnFfe2 m) (by simp [coeffRegs, h9]), h (R.lnDfe m) (by simp [coeffRegs, h9])]
  · simp only [if_neg h9]

theorem Chip.loadSet_rxeq (x : LaneSet) : (c.loadSet n m x).rd (R.lnRxeq n m) = x.rxeq := by
  have h0 : ((c.wr (R.lnRxeq n m) x.rxeq).wr (R.lnFfe0 n m) x.ffe0).rd (R.lnRxeq n m) = x.rxeq := by
    rw [Chip.rd_wr_ne _ _ (by simp [R.lnRxeq, R.lnFfe0]), Chip.rd_wr_self]
  unfold Chip.loadSet
  dsimp only
  split
  next h9 =>
    subst h9
    rw [Chip.rd_wr_ne _ _ (by simp only [R.lnRxeq, R.lnDfe]; omega), Chip.rd_wr_ne _ _ (by simp only [R.lnRxeq, R.lnFfe2]; omega),
      Chip.rd_wr_ne _ _ (by simp only [R.lnRxeq, R.lnFfe1]; omega), h0]
  next => exact h0

theorem Chip.loadSet_ffe0 (x : LaneSet) : (c.loadSet n m x).rd (R.lnFfe0 n m) = x.ffe0 := by
  unfold Chip.loadSet
  dsimp only
  split
  next h9 =>
    subst h9
    rw [Chip.rd_wr_ne _ _ (by simp only [R.lnFfe0, R.lnDfe]; omega), Chip.rd_wr_ne _ _ (by simp only [R.lnFfe0, R.lnFfe2]; omega),
      Chip.rd_wr_ne _ _ (by simp only [R.lnFfe0, R.lnFfe1]; omega), Chip.rd_wr_self]
  next => exact Chip.rd_wr_self ..

theorem Chip.loadSet_uplink (x : LaneSet) : (c.loadSet 9 m x).rd (R.lnFfe1 m) = x.ffe1
    ∧ (c.loadSet 9 m x).rd (R.lnFfe2 m) = x.ffe2 ∧ (c.loadSet 9 m x).rd (R.lnDfe m) = x.dfe := by
  unfold Chip.loadSet
  rw [if_pos rfl]
  refine ⟨?_, ?_, Chip.rd_wr_self ..⟩
  · rw [Chip.rd_wr_ne _ _ (by simp [R.lnFfe1, R.lnDfe]), Chip.rd_wr_ne _ _ (by simp [R.lnFfe1, R.lnFfe2]), Chip.rd_wr_self]
  · rw [Chip.rd_wr_ne _ _ (by simp [R.lnFfe2, R.lnDfe]), Chip.rd_wr_self]

/-- Loading a set changes registers alone. -/
theorem Chip.loadSet_same (x : LaneSet) : (c.loadSet n m x).lanes = c.lanes ∧ (c.loadSet n m x).links = c.links
    ∧ (c.loadSet n m x).reports = c.reports := by
  unfold Chip.loadSet
  dsimp only
  split
  · exact ⟨by rw [Chip.wr_lanes, Chip.wr_lanes, Chip.wr_lanes, Chip.wr_lanes, Chip.wr_lanes],
      by rw [Chip.wr_links, Chip.wr_links, Chip.wr_links, Chip.wr_links, Chip.wr_links],
      by rw [Chip.wr_reports, Chip.wr_reports, Chip.wr_reports, Chip.wr_reports, Chip.wr_reports]⟩
  · exact ⟨by rw [Chip.wr_lanes, Chip.wr_lanes], by rw [Chip.wr_links, Chip.wr_links],
      by rw [Chip.wr_reports, Chip.wr_reports]⟩

/-! ### The drift guard of a lane -/

/-- The interval ends with an evaluation: it shows its eye metric. -/
def Chip.guardSeen (c : Chip) (n m eye : Nat) : Chip := (c.endGuard n m).setF (F.lnEyeEyeLast n m) eye

/-- The freeze is cleared, and the snap is counted and reported (R58). -/
def Chip.snapCounted (c : Chip) (n m : Nat) : Chip :=
  (((c.clearFreeze n m).ev (F.lnEvtSnap n m)).inc (F.lnSnapCntCount n m)).report 0x02 (laneInst n m)

/-- What the drift guard does with an eye metric (R58). -/
def Chip.guardActs (c : Chip) (n m eye : Nat) : Chip :=
  if c.f (F.lnGuardEyeGood n m) ≤ eye then
    (c.modLane n m fun l => { l with good := c.laneSet n m }).setF (F.lnEyeEyeSaved n m) eye
  else if eye < c.f (F.lnGuardEyeSnap n m) then
    (c.loadSet n m (c.lane n m).good).snapCounted n m
  else c

theorem Chip.guardEnd_skipped (eye : Nat) (hst : c.laneState n m = lsTrain ∨ c.laneState n m = lsActive)
    (hw : (c.lane n m).gWin = 1024) (hb : (c.lane n m).gBusy < 512) : c.guardEnd n m eye = c.endGuard n m := by
  unfold Chip.guardEnd
  rw [if_pos ⟨hst, hw⟩]
  exact if_pos hb

theorem Chip.guardSeen_f {eye : Nat} {x : Fld} (h : x.addr ≠ R.lnEye n m) : (c.guardSeen n m eye).f x = c.f x :=
  Chip.f_setF_ne _ _ h

theorem Chip.guardSeen_fb {eye : Nat} {x : Fld} (h : x.addr ≠ R.lnEye n m) : (c.guardSeen n m eye).fb x = c.fb x := by
  rw [Chip.fb_eq, c.guardSeen_f h, Chip.fb_eq]

theorem Chip.guardSeen_last {eye : Nat} (h : eye < 256) : (c.guardSeen n m eye).f (F.lnEyeEyeLast n m) = eye := by
  rw [Chip.guardSeen, Chip.f_setF_self _ _ (by simp [F.lnEyeEyeLast])]
  exact Nat.mod_eq_of_lt h

theorem Chip.guardSeen_saved {eye : Nat} : (c.guardSeen n m eye).f (F.lnEyeEyeSaved n m) = c.f (F.lnEyeEyeSaved n m) :=
  Chip.f_setF_disjoint _ _ (Or.inr (Or.inl (by simp [F.lnEyeEyeLast, F.lnEyeEyeSaved])))

theorem Chip.guardSeen_lane {eye : Nat} (h : n * 9 + m < c.lanes.length) :
    (c.guardSeen n m eye).lane n m = { c.lane n m with gWin := 0, gBusy := 0 } :=
  (Chip.lane_congr (Chip.setF_lanes ..) n m).trans (c.lane_modLane h _)

theorem Chip.guardSeen_keeps (eye : Nat) : c.Keeps (c.guardSeen n m eye) [R.lnEye n m] :=
  (c.endGuard_keeps n m _).setF (List.mem_singleton_self _)

/-- The coefficients of a lane are none of its other registers. -/
theorem coeffRegs_ne {a k : Nat} (h : a ∈ coeffRegs n m) (hk : k < 0x0C ∨ 0x20 ≤ k) :
    a ≠ 0x108000 + n * 0x10000 + m * 0x100 + k := by
  have := coeffRegs_offset n m h
  omega

theorem Chip.guardSeen_laneSet {eye : Nat} : (c.guardSeen n m eye).laneSet n m = c.laneSet n m :=
  Chip.laneSet_congr fun a ha => (c.guardSeen_keeps eye).1 a
    (by simpa [R.lnEye] using coeffRegs_ne ha (k := 0x28) (by decide))
    (reg_ne_scp (by have := coeffRegs_offset n m ha; omega)).1

/-- An interval with enough busy windows is evaluated; the guard acts on it in ACTIVE with adaptation on (R58, R60). -/
theorem Chip.guardEnd_judged {eye : Nat} (heye : eye < 256) (hst : c.laneState n m = lsTrain ∨ c.laneState n m = lsActive)
    (hw : (c.lane n m).gWin = 1024) (hb : 512 ≤ (c.lane n m).gBusy) :
    c.guardEnd n m eye = if c.fb (F.lnAdaptAdaptEn n m) = true ∧ c.laneState n m = lsActive
      then (c.guardSeen n m eye).guardActs n m eye else c.guardSeen n m eye := by
  have hen : (c.guardSeen n m eye).fb (F.lnAdaptAdaptEn n m) = c.fb (F.lnAdaptAdaptEn n m) :=
    c.guardSeen_fb (by simp [F.lnAdaptAdaptEn, R.lnAdapt, R.lnEye])
  unfold Chip.guardSeen at hen
  unfold Chip.guardEnd
  dsimp only
  rw [if_pos ⟨hst, hw⟩, if_neg (Nat.not_lt.2 hb), Nat.min_eq_left (by omega : eye ≤ 255), hen]
  by_cases h : c.fb (F.lnAdaptAdaptEn n m) = true ∧ c.laneState n m = lsActive
  · rw [if_pos h, if_pos (by rw [h.1, h.2]; rfl)]
    rfl
  · rw [if_neg h, if_neg (by simpa using h)]
    rfl

/-! ### What the guard acts on -/

variable {eye : Nat}

theorem Chip.guardActs_saves (h : c.f (F.lnGuardEyeGood n m) ≤ eye) :
    c.guardActs n m eye = (c.modLane n m fun l => { l with good := c.laneSet n m }).setF (F.lnEyeEyeSaved n m) eye := if_pos h

theorem Chip.guardActs_snaps (h1 : eye < c.f (F.lnGuardEyeGood n m)) (h2 : eye < c.f (F.lnGuardEyeSnap n m)) :
    c.guardActs n m eye = (c.loadSet n m (c.lane n m).good).snapCounted n m := by
  rw [Chip.guardActs, if_neg (Nat.not_le.2 h1), if_pos h2]

theorem Chip.guardActs_waits (h1 : eye < c.f (F.lnGuardEyeGood n m)) (h2 : c.f (F.lnGuardEyeSnap n m) ≤ eye) :
    c.guardActs n m eye = c := by
  rw [Chip.guardActs, if_neg (Nat.not_le.2 h1), if_neg (Nat.not_lt.2 h2)]

theorem Chip.snapCounted_keeps : c.Keeps (c.snapCounted n m) [R.lnState n m, R.lnEvt n m, R.lnSnapCnt n m] :=
  ((((c.clearFreeze_keeps n m).mono (by simp)).ev (by simp [F.lnEvtSnap])).inc (by simp [F.lnSnapCntCount])).same
    (Chip.report_regs ..) (Chip.report_mem ..)

theorem Chip.snapCounted_frozen : (c.snapCounted n m).f (F.lnStateFrozen n m) = 0 := by
  rw [Chip.snapCounted, Chip.report_f, Chip.inc_def,
    Chip.f_setF_ne _ _ (by simp [F.lnStateFrozen, F.lnSnapCntCount, R.lnState, R.lnSnapCnt]),
    Chip.ev_def, Chip.f_setF_ne _ _ (by simp [F.lnStateFrozen, F.lnEvtSnap, R.lnState, R.lnEvt]), Chip.clearFreeze_frozen]

theorem Chip.snapCounted_event : (c.snapCounted n m).f (F.lnEvtSnap n m) = 1 := by
  rw [Chip.snapCounted, Chip.report_f, Chip.inc_def,
    Chip.f_setF_ne _ _ (by simp [F.lnEvtSnap, F.lnSnapCntCount, R.lnEvt, R.lnSnapCnt])]
  exact Chip.f_ev_self _ (by simp [F.lnEvtSnap]) (by simp [F.lnEvtSnap])

theorem Chip.snapCounted_count :
    (c.snapCounted n m).f (F.lnSnapCntCount n m) = satAdd 16 (c.f (F.lnSnapCntCount n m)) 1 := by
  rw [Chip.snapCounted, Chip.report_f, Chip.f_inc_self _ (by simp [F.lnSnapCntCount]), Chip.ev_def,
    Chip.f_setF_ne _ _ (by simp [F.lnEvtSnap, F.lnSnapCntCount, R.lnEvt, R.lnSnapCnt]),
    Chip.clearFreeze_f _ n m (Or.inl (by simp [F.lnSnapCntCount, R.lnState, R.lnSnapCnt]))]
  rfl

theorem Chip.snapCounted_lane (h : n * 9 + m < c.lanes.length) :
    (c.snapCounted n m).lane n m = { c.lane n m with idleRun := 0, busyRun := 0 } := by
  have hl : (c.snapCounted n m).lanes = (c.modLane n m fun l => { l with idleRun := 0, busyRun := 0 }).lanes := by
    rw [Chip.snapCounted, Chip.report_lanes, Chip.inc_lanes, Chip.ev_lanes, Chip.clearFreeze, Chip.setF_lanes]
  rw [Chip.lane_congr hl, Chip.lane_modLane _ h]

theorem Chip.snapCounted_reports : (c.snapCounted n m).reports = c.reports ++ [⟨0x02, laneInst n m, false⟩] := by
  rw [Chip.snapCounted, Chip.report_reports, Chip.inc_reports, Chip.ev_reports, Chip.clearFreeze, Chip.setF_reports,
    Chip.modLane_reports]

theorem Chip.guardActs_keeps : c.Keeps (c.guardActs n m eye) (R.lnEvt n m :: R.lnSnapCnt n m :: laneRegs n m) := by
  have hset := (c.loadSet_keeps n m (c.lane n m).good).mono (l' := R.lnEvt n m :: R.lnSnapCnt n m :: laneRegs n m)
    fun a h => by simp [coeffRegs_subset_laneRegs n m h]
  refine Chip.Keeps.ite (fun _ => ((Chip.Keeps.refl c _).modLane ..).setF (by simp [F.lnEyeEyeSaved, laneRegs])) fun _ =>
    Chip.Keeps.ite (fun _ => ?_) fun _ => Chip.Keeps.refl c _
  exact hset.trans ((Chip.snapCounted_keeps _).mono (by simp [laneRegs]))

theorem Chip.guardActs_links : (c.guardActs n m eye).links = c.links := by
  unfold Chip.guardActs
  split
  · rw [Chip.setF_links, Chip.modLane_links]
  · split
    · rw [Chip.snapCounted, Chip.report_links, Chip.inc_links, Chip.ev_links, Chip.clearFreeze, Chip.setF_links,
        Chip.modLane_links, (c.loadSet_same _).2.1]
    · rfl

/-! ### The training of a link (R100) -/

theorem Chip.link_congr {c t : Chip} (h : t.links = c.links) (n : Nat) : t.link n = c.link n := by
  rw [Chip.link, h, Chip.link]

theorem Chip.guardTrain_idle (h1 : c.linkSt n ≠ lkEqualize) (h2 : (c.link n).swap = none) : c.guardTrain n m eye = c := by
  unfold Chip.guardTrain
  rw [h2]
  exact if_pos (by simp [h1])

theorem Chip.swapMirror_none (h : (c.link n).swap = none) : c.swapMirror n = c := by rw [Chip.swapMirror, h]

theorem Chip.swapMirror_keeps : c.Keeps (c.swapMirror n) [R.swapStat n] := by
  unfold Chip.swapMirror
  split
  · exact Chip.Keeps.refl c _
  · refine Chip.Keeps.ite (fun _ => ?_) fun _ => Chip.Keeps.refl c _
    exact (Chip.Keeps.of_same (u := c.modSwap n fun s => { s with step := 4 }) rfl rfl).setF (List.mem_singleton_self _)

theorem Chip.guardTrain_keeps : c.Keeps (c.guardTrain n m eye) [R.swapStat n] := by
  unfold Chip.guardTrain
  refine Chip.Keeps.ite (fun _ => Chip.Keeps.refl c _) fun _ => Chip.Keeps.ite (fun _ => ?_) fun _ =>
    Chip.Keeps.ite (fun _ => Chip.Keeps.of_same rfl rfl) fun _ => Chip.Keeps.of_same rfl rfl
  exact (Chip.Keeps.of_same rfl rfl).trans (Chip.swapMirror_keeps _)

/-- What an update of a lane's training keeps of it, whether the lane exists or not. -/
theorem Chip.laneTr_modLaneTr_keeps {α : Type} (p : LaneTr → α) {g : LaneTr → LaneTr} (h : ∀ t, p (g t) = p t) (n m : Nat) :
    p ((c.modLaneTr n m g).laneTr n m) = p (c.laneTr n m) := by
  simp only [Chip.laneTr, Chip.link, Chip.modLaneTr, Chip.modLink, List.getElem?_modify_eq]
  cases c.links[n]? with
  | none => rfl
  | some l =>
    simp only [Option.map_eq_map, Option.map_some, Option.getD_some, List.getElem?_modify_eq]
    cases l.train[m]? with
    | none => rfl
    | some t => exact h t

theorem Chip.laneTr_modLaneTr (h1 : n < c.links.length) (h2 : m < (c.link n).train.length) (g : LaneTr → LaneTr) :
    (c.modLaneTr n m g).laneTr n m = g (c.laneTr n m) := by
  simp only [Chip.link, List.getElem?_eq_getElem h1, Option.getD_some] at h2
  simp [Chip.laneTr, Chip.link, Chip.modLaneTr, Chip.modLink, List.getElem?_eq_getElem h1, List.getElem?_eq_getElem h2]

theorem Chip.modLaneTr_swap (g : LaneTr → LaneTr) : ((c.modLaneTr n m g).link n).swap = (c.link n).swap := by
  simp only [Chip.link, Chip.modLaneTr, Chip.modLink, List.getElem?_modify_eq]
  cases c.links[n]? <;> rfl

/-- A new request to the partner, which value `k` chooses. -/
def LaneTr.asks (k : Nat) (t : LaneTr) : LaneTr :=
  { t with reqTog := !t.reqTog, acked := false, reqTap := k % 3 + 1, reqDir := k / 3 % 4 }

/-- The next request to the partner, where the last one was answered. -/
def Chip.nextRequest (c : Chip) (n m : Nat) : Chip :=
  if (c.laneTr n m).acked then (c.fresh 4).2.modLaneTr n m (LaneTr.asks (c.fresh 4).1) else c

theorem Chip.nextRequest_goodRun : ((c.nextRequest n m).laneTr n m).goodRun = (c.laneTr n m).goodRun := by
  unfold Chip.nextRequest
  split
  · exact Chip.laneTr_modLaneTr_keeps (c.fresh 4).2 LaneTr.goodRun (g := LaneTr.asks (c.fresh 4).1) (fun _ => rfl) n m
  · rfl

/-- A lane trains where its link is in EQUALIZE and maps it, or a SWAP trains it. -/
theorem Chip.guardTrain_trains (hst : c.linkSt n = lkEqualize) (hmap : (c.mapped n).contains m = true) :
    c.guardTrain n m eye = if c.f (F.lnGuardEyeGood n m) ≤ eye then
      (c.modLaneTr n m fun t => { t with goodRun := t.goodRun + 1, ready := t.ready || decide (1 ≤ t.goodRun) }).swapMirror n
    else (c.modLaneTr n m fun t => { t with goodRun := 0 }).nextRequest n m := by
  unfold Chip.guardTrain
  dsimp only
  rw [hst, hmap, if_neg (by simp)]
  rfl

/-- In EQUALIZE, with no SWAP, an evaluated interval of a mapped lane counts towards READY or ends the run. -/
theorem Chip.guardTrain_goodRun (hst : c.linkSt n = lkEqualize) (hmap : (c.mapped n).contains m = true)
    (hsw : (c.link n).swap = none) (h1 : n < c.links.length) (h2 : m < (c.link n).train.length) :
    ((c.guardTrain n m eye).laneTr n m).goodRun
      = if c.f (F.lnGuardEyeGood n m) ≤ eye then (c.laneTr n m).goodRun + 1 else 0 := by
  rw [c.guardTrain_trains hst hmap]
  by_cases h : c.f (F.lnGuardEyeGood n m) ≤ eye
  · rw [if_pos h, if_pos h, Chip.swapMirror_none _ ((c.modLaneTr_swap _).trans hsw), c.laneTr_modLaneTr h1 h2]
  · rw [if_neg h, if_neg h, Chip.nextRequest_goodRun, c.laneTr_modLaneTr h1 h2]

end Sys2Proof.Machine
end

section
/-! A guard interval ends (R58, R60, R100). -/

namespace Sys2Proof.Machine

section Interval
variable (c : Chip) {n m eye : Nat}

/-- The registers that an evaluated interval may touch in the lane, and what it leaves of the link. -/
theorem Chip.guardEnd_keeps (heye : eye < 256) (hst : c.laneState n m = lsTrain ∨ c.laneState n m = lsActive)
    (hw : (c.lane n m).gWin = 1024) (hb : 512 ≤ (c.lane n m).gBusy) :
    c.Keeps (c.guardEnd n m eye) (R.lnEvt n m :: R.lnSnapCnt n m :: laneRegs n m) ∧ (c.guardEnd n m eye).links = c.links := by
  have hseen := (c.guardSeen_keeps (n := n) (m := m) eye).mono (l' := R.lnEvt n m :: R.lnSnapCnt n m :: laneRegs n m)
    (by simp [laneRegs])
  have hlinks : (c.guardSeen n m eye).links = c.links := by rw [Chip.guardSeen, Chip.setF_links, Chip.endGuard, Chip.modLane_links]
  rw [c.guardEnd_judged heye hst hw hb]
  split
  · exact ⟨hseen.trans (Chip.guardActs_keeps _), (Chip.guardActs_links _).trans hlinks⟩
  · exact ⟨hseen, hlinks⟩

theorem Chip.guardInterval_skipped (hst : c.laneState n m = lsTrain ∨ c.laneState n m = lsActive)
    (hw : (c.lane n m).gWin = 1024) (hb : (c.lane n m).gBusy < 512) : c.guardInterval n m eye = c.endGuard n m := by
  have hno : decide (512 ≤ (c.lane n m).gBusy) = false := decide_eq_false (Nat.not_le.2 hb)
  unfold Chip.guardInterval
  dsimp only
  rw [hno, Bool.and_false, Bool.false_and, if_neg Bool.false_ne_true, c.guardEnd_skipped eye hst hw hb]

/-- An evaluated interval counts for the training of a DrauxLink lane. -/
theorem Chip.guardInterval_judged (heye : eye < 256) (hst : c.laneState n m = lsTrain ∨ c.laneState n m = lsActive)
    (hw : (c.lane n m).gWin = 1024) (hb : 512 ≤ (c.lane n m).gBusy) : c.guardInterval n m eye
      = if n < 9 then (c.guardEnd n m eye).guardTrain n m eye else c.guardEnd n m eye := by
  have hj : (c.laneState n m == lsTrain || c.laneState n m == lsActive) = true := by
    rcases hst with h | h <;> rw [h] <;> rfl
  unfold Chip.guardInterval
  dsimp only
  rw [hj, hw, decide_eq_true hb, Nat.min_eq_left (by omega : eye ≤ 255)]
  by_cases h9 : n < 9
  · rw [if_pos h9, decide_eq_true h9]
    rfl
  · rw [if_neg h9, decide_eq_false h9]
    rfl

/-- The state of a link is none of the registers of its lanes. -/
theorem linkState_notMem (hn : n < 9) : R.linkState n ∉ R.lnEvt n m :: R.lnSnapCnt n m :: laneRegs n m := by
  have h9 : n ≠ 9 := by omega
  simp only [laneRegs, h9, if_false, List.append_nil, List.mem_cons, List.not_mem_nil, or_false, R.linkState, R.lnEvt,
    R.lnSnapCnt, R.lnState, R.lnRxeq, R.lnFfe0, R.lnEye, R.lnPrbsCtrl, R.lnPrbsStat]
  omega

theorem linkReg_ge (n k : Nat) : 0x10000 ≤ 0x100000 + n * 0x10000 + k := by omega

/-- In ACTIVE, on a link that trains nothing, the interval is the drift guard's alone. -/
theorem Chip.guardInterval_active (heye : eye < 256) (hst : c.laneState n m = lsActive) (hw : (c.lane n m).gWin = 1024)
    (hb : 512 ≤ (c.lane n m).gBusy) (hl : n < 9 → c.linkSt n ≠ lkEqualize ∧ (c.link n).swap = none) :
    c.guardInterval n m eye = if c.fb (F.lnAdaptAdaptEn n m) = true then (c.guardSeen n m eye).guardActs n m eye
      else c.guardSeen n m eye := by
  have hact : (if n < 9 then (c.guardEnd n m eye).guardTrain n m eye else c.guardEnd n m eye) = c.guardEnd n m eye := by
    split
    next hn =>
      obtain ⟨hne, hsw⟩ := hl hn
      obtain ⟨hkeeps, hlinks⟩ := c.guardEnd_keeps heye (Or.inr hst) hw hb
      refine Chip.guardTrain_idle _ ?_ (by rwa [Chip.link_congr hlinks])
      rwa [Chip.linkSt, hkeeps.f (linkState_notMem hn) (reg_ne_scp (linkReg_ge n 4)).1]
    next => rfl
  rw [c.guardInterval_judged heye (Or.inr hst) hw hb, hact, c.guardEnd_judged heye (Or.inr hst) hw hb]
  simp only [hst, and_true]

/-- In TRAIN the guard neither saves nor snaps (log entry 53). -/
theorem Chip.guardInterval_train (heye : eye < 256) (hst : c.laneState n m = lsTrain) (hw : (c.lane n m).gWin = 1024)
    (hb : 512 ≤ (c.lane n m).gBusy) : c.guardInterval n m eye
      = if n < 9 then (c.guardSeen n m eye).guardTrain n m eye else c.guardSeen n m eye := by
  have hend : c.guardEnd n m eye = c.guardSeen n m eye := by
    rw [c.guardEnd_judged heye (Or.inl hst) hw hb]
    exact if_neg fun h => absurd (hst.symm.trans h.2) (by decide)
  rw [c.guardInterval_judged heye (Or.inl hst) hw hb, hend]

theorem Chip.guardInterval_train_keeps (heye : eye < 256) (hst : c.laneState n m = lsTrain) (hw : (c.lane n m).gWin = 1024)
    (hb : 512 ≤ (c.lane n m).gBusy) : (c.guardSeen n m eye).Keeps (c.guardInterval n m eye) [R.swapStat n] := by
  rw [c.guardInterval_train heye hst hw hb]
  exact Chip.Keeps.ite (fun _ => Chip.guardTrain_keeps _) fun _ => Chip.Keeps.refl _ _

theorem lnReg_ne_swapStat {k : Nat} (hk : k < 0x100) (hm : m < 9) :
    0x108000 + n * 0x10000 + m * 0x100 + k ≠ R.swapStat n := by
  simp only [R.swapStat]
  omega

/-! ### The last good set -/

theorem Chip.saved_shows (heye : eye < 256) (hl : n * 9 + m < c.lanes.length)
    (hgood : c.f (F.lnGuardEyeGood n m) ≤ eye) :
    let t := (c.guardSeen n m eye).guardActs n m eye
    t.f (F.lnEyeEyeLast n m) = eye ∧ t.f (F.lnEyeEyeSaved n m) = eye
      ∧ t.lane n m = { c.lane n m with gWin := 0, gBusy := 0, good := c.laneSet n m } ∧ c.Keeps t [R.lnEye n m] := by
  have hne : (F.lnGuardEyeGood n m).addr ≠ R.lnEye n m := by simp [F.lnGuardEyeGood, R.lnGuard, R.lnEye]
  dsimp only
  rw [Chip.guardActs_saves _ (by rwa [c.guardSeen_f hne]), c.guardSeen_laneSet]
  refine ⟨?_, ?_, ?_, ((c.guardSeen_keeps eye).modLane ..).setF (List.mem_singleton_self _)⟩
  · rw [Chip.f_setF_disjoint _ _ (Or.inr (Or.inr (by simp [F.lnEyeEyeLast, F.lnEyeEyeSaved]))), Chip.modLane_f,
      c.guardSeen_last heye]
  · rw [Chip.f_setF_self _ _ (by simp [F.lnEyeEyeSaved])]
    exact Nat.mod_eq_of_lt heye
  · have hlen : n * 9 + m < (c.guardSeen n m eye).lanes.length := by
      rwa [Chip.guardSeen, Chip.setF_lanes, Chip.endGuard, Chip.modLane_length]
    rw [Chip.lane_congr (Chip.setF_lanes ..), Chip.lane_modLane _ hlen, c.guardSeen_lane hl]

theorem Chip.snapped_shows (heye : eye < 256) (hl : n * 9 + m < c.lanes.length)
    (hgood : eye < c.f (F.lnGuardEyeGood n m)) (hsnap : eye < c.f (F.lnGuardEyeSnap n m)) :
    let t := (c.guardSeen n m eye).guardActs n m eye
    let good := (c.lane n m).good
    t.f (F.lnEyeEyeLast n m) = eye ∧ t.rd (R.lnRxeq n m) = good.rxeq ∧ t.rd (R.lnFfe0 n m) = good.ffe0
      ∧ (n = 9 → t.rd (R.lnFfe1 m) = good.ffe1 ∧ t.rd (R.lnFfe2 m) = good.ffe2 ∧ t.rd (R.lnDfe m) = good.dfe)
      ∧ t.lane n m = { c.lane n m with gWin := 0, gBusy := 0, idleRun := 0, busyRun := 0 } ∧ t.f (F.lnStateFrozen n m) = 0
      ∧ t.f (F.lnEyeEyeSaved n m) = c.f (F.lnEyeEyeSaved n m) ∧ t.f (F.lnEvtSnap n m) = 1
      ∧ t.f (F.lnSnapCntCount n m) = satAdd 16 (c.f (F.lnSnapCntCount n m)) 1
      ∧ t.reports = c.reports ++ [⟨0x02, laneInst n m, false⟩]
      ∧ c.Keeps t (R.lnEvt n m :: R.lnSnapCnt n m :: laneRegs n m) := by
  have hg : (F.lnGuardEyeGood n m).addr ≠ R.lnEye n m := by simp [F.lnGuardEyeGood, R.lnGuard, R.lnEye]
  have hs : (F.lnGuardEyeSnap n m).addr ≠ R.lnEye n m := by simp [F.lnGuardEyeSnap, R.lnGuard, R.lnEye]
  have hkeeps := (c.guardSeen_keeps (n := n) (m := m) eye).mono (l' := R.lnEvt n m :: R.lnSnapCnt n m :: laneRegs n m)
    (by simp [laneRegs])
  have hall := hkeeps.trans (Chip.guardActs_keeps _ (eye := eye))
  have hseen := c.guardSeen_lane (eye := eye) hl
  have hset := (c.guardSeen n m eye).loadSet_keeps n m (c.lane n m).good
  have htail := Chip.snapCounted_keeps (n := n) (m := m) ((c.guardSeen n m eye).loadSet n m (c.lane n m).good)
  have heyes : ∀ x : Fld, x.addr = R.lnEye n m →
      (((c.guardSeen n m eye).loadSet n m (c.lane n m).good).snapCounted n m).f x = (c.guardSeen n m eye).f x := by
    intro x hx
    have hx2 : x.addr ≠ R.scpSum := hx ▸ (reg_ne_scp (lnReg_ge n m 0x28)).1
    rw [htail.f (by rw [hx]; simp [R.lnEye, R.lnState, R.lnEvt, R.lnSnapCnt]) hx2,
      hset.f (fun h => coeffRegs_ne h (k := 0x28) (by decide) hx) hx2]
  have hcoeff : ∀ a ∈ coeffRegs n m, (((c.guardSeen n m eye).loadSet n m (c.lane n m).good).snapCounted n m).rd a
      = ((c.guardSeen n m eye).loadSet n m (c.lane n m).good).rd a := by
    intro a ha
    refine htail.1 a (fun h => ?_) (reg_ne_scp (by have := coeffRegs_offset n m ha; omega)).1
    simp only [List.mem_cons, List.not_mem_nil, or_false] at h
    rcases h with h | h | h
    · exact coeffRegs_ne ha (k := 4) (by decide) h
    · exact coeffRegs_ne ha (k := 0x2C) (by decide) h
    · exact coeffRegs_ne ha (k := 0x30) (by decide) h
  dsimp only
  rw [Chip.guardActs_snaps _ (by rwa [c.guardSeen_f hg]) (by rwa [c.guardSeen_f hs]), hseen] at hall ⊢
  refine ⟨?_, ?_, ?_, ?_, ?_, Chip.snapCounted_frozen _, ?_, Chip.snapCounted_event _, ?_, ?_, hall⟩
  · rw [heyes _ rfl, c.guardSeen_last heye]
  · rw [hcoeff _ (by simp [coeffRegs]), Chip.loadSet_rxeq]
  · rw [hcoeff _ (by simp [coeffRegs]), Chip.loadSet_ffe0]
  · intro h9
    subst h9
    rw [hcoeff _ (by simp [coeffRegs]), hcoeff _ (by simp [coeffRegs]), hcoeff _ (by simp [coeffRegs])]
    exact Chip.loadSet_uplink ..
  · have hsame := ((c.guardSeen n m eye).loadSet_same (n := n) (m := m) (c.lane n m).good).1
    have hlen : n * 9 + m < (c.guardSeen n m eye).lanes.length := by
      rwa [Chip.guardSeen, Chip.setF_lanes, Chip.endGuard, Chip.modLane_length]
    rw [Chip.snapCounted_lane _ (by rwa [hsame]), Chip.lane_congr hsame, hseen]
  · rw [heyes _ rfl, c.guardSeen_saved]
  · have hcnt : (F.lnSnapCntCount n m).addr ∉ coeffRegs n m := fun h => coeffRegs_ne h (k := 0x30) (by decide) rfl
    rw [Chip.snapCounted_count, hset.f hcnt (reg_ne_scp (lnReg_ge n m 0x30)).1,
      c.guardSeen_f (by simp [F.lnSnapCntCount, R.lnSnapCnt, R.lnEye])]
  · rw [Chip.snapCounted_reports, ((c.guardSeen n m eye).loadSet_same (n := n) (m := m) (c.lane n m).good).2.2, Chip.guardSeen,
      Chip.setF_reports, Chip.endGuard, Chip.modLane_reports]

theorem Chip.waited_shows (heye : eye < 256) (hl : n * 9 + m < c.lanes.length) :
    let t := c.guardSeen n m eye
    t.f (F.lnEyeEyeLast n m) = eye ∧ t.lane n m = { c.lane n m with gWin := 0, gBusy := 0 }
      ∧ t.f (F.lnEyeEyeSaved n m) = c.f (F.lnEyeEyeSaved n m) ∧ c.Keeps t [R.lnEye n m] :=
  ⟨c.guardSeen_last heye, c.guardSeen_lane hl, c.guardSeen_saved, c.guardSeen_keeps eye⟩

end Interval

theorem laneCount_le (n : Nat) : laneCount n ≤ 9 := by
  unfold laneCount
  split
  · omega
  · split <;> omega

section Guard
variable {s : State} {n m eye : Nat} (hm : m < laneCount n) (hn : n < 10) (hr : s.chip.domainRuns (laneDomain n) = true)
  (hl : n * 9 + m < s.chip.lanes.length) (heye : eye < 256) (hw : (s.chip.lane n m).gWin = 1024)
include hm hn hr hw

theorem guardInterval_skips (hl : n * 9 + m < s.chip.lanes.length)
    (hst : s.chip.laneState n m = lsTrain ∨ s.chip.laneState n m = lsActive)
    (hb : (s.chip.lane n m).gBusy < 512) : Does (.guardIntervalEnd n m eye) s fun t =>
      t.lane n m = { s.chip.lane n m with gWin := 0, gBusy := 0 } ∧ s.chip.Keeps t [] := by
  refine Does.of_runIn (fun c => c.guardInterval n m eye) rfl hr (by simp [hm, hn]) (s.fresh.guardInterval_skipped hst hw hb)
    fun d hd _ _ => ⟨?_, ((s.keeps_fresh _).trans (s.fresh.endGuard_keeps n m [])).settled hd⟩
  rw [hd.lane]
  exact s.fresh.lane_modLane hl _

include heye

/-- In ACTIVE, what the guard acts on shows. -/
theorem guardInterval_acts {P : Chip → Prop} (hst : s.chip.laneState n m = lsActive) (hb : 512 ≤ (s.chip.lane n m).gBusy)
    (ht : n < 9 → s.chip.linkSt n ≠ lkEqualize ∧ (s.chip.link n).swap = none)
    (hp : ∀ d, (if s.chip.fb (F.lnAdaptAdaptEn n m) = true then (s.fresh.guardSeen n m eye).guardActs n m eye
      else s.fresh.guardSeen n m eye).Alike d [] → P d) : Does (.guardIntervalEnd n m eye) s P :=
  Does.of_runIn (fun c => c.guardInterval n m eye) rfl hr (by simp [hm, hn])
    (s.fresh.guardInterval_active heye hst hw hb ht) fun d hd _ _ => hp d hd

/-- In TRAIN, an evaluated interval shows its metric and leaves the set of the lane and the set saved. -/
theorem guardInterval_trains (hst : s.chip.laneState n m = lsTrain) (hb : 512 ≤ (s.chip.lane n m).gBusy) :
    Does (.guardIntervalEnd n m eye) s fun t => t.f (F.lnEyeEyeLast n m) = eye
      ∧ t.f (F.lnEyeEyeSaved n m) = s.chip.f (F.lnEyeEyeSaved n m) ∧ t.laneSet n m = s.chip.laneSet n m := by
  have hkeeps := s.fresh.guardInterval_train_keeps heye hst hw hb
  have hm9 : m < 9 := lt_of_lt_of_le hm (laneCount_le n)
  have heyes : ∀ x : Fld, x.addr = R.lnEye n m → (s.fresh.guardInterval n m eye).f x = (s.fresh.guardSeen n m eye).f x :=
    fun x hx => hkeeps.f (by rw [hx, List.mem_singleton]; exact lnReg_ne_swapStat (k := 0x28) (by decide) hm9)
      (hx ▸ (reg_ne_scp (lnReg_ge n m 0x28)).1)
  refine Does.of_runIn (fun c => c.guardInterval n m eye) rfl hr (by simp [hm, hn]) rfl fun d hd _ _ => ⟨?_, ?_, ?_⟩
  · rw [hd.f_reg (by simp) (lnReg_ge n m 0x28), heyes _ rfl, s.fresh.guardSeen_last heye]
  · rw [hd.f_reg (by simp) (lnReg_ge n m 0x28), heyes _ rfl, s.fresh.guardSeen_saved]
    rfl
  · have hset : ∀ a ∈ coeffRegs n m, d.rd a = (s.fresh.guardSeen n m eye).rd a := by
      intro a ha
      have hge := coeffRegs_offset n m ha
      rw [hd.rd_reg (by simp) (by omega)]
      refine hkeeps.1 a ?_ (reg_ne_scp (by omega)).1
      simp only [List.mem_singleton, R.swapStat]
      omega
    exact (Chip.laneSet_congr hset).trans s.fresh.guardSeen_laneSet

/-- In EQUALIZE the interval counts towards READY of its lane (R100). -/
theorem guardInterval_equalizes (hst : s.chip.laneState n m = lsTrain) (hb : 512 ≤ (s.chip.lane n m).gBusy) (h9 : n < 9)
    (heq : s.chip.linkSt n = lkEqualize) (hmap : (s.chip.mapped n).contains m = true) (hsw : (s.chip.link n).swap = none)
    (h1 : n < s.chip.links.length) (h2 : m < (s.chip.link n).train.length) :
    Does (.guardIntervalEnd n m eye) s fun t => (t.laneTr n m).goodRun
      = if s.chip.f (F.lnGuardEyeGood n m) ≤ eye then (s.chip.laneTr n m).goodRun + 1 else 0 := by
  have hm9 : m < 9 := lt_of_lt_of_le hm (laneCount_le n)
  have hlinks : (s.fresh.guardSeen n m eye).links = s.chip.links := by
    rw [Chip.guardSeen, Chip.setF_links, Chip.endGuard, Chip.modLane_links]
    rfl
  have hlk := Chip.link_congr hlinks n
  have hmapped : (s.fresh.guardSeen n m eye).mapped n = s.chip.mapped n := by
    refine congrArg (fun g => (List.range (logicalCount n)).map g) (funext fun k => ?_)
    exact s.fresh.guardSeen_f (by simp only [F.laneMapLog, R.laneMap, R.lnEye]; omega)
  have hrun := Chip.guardTrain_goodRun (s.fresh.guardSeen n m eye) (n := n) (m := m) (eye := eye)
    ((s.fresh.guardSeen_f (by simp only [F.linkStateState, R.linkState, R.lnEye]; omega)).trans heq) (by rwa [hmapped])
    (by rwa [hlk]) (by rwa [hlinks]) (by rwa [hlk])
  refine Does.of_runIn (fun c => c.guardInterval n m eye) rfl hr (by simp [hm, hn])
    (s.fresh.guardInterval_train heye hst hw hb) fun d hd _ _ => ?_
  rw [if_pos h9] at hd
  have htr : d.laneTr n m = ((s.fresh.guardSeen n m eye).guardTrain n m eye).laneTr n m := by
    rw [Chip.laneTr, Chip.link_congr hd.links, Chip.laneTr]
  rw [htr, hrun, s.fresh.guardSeen_f (by simp [F.lnGuardEyeGood, R.lnGuard, R.lnEye]), Chip.laneTr, hlk]
  rfl

include hl

theorem guardInterval_saves (hst : s.chip.laneState n m = lsActive) (hb : 512 ≤ (s.chip.lane n m).gBusy)
    (ht : n < 9 → s.chip.linkSt n ≠ lkEqualize ∧ (s.chip.link n).swap = none)
    (hen : s.chip.fb (F.lnAdaptAdaptEn n m) = true) (hgood : s.chip.f (F.lnGuardEyeGood n m) ≤ eye) :
    Does (.guardIntervalEnd n m eye) s fun t => t.f (F.lnEyeEyeLast n m) = eye ∧ t.f (F.lnEyeEyeSaved n m) = eye
      ∧ t.lane n m = { s.chip.lane n m with gWin := 0, gBusy := 0, good := s.chip.laneSet n m }
      ∧ s.chip.Keeps t [R.lnEye n m] := by
  refine guardInterval_acts hm hn hr heye hw hst hb ht fun d hd => ?_
  rw [if_pos hen] at hd
  obtain ⟨hlast, hsaved, hlane, hkeeps⟩ := s.fresh.saved_shows heye hl hgood
  refine ⟨?_, ?_, ?_, ((s.keeps_fresh _).trans hkeeps).settled hd⟩
  · rw [hd.f_reg (by simp) (lnReg_ge n m 0x28), hlast]
  · rw [hd.f_reg (by simp) (lnReg_ge n m 0x28), hsaved]
  · rw [hd.lane, hlane]
    rfl

theorem guardInterval_snaps (hst : s.chip.laneState n m = lsActive) (hb : 512 ≤ (s.chip.lane n m).gBusy)
    (ht : n < 9 → s.chip.linkSt n ≠ lkEqualize ∧ (s.chip.link n).swap = none)
    (hen : s.chip.fb (F.lnAdaptAdaptEn n m) = true) (hgood : eye < s.chip.f (F.lnGuardEyeGood n m))
    (hsnap : eye < s.chip.f (F.lnGuardEyeSnap n m)) :
    let good := (s.chip.lane n m).good
    Does (.guardIntervalEnd n m eye) s fun t => t.f (F.lnEyeEyeLast n m) = eye ∧ t.rd (R.lnRxeq n m) = good.rxeq
      ∧ t.rd (R.lnFfe0 n m) = good.ffe0
      ∧ (n = 9 → t.rd (R.lnFfe1 m) = good.ffe1 ∧ t.rd (R.lnFfe2 m) = good.ffe2 ∧ t.rd (R.lnDfe m) = good.dfe)
      ∧ t.lane n m = { s.chip.lane n m with gWin := 0, gBusy := 0, idleRun := 0, busyRun := 0 }
      ∧ t.f (F.lnStateFrozen n m) = 0
      ∧ t.f (F.lnEyeEyeSaved n m) = s.chip.f (F.lnEyeEyeSaved n m) ∧ t.f (F.lnEvtSnap n m) = 1
      ∧ t.f (F.lnSnapCntCount n m) = satAdd 16 (s.chip.f (F.lnSnapCntCount n m)) 1
      ∧ t.reports = s.chip.reports ++ [⟨0x02, laneInst n m, false⟩]
      ∧ s.chip.Keeps t (R.lnEvt n m :: R.lnSnapCnt n m :: laneRegs n m) := by
  refine guardInterval_acts hm hn hr heye hw hst hb ht fun d hd => ?_
  rw [if_pos hen] at hd
  obtain ⟨hlast, hrxeq, hffe0, hul, hlane, hfrozen, hsaved, hevent, hcount, hreports, hkeeps⟩ :=
    s.fresh.snapped_shows heye hl hgood hsnap
  have hreg := fun a ha => hd.rd_reg (a := a) (by simp) ha
  have hfld := fun x hx => hd.f_reg (x := x) (by simp) hx
  refine ⟨?_, ?_, ?_, fun h9 => ?_, ?_, ?_, ?_, ?_, ?_, ?_, ((s.keeps_fresh _).trans hkeeps).settled hd⟩
  · rw [hfld _ (lnReg_ge n m 0x28), hlast]
  · rw [hreg (R.lnRxeq n m) (lnReg_ge n m 0x0C), hrxeq]
    rfl
  · rw [hreg (R.lnFfe0 n m) (lnReg_ge n m 0x10), hffe0]
    rfl
  · rw [hreg (R.lnFfe1 m) (by simp only [R.lnFfe1]; omega), hreg (R.lnFfe2 m) (by simp only [R.lnFfe2]; omega),
      hreg (R.lnDfe m) (by simp only [R.lnDfe]; omega)]
    exact hul h9
  · rw [hd.lane, hlane]
    rfl
  · rw [hfld _ (lnReg_ge n m 4), hfrozen]
  · rw [hfld _ (lnReg_ge n m 0x28), hsaved]
    rfl
  · rw [hfld _ (lnReg_ge n m 0x2C), hevent]
  · rw [hfld _ (lnReg_ge n m 0x30), hcount]
    rfl
  · rw [hd.reports, hreports]
    rfl

theorem guardInterval_waits (hst : s.chip.laneState n m = lsActive) (hb : 512 ≤ (s.chip.lane n m).gBusy)
    (ht : n < 9 → s.chip.linkSt n ≠ lkEqualize ∧ (s.chip.link n).swap = none)
    (hwait : s.chip.fb (F.lnAdaptAdaptEn n m) = false
      ∨ s.chip.f (F.lnGuardEyeSnap n m) ≤ eye ∧ eye < s.chip.f (F.lnGuardEyeGood n m)) :
    Does (.guardIntervalEnd n m eye) s fun t => t.f (F.lnEyeEyeLast n m) = eye
      ∧ t.lane n m = { s.chip.lane n m with gWin := 0, gBusy := 0 }
      ∧ t.f (F.lnEyeEyeSaved n m) = s.chip.f (F.lnEyeEyeSaved n m) ∧ s.chip.Keeps t [R.lnEye n m] := by
  refine guardInterval_acts hm hn hr heye hw hst hb ht fun d hd => ?_
  have hseen : (s.fresh.guardSeen n m eye).Alike d [] := by
    rcases hwait with hoff | ⟨hsnap, hgood⟩
    · rwa [if_neg (by simp [hoff])] at hd
    · have hg : (F.lnGuardEyeGood n m).addr ≠ R.lnEye n m := by simp [F.lnGuardEyeGood, R.lnGuard, R.lnEye]
      have hs : (F.lnGuardEyeSnap n m).addr ≠ R.lnEye n m := by simp [F.lnGuardEyeSnap, R.lnGuard, R.lnEye]
      rwa [Chip.guardActs_waits _ (by rwa [Chip.guardSeen_f _ hg]) (by rwa [Chip.guardSeen_f _ hs]), ite_self] at hd
  obtain ⟨hlast, hlane, hsaved, hkeeps⟩ := s.fresh.waited_shows heye hl
  refine ⟨?_, ?_, ?_, ((s.keeps_fresh _).trans hkeeps).settled hseen⟩
  · rw [hseen.f_reg (by simp) (lnReg_ge n m 0x28), hlast]
  · rw [hseen.lane, hlane]
    rfl
  · rw [hseen.f_reg (by simp) (lnReg_ge n m 0x28), hsaved]
    rfl

end Guard

/-- Settles O5: each clause is one branch of the drift guard, and of the training that counts its evaluated intervals. -/
theorem laneGuard : Obligations.LaneGuard := fun _ _ _ _ hm hn hr hl heye hw =>
  ⟨guardInterval_skips hm hn hr hw hl,
    fun hst hb ht => ⟨guardInterval_saves hm hn hr hl heye hw hst hb ht, guardInterval_snaps hm hn hr hl heye hw hst hb ht,
      guardInterval_waits hm hn hr hl heye hw hst hb ht⟩,
    guardInterval_trains hm hn hr heye hw,
    guardInterval_equalizes hm hn hr heye hw⟩

end Sys2Proof.Machine
end

section
/-! SUPPORT. Register writes in the windows of the lanes and of their blocks (R16, R43, R48, R60, R64, R67). -/

namespace Sys2Proof.Machine

variable (c : Chip)

/-! ### What a write stores in a read-write field -/

/-- Every bit of the field is read-write, and no bit of the register is set or cleared by a one written to it. -/
def RegRow.Writable (r : RegRow) (lo width : Nat) : Prop :=
  r.mask .w1c = 0#32 ∧ r.mask .w1s = 0#32 ∧ ∀ i < width, (r.mask .rw).getLsbD (lo + i) = true

theorem RegRow.getBits_store {r : RegRow} {lo width : Nat} (h : r.Writable lo width) (old v : Word) :
    getBits (r.store old v) lo width = getBits v lo width := by
  obtain ⟨hc, hs, hrw⟩ := h
  apply Nat.eq_of_testBit_eq
  intro i
  rw [testBit_getBits, testBit_getBits]
  by_cases hi : i < width
  · have hlt : lo + i < 32 := BitVec.lt_of_getLsbD (hrw i hi)
    rw [RegRow.store, hc, hs, BitVec.and_zero, BitVec.or_zero, BitVec.getLsbD_and, BitVec.getLsbD_or,
      BitVec.getLsbD_and, BitVec.getLsbD_and, BitVec.getLsbD_not, BitVec.getLsbD_not, hrw i hi, BitVec.getLsbD_zero]
    simp only [hlt, decide_true, Bool.not_true, Bool.and_false, Bool.and_true, Bool.false_or, Bool.not_false]
  · simp [hi]

theorem Chip.f_wr_store {r : RegRow} {x : Fld} (h : r.Writable x.lo x.width) (old v : Word) :
    (c.wr x.addr (r.store old v)).f x = getBits v x.lo x.width := by
  rw [Chip.f_eq, Chip.rd_wr_self, r.getBits_store h]

/-! ### Where the writes go -/

theorem spoilAddr_link {a : Nat} (h1 : 0x100000 ≤ a) (h2 : a < 0x1A0000) : spoilAddr a = a := by
  have hr : ∀ r ∈ bankRanges, r.1 + r.2.1 + r.2.2 ≤ 0x100000 ∨ 0x1A0000 ≤ r.1 := by decide
  have hb : bankOf a = none := by
    rw [bankOf, Option.map_eq_none_iff, List.find?_eq_none]
    intro r hm
    have := hr r hm
    simp only [Bool.and_eq_true, decide_eq_true_eq]
    omega
  rw [spoilAddr, hb]

theorem Chip.spoils_link {a : Nat} (h1 : 0x100000 ≤ a) (h2 : a < 0x1A0000) : c.spoils (spoilAddr a) = c := by
  rw [spoilAddr_link h1 h2]
  have hs : ∀ b ∈ [R.ieRefBase 0, R.ieRefStride 0, R.ieRefW 0, R.ieRefH 0, R.jobRefCrc, R.ieRuleBase 0, R.ieRuleTy 0,
      R.stcWeb 0, R.jobRuleCrc], b < 0x100000 ∨ 0x1A0000 ≤ b := by decide
  refine c.spoils_other fun hm => ?_
  have := hs a hm
  omega

/-- A performed write in the windows of the links stores its fields and has the effect of its block. -/
theorem Chip.regStore_link (src : Src) {a : Nat} (v : Word) {r : RegRow} {ix : List Nat} (hr : regAt a = some (r, ix))
    (h1 : 0x100000 ≤ a) (h2 : a < 0x1A0000) {g : Chip → Chip}
    (hb : ∀ d : Chip, d.blockWritten src a (c.rd a) v = (g d, 0)) :
    c.regStore src a v = (g (c.wr a (r.store (c.rd a) v)), 0) := by
  have hw : windowReg a = false := by
    unfold windowReg
    rw [Bool.or_eq_false_iff, List.any_eq_false]
    refine ⟨beq_eq_false_iff_ne.2 (by unfold R.optData; omega), fun n hn ha => ?_⟩
    have ha := eq_of_beq ha
    unfold R.feTblData at ha
    omega
  have hj : ruledReg a = false := by
    unfold ruledReg R.jobPortOff R.jobProdOff
    rw [Bool.or_eq_false_iff, beq_eq_false_iff_ne, beq_eq_false_iff_ne]
    omega
  simp [Chip.regStore, hr, hw, hj, hb, Chip.spoils_link _ h1 h2]

/-- The effect of a write in the window of a lane. -/
theorem Chip.regStore_lane (src : Src) {a : Nat} (v : Word) {r : RegRow} {ix : List Nat} (hr : regAt a = some (r, ix))
    {n m off : Nat} (ha : a = 0x108000 + n * 0x10000 + m * 0x100 + off) (hn : n < 10) (hm : m < 9) (ho : off < 0x100) :
    c.regStore src a v = ((c.wr a (r.store (c.rd a) v)).laneWritten n m off (c.rd a) v, 0) := by
  have h1 : 0x100000 ≤ a := by omega
  have h2 : a < 0x1A0000 := by omega
  have hblock : (a - 0x100000) / 0x10000 = n := by omega
  have hmod : a % 0x10000 = 0x8000 + (m * 0x100 + off) := by omega
  have hlane : (a % 0x10000 - 0x8000) / 0x100 = m := by rw [hmod, Nat.add_sub_cancel_left]; omega
  have hoff : a % 0x10000 % 0x100 = off := by rw [hmod]; omega
  refine c.regStore_link src v hr h1 h2 (g := fun d => d.laneWritten n m off (c.rd a) v) fun d => ?_
  unfold Chip.blockWritten
  iterate 12 rw [if_neg (by omega)]
  rw [if_pos h2]
  dsimp only
  rw [if_neg (by omega), if_pos (by omega), hblock, hlane, hoff]

/-- The effect of a write of LANE_MAP, LANE_RATE or SPARE_COND; on the uplink UL_MAP follows. -/
theorem Chip.regStore_port (src : Src) {a : Nat} (v : Word) {r : RegRow} {ix : List Nat} (hr : regAt a = some (r, ix))
    {n off : Nat} (ha : a = 0x100000 + n * 0x10000 + off) (hn : n < 10) (h3 : 0x8F00 ≤ off) (h4 : off < 0x10000) :
    c.regStore src a v = (if n = 9 then ((c.wr a (r.store (c.rd a) v)).portWritten n off).ulMapShow
      else (c.wr a (r.store (c.rd a) v)).portWritten n off, 0) := by
  have h1 : 0x100000 ≤ a := by omega
  have h2 : a < 0x1A0000 := by omega
  have hblock : (a - 0x100000) / 0x10000 = n := by omega
  have hoff : a % 0x10000 = off := by omega
  refine c.regStore_link src v hr h1 h2 (g := fun d => if n = 9 then (d.portWritten n off).ulMapShow else d.portWritten n off)
    fun d => ?_
  unfold Chip.blockWritten
  iterate 12 rw [if_neg (by omega)]
  rw [if_pos h2]
  dsimp only
  rw [hblock, hoff, if_pos h3]

/-! ### The rows of the registers written -/

theorem lnCtrl_row : ∀ n < 10, ∀ m < laneCount n, (regAt (R.lnCtrl n m)).isSome = true := by decide +kernel

theorem lnPrbsCtrl_row : ∀ n < 10, ∀ m < laneCount n, (regAt (R.lnPrbsCtrl n m)).isSome = true := by decide +kernel

theorem lnAdapt_row : ∀ n < 10, ∀ m < laneCount n, ((regAt (R.lnAdapt n m)).map fun p =>
    (p.1.mask .w1c, p.1.mask .w1s, (p.1.mask .rw).getLsbD 31)) = some (0#32, 0#32, true) := by decide +kernel

theorem laneMap_row : ∀ n < 10, ((regAt (R.laneMap n)).map fun p =>
    (p.1.mask .w1c, p.1.mask .w1s, (List.range (4 * logicalCount n)).all (p.1.mask .rw).getLsbD))
      = some (0#32, 0#32, true) := by decide +kernel

theorem laneRate_row : ∀ n < 8, ((regAt (R.laneRate n)).map fun p =>
    (p.1.mask .w1c, p.1.mask .w1s, (List.range 2).all (p.1.mask .rw).getLsbD)) = some (0#32, 0#32, true) := by
  decide +kernel

end Sys2Proof.Machine
end

section
/-! Writes of the lane registers (R43, R48, R60, R64, R67). -/

namespace Sys2Proof.Machine

/-- A one-bit field of a written word reads as it was forced. -/
theorem bitAt_force {x : Fld} (k : Nat) (v : Word) (h : x.lo < 32) (hw : x.width = 1) :
    bitAt (force x k v) x.lo = k.testBit 0 := by
  rw [bitAt, force, getLsbD_putBits, if_pos ⟨h, le_refl _, by omega⟩, Nat.sub_self]

theorem getBits_one (v : Word) (i : Nat) : (getBits v i 1 != 0) = bitAt v i := by
  have hlt : getBits v i 1 < 2 ^ 1 := getBits_lt v i 1
  have hbit : (getBits v i 1).testBit 0 = bitAt v i := testBit_getBits v i 1 0
  rw [← hbit]
  generalize getBits v i 1 = k at hlt
  interval_cases k <;> rfl

section Effects
variable (c : Chip) {n m : Nat}

/-! ### TEST_EN (R48) -/

/-- What a write of LN_CTRL does where TEST_EN rises in OFF. -/
theorem Chip.laneWritten_testSet (old : Word) {v : Word} (h : c.laneState n m = lsOff) (hv : bitAt v 7 = true) :
    ∃ u : Chip, c.laneWritten n m 0 old v = u.laneGo n m lsTest ∧ u.regs = c.regs ∧ u.out = c.out := by
  have h7 : (bitAt v 7 && c.laneState n m == lsOff) = true := by rw [hv, h]; rfl
  unfold Chip.laneWritten
  dsimp only
  rw [if_pos h7]
  refine ⟨_, rfl, ?_, ?_⟩ <;> split <;> split <;> rfl

/-- What a write of LN_CTRL does where TEST_EN falls in TEST. -/
theorem Chip.laneWritten_testClear (old : Word) {v : Word} (h : c.laneState n m = lsTest) (hv : bitAt v 7 = false) :
    ∃ u : Chip, c.laneWritten n m 0 old v = u.laneOff n m ∧ u.out = c.out := by
  have h7 : ¬(bitAt v 7 && c.laneState n m == lsOff) = true := by simp [hv]
  have h8 : (!bitAt v 7 && c.laneState n m == lsTest) = true := by rw [hv, h]; rfl
  unfold Chip.laneWritten
  dsimp only
  rw [if_neg h7, if_pos h8]
  refine ⟨_, rfl, ?_⟩
  rw [Chip.setF_out]
  split <;> split <;> rfl

@[simp] theorem Chip.laneGo_out (st : Nat) : (c.laneGo n m st).out = c.out := by
  rw [Chip.laneGo, Chip.setF_out, Chip.modLane_out, Chip.endGuard, Chip.modLane_out]

@[simp] theorem Chip.loadSet_out (x : LaneSet) : (c.loadSet n m x).out = c.out := by
  unfold Chip.loadSet
  dsimp only
  split
  · rw [Chip.wr_out, Chip.wr_out, Chip.wr_out, Chip.wr_out, Chip.wr_out]
  · rw [Chip.wr_out, Chip.wr_out]

@[simp] theorem Chip.laneOff_out : (c.laneOff n m).out = c.out := by
  rw [Chip.laneOff, Chip.resetCoeffs, Chip.loadSet_out, Chip.laneDown, Chip.modLane_out, Chip.testStop, Chip.modLane_out,
    Chip.setF_out, Chip.setF_out, Chip.setF_out, Chip.setF_out, Chip.setF_out, Chip.clearFreeze, Chip.setF_out,
    Chip.modLane_out, Chip.laneGo_out]

theorem Chip.testStop_lock : (c.testStop n m).f (F.lnPrbsStatLock n m) = 0 := by
  rw [Chip.testStop, Chip.modLane_f, Chip.f_setF_self _ _ (by simp [F.lnPrbsStatLock]), Nat.zero_mod]

theorem Chip.laneOff_lock : (c.laneOff n m).f (F.lnPrbsStatLock n m) = 0 := by
  have hne : (F.lnPrbsStatLock n m).addr ∉ coeffRegs n m := fun h => coeffRegs_ne h (k := 0x38) (by decide) rfl
  rw [Chip.laneOff, (Chip.resetCoeffs_keeps _ n m).f hne (reg_ne_scp (lnReg_ge n m 0x38)).1, Chip.laneDown, Chip.modLane_f,
    Chip.testStop_lock]

/-! ### PRBS counts (R64) -/

/-- What holds of every lane after an update, and of a lane that does not exist. -/
theorem Chip.lane_modLane_all {P : LaneS → Prop} {g : LaneS → LaneS} (h : ∀ l, P (g l)) (h0 : P LaneS.reset) (n m : Nat) :
    P ((c.modLane n m g).lane n m) := by
  simp only [Chip.lane, Chip.modLane, List.getElem?_modify_eq]
  cases c.lanes[n * 9 + m]? with
  | none => exact h0
  | some l => exact h l

/-- The counts of a lane's checker. -/
def LaneS.counts (l : LaneS) : Nat × Nat := (l.bitCnt, l.errCnt)

theorem Chip.modLane_counts {g : LaneS → LaneS} (h : ∀ l, (g l).counts = l.counts) :
    ((c.modLane n m g).lane n m).counts = (c.lane n m).counts := c.lane_modLane_keeps LaneS.counts h n m

theorem Chip.inject_counts (k : Nat) : ((c.inject n m k).lane n m).counts = (c.lane n m).counts := by
  unfold Chip.inject
  split
  · rfl
  · rw [Chip.lane_congr (Chip.emit_lanes ..)]
    split
    · rfl
    · rw [Chip.modLane_counts _ fun _ => by rfl]

theorem Chip.applyInjection_counts : ((c.applyInjection n m).lane n m).counts = (c.lane n m).counts := by
  unfold Chip.applyInjection
  dsimp only
  split
  · rfl
  · rw [Chip.lane_congr (Chip.setF_lanes ..), Chip.modLane_counts _ fun _ => by rfl, Chip.inject_counts]

/-- The counts are cleared where the write asks for it. -/
def Chip.prbsCleared (c : Chip) (n m : Nat) (v : Word) : Chip :=
  if bitAt v 0 then c.modLane n m fun l => { l with bitCnt := 0, errCnt := 0 } else c

/-- The generator starts where the write turns it on or changes its pattern. -/
def Chip.prbsStarted (c : Chip) (n m : Nat) (old v : Word) : Chip :=
  if bitAt v 31 && (!bitAt old 31 || getBits v 24 4 != getBits old 24 4) then
    (c.fresh 17).2.modLane n m fun l => { l with gen := PatGen.start ((c.fresh 17).2.f (F.lnPrbsCtrlGenPat n m)) (c.fresh 17).1 }
  else c

/-- The checker restarts unless the write leaves it on and keeps its pattern. -/
def Chip.prbsRestarted (c : Chip) (n m : Nat) (old v : Word) : Chip :=
  if bitAt v 30 && bitAt old 30 && getBits v 20 4 == getBits old 20 4 then c
  else (c.setF (F.lnPrbsStatLock n m) 0).modLane n m fun l => { l with chk := PatChk.reset }

/-- A write of LN_PRBS_CTRL clears, starts and restarts, and a lane that sends applies what was pending (R63 to R65). -/
theorem Chip.laneWritten_prbs (old v : Word) : c.laneWritten n m 0x34 old v =
    if (((c.prbsCleared n m v).prbsStarted n m old v).prbsRestarted n m old v).laneSends n m then
      (((c.prbsCleared n m v).prbsStarted n m old v).prbsRestarted n m old v).applyInjection n m
    else ((c.prbsCleared n m v).prbsStarted n m old v).prbsRestarted n m old v := rfl

theorem Chip.prbsStarted_counts (old v : Word) : ((c.prbsStarted n m old v).lane n m).counts = (c.lane n m).counts := by
  unfold Chip.prbsStarted
  split
  · rw [Chip.modLane_counts _ fun _ => by rfl]
    rfl
  · rfl

theorem Chip.prbsRestarted_counts (old v : Word) : ((c.prbsRestarted n m old v).lane n m).counts = (c.lane n m).counts := by
  unfold Chip.prbsRestarted
  split
  · rfl
  · rw [Chip.modLane_counts _ fun _ => by rfl, Chip.lane_congr (Chip.setF_lanes ..)]

theorem Chip.laneWritten_clears (old : Word) {v : Word} (hv : bitAt v 0 = true) :
    ((c.laneWritten n m 0x34 old v).lane n m).counts = (0, 0) := by
  have hall : ((((c.prbsCleared n m v).prbsStarted n m old v).prbsRestarted n m old v).lane n m).counts = (0, 0) := by
    rw [Chip.prbsRestarted_counts, Chip.prbsStarted_counts, Chip.prbsCleared, if_pos hv]
    exact c.lane_modLane_all (P := fun l => l.counts = (0, 0)) (fun _ => rfl) rfl n m
  rw [Chip.laneWritten_prbs]
  split
  · rw [Chip.applyInjection_counts, hall]
  · exact hall

/-! ### ADAPT_EN (R60) -/

/-- With ADAPT_EN = 1 the set held becomes the last good one and the freeze is cleared. -/
theorem Chip.laneWritten_adapt (old v : Word) : c.laneWritten n m 0x20 old v =
    if bitAt v 31 then (c.modLane n m fun l => { l with good := c.laneSet n m }).clearFreeze n m else c := rfl

theorem Chip.laneWritten_adapt_keeps (old v : Word) : c.Keeps (c.laneWritten n m 0x20 old v) [R.lnState n m] := by
  rw [Chip.laneWritten_adapt]
  exact Chip.Keeps.ite (fun _ => ((Chip.Keeps.refl c _).modLane n m _).trans (Chip.clearFreeze_keeps _ n m))
    fun _ => Chip.Keeps.refl c _

theorem Chip.laneWritten_adapt_out (old v : Word) : (c.laneWritten n m 0x20 old v).out = c.out := by
  rw [Chip.laneWritten_adapt]
  split
  · rw [Chip.clearFreeze, Chip.setF_out, Chip.modLane_out, Chip.modLane_out]
  · rfl

/-! ### LANE_MAP (R67) -/

theorem Chip.syncMapped_keeps : c.Keeps (c.syncMapped n) ((List.range (laneCount n)).map (R.lnState n)) := by
  refine Chip.Keeps.each _ (Chip.Keeps.refl c _) fun u k hk hu => hu.setFb ?_
  exact List.mem_map.2 ⟨k, hk, rfl⟩

theorem Chip.syncMapped_out : (c.syncMapped n).out = c.out := by
  unfold Chip.syncMapped Chip.each
  dsimp only
  generalize List.range (laneCount n) = l
  generalize c.mapped n = ms
  induction l generalizing c with
  | nil => rfl
  | cons k rest ih => exact (ih _).trans (Chip.setFb_out ..)

/-- The map shown is the one written. -/
theorem Chip.syncMapped_mapOf (k : Nat) : (c.syncMapped n).mapOf n k = c.mapOf n k := by
  refine c.syncMapped_keeps.f (fun h => ?_) (reg_ne_scp (by simp only [F.laneMapLog, R.laneMap]; omega)).1
  obtain ⟨j, hj, hjk⟩ := List.mem_map.1 h
  have := lt_of_lt_of_le (List.mem_range.1 hj) (laneCount_le n)
  simp only [F.laneMapLog, R.laneMap, R.lnState] at hjk
  omega

end Effects
/-! ### What the commands show -/

section Writes
variable {s : State} {src : Src} {n m : Nat} {v : Word} (hn : n < 10)
include hn

section Lanes
variable (hm : m < laneCount n)
include hm

/-- How a performed write of a register of a lane shows. -/
theorem Does.of_laneWrite {i : Instr} {a off : Nat} {P : Chip → Prop} (hrow : (regAt a).isSome = true)
    (hi : exec i s = runIf s (m < laneCount n && n < 10) fun c => c.writeOp src a v)
    (ha : a = 0x108000 + n * 0x10000 + m * 0x100 + off) (ho : off < 0x100) (hw : s.chip.Allows src a v)
    (hp : ∀ (r : RegRow) (ix : List Nat) (d : Chip), regAt a = some (r, ix) →
      ((s.fresh.wr a (r.store (s.fresh.rd a) v)).laneWritten n m off (s.fresh.rd a) v).Alike d [R.scpSession] →
      d.out = ((s.fresh.wr a (r.store (s.fresh.rd a) v)).laneWritten n m off (s.fresh.rd a) v).out ++ [.status 0] → P d) :
    Does i s P := by
  obtain ⟨⟨r, ix⟩, hr⟩ := Option.isSome_iff_exists.1 hrow
  refine Does.of_writeIf hi (by simp [hm, hn]) hw fun d hd ho' => hp r ix d hr ?_ ?_
  · rwa [s.fresh.regStore_lane src v hr ha hn (lt_of_lt_of_le hm (laneCount_le n)) ho] at hd
  · rwa [s.fresh.regStore_lane src v hr ha hn (lt_of_lt_of_le hm (laneCount_le n)) ho] at ho'

omit hn hm in
/-- The state of a lane is not its LN_CTRL. -/
theorem laneState_wr_lnCtrl (w : Word) : (s.fresh.wr (R.lnCtrl n m) w).laneState n m = s.chip.laneState n m :=
  s.fresh.f_wr_ne w (x := F.lnStateState n m) (by simp [F.lnStateState, R.lnState, R.lnCtrl])

theorem testEnSet_shows (hw : s.chip.Allows src (R.lnCtrl n m) (force (F.lnCtrlTestEn n m) 1 v))
    (hst : s.chip.laneState n m = lsOff) :
    Does (.lnTestEnSet src n m v) s fun t => t.laneState n m = lsTest ∧ t.out = [.status 0] := by
  refine Does.of_laneWrite (off := 0) hn hm (lnCtrl_row n hn m hm) rfl rfl (by decide) hw fun r ix d _ hd ho => ?_
  obtain ⟨u, hu, _, hout⟩ := (s.fresh.wr (R.lnCtrl n m) (r.store (s.fresh.rd (R.lnCtrl n m))
    (force (F.lnCtrlTestEn n m) 1 v))).laneWritten_testSet (s.fresh.rd (R.lnCtrl n m)) (v := force (F.lnCtrlTestEn n m) 1 v)
    ((laneState_wr_lnCtrl _).trans hst) (bitAt_force (x := F.lnCtrlTestEn n m) _ v (by simp [F.lnCtrlTestEn]) rfl)
  rw [hu] at hd ho
  refine ⟨?_, ?_⟩
  · exact (hd.f_reg (by simp) (lnReg_ge n m 4)).trans (u.laneGo_laneState n m (by decide))
  · rw [ho, Chip.laneGo_out, hout]
    rfl

theorem testEnClear_shows (hw : s.chip.Allows src (R.lnCtrl n m) (force (F.lnCtrlTestEn n m) 0 v))
    (hst : s.chip.laneState n m = lsTest) :
    Does (.lnTestEnClear src n m v) s fun t => t.laneState n m = lsOff ∧ t.f (F.lnPrbsStatLock n m) = 0
      ∧ t.out = [.status 0] := by
  refine Does.of_laneWrite (off := 0) hn hm (lnCtrl_row n hn m hm) rfl rfl (by decide) hw fun r ix d _ hd ho => ?_
  obtain ⟨u, hu, hout⟩ := (s.fresh.wr (R.lnCtrl n m) (r.store (s.fresh.rd (R.lnCtrl n m))
    (force (F.lnCtrlTestEn n m) 0 v))).laneWritten_testClear (s.fresh.rd (R.lnCtrl n m)) (v := force (F.lnCtrlTestEn n m) 0 v)
    ((laneState_wr_lnCtrl _).trans hst) (bitAt_force (x := F.lnCtrlTestEn n m) _ v (by simp [F.lnCtrlTestEn]) rfl)
  rw [hu] at hd ho
  refine ⟨?_, ?_, ?_⟩
  · exact (hd.f_reg (by simp) (lnReg_ge n m 4)).trans u.laneOff_state
  · exact (hd.f_reg (by simp) (lnReg_ge n m 0x38)).trans u.laneOff_lock
  · rw [ho, Chip.laneOff_out, hout]
    rfl

theorem adaptEnWrite_shows (hw : s.chip.Allows src (R.lnAdapt n m) v) :
    Does (.lnAdaptEnWrite src n m v) s fun t => t.fb (F.lnAdaptAdaptEn n m) = bitAt v 31 ∧ t.out = [.status 0]
      ∧ s.chip.Keeps t [R.lnAdapt n m, R.lnState n m, R.scpSession] := by
  obtain ⟨⟨r0, ix0⟩, hr0, hmasks⟩ := Option.map_eq_some_iff.1 (lnAdapt_row n hn m hm)
  simp only [Prod.mk.injEq] at hmasks
  obtain ⟨hc, hs, hrw⟩ := hmasks
  refine Does.of_laneWrite (off := 0x20) hn hm (by rw [hr0]; rfl) rfl rfl (by decide) hw fun r ix d hr hd ho => ?_
  obtain rfl : r0 = r := by
    rw [hr0] at hr
    exact (Prod.mk.inj (Option.some.inj hr)).1
  have hwritable : r0.Writable (F.lnAdaptAdaptEn n m).lo (F.lnAdaptAdaptEn n m).width :=
    ⟨hc, hs, fun i hi => by
      obtain rfl : i = 0 := by simpa [F.lnAdaptAdaptEn] using hi
      exact hrw⟩
  have hkeeps := (s.fresh.wr (R.lnAdapt n m) (r0.store (s.fresh.rd (R.lnAdapt n m)) v)).laneWritten_adapt_keeps (n := n) (m := m)
    (s.fresh.rd (R.lnAdapt n m)) v
  refine ⟨?_, ?_, ?_⟩
  · have hf := (hd.f_reg (x := F.lnAdaptAdaptEn n m) (by simp) (lnReg_ge n m 0x20)).trans
      ((hkeeps.f (by simp [F.lnAdaptAdaptEn, R.lnAdapt, R.lnState]) (reg_ne_scp (lnReg_ge n m 0x20)).1).trans
        (s.fresh.f_wr_store hwritable (s.fresh.rd (R.lnAdapt n m)) v))
    rw [Chip.fb_eq, hf]
    exact getBits_one v 31
  · rw [ho, Chip.laneWritten_adapt_out]
    rfl
  · have hwr := ((s.keeps_fresh [R.lnAdapt n m, R.lnState n m, R.scpSession]).wr (a := R.lnAdapt n m)
      (v := r0.store (s.fresh.rd (R.lnAdapt n m)) v) (by simp)).trans (hkeeps.mono (by simp))
    exact hwr.alike hd (by simp)

theorem prbsCountClear_shows (hw : s.chip.Allows src (R.lnPrbsCtrl n m) (force (F.lnPrbsCtrlClr n m) 1 v)) :
    Does (.prbsCountClear src n m v) s fun t => (t.lane n m).bitCnt = 0 ∧ (t.lane n m).errCnt = 0 ∧ .status 0 ∈ t.out := by
  refine Does.of_laneWrite (off := 0x34) hn hm (lnPrbsCtrl_row n hn m hm) rfl rfl (by decide) hw fun r ix d _ hd ho => ?_
  have hcounts := (s.fresh.wr (R.lnPrbsCtrl n m) (r.store (s.fresh.rd (R.lnPrbsCtrl n m))
    (force (F.lnPrbsCtrlClr n m) 1 v))).laneWritten_clears (n := n) (m := m) (s.fresh.rd (R.lnPrbsCtrl n m))
    (v := force (F.lnPrbsCtrlClr n m) 1 v) (bitAt_force (x := F.lnPrbsCtrlClr n m) 1 v (by simp [F.lnPrbsCtrlClr]) rfl)
  rw [← hd.lane] at hcounts
  obtain ⟨hbits, herrs⟩ := Prod.mk.inj hcounts
  exact ⟨hbits, herrs, by rw [ho]; simp⟩

end Lanes

theorem laneMapWrite_shows (hw : s.chip.Allows src (R.laneMap n) v) :
    Does (.laneMapWrite src n v) s fun t => t.out = [.status 0] ∧ ∀ k < logicalCount n, t.mapOf n k = getBits v (4 * k) 4 := by
  obtain ⟨⟨r, ix⟩, hr, hmasks⟩ := Option.map_eq_some_iff.1 (laneMap_row n hn)
  simp only [Prod.mk.injEq] at hmasks
  obtain ⟨hc, hs, hrw⟩ := hmasks
  have hwritable : ∀ k < logicalCount n, r.Writable (4 * k) 4 := fun k hk =>
    ⟨hc, hs, fun i hi => List.all_eq_true.1 hrw _ (List.mem_range.2 (by omega))⟩
  refine Does.of_writeIf rfl (by simp [hn]) hw fun d hd ho => ?_
  rw [s.fresh.regStore_port src v hr (n := n) (off := 0x8F00) rfl hn (by decide) (by decide)] at hd ho
  have hport : ∀ u : Chip, u.portWritten n 0x8F00 = u.syncMapped n := fun u => if_pos rfl
  rw [hport] at hd ho
  refine ⟨?_, fun k hk => ?_⟩
  · rw [ho]
    split
    · rw [Chip.ulMapShow, Chip.setF_out, Chip.syncMapped_out]
      rfl
    · rw [Chip.syncMapped_out]
      rfl
  · refine (hd.f_reg (x := F.laneMapLog n k) (by simp) (linkReg_ge n 0x8F00)).trans ?_
    have hmap := ((s.fresh.wr (R.laneMap n) (r.store (s.fresh.rd (R.laneMap n)) v)).syncMapped_mapOf (n := n) k).trans
      (s.fresh.f_wr_store (x := F.laneMapLog n k) (hwritable k hk) (s.fresh.rd (R.laneMap n)) v)
    split
    · exact (Chip.f_setF_ne _ _ (by simp only [F.laneMapLog, R.laneMap, F.ulStatMap, R.ulStat]; omega)).trans hmap
    · exact hmap

end Writes

theorem laneRateWrite_shows {s : State} {src : Src} {n : Nat} {v : Word} (hn : n < 8) (hw : s.chip.Allows src (R.laneRate n) v) :
    Does (.laneRateWrite src n v) s fun t => t.f (F.laneRateRate n) = getBits v 0 2 ∧ t.out = [.status 0]
      ∧ s.chip.Keeps t [R.laneRate n, R.scpSession] := by
  obtain ⟨⟨r, ix⟩, hr, hmasks⟩ := Option.map_eq_some_iff.1 (laneRate_row n hn)
  simp only [Prod.mk.injEq] at hmasks
  obtain ⟨hc, hs, hrw⟩ := hmasks
  have hwritable : r.Writable 0 2 :=
    ⟨hc, hs, fun i hi => by rw [Nat.zero_add]; exact List.all_eq_true.1 hrw _ (List.mem_range.2 hi)⟩
  have hport : ∀ u : Chip, u.portWritten n 0x8F04 = u := fun u => if_neg (by decide)
  refine Does.of_writeIf rfl (by simp [hn]) hw fun d hd ho => ?_
  rw [s.fresh.regStore_port src v hr (n := n) (off := 0x8F04) rfl (by omega) (by decide) (by decide), hport,
    if_neg (by omega)] at hd ho
  refine ⟨?_, ?_, ((s.keeps_fresh _).wr (by simp)).alike hd (by simp)⟩
  · exact (hd.f_reg (by simp) (linkReg_ge n 0x8F04)).trans (s.fresh.f_wr_store (x := F.laneRateRate n) hwritable _ v)
  · rw [ho]
    rfl

/-- Settles O6: each write stores its fields, and its block does what the rule of its register says. -/
theorem laneWrites : Obligations.LaneWrites := fun _ _ _ _ _ hm hn =>
  ⟨testEnSet_shows hn hm, testEnClear_shows hn hm, adaptEnWrite_shows hn hm, prbsCountClear_shows hn hm,
    laneMapWrite_shows hn, laneRateWrite_shows⟩

end Sys2Proof.Machine
end

section
/-! SUPPORT. Conditioning runs of the spare lanes (R69): what a start needs, and what a run leaves (R245 to R251). -/

namespace Sys2Proof.Machine

/-! ### Clusters by temperature (R251) -/

theorem mem_insertBy {α : Type} (lt : α → α → Bool) (x y : α) (l : List α) : y ∈ insertBy lt x l ↔ y = x ∨ y ∈ l := by
  induction l with
  | nil => simp [insertBy]
  | cons z zs ih =>
    rw [insertBy]
    split
    · rw [List.mem_cons]
    · rw [List.mem_cons, ih, List.mem_cons]
      tauto

theorem mem_sortBy {α : Type} (lt : α → α → Bool) (y : α) (l : List α) : y ∈ sortBy lt l ↔ y ∈ l := by
  have h : ∀ acc, y ∈ l.foldl (fun acc x => insertBy lt x acc) acc ↔ y ∈ l ∨ y ∈ acc := by
    induction l with
    | nil => simp
    | cons x xs ih =>
      intro acc
      rw [List.foldl_cons, ih, mem_insertBy, List.mem_cons]
      tauto
  rw [sortBy, h]
  simp

variable (c : Chip)

theorem Chip.mem_coolFirst {k : Nat} : k ∈ c.coolFirst ↔ k < 4 := by rw [Chip.coolFirst, mem_sortBy, List.mem_range]

theorem Chip.freeEngine_cluster {k e : Nat} (h : c.freeEngine k = some e) : e / 17 = k := by
  obtain ⟨j, hj, rfl⟩ := List.mem_map.1 (List.mem_of_find?_eq_some h)
  have := List.mem_range.1 hj
  omega

/-- Where a cluster below the ceiling has a free engine, work of Fold 3 other than a self-test has a place on such a cluster. -/
theorem Chip.placeFor_some {w : WorkItem} (hk : w.kind ≠ 0)
    (h : ∃ k < 4, (c.freeEngine k).isSome = true ∧ c.tempOf k < c.ceil16) : ∃ e, c.placeFor w = some e ∧ e / 17 < 4 := by
  obtain ⟨k, hk4, hfree, hcool⟩ := h
  rw [Chip.placeFor, if_neg fun h => hk h.2]
  have hmem : k ∈ c.coolFirst.filter fun k => (c.freeEngine k).isSome && (w.fold == 0 || decide (c.tempOf k < c.ceil16)) := by
    simp [List.mem_filter, c.mem_coolFirst, hk4, hfree, hcool]
  generalize hcand : (c.coolFirst.filter fun k => (c.freeEngine k).isSome && (w.fold == 0 || decide (c.tempOf k < c.ceil16)))
    = cand at hmem
  cases cand with
  | nil => exact absurd hmem List.not_mem_nil
  | cons j rest =>
    have hj : j ∈ j :: rest := List.mem_cons_self
    rw [← hcand, List.mem_filter, c.mem_coolFirst] at hj
    obtain ⟨hj4, hj⟩ := hj
    obtain ⟨e, he⟩ := Option.isSome_iff_exists.1 (Bool.and_eq_true_iff.1 hj).1
    exact ⟨e, he, by rw [c.freeEngine_cluster he]; exact hj4⟩

/-! ### The item of a run -/

/-- The Fold 3 item of a conditioning run, whose cycles a free value gives. -/
def condItem (n k : Nat) : WorkItem :=
  { fold := 3, bseq := n, strip := 0, kind := 2, tiles := [], cycles16 := 16 * (k % 20481), deferred := false }

/-- The estimate of a run is at most the largest of R245. -/
theorem Chip.itemCost_condItem (n k j : Nat) : c.itemCost (condItem n k) j ≤ ceilDiv (20480 * c.ecyc (c.stepOf j)) 1000 := by
  have hle : k % 20481 * c.ecyc (c.stepOf j) ≤ 20480 * c.ecyc (c.stepOf j) := Nat.mul_le_mul_right _ (by omega)
  rw [Chip.itemCost, ceilDiv, ceilDiv, condItem, Nat.mul_assoc]
  omega

/-! ### A run falls due (R69, R246) -/

theorem Chip.condDue_empty {n : Nat} (h1 : c.fb (F.spareCondEn n) = true) (h2 : c.fb (F.spareStatUnusable n) = false)
    (hq : c.shp.queue = []) : c.condDue n = (c.scrubQueued (condItem n (c.fresh 11).1)).dispatch := by
  have hwaits : c.condWaits n = false := by rw [Chip.condWaits, hq]; rfl
  have hqueued : c.condQueued n = false := by rw [Chip.condQueued, hq]; rfl
  unfold Chip.condDue
  rw [h1, h2, hwaits, hqueued]
  simp only [Bool.not_false, Bool.and_self, if_true, Bool.false_eq_true, if_false, Chip.backgroundDue, Chip.fresh, Chip.modShp,
    Chip.scrubQueued, hq, List.map_nil, List.nil_append, condItem]

/-- While Fold 3 is off, the run waits (R246). -/
theorem Chip.condDue_waits {n : Nat} (h1 : c.fb (F.spareCondEn n) = true) (h2 : c.fb (F.spareStatUnusable n) = false)
    (hq : c.shp.queue = []) (hoff : c.fb F.shpCtrlF3En = false) :
    c.condDue n = c.scrubQueued (condItem n (c.fresh 11).1) := by
  rw [c.condDue_empty h1 h2 hq]
  refine Chip.dispatchLoop_idle _ ?_ 69
  rw [c.scrubQueued_dispatch _ rfl]
  exact Chip.offerFold_off _ hoff

theorem Chip.scrubQueued_condEligible (w : WorkItem) (n k : Nat) :
    (c.scrubQueued w).eligible (condItem n k) = c.condReady n := by
  simp only [Chip.eligible, condItem, Bool.not_false, Bool.true_and]
  rfl

/-- The charge and the count of a start of Fold 3 (R250, R251). -/
def Chip.charged (c : Chip) (w : WorkItem) (e : Nat) : Chip :=
  (((c.modShp fun s => { s with queue := s.queue.erase w, run := s.run ++ [(e, w)] }).remSet
    (c.shp.rem - (c.itemCost w (e / 17) : Int))).modCluster (e / 17) fun s =>
      { s with charged := s.charged + c.itemCost w (e / 17) }).inc (F.shpStartCount 3)

theorem Chip.charged_keeps (w : WorkItem) (e : Nat) : c.Keeps (c.charged w e) [R.shpRem, (F.shpStartCount 3).addr] := by
  refine Chip.Keeps.inc (Chip.Keeps.same (t := Chip.remSet _ _) ?_ rfl rfl) (by simp)
  exact Chip.Keeps.setFs (Chip.Keeps.of_same rfl rfl) (by simp [F.shpRemRem])

theorem Chip.charged_queue (w : WorkItem) (e : Nat) : (c.charged w e).shp.queue = c.shp.queue.erase w := by
  rw [Chip.charged, Chip.inc_shp]
  rfl

theorem Chip.startItem_cond {w : WorkItem} (e : Nat) (hf : w.fold = 3) (hk : w.kind = 2) :
    c.startItem w e = (c.charged w e).condStart w.bseq := by
  unfold Chip.startItem
  rw [hf]
  dsimp only
  rw [if_neg (by decide), if_pos rfl, Chip.backgroundStart, if_pos hk]
  rfl

/-! ### The start of a run (R47, R69) -/

theorem Chip.spareLane_lt (n : Nat) : c.spareLane n < 9 := by
  have hle := laneCount_le n
  unfold Chip.spareLane
  cases h : (List.range (laneCount n)).find? fun m => !(c.mapped n).contains m with
  | none =>
    have : 3 ≤ laneCount n := by
      unfold laneCount
      split
      · omega
      · split <;> omega
    rw [Option.getD_none]
    omega
  | some m =>
    rw [Option.getD_some]
    exact lt_of_lt_of_le (List.mem_range.1 (List.mem_of_find?_eq_some h)) hle

theorem Chip.spareLane_congr {c t : Chip} {n : Nat} (h : ∀ k, t.mapOf n k = c.mapOf n k) : t.spareLane n = c.spareLane n := by
  have hm : t.mapped n = c.mapped n := congrArg (fun g => (List.range (logicalCount n)).map g) (funext h)
  rw [Chip.spareLane, hm, Chip.spareLane]

theorem Chip.charged_spareLane (w : WorkItem) (e n : Nat) : (c.charged w e).spareLane n = c.spareLane n :=
  Chip.spareLane_congr fun k => (c.charged_keeps w e).f
    (by simp only [F.laneMapLog, R.laneMap, R.shpRem, F.shpStartCount, R.shpStart, List.mem_cons,
      List.not_mem_nil, or_false]; omega)
    (reg_ne_scp (linkReg_ge n 0x8F00)).1

theorem Chip.loadSet_shp {n m : Nat} (x : LaneSet) : (c.loadSet n m x).shp = c.shp ∧ (c.loadSet n m x).ports = c.ports := by
  unfold Chip.loadSet
  dsimp only
  split
  · exact ⟨by rw [Chip.wr_shp, Chip.wr_shp, Chip.wr_shp, Chip.wr_shp, Chip.wr_shp],
      by rw [Chip.wr_ports, Chip.wr_ports, Chip.wr_ports, Chip.wr_ports, Chip.wr_ports]⟩
  · exact ⟨by rw [Chip.wr_shp, Chip.wr_shp], by rw [Chip.wr_ports, Chip.wr_ports]⟩

theorem Chip.condStart_shp (n : Nat) : (c.condStart n).shp = c.shp := by
  rw [Chip.condStart, Chip.laneGo, Chip.setF_shp, Chip.modLane_shp, Chip.endGuard, Chip.modLane_shp, Chip.setF_shp,
    Chip.resetCoeffs, (Chip.loadSet_shp ..).1]

theorem Chip.condStart_state (n : Nat) : (c.condStart n).laneState n (c.spareLane n) = lsCond :=
  Chip.laneGo_laneState _ n _ (by decide)

theorem Chip.condStart_loopback (n : Nat) : (c.condStart n).f (F.lnCtrlLoopback n (c.spareLane n)) = 1 := by
  rw [Chip.condStart, Chip.laneGo_f _ n _ (Or.inl (by simp [F.lnCtrlLoopback, R.lnCtrl, R.lnState])),
    Chip.f_setF_self _ _ (by simp [F.lnCtrlLoopback])]
  rfl

theorem Chip.condStart_rxeq (n : Nat) :
    (c.condStart n).rd (R.lnRxeq n (c.spareLane n)) = resetVal (R.lnRxeq n (c.spareLane n)) := by
  have hgo := Chip.laneGo_keeps ((c.resetCoeffs n (c.spareLane n)).setF (F.lnCtrlLoopback n (c.spareLane n)) 1) n
    (c.spareLane n) lsCond
  rw [Chip.condStart, hgo.1 (R.lnRxeq n (c.spareLane n)) (by simp [R.lnRxeq, R.lnState]) (reg_ne_scp (lnReg_ge n _ 0x0C)).1,
    Chip.rd_setF_ne _ _ (by simp [F.lnCtrlLoopback, R.lnRxeq, R.lnCtrl]), Chip.resetCoeffs, Chip.loadSet_rxeq]

theorem Chip.condStart_keeps (n : Nat) :
    c.Keeps (c.condStart n) (R.lnCtrl n (c.spareLane n) :: laneRegs n (c.spareLane n)) := by
  have hset := (c.resetCoeffs_keeps n (c.spareLane n)).mono
    (l' := R.lnCtrl n (c.spareLane n) :: laneRegs n (c.spareLane n))
    fun a h => List.mem_cons_of_mem _ (coeffRegs_subset_laneRegs n _ h)
  exact (hset.setF (by simp [F.lnCtrlLoopback])).trans ((Chip.laneGo_keeps _ n _ lsCond).mono (by simp [laneRegs]))

/-- Where Fold 3 is on, a cluster has a place and the account covers the largest estimate, the run starts (R245, R250, R251). -/
theorem Chip.condDue_starts {n : Nat} (h1 : c.fb (F.spareCondEn n) = true) (h2 : c.fb (F.spareStatUnusable n) = false)
    (hq : c.shp.queue = []) (hon : c.fb F.shpCtrlF3En = true) (hst : c.laneState n (c.spareLane n) = lsOff)
    (hplace : ∃ k < 4, (c.freeEngine k).isSome = true ∧ c.tempOf k < c.ceil16)
    (hcost : ∀ k < 4, (ceilDiv (20480 * c.ecyc (c.stepOf k)) 1000 : Int) ≤ c.shp.rem) :
    ∃ k e, c.condDue n = ((c.scrubQueued (condItem n k)).charged (condItem n k) e).condStart n := by
  rw [c.condDue_empty h1 h2 hq]
  generalize (c.fresh 11).1 = k
  obtain ⟨e, he, he4⟩ := c.placeFor_some (w := condItem n k) (by simp [condItem]) hplace
  have hready : c.condReady n = true := by
    rw [Chip.condReady, h1, h2, hst]
    rfl
  have hpass : (c.scrubQueued (condItem n k)).dispatchPass
      = ((c.scrubQueued (condItem n k)).startItem (condItem n k) e, true) := by
    rw [c.scrubQueued_dispatch _ rfl]
    refine Chip.offerFold_start _ hon rfl rfl ((c.scrubQueued_condEligible _ n k).trans hready)
      ((c.scrubQueued_placeFor _ _).trans he) ?_
    rw [c.scrubQueued_itemCost]
    exact le_trans (Int.ofNat_le.2 (c.itemCost_condItem n k (e / 17))) (hcost _ he4)
  refine ⟨k, e, ?_⟩
  show Chip.dispatchLoop (68 + 1) _ = _
  rw [Chip.dispatchLoop, hpass, Chip.startItem_cond _ e rfl rfl]
  refine Chip.dispatchLoop_empty _ ?_ 68
  rw [Chip.condStart_shp, Chip.charged_queue]
  exact List.erase_cons_head ..

/-- What the start of a run on the spare of a block leaves. -/
def Chip.RunStarted (c t : Chip) (n : Nat) : Prop :=
  t.laneState n (c.spareLane n) = lsCond ∧ t.f (F.lnCtrlLoopback n (c.spareLane n)) = 1
    ∧ t.rd (R.lnRxeq n (c.spareLane n)) = resetVal (R.lnRxeq n (c.spareLane n))
    ∧ c.Keeps t (R.lnCtrl n (c.spareLane n) :: R.shpRem :: (F.shpStartCount 3).addr :: laneRegs n (c.spareLane n))

theorem Chip.condStart_started (w : WorkItem) (e n : Nat) :
    c.RunStarted (((c.scrubQueued w).charged w e).condStart n) n := by
  have hspare : ((c.scrubQueued w).charged w e).spareLane n = c.spareLane n := Chip.charged_spareLane _ w e n
  have hq : c.Keeps (c.scrubQueued w) [R.shpRem, (F.shpStartCount 3).addr] := Chip.Keeps.of_same rfl rfl
  have hstart := Chip.condStart_keeps ((c.scrubQueued w).charged w e) n
  rw [hspare] at hstart
  refine ⟨?_, ?_, ?_, ((hq.trans (Chip.charged_keeps _ w e)).mono (by simp)).trans (hstart.mono ?_)⟩
  · rw [← hspare]
    exact Chip.condStart_state _ n
  · rw [← hspare]
    exact Chip.condStart_loopback _ n
  · rw [← hspare]
    exact Chip.condStart_rxeq _ n
  · intro a ha
    simp only [List.mem_cons] at ha ⊢
    tauto

theorem Chip.RunStarted.settled {c t d : Chip} {n : Nat} (h : c.RunStarted t n) (hd : t.Alike d []) : c.RunStarted d n := by
  obtain ⟨hstate, hloop, hrxeq, hkeeps⟩ := h
  exact ⟨(hd.f_reg (by simp) (lnReg_ge n _ 4)).trans hstate, (hd.f_reg (by simp) (lnReg_ge n _ 0)).trans hloop,
    (hd.rd_reg (by simp) (lnReg_ge n _ 0x0C)).trans hrxeq, hkeeps.settled hd⟩

/-! ### The end of a run (R48, R69) -/

theorem Chip.laneOff_ports {n m : Nat} : (c.laneOff n m).ports = c.ports := by
  rw [Chip.laneOff, Chip.resetCoeffs, (Chip.loadSet_shp ..).2, Chip.laneDown, Chip.modLane_ports, Chip.testStop,
    Chip.modLane_ports, Chip.setF_ports, Chip.setF_ports, Chip.setF_ports, Chip.setF_ports, Chip.setF_ports, Chip.clearFreeze,
    Chip.setF_ports, Chip.modLane_ports, Chip.laneGo, Chip.setF_ports, Chip.modLane_ports, Chip.endGuard, Chip.modLane_ports]

theorem Chip.laneOff_reports {n m : Nat} : (c.laneOff n m).reports = c.reports := by
  rw [Chip.laneOff, Chip.resetCoeffs, (Chip.loadSet_same ..).2.2, Chip.laneDown, Chip.modLane_reports, Chip.testStop,
    Chip.modLane_reports, Chip.setF_reports, Chip.setF_reports, Chip.setF_reports, Chip.setF_reports, Chip.setF_reports,
    Chip.clearFreeze, Chip.setF_reports, Chip.modLane_reports, Chip.laneGo, Chip.setF_reports, Chip.modLane_reports,
    Chip.endGuard, Chip.modLane_reports]

theorem Chip.port_congr {c t : Chip} (h : t.ports = c.ports) (n : Nat) : t.port n = c.port n := by
  rw [Chip.port, h, Chip.port]

/-- The registers of a block that show the spare lane lie past those of its lanes. -/
theorem laneRegs_lt {n m a : Nat} (hm : m < 9) (h : a ∈ laneRegs n m) :
    0x108000 + n * 0x10000 ≤ a ∧ a < 0x108F00 + n * 0x10000 := by
  simp only [laneRegs, R.lnState, R.lnRxeq, R.lnFfe0, R.lnEye, R.lnPrbsCtrl, R.lnPrbsStat, List.mem_append, List.mem_cons,
    List.not_mem_nil, or_false] at h
  rcases h with h | h
  · omega
  · split at h
    next h9 =>
      simp only [R.lnFfe1, R.lnFfe2, R.lnDfe, List.mem_cons, List.not_mem_nil, or_false] at h
      omega
    next => simp at h

/-- The lane of a run that ended is OFF, and its loopback is. -/
def Chip.runStopped (c : Chip) (n : Nat) : Chip :=
  (c.setF (F.lnCtrlLoopback n (c.spareLane n)) 0).laneOff n (c.spareLane n)

/-- The result that a run shows (R69). -/
def Chip.runShown (c : Chip) (n : Nat) (pass : Bool) : Chip :=
  ((c.inc (F.spareStatRuns n)).setFb (F.spareStatLastPass n) pass).setFb (F.spareStatLastFail n) !pass

/-- What a result does to the block: a first failure is repeated, a second one spends the spare (R69). -/
def Chip.runJudged (c : Chip) (n m : Nat) (pass : Bool) : Chip :=
  if pass then c.modPort n fun _ => ⟨0, false⟩
  else if (c.port n).condFails = 0 then c.modPort n fun _ => ⟨1, true⟩
  else (((c.modPort n fun _ => ⟨0, false⟩).setF (F.spareStatUnusable n) 1).barLane n m).report 0x06 (laneInst n m)

theorem Chip.condEnd_eq {n : Nat} (pass : Bool) (h : c.laneState n (c.spareLane n) = lsCond) :
    c.condEnd n pass = ((c.runStopped n).runShown n pass).runJudged n (c.spareLane n) pass := by
  unfold Chip.condEnd Chip.condAbort
  dsimp only
  rw [if_pos h, if_pos h]
  rfl

theorem Chip.runStopped_keeps (n : Nat) : c.Keeps (c.runStopped n) (R.lnCtrl n (c.spareLane n) :: laneRegs n (c.spareLane n)) :=
  ((Chip.Keeps.refl c _).setF (by simp [F.lnCtrlLoopback])).trans
    ((Chip.laneOff_keeps _ n _).mono fun _ => List.mem_cons_of_mem _)

theorem Chip.runStopped_stat {n : Nat} {x : Fld} (hx : x.addr = R.spareStat n) : (c.runStopped n).f x = c.f x := by
  have hlt := c.spareLane_lt n
  refine (c.runStopped_keeps n).f (fun h => ?_) (hx ▸ (reg_ne_scp (linkReg_ge n 0x8F0C)).1)
  rcases List.mem_cons.1 h with h | h
  · rw [hx] at h
    simp only [R.spareStat, R.lnCtrl] at h
    omega
  · have := laneRegs_lt hlt h
    rw [hx] at this
    simp only [R.spareStat] at this
    omega

theorem Chip.runShown_keeps (n : Nat) (pass : Bool) : c.Keeps (c.runShown n pass) [R.spareStat n] :=
  (((Chip.Keeps.refl c _).inc (by simp [F.spareStatRuns])).setFb (by simp [F.spareStatLastPass])).setFb
    (by simp [F.spareStatLastFail])

theorem Chip.barLane_keeps (n m : Nat) : c.Keeps (c.barLane n m) [R.optWrCnt, R.optStat] := by
  have hprog : c.Keeps (c.progWord (laneRecAddr n) (c.optWord (laneRecAddr n) ||| bitMask m 1)) [R.optWrCnt, R.optStat] :=
    ((Chip.Keeps.refl c _).inc (x := F.optWrCntCount) (by simp [F.optWrCntCount])).same rfl rfl
  exact (hprog.setF (x := F.optStatBusy) (v := 1) (by simp [F.optStatBusy])).same rfl rfl

theorem optRegs_notMem {a : Nat} (h : 0x100000 ≤ a) : a ∉ [R.optWrCnt, R.optStat] := by
  simp only [R.optWrCnt, R.optStat, List.mem_cons, List.not_mem_nil, or_false]
  omega

theorem Chip.barLane_reports (n m : Nat) : (c.barLane n m).reports = c.reports := by
  rw [Chip.barLane, Chip.setOptWord]
  dsimp only
  rw [Chip.setF_reports, Chip.progWord]
  dsimp only
  rw [Chip.inc_reports]

/-- A result changes no field of a block's SPARE_STAT but UNUSABLE, and no register of its lanes. -/
theorem Chip.runJudged_f {n m : Nat} {pass : Bool} {x : Fld} (hx : 0x100000 ≤ x.addr)
    (hu : x.addr ≠ R.spareStat n ∨ x.lo + x.width ≤ 2 ∨ 3 ≤ x.lo) : (c.runJudged n m pass).f x = c.f x := by
  unfold Chip.runJudged
  split
  · rfl
  · split
    · rfl
    · rw [Chip.report_f, (Chip.barLane_keeps _ n m).f (optRegs_notMem hx) (reg_ne_scp (by omega)).1,
        Chip.f_setF_disjoint _ _ (hu.imp id fun h => h.symm), Chip.modPort_f]

/-- The result of a run in SPARE_STAT. -/
theorem Chip.runShown_result (n : Nat) (pass : Bool) :
    (c.runShown n pass).f (F.spareStatLastPass n) = (if pass then 1 else 0)
      ∧ (c.runShown n pass).f (F.spareStatLastFail n) = (if pass then 0 else 1)
      ∧ (c.runShown n pass).f (F.spareStatRuns n) = satAdd 16 (c.f (F.spareStatRuns n)) 1 := by
  refine ⟨?_, ?_, ?_⟩
  · rw [Chip.runShown, Chip.setFb_def,
      Chip.f_setF_disjoint _ _ (Or.inr (Or.inr (by simp [F.spareStatLastPass, F.spareStatLastFail]))),
      Chip.setFb_def, Chip.f_setF_self _ _ (by simp [F.spareStatLastPass])]
    cases pass <;> rfl
  · rw [Chip.runShown, Chip.setFb_def, Chip.f_setF_self _ _ (by simp [F.spareStatLastFail])]
    cases pass <;> rfl
  · rw [Chip.runShown, Chip.setFb_def,
      Chip.f_setF_disjoint _ _ (Or.inr (Or.inl (by simp [F.spareStatRuns, F.spareStatLastFail]))),
      Chip.setFb_def, Chip.f_setF_disjoint _ _ (Or.inr (Or.inl (by simp [F.spareStatRuns, F.spareStatLastPass]))),
      Chip.f_inc_self _ (by simp [F.spareStatRuns])]
    rfl

theorem Chip.condEnd_shows {n : Nat} (pass : Bool) (h : c.laneState n (c.spareLane n) = lsCond) :
    (c.condEnd n pass).laneState n (c.spareLane n) = lsOff
      ∧ (c.condEnd n pass).f (F.spareStatLastPass n) = (if pass then 1 else 0)
      ∧ (c.condEnd n pass).f (F.spareStatLastFail n) = (if pass then 0 else 1)
      ∧ (c.condEnd n pass).f (F.spareStatRuns n) = satAdd 16 (c.f (F.spareStatRuns n)) 1 := by
  have hlt := c.spareLane_lt n
  have hge : 0x100000 ≤ R.spareStat n := by simp only [R.spareStat]; omega
  obtain ⟨hpass, hfail, hruns⟩ := (c.runStopped n).runShown_result n pass
  have hne : R.lnState n (c.spareLane n) ≠ R.spareStat n := by simp only [R.lnState, R.spareStat]; omega
  rw [c.condEnd_eq pass h]
  refine ⟨?_, ?_, ?_, ?_⟩
  · rw [Chip.laneState, Chip.runJudged_f _ (by simp only [F.lnStateState, R.lnState]; omega) (Or.inl hne),
      ((c.runStopped n).runShown_keeps n pass).f (by rw [List.mem_singleton]; exact hne) (reg_ne_scp (lnReg_ge n _ 4)).1]
    exact Chip.laneOff_state _
  · rw [Chip.runJudged_f _ hge (Or.inr (Or.inl (by simp [F.spareStatLastPass]))), hpass]
  · rw [Chip.runJudged_f _ hge (Or.inr (Or.inl (by simp [F.spareStatLastFail]))), hfail]
  · rw [Chip.runJudged_f _ hge (Or.inr (Or.inr (by simp [F.spareStatRuns]))), hruns, c.runStopped_stat rfl]

/-- The second failure in a row spends the spare and is reported (R69). -/
theorem Chip.condEnd_spends {n : Nat} (h : c.laneState n (c.spareLane n) = lsCond) (hf : (c.port n).condFails ≠ 0) :
    (c.condEnd n false).f (F.spareStatUnusable n) = 1
      ∧ (c.condEnd n false).reports = c.reports ++ [⟨0x06, laneInst n (c.spareLane n), false⟩] := by
  have hports : ((c.runStopped n).runShown n false).ports = c.ports := by
    rw [Chip.runShown, Chip.setFb_ports, Chip.setFb_ports, Chip.inc_ports, Chip.runStopped, Chip.laneOff_ports, Chip.setF_ports]
  rw [c.condEnd_eq false h, Chip.runJudged, if_neg Bool.false_ne_true, if_neg (by rwa [Chip.port_congr hports])]
  refine ⟨?_, ?_⟩
  · rw [Chip.report_f, (Chip.barLane_keeps _ n _).f (x := F.spareStatUnusable n)
      (optRegs_notMem (by simp only [F.spareStatUnusable, R.spareStat]; omega)) (reg_ne_scp (linkReg_ge n 0x8F0C)).1,
      Chip.f_setF_self _ _ (by simp [F.spareStatUnusable])]
    rfl
  · rw [Chip.report_reports, Chip.barLane_reports, Chip.setF_reports, Chip.modPort_reports, Chip.runShown, Chip.setFb_reports,
      Chip.setFb_reports, Chip.inc_reports, Chip.runStopped, Chip.laneOff_reports, Chip.setF_reports]

end Sys2Proof.Machine
end

section
/-! Spare conditioning (R69, R245, R246, R250, R251). -/

namespace Sys2Proof.Machine

theorem Chip.condQueued_item (c : Chip) (n k : Nat) : (c.scrubQueued (condItem n k)).condQueued n = true := by
  simp [Chip.condQueued, Chip.scrubQueued, Chip.modShp, condItem]

/-- The repetition of a failed run falls due as a run does. -/
theorem Chip.condRepeat_due {c : Chip} {n : Nat} (h : (c.port n).condRetry = true) :
    c.condRepeat n = (c.modPort n fun p => { p with condRetry := false }).condDue n := if_pos h

/-- What an effect shows may be weakened. -/
theorem Does.mono {i : Instr} {s : State} {P Q : Chip → Prop} (h : Does i s P) (hpq : ∀ t, P t → Q t) : Does i s Q := by
  obtain ⟨c, hc, hp, hq⟩ := h
  exact ⟨c, hc, hpq _ hp, fun hs => hpq _ (hq hs)⟩

section Runs
variable {s : State} {n : Nat} (hn : n < 10) (hr : s.chip.domainRuns (laneDomain n) = true)
include hn hr

section Due
variable (h1 : s.chip.fb (F.spareCondEn n) = true) (h2 : s.chip.fb (F.spareStatUnusable n) = false)
  (hq : s.chip.shp.queue = [])
include h1 h2 hq

theorem spareCond_waits (hoff : s.chip.fb F.shpCtrlF3En = false) :
    Does (.spareCondDue n) s (fun t => t.condQueued n = true ∧ s.chip.Keeps t [])
      ∧ ((s.chip.port n).condRetry = true →
        Does (.spareCondRetry n) s fun t => t.condQueued n = true ∧ s.chip.Keeps t []) := by
  refine ⟨?_, fun hretry => ?_⟩
  · refine Does.of_runIn (fun c => c.condDue n) rfl hr (by simp [hn]) (s.fresh.condDue_waits h1 h2 hq hoff) fun d hd _ _ =>
      ⟨?_, hd.keeps rfl rfl []⟩
    rw [Chip.condQueued, hd.shp]
    exact Chip.condQueued_item ..
  · refine Does.of_runIn (fun c => c.condRepeat n) rfl hr (by simp [hn])
      ((Chip.condRepeat_due (c := s.fresh) hretry).trans (Chip.condDue_waits _ h1 h2 hq hoff)) fun d hd _ _ => ⟨?_, hd.keeps rfl rfl []⟩
    rw [Chip.condQueued, hd.shp]
    exact Chip.condQueued_item ..

theorem spareCond_starts (hon : s.chip.fb F.shpCtrlF3En = true) (hst : s.chip.laneState n (s.chip.spareLane n) = lsOff)
    (hplace : ∃ k < 4, (s.chip.freeEngine k).isSome = true ∧ s.chip.tempOf k < s.chip.ceil16)
    (hcost : ∀ k < 4, (ceilDiv (20480 * s.chip.ecyc (s.chip.stepOf k)) 1000 : Int) ≤ s.chip.shp.rem) :
    Does (.spareCondDue n) s (fun t => s.chip.RunStarted t n)
      ∧ ((s.chip.port n).condRetry = true → Does (.spareCondRetry n) s fun t => s.chip.RunStarted t n) := by
  refine ⟨?_, fun hretry => ?_⟩
  · obtain ⟨k, e, he⟩ := s.fresh.condDue_starts h1 h2 hq hon hst hplace hcost
    exact Does.of_runIn (fun c => c.condDue n) rfl hr (by simp [hn]) he fun d hd _ _ =>
      (s.fresh.condStart_started _ e n).settled hd
  · obtain ⟨k, e, he⟩ := (s.fresh.modPort n fun p => { p with condRetry := false }).condDue_starts h1 h2 hq hon hst hplace
      hcost
    exact Does.of_runIn (fun c => c.condRepeat n) rfl hr (by simp [hn])
      ((Chip.condRepeat_due (c := s.fresh) hretry).trans he) fun d hd _ _ =>
      (Chip.condStart_started (s.fresh.modPort n fun p => { p with condRetry := false }) _ e n).settled hd

end Due

section End
variable (hst : s.chip.laneState n (s.chip.spareLane n) = lsCond)
include hst

/-- A run ends with its result and its lane OFF. -/
theorem Does.of_condEnd {i : Instr} {pass : Bool} (hi : exec i s = runIn s (laneDomain n) (n < 10) fun c => c.condEnd n pass) :
    Does i s fun t => t.laneState n (s.chip.spareLane n) = lsOff
      ∧ t.f (F.spareStatLastPass n) = (if pass then 1 else 0) ∧ t.f (F.spareStatLastFail n) = (if pass then 0 else 1)
      ∧ t.f (F.spareStatRuns n) = satAdd 16 (s.chip.f (F.spareStatRuns n)) 1
      ∧ (pass = false → (s.chip.port n).condFails ≠ 0 → t.f (F.spareStatUnusable n) = 1
        ∧ t.reports = s.chip.reports ++ [⟨0x06, laneInst n (s.chip.spareLane n), false⟩]) := by
  obtain ⟨hoff, hpass, hfail, hruns⟩ := s.fresh.condEnd_shows pass hst
  refine Does.of_runIn (fun c => c.condEnd n pass) hi hr (by simp [hn]) rfl fun d hd _ _ => ?_
  have hfld := fun x hx => hd.f_reg (x := x) (by simp) hx
  refine ⟨?_, ?_, ?_, ?_, fun hp hf => ?_⟩
  · exact (hfld _ (lnReg_ge n _ 4)).trans hoff
  · exact (hfld _ (linkReg_ge n 0x8F0C)).trans hpass
  · exact (hfld _ (linkReg_ge n 0x8F0C)).trans hfail
  · exact (hfld _ (linkReg_ge n 0x8F0C)).trans hruns
  · subst hp
    obtain ⟨hunusable, hreports⟩ := s.fresh.condEnd_spends hst hf
    exact ⟨(hfld _ (linkReg_ge n 0x8F0C)).trans hunusable, hd.reports.trans hreports⟩

theorem spareCondRun_ends (errs : Nat) : Does (.spareCondRunComplete n errs) s fun t =>
    t.laneState n (s.chip.spareLane n) = lsOff ∧ t.f (F.spareStatLastPass n) = (if errs = 0 then 1 else 0)
      ∧ t.f (F.spareStatLastFail n) = (if errs = 0 then 0 else 1)
      ∧ t.f (F.spareStatRuns n) = satAdd 16 (s.chip.f (F.spareStatRuns n)) 1 := by
  refine (Does.of_condEnd hn hr hst (i := .spareCondRunComplete n errs) (pass := errs == 0) rfl).mono fun t ht => ?_
  obtain ⟨hoff, hpass, hfail, hruns, _⟩ := ht
  simp only [beq_iff_eq] at hpass hfail
  exact ⟨hoff, hpass, hfail, hruns⟩

theorem spareCondLock_timesOut : Does (.spareCondLockTimeout n) s fun t =>
    t.laneState n (s.chip.spareLane n) = lsOff ∧ t.f (F.spareStatLastPass n) = 0 ∧ t.f (F.spareStatLastFail n) = 1
      ∧ t.f (F.spareStatRuns n) = satAdd 16 (s.chip.f (F.spareStatRuns n)) 1
      ∧ ((s.chip.port n).condFails ≠ 0 → t.f (F.spareStatUnusable n) = 1
        ∧ t.reports = s.chip.reports ++ [⟨0x06, laneInst n (s.chip.spareLane n), false⟩]) := by
  refine (Does.of_condEnd hn hr hst (i := .spareCondLockTimeout n) (pass := false) rfl).mono fun t ht => ?_
  obtain ⟨hoff, hpass, hfail, hruns, hspent⟩ := ht
  exact ⟨hoff, hpass, hfail, hruns, hspent rfl⟩

end End
end Runs

/-- Settles O8: a due run waits or starts in one dispatch of Fold 3, and its end records its result. -/
theorem spareConditioning : Obligations.SpareConditioning := fun _ _ hn hr =>
  ⟨fun h1 h2 hq => ⟨spareCond_waits hn hr h1 h2 hq, spareCond_starts hn hr h1 h2 hq⟩,
    fun hst => ⟨spareCondRun_ends hn hr hst, spareCondLock_timesOut hn hr hst⟩⟩

end Sys2Proof.Machine
end

section
/-! SUPPORT. What the receiver of a link leaves alone: the FEC counts, the lane map, the lanes' settings, the loss of alignment
once it shows, and the reports already made (R79, R102, R432). -/

namespace Sys2Proof.Machine

/-- The registers of link `n` that hold FEC counts, the settings of a lane (LN_CTRL), or the lane map. -/
def linkHeld (n a : Nat) : Prop :=
  ∃ off, a = 0x100000 + n * 0x10000 + off
    ∧ (0x40 ≤ off ∧ off < 0x58 ∨ 0x8000 ≤ off ∧ off < 0x9000 ∧ off % 0x100 = 0)

theorem linkHeld_range {n a : Nat} (h : linkHeld n a) : 0x100040 + n * 0x10000 ≤ a ∧ a < 0x109000 + n * 0x10000 := by
  obtain ⟨off, rfl, h⟩ := h
  omega

/-- What an operation on link `n` bears along. -/
structure Chip.Bears (c t : Chip) (n : Nat) : Prop where
  held : ∀ a, linkHeld n a → t.rd a = c.rd a
  loss : t.f (F.linkEvtAmLoss n) = c.f (F.linkEvtAmLoss n)
  swap : (t.link n).swap = (c.link n).swap
  prec : ∀ m, (t.lane n m).precRx = (c.lane n m).precRx
  reports : c.reports <+: t.reports

variable {c t u : Chip} {n : Nat}

theorem Chip.Bears.refl (c : Chip) (n : Nat) : c.Bears c n := ⟨fun _ _ => rfl, rfl, rfl, fun _ => rfl, List.prefix_refl _⟩

theorem Chip.Bears.trans (h : c.Bears t n) (k : t.Bears u n) : c.Bears u n :=
  ⟨fun a ha => (k.held a ha).trans (h.held a ha), k.loss.trans h.loss, k.swap.trans h.swap,
    fun m => (k.prec m).trans (h.prec m), h.reports.trans k.reports⟩

/-- An update of other parts of the device. -/
theorem Chip.Bears.same (h : c.Bears t n) (hr : u.regs = t.regs) (hk : u.links = t.links) (hl : u.lanes = t.lanes)
    (hp : u.reports = t.reports) : c.Bears u n :=
  h.trans ⟨fun a _ => by rw [Chip.rd, hr, Chip.rd], Chip.f_congr hr _, by rw [Chip.link_congr hk],
    fun m => by rw [Chip.lane_congr hl], by rw [hp]⟩

theorem Chip.Bears.ite {p : Prop} [Decidable p] {v : Chip} (h1 : p → c.Bears u n) (h2 : ¬p → c.Bears v n) :
    c.Bears (if p then u else v) n := by
  split
  next hp => exact h1 hp
  next hp => exact h2 hp

theorem Chip.Bears.each {α : Type} {g : Chip → α → Chip} (h : c.Bears t n) (hg : ∀ (u : Chip) x, u.Bears (g u x) n) (l : List α) :
    c.Bears (t.each l g) n := by
  unfold Chip.each
  induction l generalizing t with
  | nil => exact h
  | cons x xs ih => exact ih (h.trans (hg t x))

/-! ### Registers -/

theorem Chip.Bears.wr {a : Nat} {v : Word} (h : c.Bears t n) (ha : ¬linkHeld n a) (he : a ≠ R.linkEvt n) :
    c.Bears (t.wr a v) n :=
  h.trans ⟨fun b hb => Chip.rd_wr_ne _ _ fun hba => ha (hba ▸ hb), Chip.f_wr_ne _ _ he.symm, by rw [Chip.link_congr (Chip.wr_links ..)],
    fun m => by rw [Chip.lane_congr (Chip.wr_lanes ..)], by rw [Chip.wr_reports]⟩

theorem Chip.Bears.setF {x : Fld} {v : Nat} (h : c.Bears t n) (ha : ¬linkHeld n x.addr)
    (he : x.addr ≠ R.linkEvt n ∨ x.lo + x.width ≤ 9 ∨ 10 ≤ x.lo) : c.Bears (t.setF x v) n :=
  h.trans ⟨fun b hb => Chip.rd_setF_ne _ _ fun hba => ha (hba ▸ hb),
    Chip.f_setF_disjoint _ _ (he.imp Ne.symm fun h => h.imp id id),
    by rw [Chip.link_congr (Chip.setF_links ..)], fun m => by rw [Chip.lane_congr (Chip.setF_lanes ..)], by rw [Chip.setF_reports]⟩

theorem Chip.Bears.ev {x : Fld} (h : c.Bears t n) (ha : ¬linkHeld n x.addr)
    (he : x.addr ≠ R.linkEvt n ∨ x.lo + x.width ≤ 9 ∨ 10 ≤ x.lo) : c.Bears (t.ev x) n := h.setF ha he

theorem Chip.Bears.report (h : c.Bears t n) (src inst : Nat) : c.Bears (t.report src inst) n :=
  h.trans ⟨fun _ _ => rfl, rfl, by rw [Chip.link_congr (Chip.report_links ..)], fun m => by rw [Chip.lane_congr (Chip.report_lanes ..)],
    by rw [Chip.report_reports]; exact List.prefix_append ..⟩

/-! ### The data of links and lanes -/

theorem Chip.Bears.modLink {g : LinkS → LinkS} (h : c.Bears t n) (k : Nat) (hg : ∀ l, (g l).swap = l.swap) :
    c.Bears (t.modLink k g) n := by
  refine h.trans ⟨fun _ _ => rfl, rfl, ?_, fun m => by rw [Chip.lane_congr (Chip.modLink_lanes ..)], by rw [Chip.modLink_reports]⟩
  simp only [Chip.link, Chip.modLink, List.getElem?_modify]
  cases t.links[n]? with
  | none => rfl
  | some l =>
    simp only [Option.map_eq_map, Option.map_some, Option.getD_some]
    split
    · exact hg l
    · rfl

theorem Chip.Bears.modLaneRx {g : LaneRx → LaneRx} (h : c.Bears t n) (j k : Nat) : c.Bears (t.modLaneRx j k g) n :=
  h.modLink j fun _ => rfl

theorem Chip.Bears.modLane {g : LaneS → LaneS} (h : c.Bears t n) (j k : Nat) (hg : ∀ l, (g l).precRx = l.precRx) :
    c.Bears (t.modLane j k g) n := by
  refine h.trans ⟨fun _ _ => rfl, rfl, by rw [Chip.link_congr (Chip.modLane_links ..)], fun m => ?_, by rw [Chip.modLane_reports]⟩
  simp only [Chip.lane, Chip.modLane, List.getElem?_modify]
  cases t.lanes[n * 9 + m]? with
  | none => rfl
  | some l =>
    simp only [Option.map_eq_map, Option.map_some, Option.getD_some]
    split
    · exact hg l
    · rfl

theorem Chip.Bears.emit (h : c.Bears t n) (o : Out) : c.Bears (t.emit o) n := h.same rfl rfl rfl rfl

theorem Chip.Bears.fresh (h : c.Bears t n) (k : Nat) : c.Bears (t.fresh k).2 n := h.same rfl rfl rfl rfl

/-! ### Where the registers lie -/

/-- A register of a lane past LN_CTRL is not held. -/
theorem laneReg_notHeld {m k : Nat} (h1 : 0 < k) (h2 : k < 0x100) : ¬linkHeld n (0x108000 + n * 0x10000 + m * 0x100 + k) := by
  rintro ⟨off, h, hoff⟩
  have hoff' : off = 0x8000 + m * 0x100 + k := by omega
  omega

/-- The registers of a link below its FEC counts and past them, up to the windows of the lanes, are not held. -/
theorem linkReg_notHeld {k : Nat} (h : k < 0x40 ∨ 0x58 ≤ k ∧ k < 0x8000) : ¬linkHeld n (0x100000 + n * 0x10000 + k) := by
  rintro ⟨off, h, hoff⟩
  have hoff' : off = k := by omega
  omega

/-- Registers past the windows of the links are not held. -/
theorem notHeld_of_ge {a : Nat} (hn : n < 10) (h : 0x1A0000 ≤ a) : ¬linkHeld n a := fun hl => by
  have := linkHeld_range hl
  omega

end Sys2Proof.Machine
end

section
/-! SUPPORT. The operations of a link and of its lanes bear along what the receiver leaves alone (R79, R102, R103, R106). -/

namespace Sys2Proof.Machine

section Fields
variable {c t : Chip} {n : Nat}

/-- A write of a field of a lane past LN_CTRL. -/
theorem Chip.Bears.setLane {x : Fld} {v : Nat} (h : c.Bears t n) (m k : Nat)
    (hx : x.addr = 0x108000 + n * 0x10000 + m * 0x100 + k) (h1 : 0 < k) (h2 : k < 0x100) : c.Bears (t.setF x v) n :=
  h.setF (hx ▸ laneReg_notHeld h1 h2) (Or.inl (by simp only [hx, R.linkEvt]; omega))

/-- A write of a field of a link below its FEC counts or past them, but for LINK_EVT. -/
theorem Chip.Bears.setLink {x : Fld} {v : Nat} (h : c.Bears t n) (k : Nat) (hx : x.addr = 0x100000 + n * 0x10000 + k)
    (hk : (k < 0x40 ∨ 0x58 ≤ k ∧ k < 0x8000) ∧ k ≠ 8) : c.Bears (t.setF x v) n :=
  h.setF (hx ▸ linkReg_notHeld hk.1) (Or.inl (by simp only [hx, R.linkEvt]; omega))

/-- An event of a link other than the loss of alignment. -/
theorem Chip.Bears.evLink {x : Fld} (h : c.Bears t n) (hx : x.addr = R.linkEvt n) (hb : x.lo + x.width ≤ 9 ∨ 10 ≤ x.lo) :
    c.Bears (t.ev x) n := h.ev (hx ▸ linkReg_notHeld (k := 8) (by omega)) (Or.inr hb)

/-- A write past the windows of the links. -/
theorem Chip.Bears.setFar {x : Fld} {v : Nat} (h : c.Bears t n) (hn : n < 10) (hx : 0x1A0000 ≤ x.addr) :
    c.Bears (t.setF x v) n := h.setF (notHeld_of_ge hn hx) (Or.inl (by simp only [R.linkEvt]; omega))

end Fields

variable (c : Chip) (n m : Nat)

/-! ### Lanes (R48) -/

theorem Chip.endGuard_bears : c.Bears (c.endGuard n m) n := (Chip.Bears.refl c n).modLane n m fun _ => by rfl

theorem Chip.clearFreeze_bears : c.Bears (c.clearFreeze n m) n :=
  ((Chip.Bears.refl c n).modLane n m fun _ => by rfl).setLane m 4 (by rfl) (by decide) (by decide)

theorem Chip.laneGo_bears (st : Nat) : c.Bears (c.laneGo n m st) n :=
  ((c.endGuard_bears n m).modLane n m fun _ => by rfl).setLane m 4 (by rfl) (by decide) (by decide)

theorem Chip.cdrSeen_bears : c.Bears (c.cdrSeen n m) n :=
  Chip.Bears.ite (fun _ => (Chip.Bears.refl c n).setLane m 4 (by rfl) (by decide) (by decide)) fun _ => Chip.Bears.refl c n

theorem Chip.testStop_bears : c.Bears (c.testStop n m) n :=
  ((((Chip.Bears.refl c n).setLane m 0x34 (by rfl) (by decide) (by decide)).setLane m 0x34 (by rfl) (by decide) (by decide)).setLane m 0x38
    (by rfl) (by decide) (by decide)).modLane n m fun _ => by rfl

theorem Chip.laneDown_bears : c.Bears (c.laneDown n m) n :=
  (((((c.laneGo_bears n m lsOff).trans (Chip.clearFreeze_bears _ n m)).setLane m 4 (by rfl) (by decide) (by decide)).setLane m 4 (by rfl)
    (by decide) (by decide)).trans (Chip.testStop_bears _ n m)).modLane n m fun _ => by rfl

theorem Chip.Bears.wrLane {c t : Chip} {n : Nat} {a : Nat} {v : Word} (h : c.Bears t n) (m k : Nat)
    (hx : a = 0x108000 + n * 0x10000 + m * 0x100 + k) (h1 : 0 < k) (h2 : k < 0x100) : c.Bears (t.wr a v) n :=
  h.wr (hx ▸ laneReg_notHeld h1 h2) (by simp only [hx, R.linkEvt]; omega)

theorem Chip.loadSet_bears (x : LaneSet) : c.Bears (c.loadSet n m x) n := by
  have h := ((Chip.Bears.refl c n).wrLane (a := R.lnRxeq n m) (v := x.rxeq) m 0x0C rfl (by decide) (by decide)).wrLane
    (a := R.lnFfe0 n m) (v := x.ffe0) m 0x10 rfl (by decide) (by decide)
  unfold Chip.loadSet
  refine Chip.Bears.ite (fun h9 => ?_) fun _ => h
  subst h9
  exact ((h.wrLane (a := R.lnFfe1 m) m 0x14 (by simp only [R.lnFfe1]) (by decide) (by decide)).wrLane (a := R.lnFfe2 m) m 0x18
    (by simp only [R.lnFfe2]) (by decide) (by decide)).wrLane (a := R.lnDfe m) m 0x1C (by simp only [R.lnDfe]) (by decide)
    (by decide)

theorem Chip.adaptSet_bears (hold : Bool) (x : LaneSet) : c.Bears (c.adaptSet n m hold x) n :=
  Chip.Bears.ite (fun _ => (c.loadSet_bears n m x).setLane m 0x0C (by rfl) (by decide) (by decide)) fun _ => c.loadSet_bears n m x

theorem Chip.laneOff_bears : c.Bears (c.laneOff n m) n := (c.laneDown_bears n m).trans (Chip.loadSet_bears _ n m _)

theorem Chip.laneRest_bears : c.Bears (c.laneRest n m) n :=
  Chip.Bears.ite (fun _ => Chip.Bears.refl c n) fun _ => c.laneOff_bears n m

theorem Chip.laneDeep_bears : c.Bears (c.laneDeep n m) n :=
  Chip.Bears.ite (fun _ => (c.laneGo_bears n m lsDeep).setLane m 4 (by rfl) (by decide) (by decide)) fun _ => Chip.Bears.refl c n

theorem Chip.laneFast_bears : c.Bears (c.laneFast n m) n :=
  Chip.Bears.ite (fun _ => c.laneGo_bears n m lsFast) fun _ => Chip.Bears.refl c n

theorem Chip.laneWakeData_bears : c.Bears (c.laneWakeData n m) n :=
  Chip.Bears.ite (fun _ => (c.laneGo_bears n m lsActive).setLane m 4 (by rfl) (by decide) (by decide)) fun _ => Chip.Bears.refl c n

theorem Chip.inject_bears (k : Nat) : c.Bears (c.inject n m k) n :=
  Chip.Bears.ite (fun _ => Chip.Bears.refl c n) fun _ => (Chip.Bears.ite (fun _ => Chip.Bears.refl c n) fun _ =>
    (Chip.Bears.refl c n).modLane n m fun _ => by rfl).emit _

theorem Chip.applyInjection_bears : c.Bears (c.applyInjection n m) n :=
  Chip.Bears.ite (fun _ => Chip.Bears.refl c n) fun _ =>
    ((c.inject_bears n m _).modLane n m fun _ => by rfl).setLane m 0x4C (by rfl) (by decide) (by decide)

theorem Chip.laneFastExit_bears : c.Bears (c.laneFastExit n m) n :=
  Chip.Bears.ite (fun _ => (c.laneGo_bears n m lsActive).trans (Chip.applyInjection_bears _ n m)) fun _ => Chip.Bears.refl c n

theorem Chip.laneTrainAbandoned_bears (x : LaneSet) : c.Bears (c.laneTrainAbandoned n m x) n := by
  have hset : c.Bears (if c.fb (F.lnAdaptAdaptEn n m) then c.adaptSet n m false x else c) n :=
    Chip.Bears.ite (fun _ => c.adaptSet_bears n m false x) fun _ => Chip.Bears.refl c n
  exact Chip.Bears.ite (fun _ => Chip.Bears.ite (fun _ => c.laneOff_bears n m) fun _ =>
    (hset.trans (Chip.laneGo_bears _ n m lsDeep)).setLane m 4 (by rfl) (by decide) (by decide)) fun _ => Chip.Bears.refl c n

theorem Chip.lanesWait_bears : c.Bears (c.lanesWait n) n :=
  (Chip.Bears.ite (fun _ => c.laneRest_bears n _) fun _ => Chip.Bears.refl c n).each
    (fun u k => (u.laneTrainAbandoned_bears n k _).trans (Chip.laneDeep_bears _ n k)) _

theorem Chip.allLanesOff_bears : c.Bears (c.allLanesOff n) n := (Chip.Bears.refl c n).each (fun u k => u.laneRest_bears n k) _

/-! ### Rounds (R76 to R78) -/

theorem Chip.flipBits_bears (bs : List Bool) : c.Bears (c.flipBits n m bs).1 n := (Chip.Bears.refl c n).modLane n m fun _ => by rfl

theorem Chip.txSyms_bears (coded : Bool) (g : List Nat) : c.Bears (c.txSyms n m coded g).1 n := by
  unfold Chip.txSyms
  dsimp only
  split
  · exact (Chip.Bears.refl c n).modLane n m fun _ => by rfl
  · exact Chip.Bears.refl c n

theorem Chip.laneTx_bears (bs : List Bool) : c.Bears (c.laneTx n m bs).1 n :=
  (c.flipBits_bears n m bs).trans (Chip.txSyms_bears _ n m true _)

theorem Chip.queueBlocks_bears (bs : List (Bool × List Byte)) : c.Bears (c.queueBlocks n bs) n :=
  (Chip.Bears.refl c n).modLink n fun _ => by rfl

theorem Chip.sendPacket_bears (typ : Nat) (body : List Byte) : c.Bears (c.sendPacket n typ body) n :=
  ((Chip.Bears.refl c n).emit _).trans (Chip.queueBlocks_bears _ n _)

theorem Chip.sendBlock_bears (bs : List Byte) : c.Bears (c.sendBlock n bs) n :=
  ((Chip.Bears.refl c n).emit _).trans (Chip.queueBlocks_bears _ n _)

theorem Chip.sendCodeword_bears (k : Nat) (am : Bool) (bs : List (Bool × List Byte)) : c.Bears (c.sendCodeword n k am bs) n :=
  ((Chip.Bears.refl c n).modLink n fun _ => by rfl).each (fun u j => (u.laneTx_bears n j _).emit _) _

theorem Chip.sendRound_bears : c.Bears (c.sendRound n) n :=
  ((Chip.Bears.refl c n).each (fun u _ => u.sendCodeword_bears n _ _ _) _).modLink n fun _ => by rfl

theorem Chip.flushRounds_bears (k : Nat) : c.Bears (c.flushRounds n k) n := by
  induction k generalizing c with
  | zero => exact Chip.Bears.refl c n
  | succ k ih => exact Chip.Bears.ite (fun _ => Chip.Bears.refl c n) fun _ => (c.sendRound_bears n).trans (ih _)

theorem Chip.stopRounds_bears : c.Bears (c.stopRounds n) n :=
  (Chip.Bears.ite (fun _ => c.flushRounds_bears n _) fun _ => Chip.Bears.refl c n).modLink n fun _ => by rfl

theorem Chip.sendHb_bears : c.Bears (c.sendHb n) n :=
  (((Chip.Bears.refl c n).fresh 1).trans (Chip.sendPacket_bears _ n _ _)).modLink n fun _ => by rfl

theorem Chip.sendCap_bears : c.Bears (c.sendCap n) n := c.sendPacket_bears n _ _

end Sys2Proof.Machine
end

section
/-! SUPPORT. The states of a link and its receiver bear along the same (R79, R83, R87, R102, R103, R106, R107). -/

namespace Sys2Proof.Machine

variable (c : Chip) (n : Nat)

theorem Chip.linkGo_bears (st : Nat) : c.Bears (c.linkGo n st) n := (Chip.Bears.refl c n).setLink 4 rfl (by decide)

theorem Chip.rxClear_bears : c.Bears (c.rxClear n) n := (Chip.Bears.refl c n).modLink n fun _ => by rfl

/-! ### Parts that are none of a link's -/

theorem Chip.modFe_bears (k : Nat) (g : FeS → FeS) : c.Bears (c.modFe k g) n := (Chip.Bears.refl c n).same rfl rfl rfl rfl

theorem Chip.modLog_bears (id : Nat) (g : LogEntry → LogEntry) : c.Bears (c.modLog id g) n :=
  (Chip.Bears.refl c n).same rfl rfl rfl rfl

theorem Chip.job_bears (j : JobS) : c.Bears { c with job := j } n := (Chip.Bears.refl c n).same rfl rfl rfl rfl

theorem Chip.defers_bears (ds : List Defer) : c.Bears { c with defers := ds } n := (Chip.Bears.refl c n).same rfl rfl rfl rfl

/-! ### Lines and triggers of a port that is lost (R102, R110, R124) -/

theorem Chip.trigLateOne_bears (trig : Nat) : c.Bears (c.trigLateOne n trig) n :=
  ((Chip.Bears.refl c n).setLink 0x80 (by rfl) (by decide)).trans (Chip.modFe_bears _ n n _)

theorem Chip.trigsLate_bears : c.Bears (c.trigsLate n) n :=
  ((Chip.Bears.refl c n).modLink n fun _ => by rfl).each (fun u _ => u.trigLateOne_bears n _) _

theorem Chip.trigDeparts_bears : c.Bears (c.trigDeparts n) n := by
  unfold Chip.trigDeparts
  split
  · exact Chip.Bears.refl c n
  · exact Chip.Bears.ite (fun _ => (((Chip.Bears.refl c n).modLink n fun _ => by rfl).emit _).trans (Chip.modLog_bears _ n _ _))
      fun _ => ((Chip.Bears.refl c n).modLink n fun _ => by rfl).trans (Chip.trigLateOne_bears _ n _)

theorem Chip.trigsLeave_bears : c.Bears (c.trigsLeave n) n := (Chip.Bears.refl c n).each (fun u _ => u.trigDeparts_bears n) _

theorem Chip.portOffClosed_bears (hn : n < 10) (trig : Nat) : c.Bears (c.portOffClosed n trig) n := by
  unfold Chip.portOffClosed
  refine Chip.Bears.ite (fun _ => ?_) fun _ => Chip.Bears.refl c n
  exact (((Chip.Bears.refl c n).setLink (x := F.linkCtrlExpected n) (v := 0) 0 (by rfl) (by decide)).setFar
    (x := F.jobEvtPortOff) (v := 1) hn (by decide)).trans (Chip.job_bears _ n _)

theorem Chip.feCloseAt_bears (hn : n < 10) (k : Nat) : c.Bears (c.feCloseAt n k) n := by
  unfold Chip.feCloseAt
  split
  · exact Chip.Bears.refl c n
  next l _ =>
    refine Chip.Bears.trans ?_ (Chip.portOffClosed_bears _ n hn _)
    have hrep : ∀ (p : Prop) [Decidable p] (u : Chip), u.Bears (if p then u.report 0x05 n else u) n := fun p _ u =>
      Chip.Bears.ite (fun _ => (Chip.Bears.refl u n).report _ _) fun _ => Chip.Bears.refl u n
    refine Chip.Bears.trans ?_ (hrep _ _)
    have hcount : ∀ (p q : Prop) [Decidable p] [Decidable q] (u : Chip),
        u.Bears (if p then u.inc (F.feMissCntCount n) else if q then u.inc (F.fePartCntCount n) else u) n := fun p q _ _ u =>
      Chip.Bears.ite (fun _ => (Chip.Bears.refl u n).setFar hn (by simp only [F.feMissCntCount, R.feMissCnt]; omega)) fun _ =>
        Chip.Bears.ite (fun _ => (Chip.Bears.refl u n).setFar hn (by simp only [F.fePartCntCount, R.fePartCnt]; omega)) fun _ =>
          Chip.Bears.refl u n
    have hbase := fun g p q hp hq => (c.modFe_bears n n g).trans (@hcount p q hp hq (c.modFe n g))
    split
    · refine Chip.Bears.ite (fun _ => ?_) fun _ => hbase _ _ _ _ _
      exact (hbase _ _ _ _ _).setFar hn (by simp only [F.feLnoGapCount, R.feLnoGap]; omega)
    · exact hbase _ _ _ _ _

theorem Chip.feCloseN_bears (hn : n < 10) (k : Nat) : c.Bears (c.feCloseN n k) n := by
  induction k generalizing c with
  | zero => exact Chip.Bears.refl c n
  | succ k ih => exact (c.feCloseAt_bears n hn 0).trans (ih _)

theorem Chip.fePortLoss_bears (hn : n < 10) : c.Bears (c.fePortLoss n) n := c.feCloseN_bears n hn _

theorem Chip.portLost_bears (hn : n < 10) : c.Bears (c.portLost n) n := by
  unfold Chip.portLost
  refine Chip.Bears.ite (fun _ => ?_) fun _ =>
    ((Chip.Bears.refl c n).modLink n fun _ => by rfl).trans (Chip.defers_bears _ n _)
  exact (((Chip.Bears.refl c n).modLink n fun _ => by rfl).trans (Chip.trigsLate_bears _ n)).trans (Chip.fePortLoss_bears _ n hn)

/-! ### Pending work (R96, R103, R116, R117) -/

theorem Chip.ctrlStart_bears (r : CtrlReq) : c.Bears (c.ctrlStart n r) n := by
  have h : ∀ r, c.Bears ((c.modLink n fun l => { l with ctrl := some r, tag := (l.tag + 1) % 256 }).sendPacket n 2 (ctrlBody r)) n :=
    fun r => ((Chip.Bears.refl c n).modLink n fun _ => by rfl).trans (Chip.sendPacket_bears _ n _ _)
  exact Chip.Bears.ite (fun _ => h _) fun _ => (h _).setLink 0x2C (by rfl) (by decide)

theorem Chip.ctrlEnd_bears (code : Nat) (data : Option Nat) : c.Bears (c.ctrlEnd n code data) n := by
  have hstat : ∀ u : Chip, u.Bears (((u.setF (F.hregStatBusy n) 0).setF (F.hregStatDone n) 1).setF (F.hregStatCode n) code) n :=
    fun u => (((Chip.Bears.refl u n).setLink 0x2C (by rfl) (by decide)).setLink 0x2C (by rfl) (by decide)).setLink 0x2C (by rfl)
      (by decide)
  have hnext : ∀ (u : Chip) w, u.Bears ((u.modLink n fun l => { l with mailbox := none }).ctrlStart n w) n := fun u w =>
    ((Chip.Bears.refl u n).modLink n fun _ => by rfl).trans (Chip.ctrlStart_bears _ n w)
  have htaken : ∀ u : Chip, u.Bears (u.modLink n fun l => { l with ctrl := none }) n := fun u =>
    (Chip.Bears.refl u n).modLink n fun _ => by rfl
  have himage : ∀ u : Chip, u.Bears (u.modLink n fun l => { l with imgDone := l.imgDone + 1 }) n := fun u =>
    (Chip.Bears.refl u n).modLink n fun _ => by rfl
  unfold Chip.ctrlEnd
  split
  · exact Chip.Bears.refl c n
  · dsimp only
    split
    on_goal 1 => refine Chip.Bears.trans ?_ (hnext _ _)
    all_goals
      refine (htaken c).trans (Chip.Bears.ite (fun _ => himage _) fun _ => ?_)
      split
      · exact Chip.Bears.ite (fun _ => hstat _) fun _ => (hstat _).setLink 0x24 (by rfl) (by decide)
      · exact hstat _

theorem Chip.ctrlDrop_bears : c.Bears (c.ctrlDrop n) n := by
  unfold Chip.ctrlDrop
  refine Chip.Bears.trans ?_ (Chip.ctrlEnd_bears _ n _ _)
  split
  · exact ((((Chip.Bears.refl c n).modLink n fun _ => by rfl).setLink 0x2C (by rfl) (by decide)).setLink 0x2C (by rfl)
      (by decide)).setLink 0x2C (by rfl) (by decide)
  · exact Chip.Bears.refl c n

theorem Chip.linkPendingEnds_bears (hs : (c.link n).swap = none) : c.Bears (c.linkPendingEnds n) n := by
  have hfail : c.swapFail n 5 8 true = c := by rw [Chip.swapFail, hs]
  rw [Chip.linkPendingEnds, hfail]
  exact Chip.Bears.ite (fun _ => c.ctrlDrop_bears n) fun _ => Chip.Bears.refl c n

/-! ### SEEKING and DISABLED (R102, R103) -/

theorem Chip.linkDown_bears (hn : n < 10) (hs : (c.link n).swap = none) (send : Bool) : c.Bears (c.linkDown n send) n := by
  have hsend : ∀ u : Chip, u.Bears (if send then ((u.sendBlock n (mkBlock 0x6A false [])).stopRounds n).trigsLeave n else u) n :=
    fun u => Chip.Bears.ite (fun _ => ((u.sendBlock_bears n _).trans (Chip.stopRounds_bears _ n)).trans (Chip.trigsLeave_bears _ n))
      fun _ => Chip.Bears.refl u n
  have hlost : ∀ u : Chip, u.Bears (if c.linkSt n = lkActive then u.portLost n else u) n := fun u =>
    Chip.Bears.ite (fun _ => u.portLost_bears n hn) fun _ => Chip.Bears.refl u n
  exact (((((c.linkPendingEnds_bears n hs).trans (hsend _)).trans (hlost _)).trans (Chip.allLanesOff_bears _ n)).trans
    (Chip.rxClear_bears _ n) |>.trans (Chip.linkGo_bears _ n _)).modLink n fun _ => by rfl

theorem Chip.seek_bears (hn : n < 10) (hs : (c.link n).swap = none) : c.Bears (c.seek n) n := by
  have hlost : ∀ u : Chip, u.Bears (if c.linkSt n = lkActive then u.portLost n else u) n := fun u =>
    Chip.Bears.ite (fun _ => u.portLost_bears n hn) fun _ => Chip.Bears.refl u n
  have hwait := (((((c.linkPendingEnds_bears n hs).trans (hlost _)).trans (Chip.lanesWait_bears _ n)).trans
    (Chip.rxClear_bears _ n)).trans (Chip.linkGo_bears _ n lkSeeking)).modLink
      (g := fun l => { l with cfgStep := 0, pcs := none, txq := [], fromSeek := false }) n fun _ => by rfl
  have hseek := (hwait.setLink (x := F.linkStateAttempts n) (v := 0) 4 (by rfl) (by decide)).evLink (x := F.linkEvtSeek n)
    (by rfl) (by simp [F.linkEvtSeek])
  refine Chip.Bears.ite (fun _ => c.linkDown_bears n hn hs true) fun _ => Chip.Bears.ite (fun _ => ?_) fun _ => ?_
  · exact hwait.setLink (x := F.linkStateBackoffMs n) 4 (by rfl) (by decide)
  · exact Chip.Bears.ite (fun _ => hseek.report _ _) fun _ => hseek

theorem Chip.Bears.noSwap {c t : Chip} {n : Nat} (h : c.Bears t n) (hs : (c.link n).swap = none) : (t.link n).swap = none :=
  h.swap.trans hs

theorem Chip.phaseFail_bears (hn : n < 10) (hs : (c.link n).swap = none) (phase : Nat) : c.Bears (c.phaseFail n phase) n := by
  have h := ((Chip.Bears.refl c n).evLink (x := F.linkEvtTrainTo n) (by rfl) (by simp [F.linkEvtTrainTo])).setLink
    (x := F.linkStateLastFailPhase n) (v := phase) 4 (by rfl) (by decide)
  exact h.trans (Chip.seek_bears _ n hn (h.noSwap hs))

theorem Chip.alignDone_bears : c.Bears (c.alignDone n) n :=
  (Chip.Bears.trans ((c.linkGo_bears n _).modLink n fun _ => by rfl) (Chip.Bears.ite (fun _ => Chip.Bears.refl _ n) fun _ =>
    Chip.sendCap_bears _ n)).trans (Chip.sendHb_bears _ n)

theorem Chip.alignCheck_bears (hn : n < 10) (hs : (c.link n).swap = none) : c.Bears (c.alignCheck n) n :=
  Chip.Bears.ite (fun _ => Chip.Bears.ite (fun _ => c.phaseFail_bears n hn hs 4) fun _ => c.alignDone_bears n)
    fun _ => Chip.Bears.refl c n

/-! ### Idle (R105 to R107) -/

theorem Chip.linkIdle_bears (hn : n < 10) (deep : Bool) : c.Bears (c.linkIdle n deep) n := by
  refine Chip.Bears.ite (fun _ => ?_) fun _ => Chip.Bears.refl c n
  have h := (((c.sendBlock_bears n (mkBlock (if deep then 0x6A else 0x66) false [])).trans (Chip.stopRounds_bears _ n)).trans
    (Chip.trigsLeave_bears _ n)).trans (Chip.portLost_bears _ n hn)
  refine (h.each (fun u k => ?_) _).trans (Chip.linkGo_bears _ n _)
  exact Chip.Bears.ite (fun _ => u.laneDeep_bears n k) fun _ => u.laneFast_bears n k

theorem Chip.linkIdleExit_bears : c.Bears (c.linkIdleExit n) n := by
  refine Chip.Bears.ite (fun _ => ?_) fun _ => Chip.Bears.refl c n
  have h := (Chip.Bears.refl c n).each (g := fun u k => if c.linkSt n = lkIdleF then u.laneFastExit n k else u.laneWakeData n k)
    (fun u k => Chip.Bears.ite (fun _ => u.laneFastExit_bears n k) fun _ => u.laneWakeData_bears n k) (c.mapped n)
  have hport : ∀ u : Chip, u.Bears (if n < 8 then u.fePortUp n else u) n := fun u =>
    Chip.Bears.ite (fun _ => u.modFe_bears n n _) fun _ => Chip.Bears.refl u n
  exact (((h.trans (Chip.linkGo_bears _ n lkActive)).modLink n fun _ => by rfl).trans (hport _)).trans (Chip.sendHb_bears _ n)

/-! ### Blocks received (R83, R87, R106) -/

theorem Chip.rxPhase_bears (p : RxPhase) : c.Bears (c.rxPhase n p) n := (Chip.Bears.refl c n).modLink n fun _ => by rfl

theorem Chip.rxGrow_bears (len : Nat) (bytes : List Byte) : c.Bears (c.rxGrow n len bytes) n :=
  Chip.Bears.ite (fun _ => (Chip.Bears.refl c n).modLink n fun _ => by rfl) fun _ => c.rxPhase_bears n _

theorem Chip.frameErr_bears : c.Bears (c.inc (F.frameErrCount n)) n := (Chip.Bears.refl c n).setLink 0x58 (by rfl) (by decide)

theorem Chip.fecDrop_bears : c.Bears (c.inc (F.fecDropCount n)) n := (Chip.Bears.refl c n).setLink 0x5C (by rfl) (by decide)

theorem Chip.osErr_bears : c.Bears (c.inc (F.osErrCount n)) n := (Chip.Bears.refl c n).setLink 0x68 (by rfl) (by decide)

theorem Chip.rxBreak_bears : c.Bears (c.rxBreak n) n :=
  Chip.Bears.trans (Chip.Bears.ite (fun _ => c.frameErr_bears n) fun _ => Chip.Bears.refl c n) (Chip.rxPhase_bears _ n _)

theorem Chip.rxBlock_bears (hn : n < 10) (b : RxBlock) : c.Bears (c.rxBlock n b) n := by
  have hdrop : ∀ u : Chip, u.Bears ((u.inc (F.fecDropCount n)).rxPhase n .resync) n := fun u =>
    (u.fecDrop_bears n).trans (Chip.rxPhase_bears _ n _)
  unfold Chip.rxBlock
  refine Chip.Bears.ite (fun _ => ?_) fun _ => Chip.Bears.ite (fun _ => ?_) fun _ => ?_
  · have h : ∀ (p : Prop) [Decidable p] (u : Chip), u.Bears (if p then (u.inc (F.fecDropCount n)).rxPhase n .resync else u) n :=
      fun p _ u => Chip.Bears.ite (fun _ => hdrop u) fun _ => Chip.Bears.refl u n
    exact (h _ c).trans (h _ _)
  · split
    · exact c.rxGrow_bears n _ _
    · exact c.frameErr_bears n
    · exact Chip.Bears.refl c n
  · have hos : ∀ p : Bool, c.Bears (if p then c else c.inc (F.osErrCount n)) n := fun p =>
      Chip.Bears.ite (fun _ => Chip.Bears.refl c n) fun _ => c.osErr_bears n
    have hidle : ∀ deep, c.Bears (if c.headRole n then (c.rxBreak n).linkIdle n deep else c.rxBreak n) n := fun deep =>
      Chip.Bears.ite (fun _ => (c.rxBreak_bears n).trans (Chip.linkIdle_bears _ n hn deep)) fun _ => c.rxBreak_bears n
    split
    · refine (c.rxBreak_bears n).trans (Chip.Bears.ite (fun _ => ?_) fun _ => Chip.rxGrow_bears _ n _ _)
      exact (Chip.frameErr_bears _ n).trans (Chip.rxPhase_bears _ n _)
    · exact hos _
    · exact hos _
    · exact hos _
    · exact hos _
    · exact c.rxBreak_bears n
    · exact hidle false
    · exact hidle true
    · exact (c.osErr_bears n).trans (Chip.rxBreak_bears _ n)

theorem Chip.rxDrain_bears (hn : n < 10) (f : Nat) : c.Bears (c.rxDrain n f) n := by
  induction f generalizing c with
  | zero => exact Chip.Bears.refl c n
  | succ f ih =>
    unfold Chip.rxDrain
    dsimp only
    split
    · exact Chip.Bears.refl c n
    · refine Chip.Bears.trans (Chip.Bears.each ?_ (fun u b => u.rxBlock_bears n hn b) _) (ih _)
      exact (((Chip.Bears.refl c n).modLaneRx n _).modLink n fun _ => by rfl).modLink n fun _ => by rfl

theorem Chip.rxDeskew_bears (hn : n < 10) (k : Nat) (w : RxWord) : c.Bears (c.rxDeskew n k w) n :=
  Chip.Bears.ite (fun _ => (Chip.Bears.refl c n).modLaneRx n k) fun _ =>
    ((Chip.Bears.refl c n).modLaneRx n k).trans (Chip.rxDrain_bears _ n hn _)

end Sys2Proof.Machine
end

section
/-! SUPPORT. A codeword and an AM position of a lane in use, while no SWAP runs (R45, R46, R77, R79, R432). -/

namespace Sys2Proof.Machine

theorem Chip.mapOf_lt (c : Chip) (n k : Nat) : c.mapOf n k < 16 := c.f_lt (F.laneMapLog n k)

section Bears
variable {c t : Chip} {n : Nat}

theorem Chip.Bears.f {x : Fld} (h : c.Bears t n) (hx : linkHeld n x.addr) : t.f x = c.f x := by rw [Chip.f, Chip.f, h.held _ hx]

theorem Chip.Bears.fb {x : Fld} (h : c.Bears t n) (hx : linkHeld n x.addr) : t.fb x = c.fb x := by rw [Chip.fb, Chip.fb, h.f hx]

theorem Chip.Bears.mapOf (h : c.Bears t n) (k : Nat) : t.mapOf n k = c.mapOf n k := h.f ⟨0x8F00, rfl, by omega⟩

theorem lnCtrl_held {m : Nat} (hm : m < 16) : linkHeld n (R.lnCtrl n m) :=
  ⟨0x8000 + m * 0x100, by simp only [R.lnCtrl]; omega, by omega⟩

/-- Where polarity, precoding and its state are the same, received symbols carry the same data bits. -/
theorem Chip.Bears.laneRxBits {m : Nat} (h : c.Bears t n) (hm : m < 16) (l : List Nat) :
    (t.laneRxBits n m l).2 = (c.laneRxBits n m l).2 := by
  unfold Chip.laneRxBits Chip.rxSyms
  rw [h.fb (x := F.lnCtrlRxInv n m) (lnCtrl_held hm), h.fb (x := F.lnCtrlPrecodeRx n m) (lnCtrl_held hm), h.prec m]
  dsimp only
  split <;> rfl

end Bears

section Words
variable (c : Chip) (n : Nat)

theorem Chip.laneRxBits_regs (m : Nat) (l : List Nat) : (c.laneRxBits n m l).1.regs = c.regs := c.rxSyms_regs true l

theorem Chip.laneRxBits_links (m : Nat) (l : List Nat) : (c.laneRxBits n m l).1.links = c.links := by
  unfold Chip.laneRxBits Chip.rxSyms
  dsimp only
  split
  · exact Chip.modLane_links ..
  · rfl

theorem Chip.swapReached_none {c : Chip} {n : Nat} (h : (c.link n).swap = none) (k : Nat) : c.swapReached n k = c := by
  rw [Chip.swapReached, h]

theorem Chip.swapOldFails_none {c : Chip} {n : Nat} (h : (c.link n).swap = none) (k : Nat) : c.swapOldFails n k = c := by
  rw [Chip.swapOldFails, h]

theorem Chip.rxOnNew_none {c : Chip} {n : Nat} (h : (c.link n).swap = none) (k : Nat) : c.rxOnNew n k = false := by
  rw [Chip.rxOnNew, h]; rfl

/-- What a receiver keeps of a codeword that is there. -/
def Chip.wordTurn (c : Chip) (n k : Nat) : Chip :=
  (c.modLink n fun l => { l with exiting := false }).modLaneRx n k fun l => { l with am := false, pos := nextPlace l.pos }

theorem Chip.wordTurn_bears (k : Nat) : c.Bears (c.wordTurn n k) n :=
  ((Chip.Bears.refl c n).modLink n fun _ => by rfl).modLaneRx n k

variable {k m : Nat} {sym word : List Nat}

/-- A codeword that decodes: both counts grow by its corrected symbols, and nothing behind touches them. -/
theorem Chip.rxTake_decoded (hn : n < 10) {w : List Nat} {e : Nat} (h : rsDecode word = some (w, e)) :
    (((c.wordTurn n k).add (F.lsymCount n k) e).add (F.fecCorrCount n) e).Bears (c.rxTake n k m word) n := by
  unfold Chip.rxTake
  rw [h]
  exact (((Chip.Bears.refl _ n).modLaneRx n k).trans (Chip.cdrSeen_bears _ n m)).trans (Chip.rxDeskew_bears _ n hn k _)

/-- A codeword that does not decode counts as uncorrectable, and nothing behind touches the count. -/
theorem Chip.rxTake_undecoded (hn : n < 10) (h : rsDecode word = none) :
    ((c.wordTurn n k).inc (F.fecUncorrCount n)).Bears (c.rxTake n k m word) n := by
  unfold Chip.rxTake
  rw [h]
  exact ((Chip.Bears.refl _ n).modLink n fun _ => by rfl).trans (Chip.rxDeskew_bears _ n hn k _)

theorem Chip.rxTake_noSwap (hn : n < 10) (hs : (c.link n).swap = none) : ((c.rxTake n k m word).link n).swap = none := by
  have hturn := (c.wordTurn_bears n k).noSwap hs
  cases h : rsDecode word with
  | some r =>
    refine (c.rxTake_decoded n (m := m) hn h).noSwap ?_
    rw [Chip.link_congr ((Chip.add_links ..).trans (Chip.add_links ..))]
    exact hturn
  | none =>
    refine (c.rxTake_undecoded n (m := m) hn h).noSwap ?_
    rw [Chip.link_congr (Chip.inc_links ..)]
    exact hturn

/-- A codeword of a lane in use, its data bits read with the map and the settings that the lane has. -/
theorem Chip.codeword_taken (hpcs : c.pcsRuns n = true) (hk : k < logicalCount n) (hs : (c.link n).swap = none) (hn : n < 10) :
    ∃ u : Chip, (∀ x, linkHeld n x.addr → u.f x = c.f x) ∧ c.codeword n k false sym
      = u.rxTake n k (c.mapOf n k) (symbolsOfBits 544 (c.laneRxBits n (c.mapOf n k) sym).2) := by
  obtain ⟨v, hv, hcode⟩ : ∃ v, c.Bears v n ∧ c.codeword n k false sym = if v.rxOnNew n k then v else
      (v.laneRxBits n (v.mapOf n k) sym).1.rxCodeword n k (v.mapOf n k)
        (symbolsOfBits 544 (v.laneRxBits n (v.mapOf n k) sym).2) := by
    refine ⟨if c.headRole n ∧ (c.linkSt n = lkIdleF ∨ c.linkSt n = lkIdleD) then c.linkIdleExit n else c,
      Chip.Bears.ite (fun _ => c.linkIdleExit_bears n) fun _ => Chip.Bears.refl c n, ?_⟩
    rw [Chip.codeword, if_neg (by simp [hpcs, hk])]
  have hvs := hv.noSwap hs
  rw [Chip.rxOnNew_none hvs, if_neg Bool.false_ne_true, hv.mapOf, hv.laneRxBits (c.mapOf_lt n k)] at hcode
  generalize hu : (v.laneRxBits n (c.mapOf n k) sym).1 = u at hcode
  have hlinks : u.links = v.links := by rw [← hu, Chip.laneRxBits_links]
  refine ⟨u, fun x hx => ?_, hcode.trans ?_⟩
  · rw [← hu, Chip.f_congr (Chip.laneRxBits_regs ..), hv.f hx]
  · have hus : (u.link n).swap = none := by rw [Chip.link_congr hlinks, hvs]
    have htake := Chip.rxTake_noSwap u n (k := k) (m := c.mapOf n k)
      (word := symbolsOfBits 544 (c.laneRxBits n (c.mapOf n k) sym).2) hn hus
    rw [Chip.rxCodeword, Chip.swapOldFails_none htake, Chip.swapReached_none htake, ite_self]

end Words

section Alignment
variable {c : Chip} {n k : Nat}

/-- The loss of the lock of a lane shows and is reported, whatever the link does of it. -/
theorem Chip.amLost_shows (hn : n < 10) (hs : (c.link n).swap = none) :
    ((c.ev (F.linkEvtAmLoss n)).report 0x03 (laneInst n (c.mapOf n k))).Bears (c.amLost n k) n := by
  generalize hu : (c.ev (F.linkEvtAmLoss n)).report 0x03 (laneInst n (c.mapOf n k)) = u
  have hus : (u.link n).swap = none := by
    rw [← hu, Chip.link_congr ((Chip.report_links ..).trans (Chip.ev_links ..)), hs]
  rw [Chip.amLost, Chip.rxOnNew_none hs, if_neg Bool.false_ne_true, hu, Chip.swapOldFails_none hus]
  have hev := (Chip.Bears.refl u n).evLink (x := F.linkEvtHbLost n) (by rfl) (by simp [F.linkEvtHbLost])
  exact Chip.Bears.ite (fun _ => hev.trans (Chip.seek_bears _ n hn (hev.noSwap hus))) fun _ => Chip.Bears.refl u n

/-- The third AM position in a row without a valid AM block ends the lock (R79). -/
theorem Chip.amPosition_third {block : List Byte} {late : Nat} (hn : n < 10) (hpcs : c.pcsRuns n = true) (hk : k < logicalCount n)
    (hs : (c.link n).swap = none) (hb : amValid k block = false) (hl : (c.laneRx n k).locked = true) (hf : (c.laneRx n k).fRun = 2) :
    ∃ v, c.Bears v n ∧
      ((v.ev (F.linkEvtAmLoss n)).report 0x03 (laneInst n (c.mapOf n k))).Bears (c.amPosition n k false block late) n := by
  obtain ⟨v, hv, ham⟩ : ∃ v, c.Bears v n ∧ c.amTaken n k (c.mapOf n k) block late = (v.amLost n k).alignCheck n := by
    unfold Chip.amTaken
    simp only [hb, hl, hf, Bool.false_and, Bool.false_eq_true, if_false, beq_self_eq_true, Bool.and_self, if_true]
    exact ⟨_, Chip.Bears.modLaneRx (Chip.Bears.ite (fun _ => (Chip.Bears.refl c n).report _ _) fun _ => Chip.Bears.refl c n) n k, rfl⟩
  have hlost := v.amLost_shows (k := k) hn (hv.noSwap hs)
  rw [hv.mapOf] at hlost
  have hlosts : ((v.amLost n k).link n).swap = none := hlost.noSwap (by
    rw [Chip.link_congr ((Chip.report_links ..).trans (Chip.ev_links ..)), hv.noSwap hs])
  have hend := Chip.alignCheck_bears (v.amLost n k) n hn hlosts
  refine ⟨v, hv, ?_⟩
  rw [Chip.amPosition, if_neg (by simp [hpcs, hk]), Chip.rxOnNew_none hs, if_neg Bool.false_ne_true, ham,
    Chip.swapReached_none (hend.noSwap hlosts)]
  exact hlost.trans hend

end Alignment

end Sys2Proof.Machine
end

section
/-! The counts of a codeword, the loss of alignment and the answer to a training frame (R77, R79, R98, R432). -/

namespace Sys2Proof.Machine

section Training
variable (c : Chip) (n m : Nat)

/-! ### A lane in training stays there when the map follows the frame (R74, R98) -/

theorem Chip.laneBringUp_keeps : c.Keeps (c.laneBringUp n m) (R.lnCtrl n m :: laneRegs n m) := by
  have hgo : ∀ (u : Chip) (st : Nat), u.Keeps (u.laneGo n m st) (R.lnCtrl n m :: laneRegs n m) := fun u st =>
    (u.laneGo_keeps n m st).mono (by simp [laneRegs])
  have hreset : ∀ u : Chip, u.Keeps (u.resetCoeffs n m) (R.lnCtrl n m :: laneRegs n m) := fun u =>
    (u.resetCoeffs_keeps n m).mono fun a ha => List.mem_cons_of_mem _ (coeffRegs_subset_laneRegs n m ha)
  have habort : ∀ u : Chip, u.Keeps (u.laneCondAbort n m) (R.lnCtrl n m :: laneRegs n m) := fun u =>
    Chip.Keeps.ite (fun _ => (((hreset u).setF (by simp [F.lnCtrlLoopback])).trans (hgo _ lsTrain)).same rfl rfl)
      fun _ => Chip.Keeps.refl u _
  unfold Chip.laneBringUp
  refine Chip.Keeps.ite (fun h9 => ?_) fun _ => ?_
  · subst h9
    exact Chip.Keeps.ite (fun _ => (hreset c).trans (hgo _ lsTrain)) fun _ => habort c
  · refine (habort c).trans ?_
    refine Chip.Keeps.trans (t := ((c.laneCondAbort n m).lanePowerUp n m).laneWakeTrain n m) ?_
      (Chip.Keeps.ite (fun _ => hgo _ lsTrain) fun _ => Chip.Keeps.refl _ _)
    refine Chip.Keeps.trans (t := (c.laneCondAbort n m).lanePowerUp n m) ?_
      (Chip.Keeps.ite (fun _ => hgo _ lsTrain) fun _ => Chip.Keeps.refl _ _)
    exact Chip.Keeps.ite (fun _ => (hreset _).trans (hgo _ lsDeep)) fun _ => Chip.Keeps.refl _ _

theorem Chip.trainStart_keeps : c.Keeps (c.trainStart n m) (R.lnCtrl n m :: laneRegs n m) :=
  (c.laneBringUp_keeps n m).same rfl rfl

variable {c n m}

/-- The fields of a link that a lane in training leaves: its state and its lane map. -/
theorem Chip.trainStart_f {x : Fld} (hm : m < 9) (hx : x.addr = R.linkState n ∨ x.addr = R.laneMap n) :
    (c.trainStart n m).f x = c.f x := by
  refine (c.trainStart_keeps n m).f (fun h => ?_) (reg_ne_scp ?_).1
  · rcases List.mem_cons.1 h with h | h
    · simp only [R.lnCtrl, R.linkState, R.laneMap] at h hx
      omega
    · have := laneRegs_lt hm h
      simp only [R.linkState, R.laneMap] at hx
      omega
  · simp only [R.linkState, R.laneMap] at hx
    omega

theorem Chip.remap_mapOf {log : Nat} (hlog : log < 8) (hm : m < 16) : (c.remap n log m).mapOf n log = m := by
  rw [Chip.remap, Chip.syncMapped_mapOf]
  refine (Chip.f_setF_self _ (x := F.laneMapLog n log) m (by simp only [F.laneMapLog]; omega)).trans (Nat.mod_eq_of_lt ?_)
  simpa [F.laneMapLog] using hm

theorem Chip.remap_linkSt (log : Nat) : (c.remap n log m).linkSt n = c.linkSt n := by
  refine ((Chip.syncMapped_keeps (c := c.setF (F.laneMapLog n log) m) (n := n)).f (fun h => ?_)
    (reg_ne_scp (by simp only [F.linkStateState, R.linkState]; omega)).1).trans
    (Chip.f_setF_ne _ _ (by simp [F.linkStateState, F.laneMapLog, R.linkState, R.laneMap]))
  obtain ⟨j, hj, hjn⟩ := List.mem_map.1 h
  simp only [F.linkStateState, R.linkState, R.lnState] at hjn
  omega

/-- The map follows the frame, and the lane is in training before and after. -/
theorem Chip.headMap_inTraining (log : Nat) (hm : m < laneCount n) (h1 : lkDetect ≤ c.linkSt n) (h2 : c.linkSt n ≤ lkEqualize)
    (h : c.inTraining n m = true) : (c.headMap n m log).inTraining n m = true := by
  unfold Chip.headMap
  split
  next hc =>
    obtain ⟨_, _, hlog, _⟩ := hc
    have hm9 := lt_of_lt_of_le hm (laneCount_le n)
    have hcount := laneCount_le n
    have hlog8 : log < 8 := by unfold logicalCount at hlog; omega
    have hmap : ((c.remap n log m).trainStart n m).mapOf n log = m :=
      (Chip.trainStart_f hm9 (Or.inr rfl)).trans (Chip.remap_mapOf hlog8 (by omega))
    have hst : ((c.remap n log m).trainStart n m).linkSt n = c.linkSt n :=
      (Chip.trainStart_f hm9 (Or.inl rfl)).trans (Chip.remap_linkSt log)
    have hmem : m ∈ ((c.remap n log m).trainStart n m).mapped n := List.mem_map.2 ⟨log, List.mem_range.2 hlog, hmap⟩
    simp [Chip.inTraining, hst, h1, h2, hmem]
  next => exact h

/-! ### The frame that answers stays among what the device sends -/

theorem Chip.each_shows {α : Type} {o : Out} {g : Chip → α → Chip} (hg : ∀ (u : Chip) x, o ∈ u.out → o ∈ (g u x).out)
    (l : List α) (h : o ∈ c.out) : o ∈ (c.each l g).out := by
  unfold Chip.each
  induction l generalizing c with
  | nil => exact h
  | cons x xs ih => exact ih (hg c x h)

theorem Chip.laneRest_out : (c.laneRest n m).out = c.out := by
  rw [Chip.laneRest]
  split
  · rfl
  · exact Chip.laneOff_out ..

theorem Chip.showFrames_shows {o : Out} (h : o ∈ c.out) : o ∈ (c.showFrames n).out :=
  Chip.each_shows (fun u k hu => by rw [Chip.showFrame, Chip.emit_out]; exact List.mem_append_left _ hu) _ h

theorem Chip.wakeDone_shows {o : Out} (h : o ∈ c.out) : o ∈ (c.wakeDone n).out := by
  unfold Chip.wakeDone
  split
  · refine Chip.showFrames_shows ?_
    rw [Chip.linkGo, Chip.setF_out]
    refine Chip.each_shows (fun u k hu => by rwa [Chip.modLaneTr, Chip.modLink_out, Chip.endGuard, Chip.modLane_out]) _ ?_
    split
    · rwa [Chip.laneRest_out]
    · exact h
  · exact h

theorem Chip.swapMirror_out : (c.swapMirror n).out = c.out := by
  unfold Chip.swapMirror
  split
  · rfl
  · split
    · rw [Chip.swapStep, Chip.setF_out, Chip.modSwap, Chip.modLink_out]
    · rfl

theorem Chip.showFrame_answers (c : Chip) (n m : Nat) :
    ∃ x, .trainFrame n m x ∈ (((c.showFrame n m).wakeDone n).swapMirror n).out := by
  refine ⟨c.trainWord n m, ?_⟩
  rw [Chip.swapMirror_out]
  refine Chip.wakeDone_shows ?_
  rw [Chip.showFrame, Chip.emit_out]
  exact List.mem_append_right _ (List.mem_singleton_self _)

/-- A frame with a known phase, on a lane in training, is answered by a frame of the device's own (R98). -/
theorem Chip.trainFrame_answers {w crc : Word} (hm : m < laneCount n) (h : c.inTraining n m = true) (hw : getBits w 28 4 < 4) :
    ∃ x, .trainFrame n m x ∈ (c.trainFrame n m w crc).out := by
  unfold Chip.trainFrame
  dsimp only
  generalize (crc == crc32c (natBytesBE 4 w.toNat)) = valid
  have htrain : (if valid && decide (lkDetect ≤ c.linkSt n) && decide (c.linkSt n ≤ lkEqualize) && decide (getBits w 28 4 < 3) then
      c.headMap n m (getBits w 22 3) else c).inTraining n m = true := by
    split
    next hc =>
      simp only [Bool.and_eq_true, decide_eq_true_eq] at hc
      exact c.headMap_inTraining _ hm hc.1.1.2 hc.1.2 h
    next => exact h
  rw [htrain, if_neg (by simp; omega)]
  exact Chip.showFrame_answers ..

end Training

/-! ### What the commands show -/

section Commands
variable {s : State} {n k m : Nat}

theorem fecReg_held {a : Nat} (h1 : 0x100040 + n * 0x10000 ≤ a) (h2 : a < 0x100058 + n * 0x10000) : linkHeld n a :=
  ⟨a - (0x100000 + n * 0x10000), by omega, by omega⟩

theorem Chip.f_add_ne (c : Chip) {x y : Fld} (e : Nat) (h : y.addr ≠ x.addr) : (c.add x e).f y = c.f y := Chip.f_setF_ne _ _ h

theorem logicalCount_le_four (hn : n < 9) : logicalCount n ≤ 4 := by
  unfold logicalCount laneCount
  split
  · omega
  · rw [if_pos (by omega)]
    omega

theorem State.fresh_mapOf (s : State) (n k : Nat) : s.fresh.mapOf n k = s.chip.mapOf n k := s.fresh_f _

theorem State.fresh_laneRxBits (s : State) (n m : Nat) (l : List Nat) : (s.fresh.laneRxBits n m l).2 = (s.chip.laneRxBits n m l).2 :=
  congrArg (fun g => g.flatMap grayBits) (s.fresh_rxSyms n m true l)

theorem linkEvt_ge (n : Nat) : 0x10000 ≤ R.linkEvt n := by simp only [R.linkEvt]; omega

section Words
variable (hn : n < 9) (hr : s.chip.domainRuns 4 = true) (hpcs : s.chip.pcsRuns n = true) (hk : k < logicalCount n)
  (hs : (s.chip.link n).swap = none)
include hn hr hpcs hk hs

theorem codewordDecoded_shows {sym w : List Nat} {e : Nat} (hl : sym.length = 2720) (hall : sym.all (· < 4) = true)
    (h : rsDecode (symbolsOfBits 544 (s.chip.laneRxBits n (s.chip.mapOf n k) sym).2) = some (w, e)) :
    Does (.codewordRx n k false sym) s fun t =>
      t.f (F.fecCorrCount n) = satAdd (F.fecCorrCount n).width (s.chip.f (F.fecCorrCount n)) e
        ∧ t.f (F.lsymCount n k) = satAdd (F.lsymCount n k).width (s.chip.f (F.lsymCount n k)) e := by
  obtain ⟨u, hu, hcode⟩ := s.fresh.codeword_taken n (k := k) (sym := sym) hpcs hk hs (by omega)
  rw [s.fresh_mapOf, s.fresh_laneRxBits] at hcode
  have htake := u.rxTake_decoded n (k := k) (m := s.chip.mapOf n k) (by omega) h
  have hk4 : k < 4 := lt_of_lt_of_le hk (logicalCount_le_four hn)
  have hcorr := fecReg_held (n := n) (a := R.fecCorr n) (by simp only [R.fecCorr]; omega) (by simp only [R.fecCorr]; omega)
  have hlsym := fecReg_held (n := n) (a := R.lsym n k) (by simp only [R.lsym]; omega) (by simp only [R.lsym]; omega)
  have hne : (F.fecCorrCount n).addr ≠ (F.lsymCount n k).addr := by simp only [F.fecCorrCount, F.lsymCount, R.fecCorr, R.lsym]; omega
  have hturn := u.wordTurn_bears n k
  refine Does.of_runIn (fun c => c.codeword n k false sym) rfl hr (by simp [hn, hl, hall]) hcode fun d hd _ _ => ⟨?_, ?_⟩
  · rw [hd.f_reg (by simp) (linkReg_ge n 0x40), htake.f hcorr, Chip.f_add_self _ e (by simp [F.fecCorrCount]), Chip.f_add_ne _ e hne,
      hturn.f hcorr, hu _ hcorr, s.fresh_f]
  · rw [hd.f_reg (by simp) (le_of_le_of_eq (linkReg_ge n (0x48 + k * 4)) (by simp only [F.lsymCount, R.lsym]; omega)),
      htake.f hlsym, Chip.f_add_ne _ e hne.symm, Chip.f_add_self _ e (by simp [F.lsymCount]), hturn.f hlsym, hu _ hlsym, s.fresh_f]

theorem codewordUndecoded_shows {sym : List Nat} (hl : sym.length = 2720) (hall : sym.all (· < 4) = true)
    (h : rsDecode (symbolsOfBits 544 (s.chip.laneRxBits n (s.chip.mapOf n k) sym).2) = none) :
    Does (.codewordRx n k false sym) s fun t =>
      t.f (F.fecUncorrCount n) = satAdd (F.fecUncorrCount n).width (s.chip.f (F.fecUncorrCount n)) 1 := by
  obtain ⟨u, hu, hcode⟩ := s.fresh.codeword_taken n (k := k) (sym := sym) hpcs hk hs (by omega)
  rw [s.fresh_mapOf, s.fresh_laneRxBits] at hcode
  have htake := u.rxTake_undecoded n (k := k) (m := s.chip.mapOf n k) (by omega) h
  have huncorr := fecReg_held (n := n) (a := R.fecUncorr n) (by simp only [R.fecUncorr]; omega) (by simp only [R.fecUncorr]; omega)
  refine Does.of_runIn (fun c => c.codeword n k false sym) rfl hr (by simp [hn, hl, hall]) hcode fun d hd _ _ => ?_
  rw [hd.f_reg (by simp) (linkReg_ge n 0x44), htake.f huncorr, Chip.f_inc_self _ (by simp [F.fecUncorrCount]),
    (u.wordTurn_bears n k).f huncorr, hu _ huncorr, s.fresh_f]

theorem amLoss_shows {block : List Byte} {late : Nat} (hl : block.length = 32) (hb : amValid k block = false)
    (hlock : (s.chip.laneRx n k).locked = true) (hf : (s.chip.laneRx n k).fRun = 2) :
    Does (.amPosition n k false block late) s fun t => t.f (F.linkEvtAmLoss n) = 1
      ∧ ⟨0x03, laneInst n (s.chip.mapOf n k), false⟩ ∈ t.reports := by
  obtain ⟨v, _, ham⟩ := s.fresh.amPosition_third (late := late) (by omega) hpcs hk hs hb hlock hf
  refine Does.of_runIn (fun c => c.amPosition n k false block late) rfl hr (by simp [hn, hl]) rfl fun d hd _ _ => ⟨?_, ?_⟩
  · rw [hd.f_reg (by simp) (linkEvt_ge n), ham.loss, Chip.f_congr (Chip.report_regs ..)]
    exact Chip.f_ev_self _ (by simp [F.linkEvtAmLoss]) (by simp [F.linkEvtAmLoss])
  · rw [hd.reports]
    refine ham.reports.subset ?_
    rw [Chip.report_reports]
    exact List.mem_append_right _ (List.mem_singleton_self _)

end Words

theorem trainingFrame_shows {w crc : Word} (hm : m < laneCount n) (hn : n < 9) (hr : s.chip.domainRuns 4 = true)
    (h : s.chip.inTraining n m = true) (hw : getBits w 28 4 < 4) :
    Does (.trainingFrameRx n m w crc) s fun t => ∃ x, .trainFrame n m x ∈ t.out :=
  Does.of_runIn (fun c => c.trainFrame n m w crc) rfl hr (by simp [hn, hm]) rfl fun d _ ho _ => by
    rw [ho]
    exact Chip.trainFrame_answers hm h hw

end Commands

/-- Settles O11: what follows a count or the loss of a lock bears it along, and a frame shown stays among what is sent. -/
theorem pcsAndFrames : Obligations.PcsAndFrames :=
  ⟨fun _ _ _ hn hr hpcs hk hs => ⟨fun _ hl hall => ⟨fun _ _ h => codewordDecoded_shows hn hr hpcs hk hs hl hall h,
      fun h => codewordUndecoded_shows hn hr hpcs hk hs hl hall h⟩,
    fun _ _ hl hb hlock hf => amLoss_shows hn hr hpcs hk hs hl hb hlock hf⟩,
    fun _ _ _ _ _ hm hn hr h hw => trainingFrame_shows hm hn hr h hw⟩

end Sys2Proof.Machine
end

section
/-! SUPPORT. Settling sends no symbols: the operations on the state, memories, front end, outputs, queues, stitcher. -/

namespace Sys2Proof.Machine

/-- Symbols of a lane. -/
@[simp] def Out.isLevels : Out → Bool
  | .levels _ _ _ => true
  | _ => false

/-- The symbols among what the command has sent. -/
def Chip.levels (c : Chip) : List Out := c.out.filter Out.isLevels

theorem Chip.levels_of_out {c t : Chip} (h : t.out = c.out) : t.levels = c.levels := congrArg (List.filter Out.isLevels) h

/-- A change of parts of the device other than what it sends. -/
theorem Chip.levels_mk (c : Chip) (regs mem ecc opt win mcs cvus eqs cmt lanes ports links fes stc ie shp ssp job orb fc pair
    dma clk boot scp jtag retrain log headWrites reports defers freeCtr) :
    Chip.levels ⟨regs, mem, ecc, opt, win, mcs, cvus, eqs, cmt, lanes, ports, links, fes, stc, ie, shp, ssp, job, orb, fc,
      pair, dma, clk, boot, scp, jtag, retrain, log, headWrites, reports, defers, c.out, freeCtr⟩ = c.levels :=
  Chip.levels_of_out rfl

@[simp] theorem Chip.levels_ite (p : Prop) {_ : Decidable p} (a b : Chip) :
    (if p then a else b).levels = if p then a.levels else b.levels := apply_ite Chip.levels p a b

@[simp] theorem Chip.wr_levels (c : Chip) (a : Nat) (v : Word) : (c.wr a v).levels = c.levels := Chip.levels_of_out (c.wr_out ..)

@[simp] theorem Chip.setF_levels (c : Chip) (x : Fld) (v : Nat) : (c.setF x v).levels = c.levels := Chip.levels_of_out (c.setF_out ..)

@[simp] theorem Chip.setFb_levels (c : Chip) (x : Fld) (b : Bool) : (c.setFb x b).levels = c.levels := Chip.levels_of_out (c.setFb_out ..)

@[simp] theorem Chip.ev_levels (c : Chip) (x : Fld) : (c.ev x).levels = c.levels := Chip.levels_of_out (c.ev_out ..)

@[simp] theorem Chip.add_levels (c : Chip) (x : Fld) (n : Nat) : (c.add x n).levels = c.levels := Chip.levels_of_out (c.add_out ..)

@[simp] theorem Chip.inc_levels (c : Chip) (x : Fld) : (c.inc x).levels = c.levels := Chip.levels_of_out (c.inc_out ..)

@[simp] theorem Chip.each_levels {α : Type} {g : Chip → α → Chip} (h : ∀ c x, (g c x).levels = c.levels) (l : List α)
    (c : Chip) : (c.each l g).levels = c.levels := foldl_keeps Chip.levels h l c

@[simp] theorem Chip.when_levels {g : Chip → Chip} (h : ∀ c, (g c).levels = c.levels) (b : Bool) (c : Chip) :
    (c.when b g).levels = c.levels := by
  cases b with
  | false => rfl
  | true => exact h c

/-! ### Operations on the state, the option store and the log -/

@[simp] theorem Chip.report_levels (c : Chip) (src inst : Nat) : (c.report src inst).levels = c.levels :=
  Chip.levels_mk ..

@[simp] theorem Chip.reportLow_levels (c : Chip) (src inst : Nat) : (c.reportLow src inst).levels = c.levels :=
  Chip.levels_mk ..

@[simp] theorem Chip.emit_levels (c : Chip) (o : Out) : (c.emit o).levels = c.levels ++ [o].filter Out.isLevels :=
  List.filter_append ..

@[simp] theorem Chip.fresh_levels (c : Chip) (k : Nat) : (c.fresh k).2.levels = c.levels :=
  Chip.levels_mk ..

@[simp] theorem Chip.setByte_levels (c : Chip) (a : Nat) (b : Byte) : (c.setByte a b).levels = c.levels :=
  Chip.levels_mk ..

@[simp] theorem Chip.setBytes_levels (c : Chip) (a : Nat) (bs : List Byte) : (c.setBytes a bs).levels = c.levels := by
  induction bs generalizing c a with
  | nil => rfl
  | cons b bs ih => exact (ih ..).trans (Chip.setByte_levels ..)

@[simp] theorem Chip.progWord_levels (c : Chip) (i : Nat) (w : Word) : (c.progWord i w).levels = c.levels := by
  simp only [Chip.progWord, Chip.levels_mk]
  simp

@[simp] theorem Chip.setOptWord_levels (c : Chip) (i : Nat) (w : Word) : (c.setOptWord i w).levels = c.levels := by
  simp only [Chip.setOptWord, Chip.levels_mk]
  simp

@[simp] theorem Chip.noteStale_levels (c : Chip) (ids : List Nat) : (c.noteStale ids).levels = c.levels := by
  simp [Chip.noteStale]

end Sys2Proof.Machine
end

section
/-! SUPPORT. Settling sends no symbols: memories, front end, outputs, queues and stitcher. -/

namespace Sys2Proof.Machine

/-! ### Memories and the DDR5 channels -/

@[simp] theorem Chip.modMc_levels (c : Chip) (n : Nat) (g : McS → McS) : (c.modMc n g).levels = c.levels :=
  Chip.levels_mk ..

@[simp] theorem Chip.eccMeet_levels (c : Chip) (word : Nat) (double : Bool) : (c.eccMeet word double).levels = c.levels := by
  simp only [Chip.eccMeet]
  split_ifs <;> simp

@[simp] theorem Chip.eccWrite_levels (c : Chip) (a n : Nat) : (c.eccWrite a n).levels = c.levels := by
  simp [Chip.eccWrite, ↓Chip.levels_mk]

@[simp] theorem Chip.memPut_levels (c : Chip) (a : Nat) (bs : List Byte) : (c.memPut a bs).levels = c.levels := by
  simp [Chip.memPut]

@[simp] theorem Chip.mcRowRepair_levels (c : Chip) (n : Nat) : (c.mcRowRepair n).1.levels = c.levels := by
  unfold Chip.mcRowRepair
  split <;> simp

/-! ### The front end -/

@[simp] theorem Chip.modFe_levels (c : Chip) (n : Nat) (g : FeS → FeS) : (c.modFe n g).levels = c.levels :=
  Chip.levels_mk ..

@[simp] theorem Chip.feExpect_levels (c : Chip) (n trig tx bank : Nat) : (c.feExpect n trig tx bank).levels = c.levels := by
  simp [Chip.feExpect]

@[simp] theorem Chip.feNotSent_levels (c : Chip) (n trig : Nat) : (c.feNotSent n trig).levels = c.levels := by
  simp [Chip.feNotSent]

@[simp] theorem Chip.portOffClosed_levels (c : Chip) (n trig : Nat) : (c.portOffClosed n trig).levels = c.levels := by
  simp only [Chip.portOffClosed]
  split
  next => exact (Chip.levels_mk ..).trans (by simp)
  next => rfl

@[simp] theorem Chip.feCloseAt_levels (c : Chip) (n k : Nat) : (c.feCloseAt n k).levels = c.levels := by
  simp only [Chip.feCloseAt]
  split
  next => rfl
  next =>
    simp only [Chip.portOffClosed_levels, Chip.levels_ite, Chip.report_levels, ite_self]
    split <;> simp

@[simp] theorem Chip.feClose_levels (c : Chip) (n : Nat) : (c.feClose n).levels = c.levels := by
  simp [Chip.feClose]

@[simp] theorem Chip.feCloseN_levels (c : Chip) (n k : Nat) : (c.feCloseN n k).levels = c.levels := by
  induction k generalizing c with
  | zero => rfl
  | succ k ih => exact (ih _).trans (Chip.feClose_levels ..)

@[simp] theorem Chip.fePortLoss_levels (c : Chip) (n : Nat) : (c.fePortLoss n).levels = c.levels := by
  simp [Chip.fePortLoss]

@[simp] theorem Chip.feDeadline_levels (c : Chip) (n : Nat) : (c.feDeadline n).levels = c.levels := by
  refine Chip.each_levels (fun c t => ?_) _ _
  split <;> simp

@[simp] theorem Chip.feRelease_levels (c : Chip) (n : Nat) : (c.feRelease n).levels = c.levels := by
  simp [Chip.feRelease]

/-! ### The outputs of Comet -/

@[simp] theorem Chip.modCmt_levels (c : Chip) (g : CmtS → CmtS) : (c.modCmt g).levels = c.levels :=
  Chip.levels_mk ..

@[simp] theorem Chip.modOut_levels (c : Chip) (k : Nat) (g : OutS → OutS) : (c.modOut k g).levels = c.levels := by
  simp [Chip.modOut]

@[simp] theorem Chip.outsUpdate_levels (c : Chip) : c.outsUpdate.levels = c.levels := by
  simp [Chip.outsUpdate]

@[simp] theorem Chip.addWindow_levels (c : Chip) (k : Nat) (w : OutWin) : (c.addWindow k w).levels = c.levels := by
  simp [Chip.addWindow]

@[simp] theorem Chip.recordWindow_levels (c : Chip) (k : Nat) (enc0 enc1 : Int) : (c.recordWindow k enc0 enc1).levels = c.levels := by
  simp [Chip.recordWindow]

@[simp] theorem Chip.cometRecord_levels (c : Chip) (reject mark : Bool) (enc0 enc1 : Int) :
    (c.cometRecord reject mark enc0 enc1).levels = c.levels := by
  simp [Chip.cometRecord]

@[simp] theorem Chip.strobeTrigger_levels (c : Chip) (tx : Nat) : (c.strobeTrigger tx).levels = c.levels := by
  simp [Chip.strobeTrigger]

@[simp] theorem Chip.outsWithdraw_levels (c : Chip) : c.outsWithdraw.levels = c.levels := by
  simp [Chip.outsWithdraw]

/-! ### The event queues -/

@[simp] theorem Chip.modEq_levels (c : Chip) (n : Nat) (g : EqS → EqS) : (c.modEq n g).levels = c.levels :=
  Chip.levels_mk ..

@[simp] theorem Chip.eqPut_levels (c : Chip) (n i off : Nat) (bs : List Byte) : (c.eqPut n i off bs).levels = c.levels := by
  simp [Chip.eqPut]

@[simp] theorem Chip.eqShow_levels (c : Chip) (n : Nat) : (c.eqShow n).levels = c.levels := by
  simp [Chip.eqShow]

@[simp] theorem Chip.eqAdvance_levels (c : Chip) (n : Nat) : (c.eqAdvance n).levels = c.levels := by
  unfold Chip.eqAdvance
  split <;> simp

@[simp] theorem Chip.eqLoss_levels (c : Chip) (n : Nat) : (c.eqLoss n).levels = c.levels := by
  simp [Chip.eqLoss]

@[simp] theorem Chip.eqMakeRoom_levels (c : Chip) (n nw k : Nat) : (c.eqMakeRoom n nw k).levels = c.levels := by
  induction k generalizing c with
  | zero => rfl
  | succ k ih => simp [Chip.eqMakeRoom, ih]

@[simp] theorem Chip.eqOpen_levels (c : Chip) (n tag : Nat) : (c.eqOpen n tag).levels = c.levels := by
  simp [Chip.eqOpen]

@[simp] theorem Chip.eqData_levels (c : Chip) (n : Nat) (bs : List Byte) : (c.eqData n bs).levels = c.levels := by
  simp [Chip.eqData]

@[simp] theorem Chip.eqClose_levels (c : Chip) (n dropB : Nat) : (c.eqClose n dropB).levels = c.levels := by
  simp only [Chip.eqClose]
  split <;> simp

@[simp] theorem Chip.eqAbort_levels (c : Chip) (n : Nat) : (c.eqAbort n).levels = c.levels := by
  simp [Chip.eqAbort]

@[simp] theorem Chip.eqRecord_levels (c : Chip) (n : Nat) (bs : List Byte) : (c.eqRecord n bs).levels = c.levels := by
  simp [Chip.eqRecord]

@[simp] theorem Chip.eqFor_levels (c : Chip) (b : Nat) (bs : List Byte) : (c.eqFor b bs).levels = c.levels := by
  simp [Chip.eqFor]

@[simp] theorem Chip.eqIsolate_levels (c : Chip) (ch : Nat) : (c.eqIsolate ch).levels = c.levels := by
  simp [Chip.eqIsolate]

/-! ### The stitcher -/

@[simp] theorem Chip.completeBand_levels (c : Chip) (cut : Bool) : (c.completeBand cut).levels = c.levels := by
  simp [Chip.completeBand, ↓Chip.levels_mk]

@[simp] theorem Chip.stcRelease_levels (c : Chip) : c.stcRelease.levels = c.levels := by
  simp [Chip.stcRelease]

/-! ### The inspection engine -/

@[simp] theorem Chip.fieldClear_levels (c : Chip) (b : Nat) : (c.fieldClear b).levels = c.levels :=
  Chip.levels_mk ..

end Sys2Proof.Machine
end

section
/-! SUPPORT. Settling sends no symbols: lanes and the Shepherd. -/

namespace Sys2Proof.Machine

/-! ### Lanes -/

@[simp] theorem Chip.modLane_levels (c : Chip) (n m : Nat) (g : LaneS → LaneS) : (c.modLane n m g).levels = c.levels :=
  Chip.levels_mk ..

@[simp] theorem Chip.modPort_levels (c : Chip) (n : Nat) (g : PortS → PortS) : (c.modPort n g).levels = c.levels :=
  Chip.levels_mk ..

@[simp] theorem Chip.loadSet_levels (c : Chip) (n m : Nat) (x : LaneSet) : (c.loadSet n m x).levels = c.levels := by
  simp [Chip.loadSet]

@[simp] theorem Chip.resetCoeffs_levels (c : Chip) (n m : Nat) : (c.resetCoeffs n m).levels = c.levels := by
  simp [Chip.resetCoeffs]

@[simp] theorem Chip.setPrecode_levels (c : Chip) (n m : Nat) (tx rx : Bool) : (c.setPrecode n m tx rx).levels = c.levels := by
  simp [Chip.setPrecode]

@[simp] theorem Chip.endGuard_levels (c : Chip) (n m : Nat) : (c.endGuard n m).levels = c.levels := by
  simp [Chip.endGuard]

@[simp] theorem Chip.clearFreeze_levels (c : Chip) (n m : Nat) : (c.clearFreeze n m).levels = c.levels := by
  simp [Chip.clearFreeze]

@[simp] theorem Chip.laneGo_levels (c : Chip) (n m st : Nat) : (c.laneGo n m st).levels = c.levels := by
  simp [Chip.laneGo]

@[simp] theorem Chip.testStop_levels (c : Chip) (n m : Nat) : (c.testStop n m).levels = c.levels := by
  simp [Chip.testStop]

@[simp] theorem Chip.laneDown_levels (c : Chip) (n m : Nat) : (c.laneDown n m).levels = c.levels := by
  simp [Chip.laneDown]

@[simp] theorem Chip.laneOff_levels (c : Chip) (n m : Nat) : (c.laneOff n m).levels = c.levels := by
  simp [Chip.laneOff]

@[simp] theorem Chip.laneRest_levels (c : Chip) (n m : Nat) : (c.laneRest n m).levels = c.levels := by
  simp [Chip.laneRest]

@[simp] theorem Chip.laneLeave_levels (c : Chip) (n m : Nat) : (c.laneLeave n m).levels = c.levels := by
  simp [Chip.laneLeave]

@[simp] theorem Chip.laneCondAbort_levels (c : Chip) (n m : Nat) : (c.laneCondAbort n m).levels = c.levels := by
  simp [Chip.laneCondAbort]

@[simp] theorem Chip.laneTrainUl_levels (c : Chip) (m : Nat) : (c.laneTrainUl m).levels = c.levels := by
  simp [Chip.laneTrainUl]

@[simp] theorem Chip.condAbort_levels (c : Chip) (n : Nat) : (c.condAbort n).levels = c.levels := by
  simp [Chip.condAbort]

/-! ### The Shepherd and the engines -/

@[simp] theorem Chip.modShp_levels (c : Chip) (g : ShpS → ShpS) : (c.modShp g).levels = c.levels :=
  Chip.levels_mk ..

@[simp] theorem Chip.modCluster_levels (c : Chip) (k : Nat) (g : ClusterS → ClusterS) : (c.modCluster k g).levels = c.levels := by
  simp [Chip.modCluster]

@[simp] theorem Chip.capShow_levels (c : Chip) : c.capShow.levels = c.levels := by
  simp [Chip.capShow]

@[simp] theorem Chip.stepTo_levels (c : Chip) (k st : Nat) : (c.stepTo k st).levels = c.levels := by
  simp only [Chip.stepTo]
  split <;> simp

@[simp] theorem Chip.floorFault_levels (c : Chip) : c.floorFault.levels = c.levels := by
  simp only [Chip.floorFault]
  split_ifs <;> simp

@[simp] theorem Chip.capacityUps_levels (c : Chip) : c.capacityUps.1.levels = c.levels := by
  refine foldl_keeps (fun r : Chip × List Nat => r.1.levels) (fun r k => ?_) _ _
  split <;> simp

@[simp] theorem Chip.capacityNow_levels (c : Chip) : c.capacityNow.levels = c.levels := by
  simp [Chip.capacityNow]

@[simp] theorem Chip.modFband_levels (c : Chip) (bseq : Nat) (g : FBand → FBand) : (c.modFband bseq g).levels = c.levels :=
  Chip.levels_mk ..

@[simp] theorem Chip.enqueue_levels (c : Chip) (w : WorkItem) : (c.enqueue w).levels = c.levels := by
  simp [Chip.enqueue]

@[simp] theorem Chip.setSlice_levels (c : Chip) (bseq s : Nat) (st : SliceSt) : (c.setSlice bseq s st).levels = c.levels := by
  simp [Chip.setSlice]

@[simp] theorem Chip.setEng_levels (c : Chip) (e st : Nat) : (c.setEng e st).levels = c.levels := by
  simp [Chip.setEng]

@[simp] theorem Chip.retire_levels (c : Chip) (e : Nat) : (c.retire e).levels = c.levels := by
  simp [Chip.retire]

@[simp] theorem Chip.substitute_levels (c : Chip) (e : Nat) : (c.substitute e).1.levels = c.levels := by
  simp only [Chip.substitute]
  split
  next => rfl
  next => split_ifs <;> simp

@[simp] theorem Chip.itemBack_levels (c : Chip) (e : Nat) : (c.itemBack e).levels = c.levels := by
  simp only [Chip.itemBack]
  split
  next => simp
  next => split <;> simp

@[simp] theorem Chip.isolateEngine_levels (c : Chip) (e : Nat) : (c.isolateEngine e).levels = c.levels := by
  simp [Chip.isolateEngine]

end Sys2Proof.Machine
end

section
/-! SUPPORT. Settling sends no symbols: products, bands and records. -/

namespace Sys2Proof.Machine

/-! ### Products -/

@[simp] theorem Chip.modSsp_levels (c : Chip) (g : SspS → SspS) : (c.modSsp g).levels = c.levels :=
  Chip.levels_mk ..

@[simp] theorem Chip.addUnit_levels (c : Chip) (u : SspUnit) : (c.addUnit u).levels = c.levels := by
  simp [Chip.addUnit]

@[simp] theorem Chip.bandUnits_levels (c : Chip) (b : Band) : (c.bandUnits b).levels = c.levels := by
  simp [Chip.bandUnits]

@[simp] theorem Chip.p2Unit_levels (c : Chip) (b : Band) (recs : List (List Byte)) (held : Bool) :
    (c.p2Unit b recs held).levels = c.levels := by
  simp [Chip.p2Unit]

@[simp] theorem Chip.alarmUnit_levels (c : Chip) (b : Band) (alarms summary : List (List Byte)) (held : Bool) :
    (c.alarmUnit b alarms summary held).levels = c.levels := by
  simp [Chip.alarmUnit]

@[simp] theorem Chip.recordUnits_levels (c : Chip) (b : Band) (bl : Blob) (dseq trig0 : Nat) (crop : Bool) (bs : List Byte)
    (tiles : List (Nat × Nat × Nat × Nat)) :
    (c.recordUnits b bl dseq trig0 crop bs tiles).levels = c.levels := by
  simp [Chip.recordUnits]

/-! ### Bands, records and units -/

@[simp] theorem Chip.modIe_levels (c : Chip) (g : IeS → IeS) : (c.modIe g).levels = c.levels :=
  Chip.levels_mk ..

@[simp] theorem Chip.setAcq_levels (c : Chip) (b st : Nat) : (c.setAcq b st).levels = c.levels := by
  simp [Chip.setAcq]

@[simp] theorem Chip.enterAcq_levels (c : Chip) (b : Nat) : (c.enterAcq b).levels = c.levels := by
  simp [Chip.enterAcq]

@[simp] theorem Chip.modRep_levels (c : Chip) (rep : Nat) (g : RepAcc → RepAcc) : (c.modRep rep g).levels = c.levels := by
  simp [Chip.modRep]

@[simp] theorem Chip.judgeRepeat_levels (c : Chip) (rep : Nat) : (c.judgeRepeat rep).levels = c.levels := by
  unfold Chip.judgeRepeat
  split <;> simp

@[simp] theorem Chip.noteLatency_levels (c : Chip) (fb : FBand) : (c.noteLatency fb).levels = c.levels := by
  simp [Chip.noteLatency]

@[simp] theorem Chip.closeBlob_levels (c : Chip) (fb : FBand) (bl : Blob) (split : Bool) :
    (c.closeBlob fb bl split).1.levels = c.levels := by
  simp only [Chip.closeBlob]
  rw [apply_ite Prod.fst]
  simp

@[simp] theorem Chip.closeBlobs_levels (c : Chip) (fb : FBand) (l : List (Blob × Bool)) :
    (c.closeBlobs fb l).1.levels = c.levels := by
  unfold Chip.closeBlobs
  refine foldl_keeps (fun r : Chip × List Byte => r.1.levels) (fun r p => ?_) _ _
  exact Chip.closeBlob_levels ..

@[simp] theorem Chip.closeKnown_levels (c : Chip) : c.closeKnown.levels = c.levels := by
  simp only [Chip.closeKnown]
  refine Chip.each_levels (fun c fb => ?_) ..
  split
  next => rfl
  next =>
    refine (Chip.levels_mk ..).trans ((Chip.modFband_levels ..).trans ?_)
    simp

@[simp] theorem Chip.emitBand_levels (c : Chip) (fb : FBand) : (c.emitBand fb).levels = c.levels := by
  simp [Chip.emitBand]

@[simp] theorem Chip.emitFour_levels (c : Chip) (fb : FBand) (last : Bool) : (c.emitFour fb last).levels = c.levels := by
  simp [Chip.emitFour]

@[simp] theorem Chip.emitReady_levels (n : Nat) (c : Chip) : (Chip.emitReady n c).levels = c.levels := by
  induction n generalizing c with
  | zero => rfl
  | succ n ih => unfold Chip.emitReady; split <;> simp [ih]

@[simp] theorem Chip.fourReady_levels (n : Nat) (c : Chip) : (Chip.fourReady n c).levels = c.levels := by
  induction n generalizing c with
  | zero => rfl
  | succ n ih => unfold Chip.fourReady; split <;> simp [ih]

@[simp] theorem Chip.recordsOut_levels (c : Chip) : c.recordsOut.levels = c.levels := by
  simp [Chip.recordsOut]

@[simp] theorem Chip.colourSlot_levels (c : Chip) : c.colourSlot.1.levels = c.levels := by
  simp only [Chip.colourSlot]
  split
  next => exact (Chip.levels_mk ..).trans (by simp)
  next => rfl

@[simp] theorem Chip.prune_levels (c : Chip) : c.prune.levels = c.levels := by
  simp [Chip.prune]

@[simp] theorem Chip.enterBand_levels (c : Chip) (b : Band) : (c.enterBand b).levels = c.levels := by
  simp only [Chip.enterBand]
  refine (Chip.recordsOut_levels _).trans ((Chip.levels_mk ..).trans ?_)
  split <;> simp

@[simp] theorem Chip.stopCut_levels (c : Chip) : c.stopCut.levels = c.levels := by
  unfold Chip.stopCut
  split
  next => rfl
  next =>
    split
    next =>
      exact (Chip.levels_mk ..).trans ((Chip.recordsOut_levels _).trans ((Chip.each_levels Chip.enterBand_levels ..).trans (by simp)))
    next => rfl

@[simp] theorem Chip.ieRelease_levels (c : Chip) : c.ieRelease.levels = c.levels := by
  simp [Chip.ieRelease]

@[simp] theorem Chip.csRelease_levels (c : Chip) : c.csRelease.levels = c.levels := by
  simp [Chip.csRelease]

end Sys2Proof.Machine
end

section
/-! SUPPORT. Settling sends no symbols: links, Orbit and the stream protocol. -/

namespace Sys2Proof.Machine

/-! ### Rounds of a link -/

@[simp] theorem Chip.modLink_levels (c : Chip) (n : Nat) (g : LinkS → LinkS) : (c.modLink n g).levels = c.levels :=
  Chip.levels_mk ..

@[simp] theorem Chip.queueBlocks_levels (c : Chip) (n : Nat) (bs : List (Bool × List Byte)) :
    (c.queueBlocks n bs).levels = c.levels := by
  simp [Chip.queueBlocks]

@[simp] theorem Chip.sendPacket_levels (c : Chip) (n typ : Nat) (body : List Byte) : (c.sendPacket n typ body).levels = c.levels := by
  simp [Chip.sendPacket]

/-! ### Links -/

@[simp] theorem Chip.allLanesOff_levels (c : Chip) (n : Nat) : (c.allLanesOff n).levels = c.levels := by
  simp [Chip.allLanesOff]

@[simp] theorem Chip.trigLateOne_levels (c : Chip) (n trig : Nat) : (c.trigLateOne n trig).levels = c.levels := by
  simp [Chip.trigLateOne]

@[simp] theorem Chip.trigsLate_levels (c : Chip) (n : Nat) : (c.trigsLate n).levels = c.levels := by
  simp [Chip.trigsLate]

@[simp] theorem Chip.placeTrig_levels (c : Chip) (n trig tx : Nat) : (c.placeTrig n trig tx).levels = c.levels := by
  simp [Chip.placeTrig]

@[simp] theorem Chip.ctrlStart_levels (c : Chip) (n : Nat) (r : CtrlReq) : (c.ctrlStart n r).levels = c.levels := by
  simp [Chip.ctrlStart]

@[simp] theorem Chip.ctrlEnd_levels (c : Chip) (n code : Nat) (data : Option Nat) : (c.ctrlEnd n code data).levels = c.levels := by
  simp only [Chip.ctrlEnd]
  split
  next => rfl
  next =>
    split <;> simp only [Chip.ctrlStart_levels, Chip.modLink_levels, Chip.levels_ite, ite_eq_left_iff] <;> intro _ <;>
      split <;> simp

@[simp] theorem Chip.ctrlDrop_levels (c : Chip) (n : Nat) : (c.ctrlDrop n).levels = c.levels := by
  unfold Chip.ctrlDrop
  split <;> simp

@[simp] theorem Chip.sendSwap_levels (c : Chip) (n op : Nat) (s : Swap) (am : Nat) : (c.sendSwap n op s am).levels = c.levels := by
  simp [Chip.sendSwap]

@[simp] theorem Chip.swapFail_levels (c : Chip) (n result reason : Nat) (send : Bool) :
    (c.swapFail n result reason send).levels = c.levels := by
  unfold Chip.swapFail
  split <;> simp

@[simp] theorem Chip.swapStart_levels (c : Chip) (n k reason : Nat) : (c.swapStart n k reason).levels = c.levels := by
  simp [Chip.swapStart]

@[simp] theorem Chip.linkGo_levels (c : Chip) (n st : Nat) : (c.linkGo n st).levels = c.levels := by
  simp [Chip.linkGo]

@[simp] theorem Chip.portLost_levels (c : Chip) (n : Nat) : (c.portLost n).levels = c.levels := by
  simp [Chip.portLost, ↓Chip.levels_mk]

@[simp] theorem Chip.rxClear_levels (c : Chip) (n : Nat) : (c.rxClear n).levels = c.levels := by
  simp [Chip.rxClear]

@[simp] theorem Chip.linkPendingEnds_levels (c : Chip) (n : Nat) : (c.linkPendingEnds n).levels = c.levels := by
  simp [Chip.linkPendingEnds]

@[simp] theorem Chip.linkDown_levels (c : Chip) (n : Nat) : (c.linkDown n false).levels = c.levels := by
  simp [Chip.linkDown]

@[simp] theorem Chip.linkIsolate_levels (c : Chip) (n : Nat) : (c.linkIsolate n).levels = c.levels := by
  simp only [Chip.linkIsolate]
  split_ifs <;> simp

@[simp] theorem Chip.swapRepair_levels (c : Chip) (n m reason : Nat) : (c.swapRepair n m reason).1.levels = c.levels := by
  simp only [Chip.swapRepair]
  split
  next => rfl
  next => split_ifs <;> simp

/-! ### Orbit -/

@[simp] theorem Chip.holdCheck_levels (c : Chip) : c.holdCheck.levels = c.levels := by
  simp [Chip.holdCheck]

/-! ### The uplink -/

@[simp] theorem Chip.ulGo_levels (c : Chip) (st : Nat) : (c.ulGo st).levels = c.levels := by
  simp [Chip.ulGo]

@[simp] theorem Chip.ulMapShow_levels (c : Chip) : c.ulMapShow.levels = c.levels := by
  simp [Chip.ulMapShow]

@[simp] theorem Chip.ulLeft_levels (c : Chip) : c.ulLeft.levels = c.levels := by
  simp [Chip.ulLeft, ↓Chip.levels_mk]

@[simp] theorem Chip.ulGoDown_levels (c : Chip) : c.ulGoDown.levels = c.levels := by
  simp [Chip.ulGoDown]

@[simp] theorem Chip.retrainStart_levels (c : Chip) (k reason : Nat) : (c.retrainStart k reason).levels = c.levels := by
  simp [Chip.retrainStart, ↓Chip.levels_mk]

@[simp] theorem Chip.retrain?_levels (c : Chip) (k reason : Nat) : (c.retrain? k reason).1.levels = c.levels := by
  unfold Chip.retrain?
  split_ifs <;> simp

@[simp] theorem Chip.ulRepair_levels (c : Chip) (m reason : Nat) : (c.ulRepair m reason).1.levels = c.levels := by
  unfold Chip.ulRepair
  split <;> simp

/-! ### The stream protocol -/

@[simp] theorem Chip.pairSend_levels (c : Chip) (mtype : Nat) (body : List Byte) : (c.pairSend mtype body).levels = c.levels := by
  simp [Chip.pairSend, ↓Chip.levels_mk]

@[simp] theorem Chip.sspMateGone_levels (c : Chip) : c.sspMateGone.levels = c.levels := by
  simp [Chip.sspMateGone]

@[simp] theorem Chip.sspRelease_levels (c : Chip) : c.sspRelease.levels = c.levels := by
  simp [Chip.sspRelease]

end Sys2Proof.Machine
end

section
/-! SUPPORT. Settling sends no symbols: jobs and Comet. -/

namespace Sys2Proof.Machine

/-! ### Jobs -/

@[simp] theorem Chip.modJob_levels (c : Chip) (g : JobS → JobS) : (c.modJob g).levels = c.levels :=
  Chip.levels_mk ..

@[simp] theorem Chip.modPair_levels (c : Chip) (g : PairS → PairS) : (c.modPair g).levels = c.levels :=
  Chip.levels_mk ..

@[simp] theorem Chip.syncExpected_levels (c : Chip) : c.syncExpected.levels = c.levels := by
  simp [Chip.syncExpected]

@[simp] theorem Chip.needSet_levels (c : Chip) (act stg : Nat) : (c.needSet act stg).levels = c.levels := by
  simp [Chip.needSet]

@[simp] theorem Chip.setNeed_levels (c : Chip) (act stg : Nat) : (c.setNeed act stg).levels = c.levels := by
  simp [Chip.setNeed]

@[simp] theorem Chip.unlock_levels (c : Chip) : c.unlock.levels = c.levels := by
  simp [Chip.unlock]

@[simp] theorem Chip.pseqDue_levels (c : Chip) : c.pseqDue.levels = c.levels := by
  simp [Chip.pseqDue]

@[simp] theorem Chip.cometCommit_levels (c : Chip) (start : Bool) (oldSrc te : Nat) :
    (c.cometCommit start oldSrc te).levels = c.levels := by
  simp [Chip.cometCommit]

@[simp] theorem Chip.commit_levels (c : Chip) (tc : Nat) (start join : Bool) (te : Nat) :
    (c.commit tc start join te).levels = c.levels := by
  simp [Chip.commit, ↓Chip.levels_mk]

@[simp] theorem Chip.jobStop_levels (c : Chip) (tc : Nat) : (c.jobStop tc).levels = c.levels := by
  unfold Chip.jobStop
  refine (Chip.levels_mk ..).trans ((Chip.outsUpdate_levels _).trans ((Chip.setNeed_levels ..).trans
    ((Chip.syncExpected_levels _).trans ((Chip.modCmt_levels ..).trans ((Chip.levels_mk ..).trans
      ((Chip.modJob_levels ..).trans ?_))))))
  simp

@[simp] theorem Chip.decideAs_levels (c : Chip) (code : Nat) : (c.decideAs code).levels = c.levels := by
  simp [Chip.decideAs]

@[simp] theorem Chip.combine_levels (c : Chip) (td own mate : Nat) : (c.combine td own mate).levels = c.levels := by
  simp [Chip.combine]

@[simp] theorem Chip.jobDecision_levels (c : Chip) (td : Nat) (enc : Int) : (c.jobDecision td enc).levels = c.levels := by
  simp only [Chip.jobDecision]
  split
  next => rfl
  next =>
    simp only [Chip.levels_ite, Chip.decideAs_levels, Chip.modJob_levels, Chip.pairSend_levels, ite_eq_right_iff, ite_eq_left_iff]
    intro _ _ _
    split <;> simp

@[simp] theorem Chip.noDecide_levels (c : Chip) : c.noDecide.levels = c.levels := by
  unfold Chip.noDecide
  split <;> simp

@[simp] theorem Chip.stopCheck_levels (c : Chip) : c.stopCheck.levels = c.levels := by
  simp [Chip.stopCheck]

@[simp] theorem Chip.setTOff_levels (c : Chip) (n t : Nat) : (c.setTOff n t).levels = c.levels := by
  simp only [Chip.setTOff]
  split <;> simp

@[simp] theorem Chip.portOffStart_levels (c : Chip) (n : Nat) : (c.portOffStart n).levels = c.levels := by
  simp [Chip.portOffStart]

/-! ### Comet -/

@[simp] theorem Chip.putLog_levels (c : Chip) (e : LogEntry) : (c.putLog e).levels = c.levels :=
  Chip.levels_mk ..

@[simp] theorem Chip.handTrig_levels (c : Chip) (e : LogEntry) (off : Nat) : (c.handTrig e off).levels = c.levels := by
  unfold Chip.handTrig
  refine (Chip.levels_mk ..).trans ((Chip.strobeTrigger_levels ..).trans (Chip.each_levels (fun c n => ?_) ..))
  exact (Chip.placeTrig_levels ..).trans (Chip.feExpect_levels ..)

@[simp] theorem Chip.sendTrec_levels (c : Chip) (e : LogEntry) : (c.sendTrec e).levels = c.levels := by
  simp [Chip.sendTrec]

@[simp] theorem Chip.countMark_levels (c : Chip) (id : Nat) (mark : Bool) : (c.countMark id mark).levels = c.levels := by
  simp [Chip.countMark]

@[simp] theorem Chip.missCheck_levels (c : Chip) : c.missCheck.levels = c.levels := by
  simp [Chip.missCheck]

@[simp] theorem Chip.serveMark_levels (c : Chip) (id : Nat) : (c.serveMark id).levels = c.levels := by
  simp [Chip.serveMark]

@[simp] theorem Chip.issue_levels (c : Chip) (tx : Nat) (pos : Int) (mark : Bool) (lag tmin : Nat) :
    (c.issue tx pos mark lag tmin).levels = c.levels := by
  simp [Chip.issue]

@[simp] theorem Chip.dueTrigger_levels (c : Chip) (te : Nat) (pos : Int) : (c.dueTrigger te pos).1.levels = c.levels := by
  simp only [Chip.dueTrigger]
  split_ifs <;> simp

@[simp] theorem Chip.placeFid_levels (c : Chip) (t : Nat) : (c.placeFid t).levels = c.levels := by
  simp [Chip.placeFid]

@[simp] theorem Chip.fidMarkAt_levels (c : Chip) (t : Nat) : (c.fidMarkAt t).levels = c.levels := by
  simp [Chip.fidMarkAt]

@[simp] theorem Chip.fidMissed_levels (c : Chip) (start : Nat) : (c.fidMissed start).levels = c.levels := by
  simp only [Chip.fidMissed]
  split_ifs
  next => rfl
  next => rfl
  next => exact (Chip.levels_mk ..).trans (by simp)
  next => simp

@[simp] theorem Chip.takeOver_levels (c : Chip) : c.takeOver.levels = c.levels := by
  simp only [Chip.takeOver]
  split
  next => split <;> simp
  next => rfl

end Sys2Proof.Machine
end

section
/-! SUPPORT. Settling sends no symbols: the pair, DMA channels, the fault controller and the end of settling. -/

namespace Sys2Proof.Machine

/-! ### The control protocol and the state of the fault controller -/

@[simp] theorem Chip.modScp_levels (c : Chip) (g : ScpS → ScpS) : (c.modScp g).levels = c.levels :=
  Chip.levels_mk ..

@[simp] theorem Chip.modFc_levels (c : Chip) (g : FcS → FcS) : (c.modFc g).levels = c.levels :=
  Chip.levels_mk ..

/-! ### The pair -/

@[simp] theorem Chip.joinFail_levels (c : Chip) : c.joinFail.levels = c.levels := by
  simp [Chip.joinFail]

@[simp] theorem Chip.mateLost_levels (c : Chip) : c.mateLost.levels = c.levels := by
  simp [Chip.mateLost]

@[simp] theorem Chip.pairDown_levels (c : Chip) : c.pairDown.levels = c.levels := by
  simp [Chip.pairDown]

@[simp] theorem Chip.fieldTake_levels (c : Chip) (fb : FBand) (bs : List Byte) : (c.fieldTake fb bs).levels = c.levels := by
  simp only [Chip.fieldTake]
  split <;> simp

@[simp] theorem Chip.joinBand_levels (c : Chip) (bseq : Nat) : (c.joinBand bseq).levels = c.levels := by
  unfold Chip.joinBand
  split
  next =>
    split_ifs
    · simp [↓Chip.levels_mk]
    · split <;> simp
  next => rfl

@[simp] theorem Chip.sendField_levels (c : Chip) (bseq : Nat) : (c.sendField bseq).levels = c.levels := by
  unfold Chip.sendField
  split <;> simp

@[simp] theorem Chip.serveDseq_levels (c : Chip) : c.serveDseq.levels = c.levels := by
  unfold Chip.serveDseq
  split <;> simp

@[simp] theorem Chip.digCompare_levels (c : Chip) (trig own mate : Nat) : (c.digCompare trig own mate).levels = c.levels := by
  simp [Chip.digCompare]

@[simp] theorem Chip.digestOut_levels (c : Chip) (trig d : Nat) : (c.digestOut trig d).levels = c.levels := by
  simp only [Chip.digestOut]
  split
  next => rfl
  next => split <;> simp

/-! ### DMA channels -/

@[simp] theorem Chip.modCh_levels (c : Chip) (n : Nat) (g : DmaS → DmaS) : (c.modCh n g).levels = c.levels :=
  Chip.levels_mk ..

@[simp] theorem Chip.dmaShow_levels (c : Chip) : c.dmaShow.levels = c.levels := by
  simp [Chip.dmaShow]

@[simp] theorem Chip.chGo_levels (c : Chip) (n st : Nat) : (c.chGo n st).levels = c.levels := by
  simp [Chip.chGo]

@[simp] theorem Chip.setSlots_levels (c : Chip) (n : Nat) (l : List (List Word)) : (c.setSlots n l).levels = c.levels := by
  simp [Chip.setSlots]

@[simp] theorem Chip.chClear_levels (c : Chip) (n : Nat) : (c.chClear n).levels = c.levels := by
  simp [Chip.chClear]

@[simp] theorem Chip.chHalt_levels (c : Chip) (n reason : Nat) : (c.chHalt n reason).levels = c.levels := by
  simp [Chip.chHalt]

@[simp] theorem Chip.chIsolate_levels (c : Chip) (n : Nat) : (c.chIsolate n).levels = c.levels := by
  simp [Chip.chIsolate]

@[simp] theorem Chip.chNext_levels (c : Chip) (n : Nat) : (c.chNext n).levels = c.levels := by
  simp [Chip.chNext]

/-! ### The fault controller -/

@[simp] theorem Chip.isolatePart_levels (c : Chip) (p : FcPart) : (c.isolatePart p).levels = c.levels := by
  unfold Chip.isolatePart
  split <;> simp

@[simp] theorem Chip.dropLines_levels (c : Chip) : c.dropLines.levels = c.levels := by
  simp [Chip.dropLines, ↓Chip.levels_mk]

@[simp] theorem Chip.recordRow_levels (c : Chip) (row : Nat) : (c.recordRow row).levels = c.levels := by
  simp only [Chip.recordRow]
  split
  next => rfl
  next => split <;> simp

@[simp] theorem Chip.fcCount_levels (c : Chip) (src inst t : Nat) : (c.fcCount src inst t).1.levels = c.levels := by
  simp [Chip.fcCount]

@[simp] theorem Chip.fcLog_levels (c : Chip) (src inst level t : Nat) : (c.fcLog src inst level t).levels = c.levels := by
  simp only [Chip.fcLog]
  split_ifs <;> simp

/-! ### What settling calls last -/

@[simp] theorem Chip.dmaTimeReached_levels (c : Chip) (n : Nat) : (c.dmaTimeReached n).levels = c.levels := by
  unfold Chip.dmaTimeReached
  split <;> simp

@[simp] theorem Chip.sumUpdate_levels (c : Chip) : c.sumUpdate.levels = c.levels :=
  (Chip.modScp_levels ..).trans (by simp)

@[simp] theorem Chip.eventLinkUp_levels (c : Chip) : c.eventLinkUp.levels = c.levels := by
  simp [Chip.eventLinkUp]

@[simp] theorem Chip.targetsReached_levels (c : Chip) : c.targetsReached.levels = c.levels := by
  simp [Chip.targetsReached]

@[simp] theorem Chip.releases_levels (c : Chip) : c.releases.levels = c.levels := by
  simp [Chip.releases, Chip.each_levels Chip.feRelease_levels]

end Sys2Proof.Machine
end

section
/-! SUPPORT. Settling sends no symbols, unless it ends the uplink's session, whose commands it then serves (R399, R413, R433,
R457). -/

namespace Sys2Proof.Machine

@[simp] theorem Chip.optSettle_levels (c : Chip) : c.optSettle.levels = c.levels := by
  unfold Chip.optSettle
  split
  next => rfl
  next =>
    have heach : ∀ (u : Chip) (l : List OptW), (u.each l fun u w =>
        { u with opt := sput optDefault u.opt w.word w.old }).levels = u.levels := fun u l =>
      Chip.each_levels (fun _ _ => Chip.levels_mk ..) l u
    refine (heach ..).trans ?_
    split <;> simp

@[simp] theorem Chip.deviceReset_levels (c : Chip) : c.deviceReset.levels = c.levels := by
  refine Eq.trans ?_ c.optSettle_levels
  unfold Chip.deviceReset Chip.optShow Chip.shpBudget
  simp only [Chip.setF_levels, Chip.wr_levels, Chip.levels_ite, ite_self]
  exact Chip.levels_of_out (c := c.optSettle) rfl

@[simp] theorem Chip.levelFive_levels (c : Chip) : c.levelFive.levels = c.levels := by
  simp [Chip.levelFive, Chip.deviceResetBy]

@[simp] theorem Chip.withdrawEnd_levels (c : Chip) : c.withdrawEnd.levels = c.levels := by
  unfold Chip.withdrawEnd
  split
  next => rfl
  next =>
    extract_lets c1 c2 c3 c4 c5 c6 l5 c7
    have h : c7.levels = c.levels := by simp [c7, c6, c5, c4, c3, c2, c1]
    split
    next => exact (Chip.levelFive_levels _).trans h
    next => exact h

@[simp] theorem Chip.withdraw_levels (c : Chip) (src : Nat) (trip : Bool) : (c.withdraw src trip).levels = c.levels := by
  simp [Chip.withdraw]

theorem Chip.repairOf_levels {c : Chip} {src inst : Nat} {r : Chip × Bool} (h : c.repairOf src inst = some r) :
    r.1.levels = c.levels := by
  unfold Chip.repairOf at h
  extract_lets n m reason at h
  clear_value reason
  split at h
  case h_7 => cases h
  all_goals
    split_ifs at h <;> cases h <;> simp

@[simp] theorem Chip.fcRepaired_levels (c : Chip) (r : Report) (lv : Nat) : (c.fcRepaired r lv).1.levels = c.levels := by
  unfold Chip.fcRepaired
  split
  next => rfl
  next =>
    split
    next => rfl
    next h => exact Chip.repairOf_levels h
    next h => exact Chip.repairOf_levels h

@[simp] theorem Chip.fcReact_levels (c : Chip) (r : Report) (lv : Nat) : (c.fcReact r lv).levels = c.levels := by
  unfold Chip.fcReact
  split <;> simp

@[simp] theorem Chip.fcReport_levels (c : Chip) (r : Report) (t : Nat) : (c.fcReport r t).levels = c.levels := by
  cases h : srcLevels r.src r.low with
  | none => rw [Chip.fcReport, h]
  | some l =>
    have hmet : ∀ last, (c.fcMet r t last).1.levels = c.levels := fun last => by cases last <;> simp [Chip.fcMet]
    rw [Chip.fcReport_of_levels h]
    simp [Chip.fcPends, hmet]

theorem Chip.fcSettle_levels (k : Nat) (c : Chip) : (Chip.fcSettle k c).levels = c.levels := by
  induction k generalizing c with
  | zero => rfl
  | succ k ih =>
    unfold Chip.fcSettle
    split
    next => exact Chip.levels_mk ..
    next =>
      split
      next => simp [ih]
      next => exact (ih _).trans ((Chip.fcReport_levels ..).trans (Chip.levels_mk ..))
      next => rfl

/-- From `c` to `t`, what is kept and the symbols sent stand unless the queue of the uplink is empty at the end. -/
def Chip.Silent (c t : Chip) : Prop := t.scp.ulq ≠ [] → t.kept = c.kept ∧ t.levels = c.levels

theorem Chip.Silent.of_calm {c t : Chip} (h : c.Calm t) (hl : t.levels = c.levels) : c.Silent t := fun hne => ⟨h hne, hl⟩

theorem Chip.Silent.trans {c t u : Chip} (h : c.Silent t) (g : t.Silent u) : c.Silent u := fun hne => by
  obtain ⟨hu, hlu⟩ := g hne
  have hq : u.scp.ulq = t.scp.ulq := congrArg Prod.snd hu
  obtain ⟨ht, hlt⟩ := h (hq ▸ hne)
  exact ⟨hu.trans ht, hlu.trans hlt⟩

theorem Chip.doDefer_silent (c : Chip) (d : Defer) : c.Silent (c.doDefer d) := by
  by_cases hd : d = .ulDown
  · subst hd
    exact fun hne => absurd rfl hne
  · refine .of_calm (c.doDefer_calm d) ?_
    cases d with
    | ulDown => exact absurd rfl hd
    | pairDown => exact Chip.pairDown_levels _
    | ulUp => exact Chip.eventLinkUp_levels _
    | bandNew b => exact Chip.joinBand_levels ..
    | bandLoaded b => exact Chip.sendField_levels ..
    | bandDigest t d => exact Chip.digestOut_levels ..
    | colourStatus t dropped => exact Chip.pairSend_levels ..
    | fidMark t => exact Chip.fidMarkAt_levels ..
    | fidMissing s => exact Chip.fidMissed_levels ..
    | stopCut => exact Chip.stopCut_levels _
    | stopCheck => exact Chip.stopCheck_levels _
    | stepped => exact Chip.targetsReached_levels _

theorem Chip.settleLoop_silent (k : Nat) (c : Chip) : c.Silent (Chip.settleLoop k c) := by
  induction k generalizing c with
  | zero => exact .of_calm .rfl rfl
  | succ k ih =>
    unfold Chip.settleLoop
    extract_lets c1
    refine .trans (.of_calm (Chip.fcSettle_calm c.fcFuel c) (Chip.fcSettle_levels ..)) ?_
    split
    next => exact .of_calm .rfl rfl
    next => exact .trans (.trans (.of_calm (.of_kept (Chip.kept_mk ..)) (Chip.levels_mk ..)) (Chip.doDefer_silent _ _)) (ih _)

theorem Chip.settle_silent (c : Chip) : c.Silent c.settle :=
  .trans (Chip.settleLoop_silent _ c) (.of_calm (.of_kept c.settle_kept)
    ((Chip.sumUpdate_levels _).trans ((Chip.serveDseq_levels _).trans (Chip.releases_levels _))))

end Sys2Proof.Machine
end

section
/-! The counts of a lane in loopback (R64, R66). -/

namespace Sys2Proof.Machine

/-- A command does not complete with `P` where `P` excludes the symbols it sends: while commands of the uplink wait, settling
sends none after any effect. -/
theorem not_does_of_levels {i : Instr} {s : State} {P : Chip → Prop} {e : Chip} (hi : exec i s = .next { s with chip := e.settle })
    (he : e.Quiet) (hq : e.scp.ulq ≠ []) (hP : ∀ c : Chip, c.levels = e.levels → ¬P c) : ¬Does i s P := by
  rintro ⟨c, hc, hPc, -⟩
  have hs : c.settle = e.sumUpdate :=
    (congrArg State.chip (Host.Outcome.next.inj (hi.symm.trans hc)).symm).trans (e.settle_quiet he)
  have hn : c.settle.scp.ulq ≠ [] := fun h => hq ((congrArg Prod.snd e.sumUpdate_kept).symm.trans (hs ▸ h))
  obtain ⟨-, hl⟩ := c.settle_silent hn
  exact hP c (hl.symm.trans ((congrArg Chip.levels hs).trans e.sumUpdate_levels)) hPc

/-- A device that is up, with lane 0 of link 0 in TEST and in the loopback of what it receives, while a command of the uplink
waits. -/
def loopedBack : State :=
  ⟨[], { up.sets [(F.lnStateState 0 0, lsTest), (F.lnCtrlLoopback 0 0, 2)] with
    scp := { ScpS.reset with ulq := [⟨.ul, ⟨0, 0, [], 0, [], [], false, 0, 0, 0, true⟩, []⟩] } }⟩

/-- The command reads the count of the lane between two stretches of no symbols. -/
def Chip.countRead (c : Chip) : Chip := ((c.testRx 0 0 []).readOp .boot (R.lnPrbsErrLo 0 0)).testRx 0 0 []

theorem exec_countRead (s : State) :
    exec (.prbsCountLoRead .boot 0 0 false [] []) s = .next { s with chip := s.fresh.countRead.settle } := rfl

/-- Nothing is left to settle, the command of the uplink still waits, and each stretch goes out again. -/
theorem loopedBack_countRead :
    loopedBack.fresh.countRead.Quiet ∧ loopedBack.fresh.countRead.scp.ulq ≠ []
      ∧ loopedBack.fresh.countRead.levels = [.levels 0 0 [], .levels 0 0 []]
      ∧ (loopedBack.fresh.testRx 0 0 []).levels = [.levels 0 0 []]
      ∧ loopedBack.chip.AllowsRead .boot (R.lnPrbsErrLo 0 0) := by
  dsimp only [Chip.Quiet, Chip.AllowsRead]
  decide +kernel

/-- Refutes O7: on a lane in TEST that sends back what it receives, the symbols behind the read go out after the answer even
where there are none of them, while the statement asks for nothing there. -/
theorem not_laneTests : ¬ Obligations.LaneTests := by
  unfold Obligations.LaneTests
  rintro ⟨hread, -⟩
  obtain ⟨hquiet, hqueue, hsent, hbefore, hallows⟩ := loopedBack_countRead
  refine not_does_of_levels (e := loopedBack.fresh.countRead) (exec_countRead _) hquiet hqueue (fun c hc => ?_)
    (hread loopedBack .boot 0 0 false [] [] (by decide) (by decide) rfl hallows)
  rintro ⟨⟨more, hout, hmore⟩, -⟩
  have hone : c.levels = (loopedBack.fresh.testRx 0 0 []).levels := by
    rw [Chip.levels, hout, hmore rfl, List.filter_append]
    exact List.append_nil _
  rw [hone, hbefore, hsent] at hc
  exact absurd hc (by simp)

end Sys2Proof.Machine
end

section
/-! SUPPORT. Links: their data under an update, a packet that a link takes, and what a command that adds to a count shows (R87, R102). -/

namespace Sys2Proof.Machine

/-! ### The data of a link beside its registers -/

section Data
variable (c : Chip) {n : Nat}

theorem Chip.link_modLink (h : n < c.links.length) (g : LinkS → LinkS) : (c.modLink n g).link n = g (c.link n) := by
  simp [Chip.link, Chip.modLink, List.getElem?_eq_getElem h]

/-- What an update keeps of the data of a link, whether the link exists or not. -/
theorem Chip.link_modLink_keeps {α : Type} (p : LinkS → α) {g : LinkS → LinkS} (h : ∀ l, p (g l) = p l) (k n : Nat) :
    p ((c.modLink k g).link n) = p (c.link n) := by
  simp only [Chip.link, Chip.modLink, List.getElem?_modify]
  cases c.links[n]? with
  | none => rfl
  | some l =>
    simp only [Option.map_eq_map, Option.map_some, Option.getD_some]
    split
    · exact h l
    · rfl

@[simp] theorem Chip.modLink_length (k : Nat) (g : LinkS → LinkS) : (c.modLink k g).links.length = c.links.length := by
  simp [Chip.modLink]

@[simp] theorem Chip.modLink_linkSt (k : Nat) (g : LinkS → LinkS) (n : Nat) : (c.modLink k g).linkSt n = c.linkSt n := rfl

theorem Chip.linkSt_setF {x : Fld} (v : Nat) (h : x.addr ≠ R.linkState n ∨ 4 ≤ x.lo) : (c.setF x v).linkSt n = c.linkSt n :=
  c.f_setF_disjoint v (h.imp Ne.symm fun h => Or.inr (by simpa [F.linkStateState] using h))

theorem Chip.linkSt_linkGo {st : Nat} (h : st < 16) : (c.linkGo n st).linkSt n = st :=
  (c.f_setF_self (x := F.linkStateState n) st (by simp [F.linkStateState])).trans (Nat.mod_eq_of_lt h)

theorem Chip.linkSt_congr {c t : Chip} (h : t.regs = c.regs) (n : Nat) : t.linkSt n = c.linkSt n := Chip.f_congr h _

end Data

/-! ### Numbers in a packet -/

theorem natOfBE_lt (bs : List Byte) : natOfBE bs < 256 ^ bs.length := by
  unfold natOfBE
  induction bs using List.reverseRecOn with
  | nil => simp
  | append_singleton bs b ih =>
    have hb := b.isLt
    rw [List.foldl_append, List.length_append, List.length_singleton, pow_succ]
    simp only [List.foldl_cons, List.foldl_nil]
    omega

theorem fieldBE_lt (bs : List Byte) (lo n : Nat) : fieldBE bs lo n < 256 ^ n :=
  lt_of_lt_of_le (natOfBE_lt _) (Nat.pow_le_pow_right (by decide) (List.length_take_le ..))

/-! ### A packet that a link takes (R87) -/

/-- `d` is `c` after a packet has left the receive queue of link `n`. -/
def Chip.Took (c d : Chip) (n : Nat) : Prop :=
  ∃ g : LinkS → LinkS, d = c.modLink n g ∧ ∀ l, ∃ q e, g l = { l with rxq := q, exiting := e }

section Took
variable {c d : Chip} {n : Nat} (h : c.Took d n)
include h

theorem Chip.Took.regs : d.regs = c.regs := by
  obtain ⟨g, rfl, -⟩ := h
  rfl

theorem Chip.Took.mem : d.mem = c.mem := by
  obtain ⟨g, rfl, -⟩ := h
  rfl

theorem Chip.Took.out : d.out = c.out := by
  obtain ⟨g, rfl, -⟩ := h
  rfl

theorem Chip.Took.log : d.log = c.log := by
  obtain ⟨g, rfl, -⟩ := h
  rfl

theorem Chip.Took.f (x : Fld) : d.f x = c.f x := Chip.f_congr h.regs x

theorem Chip.Took.linkSt (k : Nat) : d.linkSt k = c.linkSt k := Chip.linkSt_congr h.regs k

theorem Chip.Took.headRole (k : Nat) : d.headRole k = c.headRole k := by
  obtain ⟨g, rfl, -⟩ := h
  rfl

theorem Chip.Took.length : d.links.length = c.links.length := by
  obtain ⟨g, rfl, -⟩ := h
  exact Chip.modLink_length ..

/-- The data of the link but for its receive queue and the exit from idle. -/
theorem Chip.Took.link {α : Type} (p : LinkS → α) (hp : ∀ l q e, p { l with rxq := q, exiting := e } = p l) :
    p (d.link n) = p (c.link n) := by
  obtain ⟨g, rfl, hg⟩ := h
  refine c.link_modLink_keeps p (fun l => ?_) n n
  obtain ⟨q, e, hl⟩ := hg l
  rw [hl, hp]

theorem Chip.Took.keeps (l : List Nat) : c.Keeps d l := Chip.Keeps.of_same h.regs h.mem

end Took

section Packets
variable {c : Chip} {n typ : Nat} {pk : RxPkt}

theorem State.fresh_takes {s : State} (h : s.chip.Takes n typ pk) : s.fresh.Takes n typ pk := by
  obtain ⟨hpcs, hok, htyp⟩ := h
  exact ⟨hpcs, (s.fresh.rxCheck_snd s.chip n pk).trans hok, htyp⟩

/-- A packet that passes checks 1 to 4 leaves the receive queue. -/
theorem Chip.rxCheck_leaves (h : (c.rxCheck n pk).2 = true) :
    ∃ g, (c.rxCheck n pk).1 = c.modLink n g ∧ ∀ l, ∃ q, g l = { l with rxq := q } := by
  unfold Chip.rxCheck at h ⊢
  dsimp only at h ⊢
  split at h
  · cases h
  rw [if_neg ‹_›]
  split at h
  · cases h
  rw [if_neg ‹_›]
  split at h
  · cases h
  rw [if_neg ‹_›]
  split at h
  · cases h
  rw [if_neg ‹_›]
  exact ⟨_, rfl, fun l => ⟨_, rfl⟩⟩

/-- A packet that passes them is used in the device that has taken it from its receive queue. -/
theorem Chip.rxUse_took (h : c.Takes n typ pk) :
    ∃ d, c.Took d n ∧ ∀ g : Chip → List Byte → Chip, c.rxUse n typ pk g = g d pk.bytes := by
  obtain ⟨hpcs, hok, htyp⟩ := h
  obtain ⟨g, hg, hq⟩ := Chip.rxCheck_leaves hok
  refine ⟨_, ⟨(fun l => { l with exiting := false }) ∘ g, rfl, fun l => ?_⟩, fun use => ?_⟩
  · obtain ⟨q, hl⟩ := hq l
    exact ⟨q, false, by rw [Function.comp_apply, hl]⟩
  · unfold Chip.rxUse
    rw [hpcs, if_neg (by simp)]
    dsimp only
    rw [if_pos ⟨hok, htyp⟩, hg, Chip.modLink, Chip.modLink, List.modify_modify_eq]
    rfl

/-- A packet that fails one of them is not used. -/
theorem Chip.rxUse_failed (hpcs : c.pcsRuns n = true) (h : (c.rxCheck n pk).2 = false) (g : Chip → List Byte → Chip) :
    c.rxUse n typ pk g = (c.rxCheck n pk).1 := by
  unfold Chip.rxUse
  rw [hpcs, if_neg (by simp)]
  dsimp only
  rw [h, if_neg (by simp)]

end Packets

/-! ### A command that adds one to a count -/

/-- `d` is `c` but for one more in count `x`, the registers `l`, and what lies beside registers and memories. -/
structure Chip.Counts (c d : Chip) (x : Fld) (l : List Nat) : Prop where
  count : d.f x = satAdd x.width (c.f x) 1
  keeps : c.Keeps d (x.addr :: l)

section Counts
variable {c u d : Chip} {x : Fld} {l : List Nat}

theorem Chip.Keeps.counts (h : c.Keeps u l) (hf : u.f x = c.f x) (hx : x.lo + x.width ≤ 32) : c.Counts (u.inc x) x l :=
  ⟨by rw [Chip.f_inc_self _ hx, hf], (h.mono fun _ => List.mem_cons_of_mem _).inc List.mem_cons_self⟩

theorem Chip.Counts.same (h : c.Counts u x l) (hr : d.regs = u.regs) (hm : d.mem = u.mem) : c.Counts d x l :=
  ⟨(Chip.f_congr hr x).trans h.count, h.keeps.same hr hm⟩

/-- An event of a link that adds one to a count shows the count. -/
theorem Does.of_counts {i : Instr} {s : State} {k : Nat} {ok : Bool} (f : Chip → Chip) (h : exec i s = runIn s k ok f)
    (hk : s.chip.domainRuns k = true) (hok : ok = true) (hx : 0x10000 ≤ x.addr) (hf : s.fresh.Counts (f s.fresh) x l) :
    Does i s fun t => t.f x = satAdd x.width (s.chip.f x) 1 ∧ s.chip.Keeps t (x.addr :: l) :=
  Does.of_runIn f h hk hok rfl fun d hd _ _ =>
    ⟨(hd.f_reg (by simp) hx).trans hf.count, ((s.keeps_fresh _).trans hf.keeps).settled hd⟩

end Counts

end Sys2Proof.Machine
end

section
/-! The checks of a LINE packet (R87). -/

namespace Sys2Proof.Machine

section Checks
variable {c : Chip} {n : Nat} {pk : RxPkt}

/-- A packet is whole: it ended as its START said, and has the length of its header, which is in range (check 1 of R87). -/
def PacketWhole (pk : RxPkt) : Prop :=
  pk.framed = true ∧ 16 ≤ fieldBE pk.bytes 2 2 ∧ fieldBE pk.bytes 2 2 ≤ 8226 ∧ pk.bytes.length = fieldBE pk.bytes 2 2

/-- Its CRC stands (check 3 of R87). -/
def PacketSound (pk : RxPkt) : Prop :=
  (crc32c (pk.bytes.take (fieldBE pk.bytes 2 2 - 4))).toNat = fieldBE pk.bytes (fieldBE pk.bytes 2 2 - 4) 4

theorem not_packetWhole_iff (pk : RxPkt) : ¬PacketWhole pk ↔ (!pk.framed) = true ∨ fieldBE pk.bytes 2 2 < 16 ∨ 8226 < fieldBE pk.bytes 2 2
    ∨ pk.bytes.length ≠ fieldBE pk.bytes 2 2 := by
  unfold PacketWhole
  cases pk.framed <;> simp
  omega

theorem Chip.rxCheck_broken (h : ¬PacketWhole pk) : (c.rxCheck n pk).2 = false ∧ c.Counts (c.rxCheck n pk).1 (F.frameErrCount n) [] := by
  have hw := (not_packetWhole_iff pk).1 h
  unfold Chip.rxCheck
  dsimp only
  rw [if_pos hw]
  exact ⟨rfl, Chip.Keeps.counts (Chip.Keeps.of_same rfl rfl) rfl (by simp [F.frameErrCount])⟩

theorem Chip.rxCheck_uncorrectable (h : PacketWhole pk) (he : pk.errored = true) :
    (c.rxCheck n pk).2 = false ∧ c.Counts (c.rxCheck n pk).1 (F.fecDropCount n) [] := by
  have hw := mt (not_packetWhole_iff pk).2 (not_not_intro h)
  unfold Chip.rxCheck
  dsimp only
  rw [if_neg hw, if_pos he]
  exact ⟨rfl, Chip.Keeps.counts (Chip.Keeps.of_same rfl rfl) rfl (by simp [F.fecDropCount])⟩

theorem Chip.rxCheck_unsound (h : PacketWhole pk) (he : pk.errored = false) (hs : ¬PacketSound pk) :
    (c.rxCheck n pk).2 = false ∧ c.Counts (c.rxCheck n pk).1 (F.crcErrCount n) [] := by
  have hw := mt (not_packetWhole_iff pk).2 (not_not_intro h)
  unfold PacketSound at hs
  unfold Chip.rxCheck
  dsimp only
  rw [if_neg hw, if_neg (by simp [he]), if_pos hs]
  have hcount : c.Counts (c.inc (F.crcErrCount n)) (F.crcErrCount n) [] :=
    Chip.Keeps.counts (Chip.Keeps.refl c []) rfl (by simp [F.crcErrCount])
  exact ⟨rfl, hcount.same rfl rfl⟩

theorem Chip.rxCheck_untyped (h : PacketWhole pk) (he : pk.errored = false) (hs : PacketSound pk)
    (ht : fieldBE pk.bytes 0 1 % 16 ≠ 1 ∨ lenOk n pk.bytes = false) :
    (c.rxCheck n pk).2 = false ∧ c.Counts (c.rxCheck n pk).1 (F.typeErrCount n) [] := by
  have hw := mt (not_packetWhole_iff pk).2 (not_not_intro h)
  unfold PacketSound at hs
  unfold Chip.rxCheck
  dsimp only
  rw [if_neg hw, if_neg (by simp [he]), if_neg (not_not_intro hs), if_pos (by simpa using ht)]
  exact ⟨rfl, Chip.Keeps.counts (Chip.Keeps.of_same rfl rfl) rfl (by simp [F.typeErrCount])⟩

end Checks

/-- A LINE packet that fails a check adds one to the count of that check, and nothing else of it is used. -/
theorem linePacket_failed {s : State} {n : Nat} {pk : RxPkt} {x : Fld} (hn : n < 8) (hr : s.chip.domainRuns 4 = true)
    (hpcs : s.chip.pcsRuns n = true) (hx : 0x10000 ≤ x.addr)
    (h : (s.fresh.rxCheck n pk).2 = false ∧ s.fresh.Counts (s.fresh.rxCheck n pk).1 x []) :
    Does (.linePacketRx n pk) s fun t => t.f x = satAdd x.width (s.chip.f x) 1 ∧ s.chip.Keeps t [x.addr] :=
  Does.of_counts (fun c => c.lineRx n pk) rfl hr (by simpa using hn) hx (by
    rw [Chip.lineRx, Chip.rxUse_failed (c := s.fresh) hpcs h.1]
    exact h.2)

/-- Settles O12: the checks stand in the order of the rule, and the first that fails has its count. -/
theorem packetChecks : Obligations.PacketChecks := by
  intro s n pk hn hr hpcs
  have hfail {x : Fld} := linePacket_failed (x := x) (pk := pk) hn hr hpcs
  exact ⟨fun hw => hfail (linkReg_ge n 0x58) (Chip.rxCheck_broken hw),
    fun hw he => hfail (linkReg_ge n 0x5C) (Chip.rxCheck_uncorrectable hw he),
    fun hw he hs => hfail (linkReg_ge n 0x60) (Chip.rxCheck_unsound hw he hs),
    fun hw he hs ht => hfail (linkReg_ge n 0x64) (Chip.rxCheck_untyped hw he hs ht)⟩

end Sys2Proof.Machine
end

section
/-! SUPPORT. What lasts when a link goes to SEEKING or DISABLED or its port is lost: the phase that failed, the events of the
link but for SEEK and SWAP_FAIL, its count of lines and its copy of CAP; and what has been sent stays sent (R102, R103, R118). -/

namespace Sys2Proof.Machine

/-- The fields that last. -/
def linkLasting (n : Nat) (x : Fld) : Prop :=
  x.addr = R.linkState n ∧ 28 ≤ x.lo ∨ x.addr = R.linkEvt n ∧ 2 ≤ x.lo ∧ x.lo + x.width ≤ 7 ∨ x.addr = R.lineCnt n
    ∨ 0x100100 + n * 0x10000 ≤ x.addr ∧ x.addr < 0x108000 + n * 0x10000

/-- A field beside them: writing it leaves them alone. -/
def linkPassing (n : Nat) (x : Fld) : Prop :=
  (x.addr ≠ R.linkState n ∨ x.lo + x.width ≤ 28) ∧ (x.addr ≠ R.linkEvt n ∨ x.lo + x.width ≤ 2 ∨ 7 ≤ x.lo) ∧ x.addr ≠ R.lineCnt n
    ∧ (x.addr < 0x100100 + n * 0x10000 ∨ 0x108000 + n * 0x10000 ≤ x.addr)

theorem linkPassing_of_ge {n : Nat} {x : Fld} (h : 0x108000 + n * 0x10000 ≤ x.addr) : linkPassing n x := by
  simp only [linkPassing, R.linkState, R.linkEvt, R.lineCnt]
  omega

/-- What lasts stands, and what was sent is still there, in front. -/
structure Chip.Lasts (c t : Chip) (n : Nat) : Prop where
  fields : ∀ x, linkLasting n x → t.f x = c.f x
  sent : c.out <+: t.out

section Closure
variable {c t u : Chip} {n : Nat}

theorem Chip.Lasts.refl (c : Chip) (n : Nat) : c.Lasts c n := ⟨fun _ _ => rfl, List.prefix_refl _⟩

theorem Chip.Lasts.trans (h : c.Lasts t n) (k : t.Lasts u n) : c.Lasts u n :=
  ⟨fun x hx => (k.fields x hx).trans (h.fields x hx), h.sent.trans k.sent⟩

theorem Chip.Lasts.same (h : c.Lasts t n) (hr : u.regs = t.regs) (ho : t.out <+: u.out) : c.Lasts u n :=
  h.trans ⟨fun _ _ => Chip.f_congr hr _, ho⟩

theorem Chip.Lasts.ite {p : Prop} [Decidable p] {v : Chip} (h1 : p → c.Lasts u n) (h2 : ¬p → c.Lasts v n) :
    c.Lasts (if p then u else v) n := by
  split
  next hp => exact h1 hp
  next hp => exact h2 hp

theorem Chip.Lasts.each {α : Type} {g : Chip → α → Chip} (h : c.Lasts t n) (hg : ∀ (u : Chip) x, u.Lasts (g u x) n) (l : List α) :
    c.Lasts (t.each l g) n := by
  unfold Chip.each
  induction l generalizing t with
  | nil => exact h
  | cons x xs ih => exact ih (h.trans (hg t x))

theorem Chip.Lasts.setF {x : Fld} {v : Nat} (h : c.Lasts t n) (hx : linkPassing n x) : c.Lasts (t.setF x v) n := by
  refine h.trans ⟨fun y hy => Chip.f_setF_disjoint _ _ ?_, by rw [Chip.setF_out]⟩
  simp only [linkLasting, linkPassing, R.linkState, R.linkEvt, R.lineCnt] at hx hy ⊢
  omega

theorem Chip.Lasts.ev {x : Fld} (h : c.Lasts t n) (hx : linkPassing n x) : c.Lasts (t.ev x) n := h.setF hx

theorem Chip.Lasts.inc {x : Fld} (h : c.Lasts t n) (hx : linkPassing n x) : c.Lasts (t.inc x) n := h.setF hx

theorem Chip.Lasts.add {x : Fld} {k : Nat} (h : c.Lasts t n) (hx : linkPassing n x) : c.Lasts (t.add x k) n := h.setF hx

theorem Chip.Lasts.modLink (h : c.Lasts t n) (k : Nat) (g : LinkS → LinkS) : c.Lasts (t.modLink k g) n :=
  h.same rfl (List.prefix_refl _)

theorem Chip.Lasts.report (h : c.Lasts t n) (src inst : Nat) : c.Lasts (t.report src inst) n := h.same rfl (List.prefix_refl _)

theorem Chip.Lasts.emit (h : c.Lasts t n) (o : Out) : c.Lasts (t.emit o) n := h.same rfl (List.prefix_append ..)

/-- An operation on lanes of the link, whose registers lie above. -/
theorem Chip.Lasts.of_keeps {l : List Nat} (h : c.Keeps t l) (hl : ∀ a ∈ l, 0x108000 + n * 0x10000 ≤ a) (ho : c.out <+: t.out) :
    c.Lasts t n := by
  refine ⟨fun x hx => h.f (fun hm => ?_) (reg_ne_scp ?_).1, ho⟩
  · have := hl _ hm
    simp only [linkLasting, R.linkState, R.linkEvt, R.lineCnt] at hx
    omega
  · simp only [linkLasting, R.linkState, R.linkEvt, R.lineCnt] at hx
    omega

end Closure

variable (c : Chip) {n : Nat}

/-! ### Lanes (R48) -/

theorem laneRegs_ge (hn : n < 9) {m a : Nat} (h : a ∈ R.lnCtrl n m :: laneRegs n m) : 0x108000 + n * 0x10000 ≤ a := by
  simp only [laneRegs, if_neg (show n ≠ 9 by omega), List.append_nil, List.mem_cons, List.not_mem_nil, or_false] at h
  rcases h with rfl | rfl | rfl | rfl | rfl | rfl | rfl <;>
    simp only [R.lnCtrl, R.lnState, R.lnRxeq, R.lnFfe0, R.lnEye, R.lnPrbsCtrl, R.lnPrbsStat] <;> omega

theorem Chip.Lasts.lane {c t : Chip} {m : Nat} (hn : n < 9) (h : c.Keeps t (laneRegs n m)) (ho : t.out = c.out) : c.Lasts t n :=
  .of_keeps h (fun _ ha => laneRegs_ge hn (List.mem_cons_of_mem _ ha)) (ho ▸ List.prefix_refl _)

theorem Chip.laneOff_lasts (hn : n < 9) (m : Nat) : c.Lasts (c.laneOff n m) n := .lane hn (c.laneOff_keeps n m) c.laneOff_out

theorem Chip.laneRest_lasts (hn : n < 9) (m : Nat) : c.Lasts (c.laneRest n m) n :=
  .ite (fun _ => .refl c n) fun _ => c.laneOff_lasts hn m

theorem Chip.laneDeep_lasts (m : Nat) : c.Lasts (c.laneDeep n m) n := by
  refine .ite (fun _ => ?_) fun _ => .refl c n
  refine Chip.Lasts.setF (.of_keeps (c.laneGo_keeps n m lsDeep) (fun a ha => ?_) (by rw [Chip.laneGo_out])) (linkPassing_of_ge ?_)
  · rw [List.mem_singleton.1 ha, R.lnState]
    omega
  · simp only [F.lnStateCdrLock, R.lnState]
    omega

theorem Chip.laneTrainAbandoned_lasts (hn : n < 9) (m : Nat) (x : LaneSet) : c.Lasts (c.laneTrainAbandoned n m x) n := by
  by_cases h : c.laneState n m = lsTrain
  · refine .lane hn (c.laneTrainAbandoned_keeps x h) ?_
    rw [c.laneTrainAbandoned_link x h (by omega), Chip.setF_out, Chip.laneGo_out]
    split
    · rw [Chip.adaptSet, if_neg Bool.false_ne_true, Chip.loadSet_out]
    · rfl
  · rw [Chip.laneTrainAbandoned, if_neg h]
    exact .refl c n

theorem Chip.lanesWait_lasts (hn : n < 9) : c.Lasts (c.lanesWait n) n :=
  (Chip.Lasts.ite (fun _ => c.laneRest_lasts hn _) fun _ => .refl c n).each
    (fun u m => (u.laneTrainAbandoned_lasts hn m _).trans (Chip.laneDeep_lasts _ m)) _

theorem Chip.allLanesOff_lasts (hn : n < 9) : c.Lasts (c.allLanesOff n) n := (Chip.Lasts.refl c n).each (fun u m => u.laneRest_lasts hn m) _

/-! ### Rounds (R76 to R78) -/

theorem Chip.txSyms_sent (m : Nat) (coded : Bool) (g : List Nat) :
    (c.txSyms n m coded g).1.regs = c.regs ∧ (c.txSyms n m coded g).1.out = c.out := by
  unfold Chip.txSyms
  dsimp only
  split <;> exact ⟨rfl, rfl⟩

theorem Chip.laneTx_lasts (m : Nat) (bs : List Bool) : c.Lasts (c.laneTx n m bs).1 n := by
  obtain ⟨hr, ho⟩ := (c.flipBits n m bs).1.txSyms_sent (n := n) m true (grayMap (c.flipBits n m bs).2)
  exact (Chip.Lasts.refl c n).same hr (ho ▸ List.prefix_refl _)

theorem Chip.sendCodeword_lasts (k : Nat) (am : Bool) (bs : List (Bool × List Byte)) : c.Lasts (c.sendCodeword n k am bs) n :=
  ((Chip.Lasts.refl c n).modLink n _).each (fun u m => (u.laneTx_lasts m _).emit _) _

theorem Chip.sendRound_lasts : c.Lasts (c.sendRound n) n :=
  ((Chip.Lasts.refl c n).each (fun u _ => u.sendCodeword_lasts _ _ _) _).modLink n _

theorem Chip.flushRounds_lasts (k : Nat) : c.Lasts (c.flushRounds n k) n := by
  induction k generalizing c with
  | zero => exact .refl c n
  | succ k ih => exact .ite (fun _ => .refl c n) fun _ => c.sendRound_lasts.trans (ih _)

theorem Chip.stopRounds_lasts : c.Lasts (c.stopRounds n) n :=
  (Chip.Lasts.ite (fun _ => c.flushRounds_lasts _) fun _ => .refl c n).modLink n _

theorem Chip.sendPacket_lasts (k typ : Nat) (body : List Byte) : c.Lasts (c.sendPacket k typ body) n :=
  ((Chip.Lasts.refl c n).emit _).modLink k _

theorem Chip.sendBlock_lasts (bs : List Byte) : c.Lasts (c.sendBlock n bs) n := ((Chip.Lasts.refl c n).emit _).modLink n _

/-! ### Lines and triggers of a port that is lost (R102, R110, R124) -/

theorem Chip.trigLateOne_lasts (trig : Nat) : c.Lasts (c.trigLateOne n trig) n :=
  ((Chip.Lasts.refl c n).inc (x := F.trigLateCount n) (by
    simp only [linkPassing, F.trigLateCount, R.trigLate, R.linkState, R.linkEvt, R.lineCnt]; omega)).same rfl (List.prefix_refl _)

theorem Chip.trigsLate_lasts : c.Lasts (c.trigsLate n) n :=
  ((Chip.Lasts.refl c n).modLink n _).each (fun u _ => u.trigLateOne_lasts _) _

theorem Chip.trigDeparts_lasts : c.Lasts (c.trigDeparts n) n := by
  unfold Chip.trigDeparts
  split
  · exact .refl c n
  · exact .ite (fun _ => (((Chip.Lasts.refl c n).modLink n _).emit _).same rfl (List.prefix_refl _))
      fun _ => ((Chip.Lasts.refl c n).modLink n _).trans (Chip.trigLateOne_lasts _ _)

theorem Chip.trigsLeave_lasts : c.Lasts (c.trigsLeave n) n := (Chip.Lasts.refl c n).each (fun u _ => u.trigDeparts_lasts) _

theorem linkPassing_far {x : Fld} (hn : n < 9) (hx : 0x1A0000 ≤ x.addr) : linkPassing n x := linkPassing_of_ge (by omega)

theorem Chip.portOffClosed_lasts (hn : n < 9) (trig : Nat) : c.Lasts (c.portOffClosed n trig) n := by
  refine .ite (fun _ => ?_) fun _ => .refl c n
  exact (((Chip.Lasts.refl c n).setF (x := F.linkCtrlExpected n) (by
    simp only [linkPassing, F.linkCtrlExpected, R.linkCtrl, R.linkState, R.linkEvt, R.lineCnt]; omega)).ev
      (linkPassing_far hn (by decide))).same rfl (List.prefix_refl _)

theorem Chip.feCloseAt_lasts (hn : n < 9) (k : Nat) : c.Lasts (c.feCloseAt n k) n := by
  have hadd : ∀ (u : Chip) (x : Fld) (v : Nat), 0x1A0000 ≤ x.addr → u.Lasts (u.add x v) n := fun u x v hx =>
    (Chip.Lasts.refl u n).add (linkPassing_far hn hx)
  have hcount : ∀ (p q : Prop) [Decidable p] [Decidable q] (g : FeS → FeS),
      c.Lasts (if p then (c.modFe n g).inc (F.feMissCntCount n) else if q then (c.modFe n g).inc (F.fePartCntCount n)
        else c.modFe n g) n := fun p q _ _ g => by
    refine Chip.Lasts.trans (t := c.modFe n g) ((Chip.Lasts.refl c n).same rfl (List.prefix_refl _)) ?_
    exact .ite (fun _ => hadd _ _ 1 (by simp only [F.feMissCntCount, R.feMissCnt]; omega)) fun _ =>
      .ite (fun _ => hadd _ _ 1 (by simp only [F.fePartCntCount, R.fePartCnt]; omega)) fun _ => .refl _ n
  unfold Chip.feCloseAt
  split
  · exact .refl c n
  · refine Chip.Lasts.trans ?_ (Chip.portOffClosed_lasts _ hn _)
    refine Chip.Lasts.trans ?_ (.ite (fun _ => (Chip.Lasts.refl _ n).report _ _) fun _ => .refl _ n)
    split
    · exact .ite (fun _ => (hcount ..).trans (hadd _ _ _ (by simp only [F.feLnoGapCount, R.feLnoGap]; omega))) fun _ => hcount ..
    · exact hcount ..

theorem Chip.fePortLoss_lasts (hn : n < 9) : c.Lasts (c.fePortLoss n) n := by
  unfold Chip.fePortLoss
  generalize (c.fe n).exp.length = k
  induction k generalizing c with
  | zero => exact .refl c n
  | succ k ih => exact (c.feCloseAt_lasts hn 0).trans (ih _)

theorem Chip.portLost_lasts (hn : n < 9) : c.Lasts (c.portLost n) n := by
  have h := (Chip.Lasts.refl c n).modLink n fun l => { l with
    alive := none, lineOpen := false, draining := false, latRun := false, exiting := false, burst := none }
  exact .ite (fun _ => (h.trans (Chip.trigsLate_lasts _)).trans (Chip.fePortLoss_lasts _ hn)) fun _ =>
    h.same rfl (List.prefix_refl _)

/-! ### Pending work (R96, R103, R116, R117) -/

/-- The registers of SWAP and of the mailbox lie beside what lasts. -/
theorem linkPassing_low {x : Fld} (h : x.addr = R.swapStat n ∨ x.addr = R.hregStat n ∨ x.addr = R.hregData n) : linkPassing n x := by
  simp only [linkPassing, R.swapStat, R.hregStat, R.hregData, R.linkState, R.linkEvt, R.lineCnt] at h ⊢
  omega

theorem Chip.ctrlStart_lasts (r : CtrlReq) : c.Lasts (c.ctrlStart n r) n := by
  have h : ∀ r, c.Lasts ((c.modLink n fun l => { l with ctrl := some r, tag := (l.tag + 1) % 256 }).sendPacket n 2 (ctrlBody r)) n :=
    fun r => ((Chip.Lasts.refl c n).modLink n _).trans (Chip.sendPacket_lasts _ n 2 _)
  exact .ite (fun _ => h _) fun _ => (h _).setF (linkPassing_low (Or.inr (Or.inl rfl)))

/-- The status of an access that ends. -/
theorem Chip.Lasts.hregStat {c t : Chip} (h : c.Lasts t n) (code : Nat) :
    c.Lasts (((t.setF (F.hregStatBusy n) 0).setF (F.hregStatDone n) 1).setF (F.hregStatCode n) code) n :=
  ((h.setF (linkPassing_low (Or.inr (Or.inl rfl)))).setF (linkPassing_low (Or.inr (Or.inl rfl)))).setF
    (linkPassing_low (Or.inr (Or.inl rfl)))

theorem Chip.ctrlEnd_lasts (code : Nat) (data : Option Nat) : c.Lasts (c.ctrlEnd n code data) n := by
  unfold Chip.ctrlEnd
  split
  · exact .refl c n
  · have h := (Chip.Lasts.refl c n).modLink n fun l => { l with ctrl := none }
    dsimp only
    split
    on_goal 1 => refine Chip.Lasts.trans (Chip.Lasts.modLink ?_ n _) (Chip.ctrlStart_lasts _ _)
    all_goals
      refine .ite (fun _ => h.modLink n _) fun _ => ?_
      split
      · exact .ite (fun _ => h.hregStat code) fun _ => (h.hregStat code).setF (linkPassing_low (Or.inr (Or.inr rfl)))
      · exact h.hregStat code

theorem Chip.ctrlDrop_lasts : c.Lasts (c.ctrlDrop n) n := by
  unfold Chip.ctrlDrop
  refine Chip.Lasts.trans ?_ (Chip.ctrlEnd_lasts _ _ _)
  split
  · exact ((Chip.Lasts.refl c n).modLink n _).hregStat 5
  · exact .refl c n

/-- A SWAP that ends without success, before its registers show it: ABORT leaves, NEW goes to OFF, OLD is in use (R116). -/
def Chip.swapDropped (c : Chip) (n : Nat) (w : Swap) (reason : Nat) (send : Bool) : Chip :=
  (((if send then c.sendSwap n 7 { w with reason := reason } 0 else c).modLink n fun l => { l with
    swap := none, lastSwap := some w }).laneOff n w.new).modLane n w.old fun l => { l with left := false }

theorem Chip.swapFail_some {c : Chip} {w : Swap} (h : (c.link n).swap = some w) (result reason : Nat) (send : Bool) :
    c.swapFail n result reason send = (((((c.swapDropped n w reason send).setF (F.swapStatBusy n) 0).setF (F.swapStatStep n) 0).setF
      (F.swapStatResult n) result).ev (F.linkEvtSwapFail n)).report 0x06 (laneInst n w.new) := by
  rw [Chip.swapFail, h]
  rfl

theorem Chip.swapDropped_lasts (hn : n < 9) (w : Swap) (reason : Nat) (send : Bool) :
    c.Lasts (c.swapDropped n w reason send) n := by
  have hsent : c.Lasts (if send then c.sendSwap n 7 { w with reason := reason } 0 else c) n :=
    .ite (fun _ => c.sendPacket_lasts n 5 _) fun _ => .refl c n
  have hlane := (hsent.modLink n fun l => { l with swap := none, lastSwap := some w }).trans (Chip.laneOff_lasts _ hn w.new)
  exact hlane.same rfl (List.prefix_refl _)

theorem Chip.swapFail_lasts (hn : n < 9) (result reason : Nat) (send : Bool) : c.Lasts (c.swapFail n result reason send) n := by
  cases h : (c.link n).swap with
  | none =>
    rw [Chip.swapFail, h]
    exact .refl c n
  | some w =>
    have hstat : ∀ {x : Fld}, x.addr = R.swapStat n → linkPassing n x := fun h => linkPassing_low (Or.inl h)
    rw [Chip.swapFail_some h]
    exact (((((c.swapDropped_lasts hn w reason send).setF (hstat rfl)).setF (hstat rfl)).setF (hstat rfl)).ev
      (x := F.linkEvtSwapFail n) (by
        simp only [linkPassing, F.linkEvtSwapFail, R.linkEvt, R.linkState, R.lineCnt]; omega)).report _ _

theorem Chip.linkPendingEnds_lasts (hn : n < 9) : c.Lasts (c.linkPendingEnds n) n := by
  unfold Chip.linkPendingEnds Chip.when
  refine (c.swapFail_lasts hn 5 8 true).trans ?_
  exact .ite (fun _ => Chip.ctrlDrop_lasts _) fun _ => .refl _ n

/-! ### SEEKING and DISABLED (R102, R103) -/

theorem Chip.linkGo_lasts (st : Nat) : c.Lasts (c.linkGo n st) n := (Chip.Lasts.refl c n).setF (by
  simp only [linkPassing, F.linkStateState, R.linkState, R.linkEvt, R.lineCnt]; omega)

/-- What a link that goes to DISABLED does before its lanes lose power: work that is pending ends, the block leaves, the port
is lost. -/
def Chip.linkLeaves (c : Chip) (n : Nat) (send : Bool) : Chip :=
  let d := c.linkPendingEnds n
  let d := if send then ((d.sendBlock n (mkBlock 0x6A false [])).stopRounds n).trigsLeave n else d
  if c.linkSt n = lkActive then d.portLost n else d

theorem Chip.portLost_if_lasts (hn : n < 9) (p : Prop) [Decidable p] : c.Lasts (if p then c.portLost n else c) n :=
  .ite (fun _ => c.portLost_lasts hn) fun _ => .refl c n

/-- The block that says so is sent in the device in which the pending work has ended. -/
theorem Chip.linkLeaves_sent (hn : n < 9) :
    ((c.linkPendingEnds n).sendBlock n (mkBlock 0x6A false [])).Lasts (c.linkLeaves n true) n := by
  have h := (((c.linkPendingEnds n).sendBlock n (mkBlock 0x6A false [])).stopRounds_lasts (n := n)).trans
    (Chip.trigsLeave_lasts _)
  exact h.trans (Chip.portLost_if_lasts _ hn _)

theorem Chip.linkLeaves_lasts (hn : n < 9) (send : Bool) : c.Lasts (c.linkLeaves n send) n := by
  cases send with
  | true => exact ((c.linkPendingEnds_lasts hn).trans (Chip.sendBlock_lasts _ _)).trans (c.linkLeaves_sent hn)
  | false => exact (c.linkPendingEnds_lasts hn).trans (Chip.portLost_if_lasts _ hn _)

theorem Chip.linkDown_eq (send : Bool) : ∃ g, c.linkDown n send
    = ((((c.linkLeaves n send).allLanesOff n).rxClear n).linkGo n lkDisabled).modLink n g := ⟨_, rfl⟩

theorem Chip.linkDown_after (hn : n < 9) (send : Bool) : (c.linkLeaves n send).Lasts (c.linkDown n send) n := by
  obtain ⟨g, h⟩ := c.linkDown_eq (n := n) send
  rw [h]
  exact (((Chip.allLanesOff_lasts _ hn).modLink n _).trans (Chip.linkGo_lasts _ _)).modLink n g

theorem Chip.linkDown_lasts (hn : n < 9) (send : Bool) : c.Lasts (c.linkDown n send) n :=
  (c.linkLeaves_lasts hn send).trans (c.linkDown_after hn send)

theorem Chip.linkDown_linkSt (send : Bool) : (c.linkDown n send).linkSt n = lkDisabled := by
  obtain ⟨g, h⟩ := c.linkDown_eq (n := n) send
  rw [h, Chip.modLink_linkSt, Chip.linkSt_linkGo _ (by decide)]

theorem Chip.linkDown_block (hn : n < 9) : .block n (mkBlock 0x6A false []) ∈ (c.linkDown n true).out := by
  refine ((c.linkLeaves_sent hn).trans (c.linkDown_after hn true)).sent.subset ?_
  exact List.mem_append_right _ (List.mem_singleton_self _)

/-- SEEKING, before the registers show how it was entered. -/
def Chip.seekWaits (c : Chip) (n : Nat) : Chip :=
  let d := c.linkPendingEnds n
  let d := if c.linkSt n = lkActive then d.portLost n else d
  (((d.lanesWait n).rxClear n).linkGo n lkSeeking).modLink n fun l => { l with cfgStep := 0, pcs := none, txq := [], fromSeek := false }

/-- An entry that is no further attempt is an event, and a report where the link is expected. -/
def Chip.seekEntered (c : Chip) (n : Nat) : Chip :=
  let d := (c.setF (F.linkStateAttempts n) 0).ev (F.linkEvtSeek n)
  if d.fb (F.linkCtrlExpected n) then d.report 0x04 n else d

theorem Chip.seek_eq (h : (c.link n).draining = false) : ∃ v, c.seek n =
    if (c.link n).fromSeek then (c.seekWaits n).setF (F.linkStateBackoffMs n) v else (c.seekWaits n).seekEntered n := by
  unfold Chip.seek
  rw [h, if_neg Bool.false_ne_true]
  exact ⟨_, rfl⟩

theorem Chip.seekWaits_lasts (hn : n < 9) : c.Lasts (c.seekWaits n) n := by
  have hrest := ((c.linkPendingEnds_lasts hn).trans (Chip.portLost_if_lasts _ hn (c.linkSt n = lkActive))).trans
    (Chip.lanesWait_lasts _ hn)
  exact ((hrest.modLink n _).trans (Chip.linkGo_lasts _ lkSeeking)).modLink n _

/-- The state, the back-off and the attempts lie beside what lasts. -/
theorem linkPassing_state {x : Fld} (h : x.addr = R.linkState n) (hx : x.lo + x.width ≤ 28) : linkPassing n x := by
  simp only [linkPassing, R.linkState, R.linkEvt, R.lineCnt] at h ⊢
  omega

theorem Chip.seekEntered_lasts : c.Lasts (c.seekEntered n) n := by
  have h := ((Chip.Lasts.refl c n).setF (x := F.linkStateAttempts n) (v := 0) (linkPassing_state rfl (by
    simp [F.linkStateAttempts]))).ev (x := F.linkEvtSeek n) (by
      simp only [linkPassing, F.linkEvtSeek, R.linkEvt, R.linkState, R.lineCnt]; omega)
  exact .ite (fun _ => h.report _ _) fun _ => h

theorem Chip.seek_lasts (hn : n < 9) : c.Lasts (c.seek n) n := by
  cases h : (c.link n).draining with
  | true =>
    rw [Chip.seek, h, if_pos rfl]
    exact c.linkDown_lasts hn true
  | false =>
    obtain ⟨v, hv⟩ := c.seek_eq h
    rw [hv]
    exact .ite (fun _ => (c.seekWaits_lasts hn).setF (linkPassing_state rfl (by simp [F.linkStateBackoffMs])))
      fun _ => (c.seekWaits_lasts hn).trans (Chip.seekEntered_lasts _)

theorem Chip.report_linkSt (src inst : Nat) : (c.report src inst).linkSt n = c.linkSt n := rfl

theorem Chip.seekEntered_linkSt : (c.seekEntered n).linkSt n = c.linkSt n := by
  have h : ((c.setF (F.linkStateAttempts n) 0).ev (F.linkEvtSeek n)).linkSt n = c.linkSt n := by
    rw [Chip.ev_def, Chip.linkSt_setF _ _ (Or.inl (by simp [F.linkEvtSeek, R.linkEvt, R.linkState])),
      Chip.linkSt_setF _ _ (Or.inr (by simp [F.linkStateAttempts]))]
  unfold Chip.seekEntered
  generalize (c.setF (F.linkStateAttempts n) 0).ev (F.linkEvtSeek n) = d at h ⊢
  dsimp only
  split
  · exact (d.report_linkSt _ _).trans h
  · exact h

theorem Chip.seekWaits_eq : ∃ (d : Chip) (g : LinkS → LinkS), c.seekWaits n = (d.linkGo n lkSeeking).modLink n g := ⟨_, _, rfl⟩

theorem Chip.seekWaits_linkSt : (c.seekWaits n).linkSt n = lkSeeking := by
  obtain ⟨d, g, h⟩ := c.seekWaits_eq (n := n)
  rw [h, Chip.modLink_linkSt, Chip.linkSt_linkGo _ (by decide)]

theorem Chip.seek_linkSt (h : (c.link n).draining = false) : (c.seek n).linkSt n = lkSeeking := by
  obtain ⟨v, hv⟩ := c.seek_eq h
  have hst := c.seekWaits_linkSt (n := n)
  rw [hv]
  generalize c.seekWaits n = d at hst ⊢
  split
  · rw [Chip.linkSt_setF _ _ (Or.inr (by simp [F.linkStateBackoffMs])), hst]
  · rw [Chip.seekEntered_linkSt, hst]

/-- A link that drains goes to DISABLED instead. -/
theorem Chip.seek_draining (h : (c.link n).draining = true) : c.seek n = c.linkDown n true := by
  rw [Chip.seek, h, if_pos rfl]

theorem Chip.drainEnd_lasts (hn : n < 9) : c.Lasts (c.drainEnd n) n :=
  .ite (fun _ => c.linkDown_lasts hn true) fun _ => .refl c n

end Sys2Proof.Machine
end

section
/-! The phases of a link's training, their time-outs, the loss of the partner, and the retry (R102, R103, R107). -/

namespace Sys2Proof.Machine

section Training
variable {c : Chip} {n : Nat}

/-- A device that has settled shows the fields of a link block as its effect left them. -/
theorem Chip.Alike.linkSt {e d : Chip} (h : e.Alike d []) (n : Nat) : d.linkSt n = e.linkSt n :=
  h.f_reg (by simp) (linkReg_ge n 4)

theorem linkLasting_ge {x : Fld} (h : linkLasting n x) : 0x10000 ≤ x.addr := by
  simp only [linkLasting, R.linkState, R.linkEvt, R.lineCnt] at h
  omega

/-- A loss that is noted in an event of the link and ends in SEEKING. -/
theorem Chip.seek_notes (hn : n < 9) (h : (c.link n).draining = false) {x : Fld} (hx : linkLasting n x) (hf : c.f x = 1) :
    (c.seek n).linkSt n = lkSeeking ∧ (c.seek n).f x = 1 :=
  ⟨c.seek_linkSt h, ((c.seek_lasts hn).fields x hx).trans hf⟩

theorem linkLasting_evt {x : Fld} (h : x.addr = R.linkEvt n) (hl : 2 ≤ x.lo) (hw : x.lo + x.width ≤ 7) : linkLasting n x :=
  Or.inr (Or.inl ⟨h, hl, hw⟩)

theorem Chip.phaseFail_notes {phase : Nat} (hn : n < 9) (h : (c.link n).draining = false) (hp : phase < 16) :
    (c.phaseFail n phase).linkSt n = lkSeeking ∧ (c.phaseFail n phase).f (F.linkStateLastFailPhase n) = phase
      ∧ (c.phaseFail n phase).f (F.linkEvtTrainTo n) = 1 := by
  let d := (c.ev (F.linkEvtTrainTo n)).setF (F.linkStateLastFailPhase n) phase
  have hphase : d.f (F.linkStateLastFailPhase n) = phase :=
    (Chip.f_setF_self _ _ (by simp [F.linkStateLastFailPhase])).trans (Nat.mod_eq_of_lt (by simpa [F.linkStateLastFailPhase] using hp))
  have hev : d.f (F.linkEvtTrainTo n) = 1 :=
    (Chip.f_setF_ne _ _ (by simp [F.linkEvtTrainTo, F.linkStateLastFailPhase, R.linkEvt, R.linkState])).trans
      (Chip.f_ev_self _ (by simp [F.linkEvtTrainTo]) (by simp [F.linkEvtTrainTo]))
  obtain ⟨hst, hto⟩ := Chip.seek_notes (c := d) hn h (linkLasting_evt rfl (by simp [F.linkEvtTrainTo])
    (by simp [F.linkEvtTrainTo])) hev
  exact ⟨hst, ((Chip.seek_lasts d hn).fields _ (Or.inl ⟨rfl, by simp [F.linkStateLastFailPhase]⟩)).trans hphase, hto⟩

/-! ### DETECT (R102) -/

/-- A mapped lane that begins to train leaves the state of its link. -/
theorem Chip.trainStart_linkState (hn : n < 9) (m : Nat) {x : Fld} (hx : x.addr = R.linkState n) :
    (c.trainStart n m).f x = c.f x := by
  refine (c.trainStart_keeps n m).f (fun h => ?_) (reg_ne_scp (hx ▸ linkReg_ge n 4)).1
  have := laneRegs_ge hn h
  simp only [R.linkState] at hx
  omega

theorem Chip.each_f {α : Type} {g : Chip → α → Chip} {x : Fld} (hg : ∀ (u : Chip) a, (g u a).f x = u.f x) (l : List α) :
    (c.each l g).f x = c.f x := foldl_keeps (fun u => u.f x) hg l c

theorem Chip.showFrames_regs : (c.showFrames n).regs = c.regs :=
  foldl_keeps (f := fun (c : Chip) m => c.showFrame n m) Chip.regs (fun _ _ => rfl) _ c

theorem Chip.showFrames_mem : (c.showFrames n).mem = c.mem :=
  foldl_keeps (f := fun (c : Chip) m => c.showFrame n m) Chip.mem (fun _ _ => rfl) _ c

/-- The link is in DETECT, with the other fields of its state as they were. -/
theorem Chip.detectStart_notes (hn : n < 9) :
    (c.detectStart n).linkSt n = lkDetect
      ∧ ∀ x, x.addr = R.linkState n → 4 ≤ x.lo → (c.detectStart n).f x = c.f x := by
  obtain ⟨g, hg⟩ : ∃ g : LinkS → LinkS, c.detectStart n
      = (((c.eachMapped n fun c m => c.trainStart n m).modLink n g).linkGo n lkDetect).showFrames n := ⟨_, rfl⟩
  refine ⟨?_, fun x hx hlo => ?_⟩
  · rw [hg, Chip.linkSt_congr Chip.showFrames_regs, Chip.linkSt_linkGo _ (by decide)]
  · rw [hg, Chip.f_congr Chip.showFrames_regs, Chip.linkGo, Chip.f_setF_disjoint _ _ (Or.inr (by simp [F.linkStateState]; omega))]
    exact Chip.each_f (fun u m => Chip.trainStart_linkState hn m hx) _

theorem Chip.retry_notes (hn : n < 9) (h : c.linkSt n = lkSeeking) : (c.retry n).linkSt n = lkDetect
    ∧ (c.retry n).f (F.linkStateAttempts n) = satAdd (F.linkStateAttempts n).width (c.f (F.linkStateAttempts n)) 1 := by
  obtain ⟨hst, hkeep⟩ := (c.inc (F.linkStateAttempts n)).detectStart_notes hn
  rw [Chip.retry, if_pos h]
  exact ⟨hst, (hkeep _ rfl (by simp [F.linkStateAttempts])).trans (Chip.f_inc_self _ (by simp [F.linkStateAttempts]))⟩

/-- Every mapped lane sends a frame. -/
theorem Chip.showFrames_each {m : Nat} (h : m ∈ c.mapped n) : ∃ x, .trainFrame n m x ∈ (c.showFrames n).out := by
  unfold Chip.showFrames Chip.eachMapped
  generalize c.mapped n = l at h
  induction l generalizing c with
  | nil => cases h
  | cons k xs ih =>
    rcases List.mem_cons.1 h with rfl | h
    · refine ⟨c.trainWord n m, Chip.each_shows (c := c.showFrame n m) (fun u k hu => ?_) xs ?_⟩
      · rw [Chip.showFrame, Chip.emit_out]
        exact List.mem_append_left _ hu
      · rw [Chip.showFrame, Chip.emit_out]
        exact List.mem_append_right _ (List.mem_singleton_self _)
    · exact ih (c := c.showFrame n k) h

theorem Chip.linkGo_mapped (st : Nat) : (c.linkGo n st).mapped n = c.mapped n := by
  unfold Chip.mapped
  refine List.map_congr_left fun k _ => Chip.f_setF_ne _ _ ?_
  simp only [F.laneMapLog, F.linkStateState, R.laneMap, R.linkState]
  omega

/-- Signal on every mapped lane ends DETECT: WAKE, with the frames of that phase. -/
theorem Chip.detectSignal_notes (h : c.linkSt n = lkDetect) (hsig : (c.allMapped n fun m => c.fb (F.lnStateSigDet n m)) = true) :
    (c.detectSignal n).linkSt n = lkWake ∧ (∀ m ∈ c.mapped n, ∃ x, .trainFrame n m x ∈ (c.detectSignal n).out)
      ∧ c.Keeps (c.detectSignal n) [R.linkState n] := by
  rw [Chip.detectSignal, if_pos ⟨h, hsig⟩]
  refine ⟨?_, fun m hm => Chip.showFrames_each ((Chip.linkGo_mapped lkWake).symm ▸ hm), ?_⟩
  · rw [Chip.linkSt_congr Chip.showFrames_regs, Chip.linkSt_linkGo _ (by decide)]
  · exact ((Chip.Keeps.refl c _).setF (x := F.linkStateState n) (List.mem_singleton_self _)).same Chip.showFrames_regs
      Chip.showFrames_mem

end Training

/-! ### The commands -/

section Commands
variable {i : Instr} {s : State} {n : Nat}

/-- A phase that times out. -/
theorem Does.of_phaseTimeout {st phase : Nat} (h : exec i s = runIn s 4 (n < 9) fun c => c.phaseTimeout n st phase) (hn : n < 9)
    (hr : s.chip.domainRuns 4 = true) (hst : s.chip.linkSt n = st) (hp : phase < 16) (hs : (s.chip.link n).draining = false) :
    Does i s fun t => t.linkSt n = lkSeeking ∧ t.f (F.linkStateLastFailPhase n) = phase ∧ t.f (F.linkEvtTrainTo n) = 1 := by
  refine Does.of_runIn _ h hr (by simpa using hn) rfl fun d hd _ _ => ?_
  obtain ⟨h1, h2, h3⟩ := Chip.phaseFail_notes (c := s.fresh) hn hs hp
  rw [Chip.phaseTimeout, if_pos (show s.fresh.linkSt n = st from hst)] at hd
  exact ⟨(hd.linkSt n).trans h1, (hd.f_reg (by simp) (linkReg_ge n 4)).trans h2, (hd.f_reg (by simp) (linkReg_ge n 8)).trans h3⟩

/-- A loss of the partner that event `x` notes. -/
theorem Does.of_partnerLoss {x : Fld} (f : Chip → Chip) (h : exec i s = runIn s 4 (n < 9) f) (hf : f s.fresh = (s.fresh.ev x).seek n)
    (hn : n < 9) (hr : s.chip.domainRuns 4 = true) (hs : (s.chip.link n).draining = false) (hx : x.addr = R.linkEvt n)
    (hlo : 2 ≤ x.lo) (hw : x.lo + x.width ≤ 7) (hone : 0 < x.width) :
    Does i s fun t => t.linkSt n = lkSeeking ∧ t.f x = 1 := by
  refine Does.of_runIn f h hr (by simpa using hn) hf fun d hd _ _ => ?_
  have hlast : linkLasting n x := linkLasting_evt hx hlo hw
  obtain ⟨h1, h2⟩ := Chip.seek_notes (c := s.fresh.ev x) hn hs hlast (Chip.f_ev_self _ (by omega) hone)
  exact ⟨(hd.linkSt n).trans h1, (hd.f_reg (by simp) (linkLasting_ge hlast)).trans h2⟩

/-- The loss of HB on a link that drains: the event, and DISABLED. -/
theorem hbTimeout_draining (hn : n < 9) (hr : s.chip.domainRuns 4 = true) (hs : (s.chip.link n).draining = true)
    (hst : s.chip.linkSt n = lkActive) :
    Does (.linkHbTimeout n) s fun t => t.linkSt n = lkDisabled ∧ t.f (F.linkEvtHbLost n) = 1
      ∧ .block n (mkBlock 0x6A false []) ∈ t.out := by
  refine Does.of_runIn (fun c => c.hbTimeout n) rfl hr (by simpa using hn) rfl fun d hd ho _ => ?_
  have heq : s.fresh.hbTimeout n = (s.fresh.ev (F.linkEvtHbLost n)).linkDown n true := by
    rw [Chip.hbTimeout, if_pos (show s.fresh.linkSt n = lkActive from hst), Chip.seek_draining (s.fresh.ev (F.linkEvtHbLost n)) hs]
  rw [heq] at hd ho
  refine ⟨(hd.linkSt n).trans (Chip.linkDown_linkSt _ _), ?_, ho ▸ Chip.linkDown_block _ hn⟩
  refine (hd.f_reg (by simp) (linkReg_ge n 8)).trans ((Chip.linkDown_lasts _ hn true).fields _ ?_ |>.trans ?_)
  · exact linkLasting_evt rfl (by simp [F.linkEvtHbLost]) (by simp [F.linkEvtHbLost])
  · exact Chip.f_ev_self _ (by simp [F.linkEvtHbLost]) (by simp [F.linkEvtHbLost])

end Commands

/-- Settles O10: each time-out and each loss is noted, then SEEKING, which leaves the note. -/
theorem linkTraining : Obligations.LinkTraining := by
  intro s n hn hr
  refine ⟨fun hst hsig => ?_, fun hst hs => Does.of_phaseTimeout rfl hn hr hst (by decide) hs,
    fun hst hs => Does.of_phaseTimeout rfl hn hr hst (by decide) hs, fun hst hs => Does.of_phaseTimeout rfl hn hr hst (by decide) hs,
    fun hst hs => Does.of_phaseTimeout rfl hn hr hst (by decide) hs, fun hst hs => Does.of_phaseTimeout rfl hn hr hst (by decide) hs,
    fun hst hs => ?_, fun h1 h2 hsig hs => ?_, fun hexit hs => ?_, fun hst => ?_, fun hs hst => hbTimeout_draining hn hr hs hst⟩
  case refine_1 =>
    refine Does.of_runIn (fun c => c.detectSignal n) rfl hr (by simpa using hn) rfl fun d hd ho _ => ?_
    obtain ⟨h1, h2, h3⟩ := Chip.detectSignal_notes (c := s.fresh) hst hsig
    exact ⟨(hd.linkSt n).trans h1, fun m hm => ho ▸ h2 m hm, ((s.keeps_fresh _).trans h3).settled hd⟩
  case refine_2 =>
    exact Does.of_partnerLoss (fun c => c.hbTimeout n) rfl (if_pos hst) hn hr hs rfl (by simp [F.linkEvtHbLost])
      (by simp [F.linkEvtHbLost]) (by simp [F.linkEvtHbLost])
  case refine_3 =>
    exact Does.of_partnerLoss (fun c => c.unplug n) rfl (if_pos ⟨h1, h2, hsig⟩) hn hr hs rfl (by simp [F.linkEvtUnplug])
      (by simp [F.linkEvtUnplug]) (by simp [F.linkEvtUnplug])
  case refine_4 =>
    exact Does.of_partnerLoss (fun c => c.idleExitTimeout n) rfl (if_pos hexit) hn hr hs rfl (by simp [F.linkEvtUnplug])
      (by simp [F.linkEvtUnplug]) (by simp [F.linkEvtUnplug])
  case refine_5 =>
    refine Does.of_runIn (fun c => c.retry n) rfl hr (by simpa using hn) rfl fun d hd _ _ => ?_
    obtain ⟨h1, h2⟩ := Chip.retry_notes (c := s.fresh) hn hst
    exact ⟨(hd.linkSt n).trans h1, (hd.f_reg (by simp) (linkReg_ge n 4)).trans h2⟩

end Sys2Proof.Machine
end

section
/-! What a link sends on its timers (R95 to R97, R101, R109, R110). -/

namespace Sys2Proof.Machine

/-! ### An operation that sends and changes no register and no memory -/

/-- `d` is `c` but for the data beside registers and memories, and one thing more that is sent. -/
structure Chip.Sends (c d : Chip) (o : Out) : Prop where
  regs : d.regs = c.regs
  mem : d.mem = c.mem
  out : d.out = c.out ++ [o]

section Sends
variable {c d u : Chip} {o : Out}

theorem Chip.Sends.same (h : c.Sends d o) (hr : u.regs = d.regs) (hm : u.mem = d.mem) (ho : u.out = d.out) : c.Sends u o :=
  ⟨hr.trans h.regs, hm.trans h.mem, ho.trans h.out⟩

theorem Chip.Sends.after (h : d.Sends u o) (hr : d.regs = c.regs) (hm : d.mem = c.mem) (ho : d.out = c.out) : c.Sends u o :=
  ⟨h.regs.trans hr, h.mem.trans hm, h.out.trans (ho ▸ rfl)⟩

variable (c)

theorem Chip.sendPacket_sends (n typ : Nat) (body : List Byte) : c.Sends (c.sendPacket n typ body) (.packet n (mkPacket typ body)) :=
  ⟨rfl, rfl, rfl⟩

theorem Chip.sendHb_sends (n : Nat) : ∃ b, c.Sends (c.sendHb n) (.packet n (mkPacket 4 b)) := ⟨_, rfl, rfl, rfl⟩

theorem Chip.sendTime_sends (n : Nat) : ∃ b, c.Sends (c.sendTime n) (.packet n (mkPacket 3 b)) := ⟨_, rfl, rfl, rfl⟩

theorem Chip.sendCap_sends (n : Nat) : ∃ b, c.Sends (c.sendCap n) (.packet n (mkPacket 6 b)) := ⟨_, rfl, rfl, rfl⟩

theorem Chip.sendSwap_sends (n op : Nat) (w : Swap) (am : Nat) : ∃ b, c.Sends (c.sendSwap n op w am) (.packet n (mkPacket 5 b)) :=
  ⟨_, rfl, rfl, rfl⟩

/-- An event of a link whose whole effect beside its data is what it sends. -/
theorem Does.of_sends {i : Instr} {s : State} {k : Nat} {ok : Bool} (f : Chip → Chip) (h : exec i s = runIn s k ok f)
    (hk : s.chip.domainRuns k = true) (hok : ok = true) (hf : s.fresh.Sends (f s.fresh) o) :
    Does i s fun t => t.out = [o] ∧ s.chip.Keeps t [] :=
  Does.of_runIn f h hk hok rfl fun _ hd ho _ => ⟨ho.trans hf.out, (Chip.Keeps.of_same hf.regs hf.mem).settled hd⟩

/-- The same, for a packet of which the body is not said. -/
theorem Does.of_sendsPacket {i : Instr} {s : State} {k n typ : Nat} {ok : Bool} (f : Chip → Chip) (h : exec i s = runIn s k ok f)
    (hk : s.chip.domainRuns k = true) (hok : ok = true) (hf : ∃ b, s.fresh.Sends (f s.fresh) (.packet n (mkPacket typ b))) :
    Does i s fun t => (∃ b, t.out = [.packet n (mkPacket typ b)]) ∧ s.chip.Keeps t [] := by
  obtain ⟨b, hb⟩ := hf
  exact (Does.of_sends f h hk hok hb).mono fun t ⟨ho, hkeep⟩ => ⟨⟨b, ho⟩, hkeep⟩

end Sends

/-! ### The end of a CTRL access (R96, R117) -/

section Ctrl
variable (c : Chip) {n : Nat}

/-- An access that starts shows its TAG; one of the image shows nothing. -/
theorem Chip.ctrlStart_f (r : CtrlReq) {x : Fld} (hx : x.addr ≠ R.hregStat n ∨ 16 ≤ x.lo ∨ x.lo + x.width ≤ 8) :
    (c.ctrlStart n r).f x = c.f x := by
  unfold Chip.ctrlStart
  dsimp only
  split
  · rfl
  · exact Chip.f_setF_disjoint _ _ (by simpa [F.hregStatTag] using hx)

theorem Chip.imageWrite_f (x : Fld) : (c.imageWrite n).f x = c.f x := by
  unfold Chip.imageWrite
  split
  · split <;> rfl
  · rfl

/-- The status of an access of the mailbox that has ended with `code`. -/
def Chip.AccessEnded (d : Chip) (n code : Nat) : Prop :=
  d.f (F.hregStatBusy n) = 0 ∧ d.f (F.hregStatDone n) = 1 ∧ d.f (F.hregStatCode n) = code

variable {c}

theorem Chip.AccessEnded.congr {d e : Chip} {code : Nat} (h : d.AccessEnded n code)
    (hf : ∀ x, x.addr = R.hregStat n → 16 ≤ x.lo ∨ x.lo + x.width ≤ 8 → e.f x = d.f x) : e.AccessEnded n code := by
  obtain ⟨hb, hd, hc⟩ := h
  exact ⟨(hf _ rfl (by simp [F.hregStatBusy])).trans hb, (hf _ rfl (by simp [F.hregStatDone])).trans hd,
    (hf _ rfl (by simp [F.hregStatCode])).trans hc⟩

theorem Chip.accessEnded {code : Nat} (hc : code < 256) :
    (((c.setF (F.hregStatBusy n) 0).setF (F.hregStatDone n) 1).setF (F.hregStatCode n) code).AccessEnded n code := by
  refine ⟨?_, ?_, ?_⟩
  · rw [Chip.f_setF_disjoint _ _ (by simp [F.hregStatBusy, F.hregStatCode]),
      Chip.f_setF_disjoint _ _ (by simp [F.hregStatBusy, F.hregStatDone]), Chip.f_setF_self _ _ (by simp [F.hregStatBusy]),
      Nat.zero_mod]
  · rw [Chip.f_setF_disjoint _ _ (by simp [F.hregStatDone, F.hregStatCode]), Chip.f_setF_self _ _ (by simp [F.hregStatDone])]
    rfl
  · rw [Chip.f_setF_self _ _ (by simp [F.hregStatCode])]
    exact Nat.mod_eq_of_lt hc

theorem hregData_ne (n : Nat) : R.hregStat n ≠ R.hregData n := by
  simp only [R.hregStat, R.hregData]
  omega

/-- The mailbox's own access ends with its status, whatever access of the image or the mailbox comes next. -/
theorem Chip.ctrlEnd_accessEnded {r : CtrlReq} (h : (c.link n).ctrl = some r) (hi : r.image = false) {code : Nat} (hc : code < 256)
    (data : Option Nat) : (c.ctrlEnd n code data).AccessEnded n code := by
  have hans := (c.modLink n fun l => { l with ctrl := none }).accessEnded (n := n) hc
  rw [Chip.ctrlEnd, h]
  dsimp only
  rw [hi, if_neg Bool.false_ne_true]
  generalize ((((c.modLink n fun l => { l with ctrl := none }).setF (F.hregStatBusy n) 0).setF (F.hregStatDone n) 1).setF
    (F.hregStatCode n) code) = d at hans ⊢
  have hnext : ∀ (u : Chip) (w : CtrlReq), u.AccessEnded n code →
      ((u.modLink n fun l => { l with mailbox := none }).ctrlStart n w).AccessEnded n code := fun u w hu =>
    hu.congr fun x _ hx => Chip.ctrlStart_f _ _ (Or.inr hx)
  cases data with
  | none =>
    dsimp only
    split
    · exact hnext d _ hans
    · exact hans
  | some v =>
    have hdata : (if r.write = true ∨ code ≠ 0 then d else d.setF (F.hregDataData n) v).AccessEnded n code := by
      split
      · exact hans
      · exact hans.congr fun x hx _ => Chip.f_setF_ne _ _ (by rw [hx]; exact hregData_ne n)
    dsimp only
    generalize (if r.write = true ∨ code ≠ 0 then d else d.setF (F.hregDataData n) v) = u at hdata ⊢
    split
    · exact hnext u _ hdata
    · exact hdata

/-- A command whose effect ends an access so shows the status. -/
theorem Does.of_accessEnded {i : Instr} {s : State} {k code : Nat} {ok : Bool} (f : Chip → Chip) (h : exec i s = runIn s k ok f)
    (hk : s.chip.domainRuns k = true) (hok : ok = true) (hf : (f s.fresh).AccessEnded n code) :
    Does i s fun t => t.f (F.hregStatBusy n) = 0 ∧ t.f (F.hregStatDone n) = 1 ∧ t.f (F.hregStatCode n) = code :=
  Does.of_runIn f h hk hok rfl fun d hd _ _ => hf.congr fun x hx _ => hd.f_reg (by simp) (hx ▸ linkReg_ge n 0x2C)

/-- The next write of the image, where the configuration has come to it. -/
theorem Chip.AccessEnded.imageWrite {d : Chip} {code : Nat} (h : d.AccessEnded n code) (p : Prop) [Decidable p] :
    (if p then d.imageWrite n else d).AccessEnded n code := by
  split
  · exact h.congr fun x _ _ => d.imageWrite_f x
  · exact h

end Ctrl

/-! ### The timers -/

section Timers
variable {s : State} {n : Nat}

theorem Chip.ctrlTimeout_resends {c : Chip} {r : CtrlReq} (h : (c.link n).ctrl = some r) (hr : r.resends < 3) :
    c.Sends (c.ctrlTimeout n) (.packet n (mkPacket 2 (ctrlBody r))) := by
  rw [Chip.ctrlTimeout, h]
  dsimp only
  rw [if_pos hr]
  exact (Chip.sendPacket_sends _ n 2 _).after rfl rfl rfl

theorem Chip.ctrlTimeout_accessEnded {c : Chip} {r : CtrlReq} (h : (c.link n).ctrl = some r) (hr : 3 ≤ r.resends) (hi : r.image = false) :
    (c.ctrlTimeout n).AccessEnded n 5 := by
  rw [Chip.ctrlTimeout, h]
  dsimp only
  rw [if_neg (by omega)]
  exact (Chip.ctrlEnd_accessEnded h hi (by decide) none).imageWrite _

theorem Chip.probeSend_sends {c : Chip} (h : c.latMeasuring n = true) (hs : (c.link n).sent < 16) :
    c.Sends (c.probeSend n) (.block n (mkBlock 0x33 true (natBytesBE 1 (c.link n).pid))) := by
  rw [Chip.probeSend, h, if_neg (by simp), if_pos hs]
  exact ⟨rfl, rfl, rfl⟩

theorem Chip.trigDeparts_sends {c : Chip} {g : PendTrig} {rest : List PendTrig} (h : (c.link n).trigs = g :: rest)
    (hst : c.linkSt n = lkActive) : c.Sends (c.trigDeparts n) (.block n (trigBlock g)) := by
  rw [Chip.trigDeparts, h]
  dsimp only
  rw [if_pos (show (c.modLink n fun l => { l with trigs := rest }).linkSt n = lkActive from hst)]
  exact ⟨rfl, rfl, rfl⟩

theorem Chip.trigDeparts_late {c : Chip} {g : PendTrig} {rest : List PendTrig} (h : (c.link n).trigs = g :: rest)
    (hst : c.linkSt n ≠ lkActive) : c.Counts (c.trigDeparts n) (F.trigLateCount n) [] := by
  rw [Chip.trigDeparts, h]
  dsimp only
  rw [if_neg (show ¬(c.modLink n fun l => { l with trigs := rest }).linkSt n = lkActive from hst)]
  have hcount : c.Counts ((c.modLink n fun l => { l with trigs := rest }).inc (F.trigLateCount n)) (F.trigLateCount n) [] :=
    Chip.Keeps.counts (Chip.Keeps.of_same rfl rfl) rfl (by simp [F.trigLateCount])
  exact hcount.same rfl rfl

theorem latencyProbePeriod_starts (hr : s.chip.domainRuns 4 = true) (hn : n < 8) (hst : s.chip.linkSt n = lkActive)
    (hrun : (s.chip.link n).latRun = false) (hl : n < s.chip.links.length) :
    Does (.latencyProbePeriod n) s fun t => (t.link n).latRun = true ∧ (t.link n).sent = 0 ∧ s.chip.Keeps t [] := by
  have hcond : (decide (n < 8) && s.fresh.linkSt n == lkActive && !(s.fresh.link n).latRun) = true := by
    rw [show s.fresh.linkSt n = lkActive from hst, show (s.fresh.link n).latRun = false from hrun]
    simp [hn]
  refine Does.of_runIn (fun c => c.latPeriod n) rfl hr (by simpa using hn) rfl fun d hd _ _ => ?_
  rw [Chip.latPeriod, Chip.when, if_pos hcond, Chip.latStart] at hd
  have hlink := (Chip.link_congr hd.links n).trans (Chip.link_modLink (c := s.fresh) hl _)
  exact ⟨by rw [hlink], by rw [hlink], Chip.Keeps.settled (t := s.fresh.modLink n _) (Chip.Keeps.of_same rfl rfl) hd⟩

end Timers

/-- Settles O14: most timers change nothing but what the link sends. -/
theorem linkTimers : Obligations.LinkTimers := by
  intro s n hn hr
  refine ⟨fun hst => ?_, fun h8 hst => ?_, fun hst hstep hrole => ?_, fun h8 hlat hsent => ?_, fun h8 g rest hg hst => ?_,
    fun h8 g rest hg hst => ?_, fun h8 r hc hs => ?_, fun h8 r hc hs hi => ?_,
    fun h8 hst hrun hl => latencyProbePeriod_starts hr h8 hst hrun hl⟩
  case refine_1 =>
    have hcond : (s.fresh.linkSt n == lkConfigure || s.fresh.linkSt n == lkActive) = true := by
      rcases hst with h | h <;> simp [show s.fresh.linkSt n = _ from h]
    refine Does.of_sendsPacket (fun c => c.hbTimer n) rfl hr (by simpa using hn) ?_
    rw [Chip.hbTimer, Chip.when, if_pos hcond]
    exact s.fresh.sendHb_sends n
  case refine_2 =>
    refine Does.of_sendsPacket (fun c => c.timeTimer n) rfl hr (by simpa using hn) ?_
    rw [Chip.timeTimer, Chip.when, if_pos (by simp [h8, show s.fresh.linkSt n = _ from hst])]
    exact s.fresh.sendTime_sends n
  case refine_3 =>
    refine Does.of_sendsPacket (fun c => c.capResend n) rfl hr (by simpa using hn) ?_
    rw [Chip.capResend, Chip.when, if_pos (by simp [show s.fresh.linkSt n = _ from hst, show (s.fresh.link n).cfgStep = _ from hstep,
      show s.fresh.headRole n = _ from hrole])]
    exact s.fresh.sendCap_sends n
  case refine_4 => exact Does.of_sends (fun c => c.probeSend n) rfl hr (by simpa using h8) (Chip.probeSend_sends (c := s.fresh) hlat hsent)
  case refine_5 => exact Does.of_sends (fun c => c.trigDeparts n) rfl hr (by simpa using h8) (Chip.trigDeparts_sends (c := s.fresh) hg hst)
  case refine_6 =>
    exact (Does.of_counts (fun c => c.trigDeparts n) rfl hr (by simpa using h8) (by simp only [F.trigLateCount, R.trigLate]; omega)
      (Chip.trigDeparts_late (c := s.fresh) hg hst)).mono fun t h => h.1
  case refine_7 => exact Does.of_sends (fun c => c.ctrlTimeout n) rfl hr (by simpa using h8) (Chip.ctrlTimeout_resends (c := s.fresh) hc hs)
  case refine_8 =>
    exact Does.of_accessEnded (fun c => c.ctrlTimeout n) rfl hr (by simpa using h8) (Chip.ctrlTimeout_accessEnded (c := s.fresh) hc hs hi)

end Sys2Proof.Machine
end

section
/-! Writes of the commands in a link block: the mailbox to a head register (R117), and what of SWAP is written (R114). -/

namespace Sys2Proof.Machine

section Writes
variable (c : Chip) {s : State} {src : Src} {n : Nat} {v : Word}

/-- The effect of a write in a link block below the lanes, but for LINK_CTRL and PL_CMD. -/
theorem Chip.regStore_linkBlock (src : Src) {a : Nat} (v : Word) {r : RegRow} {ix : List Nat} (hr : regAt a = some (r, ix))
    {off : Nat} (ha : a = 0x100000 + n * 0x10000 + off) (hn : n < 9) (h0 : 0 < off) (h4 : off < 0x400) :
    c.regStore src a v = ((c.wr a (r.store (c.rd a) v)).linkWritten n off v, 0) := by
  have h2 : a < 0x1A0000 := by omega
  have hblock : (a - 0x100000) / 0x10000 = n := by omega
  have hoff : a % 0x10000 = off := by omega
  refine c.regStore_link src v hr (by omega) h2 (g := fun d => d.linkWritten n off v) fun d => ?_
  unfold Chip.blockWritten
  iterate 12 rw [if_neg (by omega)]
  rw [if_pos h2]
  dsimp only
  rw [hblock, hoff, if_neg (by omega), if_neg (by omega), if_neg (by omega), if_neg (by omega),
    if_neg (by simp only [R.plCmd]; omega)]

/-- How a performed write of a command in a link block shows. -/
theorem Does.of_linkWrite {i : Instr} {a off m : Nat} {P : Chip → Prop} (hrow : (regAt a).isSome = true)
    (hi : exec i s = runIf s (n < m) fun c => c.writeOp src a v) (hm : n < m) (hn : n < 9)
    (ha : a = 0x100000 + n * 0x10000 + off) (h0 : 0 < off) (h4 : off < 0x400) (hw : s.chip.Allows src a v)
    (hp : ∀ (w : Word) (d : Chip), ((s.fresh.wr a w).linkWritten n off v).Alike d [R.scpSession] →
      d.out = ((s.fresh.wr a w).linkWritten n off v).out ++ [.status 0] → P d) : Does i s P := by
  obtain ⟨⟨r, ix⟩, hr⟩ := Option.isSome_iff_exists.1 hrow
  refine Does.of_writeIf hi (by simpa using hm) hw fun d hd ho => hp (r.store (s.fresh.rd a) v) d ?_ ?_
  · rwa [s.fresh.regStore_linkBlock src v hr ha hn h0 h4] at hd
  · rwa [s.fresh.regStore_linkBlock src v hr ha hn h0 h4] at ho

theorem hregCmd_row : ∀ n < 8, (regAt (R.hregCmd n)).isSome = true := by decide +kernel

theorem swapCmd_row : ∀ n < 9, (regAt (R.swapCmd n)).isSome = true := by decide +kernel

/-! ### The mailbox (R117) -/

/-- Where no access is outstanding the request is sent at once, with the address and the data as they stand. -/
theorem Chip.hregGo_sends (write : Bool) (h : (c.link n).ctrl = none) :
    (c.hregGo n write).f (F.hregStatBusy n) = 1 ∧ (c.hregGo n write).f (F.hregStatDone n) = 0
      ∧ (c.hregGo n write).out = c.out ++ [.packet n (mkPacket 2 (ctrlBody ⟨(c.link n).tag, write, c.f (F.hregAddrAddr n),
        c.f (F.hregDataData n), 0, false⟩))] := by
  let d := (c.setF (F.hregStatBusy n) 1).setF (F.hregStatDone n) 0
  have hfar : ∀ x : Fld, x.addr ≠ R.hregStat n → d.f x = c.f x := fun x hx =>
    (Chip.f_setF_ne _ _ hx).trans (Chip.f_setF_ne _ _ hx)
  have hgo : c.hregGo n write = d.ctrlStart n ⟨0, write, c.f (F.hregAddrAddr n), c.f (F.hregDataData n), 0, false⟩ := by
    rw [← hfar (F.hregAddrAddr n) (by simp only [F.hregAddrAddr, R.hregAddr, R.hregStat]; omega),
      ← hfar (F.hregDataData n) (hregData_ne n).symm]
    unfold Chip.hregGo
    dsimp only
    exact if_neg (by rw [show (d.link n).ctrl = none from h]; simp)
  rw [hgo]
  refine ⟨?_, ?_, rfl⟩
  · rw [Chip.ctrlStart_f d _ (by simp [F.hregStatBusy]), Chip.f_setF_disjoint _ _ (by simp [F.hregStatBusy, F.hregStatDone]),
      Chip.f_setF_self _ _ (by simp [F.hregStatBusy])]
    rfl
  · rw [Chip.ctrlStart_f d _ (by simp [F.hregStatDone]), Chip.f_setF_self _ _ (by simp [F.hregStatDone]), Nat.zero_mod]

theorem Chip.linkWritten_hreg (v : Word) : c.linkWritten n 0x28 v = c.hregGo n (getBits v 30 2 == 2) := rfl

/-- A performed write of HPn_HREG_CMD with operation 1 or 2. -/
theorem hregCmd_shows {i : Instr} {op : Nat} {write : Bool}
    (hi : exec i s = runIf s (n < 8) fun c => c.writeOp src (R.hregCmd n) (force (F.hregCmdOp n) op v)) (hop : op < 4)
    (hwr : write = (op == 2)) (hn : n < 8) (hc : (s.chip.link n).ctrl = none)
    (hw : s.chip.Allows src (R.hregCmd n) (force (F.hregCmdOp n) op v)) :
    Does i s fun t => t.f (F.hregStatBusy n) = 1 ∧ t.f (F.hregStatDone n) = 0
      ∧ t.out = [.packet n (mkPacket 2 (ctrlBody ⟨(s.chip.link n).tag, write, s.chip.f (F.hregAddrAddr n),
        s.chip.f (F.hregDataData n), 0, false⟩)), .status 0] := by
  have hbits : getBits (force (F.hregCmdOp n) op v) 30 2 = op :=
    (getBits_putBits v op (lo := 30) (width := 2) (by decide)).trans (Nat.mod_eq_of_lt hop)
  refine Does.of_linkWrite (off := 0x28) (hregCmd_row n hn) hi hn (by omega) rfl (by decide) (by decide) hw fun w d hd ho => ?_
  obtain ⟨hbusy, hdone, hout⟩ := Chip.hregGo_sends (s.fresh.wr (R.hregCmd n) w) write hc
  have heff : (s.fresh.wr (R.hregCmd n) w).linkWritten n 0x28 (force (F.hregCmdOp n) op v)
      = (s.fresh.wr (R.hregCmd n) w).hregGo n write := by
    rw [Chip.linkWritten_hreg, hbits, hwr]
  rw [heff] at hd ho
  refine ⟨(hd.f_reg (by simp) (linkReg_ge n 0x2C)).trans hbusy, (hd.f_reg (by simp) (linkReg_ge n 0x2C)).trans hdone, ?_⟩
  rw [ho, hout, s.fresh.f_wr_ne w (x := F.hregAddrAddr n) (by simp only [F.hregAddrAddr, R.hregAddr, R.hregCmd]; omega),
    s.fresh.f_wr_ne w (x := F.hregDataData n) (by simp only [F.hregDataData, R.hregData, R.hregCmd]; omega)]
  rfl

end Writes

/-- Settles O16: both commands are one write, with operation 1 and 2. -/
theorem headMailbox : Obligations.HeadMailbox := by
  intro s src n v hn hc
  exact ⟨fun hw => hregCmd_shows rfl (by decide) rfl hn hc hw, fun hw => hregCmd_shows rfl (by decide) rfl hn hc hw⟩

end Sys2Proof.Machine
end

section
/-! What becomes of a LINE packet that passes the checks (R87, R91 to R93, R326). -/

namespace Sys2Proof.Machine

section Lines
variable {c : Chip} {n : Nat} {bs : List Byte}

/-! ### Checks 5 to 7 (R87, R91, R93) -/

theorem Chip.noteStale_keeps (ids : List Nat) : c.Keeps (c.noteStale ids) [R.cmtEvt] :=
  Chip.Keeps.ite (fun _ => (Chip.Keeps.refl c _).setF (List.mem_singleton_self _)) fun _ => Chip.Keeps.refl c _

theorem Chip.noteStale_log (ids : List Nat) : (c.noteStale ids).log = c.log := by
  unfold Chip.noteStale
  split <;> rfl

theorem Chip.noteStale_links (ids : List Nat) : (c.noteStale ids).links = c.links := by
  unfold Chip.noteStale
  split <;> rfl

theorem Chip.noteStale_f (ids : List Nat) {x : Fld} (hx : 0x90005 ≤ x.addr) : (c.noteStale ids).f x = c.f x :=
  (Chip.noteStale_keeps ids).f (by simp only [R.cmtEvt, List.mem_singleton]; omega) (reg_ne_scp (by omega)).1

/-- The format is judged by the trigger log and the registers of the front end and the job. -/
theorem Chip.lineFormatOk_congr {d : Chip} (hl : d.log = c.log) (hf : ∀ x : Fld, 0x200000 ≤ x.addr → d.f x = c.f x) :
    d.lineFormatOk n bs = c.lineFormatOk n bs := by
  have hbank : d.actBank = c.actBank := hf _ (by decide)
  have hentry : d.logEntry (fieldBE bs 12 4) = c.logEntry (fieldBE bs 12 4) := by rw [Chip.logEntry, hl]; rfl
  have hreg : ∀ b, 0x200000 ≤ R.feJcfg b n := fun b => by simp only [R.feJcfg]; omega
  unfold Chip.lineFormatOk Chip.lineNpix
  dsimp only
  rw [hbank, hentry, hf (F.feJcfgSize _ n) (hreg _), hf (F.feJcfgNch _ n) (hreg _), hf (F.feJcfgNpix _ n) (hreg _)]

theorem Chip.lineChecked_inactive (h : c.linkSt n ≠ lkActive) : c.Counts (c.lineChecked n bs) (F.frameErrCount n) [] := by
  rw [Chip.lineChecked, if_pos h]
  exact Chip.Keeps.counts (Chip.Keeps.refl c []) rfl (by simp [F.frameErrCount])

section Active
variable (h : c.linkSt n = lkActive)
include h

theorem Chip.lineChecked_foreign (hid : fieldBE bs 4 1 ≠ c.f (F.linkCfgHeadId n)) :
    c.Counts (c.lineChecked n bs) (F.idErrCount n) [] := by
  rw [Chip.lineChecked, if_neg (not_not_intro h), if_pos hid]
  exact Chip.Keeps.counts (Chip.Keeps.refl c []) rfl (by simp [F.idErrCount])

variable (hid : fieldBE bs 4 1 = c.f (F.linkCfgHeadId n))
include hid

theorem Chip.lineChecked_read : c.lineChecked n bs =
    if (!c.lineFormatOk n bs) = true then (c.noteStale [fieldBE bs 12 4]).inc (F.fmtErrCount n)
    else if (c.link n).alive = some (fieldBE bs 5 1) then (c.noteStale [fieldBE bs 12 4]).inc (F.aliveRepCount n)
    else (c.noteStale [fieldBE bs 12 4]).lineAccept n bs := by
  rw [Chip.lineChecked, if_neg (not_not_intro h), if_neg (not_not_intro hid)]
  dsimp only
  rw [Chip.lineFormatOk_congr (Chip.noteStale_log _) fun x hx => Chip.noteStale_f _ (by omega),
    Chip.link_congr (Chip.noteStale_links _)]

theorem Chip.lineChecked_format (hf : c.lineFormatOk n bs = false) :
    c.Counts (c.lineChecked n bs) (F.fmtErrCount n) [R.cmtEvt] := by
  rw [Chip.lineChecked_read h hid, hf, if_pos (by simp)]
  exact Chip.Keeps.counts (Chip.noteStale_keeps _) (Chip.noteStale_f _ (by simp only [F.fmtErrCount, R.fmtErr]; omega))
    (by simp [F.fmtErrCount])

theorem Chip.lineChecked_repeated (hf : c.lineFormatOk n bs = true) (ha : (c.link n).alive = some (fieldBE bs 5 1)) :
    c.Counts (c.lineChecked n bs) (F.aliveRepCount n) [R.cmtEvt] := by
  rw [Chip.lineChecked_read h hid, hf, if_neg (by simp), if_pos ha]
  exact Chip.Keeps.counts (Chip.noteStale_keeps _) (Chip.noteStale_f _ (by simp only [F.aliveRepCount, R.aliveRep]; omega))
    (by simp [F.aliveRepCount])

end Active

/-! ### The line that is accepted (R92, R93, R120) -/

theorem Chip.feAccept_lasts (hn : n < 9) : c.Lasts (c.feAccept n bs) n :=
  .ite (fun _ => (Chip.Lasts.refl c n).inc (linkPassing_far hn (by simp only [F.feUnexpCntCount, R.feUnexpCnt]; omega))) fun _ =>
    .ite (fun _ => (Chip.Lasts.refl c n).inc (linkPassing_far hn (by simp only [F.feOvfCntCount, R.feOvfCnt]; omega))) fun _ =>
      (Chip.Lasts.refl c n).same rfl (List.prefix_refl _)

/-- What stands before the count of lines: the ALIVE values passed over, and the check of the time stamp. -/
theorem Chip.lineAccept_counted (hn : n < 9) (bs : List Byte) :
    ∃ d, c.Lasts d n ∧ (d.inc (F.lineCntCount n)).Lasts (c.lineAccept n bs) n := by
  have hcount : ∀ (u : Chip) (x : Fld) (k : Nat), x.addr = R.aliveSkip n ∨ x.addr = R.tsErr n → u.Lasts (u.add x k) n :=
    fun u x k hx => (Chip.Lasts.refl u n).add (by
      simp only [linkPassing, R.linkState, R.linkEvt, R.lineCnt, R.aliveSkip, R.tsErr] at hx ⊢
      omega)
  have hrest : ∀ (d : Chip) (g : LinkS → LinkS) (last : Bool), (d.inc (F.lineCntCount n)).Lasts
      (if last then (((d.inc (F.lineCntCount n)).modLink n g).feAccept n bs).drainEnd n
        else ((d.inc (F.lineCntCount n)).modLink n g).feAccept n bs) n := fun d g last => by
    have h := ((Chip.Lasts.refl (d.inc (F.lineCntCount n)) n).modLink n g).trans (Chip.feAccept_lasts (bs := bs) hn)
    exact .ite (fun _ => h.trans (Chip.drainEnd_lasts _ hn)) fun _ => h
  unfold Chip.lineAccept
  dsimp only
  refine ⟨_, ?_, hrest _ _ _⟩
  have htime : ∀ (u : Chip) (p : Prop) [Decidable p], u.Lasts (if p then u.inc (F.tsErrCount n) else u) n := fun u p _ =>
    .ite (fun _ => hcount u _ 1 (Or.inr rfl)) fun _ => .refl u n
  cases (c.link n).alive with
  | none =>
    dsimp only
    split
    · exact htime c _
    · exact .refl c n
  | some k =>
    refine (hcount c (F.aliveSkipCount n) ((fieldBE bs 5 1 + 511 - k) % 256) (Or.inl rfl)).trans ?_
    dsimp only
    split
    · exact htime _ _
    · exact .refl _ n

theorem Chip.lineAccept_counts (hn : n < 9) :
    (c.lineAccept n bs).f (F.lineCntCount n) = satAdd (F.lineCntCount n).width (c.f (F.lineCntCount n)) 1 := by
  have hlast : linkLasting n (F.lineCntCount n) := Or.inr (Or.inr (Or.inl rfl))
  obtain ⟨d, hd, hrest⟩ := c.lineAccept_counted hn bs
  rw [hrest.fields _ hlast, Chip.f_inc_self _ (by simp [F.lineCntCount]), hd.fields _ hlast]

theorem Chip.lineChecked_accepted (hn : n < 9) (h : c.linkSt n = lkActive) (hid : fieldBE bs 4 1 = c.f (F.linkCfgHeadId n))
    (hf : c.lineFormatOk n bs = true) (ha : (c.link n).alive ≠ some (fieldBE bs 5 1)) :
    (c.lineChecked n bs).f (F.lineCntCount n) = satAdd (F.lineCntCount n).width (c.f (F.lineCntCount n)) 1 := by
  rw [Chip.lineChecked_read h hid, hf, if_neg (by simp), if_neg ha, Chip.lineAccept_counts hn,
    Chip.noteStale_f _ (by simp only [F.lineCntCount, R.lineCnt]; omega)]

end Lines

/-! ### The command -/

/-- A device that has taken the packet judges it as the device before it. -/
theorem Chip.Took.counts {c d u : Chip} {n : Nat} {x : Fld} {l : List Nat} (h : c.Took d n) (k : d.Counts u x l) : c.Counts u x l :=
  ⟨k.count.trans (by rw [h.f]), (h.keeps _).trans k.keeps⟩

/-- Settles O13: the device that took the packet has the registers and the log of the one before it. -/
theorem linePackets : Obligations.LinePackets := by
  intro s n pk hn hr ht
  obtain ⟨d, hd, huse⟩ := Chip.rxUse_took (State.fresh_takes ht)
  have hrx : s.fresh.lineRx n pk = d.lineChecked n pk.bytes := huse _
  have hst : ∀ {k}, s.chip.linkSt n = k → d.linkSt n = k := fun h => (hd.linkSt n).trans h
  have hid : d.f (F.linkCfgHeadId n) = s.chip.f (F.linkCfgHeadId n) := hd.f _
  have hfmt : d.lineFormatOk n pk.bytes = s.chip.lineFormatOk n pk.bytes := Chip.lineFormatOk_congr hd.log fun x _ => hd.f x
  have halive : (d.link n).alive = (s.chip.link n).alive := hd.link (·.alive) fun _ _ _ => rfl
  have hcounts {x : Fld} {l : List Nat} (hx : 0x10000 ≤ x.addr) (h : d.Counts (d.lineChecked n pk.bytes) x l) :=
    Does.of_counts (i := .linePacketRx n pk) (fun c => c.lineRx n pk) rfl hr (by simpa using hn) hx (hrx ▸ hd.counts h)
  refine ⟨fun h => hcounts (linkReg_ge n 0x58) (Chip.lineChecked_inactive (by rwa [hd.linkSt])), fun h hi =>
    hcounts (linkReg_ge n 0x6C) (Chip.lineChecked_foreign (hst h) (by rwa [hid])), fun h hi hf =>
    hcounts (linkReg_ge n 0x70) (Chip.lineChecked_format (hst h) (by rwa [hid]) (by rwa [hfmt])), fun h hi hf ha =>
    hcounts (linkReg_ge n 0x74) (Chip.lineChecked_repeated (hst h) (by rwa [hid]) (by rwa [hfmt]) (by rwa [halive])),
    fun h hi hf ha => ?_⟩
  refine Does.of_runIn (fun c => c.lineRx n pk) rfl hr (by simpa using hn) hrx fun t ht _ _ => ?_
  rw [ht.f_reg (by simp) (linkReg_ge n 0x84),
    Chip.lineChecked_accepted (by omega) (hst h) (by rwa [hid]) (by rwa [hfmt]) (by rwa [halive]), hd.f]
  rfl

end Sys2Proof.Machine
end

section
/-! HB, CAP, ECHO and the CTRL response as a link takes them (R81, R95, R96, R101, R117, R118). -/

namespace Sys2Proof.Machine

section Receives
variable {c : Chip} {n : Nat} {bs : List Byte}

/-! ### ACTIVE (R102) -/

theorem Chip.linkUp_eq : ∃ (g : LinkS → LinkS) (k : FeS → FeS), c.linkUp n =
    if n < 8 then (((((c.linkGo n lkActive).ev (F.linkEvtUp n)).setF (F.linkStateBackoffMs n) 1).modLink n g).modFe n k)
    else ((((c.linkGo n lkActive).ev (F.linkEvtUp n)).setF (F.linkStateBackoffMs n) 1).modLink n g) := ⟨_, _, rfl⟩

theorem Chip.linkUp_regs :
    (c.linkUp n).regs = (((c.linkGo n lkActive).ev (F.linkEvtUp n)).setF (F.linkStateBackoffMs n) 1).regs := by
  obtain ⟨g, k, h⟩ := c.linkUp_eq (n := n)
  rw [h]
  split <;> rfl

theorem Chip.linkUp_out : (c.linkUp n).out = c.out := by
  obtain ⟨g, k, h⟩ := c.linkUp_eq (n := n)
  rw [h]
  split <;> rfl

theorem Chip.linkUp_notes : (c.linkUp n).linkSt n = lkActive ∧ (c.linkUp n).f (F.linkEvtUp n) = 1 := by
  refine ⟨?_, ?_⟩
  · rw [Chip.linkSt_congr Chip.linkUp_regs, Chip.linkSt_setF _ _ (Or.inr (by simp [F.linkStateBackoffMs])), Chip.ev_def,
      Chip.linkSt_setF _ _ (Or.inl (by simp [F.linkEvtUp, R.linkEvt, R.linkState])), Chip.linkSt_linkGo _ (by decide)]
  · rw [Chip.f_congr Chip.linkUp_regs, Chip.f_setF_ne _ _ (by simp [F.linkEvtUp, F.linkStateBackoffMs, R.linkEvt, R.linkState]),
      Chip.f_ev_self _ (by simp [F.linkEvtUp]) (by simp [F.linkEvtUp])]

theorem Chip.linkUp_lasts : c.Lasts (c.linkUp n) n := by
  have hup : c.Lasts ((c.linkGo n lkActive).ev (F.linkEvtUp n)) n := (Chip.linkGo_lasts c lkActive).ev (by
    simp only [linkPassing, F.linkEvtUp, R.linkEvt, R.linkState, R.lineCnt]; omega)
  have hback := hup.setF (v := 1) (linkPassing_state (x := F.linkStateBackoffMs n) rfl (by simp [F.linkStateBackoffMs]))
  exact hback.same Chip.linkUp_regs (by rw [Chip.linkUp_out]; exact List.prefix_refl _)

/-- HB with TIME_OK completes the configuration. -/
theorem Chip.hbRx_completes {d : Chip} {pk : RxPkt} (hd : c.Took d n) (huse : ∀ g, c.rxUse n 4 pk g = g d pk.bytes)
    (hst : c.linkSt n = lkConfigure) (hstep : (c.link n).cfgStep = 6) (hok : fieldBE pk.bytes 5 1 % 2 = 1) :
    (c.hbRx n pk).linkSt n = lkActive ∧ (c.hbRx n pk).f (F.linkEvtUp n) = 1 := by
  have hcfg : ((d.modLink n fun l => { l with hbLast := pk.bytes }).link n).cfgStep = 6 :=
    (Chip.link_modLink_keeps d LinkS.cfgStep (g := fun l => { l with hbLast := pk.bytes }) (fun _ => rfl) n n).trans
      ((hd.link LinkS.cfgStep fun _ _ _ => rfl).trans hstep)
  rw [Chip.hbRx, huse]
  dsimp only
  rw [if_pos ⟨(hd.linkSt n).trans hst, hcfg, hok⟩]
  exact Chip.linkUp_notes

/-! ### CAP (R101, R118) -/

theorem Chip.each_range_succ {α : Type} (c : Chip) (m : Nat) (g : Nat → α) (k : Chip → α → Chip) :
    c.each ((List.range (m + 1)).map g) k = k (c.each ((List.range m).map g) k) (g m) := by
  simp [Chip.each, List.range_succ]

/-- The copy shows the bytes of the packet. -/
theorem Chip.storeCap_shows {k : Nat} (hk : k < 10) : (c.storeCap n bs).f (F.capBytes n k) = fieldBE bs (4 * k) 4 := by
  have h : ∀ m, k < m → (c.each (List.range m) fun c k => c.setF (F.capBytes n k) (fieldBE bs (4 * k) 4)).f (F.capBytes n k)
      = fieldBE bs (4 * k) 4 := fun m hm => by
    induction m with
    | zero => omega
    | succ m ih =>
      have hstep := c.each_range_succ m id fun c k => c.setF (F.capBytes n k) (fieldBE bs (4 * k) 4)
      rw [List.map_id, List.map_id] at hstep
      rw [hstep]
      dsimp only [id]
      by_cases hkm : k = m
      · rw [hkm, Chip.f_setF_self _ _ (by simp [F.capBytes])]
        exact Nat.mod_eq_of_lt (fieldBE_lt bs (4 * m) 4)
      · rw [Chip.f_setF_ne _ _ (by simp only [F.capBytes, R.cap]; omega)]
        exact ih (by omega)
  exact h 10 hk

theorem cap_lasting {k : Nat} (hk : k < 10) : linkLasting n (F.capBytes n k) := by
  simp only [linkLasting, F.capBytes, R.cap, R.linkState, R.linkEvt, R.lineCnt]
  omega

/-- A device shows the copy of a CAP. -/
def Chip.ShowsCap (d : Chip) (n : Nat) (bs : List Byte) : Prop := ∀ k < 10, d.f (F.capBytes n k) = fieldBE bs (4 * k) 4

theorem Chip.ShowsCap.lasts {d e : Chip} (h : d.ShowsCap n bs) (hl : d.Lasts e n) : e.ShowsCap n bs :=
  fun k hk => (hl.fields _ (cap_lasting hk)).trans (h k hk)

theorem Chip.ShowsCap.setF {d : Chip} (h : d.ShowsCap n bs) {x : Fld} (v : Nat)
    (hx : x.addr < 0x100100 + n * 0x10000) : (d.setF x v).ShowsCap n bs :=
  fun k hk => (Chip.f_setF_ne _ _ (by simp only [F.capBytes, R.cap]; omega)).trans (h k hk)

/-- CAP keeps what it stored, whether the configuration goes on, ends or fails with it. -/
theorem Chip.capRx_showsCap {d : Chip} {pk : RxPkt} (hn : n < 9) (hrole : c.headRole n = false)
    (huse : ∀ g, c.rxUse n 6 pk g = g d pk.bytes) : (c.capRx n pk).ShowsCap n pk.bytes := by
  have hstored : (d.storeCap n pk.bytes).ShowsCap n pk.bytes := fun k hk => Chip.storeCap_shows hk
  have htrig : (if n < 8 then (d.storeCap n pk.bytes).setF (F.headTrigTHeadTrig n) (fieldBE pk.bytes 28 4)
      else d.storeCap n pk.bytes).ShowsCap n pk.bytes := by
    split
    · exact hstored.setF _ (by simp only [F.headTrigTHeadTrig, R.headTrig]; omega)
    · exact hstored
  rw [Chip.capRx, hrole, if_neg Bool.false_ne_true, huse]
  dsimp only
  generalize (if n < 8 then (d.storeCap n pk.bytes).setF (F.headTrigTHeadTrig n) (fieldBE pk.bytes 28 4)
      else d.storeCap n pk.bytes) = e at htrig ⊢
  split
  · split
    · exact ((htrig.setF (x := F.linkEvtCapMismatch n) 1 (by simp only [F.linkEvtCapMismatch, R.linkEvt]; omega)).setF
        (x := F.linkStateLastFailPhase n) 5 (by simp only [F.linkStateLastFailPhase, R.linkState]; omega)).lasts
          (Chip.seek_lasts ((e.ev (F.linkEvtCapMismatch n)).setF (F.linkStateLastFailPhase n) 5) hn)
    · split
      · exact htrig.lasts Chip.linkUp_lasts
      · exact htrig.lasts ((Chip.Lasts.refl e n).same rfl (List.prefix_refl _))
  · exact htrig

/-- Mate 1 stores the device's CAP, answers it, and is configured with it. -/
theorem Chip.deviceCapRx_answers {d : Chip} {pk : RxPkt} (hrole : c.headRole 8 = true)
    (huse : ∀ g, c.rxUse 8 6 pk g = g d pk.bytes) : (c.deviceCapRx pk).ShowsCap 8 pk.bytes
      ∧ (∃ b, .packet 8 (mkPacket 6 b) ∈ (c.deviceCapRx pk).out)
      ∧ (d.linkSt 8 = lkConfigure → (c.deviceCapRx pk).linkSt 8 = lkActive) := by
  have hstored : (d.storeCap 8 pk.bytes).ShowsCap 8 pk.bytes := fun k hk => Chip.storeCap_shows hk
  have hst : (d.storeCap 8 pk.bytes).linkSt 8 = d.linkSt 8 :=
    Chip.each_f (fun u k => Chip.f_setF_ne _ _ (by simp only [F.linkStateState, F.capBytes, R.linkState, R.cap]; omega)) _
  obtain ⟨b, hsend⟩ := (d.storeCap 8 pk.bytes).sendCap_sends 8
  rw [Chip.deviceCapRx, hrole, if_neg (by simp), huse]
  dsimp only
  generalize (d.storeCap 8 pk.bytes).sendCap 8 = e at hsend ⊢
  have hcap : e.ShowsCap 8 pk.bytes := fun k hk => (Chip.f_congr hsend.regs _).trans (hstored k hk)
  have hout : .packet 8 (mkPacket 6 b) ∈ e.out := hsend.out ▸ List.mem_append_right _ (List.mem_singleton_self _)
  split
  · exact ⟨hcap.lasts Chip.linkUp_lasts, ⟨b, by rwa [Chip.linkUp_out]⟩, fun _ => Chip.linkUp_notes.1⟩
  next h => exact ⟨hcap, ⟨b, hout⟩, fun hc => absurd ((Chip.linkSt_congr hsend.regs 8).trans (hst.trans hc)) h⟩

/-! ### ECHO and CTRL (R81, R96, R117) -/

theorem Chip.echoRx_bad {block : List Byte} {rtt : Nat} (hpcs : c.pcsRuns n = true) (htyp : fieldBE block 0 1 = 0x4B)
    (hbad : blockOk block 6 = false) : c.Counts (c.echoRx n block rtt) (F.osErrCount n) [] := by
  rw [Chip.echoRx, if_neg (by simp [hpcs, htyp]), hbad, if_pos (by rfl)]
  exact Chip.Keeps.counts (Chip.Keeps.refl c []) rfl (by simp [F.osErrCount])

/-- The response that is awaited ends the access with its status. -/
theorem Chip.ctrlRx_ends {d : Chip} {pk : RxPkt} (hd : c.Took d n) (huse : ∀ g, c.rxUse n 2 pk g = g d pk.bytes) {r : CtrlReq}
    (hc : (c.link n).ctrl = some r) (hi : r.image = false) (htag : fieldBE pk.bytes 5 1 = r.tag)
    (hop : fieldBE pk.bytes 4 1 = (if r.write then 0x82 else 0x81)) : (c.ctrlRx n pk).AccessEnded n (fieldBE pk.bytes 7 1) := by
  have hctrl : (d.link n).ctrl = some r := (hd.link LinkS.ctrl fun _ _ _ => rfl).trans hc
  rw [Chip.ctrlRx, huse]
  dsimp only
  rw [hctrl]
  dsimp only
  rw [if_pos ⟨htag, hop⟩]
  exact (Chip.ctrlEnd_accessEnded hctrl hi (fieldBE_lt pk.bytes 7 1) _).imageWrite _

end Receives

/-- Settles O15: a packet that is taken is used in a device with the registers of the one before it. -/
theorem linkReceives : Obligations.LinkReceives := by
  intro s n pk hn hr
  refine ⟨fun ht hst hstep hok => ?_, fun ht hrole => ?_, fun h8 hrole ht => ?_, fun block rtt h8 hpcs htyp hbad => ?_,
    fun r h8 ht hc hi htag hop => ?_⟩
  case refine_1 =>
    obtain ⟨d, hd, huse⟩ := Chip.rxUse_took (State.fresh_takes ht)
    obtain ⟨h1, h2⟩ := Chip.hbRx_completes hd huse hst hstep hok
    exact Does.of_runIn (fun c => c.hbRx n pk) rfl hr (by simpa using hn) rfl fun t ht _ _ =>
      ⟨(ht.linkSt n).trans h1, (ht.f_reg (by simp) (linkReg_ge n 8)).trans h2⟩
  case refine_2 =>
    obtain ⟨d, hd, huse⟩ := Chip.rxUse_took (State.fresh_takes ht)
    have hcap := Chip.capRx_showsCap (c := s.fresh) hn hrole huse
    exact Does.of_runIn (fun c => c.capRx n pk) rfl hr (by simpa using hn) rfl fun t ht _ _ k hk =>
      (ht.f_reg (by simp) (linkLasting_ge (cap_lasting hk))).trans (hcap k hk)
  case refine_3 =>
    obtain ⟨d, hd, huse⟩ := Chip.rxUse_took (State.fresh_takes ht)
    obtain ⟨hcap, ⟨b, hb⟩, hst⟩ := Chip.deviceCapRx_answers (c := s.fresh) hrole huse
    exact Does.of_runIn (fun c => c.deviceCapRx pk) rfl hr rfl rfl fun t ht ho _ =>
      ⟨fun k hk => (ht.f_reg (by simp) (linkLasting_ge (cap_lasting hk))).trans (hcap k hk), ⟨b, ho ▸ hb⟩,
        fun hcfg => (ht.linkSt 8).trans (hst ((hd.linkSt 8).trans hcfg))⟩
  case refine_4 =>
    exact Does.of_counts (fun c => c.echoRx n block rtt) rfl hr (by simpa using h8) (linkReg_ge n 0x68)
      (Chip.echoRx_bad (c := s.fresh) hpcs htyp hbad)
  case refine_5 =>
    obtain ⟨d, hd, huse⟩ := Chip.rxUse_took (State.fresh_takes ht)
    exact Does.of_accessEnded (fun c => c.ctrlRx n pk) rfl hr (by simpa using h8) (Chip.ctrlRx_ends hd huse hc hi htag hop)

end Sys2Proof.Machine
end

section
/-! A lane swap in the device role and as the answering end (R72, R97, R114 to R116). -/

namespace Sys2Proof.Machine

section Swaps
variable {c d : Chip} {n : Nat} {w : Swap}

/-! ### The message that a SWAP uses (R97) -/

/-- A message of the SWAP in progress is used in the device that has taken it. -/
theorem Chip.swapRx_used {op : Nat} {pk : RxPkt} (huse : ∀ g, c.rxUse n 5 pk g = g d pk.bytes) (hw : (d.link n).swap = some w)
    (hop : fieldBE pk.bytes 4 1 = op) (hx : fieldBE pk.bytes 5 1 = w.xid) (g : Chip → Swap → List Byte → Chip) :
    c.swapRx n op pk g = g d w pk.bytes := by
  rw [Chip.swapRx, huse, if_neg (not_not_intro hop), hw, Option.filter_some_pos (by simp [hx])]

/-- What a SWAP shows on its way: an update of its data, and its step. -/
theorem Chip.swapStep_f (k : Nat) (hk : k < 8) : (c.swapStep n k).f (F.swapStatStep n) = k :=
  (Chip.f_setF_self _ _ (by simp [F.swapStatStep])).trans (Nat.mod_eq_of_lt (by simpa [F.swapStatStep] using hk))

theorem Chip.swapStep_keeps (k : Nat) : c.Keeps (c.swapStep n k) [R.swapStat n] :=
  Chip.Keeps.setF (x := F.swapStatStep n) (t := c.modSwap n fun s => { s with step := k }) (Chip.Keeps.of_same rfl rfl)
    (List.mem_singleton_self _)

theorem swapStat_lo (n : Nat) : 0x10000 ≤ R.swapStat n := linkReg_ge n 0x1C

/-! ### The device role (R114, R115) -/

theorem Chip.swapStart_notes (k reason : Nat) : (c.swapStart n k reason).f (F.swapStatBusy n) = 1
    ∧ (c.swapStart n k reason).f (F.swapStatStep n) = 1 ∧ ∃ b, .packet n (mkPacket 5 b) ∈ (c.swapStart n k reason).out := by
  obtain ⟨g, w, h⟩ : ∃ (g : LinkS → LinkS) (w : Swap), c.swapStart n k reason
      = (((c.modLink n g).setF (F.swapStatBusy n) 1).setF (F.swapStatStep n) 1).sendSwap n 1 w 0 := ⟨_, _, rfl⟩
  obtain ⟨b, hsend⟩ := (((c.modLink n g).setF (F.swapStatBusy n) 1).setF (F.swapStatStep n) 1).sendSwap_sends n 1 w 0
  rw [h]
  refine ⟨?_, ?_, b, ?_⟩
  · rw [Chip.f_congr hsend.regs, Chip.f_setF_disjoint _ _ (by simp [F.swapStatBusy, F.swapStatStep]),
      Chip.f_setF_self _ _ (by simp [F.swapStatBusy])]
    rfl
  · rw [Chip.f_congr hsend.regs, Chip.f_setF_self _ _ (by simp [F.swapStatStep])]
    rfl
  · rw [hsend.out]
    exact List.mem_append_right _ (List.mem_singleton_self _)

/-- COMMIT, once both receivers are ready on NEW. -/
theorem Chip.swapCommit_sends (hw : (c.link n).swap = some w) (hown : w.ownReady = true) (hhead : w.headReady = true)
    (hstep : w.step = 5) (hrole : c.headRole n = false) :
    (c.swapCommit n).f (F.swapStatStep n) = 6 ∧ ∃ b, (c.swapCommit n).out = c.out ++ [.packet n (mkPacket 5 b)] := by
  rw [Chip.swapCommit, hw]
  dsimp only
  rw [if_pos (by simp [hown, hhead, hstep, hrole])]
  generalize ((c.link n).amSeq + 2) % 65536 = am
  obtain ⟨b, hsend⟩ := ((c.swapStep n 6).modSwap n fun s => { s with amD := am }).sendSwap_sends n 4 w am
  exact ⟨(Chip.f_congr hsend.regs _).trans (Chip.swapStep_f 6 (by decide)), b, hsend.out⟩

/-- A SWAP that ends well: its registers, its event, and the map. -/
theorem Chip.spareSpent_keeps (old reason : Nat) :
    c.Keeps (c.spareSpent n old reason) [R.spareStat n, R.optWrCnt, R.optStat] := by
  have hspare : c.Keeps (c.setF (F.spareStatUnusable n) 1) [R.spareStat n, R.optWrCnt, R.optStat] :=
    (Chip.Keeps.refl c _).setF List.mem_cons_self
  have hbar : c.Keeps ((c.setF (F.spareStatUnusable n) 1).barLane n old) [R.spareStat n, R.optWrCnt, R.optStat] :=
    hspare.trans ((Chip.barLane_keeps _ n old).mono fun _ => List.mem_cons_of_mem _)
  have hword : ∀ (u : Chip) (i : Nat) (x : Word), u.Keeps (u.setOptWord i x) [R.optWrCnt, R.optStat] := fun u i x => by
    have hprog : u.Keeps (u.progWord i x) [R.optWrCnt, R.optStat] :=
      ((Chip.Keeps.refl u _).inc (x := F.optWrCntCount) (by simp [F.optWrCntCount])).same rfl rfl
    exact (hprog.setF (x := F.optStatBusy) (v := 1) (by simp [F.optStatBusy])).same rfl rfl
  exact .ite (fun _ => hbar.trans ((hword _ _ _).mono fun _ => List.mem_cons_of_mem _)) fun _ => hspare

/-- What ends a SWAP writes in the registers of its link, once NEW is mapped and OLD has lost power. -/
def Chip.swapClosed (c : Chip) (n : Nat) : Chip :=
  ((((c.ev (F.linkEvtSwapDone n)).setF (F.swapStatBusy n) 0).setF (F.swapStatStep n) 0).setF (F.swapStatResult n) 1).inc
    (F.swapStatCount n)

theorem Chip.swapFinish_some (hw : (c.link n).swap = some w) (hown : w.ownDone = true) (hhead : w.headDone = true) :
    ∃ g : LinkS → LinkS, c.swapFinish n
      = (((((c.remap n w.log w.new).laneDown n w.old).modLink n g).swapClosed n).spareSpent n w.old w.reason) := by
  rw [Chip.swapFinish, hw]
  dsimp only
  rw [if_pos (by rw [hown, hhead]; rfl)]
  exact ⟨_, rfl⟩

theorem Chip.swapClosed_notes : (c.swapClosed n).f (F.swapStatBusy n) = 0 ∧ (c.swapClosed n).f (F.swapStatResult n) = 1
    ∧ (c.swapClosed n).f (F.linkEvtSwapDone n) = 1 := by
  refine ⟨?_, ?_, ?_⟩ <;> rw [Chip.swapClosed, Chip.inc_def]
  · rw [Chip.f_setF_disjoint _ _ (by simp [F.swapStatBusy, F.swapStatCount]),
      Chip.f_setF_disjoint _ _ (by simp [F.swapStatBusy, F.swapStatResult]),
      Chip.f_setF_disjoint _ _ (by simp [F.swapStatBusy, F.swapStatStep]), Chip.f_setF_self _ _ (by simp [F.swapStatBusy]), Nat.zero_mod]
  · rw [Chip.f_setF_disjoint _ _ (by simp [F.swapStatResult, F.swapStatCount]), Chip.f_setF_self _ _ (by simp [F.swapStatResult])]
    rfl
  · have hne : (F.linkEvtSwapDone n).addr ≠ R.swapStat n := by simp [F.linkEvtSwapDone, R.linkEvt, R.swapStat]
    rw [Chip.f_setF_ne _ _ hne, Chip.f_setF_ne _ _ hne, Chip.f_setF_ne _ _ hne, Chip.f_setF_ne _ _ hne,
      Chip.f_ev_self _ (by simp [F.linkEvtSwapDone]) (by simp [F.linkEvtSwapDone])]

theorem Chip.swapClosed_mapOf (k : Nat) : (c.swapClosed n).mapOf n k = c.mapOf n k := by
  have hstat : (F.laneMapLog n k).addr ≠ R.swapStat n := by simp only [F.laneMapLog, R.laneMap, R.swapStat]; omega
  rw [Chip.swapClosed, Chip.inc_def, Chip.mapOf, Chip.f_setF_ne _ _ hstat, Chip.f_setF_ne _ _ hstat, Chip.f_setF_ne _ _ hstat,
    Chip.f_setF_ne _ _ hstat]
  exact Chip.f_setF_ne _ _ (by simp only [F.laneMapLog, F.linkEvtSwapDone, R.laneMap, R.linkEvt]; omega)

/-- LANE_MAP is no register of a lane, whatever its number. -/
theorem laneDown_mapOf (hn : n < 9) (m k : Nat) : (c.laneDown n m).mapOf n k = c.mapOf n k := by
  refine (c.laneDown_keeps n m).f (fun h => ?_) (reg_ne_scp (by simp only [F.laneMapLog, R.laneMap]; omega)).1
  simp only [laneRegs, if_neg (show n ≠ 9 by omega), List.append_nil, List.mem_cons, List.not_mem_nil, or_false, F.laneMapLog,
    R.laneMap, R.lnState, R.lnRxeq, R.lnFfe0, R.lnEye, R.lnPrbsCtrl, R.lnPrbsStat] at h
  omega

theorem Chip.modLink_mapOf (g : LinkS → LinkS) (j k : Nat) : (c.modLink n g).mapOf j k = c.mapOf j k := Chip.f_congr rfl _

theorem Chip.swapFinish_notes (hn : n < 9) (hw : (c.link n).swap = some w) (hown : w.ownDone = true) (hhead : w.headDone = true)
    (hlog : w.log < logicalCount n) : (c.swapFinish n).f (F.swapStatBusy n) = 0 ∧ (c.swapFinish n).f (F.swapStatResult n) = 1
      ∧ (c.swapFinish n).mapOf n w.log = w.new % 16 ∧ (c.swapFinish n).f (F.linkEvtSwapDone n) = 1 := by
  obtain ⟨g, h⟩ := Chip.swapFinish_some hw hown hhead
  have hlog8 : w.log < 8 := lt_of_lt_of_le hlog ((logicalCount_le_four hn).trans (by decide))
  have hmap : (((c.remap n w.log w.new).laneDown n w.old).modLink n g).mapOf n w.log = w.new % 16 := by
    rw [Chip.modLink_mapOf, laneDown_mapOf hn, Chip.remap, Chip.syncMapped_mapOf]
    exact Chip.f_setF_self _ (x := F.laneMapLog n w.log) w.new (by simp only [F.laneMapLog]; omega)
  rw [h]
  generalize ((c.remap n w.log w.new).laneDown n w.old).modLink n g = u at hmap ⊢
  obtain ⟨h1, h2, h3⟩ := u.swapClosed_notes (n := n)
  have hkeep : ∀ x : Fld, 0x100000 ≤ x.addr → x.addr ≠ R.spareStat n →
      ((u.swapClosed n).spareSpent n w.old w.reason).f x = (u.swapClosed n).f x := fun x hx hne => by
    refine (Chip.spareSpent_keeps w.old w.reason).f (fun h => ?_) (reg_ne_scp (by omega)).1
    simp only [List.mem_cons, List.not_mem_nil, or_false, R.optWrCnt, R.optStat] at h
    omega
  refine ⟨(hkeep _ ?_ ?_).trans h1, (hkeep _ ?_ ?_).trans h2, (hkeep _ ?_ ?_).trans ((Chip.swapClosed_mapOf _).trans hmap),
    (hkeep _ ?_ ?_).trans h3⟩
  all_goals
    simp only [F.swapStatBusy, F.swapStatResult, F.laneMapLog, F.linkEvtSwapDone, R.swapStat, R.laneMap, R.linkEvt, R.spareStat]
    omega

/-! ### The end without success (R116) -/

/-- What an abort shows. -/
theorem Chip.swapFail_notes (hw : (c.link n).swap = some w) {result reason : Nat} (hres : result < 16) (send : Bool) :
    (c.swapFail n result reason send).f (F.swapStatBusy n) = 0 ∧ (c.swapFail n result reason send).f (F.swapStatResult n) = result
      ∧ (c.swapFail n result reason send).f (F.linkEvtSwapFail n) = 1
      ∧ ⟨0x06, laneInst n w.new, false⟩ ∈ (c.swapFail n result reason send).reports := by
  rw [Chip.swapFail_some hw]
  generalize c.swapDropped n w reason send = u
  have hne : ∀ x : Fld, x.addr = R.swapStat n → x.addr ≠ (F.linkEvtSwapFail n).addr := fun x hx => by
    rw [hx]
    simp [F.linkEvtSwapFail, R.linkEvt, R.swapStat]
  refine ⟨?_, ?_, ?_, List.mem_append_right _ (List.mem_singleton_self _)⟩
  · rw [Chip.report_f, Chip.ev_def, Chip.f_setF_ne _ _ (hne (F.swapStatBusy n) rfl),
      Chip.f_setF_disjoint _ _ (by simp [F.swapStatBusy, F.swapStatResult]),
      Chip.f_setF_disjoint _ _ (by simp [F.swapStatBusy, F.swapStatStep]), Chip.f_setF_self _ _ (by simp [F.swapStatBusy]), Nat.zero_mod]
  · rw [Chip.report_f, Chip.ev_def, Chip.f_setF_ne _ _ (hne (F.swapStatResult n) rfl)]
    exact (Chip.f_setF_self _ _ (by simp [F.swapStatResult])).trans (Nat.mod_eq_of_lt (by simpa [F.swapStatResult] using hres))
  · rw [Chip.report_f, Chip.f_ev_self _ (by simp [F.linkEvtSwapFail]) (by simp [F.linkEvtSwapFail])]

theorem Chip.swapTimeout_out (hw : (c.link n).swap = some w) : ∃ b, (c.swapTimeout n).out = c.out ++ [.packet n (mkPacket 5 b)] := by
  obtain ⟨b, hsend⟩ := c.sendSwap_sends n 7 { w with reason := 6 } 0
  refine ⟨b, ?_⟩
  rw [Chip.swapTimeout, Chip.swapFail_some hw, ← hsend.out]
  exact Chip.laneOff_out ..

/-! ### What is asked for again (R97) -/

theorem Chip.swapResend_sends (hw : (c.link n).swap = some w) (hstep : w.step = 1 ∨ w.step = 2 ∨ w.step = 6) :
    ∃ b, c.Sends (c.swapResend n) (.packet n (mkPacket 5 b)) := by
  rw [Chip.swapResend, hw]
  dsimp only
  split
  · exact c.sendSwap_sends n 1 w 0
  · rw [if_pos (by omega)]
    exact c.sendSwap_sends n 4 w w.amD

theorem Chip.swapAgain_ready (hrole : c.headRole n = false) (hstep : 6 ≤ w.step) :
    ∃ b, c.Sends (c.swapAgain n w 3) (.packet n (mkPacket 5 b)) := by
  rw [Chip.swapAgain, Chip.when, if_pos (by simp [hrole, hstep])]
  exact c.sendSwap_sends n 4 w w.amD

theorem Chip.swapAgain_prepare (hrole : c.headRole n = true) : ∃ b, c.Sends (c.swapAgain n w 1) (.packet n (mkPacket 5 b)) := by
  rw [Chip.swapAgain, Chip.when, if_pos hrole]
  exact c.sendSwap_sends n 2 w 0

/-- A device that has taken a packet sends as the device before it. -/
theorem Chip.Took.sends {u : Chip} {o : Out} (h : c.Took d n) (k : d.Sends u o) : c.Sends u o := k.after h.regs h.mem h.out

/-! ### REQUEST (R114) -/

/-- The sources that the REASON of a REQUEST names (log entry 28). -/
theorem Chip.swapRequestRx_reports {pk : RxPkt} (huse : ∀ g, c.rxUse n 5 pk g = g d pk.bytes) (hop : fieldBE pk.bytes 4 1 = 8) :
    c.swapRequestRx n pk = (d.ev (F.linkEvtSwapReq n)).report
      (if fieldBE pk.bytes 9 1 = 4 then 0x02 else if fieldBE pk.bytes 9 1 = 5 then 0x03 else 0x01)
      (laneInst n (fieldBE pk.bytes 7 1)) := by
  rw [Chip.swapRequestRx, huse]
  dsimp only
  rw [if_pos hop]
  split
  next h => rw [h, if_pos rfl]
  next h => rw [h, if_neg (by decide), if_pos rfl]
  next h4 h5 => rw [if_neg h4, if_neg h5]

/-! ### Mate 1, in the head role (R72, R115) -/

/-- A register of the link below its lanes is none of a lane that begins to train. -/
theorem Chip.trainStart_f_low (hn : n < 9) (m : Nat) {x : Fld} (h1 : 0x10000 ≤ x.addr) (hx : x.addr < 0x108000 + n * 0x10000) :
    (c.trainStart n m).f x = c.f x :=
  (c.trainStart_keeps n m).f (fun h => absurd (laneRegs_ge hn h) (by omega)) (reg_ne_scp h1).1

theorem Chip.setPrecode_f {m : Nat} {tx rx : Bool} {x : Fld} (hx : x.addr ≠ R.lnCtrl n m) : (c.setPrecode n m tx rx).f x = c.f x := by
  unfold Chip.setPrecode
  dsimp only
  rw [Chip.setFb_def, Chip.setFb_def, Chip.f_setF_ne _ _ hx, Chip.f_setF_ne _ _ hx]
  split <;> split <;> rfl

theorem Chip.swapPrepareRx_new {pk : RxPkt} (hrole : c.headRole 8 = true) (huse : ∀ g, c.rxUse 8 5 pk g = g d pk.bytes)
    (hop : fieldBE pk.bytes 4 1 = 1) (hst : d.linkSt 8 = lkActive) (hw : (d.link 8).swap = none)
    (hpast : d.swapPast 8 (fieldBE pk.bytes 5 1) = none) :
    (c.swapPrepareRx pk).f (F.swapStatBusy 8) = 1 ∧ (c.swapPrepareRx pk).f (F.swapStatStep 8) = 3
      ∧ ∃ b, .packet 8 (mkPacket 5 b) ∈ (c.swapPrepareRx pk).out := by
  let w := Swap.start (fieldBE pk.bytes 5 1) (fieldBE pk.bytes 6 1) (fieldBE pk.bytes 7 1) (fieldBE pk.bytes 8 1) (fieldBE pk.bytes 9 1) 3
  let u := (d.modLink 8 fun l => { l with swap := some w }).setF (F.swapStatBusy 8) 1
  have heq : ∃ tx rx, c.swapPrepareRx pk
      = (((u.trainStart 8 w.new).setF (F.swapStatStep 8) 3).setPrecode 8 w.new tx rx).sendSwap 8 2 w 0 := by
    rw [Chip.swapPrepareRx, hrole, if_neg (by simp), huse]
    dsimp only
    rw [if_neg (by simp [hop, hst]), hw]
    dsimp only
    rw [show (Swap.start (fieldBE pk.bytes 5 1) (fieldBE pk.bytes 6 1) (fieldBE pk.bytes 7 1) (fieldBE pk.bytes 8 1)
      (fieldBE pk.bytes 9 1) 3).xid = fieldBE pk.bytes 5 1 from rfl, hpast]
    exact ⟨_, _, rfl⟩
  obtain ⟨tx, rx, heq⟩ := heq
  obtain ⟨b, hsend⟩ := (((u.trainStart 8 w.new).setF (F.swapStatStep 8) 3).setPrecode 8 w.new tx rx).sendSwap_sends 8 2 w 0
  have hctrl : R.swapStat 8 ≠ R.lnCtrl 8 w.new := by simp only [R.swapStat, R.lnCtrl]; omega
  rw [heq]
  refine ⟨?_, ?_, b, ?_⟩
  · rw [Chip.f_congr hsend.regs, Chip.setPrecode_f hctrl, Chip.f_setF_disjoint _ _ (by simp [F.swapStatBusy, F.swapStatStep]),
      Chip.trainStart_f_low (by decide) _ (by decide) (by decide), Chip.f_setF_self _ _ (by decide)]
    rfl
  · rw [Chip.f_congr hsend.regs, Chip.setPrecode_f hctrl, Chip.f_setF_self _ _ (by decide)]
    rfl
  · rw [hsend.out]
    exact List.mem_append_right _ (List.mem_singleton_self _)

theorem Chip.swapPrepareRx_past {pk : RxPkt} (hrole : c.headRole 8 = true) (huse : ∀ g, c.rxUse 8 5 pk g = g d pk.bytes)
    (hop : fieldBE pk.bytes 4 1 = 1) (hst : d.linkSt 8 = lkActive) (hw : (d.link 8).swap = none)
    (hpast : d.swapPast 8 (fieldBE pk.bytes 5 1) = some w) : c.swapPrepareRx pk = d.swapAgain 8 w 1 := by
  rw [Chip.swapPrepareRx, hrole, if_neg (by simp), huse]
  dsimp only
  rw [if_neg (by simp [hop, hst]), hw]
  dsimp only
  rw [show (Swap.start (fieldBE pk.bytes 5 1) (fieldBE pk.bytes 6 1) (fieldBE pk.bytes 7 1) (fieldBE pk.bytes 8 1)
    (fieldBE pk.bytes 9 1) 3).xid = fieldBE pk.bytes 5 1 from rfl, hpast]

theorem Chip.swapCommitRx_sends {pk : RxPkt} (hrole : c.headRole 8 = true) (huse : ∀ g, c.rxUse 8 5 pk g = g d pk.bytes)
    (hw : (d.link 8).swap = some w) (hop : fieldBE pk.bytes 4 1 = 4) (hx : fieldBE pk.bytes 5 1 = w.xid) (hstep : w.step = 5) :
    (c.swapCommitRx pk).f (F.swapStatStep 8) = 7 ∧ ∃ b, (c.swapCommitRx pk).out = d.out ++ [.packet 8 (mkPacket 5 b)] := by
  have heq : ∃ (g : Swap → Swap) (am : Nat), c.swapCommitRx pk = ((d.modSwap 8 g).swapStep 8 7).sendSwap 8 5 w am := by
    rw [Chip.swapCommitRx, hrole, if_neg (by simp), huse]
    dsimp only
    rw [if_neg (not_not_intro hop), hw, Option.filter_some_pos (by simp [hx])]
    dsimp only
    rw [if_neg (by omega), if_neg (by omega)]
    exact ⟨_, _, rfl⟩
  obtain ⟨g, am, heq⟩ := heq
  obtain ⟨b, hsend⟩ := ((d.modSwap 8 g).swapStep 8 7).sendSwap_sends 8 5 w am
  rw [heq]
  exact ⟨(Chip.f_congr hsend.regs _).trans (Chip.swapStep_f 7 (by decide)), b, hsend.out⟩

end Swaps

/-! ### The commands -/

section Commands
variable {s : State} {n : Nat} {w : Swap} {pk : RxPkt}

theorem swapGo_shows {src : Src} {v : Word} (hn : n < 9) (hw : s.chip.Allows src (R.swapCmd n) (force (F.swapCmdGo n) 1 v)) :
    Does (.swapGo src n v) s fun t => t.f (F.swapStatBusy n) = 1 ∧ t.f (F.swapStatStep n) = 1
      ∧ ∃ b, .packet n (mkPacket 5 b) ∈ t.out := by
  have hgo : bitAt (force (F.swapCmdGo n) 1 v) 31 = true := bitAt_force (x := F.swapCmdGo n) 1 v (by simp [F.swapCmdGo]) rfl
  refine Does.of_linkWrite (off := 0x18) (swapCmd_row n hn) rfl hn hn rfl (by decide) (by decide) hw fun x d hd ho => ?_
  have heff : (s.fresh.wr (R.swapCmd n) x).linkWritten n 0x18 (force (F.swapCmdGo n) 1 v)
      = (s.fresh.wr (R.swapCmd n) x).swapStart n (getBits (force (F.swapCmdGo n) 1 v) 0 2) 0 := if_pos hgo
  obtain ⟨h1, h2, b, h3⟩ := (s.fresh.wr (R.swapCmd n) x).swapStart_notes (n := n) (getBits (force (F.swapCmdGo n) 1 v) 0 2) 0
  rw [heff] at hd ho
  exact ⟨(hd.f_reg (by simp) (swapStat_lo n)).trans h1, (hd.f_reg (by simp) (swapStat_lo n)).trans h2, b,
    ho ▸ List.mem_append_left _ h3⟩

section Device
variable (hn : n < 9) (hr : s.chip.domainRuns 4 = true) (hw : (s.chip.link n).swap = some w)
include hn hr hw

theorem swapTimeout_shows : Does (.swapStepTimeout n) s fun t => t.f (F.swapStatBusy n) = 0 ∧ t.f (F.swapStatResult n) = 2
    ∧ t.f (F.linkEvtSwapFail n) = 1 ∧ (∃ b, t.out = [.packet n (mkPacket 5 b)])
    ∧ ⟨0x06, laneInst n w.new, false⟩ ∈ t.reports := by
  refine Does.of_runIn (fun c => c.swapTimeout n) rfl hr (by simpa using hn) rfl fun d hd ho _ => ?_
  obtain ⟨h1, h2, h3, h4⟩ := Chip.swapFail_notes (c := s.fresh) (reason := 6) hw (show 2 < 16 by decide) true
  obtain ⟨b, hb⟩ := Chip.swapTimeout_out (c := s.fresh) hw
  exact ⟨(hd.f_reg (by simp) (swapStat_lo n)).trans h1, (hd.f_reg (by simp) (swapStat_lo n)).trans h2,
    (hd.f_reg (by simp) (linkEvt_ge n)).trans h3, ⟨b, ho.trans hb⟩, hd.reports ▸ h4⟩

theorem swapResend_shows (hstep : w.step = 1 ∨ w.step = 2 ∨ w.step = 6) :
    Does (.swapResendTimer n) s fun t => (∃ b, t.out = [.packet n (mkPacket 5 b)]) ∧ s.chip.Keeps t [] :=
  Does.of_sendsPacket (fun c => c.swapResend n) rfl hr (by simpa using hn) (Chip.swapResend_sends (c := s.fresh) hw hstep)

section Messages
variable (hx : fieldBE pk.bytes 5 1 = w.xid) (ht : s.chip.Takes n 5 pk)

omit hn hr in
include ht in
/-- The device that has taken the message, with the SWAP in progress. -/
theorem swap_took : ∃ d, s.fresh.Took d n ∧ (∀ g, s.fresh.rxUse n 5 pk g = g d pk.bytes) ∧ (d.link n).swap = some w := by
  obtain ⟨d, hd, huse⟩ := Chip.rxUse_took (State.fresh_takes ht)
  exact ⟨d, hd, huse, (hd.link LinkS.swap fun _ _ _ => rfl).trans hw⟩

omit hn hr hw in
theorem Chip.modSwap_swap {d : Chip} (hl : n < d.links.length) (h : (d.link n).swap = some w) (g : Swap → Swap) :
    ((d.modSwap n g).link n).swap = some (g w) := by
  rw [Chip.modSwap, Chip.link_modLink _ hl, h]
  rfl

include hx ht

theorem swapPrepareAck_shows (hop : fieldBE pk.bytes 4 1 = 2) (hstep : w.step = 1 ∨ w.step = 2) :
    Does (.swapPrepareAckRx n pk) s fun t => t.f (F.swapStatStep n) = 3 := by
  obtain ⟨d, hd, huse, hwd⟩ := swap_took hw ht
  refine Does.of_runIn (fun c => c.swapPrepareAck n pk) rfl hr (by simpa using hn) (Chip.swapRx_used huse hwd hop hx _)
    fun t ht _ _ => ?_
  rw [if_neg (by omega)] at ht
  exact (ht.f_reg (by simp) (swapStat_lo n)).trans (Chip.swapStep_f 3 (by decide))

theorem swapReady_commits (hop : fieldBE pk.bytes 4 1 = 3) (hstep : w.step = 5) (hown : w.ownReady = true)
    (hrole : s.chip.headRole n = false) (hl : n < s.chip.links.length) :
    Does (.swapReadyRx n pk) s fun t => t.f (F.swapStatStep n) = 6 ∧ ∃ b, t.out = [.packet n (mkPacket 5 b)] := by
  obtain ⟨d, hd, huse, hwd⟩ := swap_took hw ht
  refine Does.of_runIn (fun c => c.swapReadyRx n pk) rfl hr (by simpa using hn) (Chip.swapRx_used huse hwd hop hx _)
    fun t ht ho _ => ?_
  rw [if_neg (by omega), if_neg (by omega)] at ht ho
  obtain ⟨h1, b, h2⟩ := Chip.swapCommit_sends (Chip.modSwap_swap (hd.length ▸ hl) hwd fun s => { s with headReady := true }) hown rfl
    hstep ((hd.headRole n).trans hrole)
  refine ⟨(ht.f_reg (by simp) (swapStat_lo n)).trans h1, b, ?_⟩
  rw [ho, h2, show (d.modSwap n fun s => { s with headReady := true }).out = d.out from rfl, hd.out]
  rfl

theorem swapReady_repeats (hop : fieldBE pk.bytes 4 1 = 3) (hstep : 6 ≤ w.step) (hrole : s.chip.headRole n = false) :
    Does (.swapReadyRx n pk) s fun t => (∃ b, t.out = [.packet n (mkPacket 5 b)]) ∧ s.chip.Keeps t [] := by
  obtain ⟨d, hd, huse, hwd⟩ := swap_took hw ht
  obtain ⟨b, hsend⟩ := Chip.swapAgain_ready (c := d) ((hd.headRole n).trans hrole) hstep
  refine Does.of_sendsPacket (fun c => c.swapReadyRx n pk) rfl hr (by simpa using hn) ⟨b, ?_⟩
  rw [Chip.swapReadyRx, Chip.swapRx_used huse hwd hop hx, if_neg (by omega), if_pos hstep]
  exact hd.sends hsend

theorem swapCommitAck_shows (hop : fieldBE pk.bytes 4 1 = 5) (hstep : w.step = 6) :
    Does (.swapCommitAckRx n pk) s fun t => t.f (F.swapStatStep n) = 7 ∧ s.chip.Keeps t [R.swapStat n] := by
  obtain ⟨d, hd, huse, hwd⟩ := swap_took hw ht
  refine Does.of_runIn (fun c => c.swapCommitAck n pk) rfl hr (by simpa using hn) (Chip.swapRx_used huse hwd hop hx _)
    fun t ht _ _ => ?_
  rw [if_neg (not_not_intro hstep)] at ht
  refine ⟨(ht.f_reg (by simp) (swapStat_lo n)).trans (Chip.swapStep_f 7 (by decide)), Chip.Keeps.settled ?_ ht⟩
  exact (((s.keeps_fresh _).trans (hd.keeps _)).same rfl rfl).trans (Chip.swapStep_keeps 7)

theorem swapDone_shows (hop : fieldBE pk.bytes 4 1 = 6) (hstep : 7 ≤ w.step) (hown : w.ownDone = true)
    (hl : n < s.chip.links.length) (hlog : w.log < logicalCount n) :
    Does (.swapDoneRx n pk) s fun t => t.f (F.swapStatBusy n) = 0 ∧ t.f (F.swapStatResult n) = 1
      ∧ t.mapOf n w.log = w.new % 16 ∧ t.f (F.linkEvtSwapDone n) = 1 := by
  obtain ⟨d, hd, huse, hwd⟩ := swap_took hw ht
  refine Does.of_runIn (fun c => c.swapDoneRx n pk) rfl hr (by simpa using hn) (Chip.swapRx_used huse hwd hop hx _)
    fun t ht _ _ => ?_
  rw [if_neg (by omega)] at ht
  obtain ⟨h1, h2, h3, h4⟩ := Chip.swapFinish_notes hn
    (Chip.modSwap_swap (hd.length ▸ hl) hwd fun s => { s with headDone := true }) hown rfl hlog
  exact ⟨(ht.f_reg (by simp) (swapStat_lo n)).trans h1, (ht.f_reg (by simp) (swapStat_lo n)).trans h2,
    (ht.f_reg (by simp) (linkReg_ge n 0x8F00)).trans h3, (ht.f_reg (by simp) (linkEvt_ge n)).trans h4⟩

theorem swapAbort_shows (hop : fieldBE pk.bytes 4 1 = 7) :
    Does (.swapAbortRx n pk) s fun t => t.f (F.swapStatBusy n) = 0 ∧ t.f (F.swapStatResult n) = 4
      ∧ t.f (F.linkEvtSwapFail n) = 1 ∧ ⟨0x06, laneInst n w.new, false⟩ ∈ t.reports := by
  obtain ⟨d, hd, huse, hwd⟩ := swap_took hw ht
  refine Does.of_runIn (fun c => c.swapAbortRx n pk) rfl hr (by simpa using hn) (Chip.swapRx_used huse hwd hop hx _)
    fun t ht _ _ => ?_
  obtain ⟨h1, h2, h3, h4⟩ := Chip.swapFail_notes (reason := 0) hwd (show 4 < 16 by decide) false
  exact ⟨(ht.f_reg (by simp) (swapStat_lo n)).trans h1, (ht.f_reg (by simp) (swapStat_lo n)).trans h2,
    (ht.f_reg (by simp) (linkEvt_ge n)).trans h3, ht.reports ▸ h4⟩

end Messages

end Device

theorem swapRequest_shows (hn : n < 9) (hr : s.chip.domainRuns 4 = true) (ht : s.chip.Takes n 5 pk) (hop : fieldBE pk.bytes 4 1 = 8) :
    Does (.swapRequestRx n pk) s fun t => t.f (F.linkEvtSwapReq n) = 1
      ∧ ⟨if fieldBE pk.bytes 9 1 = 4 then 0x02 else if fieldBE pk.bytes 9 1 = 5 then 0x03 else 0x01,
          laneInst n (fieldBE pk.bytes 7 1), false⟩ ∈ t.reports := by
  obtain ⟨d, _, huse⟩ := Chip.rxUse_took (State.fresh_takes ht)
  refine Does.of_runIn (fun c => c.swapRequestRx n pk) rfl hr (by simpa using hn) (Chip.swapRequestRx_reports huse hop)
    fun t ht _ _ => ⟨?_, ht.reports ▸ List.mem_append_right _ (List.mem_singleton_self _)⟩
  rw [ht.f_reg (by simp) (linkEvt_ge n), Chip.report_f, Chip.f_ev_self _ (by simp [F.linkEvtSwapReq]) (by simp [F.linkEvtSwapReq])]

/-- The answers of mate 1. -/
theorem headSwap_shows (hr : s.chip.domainRuns 4 = true) (hrole : s.chip.headRole 8 = true) (ht : s.chip.Takes 8 5 pk)
    (hst : s.chip.linkSt 8 = lkActive) :
    (fieldBE pk.bytes 4 1 = 1 → (s.chip.link 8).swap = none →
      ((∀ w, (s.chip.link 8).lastSwap = some w → w.xid ≠ fieldBE pk.bytes 5 1) →
        Does (.swapPrepareRx pk) s fun t => t.f (F.swapStatBusy 8) = 1 ∧ t.f (F.swapStatStep 8) = 3
          ∧ ∃ b, .packet 8 (mkPacket 5 b) ∈ t.out)
      ∧ ∀ w, (s.chip.link 8).lastSwap = some w → w.xid = fieldBE pk.bytes 5 1 →
        Does (.swapPrepareRx pk) s fun t => (∃ b, t.out = [.packet 8 (mkPacket 5 b)]) ∧ s.chip.Keeps t [])
    ∧ ∀ w, (s.chip.link 8).swap = some w → fieldBE pk.bytes 4 1 = 4 → fieldBE pk.bytes 5 1 = w.xid → w.step = 5 →
      Does (.swapCommitRx pk) s fun t => t.f (F.swapStatStep 8) = 7 ∧ ∃ b, t.out = [.packet 8 (mkPacket 5 b)] := by
  obtain ⟨d, hd, huse⟩ := Chip.rxUse_took (State.fresh_takes ht)
  have hsd : (d.link 8).swap = (s.chip.link 8).swap := hd.link LinkS.swap fun _ _ _ => rfl
  have hld : (d.link 8).lastSwap = (s.chip.link 8).lastSwap := hd.link LinkS.lastSwap fun _ _ _ => rfl
  have hstd : d.linkSt 8 = lkActive := (hd.linkSt 8).trans hst
  refine ⟨fun hop hnone => ⟨fun hno => ?_, fun w hlast hx => ?_⟩, fun w hw hop hx hstep => ?_⟩
  case refine_1 =>
    have hpast : d.swapPast 8 (fieldBE pk.bytes 5 1) = none := by
      rw [Chip.swapPast, hld, Option.filter_eq_none_iff]
      exact fun w hw => by simpa using hno w hw
    obtain ⟨h1, h2, b, h3⟩ := Chip.swapPrepareRx_new (c := s.fresh) hrole huse hop hstd (hsd.trans hnone) hpast
    exact Does.of_runIn (fun c => c.swapPrepareRx pk) rfl hr rfl rfl fun t ht ho _ =>
      ⟨(ht.f_reg (by simp) (swapStat_lo 8)).trans h1, (ht.f_reg (by simp) (swapStat_lo 8)).trans h2, b, ho ▸ h3⟩
  case refine_2 =>
    have hpast : d.swapPast 8 (fieldBE pk.bytes 5 1) = some w := by
      rw [Chip.swapPast, hld, hlast, Option.filter_some_pos (by simp [hx])]
    refine Does.of_sendsPacket (fun c => c.swapPrepareRx pk) rfl hr rfl ?_
    obtain ⟨b, hsend⟩ := Chip.swapAgain_prepare (c := d) (w := w) ((hd.headRole 8).trans hrole)
    exact ⟨b, (Chip.swapPrepareRx_past (c := s.fresh) hrole huse hop hstd (hsd.trans hnone) hpast) ▸ hd.sends hsend⟩
  case refine_3 =>
    obtain ⟨h1, b, h2⟩ := Chip.swapCommitRx_sends (c := s.fresh) hrole huse (hsd.trans hw) hop hx hstep
    exact Does.of_runIn (fun c => c.swapCommitRx pk) rfl hr rfl rfl fun t ht ho _ =>
      ⟨(ht.f_reg (by simp) (swapStat_lo 8)).trans h1, b, by rw [ho, h2, hd.out]; rfl⟩

end Commands

/-- Settles O17: each message of a SWAP is used by the step that waits for it, in the device that has taken it. -/
theorem swapExchange : Obligations.SwapExchange := by
  refine ⟨fun s n pk hn hr => ⟨fun src v hw => swapGo_shows hn hw, fun w hw hx => ?_⟩,
    fun s n pk hn hr => ⟨fun ht hop => swapRequest_shows hn hr ht hop, fun hrole ht hst => headSwap_shows hr hrole ht hst⟩⟩
  exact ⟨swapPrepareAck_shows hn hr hw hx, swapReady_commits hn hr hw hx, swapReady_repeats hn hr hw hx,
    swapCommitAck_shows hn hr hw hx, swapDone_shows hn hr hw hx, swapAbort_shows hn hr hw hx, swapTimeout_shows hn hr hw,
    swapResend_shows hn hr hw⟩

end Sys2Proof.Machine
end

section
/-! SUPPORT. What leaves a device with nothing left over as quiet as it was, and what a device reset leaves (R411, R413). -/

namespace Sys2Proof.Machine

/-! ### Nothing left over -/

/-- What a device has left over, and the registers beyond the links, are in `d` as in `c`. -/
structure Chip.Rests (c d : Chip) : Prop where
  reports : d.reports = c.reports
  defers : d.defers = c.defers
  waiting : d.fc.waiting = c.fc.waiting
  stopping : d.job.stopping = c.job.stopping
  serveDseq : d.pair.serveDseq = c.pair.serveDseq
  far : ∀ a, 0x1A0000 ≤ a → d.rd a = c.rd a

section Rests
variable {c d u : Chip}

theorem Chip.Rests.refl (c : Chip) : c.Rests c := ⟨rfl, rfl, rfl, rfl, rfl, fun _ _ => rfl⟩

theorem Chip.Rests.trans (h : c.Rests d) (k : d.Rests u) : c.Rests u :=
  ⟨k.reports.trans h.reports, k.defers.trans h.defers, k.waiting.trans h.waiting, k.stopping.trans h.stopping,
    k.serveDseq.trans h.serveDseq, fun a ha => (k.far a ha).trans (h.far a ha)⟩

theorem Chip.Rests.setF (h : c.Rests d) {x : Fld} (v : Nat) (hx : x.addr < 0x1A0000) : c.Rests (d.setF x v) :=
  h.trans ⟨rfl, rfl, rfl, rfl, rfl, fun a ha => Chip.rd_setF_ne _ _ (by omega)⟩

theorem Chip.Rests.wr (h : c.Rests d) {a : Nat} (v : Word) (ha : a < 0x1A0000) : c.Rests (d.wr a v) :=
  h.trans ⟨rfl, rfl, rfl, rfl, rfl, fun b hb => Chip.rd_wr_ne _ _ (by omega)⟩

theorem Chip.Rests.modLink (h : c.Rests d) (n : Nat) (g : LinkS → LinkS) : c.Rests (d.modLink n g) :=
  h.trans ⟨rfl, rfl, rfl, rfl, rfl, fun _ _ => rfl⟩

theorem Chip.Rests.sendPacket (h : c.Rests d) (n typ : Nat) (body : List Byte) : c.Rests (d.sendPacket n typ body) :=
  h.trans ⟨rfl, rfl, rfl, rfl, rfl, fun _ _ => rfl⟩

theorem Chip.Alike.rests {e : Chip} {l : List Nat} (h : e.Alike d l) (hl : ∀ a ∈ l, a = R.scpSession) : e.Rests d :=
  ⟨h.reports, h.defers, by rw [h.fc], by rw [h.job], by rw [h.pair], fun a ha => h.rd_reg hl (by omega)⟩

theorem Chip.Rests.quiet (h : c.Rests d) (hc : c.Quiet) : d.Quiet := by
  obtain ⟨h1, h2, h3, h4, h5, hfe, hstc, hie, hcs, hssp⟩ := hc
  have hfb : ∀ x : Fld, 0x1A0000 ≤ x.addr → d.fb x = c.fb x := fun x hx => by
    rw [Chip.fb_eq, Chip.fb_eq, Chip.f_eq, Chip.f_eq, h.far _ hx]
  exact ⟨h.reports.trans h1, h.defers.trans h2, h.waiting.trans h3, h.stopping.trans h4, h.serveDseq.trans h5,
    fun n hn => (hfb _ (by simp only [F.feStatOldBusy, R.feStat]; omega)).trans (hfe n hn), (hfb _ (by decide)).trans hstc,
    (hfb _ (by decide)).trans hie, (hfb _ (by decide)).trans hcs, (hfb _ (by decide)).trans hssp⟩

end Rests

/-- The command answers a next state, and on a device with nothing left over that state is as `Q` says. -/
def Answers (i : Instr) (s : State) (Q : Chip → Prop) : Prop :=
  ∃ t, exec i s = .next { s with chip := t } ∧ (s.chip.Quiet → Q t)

section Answers
variable {i : Instr} {s : State} {Q : Chip → Prop}

theorem Answers.of_run (f : Chip → Chip) (h : exec i s = run s f) (hq : s.chip.Quiet → (f s.fresh).Quiet)
    (hp : ∀ d, (f s.fresh).Alike d [] → d.out = (f s.fresh).out → Q d) : Answers i s Q :=
  ⟨(f s.fresh).settle, h, fun hs => by
    rw [(f s.fresh).settle_quiet (hq hs)]
    exact hp _ (Chip.Alike.sum _ _) rfl⟩

theorem Answers.of_runIn {k : Nat} {ok : Bool} (f : Chip → Chip) (h : exec i s = runIn s k ok f) (hk : s.chip.domainRuns k = true)
    (hok : ok = true) (hq : s.chip.Quiet → (f s.fresh).Quiet)
    (hp : ∀ d, (f s.fresh).Alike d [] → d.out = (f s.fresh).out → Q d) : Answers i s Q :=
  Answers.of_run f (by
    have hrun : ({ s.chip with out := [] } : Chip).domainRuns k = true := hk
    rw [h]
    simp only [runIn, run, hok, hrun, Bool.and_self, if_true]) hq hp

theorem Answers.of_write {src : Src} {a : Nat} {v : Word} (h : exec i s = run s fun c => c.writeOp src a v)
    (ha : s.chip.Allows src a v) (hq : s.fresh.Rests (s.fresh.regStore src a v).1)
    (hp : ∀ d, (s.fresh.regStore src a v).1.Alike d [R.scpSession]
      → d.out = (s.fresh.regStore src a v).1.out ++ [.status (s.fresh.regStore src a v).2] → Q d) : Answers i s Q := by
  obtain ⟨h1, h2⟩ := Chip.writeOp_allowed (State.fresh_allows ha)
  have hquiet : s.chip.Quiet → (s.fresh.writeOp src a v).Quiet := (hq.trans (h1.rests (by simp))).quiet (c := s.fresh)
  refine ⟨(s.fresh.writeOp src a v).settle, h, fun hs => ?_⟩
  rw [Chip.settle_quiet _ (hquiet hs)]
  exact hp _ (h1.trans (Chip.Alike.sum _ _)) h2

end Answers

/-! ### A write in the block of the resets (R414) -/

theorem Chip.regStore_rst (c : Chip) (src : Src) {a : Nat} (v : Word) {r : RegRow} {ix : List Nat} (hr : regAt a = some (r, ix))
    (h1 : 0x18000 ≤ a) (h2 : a < 0x20000) :
    c.regStore src a v = ((c.wr a (r.store (c.rd a) v)).rstWritten (a - 0x18000) (c.rd a) v, 0) := by
  have hw : windowReg a = false := by
    unfold windowReg
    rw [Bool.or_eq_false_iff, List.any_eq_false]
    refine ⟨beq_eq_false_iff_ne.2 (by unfold R.optData; omega), fun n hn ha => ?_⟩
    have ha := eq_of_beq ha
    unfold R.feTblData at ha
    omega
  have hj : ruledReg a = false := by
    unfold ruledReg R.jobPortOff R.jobProdOff
    rw [Bool.or_eq_false_iff, beq_eq_false_iff_ne, beq_eq_false_iff_ne]
    omega
  have hbank : spoilAddr a = a := by
    have hrange : ∀ r ∈ bankRanges, 0x20000 ≤ r.1 := by decide
    have hb : bankOf a = none := by
      rw [bankOf, Option.map_eq_none_iff, List.find?_eq_none]
      intro r hm
      have := hrange r hm
      simp only [Bool.and_eq_true, decide_eq_true_eq]
      omega
    rw [spoilAddr, hb]
  have hspoil : ∀ d : Chip, d.spoils a = d := fun d => by
    have hs : ∀ b ∈ [R.ieRefBase 0, R.ieRefStride 0, R.ieRefW 0, R.ieRefH 0, R.jobRefCrc, R.ieRuleBase 0, R.ieRuleTy 0,
        R.stcWeb 0, R.jobRuleCrc], 0x20000 ≤ b := by decide
    exact d.spoils_other fun hm => absurd (hs a hm) (by omega)
  have hblock : ∀ d : Chip, d.blockWritten src a (c.rd a) v = (d.rstWritten (a - 0x18000) (c.rd a) v, 0) := fun d => by
    unfold Chip.blockWritten
    rw [if_neg (by omega), if_neg (by omega), if_pos h2]
  simp [Chip.regStore, hr, hw, hj, hblock, hbank, hspoil]

/-! ### A device reset (R411, R413) -/

theorem sget_filter_key {α : Type} (d : Nat → α) (m : List (Nat × α)) (p : Nat → Bool) (k : Nat) :
    sget d (m.filter fun x => p x.1) k = if p k then sget d m k else d k := by
  induction m with
  | nil => simp [sget]
  | cons x rest ih =>
    obtain ⟨j, v⟩ := x
    by_cases hj : p j = true
    · rw [List.filter_cons_of_pos (p := fun x : Nat × α => p x.1) hj, sget, sget, ih]
      by_cases hjk : j = k
      · rw [if_pos hjk, if_pos hjk, if_pos (hjk ▸ hj)]
      · rw [if_neg hjk, if_neg hjk]
    · rw [List.filter_cons_of_neg (p := fun x : Nat × α => p x.1) hj, ih, sget]
      by_cases hk : p k = true
      · rw [if_pos hk, if_pos hk, if_neg fun hjk : j = k => hj (hjk ▸ hk)]
      · rw [if_neg hk, if_neg hk]

section Reset
variable (c : Chip)

/-- The pulse that ends touches the count of pulses and the option store alone. -/
theorem Chip.optSettle_same {β : Type} (p : Chip → β) (ho : ∀ (u : Chip) o, p { u with opt := o } = p u)
    (hi : ∀ u : Chip, p (u.inc F.optWrCntCount) = p u) : p c.optSettle = p c := by
  unfold Chip.optSettle
  split
  · rfl
  · refine (foldl_keeps p (fun u _ => ho u _) _ _).trans ?_
    split
    · rfl
    · exact (ho _ _).trans (hi c)

/-- The registers that show the straps and words of the option store again, and the mate's service bit. -/
def Chip.shownAgain (c : Chip) (strap : Word) : Chip :=
  let d := ((c.wr R.glbStrap strap).shpBudget).optShow
  d.setF F.plStatSvc (if d.pairMode then 1 else 0)

theorem Chip.shownAgain_eq (strap : Word) : ∃ rg, c.shownAgain strap = { c with regs := rg } := by
  unfold Chip.shownAgain Chip.shpBudget
  dsimp only
  split <;> exact ⟨_, rfl⟩

theorem Chip.shownAgain_rd (strap : Word) {a : Nat} (h : 0x10000 ≤ a ∧ a < 0x20000 ∨ 0x1A0000 ≤ a) :
    (c.shownAgain strap).rd a = c.rd a := by
  have hne : ∀ b, b < 0x10000 ∨ 0x20000 ≤ b ∧ b < 0x1A0000 → a ≠ b := by omega
  unfold Chip.shownAgain Chip.optShow Chip.shpBudget
  dsimp only
  rw [Chip.rd_setF_ne _ _ (hne _ (by decide)), Chip.rd_setF_ne _ _ (hne _ (by decide)), Chip.rd_setF_ne _ _ (hne _ (by decide)),
    Chip.rd_setF_ne _ _ (hne _ (by decide)), Chip.rd_wr_ne _ _ (hne _ (by decide)), Chip.rd_wr_ne _ _ (hne _ (by decide)),
    Chip.rd_wr_ne _ _ (hne _ (by decide))]
  split
  · rw [Chip.rd_setF_ne _ _ (hne _ (by decide)), Chip.rd_wr_ne _ _ (hne _ (by decide))]
  · rw [Chip.rd_wr_ne _ _ (hne _ (by decide))]

/-- `r` is `c` after a device reset: CLK and RST keep their registers, those beyond the links are at their reset values, and nothing
is left over. -/
structure Chip.ResetOf (c r : Chip) : Prop where
  kept : ∀ a, 0x10000 ≤ a → a < 0x20000 → r.rd a = c.rd a
  far : ∀ a, 0x1A0000 ≤ a → r.rd a = resetVal a
  hold : r.boot.hold = true
  trip : r.boot.trip = c.boot.trip
  reports : r.reports = []
  defers : r.defers = []
  waiting : c.fc.waiting = [] → r.fc.waiting = []
  stopping : r.job.stopping = false
  serveDseq : r.pair.serveDseq = false

theorem Chip.deviceReset_is : c.ResetOf c.deviceReset := by
  obtain ⟨d, strap, hd, hregs, hboot, hrep, hdef, hwait, hstop, hserve⟩ : ∃ (d : Chip) (strap : Word), c.deviceReset = d.shownAgain strap
      ∧ d.regs = c.optSettle.regs.filter (fun p => decide (0x10000 ≤ p.1) && decide (p.1 < 0x20000))
      ∧ (d.boot.hold = true ∧ d.boot.trip = c.optSettle.boot.trip) ∧ d.reports = [] ∧ d.defers = []
      ∧ d.fc.waiting = c.optSettle.fc.waiting.filter (fun p => 0x30 ≤ p.1.src && decide (p.1.src < 0x40))
      ∧ d.job.stopping = false ∧ d.pair.serveDseq = false := ⟨_, _, rfl, rfl, ⟨rfl, rfl⟩, rfl, rfl, rfl, rfl, rfl⟩
  have hrd : ∀ a, d.rd a = if (decide (0x10000 ≤ a) && decide (a < 0x20000)) = true then c.optSettle.rd a else resetVal a := fun a => by
    rw [Chip.rd, hregs]
    exact sget_filter_key resetVal _ (fun k => decide (0x10000 ≤ k) && decide (k < 0x20000)) a
  have hopt : ∀ a, a < 0x20000 → c.optSettle.rd a = c.rd a := fun a ha =>
    c.optSettle_same (fun u => u.rd a) (fun _ _ => rfl) fun u => Chip.rd_setF_ne _ _ (by simp only [F.optWrCntCount, R.optWrCnt]; omega)
  obtain ⟨rg, heq⟩ := d.shownAgain_eq strap
  rw [hd]
  refine ⟨fun a h1 h2 => ?_, fun a ha => ?_, ?_, ?_, ?_, ?_, fun hw => ?_, ?_, ?_⟩
  · rw [d.shownAgain_rd strap (Or.inl ⟨h1, h2⟩), hrd, if_pos (by simp [h1, h2]), hopt a h2]
  · rw [d.shownAgain_rd strap (Or.inr ha), hrd, if_neg (by simp; omega)]
  · rw [heq]
    exact hboot.1
  · rw [heq]
    exact hboot.2.trans (c.optSettle_same (fun u => u.boot.trip) (fun _ _ => rfl) fun _ => rfl)
  · rw [heq]
    exact hrep
  · rw [heq]
    exact hdef
  · rw [heq, hwait, c.optSettle_same (fun u => u.fc.waiting) (fun _ _ => rfl) fun _ => rfl, hw]
    rfl
  · rw [heq]
    exact hstop
  · rw [heq]
    exact hserve

theorem oldBusy_reset : (∀ n < 8, getBits (resetVal (R.feStat n)) 30 1 = 0) ∧ getBits (resetVal R.stcStat) 30 1 = 0
    ∧ getBits (resetVal R.ieStat) 30 1 = 0 ∧ getBits (resetVal R.csStat) 30 1 = 0 ∧ getBits (resetVal R.sspStat) 30 1 = 0 := by
  decide +kernel

variable {c}

theorem Chip.ResetOf.quiet {r : Chip} (h : c.ResetOf r) (hw : c.fc.waiting = []) : r.Quiet := by
  obtain ⟨hfe, hstc, hie, hcs, hssp⟩ := oldBusy_reset
  have hfb : ∀ x : Fld, 0x1A0000 ≤ x.addr → getBits (resetVal x.addr) x.lo x.width = 0 → r.fb x = false := fun x hx h0 => by
    rw [Chip.fb_eq, Chip.f_eq, h.far _ hx, h0]
    rfl
  exact ⟨h.reports, h.defers, h.waiting hw, h.stopping, h.serveDseq,
    fun n hn => hfb _ (by simp only [F.feStatOldBusy, R.feStat]; omega) (hfe n hn), hfb _ (by decide) hstc, hfb _ (by decide) hie,
    hfb _ (by decide) hcs, hfb _ (by decide) hssp⟩

/-- A device reset with its cause and its count. -/
theorem Chip.deviceResetBy_notes (hs : c.strapHold = false) (cause : Nat) : (c.deviceResetBy cause).boot.hold = true
    ∧ (c.deviceResetBy cause).boot.trip = c.boot.trip
    ∧ (c.deviceResetBy cause).rd R.rstCause = putBits (c.rd R.rstCause) cause 1 1
    ∧ (c.deviceResetBy cause).f F.rstCountCount = satAdd F.rstCountCount.width (c.f F.rstCountCount) 1
    ∧ (c.deviceResetBy cause).rd R.rstLastFault = c.rd R.rstLastFault
    ∧ (c.fc.waiting = [] → (c.deviceResetBy cause).Quiet) := by
  have h := c.deviceReset_is
  have hrests : c.deviceReset.Rests ((c.deviceReset.inc F.rstCountCount).setF ⟨R.rstCause, cause, 1⟩ 1) :=
    ((Chip.Rests.refl _).setF (x := F.rstCountCount) _ (by decide)).setF 1 (by simp [R.rstCause])
  rw [Chip.deviceResetBy, hs, if_neg Bool.false_ne_true]
  generalize c.deviceReset = r at h hrests ⊢
  refine ⟨h.hold, h.trip, ?_, ?_, ?_, fun hw => hrests.quiet (h.quiet hw)⟩
  · rw [Chip.rd_setF, if_pos rfl, Chip.inc_def, Chip.rd_setF_ne _ _ (by decide), h.kept _ (by decide) (by decide)]
  · rw [Chip.f_setF_ne _ _ (show R.rstCount ≠ R.rstCause by decide), Chip.f_inc_self _ (by decide), Chip.f_eq, Chip.f_eq,
      h.kept _ (by decide) (by decide)]
  · rw [Chip.rd_setF_ne _ _ (show R.rstLastFault ≠ R.rstCause by decide), Chip.inc_def, Chip.rd_setF_ne _ _ (by decide),
      h.kept _ (by decide) (by decide)]

end Reset

end Sys2Proof.Machine
end

section
/-! Echo samples (R101, R108, R109), the watchdog's kick, the reset requests between the mates (R414), and the thermal trip (R448). -/

namespace Sys2Proof.Machine

/-! ### The largest and the smallest sample of a set -/

theorem foldl_max_eq {α : Type} [LinearOrder α] {l : List α} {hi a : α} (hmem : a = hi ∨ hi ∈ l) (ha : a ≤ hi)
    (hall : ∀ x ∈ l, x ≤ hi) :
    l.foldl max a = hi := by
  induction l generalizing a with
  | nil => exact hmem.resolve_right (by simp)
  | cons x xs ih =>
    have hx := hall x List.mem_cons_self
    refine ih ?_ (max_le ha hx) fun y hy => hall y (List.mem_cons_of_mem _ hy)
    rcases hmem with rfl | hmem
    · exact Or.inl (max_eq_left hx)
    · rcases List.mem_cons.1 hmem with rfl | hmem
      · exact Or.inl (max_eq_right ha)
      · exact Or.inr hmem

theorem headD_mem {α : Type} {l : List α} (h : l ≠ []) (d : α) : l.headD d ∈ l := by
  cases l with
  | nil => exact absurd rfl h
  | cons x xs => exact List.mem_cons_self

/-- A fold that selects stays within the list. -/
theorem foldl_mem {α : Type} {f : α → α → α} (hf : ∀ a b, f a b = a ∨ f a b = b) {l m : List α} {a : α} (ha : a ∈ m)
    (hl : ∀ x ∈ l, x ∈ m) : l.foldl f a ∈ m := by
  induction l generalizing a with
  | nil => exact ha
  | cons x xs ih =>
    refine ih ?_ fun y hy => hl y (List.mem_cons_of_mem _ hy)
    rcases hf a x with h | h
    · rw [h]
      exact ha
    · rw [h]
      exact hl x List.mem_cons_self

theorem foldl_max_headD {l : List Int} {hi : Int} (h : hi ∈ l) (hall : ∀ x ∈ l, x ≤ hi) : l.foldl max (l.headD 0) = hi :=
  foldl_max_eq (Or.inr h) (hall _ (headD_mem (List.ne_nil_of_mem h) 0)) hall

theorem foldl_min_headD {l : List Int} {lo : Int} (h : lo ∈ l) (hall : ∀ x ∈ l, lo ≤ x) : l.foldl min (l.headD 0) = lo :=
  foldl_max_eq (α := Intᵒᵈ) (Or.inr h) (hall _ (headD_mem (List.ne_nil_of_mem h) 0)) hall

/-- Where any two elements lie within a bound, so do the largest and the smallest. -/
theorem foldl_spread_le {l : List Int} {k : Int} (hne : l ≠ []) (h : ∀ x ∈ l, ∀ y ∈ l, x - y ≤ k) :
    l.foldl max (l.headD 0) - l.foldl min (l.headD 0) ≤ k :=
  h _ (foldl_mem max_choice (headD_mem hne 0) fun _ hx => hx) _ (foldl_mem min_choice (headD_mem hne 0) fun _ hx => hx)

/-! ### ECHO (R101, R108, R109) -/

section Echo
variable {c : Chip} {n : Nat}

/-- What an ECHO of a probe makes of the set. -/
def LinkS.echoed (l : LinkS) (pid : Nat) (sample : Int) : LinkS :=
  { l with probes := l.probes.filter (·.1 != pid), samples := l.samples ++ [sample] }

theorem Chip.echoRx_adds {block : List Byte} {rtt : Nat} (hpcs : c.pcsRuns n = true) (htyp : fieldBE block 0 1 = 0x4B)
    (hok : blockOk block 6 = true) (hlat : c.latMeasuring n = true)
    (hany : (c.link n).probes.any (fun p => p.1 == fieldBE block 1 1) = true) :
    c.echoRx n block rtt =
      let d := c.modLink n fun l => l.echoed (fieldBE block 1 1) ((rtt : Int) - (fieldBE block 2 4 : Int))
      if (d.link n).sent = 16 ∧ (d.link n).probes.isEmpty then d.latDone n else d := by
  rw [Chip.echoRx, if_neg (by simp [hpcs, htyp]), hok, if_neg (by simp)]
  dsimp only
  rw [if_pos ⟨hlat, hany⟩]
  rfl

theorem Chip.imageWrite_rests : c.Rests (c.imageWrite n) := by
  unfold Chip.imageWrite
  split
  · split
    · exact .refl c
    · exact ((Chip.Rests.refl c).modLink n _).sendPacket n 2 _
  · exact (Chip.Rests.refl c).modLink n _

theorem Chip.imageWrite_sent : c.out <+: (c.imageWrite n).out := by
  unfold Chip.imageWrite
  split
  · split
    · exact List.prefix_refl _
    · exact List.prefix_append ..
  · exact List.prefix_refl _

/-- TIME is sent, and the registers of the head follow. -/
theorem Chip.configTime_sends : c.Rests (c.configTime n) ∧ (∀ x, (c.configTime n).f x = c.f x)
    ∧ ∃ b, .packet n (mkPacket 3 b) ∈ (c.configTime n).out := by
  obtain ⟨d, b, hd, hrests, hout, hregs⟩ : ∃ (d : Chip) (b : List Byte), c.configTime n = d.imageWrite n ∧ c.Rests d
      ∧ d.out = c.out ++ [.packet n (mkPacket 3 b)] ∧ d.regs = c.regs :=
    ⟨_, _, rfl, (((Chip.Rests.refl c).sendPacket n 3 _).modLink n _).modLink n _, rfl, rfl⟩
  rw [hd]
  refine ⟨hrests.trans Chip.imageWrite_rests, fun x => (d.imageWrite_f x).trans (Chip.f_congr hregs x), b, ?_⟩
  exact Chip.imageWrite_sent.subset (hout ▸ List.mem_append_right _ (List.mem_singleton_self _))

/-- A set whose samples but for the largest and the smallest lie within 1 ns gives L_DOWN in the configuration. -/
theorem Chip.latDone_configures (hn : n < 9) {hi lo : Int} (hst : c.linkSt n = lkConfigure) (hhi : hi ∈ (c.link n).samples)
    (hlo : lo ∈ (c.link n).samples) (hall : ∀ x ∈ (c.link n).samples, lo ≤ x ∧ x ≤ hi)
    (hne : ((c.link n).samples.erase hi).erase lo ≠ [])
    (hnear : ∀ x ∈ ((c.link n).samples.erase hi).erase lo, ∀ y ∈ ((c.link n).samples.erase hi).erase lo, x - y ≤ 32) :
    c.Rests (c.latDone n) ∧ (c.latDone n).f (F.latLDown n) = ((((c.link n).samples.erase hi).erase lo).sum
        / (2 * (((c.link n).samples.erase hi).erase lo).length : Nat)).toNat % 2 ^ 24
      ∧ ∃ b, .packet n (mkPacket 3 b) ∈ (c.latDone n).out := by
  have hmax := foldl_max_headD hhi fun x hx => (hall x hx).2
  have hmin := foldl_min_headD hlo fun x hx => (hall x hx).1
  have hspread := foldl_spread_le hne hnear
  generalize hkept : ((c.link n).samples.erase hi).erase lo = kept at hne hspread ⊢
  obtain ⟨g, hd⟩ : ∃ g : LinkS → LinkS, c.latDone n = (((c.modLink n fun l => { l with latRun := false }).setF (F.latLDown n)
      (kept.sum / (2 * kept.length : Nat)).toNat).modLink n g).configTime n := by
    unfold Chip.latDone
    dsimp only
    rw [hmax, hmin, hkept, if_neg (by rw [List.isEmpty_iff]; exact not_or.2 ⟨hne, by omega⟩), hst, if_pos (by rfl)]
    exact ⟨_, rfl⟩
  rw [hd]
  have hrests : c.Rests (((c.modLink n fun l => { l with latRun := false }).setF (F.latLDown n)
      (kept.sum / (2 * kept.length : Nat)).toNat).modLink n g) := by
    exact (((Chip.Rests.refl c).modLink n _).setF _ (by simp only [F.latLDown, R.lat]; omega)).modLink n g
  obtain ⟨h1, h2, h3⟩ := Chip.configTime_sends (c := ((c.modLink n fun l => { l with latRun := false }).setF (F.latLDown n)
    (kept.sum / (2 * kept.length : Nat)).toNat).modLink n g) (n := n)
  exact ⟨hrests.trans h1, (h2 _).trans (Chip.f_setF_self _ _ (by simp [F.latLDown])), h3⟩

/-- The link and its set after an ECHO that ends it or not. -/
theorem echoRx_answers {s : State} {block : List Byte} {rtt : Nat} (hn : n < 8) (hl : n < s.chip.links.length)
    (hr : s.chip.domainRuns 4 = true) (hpcs : s.chip.pcsRuns n = true) (htyp : fieldBE block 0 1 = 0x4B)
    (hok : blockOk block 6 = true) (hlat : s.chip.latMeasuring n = true)
    (hany : (s.chip.link n).probes.any (fun p => p.1 == fieldBE block 1 1) = true) :
    let left := (s.chip.link n).probes.filter fun p => p.1 != fieldBE block 1 1
    let samples := (s.chip.link n).samples ++ [(rtt : Int) - (fieldBE block 2 4 : Int)]
    (¬((s.chip.link n).sent = 16 ∧ left = []) →
      Answers (.echoRx n block rtt) s fun t => (t.link n).samples = samples ∧ (t.link n).probes = left ∧ s.chip.Keeps t [])
    ∧ ((s.chip.link n).sent = 16 → left = [] → s.chip.linkSt n = lkConfigure →
      ∀ hi lo, hi ∈ samples → lo ∈ samples → (∀ x ∈ samples, lo ≤ x ∧ x ≤ hi) →
      let kept := (samples.erase hi).erase lo
      kept ≠ [] → (∀ x ∈ kept, ∀ y ∈ kept, x - y ≤ 32) →
      Answers (.echoRx n block rtt) s fun t => t.f (F.latLDown n) = (kept.sum / (2 * kept.length : Nat)).toNat % 2 ^ 24
        ∧ ∃ b, .packet n (mkPacket 3 b) ∈ t.out) := by
  intro left samples
  let d := s.fresh.modLink n fun l => l.echoed (fieldBE block 1 1) ((rtt : Int) - (fieldBE block 2 4 : Int))
  have hd : s.fresh.Rests d := (Chip.Rests.refl _).modLink n _
  have hlink : d.link n = (s.chip.link n).echoed (fieldBE block 1 1) ((rtt : Int) - (fieldBE block 2 4 : Int)) :=
    Chip.link_modLink (c := s.fresh) hl _
  have hsent : (d.link n).sent = (s.chip.link n).sent := by rw [hlink]; rfl
  have hleft : (d.link n).probes = left := by rw [hlink]; rfl
  have hsamples : (d.link n).samples = samples := by rw [hlink]; rfl
  have heq : s.fresh.echoRx n block rtt = if (d.link n).sent = 16 ∧ (d.link n).probes.isEmpty then d.latDone n else d :=
    Chip.echoRx_adds hpcs htyp hok hlat hany
  rw [hsent, hleft] at heq
  refine ⟨fun hopen => ?_, fun h16 hnone hst hi lo hhi hlo hall hne hnear => ?_⟩
  · rw [if_neg (by rwa [List.isEmpty_iff])] at heq
    refine Answers.of_runIn (fun c => c.echoRx n block rtt) rfl hr (by simpa using hn) (fun hs => ?_) fun t ht _ => ?_
    · exact heq ▸ hd.quiet (c := s.fresh) hs
    · rw [heq] at ht
      have htl := Chip.link_congr ht.links n
      exact ⟨htl ▸ hsamples, htl ▸ hleft, Chip.Keeps.settled (t := d) (Chip.Keeps.of_same rfl rfl) ht⟩
  · rw [if_pos ⟨h16, List.isEmpty_iff.2 hnone⟩] at heq
    obtain ⟨h1, h2, b, h3⟩ := Chip.latDone_configures (c := d) (by omega) hst (hsamples ▸ hhi) (hsamples ▸ hlo) (hsamples ▸ hall)
      (hsamples ▸ hne) (hsamples ▸ hnear)
    rw [hsamples] at h2
    refine Answers.of_runIn (fun c => c.echoRx n block rtt) rfl hr (by simpa using hn) (fun hs => ?_) fun t ht ho => ?_
    · exact heq ▸ (hd.trans h1).quiet (c := s.fresh) hs
    · rw [heq] at ht ho
      exact ⟨(ht.f_reg (by simp) (linkReg_ge n 0x10)).trans h2, b, ho ▸ h3⟩

end Echo

/-! ### The watchdog and the mates (R414) -/

section Resets
variable {s : State} {src : Src}

theorem rstReg_rows : (regAt R.rstWdtKick).isSome = true ∧ (regAt R.rstMate).isSome = true := by decide +kernel

theorem watchdogKick_answers (hw : s.chip.Allows src R.rstWdtKick 0xA5C3#32) :
    Answers (.watchdogKick src) s fun t => t.out = [.status 0] ∧ s.chip.Keeps t [R.rstWdtKick, R.scpSession] := by
  obtain ⟨⟨r, ix⟩, hrow⟩ := Option.isSome_iff_exists.1 rstReg_rows.1
  have heq : s.fresh.regStore src R.rstWdtKick 0xA5C3#32
      = (s.fresh.wr R.rstWdtKick (r.store (s.fresh.rd R.rstWdtKick) 0xA5C3#32), 0) :=
    s.fresh.regStore_rst src _ hrow (by decide) (by decide)
  refine Answers.of_write rfl hw ?_ fun d hd ho => ?_
  · rw [heq]
    exact (Chip.Rests.refl _).wr _ (by decide)
  · rw [heq] at hd ho
    exact ⟨ho, ((s.keeps_fresh _).wr (by simp)).alike hd (by simp)⟩

theorem rstMateReq_answers {v : Word} (hw : s.chip.Allows src R.rstMate (force F.rstMateReq 1 v)) (hp : s.chip.pairMode = true)
    (hst : s.chip.linkSt 8 = lkActive) : Answers (.rstMateReq src v) s fun t =>
      t.out = [.packet 8 (mkPacket 8 (natBytesBE 1 0x0D ++ natBytesBE 1 0 ++ natBytesBE 2 s.chip.pair.mseq ++ natBytesBE 8 0)),
        .status 0] := by
  obtain ⟨⟨r, ix⟩, hrow⟩ := Option.isSome_iff_exists.1 rstReg_rows.2
  have hgo : bitAt (force F.rstMateReq 1 v) 31 = true := bitAt_force (x := F.rstMateReq) 1 v (by decide) rfl
  let u := s.fresh.wr R.rstMate (r.store (s.fresh.rd R.rstMate) (force F.rstMateReq 1 v))
  have hup : u.pairMode = true ∧ u.linkSt 8 = lkActive := by
    refine ⟨?_, (Chip.f_wr_ne _ _ (by decide)).trans hst⟩
    rw [Chip.pairMode, Chip.rd_wr_ne _ _ (by decide)]
    exact hp
  have heq : s.fresh.regStore src R.rstMate (force F.rstMateReq 1 v)
      = (({ u with pair := { u.pair with mseq := (u.pair.mseq + 1) % 65536 } } : Chip).sendPacket 8 8
        (natBytesBE 1 0x0D ++ natBytesBE 1 0 ++ natBytesBE 2 s.chip.pair.mseq ++ natBytesBE 8 0), 0) := by
    have hmate : u.rstWritten 0x10 (s.fresh.rd R.rstMate) (force F.rstMateReq 1 v) = u.mateReset := if_pos hgo
    rw [s.fresh.regStore_rst src _ hrow (by decide) (by decide)]
    refine Prod.ext (hmate.trans ?_) rfl
    rw [Chip.mateReset, Chip.pairSend, if_pos hup]
    rfl
  refine Answers.of_write rfl hw ?_ fun d _ ho => ?_
  · rw [heq]
    have hu : s.fresh.Rests u := (Chip.Rests.refl _).wr _ (by decide)
    have hseq : u.Rests { u with pair := { u.pair with mseq := (u.pair.mseq + 1) % 65536 } } :=
      ⟨rfl, rfl, rfl, rfl, rfl, fun _ _ => rfl⟩
    exact (hu.trans hseq).sendPacket 8 8 _
  · rw [heq] at ho
    exact ho

/-- The mate's request is used in a device that is as the one before it in all but the link's data and the count of messages lost. -/
theorem Chip.pairUse_rests {c : Chip} {mtype : Nat} {pk : RxPkt} (h : c.Hears mtype pk) :
    ∃ d, c.Rests d ∧ (∀ a, a ≠ R.plMsgLost → d.rd a = c.rd a)
      ∧ ∀ g : Chip → List Byte → Chip, c.pairUse mtype pk g = g d pk.bytes := by
  obtain ⟨htake, hpair, hm⟩ := h
  obtain ⟨d, ⟨k, rfl, -⟩, huse⟩ := Chip.rxUse_took htake
  have hpair' : (c.modLink 8 k).pairMode = true := hpair
  obtain ⟨e, m, heq⟩ : ∃ e m : Nat, ∀ g : Chip → List Byte → Chip, c.pairUse mtype pk g
      = g (((c.modLink 8 k).add F.plMsgLostCount e).modPair fun p => { p with mateSeq := some m }) pk.bytes :=
    ⟨_, _, fun g => by rw [Chip.pairUse, huse, if_neg (by rw [hpair']; simp [hm])]⟩
  have hlost : c.Rests ((c.modLink 8 k).add F.plMsgLostCount e) :=
    ((Chip.Rests.refl c).modLink 8 k).setF (x := F.plMsgLostCount) _ (by decide)
  have hseq : ((c.modLink 8 k).add F.plMsgLostCount e).Rests (((c.modLink 8 k).add F.plMsgLostCount e).modPair fun p =>
      { p with mateSeq := some m }) := ⟨rfl, rfl, rfl, rfl, rfl, fun _ _ => rfl⟩
  refine ⟨_, hlost.trans hseq, fun a ha => ?_, heq⟩
  exact Chip.rd_setF_ne (c := c.modLink 8 k) (x := F.plMsgLostCount) _ ha

theorem Chip.strapHold_of_mgmtRuns {c : Chip} (h : c.mgmtRuns = true) : c.strapHold = false := by
  have h5 : 5 ≤ c.phase := by
    simp only [Chip.mgmtRuns, Bool.and_eq_true, decide_eq_true_eq] at h
    omega
  rw [Chip.strapHold, Bool.and_eq_false_imp]
  exact fun h3 => absurd (eq_of_beq h3) (by omega)

theorem mateResetRequestRx_answers {pk : RxPkt} (hr : s.chip.domainRuns 4 = true) (hh : s.chip.Hears 0x0D pk)
    (hen : s.chip.fb F.rstCfgMateEn = true) : Answers (.mateResetRequestRx pk) s fun t => t.boot.hold = true
      ∧ t.rd R.rstCause = putBits (s.chip.rd R.rstCause) 5 1 1
      ∧ t.f F.rstCountCount = satAdd F.rstCountCount.width (s.chip.f F.rstCountCount) 1 := by
  obtain ⟨d, hd, hrd, huse⟩ := Chip.pairUse_rests (State.fresh_hears hh)
  have hf : ∀ x : Fld, x.addr ≠ R.plMsgLost → d.f x = s.chip.f x := fun x hx => by rw [Chip.f_eq, hrd _ hx]; rfl
  have hmgmt : s.chip.mgmtRuns = true := by
    rw [Chip.domainRuns, Bool.and_eq_true] at hr
    exact hr.1
  have hstrap : d.strapHold = false := by
    rw [Chip.strapHold, Chip.phase, hf _ (by decide), hf _ (by decide)]
    exact Chip.strapHold_of_mgmtRuns hmgmt
  have heq : (s.fresh.pairUse 0x0D pk fun c _ => c.mateResetRx) = d.deviceResetBy 5 := by
    rw [huse, Chip.mateResetRx, if_pos]
    rw [Chip.fb_eq, hf _ (by decide), ← Chip.fb_eq]
    exact hen
  obtain ⟨h1, -, h3, h4, -, h6⟩ := Chip.deviceResetBy_notes hstrap 5
  refine Answers.of_runIn (fun c => c.pairUse 0x0D pk fun c _ => c.mateResetRx) rfl hr rfl (fun hs => ?_) fun t ht _ => ?_
  · obtain ⟨-, -, hwait, -⟩ := hs
    exact heq ▸ h6 (hd.waiting.trans hwait)
  · rw [heq] at ht
    refine ⟨ht.boot ▸ h1, ?_, ?_⟩
    · rw [ht.rd_reg (by simp) (by decide), h3, hrd _ (by decide)]
      rfl
    · rw [ht.f_reg (by simp) (by decide), h4, hf _ (by decide)]

/-! ### The thermal trip (R448) -/

theorem thermalTrip_reports (ht : s.chip.boot.trip = false) (hm : s.chip.mgmtRuns = true) :
    ∃ c : Chip, exec .thermalTrip s = .next { s with chip := c.settle } ∧ c.boot.trip = true
      ∧ ∃ k < 4, c.reports = s.chip.reports ++ [⟨0x42, k, false⟩] := by
  let d := s.fresh.modBoot fun b => { b with trip := true }
  have heq : s.fresh.thermalTrip = (d.fresh 20).2.report 0x42 ((d.fresh 20).1 % 4) := by
    rw [Chip.thermalTrip, if_neg (by rw [show s.fresh.boot.trip = false from ht]; exact Bool.false_ne_true)]
    exact if_pos (show d.mgmtRuns = true from hm)
  refine ⟨s.fresh.thermalTrip, rfl, ?_, (d.fresh 20).1 % 4, Nat.mod_lt _ (by decide), ?_⟩ <;> rw [heq] <;> rfl

theorem thermalTrip_resets (ht : s.chip.boot.trip = false) (hm : s.chip.mgmtRuns = false) (hs : s.chip.strapHold = false) :
    Answers .thermalTrip s fun t => t.boot.trip = true ∧ t.boot.hold = true ∧ t.rd R.rstLastFault = s.chip.rd R.fcFirst
      ∧ t.rd R.rstCause = putBits (s.chip.rd R.rstCause) 3 1 1 := by
  let d := s.fresh.modBoot fun b => { b with trip := true }
  let u := d.wr R.rstLastFault (d.rd R.fcFirst)
  have heq : s.fresh.thermalTrip = u.deviceResetBy 3 := by
    rw [Chip.thermalTrip, if_neg (by rw [show s.fresh.boot.trip = false from ht]; exact Bool.false_ne_true)]
    exact if_neg (by rw [show d.mgmtRuns = false from hm]; exact Bool.false_ne_true)
  have hstrap : u.strapHold = false := by
    rw [Chip.strapHold, Chip.phase, Chip.f_wr_ne _ _ (by decide), Chip.f_wr_ne _ _ (by decide)]
    exact hs
  obtain ⟨h1, h2, h3, -, h5, h6⟩ := Chip.deviceResetBy_notes hstrap 3
  refine Answers.of_run (fun c => c.thermalTrip) rfl (fun hq => ?_) fun t hd _ => ?_
  · obtain ⟨-, -, hwait, -⟩ := hq
    exact heq ▸ h6 hwait
  · rw [heq] at hd
    refine ⟨hd.boot ▸ h2, hd.boot ▸ h1, ?_, ?_⟩
    · rw [hd.rd_reg (by simp) (by decide), h5, Chip.rd_wr_self]
      rfl
    · rw [hd.rd_reg (by simp) (by decide), h3, Chip.rd_wr_ne _ _ (by decide)]
      rfl

theorem thermalTripRelease_answers :
    Answers .thermalTripRelease s fun t => t.boot = { s.chip.boot with trip := false } ∧ s.chip.Keeps t [] := by
  refine Answers.of_run (fun c => c.tripRelease) rfl (fun hs => ?_) fun t ht _ => ?_
  · exact Chip.Rests.quiet (c := s.fresh) ⟨rfl, rfl, rfl, rfl, rfl, fun _ _ => rfl⟩ hs
  · exact ⟨ht.boot, Chip.Keeps.settled (t := s.fresh.tripRelease) (Chip.Keeps.of_same rfl rfl) ht⟩

end Resets

/-- Settles O21: each effect leaves nothing over where nothing was, or resets the device, which leaves nothing. -/
theorem interventions : Obligations.Interventions := by
  intro s
  exact ⟨fun n block rtt hn hl hr hpcs htyp hok hlat hany => echoRx_answers hn hl hr hpcs htyp hok hlat hany,
    fun src hw => watchdogKick_answers hw, fun src v hw hp hst => rstMateReq_answers hw hp hst,
    fun pk hr hh hen => mateResetRequestRx_answers hr hh hen,
    fun ht => ⟨fun hm => thermalTrip_reports ht hm, fun hm hs => thermalTrip_resets ht hm hs⟩, thermalTripRelease_answers⟩

end Sys2Proof.Machine
end

section
/-! SUPPORT. Settling sends packets alone: the operations on the state, memories, front end, outputs, queues, stitcher. -/

namespace Sys2Proof.Machine

/-- What a command sends itself: all but packets. -/
@[simp] def Out.isTold : Out → Bool
  | .packet _ _ => false
  | _ => true

/-- What the command has sent but for packets. -/
def Chip.told (c : Chip) : List Out := c.out.filter Out.isTold

theorem Chip.told_of_out {c t : Chip} (h : t.out = c.out) : t.told = c.told := congrArg (List.filter Out.isTold) h

/-- A change of parts of the device other than what it sends. -/
theorem Chip.told_mk (c : Chip) (regs mem ecc opt win mcs cvus eqs cmt lanes ports links fes stc ie shp ssp job orb fc pair
    dma clk boot scp jtag retrain log headWrites reports defers freeCtr) :
    Chip.told ⟨regs, mem, ecc, opt, win, mcs, cvus, eqs, cmt, lanes, ports, links, fes, stc, ie, shp, ssp, job, orb, fc,
      pair, dma, clk, boot, scp, jtag, retrain, log, headWrites, reports, defers, c.out, freeCtr⟩ = c.told :=
  Chip.told_of_out rfl

@[simp] theorem Chip.told_ite (p : Prop) {_ : Decidable p} (a b : Chip) :
    (if p then a else b).told = if p then a.told else b.told := apply_ite Chip.told p a b

@[simp] theorem Chip.wr_told (c : Chip) (a : Nat) (v : Word) : (c.wr a v).told = c.told := Chip.told_of_out (c.wr_out ..)

@[simp] theorem Chip.setF_told (c : Chip) (x : Fld) (v : Nat) : (c.setF x v).told = c.told := Chip.told_of_out (c.setF_out ..)

@[simp] theorem Chip.setFb_told (c : Chip) (x : Fld) (b : Bool) : (c.setFb x b).told = c.told := Chip.told_of_out (c.setFb_out ..)

@[simp] theorem Chip.ev_told (c : Chip) (x : Fld) : (c.ev x).told = c.told := Chip.told_of_out (c.ev_out ..)

@[simp] theorem Chip.add_told (c : Chip) (x : Fld) (n : Nat) : (c.add x n).told = c.told := Chip.told_of_out (c.add_out ..)

@[simp] theorem Chip.inc_told (c : Chip) (x : Fld) : (c.inc x).told = c.told := Chip.told_of_out (c.inc_out ..)

@[simp] theorem Chip.each_told {α : Type} {g : Chip → α → Chip} (h : ∀ c x, (g c x).told = c.told) (l : List α)
    (c : Chip) : (c.each l g).told = c.told := foldl_keeps Chip.told h l c

@[simp] theorem Chip.when_told {g : Chip → Chip} (h : ∀ c, (g c).told = c.told) (b : Bool) (c : Chip) :
    (c.when b g).told = c.told := by
  cases b with
  | false => rfl
  | true => exact h c

/-! ### Operations on the state, the option store and the log -/

@[simp] theorem Chip.report_told (c : Chip) (src inst : Nat) : (c.report src inst).told = c.told :=
  Chip.told_mk ..

@[simp] theorem Chip.reportLow_told (c : Chip) (src inst : Nat) : (c.reportLow src inst).told = c.told :=
  Chip.told_mk ..

@[simp] theorem Chip.emit_told (c : Chip) (o : Out) : (c.emit o).told = c.told ++ [o].filter Out.isTold :=
  List.filter_append ..

@[simp] theorem Chip.fresh_told (c : Chip) (k : Nat) : (c.fresh k).2.told = c.told :=
  Chip.told_mk ..

@[simp] theorem Chip.setByte_told (c : Chip) (a : Nat) (b : Byte) : (c.setByte a b).told = c.told :=
  Chip.told_mk ..

@[simp] theorem Chip.setBytes_told (c : Chip) (a : Nat) (bs : List Byte) : (c.setBytes a bs).told = c.told := by
  induction bs generalizing c a with
  | nil => rfl
  | cons b bs ih => exact (ih ..).trans (Chip.setByte_told ..)

@[simp] theorem Chip.progWord_told (c : Chip) (i : Nat) (w : Word) : (c.progWord i w).told = c.told := by
  simp only [Chip.progWord, Chip.told_mk]
  simp

@[simp] theorem Chip.setOptWord_told (c : Chip) (i : Nat) (w : Word) : (c.setOptWord i w).told = c.told := by
  simp only [Chip.setOptWord, Chip.told_mk]
  simp

@[simp] theorem Chip.noteStale_told (c : Chip) (ids : List Nat) : (c.noteStale ids).told = c.told := by
  simp [Chip.noteStale]

end Sys2Proof.Machine
end

section
/-! SUPPORT. Settling sends packets alone: memories, front end, outputs, queues and stitcher. -/

namespace Sys2Proof.Machine

/-! ### Memories and the DDR5 channels -/

@[simp] theorem Chip.modMc_told (c : Chip) (n : Nat) (g : McS → McS) : (c.modMc n g).told = c.told :=
  Chip.told_mk ..

@[simp] theorem Chip.eccMeet_told (c : Chip) (word : Nat) (double : Bool) : (c.eccMeet word double).told = c.told := by
  simp only [Chip.eccMeet]
  split_ifs <;> simp

@[simp] theorem Chip.eccWrite_told (c : Chip) (a n : Nat) : (c.eccWrite a n).told = c.told := by
  simp [Chip.eccWrite, ↓Chip.told_mk]

@[simp] theorem Chip.memPut_told (c : Chip) (a : Nat) (bs : List Byte) : (c.memPut a bs).told = c.told := by
  simp [Chip.memPut]

@[simp] theorem Chip.mcRowRepair_told (c : Chip) (n : Nat) : (c.mcRowRepair n).1.told = c.told := by
  unfold Chip.mcRowRepair
  split <;> simp

/-! ### The front end -/

@[simp] theorem Chip.modFe_told (c : Chip) (n : Nat) (g : FeS → FeS) : (c.modFe n g).told = c.told :=
  Chip.told_mk ..

@[simp] theorem Chip.feExpect_told (c : Chip) (n trig tx bank : Nat) : (c.feExpect n trig tx bank).told = c.told := by
  simp [Chip.feExpect]

@[simp] theorem Chip.feNotSent_told (c : Chip) (n trig : Nat) : (c.feNotSent n trig).told = c.told := by
  simp [Chip.feNotSent]

@[simp] theorem Chip.portOffClosed_told (c : Chip) (n trig : Nat) : (c.portOffClosed n trig).told = c.told := by
  simp only [Chip.portOffClosed]
  split
  next => exact (Chip.told_mk ..).trans (by simp)
  next => rfl

@[simp] theorem Chip.feCloseAt_told (c : Chip) (n k : Nat) : (c.feCloseAt n k).told = c.told := by
  simp only [Chip.feCloseAt]
  split
  next => rfl
  next =>
    simp only [Chip.portOffClosed_told, Chip.told_ite, Chip.report_told, ite_self]
    split <;> simp

@[simp] theorem Chip.feClose_told (c : Chip) (n : Nat) : (c.feClose n).told = c.told := by
  simp [Chip.feClose]

@[simp] theorem Chip.feCloseN_told (c : Chip) (n k : Nat) : (c.feCloseN n k).told = c.told := by
  induction k generalizing c with
  | zero => rfl
  | succ k ih => exact (ih _).trans (Chip.feClose_told ..)

@[simp] theorem Chip.fePortLoss_told (c : Chip) (n : Nat) : (c.fePortLoss n).told = c.told := by
  simp [Chip.fePortLoss]

@[simp] theorem Chip.feDeadline_told (c : Chip) (n : Nat) : (c.feDeadline n).told = c.told := by
  refine Chip.each_told (fun c t => ?_) _ _
  split <;> simp

@[simp] theorem Chip.feRelease_told (c : Chip) (n : Nat) : (c.feRelease n).told = c.told := by
  simp [Chip.feRelease]

/-! ### The outputs of Comet -/

@[simp] theorem Chip.modCmt_told (c : Chip) (g : CmtS → CmtS) : (c.modCmt g).told = c.told :=
  Chip.told_mk ..

@[simp] theorem Chip.modOut_told (c : Chip) (k : Nat) (g : OutS → OutS) : (c.modOut k g).told = c.told := by
  simp [Chip.modOut]

@[simp] theorem Chip.outsUpdate_told (c : Chip) : c.outsUpdate.told = c.told := by
  simp [Chip.outsUpdate]

@[simp] theorem Chip.addWindow_told (c : Chip) (k : Nat) (w : OutWin) : (c.addWindow k w).told = c.told := by
  simp [Chip.addWindow]

@[simp] theorem Chip.recordWindow_told (c : Chip) (k : Nat) (enc0 enc1 : Int) : (c.recordWindow k enc0 enc1).told = c.told := by
  simp [Chip.recordWindow]

@[simp] theorem Chip.cometRecord_told (c : Chip) (reject mark : Bool) (enc0 enc1 : Int) :
    (c.cometRecord reject mark enc0 enc1).told = c.told := by
  simp [Chip.cometRecord]

@[simp] theorem Chip.strobeTrigger_told (c : Chip) (tx : Nat) : (c.strobeTrigger tx).told = c.told := by
  simp [Chip.strobeTrigger]

@[simp] theorem Chip.outsWithdraw_told (c : Chip) : c.outsWithdraw.told = c.told := by
  simp [Chip.outsWithdraw]

/-! ### The event queues -/

@[simp] theorem Chip.modEq_told (c : Chip) (n : Nat) (g : EqS → EqS) : (c.modEq n g).told = c.told :=
  Chip.told_mk ..

@[simp] theorem Chip.eqPut_told (c : Chip) (n i off : Nat) (bs : List Byte) : (c.eqPut n i off bs).told = c.told := by
  simp [Chip.eqPut]

@[simp] theorem Chip.eqShow_told (c : Chip) (n : Nat) : (c.eqShow n).told = c.told := by
  simp [Chip.eqShow]

@[simp] theorem Chip.eqAdvance_told (c : Chip) (n : Nat) : (c.eqAdvance n).told = c.told := by
  unfold Chip.eqAdvance
  split <;> simp

@[simp] theorem Chip.eqLoss_told (c : Chip) (n : Nat) : (c.eqLoss n).told = c.told := by
  simp [Chip.eqLoss]

@[simp] theorem Chip.eqMakeRoom_told (c : Chip) (n nw k : Nat) : (c.eqMakeRoom n nw k).told = c.told := by
  induction k generalizing c with
  | zero => rfl
  | succ k ih => simp [Chip.eqMakeRoom, ih]

@[simp] theorem Chip.eqOpen_told (c : Chip) (n tag : Nat) : (c.eqOpen n tag).told = c.told := by
  simp [Chip.eqOpen]

@[simp] theorem Chip.eqData_told (c : Chip) (n : Nat) (bs : List Byte) : (c.eqData n bs).told = c.told := by
  simp [Chip.eqData]

@[simp] theorem Chip.eqClose_told (c : Chip) (n dropB : Nat) : (c.eqClose n dropB).told = c.told := by
  simp only [Chip.eqClose]
  split <;> simp

@[simp] theorem Chip.eqAbort_told (c : Chip) (n : Nat) : (c.eqAbort n).told = c.told := by
  simp [Chip.eqAbort]

@[simp] theorem Chip.eqRecord_told (c : Chip) (n : Nat) (bs : List Byte) : (c.eqRecord n bs).told = c.told := by
  simp [Chip.eqRecord]

@[simp] theorem Chip.eqFor_told (c : Chip) (b : Nat) (bs : List Byte) : (c.eqFor b bs).told = c.told := by
  simp [Chip.eqFor]

@[simp] theorem Chip.eqIsolate_told (c : Chip) (ch : Nat) : (c.eqIsolate ch).told = c.told := by
  simp [Chip.eqIsolate]

/-! ### The stitcher -/

@[simp] theorem Chip.completeBand_told (c : Chip) (cut : Bool) : (c.completeBand cut).told = c.told := by
  simp [Chip.completeBand, ↓Chip.told_mk]

@[simp] theorem Chip.stcRelease_told (c : Chip) : c.stcRelease.told = c.told := by
  simp [Chip.stcRelease]

/-! ### The inspection engine -/

@[simp] theorem Chip.fieldClear_told (c : Chip) (b : Nat) : (c.fieldClear b).told = c.told :=
  Chip.told_mk ..

end Sys2Proof.Machine
end

section
/-! SUPPORT. Settling sends packets alone: lanes and the Shepherd. -/

namespace Sys2Proof.Machine

/-! ### Lanes -/

@[simp] theorem Chip.modLane_told (c : Chip) (n m : Nat) (g : LaneS → LaneS) : (c.modLane n m g).told = c.told :=
  Chip.told_mk ..

@[simp] theorem Chip.modPort_told (c : Chip) (n : Nat) (g : PortS → PortS) : (c.modPort n g).told = c.told :=
  Chip.told_mk ..

@[simp] theorem Chip.loadSet_told (c : Chip) (n m : Nat) (x : LaneSet) : (c.loadSet n m x).told = c.told := by
  simp [Chip.loadSet]

@[simp] theorem Chip.resetCoeffs_told (c : Chip) (n m : Nat) : (c.resetCoeffs n m).told = c.told := by
  simp [Chip.resetCoeffs]

@[simp] theorem Chip.setPrecode_told (c : Chip) (n m : Nat) (tx rx : Bool) : (c.setPrecode n m tx rx).told = c.told := by
  simp [Chip.setPrecode]

@[simp] theorem Chip.endGuard_told (c : Chip) (n m : Nat) : (c.endGuard n m).told = c.told := by
  simp [Chip.endGuard]

@[simp] theorem Chip.clearFreeze_told (c : Chip) (n m : Nat) : (c.clearFreeze n m).told = c.told := by
  simp [Chip.clearFreeze]

@[simp] theorem Chip.laneGo_told (c : Chip) (n m st : Nat) : (c.laneGo n m st).told = c.told := by
  simp [Chip.laneGo]

@[simp] theorem Chip.testStop_told (c : Chip) (n m : Nat) : (c.testStop n m).told = c.told := by
  simp [Chip.testStop]

@[simp] theorem Chip.laneDown_told (c : Chip) (n m : Nat) : (c.laneDown n m).told = c.told := by
  simp [Chip.laneDown]

@[simp] theorem Chip.laneOff_told (c : Chip) (n m : Nat) : (c.laneOff n m).told = c.told := by
  simp [Chip.laneOff]

@[simp] theorem Chip.laneRest_told (c : Chip) (n m : Nat) : (c.laneRest n m).told = c.told := by
  simp [Chip.laneRest]

@[simp] theorem Chip.laneLeave_told (c : Chip) (n m : Nat) : (c.laneLeave n m).told = c.told := by
  simp [Chip.laneLeave]

@[simp] theorem Chip.laneCondAbort_told (c : Chip) (n m : Nat) : (c.laneCondAbort n m).told = c.told := by
  simp [Chip.laneCondAbort]

@[simp] theorem Chip.laneTrainUl_told (c : Chip) (m : Nat) : (c.laneTrainUl m).told = c.told := by
  simp [Chip.laneTrainUl]

@[simp] theorem Chip.condAbort_told (c : Chip) (n : Nat) : (c.condAbort n).told = c.told := by
  simp [Chip.condAbort]

/-! ### The Shepherd and the engines -/

@[simp] theorem Chip.modShp_told (c : Chip) (g : ShpS → ShpS) : (c.modShp g).told = c.told :=
  Chip.told_mk ..

@[simp] theorem Chip.modCluster_told (c : Chip) (k : Nat) (g : ClusterS → ClusterS) : (c.modCluster k g).told = c.told := by
  simp [Chip.modCluster]

@[simp] theorem Chip.capShow_told (c : Chip) : c.capShow.told = c.told := by
  simp [Chip.capShow]

@[simp] theorem Chip.stepTo_told (c : Chip) (k st : Nat) : (c.stepTo k st).told = c.told := by
  simp only [Chip.stepTo]
  split <;> simp

@[simp] theorem Chip.floorFault_told (c : Chip) : c.floorFault.told = c.told := by
  simp only [Chip.floorFault]
  split_ifs <;> simp

@[simp] theorem Chip.capacityUps_told (c : Chip) : c.capacityUps.1.told = c.told := by
  refine foldl_keeps (fun r : Chip × List Nat => r.1.told) (fun r k => ?_) _ _
  split <;> simp

@[simp] theorem Chip.capacityNow_told (c : Chip) : c.capacityNow.told = c.told := by
  simp [Chip.capacityNow]

@[simp] theorem Chip.modFband_told (c : Chip) (bseq : Nat) (g : FBand → FBand) : (c.modFband bseq g).told = c.told :=
  Chip.told_mk ..

@[simp] theorem Chip.enqueue_told (c : Chip) (w : WorkItem) : (c.enqueue w).told = c.told := by
  simp [Chip.enqueue]

@[simp] theorem Chip.setSlice_told (c : Chip) (bseq s : Nat) (st : SliceSt) : (c.setSlice bseq s st).told = c.told := by
  simp [Chip.setSlice]

@[simp] theorem Chip.setEng_told (c : Chip) (e st : Nat) : (c.setEng e st).told = c.told := by
  simp [Chip.setEng]

@[simp] theorem Chip.retire_told (c : Chip) (e : Nat) : (c.retire e).told = c.told := by
  simp [Chip.retire]

@[simp] theorem Chip.substitute_told (c : Chip) (e : Nat) : (c.substitute e).1.told = c.told := by
  simp only [Chip.substitute]
  split
  next => rfl
  next => split_ifs <;> simp

@[simp] theorem Chip.itemBack_told (c : Chip) (e : Nat) : (c.itemBack e).told = c.told := by
  simp only [Chip.itemBack]
  split
  next => simp
  next => split <;> simp

@[simp] theorem Chip.isolateEngine_told (c : Chip) (e : Nat) : (c.isolateEngine e).told = c.told := by
  simp [Chip.isolateEngine]

end Sys2Proof.Machine
end

section
/-! SUPPORT. Settling sends packets alone: products, bands and records. -/

namespace Sys2Proof.Machine

/-! ### Products -/

@[simp] theorem Chip.modSsp_told (c : Chip) (g : SspS → SspS) : (c.modSsp g).told = c.told :=
  Chip.told_mk ..

@[simp] theorem Chip.addUnit_told (c : Chip) (u : SspUnit) : (c.addUnit u).told = c.told := by
  simp [Chip.addUnit]

@[simp] theorem Chip.bandUnits_told (c : Chip) (b : Band) : (c.bandUnits b).told = c.told := by
  simp [Chip.bandUnits]

@[simp] theorem Chip.p2Unit_told (c : Chip) (b : Band) (recs : List (List Byte)) (held : Bool) :
    (c.p2Unit b recs held).told = c.told := by
  simp [Chip.p2Unit]

@[simp] theorem Chip.alarmUnit_told (c : Chip) (b : Band) (alarms summary : List (List Byte)) (held : Bool) :
    (c.alarmUnit b alarms summary held).told = c.told := by
  simp [Chip.alarmUnit]

@[simp] theorem Chip.recordUnits_told (c : Chip) (b : Band) (bl : Blob) (dseq trig0 : Nat) (crop : Bool) (bs : List Byte)
    (tiles : List (Nat × Nat × Nat × Nat)) :
    (c.recordUnits b bl dseq trig0 crop bs tiles).told = c.told := by
  simp [Chip.recordUnits]

/-! ### Bands, records and units -/

@[simp] theorem Chip.modIe_told (c : Chip) (g : IeS → IeS) : (c.modIe g).told = c.told :=
  Chip.told_mk ..

@[simp] theorem Chip.setAcq_told (c : Chip) (b st : Nat) : (c.setAcq b st).told = c.told := by
  simp [Chip.setAcq]

@[simp] theorem Chip.enterAcq_told (c : Chip) (b : Nat) : (c.enterAcq b).told = c.told := by
  simp [Chip.enterAcq]

@[simp] theorem Chip.modRep_told (c : Chip) (rep : Nat) (g : RepAcc → RepAcc) : (c.modRep rep g).told = c.told := by
  simp [Chip.modRep]

@[simp] theorem Chip.judgeRepeat_told (c : Chip) (rep : Nat) : (c.judgeRepeat rep).told = c.told := by
  unfold Chip.judgeRepeat
  split <;> simp

@[simp] theorem Chip.noteLatency_told (c : Chip) (fb : FBand) : (c.noteLatency fb).told = c.told := by
  simp [Chip.noteLatency]

@[simp] theorem Chip.closeBlob_told (c : Chip) (fb : FBand) (bl : Blob) (split : Bool) :
    (c.closeBlob fb bl split).1.told = c.told := by
  simp only [Chip.closeBlob]
  rw [apply_ite Prod.fst]
  simp

@[simp] theorem Chip.closeBlobs_told (c : Chip) (fb : FBand) (l : List (Blob × Bool)) :
    (c.closeBlobs fb l).1.told = c.told := by
  unfold Chip.closeBlobs
  refine foldl_keeps (fun r : Chip × List Byte => r.1.told) (fun r p => ?_) _ _
  exact Chip.closeBlob_told ..

@[simp] theorem Chip.closeKnown_told (c : Chip) : c.closeKnown.told = c.told := by
  simp only [Chip.closeKnown]
  refine Chip.each_told (fun c fb => ?_) ..
  split
  next => rfl
  next =>
    refine (Chip.told_mk ..).trans ((Chip.modFband_told ..).trans ?_)
    simp

@[simp] theorem Chip.emitBand_told (c : Chip) (fb : FBand) : (c.emitBand fb).told = c.told := by
  simp [Chip.emitBand]

@[simp] theorem Chip.emitFour_told (c : Chip) (fb : FBand) (last : Bool) : (c.emitFour fb last).told = c.told := by
  simp [Chip.emitFour]

@[simp] theorem Chip.emitReady_told (n : Nat) (c : Chip) : (Chip.emitReady n c).told = c.told := by
  induction n generalizing c with
  | zero => rfl
  | succ n ih => unfold Chip.emitReady; split <;> simp [ih]

@[simp] theorem Chip.fourReady_told (n : Nat) (c : Chip) : (Chip.fourReady n c).told = c.told := by
  induction n generalizing c with
  | zero => rfl
  | succ n ih => unfold Chip.fourReady; split <;> simp [ih]

@[simp] theorem Chip.recordsOut_told (c : Chip) : c.recordsOut.told = c.told := by
  simp [Chip.recordsOut]

@[simp] theorem Chip.colourSlot_told (c : Chip) : c.colourSlot.1.told = c.told := by
  simp only [Chip.colourSlot]
  split
  next => exact (Chip.told_mk ..).trans (by simp)
  next => rfl

@[simp] theorem Chip.prune_told (c : Chip) : c.prune.told = c.told := by
  simp [Chip.prune]

@[simp] theorem Chip.enterBand_told (c : Chip) (b : Band) : (c.enterBand b).told = c.told := by
  simp only [Chip.enterBand]
  refine (Chip.recordsOut_told _).trans ((Chip.told_mk ..).trans ?_)
  split <;> simp

@[simp] theorem Chip.stopCut_told (c : Chip) : c.stopCut.told = c.told := by
  unfold Chip.stopCut
  split
  next => rfl
  next =>
    split
    next =>
      exact (Chip.told_mk ..).trans ((Chip.recordsOut_told _).trans ((Chip.each_told Chip.enterBand_told ..).trans (by simp)))
    next => rfl

@[simp] theorem Chip.ieRelease_told (c : Chip) : c.ieRelease.told = c.told := by
  simp [Chip.ieRelease]

@[simp] theorem Chip.csRelease_told (c : Chip) : c.csRelease.told = c.told := by
  simp [Chip.csRelease]

end Sys2Proof.Machine
end

section
/-! SUPPORT. Settling sends packets alone: links, Orbit and the stream protocol. -/

namespace Sys2Proof.Machine

/-! ### Rounds of a link -/

@[simp] theorem Chip.modLink_told (c : Chip) (n : Nat) (g : LinkS → LinkS) : (c.modLink n g).told = c.told :=
  Chip.told_mk ..

@[simp] theorem Chip.queueBlocks_told (c : Chip) (n : Nat) (bs : List (Bool × List Byte)) :
    (c.queueBlocks n bs).told = c.told := by
  simp [Chip.queueBlocks]

@[simp] theorem Chip.sendPacket_told (c : Chip) (n typ : Nat) (body : List Byte) : (c.sendPacket n typ body).told = c.told := by
  simp [Chip.sendPacket]

/-! ### Links -/

@[simp] theorem Chip.allLanesOff_told (c : Chip) (n : Nat) : (c.allLanesOff n).told = c.told := by
  simp [Chip.allLanesOff]

@[simp] theorem Chip.trigLateOne_told (c : Chip) (n trig : Nat) : (c.trigLateOne n trig).told = c.told := by
  simp [Chip.trigLateOne]

@[simp] theorem Chip.trigsLate_told (c : Chip) (n : Nat) : (c.trigsLate n).told = c.told := by
  simp [Chip.trigsLate]

@[simp] theorem Chip.placeTrig_told (c : Chip) (n trig tx : Nat) : (c.placeTrig n trig tx).told = c.told := by
  simp [Chip.placeTrig]

@[simp] theorem Chip.ctrlStart_told (c : Chip) (n : Nat) (r : CtrlReq) : (c.ctrlStart n r).told = c.told := by
  simp [Chip.ctrlStart]

@[simp] theorem Chip.ctrlEnd_told (c : Chip) (n code : Nat) (data : Option Nat) : (c.ctrlEnd n code data).told = c.told := by
  simp only [Chip.ctrlEnd]
  split
  next => rfl
  next =>
    split <;> simp only [Chip.ctrlStart_told, Chip.modLink_told, Chip.told_ite, ite_eq_left_iff] <;> intro _ <;>
      split <;> simp

@[simp] theorem Chip.ctrlDrop_told (c : Chip) (n : Nat) : (c.ctrlDrop n).told = c.told := by
  unfold Chip.ctrlDrop
  split <;> simp

@[simp] theorem Chip.sendSwap_told (c : Chip) (n op : Nat) (s : Swap) (am : Nat) : (c.sendSwap n op s am).told = c.told := by
  simp [Chip.sendSwap]

@[simp] theorem Chip.swapFail_told (c : Chip) (n result reason : Nat) (send : Bool) :
    (c.swapFail n result reason send).told = c.told := by
  unfold Chip.swapFail
  split <;> simp

@[simp] theorem Chip.swapStart_told (c : Chip) (n k reason : Nat) : (c.swapStart n k reason).told = c.told := by
  simp [Chip.swapStart]

@[simp] theorem Chip.linkGo_told (c : Chip) (n st : Nat) : (c.linkGo n st).told = c.told := by
  simp [Chip.linkGo]

@[simp] theorem Chip.portLost_told (c : Chip) (n : Nat) : (c.portLost n).told = c.told := by
  simp [Chip.portLost, ↓Chip.told_mk]

@[simp] theorem Chip.rxClear_told (c : Chip) (n : Nat) : (c.rxClear n).told = c.told := by
  simp [Chip.rxClear]

@[simp] theorem Chip.linkPendingEnds_told (c : Chip) (n : Nat) : (c.linkPendingEnds n).told = c.told := by
  simp [Chip.linkPendingEnds]

@[simp] theorem Chip.linkDown_told (c : Chip) (n : Nat) : (c.linkDown n false).told = c.told := by
  simp [Chip.linkDown]

@[simp] theorem Chip.linkIsolate_told (c : Chip) (n : Nat) : (c.linkIsolate n).told = c.told := by
  simp only [Chip.linkIsolate]
  split_ifs <;> simp

@[simp] theorem Chip.swapRepair_told (c : Chip) (n m reason : Nat) : (c.swapRepair n m reason).1.told = c.told := by
  simp only [Chip.swapRepair]
  split
  next => rfl
  next => split_ifs <;> simp

/-! ### Orbit -/

@[simp] theorem Chip.holdCheck_told (c : Chip) : c.holdCheck.told = c.told := by
  simp [Chip.holdCheck]

/-! ### The uplink -/

@[simp] theorem Chip.ulGo_told (c : Chip) (st : Nat) : (c.ulGo st).told = c.told := by
  simp [Chip.ulGo]

@[simp] theorem Chip.ulMapShow_told (c : Chip) : c.ulMapShow.told = c.told := by
  simp [Chip.ulMapShow]

@[simp] theorem Chip.ulLeft_told (c : Chip) : c.ulLeft.told = c.told := by
  simp [Chip.ulLeft, ↓Chip.told_mk]

@[simp] theorem Chip.ulGoDown_told (c : Chip) : c.ulGoDown.told = c.told := by
  simp [Chip.ulGoDown]

@[simp] theorem Chip.retrainStart_told (c : Chip) (k reason : Nat) : (c.retrainStart k reason).told = c.told := by
  simp [Chip.retrainStart, ↓Chip.told_mk]

@[simp] theorem Chip.retrain?_told (c : Chip) (k reason : Nat) : (c.retrain? k reason).1.told = c.told := by
  unfold Chip.retrain?
  split_ifs <;> simp

@[simp] theorem Chip.ulRepair_told (c : Chip) (m reason : Nat) : (c.ulRepair m reason).1.told = c.told := by
  unfold Chip.ulRepair
  split <;> simp

/-! ### The stream protocol -/

@[simp] theorem Chip.pairSend_told (c : Chip) (mtype : Nat) (body : List Byte) : (c.pairSend mtype body).told = c.told := by
  simp [Chip.pairSend, ↓Chip.told_mk]

@[simp] theorem Chip.sspMateGone_told (c : Chip) : c.sspMateGone.told = c.told := by
  simp [Chip.sspMateGone]

@[simp] theorem Chip.sspRelease_told (c : Chip) : c.sspRelease.told = c.told := by
  simp [Chip.sspRelease]

end Sys2Proof.Machine
end

section
/-! SUPPORT. Settling sends packets alone: jobs and Comet. -/

namespace Sys2Proof.Machine

/-! ### Jobs -/

@[simp] theorem Chip.modJob_told (c : Chip) (g : JobS → JobS) : (c.modJob g).told = c.told :=
  Chip.told_mk ..

@[simp] theorem Chip.modPair_told (c : Chip) (g : PairS → PairS) : (c.modPair g).told = c.told :=
  Chip.told_mk ..

@[simp] theorem Chip.syncExpected_told (c : Chip) : c.syncExpected.told = c.told := by
  simp [Chip.syncExpected]

@[simp] theorem Chip.needSet_told (c : Chip) (act stg : Nat) : (c.needSet act stg).told = c.told := by
  simp [Chip.needSet]

@[simp] theorem Chip.setNeed_told (c : Chip) (act stg : Nat) : (c.setNeed act stg).told = c.told := by
  simp [Chip.setNeed]

@[simp] theorem Chip.unlock_told (c : Chip) : c.unlock.told = c.told := by
  simp [Chip.unlock]

@[simp] theorem Chip.pseqDue_told (c : Chip) : c.pseqDue.told = c.told := by
  simp [Chip.pseqDue]

@[simp] theorem Chip.cometCommit_told (c : Chip) (start : Bool) (oldSrc te : Nat) :
    (c.cometCommit start oldSrc te).told = c.told := by
  simp [Chip.cometCommit]

@[simp] theorem Chip.commit_told (c : Chip) (tc : Nat) (start join : Bool) (te : Nat) :
    (c.commit tc start join te).told = c.told := by
  simp [Chip.commit, ↓Chip.told_mk]

@[simp] theorem Chip.jobStop_told (c : Chip) (tc : Nat) : (c.jobStop tc).told = c.told := by
  unfold Chip.jobStop
  refine (Chip.told_mk ..).trans ((Chip.outsUpdate_told _).trans ((Chip.setNeed_told ..).trans
    ((Chip.syncExpected_told _).trans ((Chip.modCmt_told ..).trans ((Chip.told_mk ..).trans
      ((Chip.modJob_told ..).trans ?_))))))
  simp

@[simp] theorem Chip.decideAs_told (c : Chip) (code : Nat) : (c.decideAs code).told = c.told := by
  simp [Chip.decideAs]

@[simp] theorem Chip.combine_told (c : Chip) (td own mate : Nat) : (c.combine td own mate).told = c.told := by
  simp [Chip.combine]

@[simp] theorem Chip.jobDecision_told (c : Chip) (td : Nat) (enc : Int) : (c.jobDecision td enc).told = c.told := by
  simp only [Chip.jobDecision]
  split
  next => rfl
  next =>
    simp only [Chip.told_ite, Chip.decideAs_told, Chip.modJob_told, Chip.pairSend_told, ite_eq_right_iff, ite_eq_left_iff]
    intro _ _ _
    split <;> simp

@[simp] theorem Chip.noDecide_told (c : Chip) : c.noDecide.told = c.told := by
  unfold Chip.noDecide
  split <;> simp

@[simp] theorem Chip.stopCheck_told (c : Chip) : c.stopCheck.told = c.told := by
  simp [Chip.stopCheck]

@[simp] theorem Chip.setTOff_told (c : Chip) (n t : Nat) : (c.setTOff n t).told = c.told := by
  simp only [Chip.setTOff]
  split <;> simp

@[simp] theorem Chip.portOffStart_told (c : Chip) (n : Nat) : (c.portOffStart n).told = c.told := by
  simp [Chip.portOffStart]

/-! ### Comet -/

@[simp] theorem Chip.putLog_told (c : Chip) (e : LogEntry) : (c.putLog e).told = c.told :=
  Chip.told_mk ..

@[simp] theorem Chip.handTrig_told (c : Chip) (e : LogEntry) (off : Nat) : (c.handTrig e off).told = c.told := by
  unfold Chip.handTrig
  refine (Chip.told_mk ..).trans ((Chip.strobeTrigger_told ..).trans (Chip.each_told (fun c n => ?_) ..))
  exact (Chip.placeTrig_told ..).trans (Chip.feExpect_told ..)

@[simp] theorem Chip.sendTrec_told (c : Chip) (e : LogEntry) : (c.sendTrec e).told = c.told := by
  simp [Chip.sendTrec]

@[simp] theorem Chip.countMark_told (c : Chip) (id : Nat) (mark : Bool) : (c.countMark id mark).told = c.told := by
  simp [Chip.countMark]

@[simp] theorem Chip.missCheck_told (c : Chip) : c.missCheck.told = c.told := by
  simp [Chip.missCheck]

@[simp] theorem Chip.serveMark_told (c : Chip) (id : Nat) : (c.serveMark id).told = c.told := by
  simp [Chip.serveMark]

@[simp] theorem Chip.issue_told (c : Chip) (tx : Nat) (pos : Int) (mark : Bool) (lag tmin : Nat) :
    (c.issue tx pos mark lag tmin).told = c.told := by
  simp [Chip.issue]

@[simp] theorem Chip.dueTrigger_told (c : Chip) (te : Nat) (pos : Int) : (c.dueTrigger te pos).1.told = c.told := by
  simp only [Chip.dueTrigger]
  split_ifs <;> simp

@[simp] theorem Chip.placeFid_told (c : Chip) (t : Nat) : (c.placeFid t).told = c.told := by
  simp [Chip.placeFid]

@[simp] theorem Chip.fidMarkAt_told (c : Chip) (t : Nat) : (c.fidMarkAt t).told = c.told := by
  simp [Chip.fidMarkAt]

@[simp] theorem Chip.fidMissed_told (c : Chip) (start : Nat) : (c.fidMissed start).told = c.told := by
  simp only [Chip.fidMissed]
  split_ifs
  next => rfl
  next => rfl
  next => exact (Chip.told_mk ..).trans (by simp)
  next => simp

@[simp] theorem Chip.takeOver_told (c : Chip) : c.takeOver.told = c.told := by
  simp only [Chip.takeOver]
  split
  next => split <;> simp
  next => rfl

end Sys2Proof.Machine
end

section
/-! SUPPORT. Settling sends packets alone: the pair, DMA channels, the fault controller and the end of settling. -/

namespace Sys2Proof.Machine

/-! ### The control protocol and the state of the fault controller -/

@[simp] theorem Chip.modScp_told (c : Chip) (g : ScpS → ScpS) : (c.modScp g).told = c.told :=
  Chip.told_mk ..

@[simp] theorem Chip.modFc_told (c : Chip) (g : FcS → FcS) : (c.modFc g).told = c.told :=
  Chip.told_mk ..

/-! ### The pair -/

@[simp] theorem Chip.joinFail_told (c : Chip) : c.joinFail.told = c.told := by
  simp [Chip.joinFail]

@[simp] theorem Chip.mateLost_told (c : Chip) : c.mateLost.told = c.told := by
  simp [Chip.mateLost]

@[simp] theorem Chip.pairDown_told (c : Chip) : c.pairDown.told = c.told := by
  simp [Chip.pairDown]

@[simp] theorem Chip.fieldTake_told (c : Chip) (fb : FBand) (bs : List Byte) : (c.fieldTake fb bs).told = c.told := by
  simp only [Chip.fieldTake]
  split <;> simp

@[simp] theorem Chip.joinBand_told (c : Chip) (bseq : Nat) : (c.joinBand bseq).told = c.told := by
  unfold Chip.joinBand
  split
  next =>
    split_ifs
    · simp [↓Chip.told_mk]
    · split <;> simp
  next => rfl

@[simp] theorem Chip.sendField_told (c : Chip) (bseq : Nat) : (c.sendField bseq).told = c.told := by
  unfold Chip.sendField
  split <;> simp

@[simp] theorem Chip.serveDseq_told (c : Chip) : c.serveDseq.told = c.told := by
  unfold Chip.serveDseq
  split <;> simp

@[simp] theorem Chip.digCompare_told (c : Chip) (trig own mate : Nat) : (c.digCompare trig own mate).told = c.told := by
  simp [Chip.digCompare]

@[simp] theorem Chip.digestOut_told (c : Chip) (trig d : Nat) : (c.digestOut trig d).told = c.told := by
  simp only [Chip.digestOut]
  split
  next => rfl
  next => split <;> simp

/-! ### DMA channels -/

@[simp] theorem Chip.modCh_told (c : Chip) (n : Nat) (g : DmaS → DmaS) : (c.modCh n g).told = c.told :=
  Chip.told_mk ..

@[simp] theorem Chip.dmaShow_told (c : Chip) : c.dmaShow.told = c.told := by
  simp [Chip.dmaShow]

@[simp] theorem Chip.chGo_told (c : Chip) (n st : Nat) : (c.chGo n st).told = c.told := by
  simp [Chip.chGo]

@[simp] theorem Chip.setSlots_told (c : Chip) (n : Nat) (l : List (List Word)) : (c.setSlots n l).told = c.told := by
  simp [Chip.setSlots]

@[simp] theorem Chip.chClear_told (c : Chip) (n : Nat) : (c.chClear n).told = c.told := by
  simp [Chip.chClear]

@[simp] theorem Chip.chHalt_told (c : Chip) (n reason : Nat) : (c.chHalt n reason).told = c.told := by
  simp [Chip.chHalt]

@[simp] theorem Chip.chIsolate_told (c : Chip) (n : Nat) : (c.chIsolate n).told = c.told := by
  simp [Chip.chIsolate]

@[simp] theorem Chip.chNext_told (c : Chip) (n : Nat) : (c.chNext n).told = c.told := by
  simp [Chip.chNext]

/-! ### The fault controller -/

@[simp] theorem Chip.isolatePart_told (c : Chip) (p : FcPart) : (c.isolatePart p).told = c.told := by
  unfold Chip.isolatePart
  split <;> simp

@[simp] theorem Chip.dropLines_told (c : Chip) : c.dropLines.told = c.told := by
  simp [Chip.dropLines, ↓Chip.told_mk]

@[simp] theorem Chip.recordRow_told (c : Chip) (row : Nat) : (c.recordRow row).told = c.told := by
  simp only [Chip.recordRow]
  split
  next => rfl
  next => split <;> simp

@[simp] theorem Chip.fcCount_told (c : Chip) (src inst t : Nat) : (c.fcCount src inst t).1.told = c.told := by
  simp [Chip.fcCount]

@[simp] theorem Chip.fcLog_told (c : Chip) (src inst level t : Nat) : (c.fcLog src inst level t).told = c.told := by
  simp only [Chip.fcLog]
  split_ifs <;> simp

/-! ### What settling calls last -/

@[simp] theorem Chip.dmaTimeReached_told (c : Chip) (n : Nat) : (c.dmaTimeReached n).told = c.told := by
  unfold Chip.dmaTimeReached
  split <;> simp

@[simp] theorem Chip.sumUpdate_told (c : Chip) : c.sumUpdate.told = c.told :=
  (Chip.modScp_told ..).trans (by simp)

@[simp] theorem Chip.eventLinkUp_told (c : Chip) : c.eventLinkUp.told = c.told := by
  simp [Chip.eventLinkUp]

@[simp] theorem Chip.targetsReached_told (c : Chip) : c.targetsReached.told = c.told := by
  simp [Chip.targetsReached]

@[simp] theorem Chip.releases_told (c : Chip) : c.releases.told = c.told := by
  simp [Chip.releases, Chip.each_told Chip.feRelease_told]

end Sys2Proof.Machine
end

section
/-! SUPPORT. Settling sends packets alone, unless it ends the uplink's session, whose commands it then serves (R399, R413, R433,
R457). -/

namespace Sys2Proof.Machine

@[simp] theorem Chip.optSettle_told (c : Chip) : c.optSettle.told = c.told := by
  unfold Chip.optSettle
  split
  next => rfl
  next =>
    have heach : ∀ (u : Chip) (l : List OptW), (u.each l fun u w =>
        { u with opt := sput optDefault u.opt w.word w.old }).told = u.told := fun u l =>
      Chip.each_told (fun _ _ => Chip.told_mk ..) l u
    refine (heach ..).trans ?_
    split <;> simp

@[simp] theorem Chip.deviceReset_told (c : Chip) : c.deviceReset.told = c.told := by
  refine Eq.trans ?_ c.optSettle_told
  unfold Chip.deviceReset Chip.optShow Chip.shpBudget
  simp only [Chip.setF_told, Chip.wr_told, Chip.told_ite, ite_self]
  exact Chip.told_of_out (c := c.optSettle) rfl

@[simp] theorem Chip.levelFive_told (c : Chip) : c.levelFive.told = c.told := by
  simp [Chip.levelFive, Chip.deviceResetBy]

@[simp] theorem Chip.withdrawEnd_told (c : Chip) : c.withdrawEnd.told = c.told := by
  unfold Chip.withdrawEnd
  split
  next => rfl
  next =>
    extract_lets c1 c2 c3 c4 c5 c6 l5 c7
    have h : c7.told = c.told := by simp [c7, c6, c5, c4, c3, c2, c1]
    split
    next => exact (Chip.levelFive_told _).trans h
    next => exact h

@[simp] theorem Chip.withdraw_told (c : Chip) (src : Nat) (trip : Bool) : (c.withdraw src trip).told = c.told := by
  simp [Chip.withdraw]

theorem Chip.repairOf_told {c : Chip} {src inst : Nat} {r : Chip × Bool} (h : c.repairOf src inst = some r) :
    r.1.told = c.told := by
  unfold Chip.repairOf at h
  extract_lets n m reason at h
  clear_value reason
  split at h
  case h_7 => cases h
  all_goals
    split_ifs at h <;> cases h <;> simp

@[simp] theorem Chip.fcRepaired_told (c : Chip) (r : Report) (lv : Nat) : (c.fcRepaired r lv).1.told = c.told := by
  unfold Chip.fcRepaired
  split
  next => rfl
  next =>
    split
    next => rfl
    next h => exact Chip.repairOf_told h
    next h => exact Chip.repairOf_told h

@[simp] theorem Chip.fcReact_told (c : Chip) (r : Report) (lv : Nat) : (c.fcReact r lv).told = c.told := by
  unfold Chip.fcReact
  split <;> simp

@[simp] theorem Chip.fcReport_told (c : Chip) (r : Report) (t : Nat) : (c.fcReport r t).told = c.told := by
  cases h : srcLevels r.src r.low with
  | none => rw [Chip.fcReport, h]
  | some l =>
    have hmet : ∀ last, (c.fcMet r t last).1.told = c.told := fun last => by cases last <;> simp [Chip.fcMet]
    rw [Chip.fcReport_of_levels h]
    simp [Chip.fcPends, hmet]

theorem Chip.fcSettle_told (k : Nat) (c : Chip) : (Chip.fcSettle k c).told = c.told := by
  induction k generalizing c with
  | zero => rfl
  | succ k ih =>
    unfold Chip.fcSettle
    split
    next => exact Chip.told_mk ..
    next =>
      split
      next => simp [ih]
      next => exact (ih _).trans ((Chip.fcReport_told ..).trans (Chip.told_mk ..))
      next => rfl

/-- From `c` to `t`, what is kept and what has been sent but for packets stand unless the queue of the uplink is empty at the end. -/
def Chip.Reserved (c t : Chip) : Prop := t.scp.ulq ≠ [] → t.kept = c.kept ∧ t.told = c.told

theorem Chip.Reserved.of_silent {c t : Chip} (h : c.Silent t) (hl : t.told = c.told) : c.Reserved t := fun hne => ⟨(h hne).1, hl⟩

theorem Chip.Reserved.trans {c t u : Chip} (h : c.Reserved t) (g : t.Reserved u) : c.Reserved u := fun hne => by
  obtain ⟨hu, hlu⟩ := g hne
  have hq : u.scp.ulq = t.scp.ulq := congrArg Prod.snd hu
  obtain ⟨ht, hlt⟩ := h (hq ▸ hne)
  exact ⟨hu.trans ht, hlu.trans hlt⟩

theorem Chip.doDefer_reserved (c : Chip) (d : Defer) : c.Reserved (c.doDefer d) := by
  by_cases hd : d = .ulDown
  · subst hd
    exact fun hne => absurd rfl hne
  · refine .of_silent (c.doDefer_silent d) ?_
    cases d with
    | ulDown => exact absurd rfl hd
    | pairDown => exact Chip.pairDown_told _
    | ulUp => exact Chip.eventLinkUp_told _
    | bandNew b => exact Chip.joinBand_told ..
    | bandLoaded b => exact Chip.sendField_told ..
    | bandDigest t d => exact Chip.digestOut_told ..
    | colourStatus t dropped => exact Chip.pairSend_told ..
    | fidMark t => exact Chip.fidMarkAt_told ..
    | fidMissing s => exact Chip.fidMissed_told ..
    | stopCut => exact Chip.stopCut_told _
    | stopCheck => exact Chip.stopCheck_told _
    | stepped => exact Chip.targetsReached_told _

theorem Chip.settleLoop_reserved (k : Nat) (c : Chip) : c.Reserved (Chip.settleLoop k c) := by
  induction k generalizing c with
  | zero => exact fun _ => ⟨rfl, rfl⟩
  | succ k ih =>
    unfold Chip.settleLoop
    extract_lets c1
    have hfc : c.Reserved c1 :=
      .of_silent (.of_calm (Chip.fcSettle_calm c.fcFuel c) (Chip.fcSettle_levels ..)) (Chip.fcSettle_told ..)
    refine hfc.trans ?_
    split
    next => exact fun _ => ⟨rfl, rfl⟩
    next d rest _ =>
      have hrest : c1.Reserved { c1 with defers := rest } := fun _ => ⟨Chip.kept_mk .., Chip.told_mk ..⟩
      exact (hrest.trans (Chip.doDefer_reserved _ d)).trans (ih _)

theorem Chip.settle_reserved (c : Chip) : c.Reserved c.settle :=
  .trans (Chip.settleLoop_reserved _ c) fun _ => ⟨c.settle_kept,
    (Chip.sumUpdate_told _).trans ((Chip.serveDseq_told _).trans (Chip.releases_told _))⟩

end Sys2Proof.Machine
end

section
/-! Writes of a link control register in boot step 6 (R102, R417). -/

namespace Sys2Proof.Machine

/-- A command does not complete with `P` where `P` excludes what it sends but for packets: while commands of the uplink wait, settling
sends packets alone after any effect. -/
theorem not_does_of_told {i : Instr} {s : State} {P : Chip → Prop} {e : Chip} (hi : exec i s = .next { s with chip := e.settle })
    (he : e.Quiet) (hq : e.scp.ulq ≠ []) (hP : ∀ c : Chip, c.told = e.told → ¬P c) : ¬Does i s P := by
  rintro ⟨c, hc, hPc, -⟩
  have hs : c.settle = e.sumUpdate :=
    (congrArg State.chip (Host.Outcome.next.inj (hi.symm.trans hc)).symm).trans (e.settle_quiet he)
  have hn : c.settle.scp.ulq ≠ [] := fun h => hq ((congrArg Prod.snd e.sumUpdate_kept).symm.trans (hs ▸ h))
  obtain ⟨-, hl⟩ := c.settle_reserved hn
  exact hP c (hl.symm.trans ((congrArg Chip.told hs).trans e.sumUpdate_told)) hPc

/-- A device in boot step 6 whose link 0 waits in SEEKING, while a command of the uplink waits. -/
def bootSeeking : State :=
  ⟨[], { up.sets [(F.glbBootStatPhase, 6), (F.linkStateState 0, lkSeeking), (F.linkCtrlEn 0, 1)] with
    scp := { ScpS.reset with ulq := [⟨.ul, ⟨0, 0, [], 0, [], [], false, 0, 0, 0, true⟩, []⟩] } }⟩

/-- The write of EN that the image's entry makes. -/
def Chip.enCleared (c : Chip) : Chip := c.writeOp .boot (R.linkCtrl 0) (force (F.linkCtrlEn 0) 0 0#32)

theorem exec_enCleared (s : State) : exec (.linkEnClear .boot 0 0#32) s = .next { s with chip := s.fresh.enCleared.settle } := by
  have hrun : exec (.linkEnClear .boot 0 0#32) s = runIf s (0 < 9) Chip.enCleared := rfl
  rw [hrun, runIf, decide_eq_true (show 0 < 9 by decide)]
  rfl

/-- The write is performed, nothing is left to settle, the command of the uplink still waits, and the status alone goes out. -/
theorem bootSeeking_enCleared :
    bootSeeking.fresh.enCleared.Quiet ∧ bootSeeking.fresh.enCleared.scp.ulq ≠ [] ∧ bootSeeking.fresh.enCleared.told = [.status 0]
      ∧ bootSeeking.chip.domainRuns 4 = true ∧ bootSeeking.chip.linkSt 0 = lkSeeking
      ∧ bootSeeking.chip.Allows .boot (R.linkCtrl 0) (force (F.linkCtrlEn 0) 0 0#32) := by
  dsimp only [Chip.Quiet, Chip.Allows]
  decide +kernel

/-- Refutes O9: in boot step 6 an entry of the image that writes EN = 0 is performed and answered with status 0, but acts on its link
in step 7 alone (R417), while the statement asks for DISABLED and its block from every source. -/
theorem not_linkControl : ¬ Obligations.LinkControl := by
  unfold Obligations.LinkControl
  intro h
  obtain ⟨hquiet, hqueue, hsent, hruns, hseek, hallows⟩ := bootSeeking_enCleared
  obtain ⟨-, hclear, -⟩ := h bootSeeking .boot 0 0#32 (by decide) hruns
  have hdoes := hclear hallows (by rw [hseek]; decide) fun hact => absurd (hseek.symm.trans hact.1) (by decide)
  refine not_does_of_told (exec_enCleared _) hquiet hqueue (fun c hc => ?_) hdoes
  rintro ⟨-, hblock, -⟩
  have htold : Out.block 0 (mkBlock 0x6A false []) ∈ c.told := List.mem_filter.2 ⟨hblock, rfl⟩
  rw [hc, hsent] at htold
  exact absurd (List.mem_singleton.1 htold) Out.noConfusion

end Sys2Proof.Machine
end

section
/-! SUPPORT. Port front ends: their data under an update, and the registers of their blocks (R119, R143). -/

namespace Sys2Proof.Machine

variable (c : Chip) {n : Nat}

/-! ### The data of a front end beside its registers -/

theorem Chip.fe_modFe (h : n < c.fes.length) (g : FeS → FeS) : (c.modFe n g).fe n = g (c.fe n) := by
  simp [Chip.fe, Chip.modFe, List.getElem?_eq_getElem h]

/-- What an update keeps of the data of a front end, whether the front end exists or not. -/
theorem Chip.fe_modFe_keeps {α : Type} (p : FeS → α) {g : FeS → FeS} (h : ∀ s, p (g s) = p s) (k n : Nat) :
    p ((c.modFe k g).fe n) = p (c.fe n) := by
  simp only [Chip.fe, Chip.modFe, List.getElem?_modify]
  cases c.fes[n]? with
  | none => rfl
  | some s =>
    simp only [Option.map_eq_map, Option.map_some, Option.getD_some]
    split
    · exact h s
    · rfl

theorem Chip.fe_congr {c t : Chip} (h : t.fes = c.fes) (n : Nat) : t.fe n = c.fe n := by rw [Chip.fe, h, Chip.fe]

theorem Chip.Alike.fe {e d : Chip} {l : List Nat} (h : e.Alike d l) (n : Nat) : d.fe n = e.fe n := Chip.fe_congr h.fes n

@[simp] theorem Chip.modFe_fes_length (k : Nat) (g : FeS → FeS) : (c.modFe k g).fes.length = c.fes.length := by
  simp [Chip.modFe]

/-! ### Writes in the block of a front end -/

/-- The registers of a front end from its block's base on are none of the control protocol's. -/
theorem feReg_ge (n off : Nat) : 0x10000 ≤ 0x200000 + n * 0x2000 + off := by omega

theorem spoilAddr_fe {a off : Nat} (ha : a = 0x200000 + n * 0x2000 + off) (hn : n < 8) (ho : off < 0x400) : spoilAddr a = a := by
  have hranges : ∀ r ∈ bankRanges, 0x400 ≤ r.1 % 0x2000 ∧ r.1 % 0x2000 + r.2.1 + r.2.2 ≤ 0x2000 ∧ r.1 < 0x210000
      ∨ 0x210000 ≤ r.1 ∨ r.1 + r.2.1 + r.2.2 ≤ 0x200000 := by decide
  have hbank : bankOf a = none := by
    rw [bankOf, Option.map_eq_none_iff, List.find?_eq_none]
    intro r hm
    have := hranges r hm
    simp only [Bool.and_eq_true, decide_eq_true_eq]
    omega
  rw [spoilAddr, hbank]

/-- A write of a register of a front end that follows no bank spoils no verify (R228). -/
theorem Chip.spoils_fe {a off : Nat} (ha : a = 0x200000 + n * 0x2000 + off) (hn : n < 8) (ho : off < 0x400) :
    c.spoils (spoilAddr a) = c := by
  rw [spoilAddr_fe ha hn ho]
  have hs : ∀ b ∈ [R.ieRefBase 0, R.ieRefStride 0, R.ieRefW 0, R.ieRefH 0, R.jobRefCrc, R.ieRuleBase 0, R.ieRuleTy 0,
      R.stcWeb 0, R.jobRuleCrc], 0x210000 ≤ b := by decide
  refine c.spoils_other fun hm => ?_
  have := hs a hm
  omega

theorem ruledReg_fe {a : Nat} (h : a < 0x210000) : ruledReg a = false := by
  unfold ruledReg R.jobPortOff R.jobProdOff
  rw [Bool.or_eq_false_iff, beq_eq_false_iff_ne, beq_eq_false_iff_ne]
  omega

theorem windowReg_feTblData (hn : n < 8) : windowReg (R.feTblData n) = true := by
  rw [windowReg, Bool.or_eq_true, List.any_eq_true]
  exact Or.inr ⟨n, List.mem_range.2 hn, beq_self_eq_true _⟩

theorem windowReg_feTblChk (n : Nat) : windowReg (R.feTblChk n) = false := by
  rw [windowReg, Bool.or_eq_false_iff, List.any_eq_false]
  refine ⟨beq_eq_false_iff_ne.2 (by unfold R.feTblChk R.optData; omega), fun m _ hm => ?_⟩
  have hm := eq_of_beq hm
  unfold R.feTblChk R.feTblData at hm
  omega

/-- What a write at an offset of the block of a front end does beside storing (R140, R141). -/
def Chip.feWritten (c : Chip) (n off : Nat) (v : Word) : Chip :=
  if off = 0x08 then c.feTblWrite n v else if off = 0x0C then c.feChkWritten n v else c

theorem Chip.blockWritten_fe (src : Src) {a off : Nat} (old v : Word) (ha : a = 0x200000 + n * 0x2000 + off) (hn : n < 8)
    (ho : off < 0x2000) : c.blockWritten src a old v = (c.feWritten n off v, 0) := by
  have hblock : (a - 0x200000) / 0x2000 = n := by omega
  have hoff : (a - 0x200000) % 0x2000 = off := by omega
  unfold Chip.blockWritten Chip.feWritten
  iterate 14 rw [if_neg (by omega)]
  rw [if_pos (by omega)]
  dsimp only
  rw [hblock, hoff]
  split
  next => rfl
  next => rfl
  next h8 hC => rw [if_neg h8, if_neg hC]

theorem feTblData_row : ∀ n < 8, (regAt (R.feTblData n)).isSome = true := by decide +kernel

theorem feTblChk_row : ∀ n < 8, (regAt (R.feTblChk n)).isSome = true := by decide +kernel

/-- A performed write of FEn_TBL_DATA writes the table and nothing under its own address. -/
theorem Chip.regStore_feTblData (src : Src) (v : Word) (hn : n < 8) :
    c.regStore src (R.feTblData n) v = (c.feTblWrite n v, 0) := by
  obtain ⟨⟨r, ix⟩, hr⟩ := Option.isSome_iff_exists.1 (feTblData_row n hn)
  have hblock := c.blockWritten_fe src (c.rd (R.feTblData n)) v (a := R.feTblData n) rfl hn (by decide)
  have hspoils := fun d : Chip => d.spoils_fe (a := R.feTblData n) rfl hn (by decide)
  simp [Chip.regStore, hr, windowReg_feTblData hn, hblock, hspoils, Chip.feWritten]

/-- A performed write of FEn_TBL_CHK stores its fields and starts the check where it writes GO. -/
theorem Chip.regStore_feTblChk (src : Src) (v : Word) (hn : n < 8) :
    ∃ w, c.regStore src (R.feTblChk n) v = ((c.wr (R.feTblChk n) w).feChkWritten n v, 0) := by
  obtain ⟨⟨r, ix⟩, hr⟩ := Option.isSome_iff_exists.1 (feTblChk_row n hn)
  have hblock := fun d : Chip => d.blockWritten_fe src (c.rd (R.feTblChk n)) v (a := R.feTblChk n) rfl hn (by decide)
  have hspoils := fun d : Chip => d.spoils_fe (a := R.feTblChk n) rfl hn (by decide)
  have hruled : ruledReg (R.feTblChk n) = false := ruledReg_fe (by unfold R.feTblChk; omega)
  exact ⟨r.store (c.rd (R.feTblChk n)) v, by
    simp [Chip.regStore, hr, windowReg_feTblChk, hruled, hblock, hspoils, Chip.feWritten]⟩

end Sys2Proof.Machine
end

section
/-! The correction table of a front end (R128, R130, R131, R140, R141). -/

namespace Sys2Proof.Machine

/-! ### Entries -/

/-- A read of the table after a write of an entry. -/
theorem FeS.tblGet_tblPut (s : FeS) (b i d j : Nat) (w : Word) :
    (s.tblPut b i w).tblGet d j = if d * 65536 + j = b * 65536 + i then w else s.tblGet d j := sget_sput ..

/-- The bank and the index tell the entries of a table apart. -/
theorem tblKey_inj {b d i j : Nat} (hi : i < 65536) (hj : j < 65536) (h : d * 65536 + j = b * 65536 + i) : d = b ∧ j = i := by
  omega

/-- The check value is the CRC-32C of the entries' bytes (R141). -/
theorem FeS.tblCrc_eq (s : FeS) (b : Nat) :
    s.tblCrc b = crc32c ((List.range 65536).flatMap fun i => natBytesBE 4 (s.tblGet b i).toNat) := by
  rw [FeS.tblCrc, crc32c, crcRun, List.foldl_flatMap]
  rfl

section Table
variable (c : Chip) {n : Nat}

/-! ### INDEX (R140) -/

theorem Chip.feNextIndex_index (n : Nat) :
    (c.feNextIndex n).f (F.feTblAddrIndex n) = (c.f (F.feTblAddrIndex n) + 1) % 65536 := by
  rw [Chip.feNextIndex, Chip.f_setF_self _ _ (by simp [F.feTblAddrIndex])]
  exact Nat.mod_mod _ _

theorem Chip.feNextIndex_keeps (n : Nat) : c.Keeps (c.feNextIndex n) [R.feTblAddr n] :=
  (Chip.Keeps.refl c _).setF (List.mem_singleton_self _)

/-! ### A write (R140, R141) -/

/-- The table takes the entry at INDEX. -/
def Chip.feTblPut (c : Chip) (n : Nat) (v : Word) : Chip :=
  c.modFe n fun s => s.tblPut (c.f (F.feTblAddrBank n)) (c.f (F.feTblAddrIndex n)) v

/-- A write of the bank that the last GO named sets STALE; INDEX moves on either way. -/
theorem Chip.feTblWrite_eq (v : Word) : c.feTblWrite n v =
    if (c.fe n).chkOf = some (c.f (F.feTblAddrBank n)) then ((c.feTblPut n v).setF (F.feTblChkStale n) 1).feNextIndex n
    else (c.feTblPut n v).feNextIndex n := by
  have hchk : ((c.feTblPut n v).fe n).chkOf = (c.fe n).chkOf := c.fe_modFe_keeps (·.chkOf) (fun _ => by rfl) n n
  rw [← hchk, ← apply_ite (Chip.feNextIndex · n)]
  rfl

theorem Chip.feTblWrite_fe (hl : n < c.fes.length) (v : Word) :
    (c.feTblWrite n v).fe n = (c.fe n).tblPut (c.f (F.feTblAddrBank n)) (c.f (F.feTblAddrIndex n)) v := by
  rw [c.feTblWrite_eq, apply_ite (Chip.fe · n)]
  exact (ite_self _).trans (c.fe_modFe hl _)

theorem Chip.feTblWrite_out (v : Word) : (c.feTblWrite n v).out = c.out := by
  rw [c.feTblWrite_eq, apply_ite Chip.out]
  exact ite_self _

theorem Chip.feTblWrite_index (v : Word) :
    (c.feTblWrite n v).f (F.feTblAddrIndex n) = (c.f (F.feTblAddrIndex n) + 1) % 65536 := by
  have hstale : ((c.feTblPut n v).setF (F.feTblChkStale n) 1).f (F.feTblAddrIndex n) = c.f (F.feTblAddrIndex n) :=
    Chip.f_setF_ne _ _ (by simp only [F.feTblAddrIndex, F.feTblChkStale, R.feTblAddr, R.feTblChk]; omega)
  rw [c.feTblWrite_eq]
  split
  · rw [Chip.feNextIndex_index, hstale]
  · exact Chip.feNextIndex_index _ n

theorem Chip.feTblWrite_stale (v : Word) (h : (c.fe n).chkOf = some (c.f (F.feTblAddrBank n))) :
    (c.feTblWrite n v).f (F.feTblChkStale n) = 1 := by
  rw [c.feTblWrite_eq, if_pos h, (Chip.feNextIndex_keeps _ n).f
    (by simp only [F.feTblChkStale, R.feTblChk, R.feTblAddr, List.mem_singleton]; omega) (reg_ne_scp (feReg_ge n 0xC)).1]
  exact Chip.f_setF_self _ 1 (by simp [F.feTblChkStale])

theorem Chip.feTblWrite_keeps (v : Word) : c.Keeps (c.feTblWrite n v) [R.feTblAddr n, R.feTblChk n] := by
  have hput : c.Keeps (c.feTblPut n v) [R.feTblAddr n, R.feTblChk n] := Chip.Keeps.of_same rfl rfl
  rw [c.feTblWrite_eq]
  exact .ite (fun _ => (hput.setF (by simp [F.feTblChkStale])).setF (by simp [F.feTblAddrIndex])) fun _ =>
    hput.setF (by simp [F.feTblAddrIndex])

/-! ### A read (R131, R140) -/

/-- A read of FEn_TBL_DATA is a read of the table. -/
theorem Chip.regView_feTblData (hn : n < 8) : c.regView (R.feTblData n) = c.feTblRead n := by
  have hsingle : ∀ a ∈ [R.optData, R.orbNowNs, R.cmtVel, R.cmtStat, R.cmtEncLo 0, R.cmtEncLo 1], R.feTblData n ≠ a := by
    have hlow : ∀ a ∈ [R.optData, R.orbNowNs, R.cmtVel, R.cmtStat, R.cmtEncLo 0, R.cmtEncLo 1], a < 0x200000 := by decide
    intro a ha
    have := hlow a ha
    unfold R.feTblData
    omega
  have hblock : (R.feTblData n - 0x200000) / 0x2000 = n := by unfold R.feTblData; omega
  unfold Chip.regView
  iterate 6 rw [if_neg (hsingle _ (by simp))]
  rw [if_neg (by unfold R.feTblData; omega), if_pos (by unfold R.feTblData; omega), hblock]

/-- Errors in the table do not matter to what rejects an access. -/
theorem Chip.feFlip_accessChecks (l : List (Nat × Bool)) (src : Src) (a : Nat) (w : Bool) :
    (c.feFlip n l).accessChecks src a w = c.accessChecks src a w := by
  have hinit : (c.feFlip n l).feInitBusy a = c.feInitBusy a :=
    congrArg (_ && ·) (c.fe_modFe_keeps (·.initBusy) (fun _ => by rfl) n _)
  rw [Chip.accessChecks, hinit]
  rfl

theorem Chip.feFlip_tblGet (l : List (Nat × Bool)) (b i : Nat) : ((c.feFlip n l).fe n).tblGet b i = (c.fe n).tblGet b i :=
  c.fe_modFe_keeps (fun s => s.tblGet b i) (fun _ => by rfl) n n

theorem Chip.feTblRead_value (l : List (Nat × Bool)) : ((c.feFlip n l).feTblRead n).2 =
    if ((c.feFlip n l).fe n).tblEcc (c.f (F.feTblAddrBank n)) (c.f (F.feTblAddrIndex n)) = some true then 0xFFFFFFFF#32
    else (c.fe n).tblGet (c.f (F.feTblAddrBank n)) (c.f (F.feTblAddrIndex n)) := by
  rw [← c.feFlip_tblGet l]
  rfl

/-! ### The check (R141) -/

/-- GO starts the computation over the bank that the write names and clears DONE and STALE. -/
theorem Chip.feChkWritten_go {v : Word} (hl : n < c.fes.length) (h : bitAt v 31 = true) :
    ((c.feChkWritten n v).fe n).chk = some (getBits v 28 1) ∧ (c.feChkWritten n v).f (F.feTblChkDone n) = 0
      ∧ (c.feChkWritten n v).f (F.feTblChkStale n) = 0 ∧ (c.feChkWritten n v).out = c.out := by
  rw [Chip.feChkWritten, if_pos h]
  refine ⟨congrArg FeS.chk (c.fe_modFe hl _), ?_, Chip.f_setF_self _ 0 (by simp [F.feTblChkStale]), rfl⟩
  rw [Chip.f_setF_disjoint _ _ (by simp [F.feTblChkDone, F.feTblChkStale])]
  exact Chip.f_setF_self _ 0 (by simp [F.feTblChkDone])

/-- The bank that a write names is the same with GO set. -/
theorem getBits_force_go (n : Nat) (v : Word) : getBits (force (F.feTblChkGo n) 1 v) 28 1 = getBits v 28 1 :=
  getBits_putBits_disjoint v 1 (lo := 31) (width := 1) (by decide)

variable {c}

theorem Chip.feChkDone_eq {d : Nat} (h : (c.fe n).chk = some d) : c.feChkDone n =
    ((c.modFe n fun s => { s with chk := none }).wr (R.feTblCrc n) ((c.fe n).tblCrc d)).setF (F.feTblChkDone n) 1 := by
  rw [Chip.feChkDone, h]

/-- The end of the computation shows DONE and the check value of the bank that the check ran over. -/
theorem Chip.feChkDone_shows {d : Nat} (hl : n < c.fes.length) (h : (c.fe n).chk = some d) :
    ((c.feChkDone n).fe n).chk = none ∧ (c.feChkDone n).f (F.feTblChkDone n) = 1
      ∧ (c.feChkDone n).rd (R.feTblCrc n) = (c.fe n).tblCrc d ∧ c.Keeps (c.feChkDone n) [R.feTblCrc n, R.feTblChk n] := by
  have hmod : c.Keeps (c.modFe n fun s => { s with chk := none }) [R.feTblCrc n, R.feTblChk n] := Chip.Keeps.of_same rfl rfl
  rw [Chip.feChkDone_eq h]
  refine ⟨?_, Chip.f_setF_self _ 1 (by simp [F.feTblChkDone]), ?_, (hmod.wr (by simp)).setF (by simp [F.feTblChkDone])⟩
  · rw [Chip.fe_congr ((Chip.setF_fes ..).trans (Chip.wr_fes ..)), Chip.fe_modFe _ hl]
  · rw [Chip.rd_setF_ne _ _ (by simp only [F.feTblChkDone, R.feTblCrc, R.feTblChk]; omega), Chip.rd_wr_self]

end Table

/-! ### The commands -/

section Commands
variable {s : State} {src : Src} {n : Nat} (hn : n < 8)
include hn

theorem feTblDataRead_shows {flips : List (Nat × Bool)} (hr : s.chip.AllowsRead src (R.feTblData n)) :
    let b := s.chip.f (F.feTblAddrBank n)
    let i := s.chip.f (F.feTblAddrIndex n)
    Does (.feTblDataRead src ⟨n, flips⟩) s fun t => t.f (F.feTblAddrIndex n) = (i + 1) % 65536
      ∧ t.out = [.status (if ((s.chip.feFlip n flips).fe n).tblEcc b i = some true then 0xFFFFFFFF else ((s.chip.fe n).tblGet b i).toNat)]
      ∧ s.chip.Keeps t [R.feTblAddr n] := by
  intro b i
  have hread : (s.fresh.feFlip n flips).AllowsRead src (R.feTblData n) := by
    rw [Chip.AllowsRead, Chip.feFlip_accessChecks]
    exact hr
  refine Does.of_runIf (fun c => (c.feFlip n flips).readOp src (R.feTblData n)) rfl (by simpa using hn)
    (Chip.readOp_allowed hread) fun t ht ho _ => ?_
  rw [Chip.regView_feTblData _ hn] at ht ho
  refine ⟨?_, ?_, ?_⟩
  · exact (ht.f_reg (by simp) (feReg_ge n 0x4)).trans ((s.fresh.feFlip n flips).feNextIndex_index n)
  · rw [ho, Chip.feTblRead_value, apply_ite BitVec.toNat]
    rfl
  · have hflip : s.chip.Keeps (s.fresh.feFlip n flips) [R.feTblAddr n] := Chip.Keeps.of_same rfl rfl
    exact ((hflip.trans (Chip.feNextIndex_keeps _ n)).emit _).settled ht

variable (hl : n < s.chip.fes.length)
include hl

theorem feTableInitDone_ready (hr : s.chip.domainRuns 3 = true) :
    Does (.feTableInitDone n) s fun t => (t.fe n).initBusy = false ∧ s.chip.Keeps t [] :=
  Does.of_runIn (fun c => c.feInitDone n) rfl hr (by simpa using hn) rfl fun _ hd _ _ =>
    ⟨congrArg FeS.initBusy ((hd.fe n).trans (s.fresh.fe_modFe hl _)), hd.keeps rfl rfl []⟩

theorem feTblDataWrite_stores {v : Word} (hw : s.chip.Allows src (R.feTblData n) v) :
    let b := s.chip.f (F.feTblAddrBank n)
    let i := s.chip.f (F.feTblAddrIndex n)
    Does (.feTblDataWrite src n v) s fun t => (t.fe n).tblGet b i = v ∧ t.f (F.feTblAddrIndex n) = (i + 1) % 65536
      ∧ ((s.chip.fe n).chkOf = some b → t.f (F.feTblChkStale n) = 1)
      ∧ (∀ d j, j < 65536 → ¬(d = b ∧ j = i) → (t.fe n).tblGet d j = (s.chip.fe n).tblGet d j) ∧ t.out = [.status 0]
      ∧ s.chip.Keeps t [R.feTblAddr n, R.feTblChk n, R.scpSession] := by
  intro b i
  have hi : i < 65536 := s.chip.f_lt (F.feTblAddrIndex n)
  have hst := s.fresh.regStore_feTblData src v hn
  refine Does.of_writeIf rfl (by simpa using hn) hw fun t ht ho => ?_
  rw [hst] at ht ho
  have hfe : t.fe n = (s.chip.fe n).tblPut b i v := (ht.fe n).trans (s.fresh.feTblWrite_fe hl v)
  refine ⟨?_, ?_, fun hc => ?_, fun d j hj hne => ?_, ?_, ?_⟩
  · rw [hfe, FeS.tblGet_tblPut, if_pos rfl]
  · exact (ht.f_reg (by simp) (feReg_ge n 0x4)).trans (s.fresh.feTblWrite_index v)
  · exact (ht.f_reg (by simp) (feReg_ge n 0xC)).trans (s.fresh.feTblWrite_stale v hc)
  · rw [hfe, FeS.tblGet_tblPut, if_neg fun h => hne (tblKey_inj hi hj h)]
  · rw [ho, Chip.feTblWrite_out]
    rfl
  · have hkeep := (s.keeps_fresh _).trans (s.fresh.feTblWrite_keeps (n := n) v)
    exact (hkeep.mono (l' := [R.feTblAddr n, R.feTblChk n, R.scpSession]) (by simp +contextual [or_imp])).alike ht (by simp)

theorem feTblChkGo_starts {v : Word} (hw : s.chip.Allows src (R.feTblChk n) (force (F.feTblChkGo n) 1 v)) :
    Does (.feTblChkGo src n v) s fun t => (t.fe n).chk = some (getBits v 28 1) ∧ t.f (F.feTblChkDone n) = 0
      ∧ t.f (F.feTblChkStale n) = 0 ∧ t.out = [.status 0] := by
  obtain ⟨w, hst⟩ := s.fresh.regStore_feTblChk src (force (F.feTblChkGo n) 1 v) hn
  have hgo : bitAt (force (F.feTblChkGo n) 1 v) 31 = true := bitAt_force (x := F.feTblChkGo n) 1 v (by simp [F.feTblChkGo]) rfl
  obtain ⟨hchk, hdone, hstale, hout⟩ := (s.fresh.wr (R.feTblChk n) w).feChkWritten_go hl hgo
  refine Does.of_writeIf rfl (by simpa using hn) hw fun t ht ho => ?_
  rw [hst] at ht ho
  refine ⟨?_, (ht.f_reg (by simp) (feReg_ge n 0xC)).trans hdone, (ht.f_reg (by simp) (feReg_ge n 0xC)).trans hstale, ?_⟩
  · rw [ht.fe, hchk, getBits_force_go]
  · rw [ho, hout]
    rfl

theorem feTblChkDone_shows {d : Nat} (hr : s.chip.domainRuns 3 = true) (hc : (s.chip.fe n).chk = some d) :
    Does (.feTblChkDone n) s fun t => (t.fe n).chk = none ∧ t.f (F.feTblChkDone n) = 1
      ∧ t.rd (R.feTblCrc n) = crc32c ((List.range 65536).flatMap fun k => natBytesBE 4 ((s.chip.fe n).tblGet d k).toNat)
      ∧ s.chip.Keeps t [R.feTblCrc n, R.feTblChk n] := by
  obtain ⟨hchk, hdone, hcrc, hkeep⟩ := Chip.feChkDone_shows (c := s.fresh) hl hc
  refine Does.of_runIn (fun c => c.feChkDone n) rfl hr (by simpa using hn) rfl fun t ht _ _ => ⟨?_, ?_, ?_, ?_⟩
  · rw [ht.fe, hchk]
  · exact (ht.f_reg (by simp) (feReg_ge n 0xC)).trans hdone
  · rw [ht.rd_reg (a := R.feTblCrc n) (by simp) (feReg_ge n 0x10), hcrc, FeS.tblCrc_eq]
    rfl
  · exact ((s.keeps_fresh _).trans hkeep).settled ht

end Commands

/-- Settles O29: each command's effect on the table and its registers, and INDEX as the one key of an entry in its bank. -/
theorem correctionTable : Obligations.CorrectionTable := by
  intro s src n v hn hl
  exact ⟨feTableInitDone_ready hn hl, feTblDataWrite_stores hn hl, fun _ => feTblDataRead_shows hn,
    feTblChkGo_starts hn hl, fun _ hr hc => feTblChkDone_shows hn hl hr hc⟩

end Sys2Proof.Machine
end

section
/-! SUPPORT. Closing an expected line: its place among the closed ones, and what is counted and reported (R122, R124 to R126). -/

namespace Sys2Proof.Machine

/-- A front end after it closed its `k`-th expected line `l`, of `npix` pixels (R122, R124). -/
def FeS.close (s : FeS) (k npix : Nat) (l : ExpLine) : FeS :=
  let missing := l.covered == 0
  let no := (l.segs.head?.map (·.lineNo)).getD 0
  { s with
    exp := s.exp.eraseIdx k
    closed := closedIn ⟨l, missing, !missing && l.covered < npix, no⟩ s.closed
    lastClosed := match s.lastClosed with
      | some t => if sdiff32 l.trig t < 0 then some t else some l.trig
      | none => some l.trig
    lastNo := if missing then s.lastNo else some no }

section Fields
variable {s : FeS} {npix : Nat} {l : ExpLine}

/-- The closed line is the newest closed one, unless a newer one closed before it. -/
theorem FeS.close_lastClosed (k : Nat) (h : ∀ u, s.lastClosed = some u → 0 < sdiff32 l.trig u) :
    (s.close k npix l).lastClosed = some l.trig := by
  unfold FeS.close
  dsimp only
  split
  next t ht => exact if_neg (not_lt.2 (h t ht).le)
  next => rfl

/-- A line without a covered pixel closes missing. -/
theorem FeS.close_missing (k : Nat) (h : l.segs = []) : (s.close k npix l).closed = closedIn ⟨l, true, false, 0⟩ s.closed := by
  simp [FeS.close, ExpLine.covered, h]

/-- A line with every pixel covered closes complete. -/
theorem FeS.close_complete (k : Nat) (h : l.covered = npix) (h0 : 0 < npix) :
    ∃ no, (s.close k npix l).closed = closedIn ⟨l, false, false, no⟩ s.closed :=
  ⟨(l.segs.head?.map (·.lineNo)).getD 0, by
    simp only [FeS.close, h, beq_eq_false_iff_ne.2 h0.ne', lt_irrefl, decide_false, Bool.and_false]⟩

end Fields

variable (c : Chip) {n : Nat}

/-! ### The end of an in-flight disable (R237) -/

@[simp] theorem Chip.portOffClosed_fes (trig : Nat) : (c.portOffClosed n trig).fes = c.fes := by
  unfold Chip.portOffClosed
  split <;> rfl

@[simp] theorem Chip.portOffClosed_reports (trig : Nat) : (c.portOffClosed n trig).reports = c.reports := by
  unfold Chip.portOffClosed
  split <;> rfl

theorem Chip.portOffClosed_keeps (trig : Nat) : c.Keeps (c.portOffClosed n trig) [R.linkCtrl n, R.jobEvt] := by
  refine .ite (fun _ => ?_) fun _ => .refl c _
  exact (((Chip.Keeps.refl c _).setF (x := F.linkCtrlExpected n) (by simp [F.linkCtrlExpected])).ev
    (x := F.jobEvtPortOff) (by simp [F.jobEvtPortOff])).same rfl rfl

variable {c}

/-! ### The line that closes -/

/-- Of the front ends, closing a line changes its own alone. -/
theorem Chip.feCloseAt_fes {k : Nat} {l : ExpLine} (h : (c.fe n).exp[k]? = some l) :
    (c.feCloseAt n k).fes = (c.modFe n fun s => s.close k (c.lineNpix n l.bank) l).fes := by
  unfold Chip.feCloseAt
  rw [h]
  dsimp only
  rw [Chip.portOffClosed_fes, apply_ite Chip.fes, Chip.report_fes, ite_self]
  have hcount : ∀ (p q : Prop) [Decidable p] [Decidable q] (d : Chip),
      (if p then d.inc (F.feMissCntCount n) else if q then d.inc (F.fePartCntCount n) else d).fes = d.fes := fun p q _ _ d => by
    rw [apply_ite Chip.fes, apply_ite Chip.fes, Chip.inc_fes, Chip.inc_fes, ite_self, ite_self]
  split
  · rw [apply_ite Chip.fes, Chip.add_fes, ite_self]
    exact hcount ..
  · exact hcount ..

theorem Chip.feClose_fe {l : ExpLine} {ls : List ExpLine} (hl : n < c.fes.length) (h : (c.fe n).exp = l :: ls) :
    (c.feClose n).fe n = (c.fe n).close 0 (c.lineNpix n l.bank) l :=
  (Chip.fe_congr (Chip.feCloseAt_fes (by rw [h]; rfl)) n).trans (c.fe_modFe hl _)

/-- A line without segments is counted missing, and reported where the job expects the port (R126). -/
theorem Chip.feClose_missing {l : ExpLine} {ls : List ExpLine} (h : (c.fe n).exp = l :: ls) (hs : l.segs = []) :
    ∃ d : Chip, d.regs = c.regs ∧ c.feClose n =
      (if (d.inc (F.feMissCntCount n)).fb (F.linkCtrlExpected n) then (d.inc (F.feMissCntCount n)).report 0x05 n
        else d.inc (F.feMissCntCount n)).portOffClosed n l.trig := by
  have hcov : (l.covered == 0) = true := by rw [ExpLine.covered, hs]; rfl
  refine ⟨c.modFe n fun s => s.close 0 (c.lineNpix n l.bank) l, rfl, ?_⟩
  unfold Chip.feClose Chip.feCloseAt FeS.close
  rw [h]
  dsimp only [List.getElem?_cons_zero]
  rw [hcov]
  rfl

/-- A line without segments that closes: its count and its report. -/
theorem Chip.feClose_missing_shows {l : ExpLine} {ls : List ExpLine} (h : (c.fe n).exp = l :: ls) (hs : l.segs = []) :
    (c.feClose n).f (F.feMissCntCount n) = satAdd (F.feMissCntCount n).width (c.f (F.feMissCntCount n)) 1
      ∧ (c.fb (F.linkCtrlExpected n) = true → ⟨0x05, n, false⟩ ∈ (c.feClose n).reports) := by
  obtain ⟨d, hregs, heq⟩ := Chip.feClose_missing h hs
  have hexp : (d.inc (F.feMissCntCount n)).fb (F.linkCtrlExpected n) = c.fb (F.linkCtrlExpected n) := by
    rw [Chip.inc_def, Chip.fb_setF_disjoint _ _
      (Or.inl (by simp only [F.linkCtrlExpected, F.feMissCntCount, R.linkCtrl, R.feMissCnt]; omega)), Chip.fb_eq, Chip.fb_eq,
      Chip.f_congr hregs]
  rw [heq]
  refine ⟨?_, fun he => ?_⟩
  · rw [(Chip.portOffClosed_keeps _ _).f
      (by simp only [F.feMissCntCount, R.feMissCnt, R.linkCtrl, R.jobEvt, List.mem_cons, List.not_mem_nil, or_false]; omega)
      (reg_ne_scp (feReg_ge n 0x24)).1, apply_ite (Chip.f · _), Chip.report_f, ite_self,
      Chip.f_inc_self _ (by simp [F.feMissCntCount]), Chip.f_congr hregs]
  · rw [Chip.portOffClosed_reports, if_pos (hexp.trans he)]
    exact List.mem_append_right _ (List.mem_singleton_self _)

end Sys2Proof.Machine
end

section
/-! Segments of head lines and the lines that close (R120 to R126). -/

namespace Sys2Proof.Machine

section Segments
variable {c : Chip} {n : Nat} {bytes : List Byte} {rest : List (List Byte)}

/-! ### The next segment (R121, R123) -/

/-- The next packet leaves the input FIFO. -/
def Chip.fePop (c : Chip) (n : Nat) (rest : List (List Byte)) : Chip := c.modFe n fun s => { s with fifo := rest }

/-- A segment joins the oldest expected line. -/
def Chip.feJoin (c : Chip) (n : Nat) (l : ExpLine) (ls : List ExpLine) (g : Seg) : Chip :=
  c.modFe n fun s => { s with exp := { l with segs := l.segs ++ [g] } :: ls }

theorem Chip.fePop_fe (hl : n < c.fes.length) : (c.fePop n rest).fe n = { c.fe n with fifo := rest } := c.fe_modFe hl _

/-- A segment of a closed line, or of one older than a closed line, is discarded. -/
theorem Chip.feSegment_late {u : Nat} (h : (c.fe n).fifo = bytes :: rest) (hu : (c.fe n).lastClosed = some u)
    (hs : sdiff32 (fieldBE bytes 12 4) u ≤ 0) : c.feSegment n = (c.fePop n rest).inc (F.feLateCntCount n) := by
  have hlast : ((c.fePop n rest).fe n).lastClosed = some u := (c.fe_modFe_keeps (·.lastClosed) (fun _ => by rfl) n n).trans hu
  unfold Chip.fePop at hlast ⊢
  unfold Chip.feSegment
  rw [h]
  dsimp only
  rw [hlast]
  exact if_pos (decide_eq_true hs)

section Newer
variable (hl : n < c.fes.length) (h : (c.fe n).fifo = bytes :: rest)
  (hnew : ∀ u, (c.fe n).lastClosed = some u → 0 < sdiff32 (fieldBE bytes 12 4) u)
include hl h hnew

/-- A segment of no expected line is discarded. -/
theorem Chip.feSegment_unexpected (hx : ((c.fe n).exp.findIdx? fun l => l.trig == fieldBE bytes 12 4) = none) :
    c.feSegment n = (c.fePop n rest).inc (F.feUnexpCntCount n) := by
  have hfe := Chip.fePop_fe (rest := rest) hl
  unfold Chip.fePop at hfe ⊢
  unfold Chip.feSegment
  rw [h]
  dsimp only
  rw [hfe]
  dsimp only
  rw [hx, if_neg]
  split
  next u hu => simpa using hnew u hu
  next => simp

/-- A segment of the oldest expected line overlaps what is covered, or joins the line, which closes with its last pixel. -/
theorem Chip.feSegment_oldest {l : ExpLine} {ls : List ExpLine} (hx : (c.fe n).exp = l :: ls) (ht : l.trig = fieldBE bytes 12 4) :
    c.feSegment n =
      if (l.segs.any fun g => g.overlaps (segOf bytes)) = true then (c.fePop n rest).inc (F.feDupCntCount n)
      else if l.covered + (segOf bytes).px.length = c.lineNpix n l.bank then
        ((c.fePop n rest).feJoin n l ls (segOf bytes)).feClose n
      else (c.fePop n rest).feJoin n l ls (segOf bytes) := by
  have hfe := Chip.fePop_fe (rest := rest) hl
  have hidx : ((l :: ls).findIdx? fun l => l.trig == fieldBE bytes 12 4) = some 0 := by
    rw [List.findIdx?_cons, if_pos (beq_iff_eq.2 ht)]
  unfold Chip.feJoin
  unfold Chip.fePop at hfe ⊢
  unfold Chip.feSegment
  rw [h]
  dsimp only
  rw [hfe]
  dsimp only
  rw [hx, hidx, if_neg]
  · dsimp only [Chip.feCloseN]
    rw [hfe]
    dsimp only
    rw [hx]
    rfl
  split
  next u hu => simpa using hnew u hu
  next => simp

end Newer

/-! ### Deadlines and triggers that were not sent (R124) -/

/-- Of the expected lines the oldest alone is past its deadline: it closes. -/
theorem Chip.feDeadline_oldest {l : ExpLine} {ls : List ExpLine} (hx : (c.fe n).exp = l :: ls) (he : c.lineExpired n l = true)
    (hls : ∀ k ∈ ls, c.lineExpired n k = false) : c.feDeadline n = c.feClose n := by
  have hfilter : (l :: ls).filter (c.lineExpired n) = [l] := by
    rw [List.filter_cons_of_pos he, List.filter_eq_nil_iff.2 fun k hk => by simp [hls k hk]]
  have hidx : ((l :: ls).findIdx? fun k => k.trig == l.trig) = some 0 := by
    rw [List.findIdx?_cons, if_pos (beq_self_eq_true _)]
  rw [Chip.feDeadline, hx, hfilter]
  simp only [Chip.each, List.map_cons, List.map_nil, List.foldl_cons, List.foldl_nil, hx, hidx]
  rfl

theorem Chip.feCloseNotSent_oldest {l : ExpLine} {ls : List ExpLine} (hx : (c.fe n).exp = l :: ls) (hs : l.notSent = true) :
    c.feCloseNotSent n = c.feClose n := by
  rw [Chip.feCloseNotSent, hx]
  exact if_pos hs

end Segments

/-! ### The commands -/

section Commands
variable {s : State} {n : Nat} {bytes : List Byte} {rest : List (List Byte)} {l : ExpLine} {ls : List ExpLine}
  (hn : n < 8) (hl : n < s.chip.fes.length) (hr : s.chip.domainRuns 3 = true)
include hn hl hr

/-- A segment that is discarded leaves the FIFO and is counted. -/
theorem feSegmentRx_discarded {x : Fld} (hx : 0x10000 ≤ x.addr) (hw : x.lo + x.width ≤ 32)
    (h : s.fresh.feSegment n = (s.fresh.fePop n rest).inc x) :
    Does (.feSegmentRx n) s fun t => (t.fe n).fifo = rest ∧ (t.fe n).exp = (s.chip.fe n).exp
      ∧ t.f x = satAdd x.width (s.chip.f x) 1 ∧ s.chip.Keeps t [x.addr] := by
  have hcount : s.fresh.Counts ((s.fresh.fePop n rest).inc x) x [] := Chip.Keeps.counts (Chip.Keeps.of_same rfl rfl) rfl hw
  refine Does.of_runIn (fun c => c.feSegment n) rfl hr (by simpa using hn) h fun t ht _ _ => ?_
  have hfe : t.fe n = { s.chip.fe n with fifo := rest } := (ht.fe n).trans (Chip.fePop_fe (c := s.fresh) hl)
  rw [hfe]
  exact ⟨rfl, rfl, (ht.f_reg (by simp) hx).trans hcount.count, ((s.keeps_fresh _).trans hcount.keeps).settled ht⟩

section Joined
variable (h : (s.chip.fe n).fifo = bytes :: rest) (hx : (s.chip.fe n).exp = l :: ls) (ht : l.trig = fieldBE bytes 12 4)
  (hnew : ∀ u, (s.chip.fe n).lastClosed = some u → 0 < sdiff32 (fieldBE bytes 12 4) u)
  (ho : (l.segs.any fun g => g.overlaps (segOf bytes)) = false)
include h hx ht hnew ho

theorem feSegmentRx_joins (hp : l.covered + (segOf bytes).px.length ≠ s.chip.lineNpix n l.bank) :
    Does (.feSegmentRx n) s fun t => (t.fe n).exp = { l with segs := l.segs ++ [segOf bytes] } :: ls ∧ s.chip.Keeps t [] := by
  have hseg := (Chip.feSegment_oldest (c := s.fresh) hl h hnew hx ht).trans
    ((if_neg (ne_true_of_eq_false ho)).trans (if_neg hp))
  exact Does.of_runIn (fun c => c.feSegment n) rfl hr (by simpa using hn) hseg fun t ht _ _ =>
    ⟨congrArg FeS.exp ((ht.fe n).trans (Chip.fe_modFe _ (hl.trans_eq (Chip.modFe_fes_length ..).symm) _)), ht.keeps rfl rfl []⟩

theorem feSegmentRx_completes (hp : l.covered + (segOf bytes).px.length = s.chip.lineNpix n l.bank)
    (h0 : 0 < l.covered + (segOf bytes).px.length) :
    Does (.feSegmentRx n) s fun t => (t.fe n).exp = ls ∧ (t.fe n).lastClosed = some (fieldBE bytes 12 4)
      ∧ ∃ no, (t.fe n).closed = closedIn ⟨{ l with segs := l.segs ++ [segOf bytes] }, false, false, no⟩ (s.chip.fe n).closed := by
  have hseg := (Chip.feSegment_oldest (c := s.fresh) hl h hnew hx ht).trans
    ((if_neg (ne_true_of_eq_false ho)).trans (if_pos hp))
  have hlen : n < (s.fresh.fePop n rest).fes.length := hl.trans_eq (Chip.modFe_fes_length ..).symm
  have hjoin : ((s.fresh.fePop n rest).feJoin n l ls (segOf bytes)).fe n =
      { s.chip.fe n with fifo := rest, exp := { l with segs := l.segs ++ [segOf bytes] } :: ls } := by
    rw [Chip.feJoin, Chip.fe_modFe _ hlen, Chip.fePop_fe (c := s.fresh) hl]
    rfl
  have hclose := Chip.feClose_fe (c := (s.fresh.fePop n rest).feJoin n l ls (segOf bytes)) (n := n)
    (hlen.trans_eq (Chip.modFe_fes_length ..).symm) (congrArg FeS.exp hjoin)
  have hcov : ({ l with segs := l.segs ++ [segOf bytes] } : ExpLine).covered = s.chip.lineNpix n l.bank := by
    rw [← hp]
    simp [ExpLine.covered]
  refine Does.of_runIn (fun c => c.feSegment n) rfl hr (by simpa using hn) hseg fun t ht' _ _ => ?_
  rw [ht'.fe, hclose, hjoin]
  exact ⟨rfl, (FeS.close_lastClosed 0 (by rw [ht]; exact hnew)).trans (congrArg some ht),
    FeS.close_complete 0 hcov (hp ▸ h0)⟩

end Joined

/-- The oldest line, without segments, closes by its deadline or because its TRIG was not sent. -/
theorem closes_missing {i : Instr} {f : Chip → Chip} (hi : exec i s = runIn s 3 (n < 8) f) (hx : (s.chip.fe n).exp = l :: ls)
    (hs : l.segs = []) (hf : f s.fresh = s.fresh.feClose n) :
    Does i s fun t => (t.fe n).exp = ls ∧ (t.fe n).closed = closedIn ⟨l, true, false, 0⟩ (s.chip.fe n).closed
      ∧ t.f (F.feMissCntCount n) = satAdd (F.feMissCntCount n).width (s.chip.f (F.feMissCntCount n)) 1
      ∧ (s.chip.fb (F.linkCtrlExpected n) = true → ⟨0x05, n, false⟩ ∈ t.reports) := by
  obtain ⟨hcount, hreport⟩ := Chip.feClose_missing_shows (c := s.fresh) hx hs
  have hfe := Chip.feClose_fe (c := s.fresh) hl hx
  refine Does.of_runIn f hi hr (by simpa using hn) hf fun t ht _ _ => ?_
  rw [ht.fe, hfe, ht.reports]
  exact ⟨(congrArg (List.eraseIdx · 0) hx).trans rfl, FeS.close_missing 0 hs, (ht.f_reg (by simp) (feReg_ge n 0x24)).trans hcount,
    hreport⟩

end Commands

end Sys2Proof.Machine
end

section
/-! Hand-over of head lines to the stitcher (R119, R131, R135, R137). -/

namespace Sys2Proof.Machine

section Handover
variable (c : Chip) {n : Nat}

/-! ### The counts of a line -/

/-- Reports leave all else as it is. -/
theorem Chip.reports_eq (l : List Nat) (src inst : Nat) :
    ∃ rs, l.foldl (fun c _ => Chip.report c src inst) c = { c with reports := rs } := by
  induction l generalizing c with
  | nil => exact ⟨c.reports, rfl⟩
  | cons _ _ ih => exact ih (c.report src inst)

theorem Chip.Keeps.reported {c t : Chip} {l : List Nat} (h : c.Keeps t l) (rs : List Report) : c.Keeps { t with reports := rs } l :=
  h.same rfl rfl

theorem Chip.reported_inc_f (rs : List Report) (x y : Fld) : (({ c with reports := rs } : Chip).inc x).f y = (c.inc x).f y := rfl

theorem Chip.feRelease_keeps (n : Nat) : c.Keeps (c.feRelease n) [R.feStat n] :=
  .ite (fun _ => (Chip.Keeps.refl c _).setF (List.mem_singleton_self _)) fun _ => .refl c _

theorem Chip.feRelease_fes (n : Nat) : (c.feRelease n).fes = c.fes := by
  unfold Chip.feRelease
  split <;> rfl

theorem Chip.feRelease_stc (n : Nat) : (c.feRelease n).stc = c.stc := by
  unfold Chip.feRelease
  split <;> rfl

/-- The counts of the entries read, of saturated samples and of pixels without data (R127, R131, R137). -/
def Chip.feAdded (c : Chip) (n corr unc sat nd : Nat) : Chip :=
  (((c.add (F.feEccCorrCount n) corr).add (F.feEccUncCount n) unc).add (F.feSatCntCount n) sat).add (F.feNdpxCntCount n) nd

/-- The same with the reports of uncorrectable entries, the count of lines and the release of the old bank. -/
def Chip.feCounted (c : Chip) (n corr unc sat nd : Nat) : Chip :=
  (((List.range unc).foldl (fun c _ => c.report 0x10 n) (c.feAdded n corr unc sat nd)).inc (F.feLineOutCount n)).feRelease n

/-- The registers that count lines handed over. -/
def feCountRegs (n : Nat) : List Nat := [R.feStat n, R.feEccCorr n, R.feEccUnc n, R.feSatCnt n, R.feNdpxCnt n, R.feLineOut n]

theorem feCountRegs_offset {a : Nat} (h : a ∈ feCountRegs n) : ∃ off < 0x400, a = 0x200000 + n * 0x2000 + off := by
  simp only [feCountRegs, R.feStat, R.feEccCorr, R.feEccUnc, R.feSatCnt, R.feNdpxCnt, R.feLineOut, List.mem_cons,
    List.not_mem_nil, or_false] at h
  exact ⟨a - (0x200000 + n * 0x2000), by omega, by omega⟩

variable (corr unc sat nd : Nat)

theorem Chip.feAdded_keeps : c.Keeps (c.feAdded n corr unc sat nd) (feCountRegs n) :=
  ((((Chip.Keeps.refl c _).add (by simp [F.feEccCorrCount, feCountRegs])).add (by simp [F.feEccUncCount, feCountRegs])).add
    (by simp [F.feSatCntCount, feCountRegs])).add (by simp [F.feNdpxCntCount, feCountRegs])

/-- What becomes of a line touches the registers of the counts and the reports alone. -/
theorem Chip.feCounted_shows : (c.feCounted n corr unc sat nd).fes = c.fes ∧ (c.feCounted n corr unc sat nd).stc = c.stc
    ∧ c.Keeps (c.feCounted n corr unc sat nd) (feCountRegs n)
    ∧ ∀ x : Fld, x.addr ≠ R.feStat n → x.addr ≠ R.scpSum →
      (c.feCounted n corr unc sat nd).f x = ((c.feAdded n corr unc sat nd).inc (F.feLineOutCount n)).f x := by
  obtain ⟨rs, hrs⟩ := Chip.reports_eq (c.feAdded n corr unc sat nd) (List.range unc) 0x10 n
  have hreported : c.Keeps { c.feAdded n corr unc sat nd with reports := rs } (feCountRegs n) :=
    (c.feAdded_keeps corr unc sat nd).reported rs
  rw [Chip.feCounted, hrs]
  refine ⟨?_, ?_, ?_, fun x hx h0 => ?_⟩
  · rw [Chip.feRelease_fes]
    rfl
  · rw [Chip.feRelease_stc]
    rfl
  · exact (hreported.inc (by simp [F.feLineOutCount, feCountRegs])).trans
      ((Chip.feRelease_keeps _ n).mono (by simp [feCountRegs]))
  · rw [(Chip.feRelease_keeps _ n).f (by simpa using hx) h0, Chip.reported_inc_f]

/-- Each count of a line adds to a register of its own. -/
theorem Chip.feCounted_counts :
    (c.feCounted n corr unc sat nd).f (F.feLineOutCount n) = satAdd (F.feLineOutCount n).width (c.f (F.feLineOutCount n)) 1
    ∧ (c.feCounted n corr unc sat nd).f (F.feEccCorrCount n) = satAdd (F.feEccCorrCount n).width (c.f (F.feEccCorrCount n)) corr
    ∧ (c.feCounted n corr unc sat nd).f (F.feEccUncCount n) = satAdd (F.feEccUncCount n).width (c.f (F.feEccUncCount n)) unc
    ∧ (c.feCounted n corr unc sat nd).f (F.feSatCntCount n) = satAdd (F.feSatCntCount n).width (c.f (F.feSatCntCount n)) sat := by
  obtain ⟨-, -, -, hf⟩ := c.feCounted_shows (n := n) corr unc sat nd
  refine ⟨?_, ?_, ?_, ?_⟩ <;>
    simp (disch := (simp only [F.feLineOutCount, F.feEccCorrCount, F.feEccUncCount, F.feSatCntCount, F.feNdpxCntCount, R.feStat,
      R.feLineOut, R.feEccCorr, R.feEccUnc, R.feSatCnt, R.feNdpxCnt, R.scpSum]; omega)) only
      [hf, Chip.inc, Chip.feAdded, Chip.f_add_self, Chip.f_add_ne]

end Handover

/-! ### The line that leaves (R125, R135, R137) -/

section Leaving
variable {c : Chip} {n : Nat} {l : ClosedLine} {rest : List ClosedLine}

/-- The pixels of a line: corrected, cropped and binned (R127 to R135). -/
def Chip.fePixels (c : Chip) (n : Nat) (l : ExpLine) : List Px :=
  let crop := ((c.feCorrect n l).1.drop (c.f (F.feCropStart l.bank n))).take (c.f (F.feCropLen l.bank n))
  binLine (c.feBin l.bank n) (crop.length / c.feBin l.bank n) crop

/-- The device after it handed over a line but for the stitcher's share. -/
def Chip.feHanded (c : Chip) (n : Nat) (l : ClosedLine) (rest : List ClosedLine) : Chip :=
  let fixed := c.feCorrect n l.line
  (c.modFe n fun s => { s with closed := rest, prev := fixed.1 }).feCounted n fixed.2.1 fixed.2.2.1 fixed.2.2.2
    ((c.fePixels n l.line).filter (·.nd)).length

/-- The line as the stitcher takes it, with its descriptor (R137). -/
def Chip.feLine (c d : Chip) (n : Nat) (l : ClosedLine) : StcLine :=
  ⟨n, l.line.trig, l.lineNo, l.line.bank, l.missing, l.partial_, ((c.fePixels n l.line).filter (·.nd)).length,
    d.f (F.feCropStart l.line.bank n), d.f (F.feCropLen l.line.bank n), c.feBin l.line.bank n, c.fePixels n l.line⟩

theorem Chip.feHandover_waits (h : (c.fe n).closed = l :: rest) (hw : (c.fe n).waits l = true) : c.feHandover n = c := by
  rw [Chip.feHandover, h]
  exact if_pos hw

theorem Chip.feHandover_leaves (h : (c.fe n).closed = l :: rest) (hw : (c.fe n).waits l = false) :
    c.feHandover n = { c.feHanded n l rest with
      stc := { (c.feHanded n l rest).stc with
        lines := (c.feHanded n l rest).stc.lines ++ [c.feLine (c.feHanded n l rest) n l] } } := by
  rw [Chip.feHandover, h]
  exact if_neg (ne_true_of_eq_false hw)

/-- The hand-over leaves the crop of the line as it was. -/
theorem Chip.feHanded_crop {x : Fld} (hx : x.addr = R.feCrop l.line.bank n) : (c.feHanded n l rest).f x = c.f x := by
  obtain ⟨-, -, hkeep, -⟩ := (c.modFe n fun s => { s with closed := rest, prev := (c.feCorrect n l.line).1 }).feCounted_shows
    (n := n) (c.feCorrect n l.line).2.1 (c.feCorrect n l.line).2.2.1 (c.feCorrect n l.line).2.2.2
    ((c.fePixels n l.line).filter (·.nd)).length
  refine hkeep.f (fun hm => ?_) (by rw [hx]; unfold R.feCrop R.scpSum; omega)
  obtain ⟨off, ho, ha⟩ := feCountRegs_offset hm
  rw [hx] at ha
  unfold R.feCrop at ha
  omega

theorem Chip.feHanded_shows (hl : n < c.fes.length) :
    let fixed := c.feCorrect n l.line
    (c.feHanded n l rest).fe n = { c.fe n with closed := rest, prev := fixed.1 } ∧ (c.feHanded n l rest).stc = c.stc
    ∧ (c.feHanded n l rest).f (F.feLineOutCount n) = satAdd (F.feLineOutCount n).width (c.f (F.feLineOutCount n)) 1
    ∧ (c.feHanded n l rest).f (F.feEccCorrCount n) = satAdd (F.feEccCorrCount n).width (c.f (F.feEccCorrCount n)) fixed.2.1
    ∧ (c.feHanded n l rest).f (F.feEccUncCount n) = satAdd (F.feEccUncCount n).width (c.f (F.feEccUncCount n)) fixed.2.2.1
    ∧ (c.feHanded n l rest).f (F.feSatCntCount n) = satAdd (F.feSatCntCount n).width (c.f (F.feSatCntCount n)) fixed.2.2.2 := by
  intro fixed
  obtain ⟨hfes, hstc, -⟩ := (c.modFe n fun s => { s with closed := rest, prev := fixed.1 }).feCounted_shows (n := n)
    fixed.2.1 fixed.2.2.1 fixed.2.2.2 ((c.fePixels n l.line).filter (·.nd)).length
  exact ⟨(Chip.fe_congr hfes n).trans (c.fe_modFe hl _), hstc, Chip.feCounted_counts ..⟩

end Leaving

/-! ### The command -/

section Command
variable {s : State} {n : Nat} {l : ClosedLine} {rest : List ClosedLine} {flips : List (Nat × Bool)}

/-- What was sent before does not matter to the correction of a line. -/
theorem State.fresh_feCorrect (s : State) (n : Nat) (flips : List (Nat × Bool)) (l : ExpLine) :
    (s.fresh.feFlip n flips).feCorrect n l = (s.chip.feFlip n flips).feCorrect n l := (rfl)

/-- Errors in the table change none of the lines of a front end. -/
theorem Chip.feFlip_closed (c : Chip) : ((c.feFlip n flips).fe n).closed = (c.fe n).closed :=
  c.fe_modFe_keeps (·.closed) (fun _ => by rfl) n n

theorem Chip.feFlip_waits (c : Chip) (l : ClosedLine) : ((c.feFlip n flips).fe n).waits l = (c.fe n).waits l :=
  c.fe_modFe_keeps (·.waits l) (fun _ => by rfl) n n

variable (hn : n < 8) (hr : s.chip.domainRuns 3 = true) (h : (s.chip.fe n).closed = l :: rest)
include hn hr h

theorem feLineHandover_waits (hw : (s.chip.fe n).waits l = true) :
    Does (.feLineHandover ⟨n, flips⟩) s fun t => (t.fe n).closed = (s.chip.fe n).closed ∧ t.stc.lines = s.chip.stc.lines
      ∧ s.chip.Keeps t [] := by
  refine Does.of_runIn (fun c => (c.feFlip n flips).feHandover n) rfl hr (by simpa using hn)
    (Chip.feHandover_waits ((Chip.feFlip_closed _).trans h) ((Chip.feFlip_waits _ l).trans hw)) fun t ht _ _ => ?_
  rw [ht.fe, ht.stc]
  exact ⟨Chip.feFlip_closed _, rfl, ht.keeps rfl rfl []⟩

variable (hl : n < s.chip.fes.length)
include hl

theorem feLineHandover_leaves (hw : (s.chip.fe n).waits l = false) :
    let c := s.chip.feFlip n flips
    let fixed := c.feCorrect n l.line
    Does (.feLineHandover ⟨n, flips⟩) s fun t => (t.fe n).closed = rest ∧ (t.fe n).prev = fixed.1
      ∧ t.stc.lines = s.chip.stc.lines ++ [c.feLine c n l]
      ∧ t.f (F.feLineOutCount n) = satAdd (F.feLineOutCount n).width (s.chip.f (F.feLineOutCount n)) 1
      ∧ t.f (F.feEccCorrCount n) = satAdd (F.feEccCorrCount n).width (s.chip.f (F.feEccCorrCount n)) fixed.2.1
      ∧ t.f (F.feEccUncCount n) = satAdd (F.feEccUncCount n).width (s.chip.f (F.feEccUncCount n)) fixed.2.2.1
      ∧ t.f (F.feSatCntCount n) = satAdd (F.feSatCntCount n).width (s.chip.f (F.feSatCntCount n)) fixed.2.2.2 := by
  intro c fixed
  have hflip : n < (s.fresh.feFlip n flips).fes.length := hl.trans_eq (Chip.modFe_fes_length ..).symm
  have hleaves := Chip.feHandover_leaves (c := s.fresh.feFlip n flips) ((Chip.feFlip_closed _).trans h)
    ((Chip.feFlip_waits _ l).trans hw)
  obtain ⟨hown, hstc, hout, hcorr, hunc, hsat⟩ := Chip.feHanded_shows (l := l) (rest := rest) hflip
  rw [s.fresh_feCorrect] at hown hcorr hunc hsat
  have hline : (s.fresh.feFlip n flips).feLine ((s.fresh.feFlip n flips).feHanded n l rest) n l = c.feLine c n l := by
    rw [Chip.feLine, Chip.feHanded_crop rfl, Chip.feHanded_crop rfl]
    rfl
  rw [hline, hstc] at hleaves
  refine Does.of_runIn (fun c => (c.feFlip n flips).feHandover n) rfl hr (by simpa using hn) hleaves fun t ht _ _ => ?_
  have hcount : ∀ {off : Nat}, t.f ⟨0x200000 + n * 0x2000 + off, 0, 32⟩ =
      ((s.fresh.feFlip n flips).feHanded n l rest).f ⟨0x200000 + n * 0x2000 + off, 0, 32⟩ := fun {off} =>
    ht.f_reg (by simp) (feReg_ge n off)
  have hfront := (ht.fe n).trans hown
  rw [ht.stc]
  exact ⟨congrArg FeS.closed hfront, congrArg FeS.prev hfront, rfl, hcount.trans hout, hcount.trans hcorr, hcount.trans hunc,
    hcount.trans hsat⟩

end Command

/-- Settles O28: a packet is discarded, or joins the oldest line; a line closes complete or missing; and the oldest closed line
waits for an older one or leaves. -/
theorem frontEnd : Obligations.FrontEnd := by
  intro s n hn hl hr
  refine ⟨fun bytes rest h => ⟨fun hx hnew => ?_, fun u _ hu hs => ?_, fun l ls hx ht hnew => ⟨fun ho => ?_, fun ho =>
    ⟨?_, ?_⟩⟩⟩, fun l ls hx hs => ⟨fun he hls => ?_, fun hns => ?_⟩, fun flips l rest h => ⟨?_, ?_⟩⟩
  · exact feSegmentRx_discarded hn hl hr (feReg_ge n 0x34) (by simp [F.feUnexpCntCount])
      (Chip.feSegment_unexpected (c := s.fresh) hl h hnew hx)
  · exact feSegmentRx_discarded hn hl hr (feReg_ge n 0x2C) (by simp [F.feLateCntCount])
      (Chip.feSegment_late (c := s.fresh) h hu hs)
  · exact feSegmentRx_discarded hn hl hr (feReg_ge n 0x30) (by simp [F.feDupCntCount])
      ((Chip.feSegment_oldest (c := s.fresh) hl h hnew hx ht).trans (if_pos ho))
  · exact feSegmentRx_joins hn hl hr h hx ht hnew ho
  · exact feSegmentRx_completes hn hl hr h hx ht hnew ho
  · exact closes_missing hn hl hr (f := fun c => c.feDeadline n) rfl hx hs (Chip.feDeadline_oldest hx he hls)
  · exact closes_missing hn hl hr (f := fun c => c.feCloseNotSent n) rfl hx hs (Chip.feCloseNotSent_oldest hx hns)
  · exact feLineHandover_waits hn hr h
  · exact feLineHandover_leaves hn hr h hl

end Sys2Proof.Machine
end
